-- ==== Sys2Proof/Word.lean ====
section
/-! DEFINITION. The machine's words: bytes, and the 32-bit registers of the register bus (spec 00, R5,
R12: registers are 32 bits, accessed as aligned words). -/
namespace Sys2Proof

/-- One byte. -/
abbrev Byte := BitVec 8

/-- One 32-bit register. -/
abbrev Word := BitVec 32

end Sys2Proof
end

