-- ==== Sys2Proof/Machine/Layouts.lean ====
section
/-! DEFINITION. The record layouts of the manual's "Bits | Field | Meaning" tables: each field as the place it
has in its record (R5: bit 0 is the least significant bit). -/
namespace Sys2Proof.Machine

/-- A field of a record: its lowest bit and its width. -/
structure BitFld where
  lo : Nat
  width : Nat
  deriving DecidableEq, Repr

/-- The value of a field. -/
def BitFld.get (f : BitFld) {n : Nat} (w : BitVec n) : Nat :=
  w.toNat / 2 ^ f.lo % 2 ^ f.width

/-- A one-bit field as a truth value. -/
def BitFld.on (f : BitFld) {n : Nat} (w : BitVec n) : Bool := f.get w == 1

/-- A record with one field replaced; the value is taken modulo the field's width. -/
def BitFld.set (f : BitFld) {n : Nat} (w : BitVec n) (v : Nat) : BitVec n :=
  BitVec.ofNat n
    (w.toNat / 2 ^ (f.lo + f.width) * 2 ^ (f.lo + f.width)
      + v % 2 ^ f.width * 2 ^ f.lo + w.toNat % 2 ^ f.lo)

/-- Set several fields, left to right. -/
def setFields {n : Nat} (w : BitVec n) : List (BitFld × Nat) → BitVec n
  | [] => w
  | (f, v) :: fs => setFields (f.set w v) fs

/-- The bytes of a record, byte 0 first (R5: byte 0 holds bits 7 to 0). -/
def bytesOfNat : Nat → Nat → List Byte
  | 0, _ => []
  | k + 1, v => BitVec.ofNat 8 v :: bytesOfNat k (v / 256)

/-- The number a list of bytes spells, byte 0 lowest (R5). -/
def natOfBytes : List Byte → Nat
  | [] => 0
  | b :: bs => b.toNat + 256 * natOfBytes bs

/-- The number a list of bytes spells, first byte highest (network order). -/
def beOfBytes (bs : List Byte) : Nat := bs.foldl (fun a b => a * 256 + b.toNat) 0

/-- The bytes of a number, first byte highest (network order). -/
def bytesBE (k v : Nat) : List Byte := (bytesOfNat k v).reverse

/-! Table 2.5 (spec 02): 128 bits. -/
def EbbMsg.VERSION : BitFld := ⟨0, 8⟩
def EbbMsg.TYPE : BitFld := ⟨8, 8⟩
def EbbMsg.SEQ : BitFld := ⟨16, 16⟩
def EbbMsg.CUR_WIDTH : BitFld := ⟨32, 2⟩
def EbbMsg.TARGET_WIDTH : BitFld := ⟨34, 2⟩
def EbbMsg.EBB_CAP : BitFld := ⟨36, 1⟩
/-! Table 5.3 (spec 05): 14 bits. -/
def StackEntry.TYPE : BitFld := ⟨0, 6⟩
def StackEntry.OFFSET : BitFld := ⟨6, 8⟩
/-! Table 5.4 (spec 05): 256 bits. -/
def ParseRes.HDR (i : Nat) : BitFld := ⟨0 + 14 * i, 14⟩
def ParseRes.HDR_COUNT : BitFld := ⟨168, 4⟩
def ParseRes.OUTER_L3_IDX : BitFld := ⟨172, 4⟩
def ParseRes.OUTER_L4_IDX : BitFld := ⟨176, 4⟩
def ParseRes.TUNNEL_IDX : BitFld := ⟨180, 4⟩
def ParseRes.INNER_L3_IDX : BitFld := ⟨184, 4⟩
def ParseRes.INNER_L4_IDX : BitFld := ⟨188, 4⟩
def ParseRes.END_OFFSET : BitFld := ⟨192, 9⟩
def ParseRes.VLAN_COUNT : BitFld := ⟨201, 2⟩
def ParseRes.PARSE_DEEP : BitFld := ⟨203, 1⟩
def ParseRes.MALFORMED_L3 : BitFld := ⟨204, 1⟩
def ParseRes.MALFORMED_L4 : BitFld := ⟨205, 1⟩
def ParseRes.FRAG : BitFld := ⟨206, 1⟩
def ParseRes.FRAG_FIRST : BitFld := ⟨207, 1⟩
def ParseRes.INNER_FRAG : BitFld := ⟨208, 1⟩
def ParseRes.L3_CSUM : BitFld := ⟨209, 2⟩
def ParseRes.L4_CSUM : BitFld := ⟨211, 2⟩
def ParseRes.EXPRESS : BitFld := ⟨213, 1⟩
def ParseRes.EXPRESS_KIND : BitFld := ⟨214, 2⟩
def ParseRes.LEN_TYPE : BitFld := ⟨216, 1⟩
def ParseRes.TTL_LOW : BitFld := ⟨217, 1⟩
def ParseRes.IP_OPTIONS : BitFld := ⟨218, 1⟩
def ParseRes.STOP_UNKNOWN : BitFld := ⟨219, 1⟩
def ParseRes.INGRESS_PORT : BitFld := ⟨220, 7⟩
def ParseRes.PASS : BitFld := ⟨227, 1⟩
def ParseRes.IP_END : BitFld := ⟨228, 14⟩
def ParseRes.MALFORMED_IDX : BitFld := ⟨242, 4⟩
def ParseRes.MALFORMED_TUN : BitFld := ⟨246, 1⟩
/-! Table 6.2 (spec 06): 322 bits. -/
def RuleRow.VALUE : BitFld := ⟨0, 160⟩
def RuleRow.CARE : BitFld := ⟨160, 160⟩
def RuleRow.MEMBER0 : BitFld := ⟨320, 1⟩
def RuleRow.MEMBER1 : BitFld := ⟨321, 1⟩
/-! Table 6.3 (spec 06): 32 bits. -/
def KeyPrefix.INGRESS_PORT : BitFld := ⟨0, 7⟩
def KeyPrefix.PASS : BitFld := ⟨7, 1⟩
def KeyPrefix.VLAN_COUNT : BitFld := ⟨8, 2⟩
def KeyPrefix.PARSE_DEEP : BitFld := ⟨10, 1⟩
def KeyPrefix.MALFORMED_L3 : BitFld := ⟨11, 1⟩
def KeyPrefix.MALFORMED_L4 : BitFld := ⟨12, 1⟩
def KeyPrefix.MALFORMED_TUN : BitFld := ⟨13, 1⟩
def KeyPrefix.FRAG : BitFld := ⟨14, 1⟩
def KeyPrefix.FRAG_FIRST : BitFld := ⟨15, 1⟩
def KeyPrefix.INNER_FRAG : BitFld := ⟨16, 1⟩
def KeyPrefix.TTL_LOW : BitFld := ⟨17, 1⟩
def KeyPrefix.IP_OPTIONS : BitFld := ⟨18, 1⟩
def KeyPrefix.STOP_UNKNOWN : BitFld := ⟨19, 1⟩
def KeyPrefix.LEN_TYPE : BitFld := ⟨20, 1⟩
def KeyPrefix.TUNNELLED : BitFld := ⟨21, 1⟩
def KeyPrefix.PORT_CLASS : BitFld := ⟨22, 2⟩
def KeyPrefix.PROFILE : BitFld := ⟨26, 6⟩
/-! Table 6.4 (spec 06): 160 bits. -/
def KF0.DA : BitFld := ⟨32, 48⟩
def KF0.SA : BitFld := ⟨80, 48⟩
def KF0.OUTER_VID : BitFld := ⟨128, 12⟩
def KF0.OUTER_PCP : BitFld := ⟨140, 3⟩
def KF0.TAGGED : BitFld := ⟨143, 1⟩
def KF0.ETYPE : BitFld := ⟨144, 16⟩
/-! Table 6.5 (spec 06): 160 bits. -/
def KF1.SIP : BitFld := ⟨32, 32⟩
def KF1.DIP : BitFld := ⟨64, 32⟩
def KF1.PROTO : BitFld := ⟨96, 8⟩
def KF1.DSCP : BitFld := ⟨104, 6⟩
def KF1.L4_SRC : BitFld := ⟨110, 16⟩
def KF1.L4_DST : BitFld := ⟨126, 16⟩
def KF1.TCP_FLAGS : BitFld := ⟨142, 8⟩
def KF1.L3_VALID : BitFld := ⟨150, 1⟩
def KF1.L4_VALID : BitFld := ⟨151, 1⟩
def KF1.ECN : BitFld := ⟨152, 2⟩
/-! Table 6.6 (spec 06): 320 bits. -/
def KF2.DIP : BitFld := ⟨32, 128⟩
def KF2.SIP_HI : BitFld := ⟨160, 64⟩
def KF2.NEXT_HDR : BitFld := ⟨224, 8⟩
def KF2.DSCP : BitFld := ⟨232, 6⟩
def KF2.ECN : BitFld := ⟨238, 2⟩
def KF2.L4_SRC : BitFld := ⟨240, 16⟩
def KF2.L4_DST : BitFld := ⟨256, 16⟩
def KF2.TCP_FLAGS : BitFld := ⟨272, 8⟩
def KF2.FLOW_LABEL : BitFld := ⟨280, 20⟩
def KF2.L3_VALID : BitFld := ⟨300, 1⟩
def KF2.L4_VALID : BitFld := ⟨301, 1⟩
/-! Table 6.7 (spec 06): 640 bits. -/
def KF3.OUT_SIP : BitFld := ⟨32, 128⟩
def KF3.OUT_DIP : BitFld := ⟨160, 128⟩
def KF3.IN_SIP : BitFld := ⟨288, 128⟩
def KF3.IN_DIP : BitFld := ⟨416, 128⟩
def KF3.TUN_ID : BitFld := ⟨544, 32⟩
def KF3.TUN_TYPE : BitFld := ⟨576, 6⟩
def KF3.IN_PROTO : BitFld := ⟨582, 8⟩
def KF3.IN_L4_SRC : BitFld := ⟨590, 16⟩
def KF3.IN_L4_DST : BitFld := ⟨606, 16⟩
def KF3.IN_DSCP : BitFld := ⟨622, 6⟩
def KF3.OUTER_VID : BitFld := ⟨628, 12⟩
/-! Table 6.9 (spec 06): 64 bits. -/
def ActWord.VERDICT : BitFld := ⟨0, 4⟩
def ActWord.DEST : BitFld := ⟨4, 7⟩
def ActWord.CLASS : BitFld := ⟨11, 4⟩
def ActWord.CLASS_SET : BitFld := ⟨15, 1⟩
def ActWord.DSCP : BitFld := ⟨16, 6⟩
def ActWord.DSCP_SET : BitFld := ⟨22, 1⟩
def ActWord.POLICER : BitFld := ⟨23, 13⟩
def ActWord.POLICER_SET : BitFld := ⟨36, 1⟩
def ActWord.FLOW_CLASS : BitFld := ⟨37, 4⟩
def ActWord.FLOW_SET : BitFld := ⟨41, 1⟩
def ActWord.EDIT_PROFILE : BitFld := ⟨42, 8⟩
def ActWord.EDIT_SET : BitFld := ⟨50, 1⟩
def ActWord.MIRROR : BitFld := ⟨51, 3⟩
def ActWord.NO_LEARN : BitFld := ⟨54, 1⟩
/-! Table 7.1 (spec 07): 32 bits. -/
def ResWord.KIND : BitFld := ⟨0, 2⟩
def ResWord.TARGET : BitFld := ⟨2, 16⟩
def ResWord.CLASS : BitFld := ⟨18, 4⟩
def ResWord.CLASS_SET : BitFld := ⟨22, 1⟩
def ResWord.DROP : BitFld := ⟨23, 1⟩
def ResWord.TO_HOST : BitFld := ⟨24, 1⟩
/-! Table 8.1 (spec 08): 64 bits. -/
def Meta.MOVES : BitFld := ⟨0, 8⟩
def Meta.WIN_START : BitFld := ⟨8, 16⟩
def Meta.FROZEN : BitFld := ⟨24, 1⟩
def Meta.FROZEN_UNTIL : BitFld := ⟨25, 16⟩
def Meta.WIN_PORT : BitFld := ⟨41, 7⟩
/-! Table 8.2 (spec 08): 128 bits. -/
def LearnNote.KEY : BitFld := ⟨0, 60⟩
def LearnNote.SECTION : BitFld := ⟨60, 4⟩
def LearnNote.PORT : BitFld := ⟨64, 7⟩
def LearnNote.KIND : BitFld := ⟨71, 1⟩
def LearnNote.PASS : BitFld := ⟨72, 1⟩
def LearnNote.TICK : BitFld := ⟨88, 16⟩
/-! Table 8.6 (spec 08): 64 bits. -/
def ShadowTag.CRC : BitFld := ⟨0, 32⟩
def ShadowTag.WRITE_SEQ : BitFld := ⟨32, 16⟩
def ShadowTag.VALID : BitFld := ⟨48, 1⟩
def ShadowTag.BUSY : BitFld := ⟨49, 1⟩
def ShadowTag.KIND : BitFld := ⟨50, 3⟩
/-! Table 9.1 (spec 09): 1024 bits. -/
def FlowRec.VALID : BitFld := ⟨0, 1⟩
def FlowRec.CLASS : BitFld := ⟨1, 4⟩
def FlowRec.STATE : BitFld := ⟨5, 2⟩
def FlowRec.MIRRORED : BitFld := ⟨7, 1⟩
def FlowRec.SVC_WAIT : BitFld := ⟨8, 1⟩
def FlowRec.FIRST_PORT : BitFld := ⟨9, 7⟩
def FlowRec.GEN : BitFld := ⟨16, 8⟩
def FlowRec.FIRST_SEEN : BitFld := ⟨32, 32⟩
def FlowRec.LAST_SEEN : BitFld := ⟨64, 32⟩
def FlowRec.PKTS : BitFld := ⟨96, 40⟩
def FlowRec.OCTETS : BitFld := ⟨136, 48⟩
def FlowRec.KEY : BitFld := ⟨192, 320⟩
def FlowRec.SERVICE : BitFld := ⟨512, 384⟩
def FlowRec.LINK : BitFld := ⟨896, 26⟩
def FlowRec.LINK_VALID : BitFld := ⟨922, 1⟩
def FlowRec.KEY_HASH : BitFld := ⟨960, 32⟩
def FlowRec.CRC : BitFld := ⟨992, 32⟩
/-! Table 10.2 (spec 10): 1024 bits. -/
def FlowRec.TCP_FLAGS_OR : BitFld := ⟨512, 8⟩
def FlowRec.EGRESS_PORT : BitFld := ⟨520, 7⟩
def FlowRec.INIT_SIDE : BitFld := ⟨527, 1⟩
def FlowRec.TCP_STATE : BitFld := ⟨528, 3⟩
def FlowRec.EXPORTED : BitFld := ⟨531, 1⟩
def FlowRec.END_REASON : BitFld := ⟨532, 3⟩
def FlowRec.EXP_PKTS : BitFld := ⟨536, 40⟩
def FlowRec.EXP_OCTETS : BitFld := ⟨576, 48⟩
def FlowRec.EXP_TIME : BitFld := ⟨624, 32⟩
def FlowRec.LB_GROUP : BitFld := ⟨656, 12⟩
def FlowRec.LB_MEMBER : BitFld := ⟨668, 6⟩
def FlowRec.LB_MGEN : BitFld := ⟨674, 8⟩
def FlowRec.LB_PINNED : BitFld := ⟨682, 1⟩
def FlowRec.NAT_ADDR : BitFld := ⟨688, 32⟩
def FlowRec.NAT_PORT : BitFld := ⟨720, 16⟩
def FlowRec.NAT_BLOCK : BitFld := ⟨736, 16⟩
def FlowRec.NAT_INSIDE6 : BitFld := ⟨752, 128⟩
/-! Table 10.3 (spec 10): 1024 bits. -/
def SubRec.BLOCKS : BitFld := ⟨512, 4⟩
def SubRec.BLOCK (i : Nat) : BitFld := ⟨528 + 16 * i, 16⟩
def SubRec.BINDINGS : BitFld := ⟨656, 16⟩
def SubRec.CURSOR : BitFld := ⟨672, 16⟩
/-! Table 11.1 (spec 11): 4096 bits. -/
def Sess.VALID : BitFld := ⟨0, 1⟩
def Sess.BUFFERING : BitFld := ⟨1, 1⟩
def Sess.MIRRORED : BitFld := ⟨2, 1⟩
def Sess.TEID_GEN : BitFld := ⟨4, 4⟩
def Sess.N3_IDX : BitFld := ⟨8, 2⟩
def Sess.BUF_TRANSIT : BitFld := ⟨16, 16⟩
def Sess.LAST_UL_MS : BitFld := ⟨32, 32⟩
def Sess.PDR (i : Nat) : BitFld := ⟨64 + 64 * i, 64⟩
def Sess.FAR (i : Nat) : BitFld := ⟨320 + 64 * i, 64⟩
def Sess.QER0 : BitFld := ⟨576, 64⟩
def Sess.QER1 : BitFld := ⟨640, 64⟩
def Sess.URR (i : Nat) : BitFld := ⟨704 + 64 * i, 64⟩
def Sess.LAST_DL_MS : BitFld := ⟨960, 32⟩
def Sess.CRC : BitFld := ⟨992, 32⟩
/-! Table 11.3 (spec 11): 4096 bits. -/
def Sess.CP_SEID : BitFld := ⟨1024, 64⟩
def Sess.UP_SEID : BitFld := ⟨1088, 64⟩
def Sess.UE_IPV4 : BitFld := ⟨1152, 32⟩
def Sess.UE_IPV6_PFX : BitFld := ⟨1184, 64⟩
def Sess.UE_V4_VALID : BitFld := ⟨1248, 1⟩
def Sess.UE_V6_VALID : BitFld := ⟨1249, 1⟩
def Sess.VRF : BitFld := ⟨1250, 8⟩
def Sess.PDR_ID (i : Nat) : BitFld := ⟨1264 + 16 * i, 16⟩
def Sess.FAR_ID (i : Nat) : BitFld := ⟨1328 + 32 * i, 32⟩
def Sess.QER_ID (i : Nat) : BitFld := ⟨1456 + 32 * i, 32⟩
def Sess.URR_ID (i : Nat) : BitFld := ⟨1520 + 32 * i, 32⟩
def Sess.CRC1 : BitFld := ⟨2016, 32⟩
def Sess.TOTAL (i : Nat) : BitFld := ⟨2048 + 216 * i, 48⟩
def Sess.SINCE (i : Nat) : BitFld := ⟨2096 + 216 * i, 40⟩
def Sess.VOL_THRESH (i : Nat) : BitFld := ⟨2136 + 216 * i, 40⟩
def Sess.QUOTA (i : Nat) : BitFld := ⟨2176 + 216 * i, 48⟩
def Sess.LOADED (i : Nat) : BitFld := ⟨2224 + 216 * i, 40⟩
def Sess.CRC2 : BitFld := ⟨3040, 32⟩
def Sess.BUF_LIMIT : BitFld := ⟨3072, 16⟩
def Sess.BUF_TIME_S : BitFld := ⟨3088, 12⟩
def Sess.BUF_HEAD : BitFld := ⟨3104, 24⟩
def Sess.BUF_TAIL : BitFld := ⟨3128, 24⟩
def Sess.BUF_PKTS : BitFld := ⟨3152, 11⟩
def Sess.NOTIFIED : BitFld := ⟨3163, 1⟩
def Sess.REPLAY : BitFld := ⟨3164, 1⟩
def Sess.TIME_THRESH (i : Nat) : BitFld := ⟨3168 + 48 * i, 16⟩
def Sess.PERIOD_START (i : Nat) : BitFld := ⟨3184 + 48 * i, 32⟩
def Sess.CRC3 : BitFld := ⟨4064, 32⟩
/-! Table 12.1 (spec 12): 128 bits. -/
def NextHop.TYPE : BitFld := ⟨0, 2⟩
def NextHop.PORT : BitFld := ⟨2, 7⟩
def NextHop.DMAC : BitFld := ⟨9, 48⟩
def NextHop.SMAC_IDX : BitFld := ⟨57, 6⟩
def NextHop.TTL_DEC : BitFld := ⟨63, 1⟩
def NextHop.VID : BitFld := ⟨64, 12⟩
def NextHop.TAG_OP : BitFld := ⟨76, 2⟩
def NextHop.TEMPLATE : BitFld := ⟨78, 12⟩
def NextHop.ENCAP_EN : BitFld := ⟨90, 1⟩
def NextHop.LB_GROUP : BitFld := ⟨91, 12⟩
def NextHop.MTU_PROF : BitFld := ⟨103, 4⟩
/-! Table 12.2 (spec 12): 1024 bits. -/
def Tpl.HDR : BitFld := ⟨0, 896⟩
def Tpl.LEN : BitFld := ⟨896, 7⟩
def Tpl.L3_OFF : BitFld := ⟨903, 7⟩
def Tpl.L4_OFF : BitFld := ⟨910, 7⟩
def Tpl.KIND : BitFld := ⟨917, 3⟩
def Tpl.L2_PAYLOAD : BitFld := ⟨920, 1⟩
def Tpl.SRC_HASH : BitFld := ⟨921, 1⟩
/-! Table 12.6 (spec 12): 512 bits. -/
def CapDesc.FRAME_LEN : BitFld := ⟨0, 14⟩
def CapDesc.END_ERR : BitFld := ⟨14, 1⟩
def CapDesc.POINT : BitFld := ⟨15, 1⟩
def CapDesc.DATA_LEN : BitFld := ⟨16, 9⟩
def CapDesc.SESSION : BitFld := ⟨25, 3⟩
def CapDesc.PASS : BitFld := ⟨28, 1⟩
def CapDesc.SEQ : BitFld := ⟨32, 32⟩
def CapDesc.TS_SEC : BitFld := ⟨64, 48⟩
def CapDesc.TS_NS : BitFld := ⟨112, 32⟩
def CapDesc.TS_SUBNS : BitFld := ⟨144, 16⟩
def CapDesc.INGRESS_PORT : BitFld := ⟨160, 7⟩
def CapDesc.EGRESS_PORT : BitFld := ⟨167, 7⟩
def CapDesc.EPOCH : BitFld := ⟨176, 16⟩
def CapDesc.LOST : BitFld := ⟨192, 16⟩
def CapDesc.RULE_IDX : BitFld := ⟨208, 16⟩
def CapDesc.RULE_VALID : BitFld := ⟨224, 1⟩
def CapDesc.CLASS : BitFld := ⟨225, 4⟩
def CapDesc.PARSE : BitFld := ⟨256, 256⟩
/-! Table 13.2 (spec 13): 32 bits. -/
def BufState.STATE : BitFld := ⟨0, 2⟩
def BufState.OWNER : BitFld := ⟨2, 3⟩
def BufState.HOLDERS : BitFld := ⟨5, 8⟩
def BufState.REFCNT : BitFld := ⟨13, 13⟩
def BufState.LAST_OWNER : BitFld := ⟨26, 3⟩
/-! Table 14.2 (spec 14): 64 bits. -/
def CellHdr.KIND : BitFld := ⟨0, 2⟩
def CellHdr.MCAST : BitFld := ⟨2, 1⟩
def CellHdr.SRC_PIPE : BitFld := ⟨3, 2⟩
def CellHdr.DST_SLICE : BitFld := ⟨5, 2⟩
def CellHdr.QUEUE : BitFld := ⟨7, 16⟩
def CellHdr.SEQ : BitFld := ⟨23, 16⟩
def CellHdr.CELL_IDX : BitFld := ⟨39, 6⟩
def CellHdr.LAST : BitFld := ⟨45, 1⟩
def CellHdr.END_ERR : BitFld := ⟨46, 1⟩
def CellHdr.CLASS : BitFld := ⟨47, 4⟩
def CellHdr.PLANE : BitFld := ⟨51, 1⟩
def CellHdr.CELLS : BitFld := ⟨52, 7⟩
/-! Table 14.3 (spec 14): 64 bits. -/
def CopyEntry.PORT_IDX : BitFld := ⟨0, 5⟩
def CopyEntry.QUEUE_EN : BitFld := ⟨5, 1⟩
def CopyEntry.QUEUE : BitFld := ⟨6, 16⟩
def CopyEntry.VID : BitFld := ⟨22, 12⟩
def CopyEntry.LAST : BitFld := ⟨34, 1⟩
/-! Table 16.5 (spec 16): 256 bits. -/
def HoldModel.SEQ : BitFld := ⟨0, 16⟩
def HoldModel.VALID : BitFld := ⟨16, 1⟩
def HoldModel.Y0 : BitFld := ⟨32, 32⟩
def HoldModel.D : BitFld := ⟨64, 32⟩
def HoldModel.K : BitFld := ⟨96, 16⟩
def HoldModel.T_L : BitFld := ⟨112, 16⟩
def HoldModel.U_F : BitFld := ⟨128, 16⟩
def HoldModel.U_D : BitFld := ⟨144, 16⟩
def HoldModel.U_T : BitFld := ⟨160, 16⟩
def HoldModel.LEARN_H : BitFld := ⟨176, 16⟩
def HoldModel.STORE_SEC : BitFld := ⟨192, 32⟩
def HoldModel.CRC : BitFld := ⟨224, 32⟩
/-! Table 18.1 (spec 18): 128 bits. -/
def ExpEntry.VALID : BitFld := ⟨0, 1⟩
def ExpEntry.PORT_ANY : BitFld := ⟨1, 1⟩
def ExpEntry.IN_PORT : BitFld := ⟨2, 7⟩
def ExpEntry.VID_ANY : BitFld := ⟨9, 1⟩
def ExpEntry.VID : BitFld := ⟨10, 12⟩
def ExpEntry.DA_ANY : BitFld := ⟨22, 1⟩
def ExpEntry.DA : BitFld := ⟨23, 48⟩
def ExpEntry.OUT_PORT : BitFld := ⟨71, 7⟩
def ExpEntry.SET_VID : BitFld := ⟨78, 1⟩
def ExpEntry.NEW_VID : BitFld := ⟨79, 12⟩
/-! Table 18.3 (spec 18): 64 bits. -/
def GateEntry.GATES : BitFld := ⟨0, 16⟩
def GateEntry.EXP_GATE : BitFld := ⟨16, 1⟩
def GateEntry.OP : BitFld := ⟨17, 2⟩
def GateEntry.INTERVAL_NS : BitFld := ⟨32, 32⟩
/-! Table 21.3 (spec 21): 256 bits. -/
def CmdHdr.OPCODE : BitFld := ⟨0, 8⟩
def CmdHdr.IRQ : BitFld := ⟨8, 1⟩
def CmdHdr.ENTRIES : BitFld := ⟨16, 4⟩
def CmdHdr.TAG : BitFld := ⟨32, 32⟩
def CmdHdr.PIPE : BitFld := ⟨64, 2⟩
def CmdHdr.ALL : BitFld := ⟨66, 1⟩
def CmdHdr.TIMEOUT_MS : BitFld := ⟨96, 16⟩
def CmdHdr.RESULT_ADDR : BitFld := ⟨128, 64⟩
/-! Table 21.5 (spec 21): 256 bits. -/
def ReplyEntry.TAG : BitFld := ⟨0, 32⟩
def ReplyEntry.OPCODE : BitFld := ⟨32, 8⟩
def ReplyEntry.STATUS : BitFld := ⟨40, 8⟩
def ReplyEntry.DONE : BitFld := ⟨64, 32⟩
def ReplyEntry.DETAIL : BitFld := ⟨96, 32⟩
def ReplyEntry.DATA : BitFld := ⟨128, 128⟩
/-! Table 22.2 (spec 22): 128 bits. -/
def FleitHdr.TYPE : BitFld := ⟨0, 4⟩
def FleitHdr.FIRST : BitFld := ⟨4, 1⟩
def FleitHdr.LAST : BitFld := ⟨5, 1⟩
def FleitHdr.END_ERR : BitFld := ⟨6, 1⟩
def FleitHdr.NAK : BitFld := ⟨7, 1⟩
def FleitHdr.LEN : BitFld := ⟨8, 9⟩
def FleitHdr.CLASS : BitFld := ⟨17, 4⟩
def FleitHdr.FSEQ : BitFld := ⟨24, 24⟩
def FleitHdr.ACK_SEQ : BitFld := ⟨48, 24⟩
def FleitHdr.CREDITS : BitFld := ⟨72, 8⟩
def FleitHdr.CREDIT_CH : BitFld := ⟨80, 2⟩
def FleitHdr.SRC_DEV : BitFld := ⟨82, 2⟩
def FleitHdr.DST_DEV : BitFld := ⟨84, 2⟩
def FleitHdr.PAIR_GEN : BitFld := ⟨86, 16⟩
/-! Table 22.3 (spec 22): 384 bits. -/
def Heartbeat.YIELD : BitFld := ⟨0, 1⟩
def Heartbeat.FORWARDING : BitFld := ⟨1, 1⟩
def Heartbeat.TIME_VALID : BitFld := ⟨2, 1⟩
def Heartbeat.LINK_TIMED : BitFld := ⟨3, 1⟩
def Heartbeat.ROLE : BitFld := ⟨4, 2⟩
def Heartbeat.STACK_ROLE : BitFld := ⟨6, 2⟩
def Heartbeat.HB_SEQ : BitFld := ⟨8, 8⟩
def Heartbeat.RX_SEQ : BitFld := ⟨16, 8⟩
def Heartbeat.T_TX_PREV : BitFld := ⟨32, 96⟩
def Heartbeat.T_RX_PEER : BitFld := ⟨128, 96⟩
def Heartbeat.TU : BitFld := ⟨224, 32⟩
def Heartbeat.MSEQ_ACCEPTED : BitFld := ⟨256, 32⟩
/-! Table 22.6 (spec 22): 128 bits. -/
def MirrorHdr.MSEQ : BitFld := ⟨0, 32⟩
def MirrorHdr.KIND : BitFld := ⟨32, 3⟩
def MirrorHdr.RESYNC : BitFld := ⟨35, 1⟩
def MirrorHdr.BLOCK : BitFld := ⟨36, 2⟩
def MirrorHdr.INDEX : BitFld := ⟨38, 26⟩
def MirrorHdr.SEED : BitFld := ⟨64, 16⟩
def MirrorHdr.FENCE_SEQ : BitFld := ⟨80, 32⟩
/-! Table 23.1 (spec 23): 2048 bits. -/
def Fuse.OWNER_HASH0 : BitFld := ⟨0, 384⟩
def Fuse.OWNER_HASH1 : BitFld := ⟨384, 384⟩
def Fuse.DEBUG_HASH : BitFld := ⟨768, 384⟩
def Fuse.KWK : BitFld := ⟨1152, 256⟩
def Fuse.IMAGE_SVN : BitFld := ⟨1408, 64⟩
def Fuse.PATCH_SVN : BitFld := ⟨1472, 32⟩
def Fuse.OWNER0_SET : BitFld := ⟨1504, 1⟩
def Fuse.OWNER1_SET : BitFld := ⟨1505, 1⟩
def Fuse.OWNER0_REVOKED : BitFld := ⟨1506, 1⟩
def Fuse.OWNER1_REVOKED : BitFld := ⟨1507, 1⟩
def Fuse.DEBUG_SET : BitFld := ⟨1508, 1⟩
def Fuse.KWK_SET : BitFld := ⟨1509, 1⟩
def Fuse.VIRONG_DEBUG_DIS : BitFld := ⟨1510, 1⟩
def Fuse.PCIE_DIS : BitFld := ⟨1511, 1⟩
/-! Table 23.3 (spec 23): 3168 bits. -/
def Cert.FORMAT : BitFld := ⟨0, 16⟩
def Cert.KIND : BitFld := ⟨16, 8⟩
def Cert.SERIAL : BitFld := ⟨32, 64⟩
def Cert.ID_PUB : BitFld := ⟨96, 768⟩
def Cert.TRANSPORT_PUB : BitFld := ⟨864, 768⟩
def Cert.ISSUER_PUB : BitFld := ⟨1632, 768⟩
def Cert.SIG_R : BitFld := ⟨2400, 384⟩
def Cert.SIG_S : BitFld := ⟨2784, 384⟩
/-! Table 23.4 (spec 23): 2816 bits. -/
def Report.NONCE : BitFld := ⟨0, 256⟩
def Report.ID_DIGEST : BitFld := ⟨256, 384⟩
def Report.IMAGE_DIGEST : BitFld := ⟨704, 384⟩
def Report.MEAS : BitFld := ⟨1088, 384⟩
def Report.IMAGE_SVN : BitFld := ⟨1472, 7⟩
def Report.PATCH_SVN : BitFld := ⟨1480, 6⟩
def Report.SLOT : BitFld := ⟨1486, 2⟩
def Report.LOADED_SVN : BitFld := ⟨1488, 7⟩
def Report.VIRONG_SIGNED : BitFld := ⟨1495, 1⟩
def Report.OWNER_SLOT : BitFld := ⟨1496, 1⟩
def Report.DEBUG_SEEN : BitFld := ⟨1497, 1⟩
def Report.DEBUG_VIRONG : BitFld := ⟨1498, 1⟩
def Report.KWK_SET : BitFld := ⟨1499, 1⟩
def Report.PATCH_LEVEL : BitFld := ⟨1504, 8⟩
def Report.ROM_VERSION : BitFld := ⟨1512, 16⟩
def Report.TAMPER_COUNT : BitFld := ⟨1536, 32⟩
def Report.RESET_COUNT : BitFld := ⟨1568, 32⟩
def Report.TIME : BitFld := ⟨1600, 96⟩
def Report.TIME_VALID : BitFld := ⟨1696, 1⟩
def Report.SIG_R : BitFld := ⟨2048, 384⟩
def Report.SIG_S : BitFld := ⟨2432, 384⟩
/-! Table 23.5 (spec 23): 128 bits. -/
def TamperEntry.KIND : BitFld := ⟨0, 8⟩
def TamperEntry.DETAIL : BitFld := ⟨8, 8⟩
def TamperEntry.TIME : BitFld := ⟨32, 96⟩
/-! Table 24.2 (spec 24): 1024 bits. -/
def ManHdr.MAGIC : BitFld := ⟨0, 32⟩
def ManHdr.FORMAT : BitFld := ⟨32, 16⟩
def ManHdr.SECTIONS : BitFld := ⟨48, 9⟩
def ManHdr.IMAGE_LEN : BitFld := ⟨64, 32⟩
def ManHdr.SVN : BitFld := ⟨96, 7⟩
def ManHdr.COMMIT : BitFld := ⟨103, 1⟩
def ManHdr.PATCH : BitFld := ⟨104, 1⟩
def ManHdr.UCODE_VERSION : BitFld := ⟨112, 16⟩
def ManHdr.BUILD_ID : BitFld := ⟨128, 64⟩
def ManHdr.SIGNER_PUB : BitFld := ⟨192, 768⟩
/-! Table 24.3 (spec 24): 512 bits. -/
def SectHdr.DIGEST : BitFld := ⟨0, 384⟩
def SectHdr.OFFSET : BitFld := ⟨384, 32⟩
def SectHdr.LENGTH : BitFld := ⟨416, 32⟩
def SectHdr.KIND : BitFld := ⟨448, 8⟩
def SectHdr.LATE : BitFld := ⟨456, 1⟩
/-! Table 24.5 (spec 24): 256 bits. -/
def RxDone.LEN : BitFld := ⟨0, 15⟩
def RxDone.FIRST : BitFld := ⟨15, 1⟩
def RxDone.LAST : BitFld := ⟨16, 1⟩
def RxDone.DONE : BitFld := ⟨17, 1⟩
def RxDone.REASON : BitFld := ⟨18, 5⟩
def RxDone.INGRESS_PORT : BitFld := ⟨23, 7⟩
def RxDone.AUX : BitFld := ⟨32, 16⟩
def RxDone.TS : BitFld := ⟨64, 96⟩
def RxDone.PKT_LEN : BitFld := ⟨160, 14⟩
/-! Table 24.6 (spec 24): 256 bits. -/
def TxDesc.ADDR : BitFld := ⟨0, 64⟩
def TxDesc.LEN : BitFld := ⟨64, 14⟩
def TxDesc.DIRECT : BitFld := ⟨78, 1⟩
def TxDesc.PORT : BitFld := ⟨79, 7⟩
def TxDesc.CLASS : BitFld := ⟨86, 4⟩
def TxDesc.PIPE : BitFld := ⟨90, 2⟩
def TxDesc.CSUM : BitFld := ⟨92, 1⟩
def TxDesc.L3_OFF : BitFld := ⟨93, 8⟩
def TxDesc.L4_OFF : BitFld := ⟨101, 8⟩
def TxDesc.L4_TCP : BitFld := ⟨109, 1⟩
def TxDesc.DONE : BitFld := ⟨128, 1⟩
def TxDesc.STATUS : BitFld := ⟨129, 2⟩
/-! Table 25.6 (spec 25): 128 bits. -/
def CauseEntry.CAUSE : BitFld := ⟨0, 8⟩
def CauseEntry.DETAIL : BitFld := ⟨8, 8⟩
def CauseEntry.WARM : BitFld := ⟨16, 1⟩
def CauseEntry.TIME_VALID : BitFld := ⟨17, 1⟩
def CauseEntry.RETAINED : BitFld := ⟨18, 1⟩
def CauseEntry.LHT_KEPT : BitFld := ⟨19, 1⟩
def CauseEntry.PHASE : BitFld := ⟨20, 4⟩
def CauseEntry.COUNT : BitFld := ⟨32, 32⟩
def CauseEntry.SEC : BitFld := ⟨64, 48⟩
def CauseEntry.MS : BitFld := ⟨112, 10⟩
/-! Table 27.3 (spec 27): 128 bits. -/
def LogRec.GROUP : BitFld := ⟨0, 6⟩
def LogRec.INDEX : BitFld := ⟨6, 5⟩
def LogRec.SEV : BitFld := ⟨11, 2⟩
def LogRec.SCOPE : BitFld := ⟨13, 3⟩
def LogRec.INSTANCE : BitFld := ⟨16, 7⟩
def LogRec.TIME_VALID : BitFld := ⟨23, 1⟩
def LogRec.REPEAT : BitFld := ⟨24, 8⟩
def LogRec.DETAIL : BitFld := ⟨32, 32⟩
def LogRec.SEC : BitFld := ⟨64, 32⟩
def LogRec.NS : BitFld := ⟨96, 30⟩

end Sys2Proof.Machine
end

