-- ==== Sys2Proof/Types.lean ====
section
/-! DEFINITION. The types of the commands' operands: who sends a register write, what a received message,
manifest, descriptor or sample carries. -/
namespace Sys2Proof

/-- Who drives the register bus (R788): the host through BAR0, the keepers, or the image loader. -/
inductive Agent where
  | host | keeper | loader
  deriving DecidableEq, Repr

/-- The scope levels a log record names (Table 27.3). -/
inductive Scope where
  | lane | port | octet | pipeline | device | system | engine
  deriving DecidableEq, Repr

/-- The value of SCOPE in a log record (Table 27.3). -/
def Scope.code : Scope → Nat
  | .lane => 0 | .port => 1 | .octet => 2 | .pipeline => 3 | .device => 4 | .system => 5 | .engine => 6

/-- The four route registers of an event source (R762). -/
inductive Route where
  | pin | msix | kpr | log
  deriving DecidableEq, Repr

/-- A HELLO of R626 as the rind finds it: the owner certificate with the SHA-384 of its ISSUER_PUB
and whether its SIG verifies, whether the nonce signature verifies with ID_PUB, the system mode, device ID
and pair digest, and the pair priority and device identity used by R640. -/
structure Hello where
  hasCert : Bool
  issuerHash : BitVec 384
  certSigOk : Bool
  nonceSigOk : Bool
  mode : Nat
  devId : Nat
  digest : BitVec 384
  prio : Nat
  identity : Nat
  deriving DecidableEq, Repr

/-- The credit channels of R631. -/
inductive Chan where
  | data | express | mirror | control
  deriving DecidableEq, Repr

/-- The value of CREDIT_CH (Table 22.2). -/
def Chan.code : Chan → Nat
  | .data => 0 | .express => 1 | .mirror => 2 | .control => 3

/-- A mirror update (Table 22.6) with the 128 bytes it carries for KIND 0 and 1; `refresh` says that it alters only the
fields R644 names. -/
structure MirrorUpd where
  mseq : Nat
  kind : Nat
  resync : Bool
  block : Nat
  index : Nat
  seed : Nat
  fenceSeq : Nat
  body : BitVec 1024
  refresh : Bool
  deriving DecidableEq, Repr

/-- A SecTAG (R124, Table 4.1) as the SecY finds it in a received frame. -/
structure SecTag where
  /-- V, ES, SC and SCB bits. -/
  v : Bool
  es : Bool
  sc : Bool
  scb : Bool
  /-- E: the frame is encrypted. -/
  enc : Bool
  an : Nat
  sl : Nat
  pn : Nat
  sci : BitVec 64
  deriving DecidableEq, Repr

/-- How a frame starts (R83): a start delimiter, an 802.3br start mPacket delimiter, or another sequence. -/
inductive StartSeq where
  | sfd | smd | bad
  deriving DecidableEq, Repr

/-- A SAK that an MKPDU distributes (R132, R134): its association number, the suite and offset (as MSC_PORT_CFG codes them), and the key
wrapped under the KEK. -/
structure SakDist where
  an : Nat
  suite : Nat
  offset : Nat
  wrapped : BitVec 320
  deriving DecidableEq, Repr

/-- An MKPDU (R131 to R134): its length, whether its parameter sets have lengths in range and no unknown mandatory type, its sender's
SCI, message number and key-server priority, the suite and offset it offers, whether the sender's SC is implicit, the SAK it distributes,
the association number whose receipt it reports, and its ICV. -/
structure Mkpdu where
  len : Nat
  paramsOk : Bool
  sci : BitVec 64
  member : Nat
  ksPrio : Nat
  suite : Nat
  offset : Nat
  implicitSc : Bool
  dist : Option SakDist
  reports : Option Nat
  icv : BitVec 128
  deriving DecidableEq, Repr

/-- What a port's FEC reports since its last report (R81): corrected codewords, uncorrectable ones, symbol errors. -/
structure FecCount where
  corrected : Nat
  uncorrected : Nat
  symbols : Nat
  deriving DecidableEq, Repr

/-- How an mPacket starts (R83, R96): with a preamble and SFD, or on the preemptable MAC with the 802.3br start delimiter of a frame
number, or with the continuation delimiter of a frame number and a fragment number. -/
inductive Delim where
  | sfd
  | start (frame : Nat)
  | cont (frame frag : Nat)
  deriving DecidableEq, Repr

/-- A section of a manifest (Table 24.3). -/
structure Section where
  digest : BitVec 384
  offset : Nat
  length : Nat
  kind : Nat
  late : Bool
  reserved : Nat
  deriving DecidableEq, Repr

/-- A manifest (Table 24.2) as the loader reads it, with what the rind's engines find: the SHA-384 of
SIGNER_PUB, the manifest digest (R696) and whether the signature verifies. -/
structure Manifest where
  magic : Nat
  format : Nat
  reserved : Nat
  imageLen : Nat
  svn : Nat
  commit : Bool
  patch : Bool
  ucodeVersion : Nat
  sections : List Section
  signerHash : BitVec 384
  digest : BitVec 384
  sigOk : Bool
  deriving DecidableEq, Repr

/-- A request of a provisioning section (R661). -/
inductive Provision where
  | ownerHash (slot : Nat) (hash : BitVec 384)
  | debugHash (hash : BitVec 384)
  | virongDebugDis
  | revoke (slot : Nat)
  | kwk (tagOk : Bool) (key : BitVec 256)
  deriving DecidableEq, Repr

/-- A visible change a keeper engine makes (R599): a register write; a harbour write of some bytes at an address; table-SRAM
accesses in a pipeline; a frame to keeper port 101 through a pipeline; a notification; and the rest: cache-way operations, dequeues, replies
and commands to other blocks.  What a table write, or one of the rest, does is the command of its own chapter; here it takes its place
in the order of the commit port, and pays its tide. -/
inductive KChange where
  | reg (addr : Nat) (v : Word)
  | harbour (addr len : Nat)
  | table (pipe accesses : Nat)
  | frame (pipe : Nat) (bytes : List Byte)
  | note (kind payload : Nat)
  | other
  deriving DecidableEq, Repr

/-- The header of a mailbox command (Table 21.3), with `resv` for a reserved bit that is set, and `dom` for what names its serial domain
beside the opcode: the port, record, group, session or stack its body names (Table 21.4). -/
structure MbxHeader where
  opcode : Nat
  irq : Bool
  resv : Bool
  entries : Nat
  tag : Nat
  pipe : Nat
  all : Bool
  timeoutMs : Nat
  resultAddr : Nat
  dom : Nat
  deriving DecidableEq, Repr

/-- A wrapped CAK as KEY_WRITE or a key section carries it (R677): the port and CKN it is bound to, its length in bytes,
the key once unwrapped and whether its GCM tag verifies. -/
structure WrappedCak where
  port : Nat
  ckn : BitVec 256
  bytes : Nat
  key : BitVec 256
  tagOk : Bool
  deriving DecidableEq, Repr

/-- What the check of a harbour answer finds (R561, R562): good data, a report of the on-die ECC, or a corrected or uncorrectable
error in a row. -/
inductive HbEcc where
  | good | onDie
  | corrected (row : Nat)
  | uncorrectable (row : Nat)
  deriving DecidableEq, Repr

/-- What has become of the two copies of a shadowed block when the compare walker, or a repair, reads them (R246, R247): both are as they
were written, or the SRAM block, the shadow, or both are wrong. -/
inductive ShadowFinding where
  | matches | sramWrong | shadowWrong | lost
  deriving DecidableEq, Repr

/-- How a management-serial transaction goes on: with a byte read past the answer, and with a third byte written (R713). -/
structure MgsTail where
  extra : Bool
  third : Bool
  deriving DecidableEq, Repr

/-- What the MAC finds at the end of a frame: fragments that do not assemble, and the codewords its FEC saw (R45). -/
structure FrameFinds where
  assyBad : Bool
  fec : FecCount
  deriving DecidableEq, Repr

/-- What an auto-negotiation page advertises (R53, R75): EEE, and the codes of the port types. -/
structure AnPage where
  eee : Bool
  types : List Nat
  deriving DecidableEq, Repr

/-- Low-power idle at a port: the port enters it (`rx` false), or its partner's signalling is received (R75). -/
structure LpiAt where
  port : Nat
  rx : Bool
  deriving DecidableEq, Repr

/-- The head of a pipeline's learn queue is taken, and whether its word fails ECC (R250). -/
structure LearnTake where
  pipe : Nat
  bad : Bool
  deriving DecidableEq, Repr

/-- An element or policer whose state failed its ECC, and whether the error is corrected. -/
structure EccAt where
  idx : Nat
  corrected : Bool
  deriving DecidableEq, Repr

/-- What resets the function (R706, R749): a function-level reset, the loss of the PCIe link, or its loss with the link's clock. -/
inductive FlrCause where
  | asked | linkLost | clkLost
  deriving DecidableEq, Repr

/-- A measurement of reference clock B (`b`) or A (R750): the longest gap between its edges, and its offset in frequency. -/
structure RefDisturb where
  b : Bool
  gapNs : Nat
  ppb : Int
  deriving DecidableEq, Repr

end Sys2Proof
end

