-- ==== Sys2Proof/Syntax.lean ====
section
/-! DEFINITION. The commands of the device: one constructor per row of spec/opcode_table.json, with the operands the
outside world supplies.  Each docstring is the row's mnemonic and the rule that governs it. -/
namespace Sys2Proof

/-- A command (a register access, a mailbox operation, the arrival or expiry of something, a step of an engine). -/
inductive Instr where
  /-- REGISTER_WRITE (R10). -/
  | registerWrite (who : Agent) (addr : Nat) (v : Word) (be : Nat)
  /-- RC_READ (R9). -/
  | rcRead (who : Agent) (addr : Nat)
  /-- MGS_TRANSACTION (R713). -/
  | mgsTransaction (count : Nat) (index : Nat) (tail : MgsTail)
  /-- MGS_BUS_TIMEOUT (R715). -/
  | mgsBusTimeout
  /-- BAR0_READ_TIMEOUT (R704). -/
  | bar0ReadTimeout
  /-- FRAME_START (R49). -/
  | frameStart (port : Nat) (start : StartSeq) (head : List Byte) (tag : Option SecTag)
  /-- ARB_TRUNCATE (R50). -/
  | arbTruncate (port : Nat) (more : List Byte)
  /-- FRAME_END (R84). -/
  | frameEnd (port : Nat) (pre : Bool) (rest : List Byte) (fcsOk : Bool) (icvOk : Bool) (finds : FrameFinds)
  /-- HEAD_HANDOFF (R51). -/
  | headHandoff (pipe : Nat)
  /-- PARSE_COMPLETE (R141). -/
  | parseComplete (n : Nat)
  /-- END_STATUS_COMMIT (R90). -/
  | endStatusCommit (n : Nat)
  /-- LOOKUP_MERGE (R206). -/
  | lookupMerge (n : Nat)
  /-- EXPRESS_LOOKUP (R522). -/
  | expressLookup (n : Nat)
  /-- CURD_LOOKUP (R260). -/
  | curdLookup (n : Nat) (found : Nat)
  /-- RECORD_FETCH_RETURN (R264). -/
  | recordFetchReturn (cls : Nat) (key : Nat) (ok : Bool) (twin : Option (BitVec 1024))
  /-- CHAIN_RELEASE (R264). -/
  | chainRelease (pipe : Nat) (cls : Nat) (key : Nat) (ok : Bool)
  /-- PARK_TIMEOUT (R266). -/
  | parkTimeout (n : Nat)
  /-- SET_STALL_RETRY (R261). -/
  | setStallRetry (slice : Nat) (set : Nat)
  /-- FLOW_SETUP (R268). -/
  | flowSetup (slice : Nat)
  /-- GROUP_RESEED (R259). -/
  | groupReseed (g : Nat)
  /-- FLOW_SERVICE_ACT (R309). -/
  | flowServiceAct (n : Nat)
  /-- WHEY_WRITEBACK (R270). -/
  | wheyWriteback (slice : Nat) (ok : Bool)
  /-- WB_AGE_EXPIRY (R271). -/
  | wbAgeExpiry (cls : Nat) (key : Nat)
  /-- SLICE_FLUSH (R272). -/
  | sliceFlush (who : Agent) (slice : Nat) (v : Word)
  /-- SLICE_FLUSH_DONE (R272). -/
  | sliceFlushDone (slice : Nat)
  /-- EXPIRY_VISIT (R274). -/
  | expiryVisit
  /-- EXPIRY_PERIOD_START (R274). -/
  | expiryPeriodStart
  /-- REMOVAL_COMMIT (R276). -/
  | removalCommit (cls : Nat) (key : Nat)
  /-- BINDING_COMPLETE (R298). -/
  | bindingComplete (cls : Nat) (key : Nat)
  /-- IPFIX_EXPORT_SEND (R312). -/
  | ipfixExportSend (coll : Nat)
  /-- IPFIX_TEMPLATE_SEND (R312). -/
  | ipfixTemplateSend (coll : Nat)
  /-- SESSION_STAGE (R328). -/
  | sessionStage (n : Nat)
  /-- POLICER_DECISION (R452). -/
  | policerDecision (n : Nat)
  /-- EDIT (R353). -/
  | edit (n : Nat)
  /-- CAPTURE_RECORD_WRITE (R368). -/
  | captureRecordWrite (port : Nat)
  /-- CELL_WRITE (R410). -/
  | cellWrite (n : Nat)
  /-- CREDIT_WAIT (R414). -/
  | creditWait (pipe : Nat) (slice : Nat)
  /-- CELL_ARRIVE (R415). -/
  | cellArrive (plane : Nat) (src : Nat) (dst : Nat) (ok : Bool) (nextOk : Bool) (pick : Nat)
  /-- TOMBSTONE_POST (R416). -/
  | tombstonePost (slice : Nat) (pick : Nat)
  /-- BACKSTOP_EXPIRY (R417). -/
  | backstopExpiry (slice : Nat) (stream : Nat) (pick : Nat)
  /-- INCOMPLETE_PACKET_EXPIRY (R417). -/
  | incompletePacketExpiry (slice : Nat) (stream : Nat) (seq : Nat)
  /-- REPLICATE (R420). -/
  | replicate (slice : Nat) (pick : Nat)
  /-- ALLOC (R380). -/
  | alloc (slice : Nat) (req : Nat) (pick : Nat)
  /-- SHARE (R382). -/
  | share (slice : Nat) (req : Nat) (n : Nat) (mask : Nat) (ids : List Nat)
  /-- HANDOFF (R384). -/
  | handoff (slice : Nat) (req : Nat) (to_ : Nat) (ids : List Nat)
  /-- RELEASE (R382). -/
  | release (slice : Nat) (req : Nat) (ids : List Nat)
  /-- FREE (R382). -/
  | free (slice : Nat) (req : Nat) (ids : List Nat)
  /-- RELEASE_FREE (R383). -/
  | releaseFree (slice : Nat) (req : Nat) (ids : List Nat)
  /-- STAGE_AGE_EXPIRY (R390). -/
  | stageAgeExpiry (slice : Nat) (q : Nat) (pick : Nat)
  /-- CHUNK_WRITE_ISSUE (R390). -/
  | chunkWriteIssue (slice : Nat) (q : Nat) (pick : Nat)
  /-- CHUNK_WRITE_COMPLETE (R390). -/
  | chunkWriteComplete (slice : Nat) (q : Nat)
  /-- CHUNK_FETCH_ISSUE (R391). -/
  | chunkFetchIssue (slice : Nat) (q : Nat) (pick : Nat)
  /-- CHUNK_FETCH_RETURN (R391). -/
  | chunkFetchReturn (slice : Nat) (q : Nat) (ok : Bool)
  /-- BUFFER_RECLAIM_SWEEP (R400). -/
  | bufferReclaimSweep (slice : Nat) (req : Nat)
  /-- SCHEDULE_DECISION (R438). -/
  | scheduleDecision (slice : Nat) (j : Nat)
  /-- SHAPER_REFILL (R446). -/
  | shaperRefill (slice : Nat)
  /-- STARVE_EXPIRY (R450). -/
  | starveExpiry (slice : Nat) (q : Nat)
  /-- FRAME_TRANSMIT (R96). -/
  | frameTransmit (port : Nat)
  /-- TX_COMPLETE (R383). -/
  | txComplete (port : Nat)
  /-- PAUSE_EXPIRY (R99). -/
  | pauseExpiry (port : Nat)
  /-- PFC_EXPIRY (R100). -/
  | pfcExpiry (port : Nat) (prio : Nat)
  /-- PFC_STORM (R105). -/
  | pfcStorm (port : Nat) (cls : Nat)
  /-- PFC_RECOVER_EXPIRY (R105). -/
  | pfcRecoverExpiry (port : Nat) (prio : Nat)
  /-- XOFF (R397). -/
  | xoff (port : Nat) (prio : Nat)
  /-- XON (R397). -/
  | xon (port : Nat) (prio : Nat)
  /-- PAUSE_REFRESH (R106). -/
  | pauseRefresh (port : Nat) (prio : Nat)
  /-- PAUSE_FRAME_SEND (R107). -/
  | pauseFrameSend (port : Nat)
  /-- PRT_MODE_WRITE (R43). -/
  | prtModeWrite (who : Agent) (port : Nat) (v : Word)
  /-- PORT_RESET (R821). -/
  | portReset (who : Agent) (port : Nat) (v : Word)
  /-- LANE_RESET (R821). -/
  | laneReset (who : Agent) (lane : Nat) (v : Word)
  /-- OCTET_RESET (R41). -/
  | octetReset (who : Agent) (octet : Nat) (v : Word)
  /-- OCTET_PLL_RELOCK (R41). -/
  | octetPllRelock (octet : Nat)
  /-- OCTET_PLL_UNLOCK (R80). -/
  | octetPllUnlock (octet : Nat)
  /-- PORT_DISABLE_DRAIN_EXPIRY (R52). -/
  | portDisableDrainExpiry (port : Nat)
  /-- AN_PAGE_RECEIVE (R56). -/
  | anPageReceive (port : Nat) (valid : Bool) (page : AnPage)
  /-- AN_TRAINING_COMPLETE (R53). -/
  | anTrainingComplete (port : Nat)
  /-- AN_ATTEMPT_FAIL (R55). -/
  | anAttemptFail (port : Nat)
  /-- LT_TIMEOUT (R55). -/
  | ltTimeout (port : Nat)
  /-- PCS_LINK_UP (R822). -/
  | pcsLinkUp (port : Nat)
  /-- PCS_LINK_LOST (R58). -/
  | pcsLinkLost (port : Nat)
  /-- UP_DEBOUNCE_EXPIRY (R58). -/
  | upDebounceExpiry (port : Nat)
  /-- LINK_FAULT (R59). -/
  | linkFault (port : Nat) (fault : Nat)
  /-- DOWN_DELAY_EXPIRY (R59). -/
  | downDelayExpiry (port : Nat)
  /-- LANE_LOS (R59). -/
  | laneLos (lane : Nat) (signal : Bool)
  /-- EBB_HELLO_TIMER (R64). -/
  | ebbHelloTimer (port : Nat)
  /-- EBB_FRAME_RECEIVE (R66). -/
  | ebbFrameReceive (port : Nat)
  /-- EBB_SHED (R68). -/
  | ebbShed (port : Nat)
  /-- EBB_RESTORE_TRIGGER (R69). -/
  | ebbRestoreTrigger (port : Nat)
  /-- EBB_REQUEST_TIMEOUT (R66). -/
  | ebbRequestTimeout (port : Nat)
  /-- EBB_WAKE_TIMEOUT (R71). -/
  | ebbWakeTimeout (port : Nat)
  /-- EBB_WIDTH_SWITCH (R69). -/
  | ebbWidthSwitch (port : Nat)
  /-- LPI_ENTRY (R74). -/
  | lpiEntry (lpi : LpiAt)
  /-- LPI_EXIT (R74). -/
  | lpiExit (port : Nat)
  /-- PRBS_ERR_CLEAR (R77). -/
  | prbsErrClear (who : Agent) (lane : Nat) (v : Word)
  /-- PRBS_ERROR (R77). -/
  | prbsError (lane : Nat) (locked : Bool) (n : Nat)
  /-- QUIET_N_FALL (R800). -/
  | quietNFall (lowNs : Nat)
  /-- QUIET_N_RISE (R62). -/
  | quietNRise
  /-- MKPDU_RECEIVE (R133). -/
  | mkpduReceive (port : Nat) (m : Mkpdu)
  /-- MKA_HELLO_SEND (R132). -/
  | mkaHelloSend (port : Nat)
  /-- MKA_PEER_TIMEOUT (R133). -/
  | mkaPeerTimeout (port : Nat) (sci : BitVec 64)
  /-- TX_SA_SWITCH (R134). -/
  | txSaSwitch (port : Nat)
  /-- SA_LINGER_EXPIRY (R134). -/
  | saLingerExpiry (port : Nat)
  /-- SA_STATE_ECC (R136). -/
  | saStateEcc (port : Nat) (tx : Bool) (sc : Nat) (an : Nat)
  /-- PRS_DISABLE (R158). -/
  | prsDisable (who : Agent) (pipe : Nat) (v : Word)
  /-- PRS_PARITY_CHECK (R159). -/
  | prsParityCheck (pipe : Nat) (bad : Option Nat)
  /-- STAGE_QUIET (R736). -/
  | stageQuiet (blk inst : Nat)
  /-- DRAIN_LIMIT_EXPIRY (R736). -/
  | drainLimitExpiry (blk inst : Nat)
  /-- BEGIN (R179). -/
  | beginSet (tag : Nat) (pipe : Nat)
  /-- BEGIN_COPY_DONE (R179). -/
  | beginCopyDone (pipe : Nat)
  /-- RULE_WRITE (R179). -/
  | ruleWrite (tag : Nat) (pipe : Nat) (bank : Nat) (row : Nat) (value : BitVec 640) (care : BitVec 640) (act : BitVec 64)
  /-- RULE_DELETE (R179). -/
  | ruleDelete (tag : Nat) (pipe : Nat) (bank : Nat) (row : Nat)
  /-- COMMIT (R179). -/
  | commit (tag : Nat) (pipe : Nat)
  /-- EPOCH_FLIP (R184). -/
  | epochFlip (pipe : Nat)
  /-- SLOT_DRAINED (R181). -/
  | slotDrained (pipe : Nat)
  /-- EPOCH_DRAIN_LIMIT (R182). -/
  | epochDrainLimit (pipe : Nat)
  /-- RBK_SCRUB (R188). -/
  | rbkScrub (pipe : Nat) (corrected : Nat) (bad : Option Nat)
  /-- RBK_PARITY_CHECK (R189). -/
  | rbkParityCheck (pipe : Nat) (slot : Nat) (bad : Option Nat)
  /-- RBK_DISABLE (R190). -/
  | rbkDisable (who : Agent) (pipe : Nat) (v : Word)
  /-- EM_INSERT (R207). -/
  | emInsert (tag : Nat) (pipe : Nat) (sect : Nat) (key : Nat) (static : Bool) (cls : Nat) (word : BitVec 32) (meta_ : Nat)
  /-- EM_DELETE (R209). -/
  | emDelete (tag : Nat) (pipe : Nat) (sect : Nat) (key : Nat)
  /-- EM_MODIFY (R209). -/
  | emModify (tag : Nat) (pipe : Nat) (sect : Nat) (key : Nat) (static : Bool) (cls : Nat) (word : BitVec 32) (meta_ : Nat)
  /-- EM_HIT_READ (R238). -/
  | emHitRead (tag : Nat) (pipe : Nat) (sect : Nat) (key : Nat)
  /-- ROUTE_ADD (R216). -/
  | routeAdd (tag : Nat) (vrf : Nat) (v6 : Bool) (len : Nat) (prefix_ : Nat) (word : BitVec 32)
  /-- ROUTE_DELETE (R216). -/
  | routeDelete (tag : Nat) (vrf : Nat) (v6 : Bool) (len : Nat) (prefix_ : Nat)
  /-- ROUTE_MODIFY (R216). -/
  | routeModify (tag : Nat) (vrf : Nat) (v6 : Bool) (len : Nat) (prefix_ : Nat) (word : BitVec 32)
  /-- TABLE_SCRUB (R217). -/
  | tableScrub (pipe : Nat) (emCorrected : Nat) (lpmCorrected : Nat) (kind : Nat) (bad : Option Nat)
  /-- EXM_PARITY_CHECK (R218). -/
  | exmParityCheck (pipe : Nat) (bad : Option Nat)
  /-- EXM_DISABLE (R219). -/
  | exmDisable (who : Agent) (pipe : Nat) (v : Word)
  /-- LPM_DISABLE (R219). -/
  | lpmDisable (who : Agent) (pipe : Nat) (v : Word)
  /-- LEARN_DECIDE (R232). -/
  | learnDecide (take : LearnTake)
  /-- LEARN_TICK (R225). -/
  | learnTick (pipe : Nat)
  /-- LRN_FLUSH (R235). -/
  | lrnFlush (tag : Nat) (pipe : Nat) (sect : Option Nat) (port : Option Nat) (vid : Option Nat)
  /-- SWEEP_PASS_START (R239). -/
  | sweepPassStart (pipe : Nat)
  /-- SWEEP_VISIT (R240). -/
  | sweepVisit (pipe : Nat)
  /-- WALK_VISIT (R246). -/
  | walkVisit (pipe : Nat) (kind : Nat) (block : Nat) (f : ShadowFinding)
  /-- WALK_PERIOD_START (R246). -/
  | walkPeriodStart (pipe : Nat)
  /-- SHADOW_REPAIR (R247). -/
  | shadowRepair (pipe : Nat) (kind : Nat) (block : Nat) (f : ShadowFinding)
  /-- LRN_DISABLE (R250). -/
  | lrnDisable (who : Agent) (pipe : Nat) (v : Word)
  /-- FLOW_DELETE (R275). -/
  | flowDelete (tag : Nat) (cls : Nat) (key : Nat)
  /-- FLOW_READ (R309). -/
  | flowRead (tag : Nat) (cls : Nat) (key : Nat)
  /-- FLW_DISABLE (R279). -/
  | flwDisable (who : Agent) (pipe : Nat) (v : Word)
  /-- SLICE_DISABLE (R280). -/
  | sliceDisable (who : Agent) (slice : Nat) (v : Word)
  /-- SEED_RESTORE (R278). -/
  | seedRestore (g : Nat) (how : Nat)
  /-- LB_MEMBER_SET (R293). -/
  | lbMemberSet (tag : Nat) (group : Nat) (slot : Nat) (nh : Nat) (weight : Nat)
  /-- LB_MEMBER_DRAIN (R293). -/
  | lbMemberDrain (tag : Nat) (group : Nat) (slot : Nat)
  /-- LB_MEMBER_REMOVE (R293). -/
  | lbMemberRemove (tag : Nat) (group : Nat) (slot : Nat)
  /-- LB_GROUP_STATUS (R291). -/
  | lbGroupStatus (tag : Nat) (group : Nat)
  /-- SESSION_CREATE (R343). -/
  | sessionCreate (tag : Nat) (idx : Nat) (body : BitVec 4096)
  /-- SESSION_MODIFY (R343). -/
  | sessionModify (tag : Nat) (idx : Nat) (body : BitVec 4096) (clearNotified : Bool) (endMarker : Nat)
  /-- SESSION_DELETE (R343). -/
  | sessionDelete (tag : Nat) (idx : Nat)
  /-- SESSION_READ (R343). -/
  | sessionRead (tag : Nat) (idx : Nat)
  /-- URR_QUERY (R343). -/
  | urrQuery (tag : Nat) (idx : Nat) (mask : Nat)
  /-- USAGE_SETTLE (R333). -/
  | usageSettle (idx : Nat) (u : Nat)
  /-- TIME_THRESHOLD_EXPIRY (R334). -/
  | timeThresholdExpiry (idx : Nat) (u : Nat)
  /-- REPORT_RING_SPACE (R334). -/
  | reportRingSpace
  /-- BUFFER_ENQUEUE (R336). -/
  | bufferEnqueue
  /-- BUFFER_EXPIRY (R336). -/
  | bufferExpiry (idx : Nat)
  /-- REPLAY_SEND (R338). -/
  | replaySend (idx : Nat)
  /-- REPLAY_END (R338). -/
  | replayEnd (idx : Nat)
  /-- ECHO_REQUEST (R340). -/
  | echoRequest (n : Nat)
  /-- ERROR_INDICATION_SEND (R341). -/
  | errorIndicationSend
  /-- END_MARKER_SEND (R342). -/
  | endMarkerSend
  /-- UPS_DISABLE (R347). -/
  | upsDisable (who : Agent) (pipe : Nat) (v : Word)
  /-- NH_WRITE (R351). -/
  | nhWrite (tag : Nat) (idx : Nat) (entry : BitVec 128)
  /-- TPL_WRITE (R351). -/
  | tplWrite (tag : Nat) (idx : Nat) (t : BitVec 1024)
  /-- EDIT_WRITE (R355). -/
  | editWrite (tag : Nat) (idx : Nat) (words : List (BitVec 32))
  /-- EDT_DISABLE (R372). -/
  | edtDisable (who : Agent) (pipe : Nat) (v : Word)
  /-- CAP_RD_WRITE (R369). -/
  | capRdWrite (who : Agent) (ring : Nat) (v : Word)
  /-- CAP_RING_DISABLE (R372). -/
  | capRingDisable (who : Agent) (ring : Nat) (v : Word)
  /-- EDT_TABLE_RESTORE (R371). -/
  | edtTableRestore (pipe : Nat) (kind : Nat) (idx : Nat)
  /-- QUE_QCFG_WRITE (R409). -/
  | queQcfgWrite (who : Agent) (slice : Nat) (v : Word)
  /-- QUEUE_DRAIN_EXPIRY (R430). -/
  | queueDrainExpiry (slice : Nat) (q : Nat)
  /-- QUE_DISABLE (R430). -/
  | queDisable (who : Agent) (slice : Nat) (v : Word)
  /-- HOLD_DEADLINE_EXPIRY (R425). -/
  | holdDeadlineExpiry (port : Nat)
  /-- PORT_FLUSH_COMPLETE (R425). -/
  | portFlushComplete (port : Nat)
  /-- MC_GROUP_WRITE (R422). -/
  | mcGroupWrite (tag : Nat) (group : Nat) (l0 : List (BitVec 64)) (l1 : List (BitVec 64)) (l2 : List (BitVec 64)) (l3 : List (BitVec 64))
  /-- QUEUE_MOVE (R427). -/
  | queueMove (tag : Nat) (slice : Nat) (a : Nat) (b : Nat)
  /-- QUEUE_MOVE_DONE (R427). -/
  | queueMoveDone (slice : Nat) (a : Nat)
  /-- MOVE_DRAIN_EXPIRY (R428). -/
  | moveDrainExpiry (slice : Nat) (a : Nat)
  /-- SCH_ELEMENT_WRITE (R449). -/
  | schElementWrite (who : Agent) (slice : Nat) (v : Word)
  /-- SCH_ELEMENT_READ (R449). -/
  | schElementRead (who : Agent) (slice : Nat) (v : Word)
  /-- POLICER_WRITE (R456). -/
  | policerWrite (who : Agent) (p : Nat) (v : Word)
  /-- POLICER_READ (R456). -/
  | policerRead (who : Agent) (p : Nat) (v : Word)
  /-- SCH_STATE_ECC_FIX (R457). -/
  | schStateEccFix (slice : Nat) (policer : Bool) (level : Nat) (site : EccAt)
  /-- TOD_SNAP (R465). -/
  | todSnap (who : Agent) (v : Word)
  /-- TOD_SET (R466). -/
  | todSet (who : Agent) (v : Word)
  /-- LHT_CTRL_WRITE (R477). -/
  | lhtCtrlWrite (who : Agent) (v : Word)
  /-- PPS_IN_EDGE (R468). -/
  | ppsInEdge (r : Nat) (rising : Bool) (widthNs : Nat)
  /-- FREQ_GATE_MEASURE (R468). -/
  | freqGateMeasure (r : Nat) (ppb : Int)
  /-- REF_QUALIFY (R468). -/
  | refQualify (r : Nat)
  /-- REF_LOSS (R468). -/
  | refLoss (r : Nat) (lock : Bool)
  /-- WTR_EXPIRY (R471). -/
  | wtrExpiry (synce : Bool)
  /-- TOD_MESSAGE_RECEIVE (R470). -/
  | todMessageReceive (sec : Nat) (csumOk : Bool)
  /-- TOD_LABEL_LOSS (R470). -/
  | todLabelLoss
  /-- PTP_PHASE_SAMPLE (R506). -/
  | ptpPhaseSample (port : Nat)
  /-- TIME_LOCK (R477). -/
  | timeLock
  /-- TU_RECOMPUTE (R482). -/
  | tuRecompute
  /-- MODEL_FIT (R480). -/
  | modelFit (y0 : Nat) (d : Nat) (k : Nat) (tl : Nat) (uf : Nat) (ud : Nat) (ut : Nat) (stored : Bool)
  /-- TEMP_SAMPLE (R485). -/
  | tempSample (mv : Nat)
  /-- TEMP_FAULT_CLEAR (R485). -/
  | tempFaultClear
  /-- OSC_LOSS (R486). -/
  | oscLoss
  /-- OSC_RECOVER (R486). -/
  | oscRecover
  /-- PPS_OUT_EDGE (R487). -/
  | ppsOutEdge (n : Nat)
  /-- PPS_PULSE_END (R487). -/
  | ppsPulseEnd (n : Nat)
  /-- TOD_TRANSMIT (R489). -/
  | todTransmit
  /-- RADIO_LOCK (R474). -/
  | radioLock
  /-- PTP_MESSAGE_RECEIVE (R504). -/
  | ptpMessageReceive (n : Nat)
  /-- ANNOUNCE_TIMEOUT (R502). -/
  | announceTimeout (port : Nat)
  /-- PTP_MESSAGE_SEND (R500). -/
  | ptpMessageSend (port : Nat) (typ : Nat)
  /-- TX_TS_MISSING (R500). -/
  | txTsMissing (port : Nat)
  /-- FAULTY_EXIT (R501). -/
  | faultyExit (port : Nat)
  /-- GRANT_RENEW (R508). -/
  | grantRenew (port : Nat) (k : Nat) (typ : Nat)
  /-- GRANT_EXPIRY (R508). -/
  | grantExpiry (port : Nat)
  /-- QUALITY_DERIVE (R509). -/
  | qualityDerive
  /-- PTP_TASK_RESUME (R503). -/
  | ptpTaskResume
  /-- PTP_DISABLE (R501). -/
  | ptpDisable (who : Agent) (v : Word)
  /-- ESMC_RECEIVE (R511). -/
  | esmcReceive (n : Nat)
  /-- ESMC_TIMEOUT (R512). -/
  | esmcTimeout (port : Nat)
  /-- QL_HOLDOFF_EXPIRY (R512). -/
  | qlHoldoffExpiry (port : Nat)
  /-- ESMC_INFO_SEND (R514). -/
  | esmcInfoSend (port : Nat)
  /-- ESMC_EVENT_SEND (R514). -/
  | esmcEventSend (port : Nat)
  /-- EXPRESS_ARRIVE (R519). -/
  | expressArrive (n : Nat)
  /-- CUT_THROUGH_START (R523). -/
  | cutThroughStart (port : Nat)
  /-- CUT_THROUGH_CUT (R525). -/
  | cutThroughCut (port : Nat)
  /-- PREEMPT_VERIFY_SEND (R527). -/
  | preemptVerifySend (port : Nat)
  /-- PREEMPT_VERIFY_RESPONSE (R527). -/
  | preemptVerifyResponse (port : Nat)
  /-- PREEMPT_VERIFY_FAIL (R527). -/
  | preemptVerifyFail (port : Nat)
  /-- EXP_WRITE (R521). -/
  | expWrite (tag : Nat) (pipe : Nat) (idx : Nat) (e : BitVec 128)
  /-- GCL_WRITE (R532). -/
  | gclWrite (who : Agent) (pipe : Nat) (v : Word)
  /-- GCL_READ (R532). -/
  | gclRead (who : Agent) (pipe : Nat) (v : Word)
  /-- GCL_COMMIT (R535). -/
  | gclCommit (who : Agent) (pipe : Nat) (v : Word)
  /-- GCL_CANCEL (R535). -/
  | gclCancel (who : Agent) (pipe : Nat) (v : Word)
  /-- LIST_CHANGE (R535). -/
  | listChange (port : Nat)
  /-- GATE_ENTRY_START (R533). -/
  | gateEntryStart (port : Nat)
  /-- MERGE_HOLD_ASSERT (R533). -/
  | mergeHoldAssert (port : Nat)
  /-- CYCLE_START (R538). -/
  | cycleStart (port : Nat)
  /-- STEP_GATE_FALLBACK (R537). -/
  | stepGateFallback (port : Nat)
  /-- GTE_PORT_CFG_WRITE (R540). -/
  | gtePortCfgWrite (who : Agent) (port : Nat) (v : Word)
  /-- EXPRESS_DISABLE_EXPIRY (R540). -/
  | expressDisableExpiry (port : Nat)
  /-- HB_REQUEST_ISSUE (R551). -/
  | hbRequestIssue (pc : Nat) (j : Nat)
  /-- HB_REQUEST_COMPLETE (R562). -/
  | hbRequestComplete (pc : Nat) (e : HbEcc)
  /-- HB_AGE_PROMOTE (R552). -/
  | hbAgePromote (pc : Nat) (j : Nat)
  /-- BANK_REFRESH (R555). -/
  | bankRefresh (pc : Nat) (bank : Nat)
  /-- STACK_TEMP_READ (R555). -/
  | stackTempRead (st : Nat) (temp : Int)
  /-- RETRAIN_PAUSE (R557). -/
  | retrainPause (pc : Nat)
  /-- FULL_RETRAIN (R558). -/
  | fullRetrain (pc : Nat) (ok : Bool)
  /-- MAINT_FORCE (R559). -/
  | maintForce (kind : Nat) (pc : Nat)
  /-- LANE_REPAIR (R560). -/
  | laneRepair (pc : Nat) (spare : Bool)
  /-- SCRUB_READ (R563). -/
  | scrubRead (st : Nat) (e : HbEcc) (newer : Bool)
  /-- ROW_REPAIR (R565). -/
  | rowRepair (pc : Nat) (row : Nat) (spare : Bool)
  /-- HB_REPAIR (R564). -/
  | hbRepair (tag : Nat) (pc : Nat) (row : Nat)
  /-- PC_RETIRE (R567). -/
  | pcRetire (pc : Nat) (parity : Bool)
  /-- HB_INIT_FILL (R569). -/
  | hbInitFill
  /-- HB_BACKGROUND_FILL_DONE (R569). -/
  | hbBackgroundFillDone (st : Nat)
  /-- SELF_REFRESH_ENTER (R570). -/
  | selfRefreshEnter (st : Nat)
  /-- SELF_REFRESH_EXIT (R571). -/
  | selfRefreshExit (st : Nat)
  /-- TIDE_BOUNDARY (R580). -/
  | tideBoundary (g : Nat)
  /-- TIDE_ADMIT (R580). -/
  | tideAdmit (g : Nat) (act : Nat)
  /-- TIDE_APPLY (R587). -/
  | tideApply (who : Agent) (inst : Nat) (v : Word)
  /-- TIDE_STARVE (R591). -/
  | tideStarve (g : Nat) (act : Nat)
  /-- TTB_PARITY_CHECK (R589). -/
  | ttbParityCheck (g : Nat) (act : Nat) (counter : Bool) (register : Bool)
  /-- KEEPER_NOP (R597). -/
  | keeperNop (e : Nat) (task : Nat) (changes : List KChange) (found : Nat)
  /-- KEEPER_HOLD (R599). -/
  | keeperHold (e : Nat) (task : Nat) (changes : List KChange)
  /-- KEEPER_RELEASE (R600). -/
  | keeperRelease (e : Nat) (task : Nat) (changes : List KChange)
  /-- KEEPER_YIELD (R598). -/
  | keeperYield (e : Nat) (task : Nat) (changes : List KChange)
  /-- KEEPER_WAIT (R598). -/
  | keeperWait (e : Nat) (task : Nat) (changes : List KChange)
  /-- KEEPER_BEAT (R605). -/
  | keeperBeat (e : Nat) (task : Nat) (changes : List KChange)
  /-- ILLEGAL_INSTRUCTION (R597). -/
  | illegalInstruction (e : Nat) (code : Nat)
  /-- COMMIT_PORT_APPLY (R600). -/
  | commitPortApply
  /-- HOLD_OVERRUN (R601). -/
  | holdOverrun (e : Nat) (why : Nat)
  /-- KEEPER_RESULT_ARRIVE (R603). -/
  | keeperResultArrive (task : Nat) (gen : Nat)
  /-- ENGINE_WATCHDOG_EXPIRY (R605). -/
  | engineWatchdogExpiry (task : Nat)
  /-- ENGINE_RESET_DONE (R605). -/
  | engineResetDone (e : Nat)
  /-- TASK_MOVE_RUN (R604). -/
  | taskMoveRun (task : Nat)
  /-- TASK_MOVE (R604). -/
  | taskMove (tag : Nat) (task : Nat)
  /-- CLUSTER_LOCKUP (R606). -/
  | clusterLockup (why : Nat)
  /-- CLUSTER_RESET_DONE (R606). -/
  | clusterResetDone
  /-- SUPERVISOR_WATCHDOG_EXPIRY (R607). -/
  | supervisorWatchdogExpiry
  /-- CONTROL_STORE_WALK (R595). -/
  | controlStoreWalk (fetched : Option (Nat × Nat)) (found : Nat)
  /-- CONTROL_STORE_RESTORE (R595). -/
  | controlStoreRestore (word : Nat) (crcOk : Bool)
  /-- PATCH_LOAD (R609). -/
  | patchLoad (tag : Nat) (m : Manifest) (words : List (Nat × BitVec 256))
  /-- PATCH_QUIET_POINT (R609). -/
  | patchQuietPoint
  /-- PATCH_QUIET_EXPIRY (R609). -/
  | patchQuietExpiry
  /-- ABORT (R610). -/
  | abort (tag : Nat) (target : Nat)
  /-- COUNTER_READ (R613). -/
  | counterRead (tag : Nat) (names : List (Machine.Ctr × Nat))
  /-- BUF_READ (R378). -/
  | bufRead (tag : Nat) (slice : Nat) (id : Nat)
  /-- MBX_CMD_TAIL_WRITE (R611). -/
  | mbxCmdTailWrite (who : Agent) (v : Word)
  /-- MBX_FETCH (R611). -/
  | mbxFetch (h : MbxHeader)
  /-- MBX_COMMAND_START (R614). -/
  | mbxCommandStart (tag : Nat)
  /-- MBX_COMMAND_TIMEOUT (R615). -/
  | mbxCommandTimeout (tag : Nat)
  /-- MBX_REPLY_WRITE (R616). -/
  | mbxReplyWrite
  /-- MBX_DMA_TIMEOUT (R617). -/
  | mbxDmaTimeout
  /-- MBX_ENABLE (R617). -/
  | mbxEnable (who : Agent) (v : Word)
  /-- NOTIFICATION_WRITE (R618). -/
  | notificationWrite
  /-- KEY_WRITE (R677). -/
  | keyWrite (tag : Nat) (key : WrappedCak)
  /-- CAK_RETIRE (R678). -/
  | cakRetire (port : Nat)
  /-- BUNDLE_ENABLE (R625). -/
  | bundleEnable (who : Agent) (b : Nat) (v : Word)
  /-- BUNDLE_TRAINED (R625). -/
  | bundleTrained (b : Nat)
  /-- HELLO_RECEIVE (R626). -/
  | helloReceive (b : Nat) (h : Hello)
  /-- AUTH_RETRY (R626). -/
  | authRetry (b : Nat)
  /-- AUTH_TIMEOUT (R626). -/
  | authTimeout (b : Nat)
  /-- BUNDLE_RETRAIN_TIMER (R625). -/
  | bundleRetrainTimer (b : Nat)
  /-- FLEIT_FRAME_SEND (R628). -/
  | fleitFrameSend (b : Nat) (pick : Nat)
  /-- FLEIT_FRAME_RECEIVE (R629). -/
  | fleitFrameReceive (b : Nat) (hdr : BitVec 128) (payload : List Byte) (crc : Word)
  /-- NAK_RECEIVE (R630). -/
  | nakReceive (b : Nat) (ackSeq : Nat)
  /-- REPLAY_TIMEOUT (R630). -/
  | replayTimeout (b : Nat)
  /-- FLEIT_ACK_RECEIVE (R630). -/
  | fleitAckReceive (b : Nat) (ackSeq : Nat) (ch : Chan) (credits : Nat)
  /-- CREDIT_STALL (R631). -/
  | creditStall (b : Nat) (ch : Chan)
  /-- HEARTBEAT_SEND (R633). -/
  | heartbeatSend (b : Nat)
  /-- HEARTBEAT_LOSS (R633). -/
  | heartbeatLoss (b : Nat)
  /-- FLEIT_LANE_FAIL (R634). -/
  | fleitLaneFail (b : Nat) (lane : Nat)
  /-- SPARE_REQ_RECEIVE (R634). -/
  | spareReqReceive (b : Nat) (lane : Nat)
  /-- SPARE_ACK (R634). -/
  | spareAck (b : Nat)
  /-- SPARE_RETURN (R635). -/
  | spareReturn (b : Nat) (lane : Nat)
  /-- LINK_TIME_SAMPLE (R638). -/
  | linkTimeSample (b : Nat)
  /-- STACK_MASTER_CHECK (R636). -/
  | stackMasterCheck
  /-- PAIR_ELECTION (R640). -/
  | pairElection
  /-- MIRROR_APPEND (R644). -/
  | mirrorAppend
  /-- MIRROR_ACCEPT (R645). -/
  | mirrorAccept
  /-- MIRROR_APPLY (R645). -/
  | mirrorApply
  /-- TWIN_LOST (R647). -/
  | twinLost
  /-- YIELD_SEND (R648). -/
  | yieldSend
  /-- TAKEOVER (R649). -/
  | takeover
  /-- REJOIN_FILL (R651). -/
  | rejoinFill
  /-- RESYNC_WALK (R652). -/
  | resyncWalk
  /-- SYNC_END_ACCEPT (R652). -/
  | syncEndAccept
  /-- BUNDLE_DISABLE (R654). -/
  | bundleDisable (who : Agent) (b : Nat) (v : Word)
  /-- BUNDLE_CLOSE_EXPIRY (R654). -/
  | bundleCloseExpiry (b : Nat)
  /-- FUSE_READ (R658). -/
  | fuseRead
  /-- FUSE_BLOW (R659). -/
  | fuseBlow
  /-- PROVISION_APPLY (R661). -/
  | provisionApply (ps : List Provision)
  /-- MANIFEST_VERIFY (R662). -/
  | manifestVerify (m : Manifest)
  /-- SECTION_HASH (R663). -/
  | sectionHash (digest : BitVec 384) (tagOk : Bool) (keys : List (WrappedCak × List Nat))
  /-- SVN_COMMIT_DUE (R665). -/
  | svnCommitDue (golden : Manifest)
  /-- SVN_RECHECK (R665). -/
  | svnRecheck (golden : Manifest)
  /-- PATCH_SVN_COMMIT (R666). -/
  | patchSvnCommit
  /-- CERT_INSTALL (R668). -/
  | certInstall (who : Agent) (issuerHash : BitVec 384) (sigOk : Bool)
  /-- ATTEST (R671). -/
  | attest (who : Agent)
  /-- DEBUG_CHALLENGE (R681). -/
  | debugChallenge (who : Agent)
  /-- DEBUG_RESPONSE (R682). -/
  | debugResponse (who : Agent) (keyHash : BitVec 384) (sigOk : Bool)
  /-- CHALLENGE_EXPIRY (R681). -/
  | challengeExpiry
  /-- RNG_HEALTH_FAIL (R680). -/
  | rngHealthFail
  /-- GLITCH_TRIP (R684). -/
  | glitchTrip (sensor : Nat)
  /-- ATTEMPT_START (R692). -/
  | attemptStart (xspi : Bool)
  /-- FLASH_READ (R695). -/
  | flashRead (bytes : Nat) (ok : Bool)
  /-- FLASH_READ_TIMEOUT (R695). -/
  | flashReadTimeout
  /-- ATTEMPT_FAIL (R690). -/
  | attemptFail (cause : Nat)
  /-- PHASE_TIMEOUT (R690). -/
  | phaseTimeout
  /-- NO_IMAGE_RETRY (R693). -/
  | noImageRetry
  /-- FLASH_OP_READ (R702). -/
  | flashOpRead (who : Agent)
  /-- FLASH_OP_PROGRAM (R702). -/
  | flashOpProgram (who : Agent)
  /-- FLASH_OP_ERASE (R702). -/
  | flashOpErase (who : Agent)
  /-- FLASH_OP_TIMEOUT (R702). -/
  | flashOpTimeout
  /-- FUNCTION_LEVEL_RESET (R706). -/
  | functionLevelReset (cause : FlrCause)
  /-- PERST_ASSERT (R801). -/
  | perstAssert (lowClk : Nat)
  /-- RX_RING_DELIVER (R708). -/
  | rxRingDeliver (ring : Nat) (desc : BitVec 256)
  /-- TX_DESCRIPTOR (R709). -/
  | txDescriptor (ring : Nat) (desc : BitVec 256) (bytes : List Byte)
  /-- RING_TAIL_WRITE (R710). -/
  | ringTailWrite (a : Nat) (w : Word) (be : Nat)
  /-- RING_DISABLE (R710). -/
  | ringDisable (who : Agent) (tx : Bool) (ring : Nat) (v : Word)
  /-- RING_VECTOR_COALESCE (R711). -/
  | ringVectorCoalesce (tx : Bool) (ring : Nat)
  /-- DMA_TIMEOUT (R712). -/
  | dmaTimeout (tx : Bool) (ring : Nat)
  /-- POWER_ON (R720). -/
  | powerOn (lowClk : Nat)
  /-- BROWN_OUT (R809). -/
  | brownOut (rails : List Nat) (lowClk : Nat)
  /-- RESET_N_ASSERT (R721). -/
  | resetNAssert (lowClk : Nat)
  /-- RESET_N_RELEASE (R721). -/
  | resetNRelease
  /-- SOFTWARE_RESET (R722). -/
  | softwareReset (who : Agent) (v : Word)
  /-- DBG_RESET (R720). -/
  | dbgReset
  /-- RESET_TAKE_HOLD (R726). -/
  | resetTakeHold (wedged : Bool)
  /-- RESET_ASSERT (R726). -/
  | resetAssert
  /-- RELEASE_PHASE_COMPLETE (R728). -/
  | releasePhaseComplete (patches : List (Manifest × List (Nat × BitVec 256)))
  /-- TRIM_LOAD (R729). -/
  | trimLoad (region : Nat) (crcOk : Bool)
  /-- TRIM_RETRY (R729). -/
  | trimRetry
  /-- STATE_ADOPT (R733). -/
  | stateAdopt
  /-- BLOCK_RESET_PIPELINE (R735). -/
  | blockResetPipeline (who : Agent) (p : Nat) (v : Word)
  /-- BLOCK_RESET_DEVICE (R735). -/
  | blockResetDevice (who : Agent) (v : Word)
  /-- BLOCK_RESET_DONE (R735). -/
  | blockResetDone (key : Nat)
  /-- PWR_REQ_WRITE (R743). -/
  | pwrReqWrite (who : Agent) (k : Nat) (v : Word)
  /-- DOMAIN_DOWN_DONE (R745). -/
  | domainDownDone
  /-- DOMAIN_UP_DONE (R745). -/
  | domainUpDone
  /-- DOMAIN_POWER_FAIL (R745). -/
  | domainPowerFail
  /-- REFCLK_LOSS (R750). -/
  | refclkLoss (disturb : RefDisturb)
  /-- REFCLK_QUALIFY (R750). -/
  | refclkQualify (b : Bool)
  /-- REFCLK_SWITCH (R751). -/
  | refclkSwitch
  /-- CLOCK_LOSS (R752). -/
  | clockLoss
  /-- PLL_UNLOCK (R753). -/
  | pllUnlock (pll : Nat) (relocked : Bool)
  /-- JUNCTION_SAMPLE (R754). -/
  | junctionSample (readings : List Int)
  /-- SENSOR_REJOIN (R754). -/
  | sensorRejoin (j : Nat)
  /-- THERMAL_TRIP (R756). -/
  | thermalTrip
  /-- EVENT_RAISE (R761). -/
  | eventRaise (group : Nat) (index : Nat) (scope : Scope) (inst : Nat) (detail : Nat)
  /-- EVT_STATUS_CLEAR (R761). -/
  | evtStatusClear (who : Agent) (g : Nat) (v : Word)
  /-- EVT_ROUTE_WRITE (R762). -/
  | evtRouteWrite (who : Agent) (route : Route) (g : Nat) (v : Word)
  /-- MSIX_FOLD_EXPIRY (R764). -/
  | msixFoldExpiry (g : Nat)
  /-- LOG_FOLD_EXPIRY (R767). -/
  | logFoldExpiry (g : Nat) (j : Nat)
  /-- LOG_RD_WRITE (R768). -/
  | logRdWrite (who : Agent) (v : Word)
  /-- LOOPBACK_SET (R777). -/
  | loopbackSet (who : Agent) (port : Nat) (v : Word)
  /-- BIST_GO (R778). -/
  | bistGo (who : Agent) (v : Word)
  /-- BIST_DONE (R778). -/
  | bistDone (fails : Nat)
  /-- EXTEST_LOAD (R779). -/
  | extestLoad
  /-- INJECT_ARM (R780). -/
  | injectArm (who : Agent) (v : Word)
  /-- INJECT_EXPIRY (R780). -/
  | injectExpiry
  /-- PERTURB_START (R781). -/
  | perturbStart (who : Agent) (slot : Nat) (v : Word)
  /-- PERTURB_DUTY_TOGGLE (R781). -/
  | perturbDutyToggle (slot : Nat)
  /-- PERTURB_END (R781). -/
  | perturbEnd (slot : Nat)
  /-- LINK_FAULT_CLEAR (R59). -/
  | linkFaultClear (port : Nat) (fault : Nat)
  /-- CDR_LOCK_REGAINED (R69). -/
  | cdrLockRegained (port : Nat)
  /-- BUILDING_SLOT_CLEARED (R185). -/
  | buildingSlotCleared (pipe : Nat)
  /-- SYNCE_LOCK (R474). -/
  | synceLock
  /-- TIME_REALIGN (R483). -/
  | timeRealign
  /-- ATTEST_REPORT_DONE (R671). -/
  | attestReportDone
  /-- RNG_HEALTH_PASS (R680). -/
  | rngHealthPass
  /-- FLASH_OP_DONE (R702). -/
  | flashOpDone (data : List Word)
  /-- PCIE_LINK_UP (R706). -/
  | pcieLinkUp (speed : Nat) (width : Nat)
  /-- PWRGOOD_RISE (R721). -/
  | pwrgoodRise
  /-- PERST_RELEASE (R801). -/
  | perstRelease
  /-- VBK_RETENTION_LOSS (R802). -/
  | vbkRetentionLoss
  deriving DecidableEq, Repr

end Sys2Proof
end

