-- ==== Sys2Proof/Decode.lean ====
section
/-! DEFINITION. The command a word spells by the bits of spec/opcode_table.json.  No row of the table gives bits: the
commands are register accesses, messages, arrivals and expiries, so no word spells one. -/
namespace Sys2Proof

/-- The command that a word of `nbits` bits spells: none, since the table gives no row any bits. -/
def decodeTableWord (_nbits _w : Nat) : Option Instr := none

end Sys2Proof
end

