-- ==== Sys2Proof/Config.lean ====
section
/-! DEFINITION. What the implementation fixes, and the values the manual leaves open: constants of time
(spec 01, Table 1.1), and the FREE VALUES and uninterpreted functions, which have no body, so that nothing can be
proved of the value they take. -/
namespace Sys2Proof.Config

/-- Core clocks in one microsecond (core PLL 1.75 GHz, Table 26.4). -/
def usClk : Nat := 1750
/-- Core clocks in one millisecond. -/
def msClk : Nat := 1000 * usClk
/-- Core clocks in one second. -/
def sClk : Nat := 1000 * msClk

/-- Units of the time-of-day counter in one nanosecond: 7 · 2^16, so that one core clock (4/7 ns) and one
sub-nanosecond unit (2^-16 ns, R112) are both whole. -/
def todNs : Nat := 7 * 65536
/-- Units of the time-of-day counter in one core clock. -/
def todClk : Nat := 4 * 65536
/-- Time of day that passes in a core clock, by its number: the frequencies of the CORE and TIME clocks have no fixed relation (R33). -/
opaque todPerClock : Nat → Int → Nat
/-- The frequency a DPLL of a bandwidth code moves to, from its last one and a phase sample, in 0.0001 ppt (R474; the spec gives the
bandwidth alone). -/
opaque loopFreq : Nat → Int → Int → Int
/-- The frequency of the SyncE DPLL in a core clock, in 0.0001 ppt: it follows a clock from outside (R474). -/
opaque synceFreq : Nat → Int
/-- Units of the time-of-day counter in one second. -/
def todS : Nat := 1000000000 * todNs

/-- The stack's row of an offset of a pseudo-channel, which is internal (R548). -/
opaque hbRow : Nat → Nat → Nat
/-- The bank in a row address of a harbour stack (R548: internal). -/
opaque hbBank : Nat → Nat

/-- FREE VALUE. A byte the manual does not state; the argument is the number of free values taken before. -/
opaque freeByte : Nat → Byte
/-- FREE VALUE. A register word the manual does not state. -/
opaque freeWord : Nat → Word
/-- FREE VALUE. A truth value the manual does not state. -/
opaque freeBool : Nat → Bool
/-- FREE VALUE. A number the manual does not state. -/
opaque freeNat : Nat → Nat
/-- FREE VALUE. The slot of a group whose record fails its check in harbour memory when the expiry walker reads it, if one does. -/
opaque freeSlot : Nat → Option Nat
/-- FREE VALUE. What fails its check at the adoption of retained state (R248, R734), each an index and a kind. -/
opaque freeFinds : Nat → List (Nat × Nat)

/-- The 802.3 default transmit wake time of a port type in core clocks (R74), which the manual names but does not state. -/
opaque lpiWake : Nat → Nat
/-- The fixed lead of the transmit decision over the egress ball for a port type, in core clocks (R534), of which the manual
states one case. -/
opaque txLead : Nat → Nat
/-- FREE VALUE. The time DPLL's filtered phase error after a sample, and the filtered offset of a reference (R468, R477): from
the bandwidth code, the value before and the sample; the manual does not state the filters. -/
opaque dpllFilter : Nat → Int → Int → Int
/-- FREE VALUE. The filtered mean path delay of a PTP port (Table 17.8), from the value before and a measurement. -/
opaque pathFilter : Int → Int → Int
/-- Bytes of a row of a pseudo-channel, which a row repair copies (R565); the manual does not state it. -/
opaque rowBytes : Nat
/-- Bytes of deficit one unit of weight adds in one round of the ingress arbiter, less one (R51: the manual gives
the weights and not the quantum). -/
opaque drrQuantum : Nat
/-- The initial register of the CRC-32C in records, models and shadow tags (R244, R254, R320, R480): the manual names the polynomial and
not the initial value. -/
opaque crcStart : Nat
/-- The CRC a register ends as: the manual does not say whether it is inverted. -/
opaque crcEnd : Nat → BitVec 32
/-- Byte `i` of the key stream of GCM in counter mode (802.1AE) under a suite, a SAK, an SCI and a packet number, uninterpreted. -/
opaque gcmStream : Nat → BitVec 256 → Nat → Nat → Nat → Byte
/-- The ICV of GCM under a suite, a SAK, an SCI and a packet number over the bytes of a protected frame, uninterpreted. -/
opaque gcmIcv : Nat → BitVec 256 → Nat → Nat → List Byte → BitVec 128
/-- The ICK (0) or KEK (1) that 802.1X derives from a CAK and its CKN (R131), uninterpreted. -/
opaque mkaKey : Nat → BitVec 256 → BitVec 256 → BitVec 256
/-- The ICV of an MKPDU under an ICK, over what it says, uninterpreted. -/
opaque mkaIcv : BitVec 256 → List Nat → BitVec 128
/-- A SAK wrapped under a KEK (AES key wrap), and unwrapped, uninterpreted. -/
opaque wrapSak : BitVec 256 → BitVec 256 → BitVec 320
/-- See `wrapSak`. -/
opaque unwrapSak : BitVec 256 → BitVec 320 → BitVec 256
/-- FREE VALUE. A key from the random generator; the argument is the number of free values taken before. -/
opaque freeKey : Nat → BitVec 256

/-- SHA-384 of a byte string (FIPS 180-4), uninterpreted (assumption log entry 9). -/
opaque sha384 : List Byte → BitVec 384
/-- The signature scalar r or s the identity key gives a digest (FIPS 186-5), uninterpreted. -/
opaque signR : BitVec 384 → BitVec 384
/-- See `signR`. -/
opaque signS : BitVec 384 → BitVec 384
/-- The device's identity public key (R667), X then Y; the manual gives no value. -/
opaque identityPub : BitVec 768
/-- The device's transport public key (R667). -/
opaque transportPub : BitVec 768
/-- The serial number of the device (Table 23.3). -/
opaque serial : BitVec 64
/-- The boot ROM digest (R670) and version (Table 23.4), which the manual does not state. -/
opaque romDigest : BitVec 384
/-- The boot ROM version. -/
opaque romVersion : BitVec 16
/-- The last 24 bytes of a debug challenge, which hold IMAGE_SVN and the ROM version (R681) in a layout that the manual does not give. -/
opaque challengeTail : Nat → BitVec 16 → BitVec 192
/-- The SHA-384 of the Virong root key held by the boot ROM (R660). -/
opaque virongRootHash : BitVec 384
/-- The SHA-384 of the Virong debug key held by the boot ROM (R660). -/
opaque virongDebugHash : BitVec 384

end Sys2Proof.Config
end

