-- ==== Sys2Proof/Machine/Crc.lean ====
section
/-! DEFINITION. The hashes named by a CRC polynomial (R820), and the CRC-32C that records, models and shadow tags carry. -/
namespace Sys2Proof.Machine

open Sys2Proof.Config

/-! ### Hashes (R820) -/

/-- CRC-32C and CRC-32K, bit reversed. -/
def poly32C : Nat := 0x82F63B78
/-- See `poly32C`. -/
def poly32K : Nat := 0xEB31D82E

/-- Some bits of one byte, bit 0 first. -/
def crcBits (poly : Nat) : Nat → Nat → Nat → Nat
  | 0, _, reg => reg
  | n + 1, b, reg =>
    let fb := (reg + b) % 2
    crcBits poly n (b / 2) (if fb = 1 then Nat.xor (reg / 2) poly else reg / 2)

/-- The register after `n` bytes of a number, byte 0 lowest. -/
def crcHash (poly : Nat) : Nat → Nat → Nat → Nat
  | 0, _, reg => reg
  | n + 1, v, reg => crcHash poly n (v / 256) (crcBits poly 8 (v % 256) reg)

/-- A hash of the manual: bytes of a key with a 16-bit seed. -/
def seedHash (poly bytes key seed : Nat) : Nat := crcHash poly bytes key (seed * 0x10001)

/-- The CRC-32C of some bytes of a number (R244, R254, R320, R480): the polynomial as in R820, byte 0 first and bit 0 of each byte first
(DEDUCED, log entry 23); its initial value and what is done to the register at the end are open. -/
def crc32c (bytes v : Nat) : BitVec 32 := crcEnd (crcHash poly32C bytes v crcStart)

/-- The CRC of a Fleit frame: over its 16-byte header and its payload (R627). -/
def fleitCrc (hdr : BitVec 128) (payload : List Byte) : BitVec 32 :=
  crc32c (16 + payload.length) (hdr.toNat + payload.foldr (fun b n => b.toNat + 256 * n) 0 * 2 ^ 128)

end Sys2Proof.Machine
end

