-- ==== Sys2Proof/Machine/Events.lean ====
section
/-! DEFINITION. The 221 event sources of Table 27.1 (spec 27, R760, R774): group, index and severity. -/
namespace Sys2Proof.Machine

/-- Severity codes of Table 27.2. -/
inductive Severity where
  | info | warning | error | critical
  deriving DecidableEq, Repr

/-- The value of SEV in a log record (Table 27.2). -/
def Severity.code : Severity → Nat
  | .info => 0 | .warning => 1 | .error => 2 | .critical => 3

/-- An event source EVT group.index with its fixed severity (R760, R766). -/
structure Source where
  group : Nat
  index : Nat
  sev : Severity
  deriving DecidableEq, Repr

namespace Ev

/-- EVT 0.0 EVT_LOG_LOST. -/
def EVT_LOG_LOST : Source := ⟨0, 0, .warning⟩
/-- EVT 0.1 EVT_KPR_DROP. -/
def EVT_KPR_DROP : Source := ⟨0, 1, .warning⟩
/-- EVT 2.0 LANE_LOS. -/
def LANE_LOS : Source := ⟨2, 0, .error⟩
/-- EVT 2.1 OCTET_PLL_UNLOCK. -/
def OCTET_PLL_UNLOCK : Source := ⟨2, 1, .error⟩
/-- EVT 2.2 LANE_QUEUE_ERR. -/
def LANE_QUEUE_ERR : Source := ⟨2, 2, .error⟩
/-- EVT 2.3 PRBS_ERR. -/
def PRBS_ERR : Source := ⟨2, 3, .info⟩
/-- EVT 2.4 FEC_UNCORRECTED. -/
def FEC_UNCORRECTED : Source := ⟨2, 4, .warning⟩
/-- EVT 3.0 LINK_DOWN. -/
def LINK_DOWN : Source := ⟨3, 0, .warning⟩
/-- EVT 3.1 LINK_UP. -/
def LINK_UP : Source := ⟨3, 1, .info⟩
/-- EVT 3.2 AN_FAIL_LIMIT. -/
def AN_FAIL_LIMIT : Source := ⟨3, 2, .warning⟩
/-- EVT 3.3 ARB_DROP. -/
def ARB_DROP : Source := ⟨3, 3, .warning⟩
/-- EVT 3.4 ARB_TRUNCATE. -/
def ARB_TRUNCATE : Source := ⟨3, 4, .warning⟩
/-- EVT 3.5 EBB_RESTORE_FAIL. -/
def EBB_RESTORE_FAIL : Source := ⟨3, 5, .error⟩
/-- EVT 3.6 EBB_BAD_MSG. -/
def EBB_BAD_MSG : Source := ⟨3, 6, .warning⟩
/-- EVT 4.0 RX_FCS_ERR. -/
def RX_FCS_ERR : Source := ⟨4, 0, .warning⟩
/-- EVT 4.1 RX_LEN_ERR. -/
def RX_LEN_ERR : Source := ⟨4, 1, .warning⟩
/-- EVT 4.2 MACCTL_BAD. -/
def MACCTL_BAD : Source := ⟨4, 2, .warning⟩
/-- EVT 4.3 PREEMPT_ASSY_ERR. -/
def PREEMPT_ASSY_ERR : Source := ⟨4, 3, .warning⟩
/-- EVT 4.4 PFC_STORM. -/
def PFC_STORM : Source := ⟨4, 4, .error⟩
/-- EVT 4.5 TX_OVERSIZE. -/
def TX_OVERSIZE : Source := ⟨4, 5, .warning⟩
/-- EVT 5.0 MSC_PN_THRESHOLD. -/
def MSC_PN_THRESHOLD : Source := ⟨5, 0, .info⟩
/-- EVT 5.1 MSC_PN_EXHAUSTED. -/
def MSC_PN_EXHAUSTED : Source := ⟨5, 1, .critical⟩
/-- EVT 5.2 MKA_PEER_LOST. -/
def MKA_PEER_LOST : Source := ⟨5, 2, .error⟩
/-- EVT 5.3 MKA_PEER_LIMIT. -/
def MKA_PEER_LIMIT : Source := ⟨5, 3, .warning⟩
/-- EVT 5.4 MSC_RX_INVALID. -/
def MSC_RX_INVALID : Source := ⟨5, 4, .warning⟩
/-- EVT 5.5 MSC_SA_ECC. -/
def MSC_SA_ECC : Source := ⟨5, 5, .error⟩
/-- EVT 5.6 MSC_KEY_MISSING. -/
def MSC_KEY_MISSING : Source := ⟨5, 6, .error⟩
/-- EVT 6.0 PRS_DEEP. -/
def PRS_DEEP : Source := ⟨6, 0, .warning⟩
/-- EVT 6.1 PRS_MALFORMED. -/
def PRS_MALFORMED : Source := ⟨6, 1, .warning⟩
/-- EVT 6.2 PRS_MALFORMED_LATE. -/
def PRS_MALFORMED_LATE : Source := ⟨6, 2, .warning⟩
/-- EVT 6.3 PRS_CFG_PARITY. -/
def PRS_CFG_PARITY : Source := ⟨6, 3, .error⟩
/-- EVT 6.4 PRS_DRAIN_DISCARD. -/
def PRS_DRAIN_DISCARD : Source := ⟨6, 4, .warning⟩
/-- EVT 6.5 PRS_HOST_UNAVAIL. -/
def PRS_HOST_UNAVAIL : Source := ⟨6, 5, .warning⟩
/-- EVT 7.0 RBK_ENTRY_ECC. -/
def RBK_ENTRY_ECC : Source := ⟨7, 0, .error⟩
/-- EVT 7.1 RBK_EPOCH_FORCED. -/
def RBK_EPOCH_FORCED : Source := ⟨7, 1, .warning⟩
/-- EVT 7.2 RBK_CFG_PARITY. -/
def RBK_CFG_PARITY : Source := ⟨7, 2, .error⟩
/-- EVT 7.3 RBK_DRAIN_DISCARD. -/
def RBK_DRAIN_DISCARD : Source := ⟨7, 3, .warning⟩
/-- EVT 8.0 EXM_ECC. -/
def EXM_ECC : Source := ⟨8, 0, .error⟩
/-- EVT 8.1 EXM_INSERT_FULL. -/
def EXM_INSERT_FULL : Source := ⟨8, 1, .warning⟩
/-- EVT 8.2 EXM_OVF_HIGH. -/
def EXM_OVF_HIGH : Source := ⟨8, 2, .warning⟩
/-- EVT 8.3 EXM_CFG_PARITY. -/
def EXM_CFG_PARITY : Source := ⟨8, 3, .error⟩
/-- EVT 8.4 EXM_DRAIN_DISCARD. -/
def EXM_DRAIN_DISCARD : Source := ⟨8, 4, .warning⟩
/-- EVT 9.0 LPM_ECC. -/
def LPM_ECC : Source := ⟨9, 0, .error⟩
/-- EVT 9.1 LPM_FULL. -/
def LPM_FULL : Source := ⟨9, 1, .warning⟩
/-- EVT 9.2 LPM_DRAIN_DISCARD. -/
def LPM_DRAIN_DISCARD : Source := ⟨9, 2, .warning⟩
/-- EVT 9.3 LPM_CFG_PARITY. -/
def LPM_CFG_PARITY : Source := ⟨9, 3, .error⟩
/-- EVT 10.0 LRN_QUEUE_FULL. -/
def LRN_QUEUE_FULL : Source := ⟨10, 0, .warning⟩
/-- EVT 10.1 LRN_LIMIT. -/
def LRN_LIMIT : Source := ⟨10, 1, .warning⟩
/-- EVT 10.2 LRN_STATION_FREEZE. -/
def LRN_STATION_FREEZE : Source := ⟨10, 2, .warning⟩
/-- EVT 10.4 LRN_SWEEP_OVERRUN. -/
def LRN_SWEEP_OVERRUN : Source := ⟨10, 4, .warning⟩
/-- EVT 10.5 LRN_NOTIFY_DROP. -/
def LRN_NOTIFY_DROP : Source := ⟨10, 5, .warning⟩
/-- EVT 10.6 LRN_DRAIN_DISCARD. -/
def LRN_DRAIN_DISCARD : Source := ⟨10, 6, .warning⟩
/-- EVT 11.0 SHD_SRAM_REPAIRED. -/
def SHD_SRAM_REPAIRED : Source := ⟨11, 0, .error⟩
/-- EVT 11.1 SHD_SHADOW_REPAIRED. -/
def SHD_SHADOW_REPAIRED : Source := ⟨11, 1, .warning⟩
/-- EVT 11.2 SHD_BLOCK_LOST. -/
def SHD_BLOCK_LOST : Source := ⟨11, 2, .critical⟩
/-- EVT 11.3 SHD_WALK_OVERRUN. -/
def SHD_WALK_OVERRUN : Source := ⟨11, 3, .warning⟩
/-- EVT 11.4 SHD_ADOPT_FAIL. -/
def SHD_ADOPT_FAIL : Source := ⟨11, 4, .error⟩
/-- EVT 12.0 FLW_PARK_FULL. -/
def FLW_PARK_FULL : Source := ⟨12, 0, .warning⟩
/-- EVT 12.1 FLW_PARK_TIMEOUT. -/
def FLW_PARK_TIMEOUT : Source := ⟨12, 1, .warning⟩
/-- EVT 12.2 FLW_GROUP_FULL. -/
def FLW_GROUP_FULL : Source := ⟨12, 2, .warning⟩
/-- EVT 12.3 FLW_SETUP_FULL. -/
def FLW_SETUP_FULL : Source := ⟨12, 3, .warning⟩
/-- EVT 12.4 FLW_RECORD_LOST. -/
def FLW_RECORD_LOST : Source := ⟨12, 4, .error⟩
/-- EVT 12.5 FLW_CACHE_ECC. -/
def FLW_CACHE_ECC : Source := ⟨12, 5, .error⟩
/-- EVT 12.6 FLW_WHEY_STALL. -/
def FLW_WHEY_STALL : Source := ⟨12, 6, .warning⟩
/-- EVT 12.7 FLW_DRAIN_DISCARD. -/
def FLW_DRAIN_DISCARD : Source := ⟨12, 7, .warning⟩
/-- EVT 12.8 FLW_EXPIRY_OVERRUN. -/
def FLW_EXPIRY_OVERRUN : Source := ⟨12, 8, .warning⟩
/-- EVT 12.9 FLW_SEED_ECC. -/
def FLW_SEED_ECC : Source := ⟨12, 9, .error⟩
/-- EVT 12.10 FLW_ADOPT_FAIL. -/
def FLW_ADOPT_FAIL : Source := ⟨12, 10, .error⟩
/-- EVT 12.11 FLW_PARK_ECC. -/
def FLW_PARK_ECC : Source := ⟨12, 11, .error⟩
/-- EVT 13.0 NAT_PORTS_EXHAUSTED. -/
def NAT_PORTS_EXHAUSTED : Source := ⟨13, 0, .warning⟩
/-- EVT 13.1 NAT_POOL_EXHAUSTED. -/
def NAT_POOL_EXHAUSTED : Source := ⟨13, 1, .error⟩
/-- EVT 13.2 SVC_RATE_LIMITED. -/
def SVC_RATE_LIMITED : Source := ⟨13, 2, .warning⟩
/-- EVT 13.3 FLT_TCP_INVALID. -/
def FLT_TCP_INVALID : Source := ⟨13, 3, .warning⟩
/-- EVT 13.4 IPFIX_DROP. -/
def IPFIX_DROP : Source := ⟨13, 4, .warning⟩
/-- EVT 13.5 LB_GROUP_EMPTY. -/
def LB_GROUP_EMPTY : Source := ⟨13, 5, .error⟩
/-- EVT 13.6 NAT_HAIRPIN_DROP. -/
def NAT_HAIRPIN_DROP : Source := ⟨13, 6, .warning⟩
/-- EVT 14.0 UPS_BAD_TEID. -/
def UPS_BAD_TEID : Source := ⟨14, 0, .warning⟩
/-- EVT 14.1 UPS_BUF_FULL. -/
def UPS_BUF_FULL : Source := ⟨14, 1, .warning⟩
/-- EVT 14.2 UPS_REPORT_DELAYED. -/
def UPS_REPORT_DELAYED : Source := ⟨14, 2, .warning⟩
/-- EVT 14.3 UPS_ADOPT_FAIL. -/
def UPS_ADOPT_FAIL : Source := ⟨14, 3, .error⟩
/-- EVT 14.4 UPS_RECORD_LOST. -/
def UPS_RECORD_LOST : Source := ⟨14, 4, .error⟩
/-- EVT 14.5 UPS_DRAIN_DISCARD. -/
def UPS_DRAIN_DISCARD : Source := ⟨14, 5, .warning⟩
/-- EVT 15.0 EDT_CFG_PARITY. -/
def EDT_CFG_PARITY : Source := ⟨15, 0, .error⟩
/-- EVT 15.1 EDT_PASS_LIMIT. -/
def EDT_PASS_LIMIT : Source := ⟨15, 1, .warning⟩
/-- EVT 15.2 EDT_BW_FULL. -/
def EDT_BW_FULL : Source := ⟨15, 2, .warning⟩
/-- EVT 15.3 EDT_MTU_EXCEEDED. -/
def EDT_MTU_EXCEEDED : Source := ⟨15, 3, .warning⟩
/-- EVT 15.4 EDT_DRAIN_DISCARD. -/
def EDT_DRAIN_DISCARD : Source := ⟨15, 4, .warning⟩
/-- EVT 15.5 CAP_LOST. -/
def CAP_LOST : Source := ⟨15, 5, .warning⟩
/-- EVT 15.6 EDT_TABLE_ECC. -/
def EDT_TABLE_ECC : Source := ⟨15, 6, .error⟩
/-- EVT 16.0 BPM_DOUBLE_FREE. -/
def BPM_DOUBLE_FREE : Source := ⟨16, 0, .error⟩
/-- EVT 16.1 BPM_BAD_FREE. -/
def BPM_BAD_FREE : Source := ⟨16, 1, .error⟩
/-- EVT 16.2 BPM_POOL_EMPTY. -/
def BPM_POOL_EMPTY : Source := ⟨16, 2, .warning⟩
/-- EVT 16.3 BPM_QUOTA_REFUSED. -/
def BPM_QUOTA_REFUSED : Source := ⟨16, 3, .warning⟩
/-- EVT 16.4 BPM_SPILL_STALL. -/
def BPM_SPILL_STALL : Source := ⟨16, 4, .warning⟩
/-- EVT 16.5 BPM_CHUNK_LOST. -/
def BPM_CHUNK_LOST : Source := ⟨16, 5, .error⟩
/-- EVT 16.6 BPM_STATE_ECC. -/
def BPM_STATE_ECC : Source := ⟨16, 6, .error⟩
/-- EVT 16.7 BPM_RECLAIM. -/
def BPM_RECLAIM : Source := ⟨16, 7, .info⟩
/-- EVT 16.8 BPM_CHUNKS_LOW. -/
def BPM_CHUNKS_LOW : Source := ⟨16, 8, .warning⟩
/-- EVT 17.0 QUE_BACKSTOP. -/
def QUE_BACKSTOP : Source := ⟨17, 0, .error⟩
/-- EVT 17.1 QUE_XBAR_CELL_ERR. -/
def QUE_XBAR_CELL_ERR : Source := ⟨17, 1, .error⟩
/-- EVT 17.2 QUE_LATE_DROP. -/
def QUE_LATE_DROP : Source := ⟨17, 2, .warning⟩
/-- EVT 17.3 QUE_PORT_FLUSH. -/
def QUE_PORT_FLUSH : Source := ⟨17, 3, .warning⟩
/-- EVT 17.4 QUE_MOVE_FLUSH. -/
def QUE_MOVE_FLUSH : Source := ⟨17, 4, .warning⟩
/-- EVT 17.5 QUE_MC_PARTIAL. -/
def QUE_MC_PARTIAL : Source := ⟨17, 5, .warning⟩
/-- EVT 17.6 QUE_STATE_ECC. -/
def QUE_STATE_ECC : Source := ⟨17, 6, .error⟩
/-- EVT 17.7 QUE_DRAIN_DISCARD. -/
def QUE_DRAIN_DISCARD : Source := ⟨17, 7, .warning⟩
/-- EVT 17.8 QUE_TAG_MISMATCH. -/
def QUE_TAG_MISMATCH : Source := ⟨17, 8, .warning⟩
/-- EVT 18.0 SCH_STATE_ECC. -/
def SCH_STATE_ECC : Source := ⟨18, 0, .error⟩
/-- EVT 18.1 SCH_CFG_ECC. -/
def SCH_CFG_ECC : Source := ⟨18, 1, .error⟩
/-- EVT 18.2 SCH_STARVE. -/
def SCH_STARVE : Source := ⟨18, 2, .warning⟩
/-- EVT 18.3 POL_STATE_ECC. -/
def POL_STATE_ECC : Source := ⟨18, 3, .error⟩
/-- EVT 18.4 POL_CFG_ECC. -/
def POL_CFG_ECC : Source := ⟨18, 4, .error⟩
/-- EVT 19.0 LHT_STATE_CHANGE. -/
def LHT_STATE_CHANGE : Source := ⟨19, 0, .info⟩
/-- EVT 19.1 LHT_REF_LOST. -/
def LHT_REF_LOST : Source := ⟨19, 1, .warning⟩
/-- EVT 19.2 LHT_REF_SWITCH. -/
def LHT_REF_SWITCH : Source := ⟨19, 2, .info⟩
/-- EVT 19.3 LHT_TIME_STEP. -/
def LHT_TIME_STEP : Source := ⟨19, 3, .warning⟩
/-- EVT 19.4 LHT_HOLDOVER. -/
def LHT_HOLDOVER : Source := ⟨19, 4, .warning⟩
/-- EVT 19.5 LHT_FREERUN. -/
def LHT_FREERUN : Source := ⟨19, 5, .critical⟩
/-- EVT 19.6 LHT_OSC_LOST. -/
def LHT_OSC_LOST : Source := ⟨19, 6, .critical⟩
/-- EVT 19.7 LHT_TEMP_FAULT. -/
def LHT_TEMP_FAULT : Source := ⟨19, 7, .error⟩
/-- EVT 19.8 LHT_MODEL_STORE_ERR. -/
def LHT_MODEL_STORE_ERR : Source := ⟨19, 8, .error⟩
/-- EVT 19.9 LHT_TOD_BAD. -/
def LHT_TOD_BAD : Source := ⟨19, 9, .warning⟩
/-- EVT 19.10 LHT_SYNCE_STATE. -/
def LHT_SYNCE_STATE : Source := ⟨19, 10, .info⟩
/-- EVT 20.0 PTP_PORT_STATE. -/
def PTP_PORT_STATE : Source := ⟨20, 0, .info⟩
/-- EVT 20.1 PTP_RX_BAD. -/
def PTP_RX_BAD : Source := ⟨20, 1, .warning⟩
/-- EVT 20.2 PTP_CLASS_CHANGE. -/
def PTP_CLASS_CHANGE : Source := ⟨20, 2, .info⟩
/-- EVT 20.3 PTP_PARENT_CHANGE. -/
def PTP_PARENT_CHANGE : Source := ⟨20, 3, .info⟩
/-- EVT 20.4 PTP_ANNOUNCE_TIMEOUT. -/
def PTP_ANNOUNCE_TIMEOUT : Source := ⟨20, 4, .warning⟩
/-- EVT 20.5 PTP_GRANT_REFUSED. -/
def PTP_GRANT_REFUSED : Source := ⟨20, 5, .warning⟩
/-- EVT 20.6 PTP_TX_TS_MISSING. -/
def PTP_TX_TS_MISSING : Source := ⟨20, 6, .error⟩
/-- EVT 20.7 SYNCE_QL_CHANGE. -/
def SYNCE_QL_CHANGE : Source := ⟨20, 7, .info⟩
/-- EVT 20.8 ESMC_TIMEOUT. -/
def ESMC_TIMEOUT : Source := ⟨20, 8, .warning⟩
/-- EVT 20.9 ESMC_BAD. -/
def ESMC_BAD : Source := ⟨20, 9, .warning⟩
/-- EVT 21.0 GTE_LIST_CHANGE. -/
def GTE_LIST_CHANGE : Source := ⟨21, 0, .info⟩
/-- EVT 21.1 GTE_TOO_LONG. -/
def GTE_TOO_LONG : Source := ⟨21, 1, .warning⟩
/-- EVT 21.2 EXP_DEADLINE_DROP. -/
def EXP_DEADLINE_DROP : Source := ⟨21, 2, .warning⟩
/-- EVT 21.3 EXP_CUT_TRUNC. -/
def EXP_CUT_TRUNC : Source := ⟨21, 3, .warning⟩
/-- EVT 21.4 EXP_QFULL. -/
def EXP_QFULL : Source := ⟨21, 4, .warning⟩
/-- EVT 21.5 EXP_MISS. -/
def EXP_MISS : Source := ⟨21, 5, .warning⟩
/-- EVT 21.6 GTE_WINDOW_LOST. -/
def GTE_WINDOW_LOST : Source := ⟨21, 6, .warning⟩
/-- EVT 21.7 PREEMPT_VERIFY_FAIL. -/
def PREEMPT_VERIFY_FAIL : Source := ⟨21, 7, .warning⟩
/-- EVT 21.8 GTE_TABLE_ECC. -/
def GTE_TABLE_ECC : Source := ⟨21, 8, .error⟩
/-- EVT 21.9 EXP_DRAIN_DISCARD. -/
def EXP_DRAIN_DISCARD : Source := ⟨21, 9, .warning⟩
/-- EVT 21.10 EXP_BUF_FULL. -/
def EXP_BUF_FULL : Source := ⟨21, 10, .warning⟩
/-- EVT 21.11 EXP_NO_QUEUE. -/
def EXP_NO_QUEUE : Source := ⟨21, 11, .warning⟩
/-- EVT 22.0 HBC_CE. -/
def HBC_CE : Source := ⟨22, 0, .info⟩
/-- EVT 22.1 HBC_UE. -/
def HBC_UE : Source := ⟨22, 1, .error⟩
/-- EVT 22.2 HBC_ROW_REPAIRED. -/
def HBC_ROW_REPAIRED : Source := ⟨22, 2, .warning⟩
/-- EVT 22.3 HBC_ROW_UNREPAIRABLE. -/
def HBC_ROW_UNREPAIRABLE : Source := ⟨22, 3, .critical⟩
/-- EVT 22.4 HBC_PC_RETIRED. -/
def HBC_PC_RETIRED : Source := ⟨22, 4, .critical⟩
/-- EVT 22.5 HBC_TRAIN_FAIL. -/
def HBC_TRAIN_FAIL : Source := ⟨22, 5, .critical⟩
/-- EVT 22.6 HBC_STACK_HOT. -/
def HBC_STACK_HOT : Source := ⟨22, 6, .critical⟩
/-- EVT 22.7 HBC_REQ_ERR. -/
def HBC_REQ_ERR : Source := ⟨22, 7, .error⟩
/-- EVT 22.8 HBC_SR_CUT. -/
def HBC_SR_CUT : Source := ⟨22, 8, .error⟩
/-- EVT 22.9 HBC_LANE_REPAIRED. -/
def HBC_LANE_REPAIRED : Source := ⟨22, 9, .warning⟩
/-- EVT 23.0 TTB_STARVE. -/
def TTB_STARVE : Source := ⟨23, 0, .warning⟩
/-- EVT 23.1 TTB_CFG_PARITY. -/
def TTB_CFG_PARITY : Source := ⟨23, 1, .error⟩
/-- EVT 23.2 TTB_OVERCOMMIT. -/
def TTB_OVERCOMMIT : Source := ⟨23, 2, .warning⟩
/-- EVT 24.0 KPR_ENGINE_LOCKUP. -/
def KPR_ENGINE_LOCKUP : Source := ⟨24, 0, .error⟩
/-- EVT 24.1 KPR_CLUSTER_LOCKUP. -/
def KPR_CLUSTER_LOCKUP : Source := ⟨24, 1, .critical⟩
/-- EVT 24.2 KPR_ESCALATE. -/
def KPR_ESCALATE : Source := ⟨24, 2, .critical⟩
/-- EVT 24.3 KPR_STALE_RESULT. -/
def KPR_STALE_RESULT : Source := ⟨24, 3, .info⟩
/-- EVT 24.4 KPR_CS_ECC. -/
def KPR_CS_ECC : Source := ⟨24, 4, .error⟩
/-- EVT 24.5 KPR_DM_ECC. -/
def KPR_DM_ECC : Source := ⟨24, 5, .error⟩
/-- EVT 24.6 KPR_PATCH_APPLIED. -/
def KPR_PATCH_APPLIED : Source := ⟨24, 6, .info⟩
/-- EVT 24.7 KPR_PATCH_FAIL. -/
def KPR_PATCH_FAIL : Source := ⟨24, 7, .error⟩
/-- EVT 24.8 KPR_MBX_BAD_CMD. -/
def KPR_MBX_BAD_CMD : Source := ⟨24, 8, .warning⟩
/-- EVT 24.9 KPR_MBX_DMA_ERR. -/
def KPR_MBX_DMA_ERR : Source := ⟨24, 9, .error⟩
/-- EVT 24.10 KPR_TASK_MOVED. -/
def KPR_TASK_MOVED : Source := ⟨24, 10, .info⟩
/-- EVT 24.11 KPR_QUEUE_ERR. -/
def KPR_QUEUE_ERR : Source := ⟨24, 11, .error⟩
/-- EVT 25.0 FLT_LANE_SPARED. -/
def FLT_LANE_SPARED : Source := ⟨25, 0, .warning⟩
/-- EVT 25.1 FLT_BUNDLE_DOWN. -/
def FLT_BUNDLE_DOWN : Source := ⟨25, 1, .error⟩
/-- EVT 25.2 FLT_BUNDLE_UP. -/
def FLT_BUNDLE_UP : Source := ⟨25, 2, .info⟩
/-- EVT 25.4 FLT_REPLAY_FAIL. -/
def FLT_REPLAY_FAIL : Source := ⟨25, 4, .error⟩
/-- EVT 25.5 FLT_PEER_REFUSED. -/
def FLT_PEER_REFUSED : Source := ⟨25, 5, .critical⟩
/-- EVT 25.6 FLT_PAIR_STATE. -/
def FLT_PAIR_STATE : Source := ⟨25, 6, .info⟩
/-- EVT 25.7 FLT_TAKEOVER. -/
def FLT_TAKEOVER : Source := ⟨25, 7, .critical⟩
/-- EVT 25.8 FLT_STALE_FRAME. -/
def FLT_STALE_FRAME : Source := ⟨25, 8, .error⟩
/-- EVT 25.9 FLT_MIRROR_FULL. -/
def FLT_MIRROR_FULL : Source := ⟨25, 9, .warning⟩
/-- EVT 25.10 FLT_SYNC_DONE. -/
def FLT_SYNC_DONE : Source := ⟨25, 10, .info⟩
/-- EVT 25.11 FLT_STACK_MASTER. -/
def FLT_STACK_MASTER : Source := ⟨25, 11, .critical⟩
/-- EVT 25.12 FLT_BAD_FRAME. -/
def FLT_BAD_FRAME : Source := ⟨25, 12, .error⟩
/-- EVT 25.13 FLT_CREDIT_STALL. -/
def FLT_CREDIT_STALL : Source := ⟨25, 13, .warning⟩
/-- EVT 26.0 RND_RIGHTS_VIOLATION. -/
def RND_RIGHTS_VIOLATION : Source := ⟨26, 0, .warning⟩
/-- EVT 26.1 RND_IMAGE_REJECT. -/
def RND_IMAGE_REJECT : Source := ⟨26, 1, .error⟩
/-- EVT 26.2 RND_PATCH_REJECT. -/
def RND_PATCH_REJECT : Source := ⟨26, 2, .error⟩
/-- EVT 26.3 RND_DEBUG_OPEN. -/
def RND_DEBUG_OPEN : Source := ⟨26, 3, .critical⟩
/-- EVT 26.4 RND_DEBUG_AUTH_FAIL. -/
def RND_DEBUG_AUTH_FAIL : Source := ⟨26, 4, .error⟩
/-- EVT 26.5 RND_TAMPER. -/
def RND_TAMPER : Source := ⟨26, 5, .critical⟩
/-- EVT 26.6 RND_RNG_FAIL. -/
def RND_RNG_FAIL : Source := ⟨26, 6, .critical⟩
/-- EVT 26.7 RND_SVN_COMMIT. -/
def RND_SVN_COMMIT : Source := ⟨26, 7, .info⟩
/-- EVT 26.8 RND_SVN_DEFERRED. -/
def RND_SVN_DEFERRED : Source := ⟨26, 8, .warning⟩
/-- EVT 26.9 RND_FUSE_ERR. -/
def RND_FUSE_ERR : Source := ⟨26, 9, .error⟩
/-- EVT 26.10 RND_KEY_ECC. -/
def RND_KEY_ECC : Source := ⟨26, 10, .error⟩
/-- EVT 27.0 IMG_ATTEMPT_FAIL. -/
def IMG_ATTEMPT_FAIL : Source := ⟨27, 0, .error⟩
/-- EVT 27.1 IMG_FALLBACK. -/
def IMG_FALLBACK : Source := ⟨27, 1, .warning⟩
/-- EVT 27.2 IMG_NO_IMAGE. -/
def IMG_NO_IMAGE : Source := ⟨27, 2, .critical⟩
/-- EVT 27.3 IMG_NVM_TIMEOUT. -/
def IMG_NVM_TIMEOUT : Source := ⟨27, 3, .error⟩
/-- EVT 27.4 IMG_FLASH_ERR. -/
def IMG_FLASH_ERR : Source := ⟨27, 4, .error⟩
/-- EVT 28.0 HST_WRITE_REJECTED. -/
def HST_WRITE_REJECTED : Source := ⟨28, 0, .warning⟩
/-- EVT 28.1 HST_DMA_ERR. -/
def HST_DMA_ERR : Source := ⟨28, 1, .error⟩
/-- EVT 28.2 HST_DESC_BAD. -/
def HST_DESC_BAD : Source := ⟨28, 2, .warning⟩
/-- EVT 28.3 HST_REG_TIMEOUT. -/
def HST_REG_TIMEOUT : Source := ⟨28, 3, .error⟩
/-- EVT 29.0 MGS_TIMEOUT. -/
def MGS_TIMEOUT : Source := ⟨29, 0, .warning⟩
/-- EVT 29.1 MGS_BAD_INDEX. -/
def MGS_BAD_INDEX : Source := ⟨29, 1, .warning⟩
/-- EVT 30.0 RST_TRIM_FAIL. -/
def RST_TRIM_FAIL : Source := ⟨30, 0, .critical⟩
/-- EVT 30.1 RST_DONE. -/
def RST_DONE : Source := ⟨30, 1, .info⟩
/-- EVT 30.2 RST_RETAIN_LOST. -/
def RST_RETAIN_LOST : Source := ⟨30, 2, .error⟩
/-- EVT 31.0 PWR_REFUSED. -/
def PWR_REFUSED : Source := ⟨31, 0, .warning⟩
/-- EVT 31.1 PWR_DOMAIN_FAIL. -/
def PWR_DOMAIN_FAIL : Source := ⟨31, 1, .error⟩
/-- EVT 32.0 CLK_REF_LOST. -/
def CLK_REF_LOST : Source := ⟨32, 0, .error⟩
/-- EVT 32.1 CLK_SWITCH. -/
def CLK_SWITCH : Source := ⟨32, 1, .warning⟩
/-- EVT 32.2 CLK_PLL_UNLOCK. -/
def CLK_PLL_UNLOCK : Source := ⟨32, 2, .error⟩
/-- EVT 32.3 THERM_WARN. -/
def THERM_WARN : Source := ⟨32, 3, .warning⟩
/-- EVT 32.4 THERM_HOT. -/
def THERM_HOT : Source := ⟨32, 4, .error⟩
/-- EVT 32.5 THERM_SENSOR_FAULT. -/
def THERM_SENSOR_FAULT : Source := ⟨32, 5, .error⟩
/-- EVT 32.6 THERM_TRIP. -/
def THERM_TRIP : Source := ⟨32, 6, .critical⟩
/-- EVT 33.0 DGN_INJECT_ACTIVE. -/
def DGN_INJECT_ACTIVE : Source := ⟨33, 0, .warning⟩
/-- EVT 33.1 DGN_PERTURB_ACTIVE. -/
def DGN_PERTURB_ACTIVE : Source := ⟨33, 1, .warning⟩
/-- EVT 33.2 DGN_BIST_FAIL. -/
def DGN_BIST_FAIL : Source := ⟨33, 2, .error⟩
/-- EVT 33.3 DGN_LOOPBACK_ACTIVE. -/
def DGN_LOOPBACK_ACTIVE : Source := ⟨33, 3, .warning⟩

/-- Sources of Table 27.1, part 0. -/
def part0 : List Source :=
  [EVT_LOG_LOST, EVT_KPR_DROP, LANE_LOS, OCTET_PLL_UNLOCK, LANE_QUEUE_ERR, PRBS_ERR,
   FEC_UNCORRECTED, LINK_DOWN, LINK_UP, AN_FAIL_LIMIT, ARB_DROP, ARB_TRUNCATE, EBB_RESTORE_FAIL,
   EBB_BAD_MSG, RX_FCS_ERR, RX_LEN_ERR, MACCTL_BAD, PREEMPT_ASSY_ERR, PFC_STORM, TX_OVERSIZE,
   MSC_PN_THRESHOLD, MSC_PN_EXHAUSTED, MKA_PEER_LOST, MKA_PEER_LIMIT, MSC_RX_INVALID, MSC_SA_ECC,
   MSC_KEY_MISSING, PRS_DEEP, PRS_MALFORMED, PRS_MALFORMED_LATE, PRS_CFG_PARITY, PRS_DRAIN_DISCARD,
   PRS_HOST_UNAVAIL, RBK_ENTRY_ECC, RBK_EPOCH_FORCED, RBK_CFG_PARITY, RBK_DRAIN_DISCARD, EXM_ECC,
   EXM_INSERT_FULL, EXM_OVF_HIGH]
/-- Sources of Table 27.1, part 1. -/
def part1 : List Source :=
  [EXM_CFG_PARITY, EXM_DRAIN_DISCARD, LPM_ECC, LPM_FULL, LPM_DRAIN_DISCARD, LPM_CFG_PARITY,
   LRN_QUEUE_FULL, LRN_LIMIT, LRN_STATION_FREEZE, LRN_SWEEP_OVERRUN, LRN_NOTIFY_DROP,
   LRN_DRAIN_DISCARD, SHD_SRAM_REPAIRED, SHD_SHADOW_REPAIRED, SHD_BLOCK_LOST, SHD_WALK_OVERRUN,
   SHD_ADOPT_FAIL, FLW_PARK_FULL, FLW_PARK_TIMEOUT, FLW_GROUP_FULL, FLW_SETUP_FULL, FLW_RECORD_LOST,
   FLW_CACHE_ECC, FLW_WHEY_STALL, FLW_DRAIN_DISCARD, FLW_EXPIRY_OVERRUN, FLW_SEED_ECC,
   FLW_ADOPT_FAIL, FLW_PARK_ECC, NAT_PORTS_EXHAUSTED, NAT_POOL_EXHAUSTED, SVC_RATE_LIMITED,
   FLT_TCP_INVALID, IPFIX_DROP, LB_GROUP_EMPTY, NAT_HAIRPIN_DROP, UPS_BAD_TEID, UPS_BUF_FULL,
   UPS_REPORT_DELAYED, UPS_ADOPT_FAIL]
/-- Sources of Table 27.1, part 2. -/
def part2 : List Source :=
  [UPS_RECORD_LOST, UPS_DRAIN_DISCARD, EDT_CFG_PARITY, EDT_PASS_LIMIT, EDT_BW_FULL,
   EDT_MTU_EXCEEDED, EDT_DRAIN_DISCARD, CAP_LOST, EDT_TABLE_ECC, BPM_DOUBLE_FREE, BPM_BAD_FREE,
   BPM_POOL_EMPTY, BPM_QUOTA_REFUSED, BPM_SPILL_STALL, BPM_CHUNK_LOST, BPM_STATE_ECC, BPM_RECLAIM,
   BPM_CHUNKS_LOW, QUE_BACKSTOP, QUE_XBAR_CELL_ERR, QUE_LATE_DROP, QUE_PORT_FLUSH, QUE_MOVE_FLUSH,
   QUE_MC_PARTIAL, QUE_STATE_ECC, QUE_DRAIN_DISCARD, QUE_TAG_MISMATCH, SCH_STATE_ECC, SCH_CFG_ECC,
   SCH_STARVE, POL_STATE_ECC, POL_CFG_ECC, LHT_STATE_CHANGE, LHT_REF_LOST, LHT_REF_SWITCH,
   LHT_TIME_STEP, LHT_HOLDOVER, LHT_FREERUN, LHT_OSC_LOST, LHT_TEMP_FAULT]
/-- Sources of Table 27.1, part 3. -/
def part3 : List Source :=
  [LHT_MODEL_STORE_ERR, LHT_TOD_BAD, LHT_SYNCE_STATE, PTP_PORT_STATE, PTP_RX_BAD, PTP_CLASS_CHANGE,
   PTP_PARENT_CHANGE, PTP_ANNOUNCE_TIMEOUT, PTP_GRANT_REFUSED, PTP_TX_TS_MISSING, SYNCE_QL_CHANGE,
   ESMC_TIMEOUT, ESMC_BAD, GTE_LIST_CHANGE, GTE_TOO_LONG, EXP_DEADLINE_DROP, EXP_CUT_TRUNC,
   EXP_QFULL, EXP_MISS, GTE_WINDOW_LOST, PREEMPT_VERIFY_FAIL, GTE_TABLE_ECC, EXP_DRAIN_DISCARD,
   EXP_BUF_FULL, EXP_NO_QUEUE, HBC_CE, HBC_UE, HBC_ROW_REPAIRED, HBC_ROW_UNREPAIRABLE,
   HBC_PC_RETIRED, HBC_TRAIN_FAIL, HBC_STACK_HOT, HBC_REQ_ERR, HBC_SR_CUT, HBC_LANE_REPAIRED,
   TTB_STARVE, TTB_CFG_PARITY, TTB_OVERCOMMIT, KPR_ENGINE_LOCKUP, KPR_CLUSTER_LOCKUP]
/-- Sources of Table 27.1, part 4. -/
def part4 : List Source :=
  [KPR_ESCALATE, KPR_STALE_RESULT, KPR_CS_ECC, KPR_DM_ECC, KPR_PATCH_APPLIED, KPR_PATCH_FAIL,
   KPR_MBX_BAD_CMD, KPR_MBX_DMA_ERR, KPR_TASK_MOVED, KPR_QUEUE_ERR, FLT_LANE_SPARED,
   FLT_BUNDLE_DOWN, FLT_BUNDLE_UP, FLT_REPLAY_FAIL, FLT_PEER_REFUSED, FLT_PAIR_STATE, FLT_TAKEOVER,
   FLT_STALE_FRAME, FLT_MIRROR_FULL, FLT_SYNC_DONE, FLT_STACK_MASTER, FLT_BAD_FRAME,
   FLT_CREDIT_STALL, RND_RIGHTS_VIOLATION, RND_IMAGE_REJECT, RND_PATCH_REJECT, RND_DEBUG_OPEN,
   RND_DEBUG_AUTH_FAIL, RND_TAMPER, RND_RNG_FAIL, RND_SVN_COMMIT, RND_SVN_DEFERRED, RND_FUSE_ERR,
   RND_KEY_ECC, IMG_ATTEMPT_FAIL, IMG_FALLBACK, IMG_NO_IMAGE, IMG_NVM_TIMEOUT, IMG_FLASH_ERR,
   HST_WRITE_REJECTED]
/-- Sources of Table 27.1, part 5. -/
def part5 : List Source :=
  [HST_DMA_ERR, HST_DESC_BAD, HST_REG_TIMEOUT, MGS_TIMEOUT, MGS_BAD_INDEX, RST_TRIM_FAIL, RST_DONE,
   RST_RETAIN_LOST, PWR_REFUSED, PWR_DOMAIN_FAIL, CLK_REF_LOST, CLK_SWITCH, CLK_PLL_UNLOCK,
   THERM_WARN, THERM_HOT, THERM_SENSOR_FAULT, THERM_TRIP, DGN_INJECT_ACTIVE, DGN_PERTURB_ACTIVE,
   DGN_BIST_FAIL, DGN_LOOPBACK_ACTIVE]
/-- The implemented sources of Table 27.1. -/
def all : List Source := part0 ++ part1 ++ part2 ++ part3 ++ part4 ++ part5

end Ev

end Sys2Proof.Machine
end

