-- ==== Sys2Proof/Machine/RegDesc.lean ====
section
/-! DEFINITION. How a register of the map is described: where it lies (R786), how often it is repeated,
what it reads after reset, and for each field its place, access type (Table 0.2) and the values a write may
carry (R10). -/
namespace Sys2Proof.Machine

/-- The access types of Table 0.2; `reserved` is a reserved field, which reads 0 and which no write may set (R10). -/
inductive Access where
  | rw | ro | w1c | w1s | rc | wo | seal | reserved
  deriving DecidableEq, Repr

/-- One field of a register: its lowest bit, its width, its access type, and the inclusive ranges a write of
it may carry (none listed: every value). -/
structure FieldDesc where
  lo : Nat
  width : Nat
  access : Access
  ranges : List (Nat × Nat)
  deriving DecidableEq, Repr

/-- A register or register array: the bit of its block in RND_WR_BLOCKS, the address of its first word, how
many instances hold it (0x0004_0000 apart, R786), two index counts with their strides, the value it reads
after reset, the items whose reset value differs, whether it has one copy per rule slot (R194), its fields. -/
structure Reg where
  blk : Nat
  base : Nat
  insts : Nat
  n1 : Nat
  s1 : Nat
  n2 : Nat
  s2 : Nat
  resetVal : Nat
  resetAt : List (Nat × Nat)
  perSlot : Bool
  fields : List FieldDesc
  deriving DecidableEq, Repr

/-- A named field of a register: BLOCK_REGISTER.FIELD. -/
structure Fld where
  reg : Reg
  lo : Nat
  width : Nat
  deriving DecidableEq, Repr

/-- The bus address of an item of a register (R786). -/
def Reg.addr (r : Reg) (inst i k : Nat) : Nat :=
  r.base + inst * 0x40000 + r.s1 * i + r.s2 * k

/-- The value an item reads after reset (R7, R792). -/
def Reg.resetOf (r : Reg) (i k : Nat) : Word :=
  BitVec.ofNat 32 ((r.resetAt.lookup (i * r.n2 + k)).getD r.resetVal)

/-- The item of a register that lies at a bus address, as (instance, first index, second index). -/
def Reg.item? (r : Reg) (a : Nat) : Option (Nat × Nat × Nat) :=
  if a < r.base then none
  else
    let d := a - r.base
    let inst := d / 0x40000
    let o := d % 0x40000
    let i := if r.s1 = 0 then 0 else o / r.s1
    let o1 := o - i * r.s1
    let k := if r.s2 = 0 then 0 else o1 / r.s2
    if inst < r.insts ∧ i < r.n1 ∧ k < r.n2 ∧ r.addr inst i k = a then some (inst, i, k) else none

/-- The field of a word that starts at bit `lo`. -/
def bitsOf (w : Word) (lo width : Nat) : Nat := w.toNat / 2 ^ lo % 2 ^ width

/-- A word with one field replaced. -/
def setBitsOf (w : Word) (lo width v : Nat) : Word :=
  BitVec.ofNat 32
    (w.toNat / 2 ^ (lo + width) * 2 ^ (lo + width) + v % 2 ^ width * 2 ^ lo + w.toNat % 2 ^ lo)

/-- The test of R10 on one field: the value lies in an allowed range. -/
def FieldDesc.allows (f : FieldDesc) (v : Nat) : Bool :=
  f.ranges.isEmpty || f.ranges.any (fun r => decide (r.1 ≤ v ∧ v ≤ r.2))

end Sys2Proof.Machine
end

