-- ==== Sys2Proof/Machine/Regs.lean ====
section
/-! DEFINITION. The registers of the device, transcribed from the register tables of every chapter and
from the register map (spec 29, R786 to R792): one `Reg` per register or register array. -/
namespace Sys2Proof.Machine.Reg

/-- LNE_CTRL: spec 02. -/
def LNE_CTRL : Reg :=
  ⟨11, 0x01000000, 4, 24, 4, 1, 0, 0x0, [], false,
   [⟨0, 2, .rw, [(0, 2)]⟩, ⟨2, 3, .rw, [(0, 4)]⟩, ⟨5, 1, .rw, []⟩, ⟨6, 1, .rw, []⟩, ⟨7, 1, .wo, []⟩, ⟨8, 24, .reserved, []⟩]⟩
/-- LNE_STATUS: spec 02. -/
def LNE_STATUS : Reg :=
  ⟨11, 0x01000200, 4, 24, 4, 1, 0, 0x0, [], false,
   [⟨0, 1, .ro, []⟩, ⟨1, 1, .ro, []⟩, ⟨2, 1, .ro, []⟩, ⟨3, 1, .ro, []⟩, ⟨4, 1, .ro, []⟩, ⟨5, 1, .ro, []⟩, ⟨6, 3, .ro, []⟩, ⟨9, 7, .reserved, []⟩, ⟨16, 8, .ro, []⟩, ⟨24, 8, .reserved, []⟩]⟩
/-- LNE_PRBS_CTRL: spec 02. -/
def LNE_PRBS_CTRL : Reg :=
  ⟨11, 0x01000400, 4, 24, 4, 1, 0, 0x0, [], false,
   [⟨0, 4, .rw, [(0, 8)]⟩, ⟨4, 1, .rw, []⟩, ⟨5, 1, .rw, []⟩, ⟨6, 1, .wo, []⟩, ⟨7, 25, .reserved, []⟩]⟩
/-- LNE_PRBS_ERRS: spec 02. -/
def LNE_PRBS_ERRS : Reg :=
  ⟨11, 0x01000600, 4, 24, 4, 1, 0, 0x0, [], false,
   [⟨0, 32, .ro, []⟩]⟩
/-- LNE_OCTET_CTRL: spec 02. -/
def LNE_OCTET_CTRL : Reg :=
  ⟨11, 0x01000800, 4, 3, 4, 1, 0, 0x0, [], false,
   [⟨0, 1, .rw, []⟩, ⟨1, 1, .wo, []⟩, ⟨2, 1, .ro, []⟩, ⟨3, 1, .ro, []⟩, ⟨4, 28, .reserved, []⟩]⟩
/-- PRT_MODE: spec 02. -/
def PRT_MODE : Reg :=
  ⟨12, 0x01100000, 4, 24, 4, 1, 0, 0x0, [], false,
   [⟨0, 1, .rw, []⟩, ⟨1, 4, .rw, []⟩, ⟨5, 2, .rw, []⟩, ⟨7, 1, .rw, []⟩, ⟨8, 1, .rw, []⟩, ⟨9, 1, .rw, []⟩, ⟨10, 1, .wo, []⟩, ⟨11, 21, .reserved, []⟩]⟩
/-- PRT_LINK_CFG: spec 02. -/
def PRT_LINK_CFG : Reg :=
  ⟨12, 0x01100200, 4, 24, 4, 1, 0, 0x40000064, [], false,
   [⟨0, 10, .rw, [(0, 1000)]⟩, ⟨10, 10, .rw, [(0, 1000)]⟩, ⟨20, 7, .rw, [(0, 120)]⟩, ⟨27, 4, .rw, []⟩, ⟨31, 1, .reserved, []⟩]⟩
/-- PRT_LINK_STATUS: spec 02. -/
def PRT_LINK_STATUS : Reg :=
  ⟨12, 0x01100400, 4, 24, 4, 1, 0, 0x0, [], false,
   [⟨0, 3, .ro, []⟩, ⟨3, 1, .ro, []⟩, ⟨4, 1, .ro, []⟩, ⟨5, 1, .ro, []⟩, ⟨6, 4, .ro, []⟩, ⟨10, 1, .ro, []⟩, ⟨11, 1, .ro, []⟩, ⟨12, 1, .ro, []⟩, ⟨13, 19, .reserved, []⟩]⟩
/-- PRT_ARB_CFG: spec 02. -/
def PRT_ARB_CFG : Reg :=
  ⟨12, 0x01100600, 4, 24, 4, 1, 0, 0x3CE0C080, [], false,
   [⟨0, 8, .rw, []⟩, ⟨8, 8, .rw, []⟩, ⟨16, 8, .rw, []⟩, ⟨24, 3, .rw, []⟩, ⟨27, 3, .rw, []⟩, ⟨30, 2, .reserved, []⟩]⟩
/-- PRT_EBB_CFG: spec 02. -/
def PRT_EBB_CFG : Reg :=
  ⟨12, 0x01100800, 4, 24, 4, 1, 0, 0x730400A0, [], false,
   [⟨0, 2, .rw, []⟩, ⟨2, 6, .rw, [(5, 50)]⟩, ⟨8, 16, .rw, [(64, 65535)]⟩, ⟨24, 4, .rw, [(0, 10)]⟩, ⟨28, 4, .rw, [(0, 12)]⟩]⟩
/-- PRT_PIPE_CFG: spec 02. -/
def PRT_PIPE_CFG : Reg :=
  ⟨12, 0x0110F000, 4, 1, 0, 1, 0, 0x1030A00, [], false,
   [⟨0, 1, .rw, []⟩, ⟨1, 3, .reserved, []⟩, ⟨4, 8, .rw, [(1, 255)]⟩, ⟨12, 8, .rw, [(1, 255)]⟩, ⟨20, 8, .rw, [(1, 255)]⟩, ⟨28, 4, .reserved, []⟩]⟩
/-- PRT_PIPE_STATUS: spec 02. -/
def PRT_PIPE_STATUS : Reg :=
  ⟨12, 0x0110F004, 4, 1, 0, 1, 0, 0x0, [], false,
   [⟨0, 11, .ro, []⟩, ⟨11, 21, .reserved, []⟩]⟩
/-- PRT_MAC_CFG: spec 03. -/
def PRT_MAC_CFG : Reg :=
  ⟨12, 0x01100C00, 4, 24, 4, 1, 0, 0xC5EE, [], false,
   [⟨0, 14, .rw, [(1518, 16000)]⟩, ⟨14, 1, .rw, []⟩, ⟨15, 1, .rw, []⟩, ⟨16, 1, .rw, []⟩, ⟨17, 15, .reserved, []⟩]⟩
/-- PRT_MAC_ADDR_LO: spec 03. -/
def PRT_MAC_ADDR_LO : Reg :=
  ⟨12, 0x01100E00, 4, 24, 4, 1, 0, 0x0, [], false,
   [⟨0, 32, .rw, []⟩]⟩
/-- PRT_MAC_ADDR_HI: spec 03. -/
def PRT_MAC_ADDR_HI : Reg :=
  ⟨12, 0x01101000, 4, 24, 4, 1, 0, 0x0, [], false,
   [⟨0, 16, .rw, []⟩, ⟨16, 16, .reserved, []⟩]⟩
/-- PRT_PAUSE_CFG: spec 03. -/
def PRT_PAUSE_CFG : Reg :=
  ⟨12, 0x01101200, 4, 24, 4, 1, 0, 0x65FFFE0, [], false,
   [⟨0, 2, .rw, [(0, 2)]⟩, ⟨2, 1, .rw, []⟩, ⟨3, 1, .rw, []⟩, ⟨4, 1, .seal, []⟩, ⟨5, 16, .rw, [(1, 65535)]⟩, ⟨21, 7, .rw, [(10, 90)]⟩, ⟨28, 4, .reserved, []⟩]⟩
/-- PRT_PFC_STORM: spec 03. -/
def PRT_PFC_STORM : Reg :=
  ⟨12, 0x01101400, 4, 24, 4, 1, 0, 0x64064, [], false,
   [⟨0, 10, .rw, [(0, 1000)]⟩, ⟨10, 1, .rw, []⟩, ⟨11, 10, .rw, [(1, 1000)]⟩, ⟨21, 11, .reserved, []⟩]⟩
/-- PRT_TS_CFG: spec 03. -/
def PRT_TS_CFG : Reg :=
  ⟨12, 0x01101600, 4, 24, 4, 1, 0, 0x0, [], false,
   [⟨0, 16, .rw, []⟩, ⟨16, 16, .rw, []⟩]⟩
/-- PRT_PFC_MAP: spec 03. -/
def PRT_PFC_MAP : Reg :=
  ⟨12, 0x01102000, 4, 24, 16, 4, 4, 0x0, [(0, 0xC0003), (1, 0xC00030), (2, 0xC000300), (3, 0xC0003000), (4, 0xC0003), (5, 0xC00030), (6, 0xC000300), (7, 0xC0003000), (8, 0xC0003), (9, 0xC00030), (10, 0xC000300), (11, 0xC0003000), (12, 0xC0003), (13, 0xC00030), (14, 0xC000300), (15, 0xC0003000), (16, 0xC0003), (17, 0xC00030), (18, 0xC000300), (19, 0xC0003000), (20, 0xC0003), (21, 0xC00030), (22, 0xC000300), (23, 0xC0003000), (24, 0xC0003), (25, 0xC00030), (26, 0xC000300), (27, 0xC0003000), (28, 0xC0003), (29, 0xC00030), (30, 0xC000300), (31, 0xC0003000), (32, 0xC0003), (33, 0xC00030), (34, 0xC000300), (35, 0xC0003000), (36, 0xC0003), (37, 0xC00030), (38, 0xC000300), (39, 0xC0003000), (40, 0xC0003), (41, 0xC00030), (42, 0xC000300), (43, 0xC0003000), (44, 0xC0003), (45, 0xC00030), (46, 0xC000300), (47, 0xC0003000), (48, 0xC0003), (49, 0xC00030), (50, 0xC000300), (51, 0xC0003000), (52, 0xC0003), (53, 0xC00030), (54, 0xC000300), (55, 0xC0003000), (56, 0xC0003), (57, 0xC00030), (58, 0xC000300), (59, 0xC0003000), (60, 0xC0003), (61, 0xC00030), (62, 0xC000300), (63, 0xC0003000), (64, 0xC0003), (65, 0xC00030), (66, 0xC000300), (67, 0xC0003000), (68, 0xC0003), (69, 0xC00030), (70, 0xC000300), (71, 0xC0003000), (72, 0xC0003), (73, 0xC00030), (74, 0xC000300), (75, 0xC0003000), (76, 0xC0003), (77, 0xC00030), (78, 0xC000300), (79, 0xC0003000), (80, 0xC0003), (81, 0xC00030), (82, 0xC000300), (83, 0xC0003000), (84, 0xC0003), (85, 0xC00030), (86, 0xC000300), (87, 0xC0003000), (88, 0xC0003), (89, 0xC00030), (90, 0xC000300), (91, 0xC0003000), (92, 0xC0003), (93, 0xC00030), (94, 0xC000300), (95, 0xC0003000)], false,
   [⟨0, 16, .rw, []⟩, ⟨16, 16, .rw, []⟩]⟩
/-- MSC_PORT_CFG: spec 04. -/
def MSC_PORT_CFG : Reg :=
  ⟨13, 0x01200000, 4, 24, 4, 1, 0, 0x388, [], false,
   [⟨0, 1, .seal, []⟩, ⟨1, 2, .seal, []⟩, ⟨3, 1, .seal, []⟩, ⟨4, 2, .seal, [(0, 2)]⟩, ⟨6, 2, .seal, [(0, 2)]⟩, ⟨8, 1, .seal, []⟩, ⟨9, 1, .seal, []⟩, ⟨10, 1, .seal, []⟩, ⟨11, 21, .reserved, []⟩]⟩
/-- MSC_REPLAY_WIN: spec 04. -/
def MSC_REPLAY_WIN : Reg :=
  ⟨13, 0x01200200, 4, 24, 4, 1, 0, 0x0, [], false,
   [⟨0, 30, .seal, []⟩, ⟨30, 2, .reserved, []⟩]⟩
/-- MSC_MKA_CFG: spec 04. -/
def MSC_MKA_CFG : Reg :=
  ⟨13, 0x01200400, 4, 24, 4, 1, 0, 0xC10, [], false,
   [⟨0, 8, .seal, []⟩, ⟨8, 2, .seal, [(0, 2)]⟩, ⟨10, 6, .seal, [(1, 60)]⟩, ⟨16, 16, .reserved, []⟩]⟩
/-- MSC_PN_THRESH: spec 04. -/
def MSC_PN_THRESH : Reg :=
  ⟨13, 0x01200600, 4, 24, 4, 1, 0, 0xC0000000, [], false,
   [⟨0, 32, .seal, [(1, 4294967295)]⟩]⟩
/-- MSC_SA_STATUS: spec 04. -/
def MSC_SA_STATUS : Reg :=
  ⟨13, 0x01200800, 4, 24, 4, 1, 0, 0x0, [], false,
   [⟨0, 2, .ro, []⟩, ⟨2, 1, .ro, []⟩, ⟨3, 1, .ro, []⟩, ⟨4, 4, .ro, []⟩, ⟨8, 24, .reserved, []⟩]⟩
/-- MSC_TX_NEXTPN_LO: spec 04. -/
def MSC_TX_NEXTPN_LO : Reg :=
  ⟨13, 0x01200A00, 4, 24, 4, 1, 0, 0x0, [], false,
   [⟨0, 32, .ro, []⟩]⟩
/-- MSC_TX_NEXTPN_HI: spec 04. -/
def MSC_TX_NEXTPN_HI : Reg :=
  ⟨13, 0x01200C00, 4, 24, 4, 1, 0, 0x0, [], false,
   [⟨0, 32, .ro, []⟩]⟩
/-- PRS_CTRL: spec 05. -/
def PRS_CTRL : Reg :=
  ⟨15, 0x02000000, 4, 1, 0, 1, 0, 0x2, [], false,
   [⟨0, 1, .rw, []⟩, ⟨1, 1, .ro, []⟩, ⟨2, 30, .reserved, []⟩]⟩
/-- PRS_UDP_PORTS: spec 05. -/
def PRS_UDP_PORTS : Reg :=
  ⟨15, 0x02000004, 4, 1, 0, 1, 0, 0x86812B5, [], false,
   [⟨0, 16, .rw, []⟩, ⟨16, 16, .rw, []⟩]⟩
/-- PRS_TUN_CFG: spec 05. -/
def PRS_TUN_CFG : Reg :=
  ⟨15, 0x02000008, 4, 1, 0, 1, 0, 0x0, [], false,
   [⟨0, 16, .rw, []⟩, ⟨16, 2, .rw, [(0, 2)]⟩, ⟨18, 14, .reserved, []⟩]⟩
/-- PRS_EXP_MATCH: spec 05. -/
def PRS_EXP_MATCH : Reg :=
  ⟨15, 0x02000100, 4, 16, 4, 1, 0, 0x0, [], false,
   [⟨0, 16, .seal, []⟩, ⟨16, 12, .seal, []⟩, ⟨28, 1, .seal, []⟩, ⟨29, 1, .seal, []⟩, ⟨30, 2, .reserved, []⟩]⟩
/-- PRS_PORT_ACT: spec 05. -/
def PRS_PORT_ACT : Reg :=
  ⟨15, 0x02000400, 4, 24, 4, 1, 0, 0x4, [], false,
   [⟨0, 2, .rw, []⟩, ⟨2, 2, .rw, []⟩, ⟨4, 28, .reserved, []⟩]⟩
/-- RBK_CTRL: spec 06. -/
def RBK_CTRL : Reg :=
  ⟨16, 0x02100000, 4, 1, 0, 1, 0, 0x6, [], false,
   [⟨0, 1, .rw, []⟩, ⟨1, 1, .ro, []⟩, ⟨2, 1, .rw, []⟩, ⟨3, 29, .reserved, []⟩]⟩
/-- RBK_EPOCH_CFG: spec 06. -/
def RBK_EPOCH_CFG : Reg :=
  ⟨16, 0x02100004, 4, 1, 0, 1, 0, 0xC8, [], false,
   [⟨0, 14, .rw, [(10, 10000)]⟩, ⟨14, 18, .reserved, []⟩]⟩
/-- RBK_EPOCH_STATUS: spec 06. -/
def RBK_EPOCH_STATUS : Reg :=
  ⟨16, 0x02100008, 4, 1, 0, 1, 0, 0x4, [], false,
   [⟨0, 1, .ro, []⟩, ⟨1, 2, .ro, []⟩, ⟨3, 2, .ro, []⟩, ⟨5, 1, .ro, []⟩, ⟨6, 26, .reserved, []⟩]⟩
/-- RBK_EPOCH_NUM: spec 06. -/
def RBK_EPOCH_NUM : Reg :=
  ⟨16, 0x0210000C, 4, 1, 0, 1, 0, 0x1, [], false,
   [⟨0, 16, .ro, []⟩, ⟨16, 16, .ro, []⟩]⟩
/-- RBK_EPOCH_INFLIGHT: spec 06. -/
def RBK_EPOCH_INFLIGHT : Reg :=
  ⟨16, 0x02100010, 4, 1, 0, 1, 0, 0x0, [], false,
   [⟨0, 16, .ro, []⟩, ⟨16, 16, .ro, []⟩]⟩
/-- RBK_SPECIAL_PROF: spec 06. -/
def RBK_SPECIAL_PROF : Reg :=
  ⟨16, 0x02100014, 4, 1, 0, 1, 0, 0x0, [], true,
   [⟨0, 6, .rw, []⟩, ⟨6, 6, .rw, []⟩, ⟨12, 20, .reserved, []⟩]⟩
/-- RBK_VIEW: spec 06. -/
def RBK_VIEW : Reg :=
  ⟨16, 0x02100018, 4, 1, 0, 1, 0, 0x0, [], false,
   [⟨0, 1, .rw, []⟩, ⟨1, 31, .reserved, []⟩]⟩
/-- RBK_BANK_CFG: spec 06. -/
def RBK_BANK_CFG : Reg :=
  ⟨16, 0x02100100, 4, 32, 4, 1, 0, 0x0, [], false,
   [⟨0, 2, .seal, [(0, 2)]⟩, ⟨2, 1, .rw, []⟩, ⟨3, 29, .reserved, []⟩]⟩
/-- RBK_PORT_PROF: spec 06. -/
def RBK_PORT_PROF : Reg :=
  ⟨16, 0x02100400, 4, 24, 4, 1, 0, 0x0, [], true,
   [⟨0, 6, .rw, []⟩, ⟨6, 6, .rw, []⟩, ⟨12, 6, .rw, []⟩, ⟨18, 6, .rw, []⟩, ⟨24, 6, .rw, []⟩, ⟨30, 2, .rw, []⟩]⟩
/-- RBK_PROF_CTRL: spec 06. -/
def RBK_PROF_CTRL : Reg :=
  ⟨16, 0x02101000, 4, 64, 4, 1, 0, 0x0, [], true,
   [⟨0, 1, .rw, []⟩, ⟨1, 2, .rw, []⟩, ⟨3, 1, .rw, []⟩, ⟨4, 4, .reserved, []⟩, ⟨8, 1, .rw, []⟩, ⟨9, 2, .rw, []⟩, ⟨11, 1, .rw, []⟩, ⟨12, 4, .reserved, []⟩, ⟨16, 1, .rw, []⟩, ⟨17, 2, .rw, []⟩, ⟨19, 1, .rw, []⟩, ⟨20, 4, .reserved, []⟩, ⟨24, 1, .rw, []⟩, ⟨25, 2, .rw, []⟩, ⟨27, 1, .rw, []⟩, ⟨28, 4, .reserved, []⟩]⟩
/-- RBK_PROF_BANKS: spec 06. -/
def RBK_PROF_BANKS : Reg :=
  ⟨16, 0x02101400, 4, 64, 16, 4, 4, 0x0, [], true,
   [⟨0, 32, .rw, []⟩]⟩
/-- RBK_MISS_ACT_LO: spec 06. -/
def RBK_MISS_ACT_LO : Reg :=
  ⟨16, 0x02102000, 4, 64, 32, 4, 8, 0x0, [], true,
   [⟨0, 32, .rw, []⟩]⟩
/-- RBK_MISS_ACT_HI: spec 06. -/
def RBK_MISS_ACT_HI : Reg :=
  ⟨16, 0x02102004, 4, 64, 32, 4, 8, 0x0, [], true,
   [⟨0, 32, .rw, []⟩]⟩
/-- EXM_CTRL: spec 07. -/
def EXM_CTRL : Reg :=
  ⟨17, 0x02200000, 4, 1, 0, 1, 0, 0x2, [], false,
   [⟨0, 1, .rw, []⟩, ⟨1, 1, .ro, []⟩, ⟨2, 30, .reserved, []⟩]⟩
/-- EXM_OVF_STATUS: spec 07. -/
def EXM_OVF_STATUS : Reg :=
  ⟨17, 0x02200004, 4, 1, 0, 1, 0, 0x0, [], false,
   [⟨0, 14, .ro, []⟩, ⟨14, 1, .ro, []⟩, ⟨15, 17, .reserved, []⟩]⟩
/-- EXM_REGION_CFG: spec 07. -/
def EXM_REGION_CFG : Reg :=
  ⟨17, 0x02200008, 4, 1, 0, 1, 0, 0x0, [], false,
   [⟨0, 6, .seal, [(0, 32)]⟩, ⟨6, 5, .seal, [(0, 16)]⟩, ⟨11, 7, .seal, [(0, 64)]⟩, ⟨18, 14, .reserved, []⟩]⟩
/-- EXM_SECT_CFG: spec 07. -/
def EXM_SECT_CFG : Reg :=
  ⟨17, 0x02200100, 4, 16, 4, 1, 0, 0x0, [], false,
   [⟨0, 9, .seal, [(0, 311)]⟩, ⟨9, 9, .seal, [(0, 312)]⟩, ⟨18, 1, .seal, []⟩, ⟨19, 4, .seal, []⟩, ⟨23, 1, .seal, []⟩, ⟨24, 8, .reserved, []⟩]⟩
/-- EXM_SECT_SEED: spec 07. -/
def EXM_SECT_SEED : Reg :=
  ⟨17, 0x02200140, 4, 16, 4, 1, 0, 0x0, [], false,
   [⟨0, 16, .seal, []⟩, ⟨16, 16, .seal, []⟩]⟩
/-- EXM_SECT_LIM: spec 07. -/
def EXM_SECT_LIM : Reg :=
  ⟨17, 0x02200180, 4, 16, 4, 1, 0, 0x10000, [], false,
   [⟨0, 14, .rw, [(0, 8192)]⟩, ⟨14, 4, .rw, [(0, 8)]⟩, ⟨18, 1, .rw, []⟩, ⟨19, 13, .reserved, []⟩]⟩
/-- EXM_SECT_STATUS: spec 07. -/
def EXM_SECT_STATUS : Reg :=
  ⟨17, 0x022001C0, 4, 16, 4, 1, 0, 0x0, [], false,
   [⟨0, 19, .ro, []⟩, ⟨19, 13, .reserved, []⟩]⟩
/-- EXM_SECT_MISS: spec 07. -/
def EXM_SECT_MISS : Reg :=
  ⟨17, 0x02200200, 4, 16, 4, 1, 0, 0x0, [], false,
   [⟨0, 32, .rw, []⟩]⟩
/-- EXM_PROF: spec 07. -/
def EXM_PROF : Reg :=
  ⟨17, 0x02200400, 4, 64, 4, 1, 0, 0x0, [], false,
   [⟨0, 1, .rw, []⟩, ⟨1, 1, .rw, []⟩, ⟨2, 4, .rw, []⟩, ⟨6, 1, .rw, []⟩, ⟨7, 1, .reserved, []⟩, ⟨8, 1, .rw, []⟩, ⟨9, 1, .rw, []⟩, ⟨10, 4, .rw, []⟩, ⟨14, 1, .rw, []⟩, ⟨15, 1, .reserved, []⟩, ⟨16, 1, .rw, []⟩, ⟨17, 1, .rw, []⟩, ⟨18, 14, .reserved, []⟩]⟩
/-- EXM_PORT_VRF: spec 07. -/
def EXM_PORT_VRF : Reg :=
  ⟨17, 0x02200600, 4, 24, 4, 1, 0, 0x0, [], false,
   [⟨0, 8, .rw, []⟩, ⟨8, 8, .rw, []⟩, ⟨16, 16, .reserved, []⟩]⟩
/-- LPM_CTRL: spec 07. -/
def LPM_CTRL : Reg :=
  ⟨18, 0x02300000, 4, 1, 0, 1, 0, 0x6, [], false,
   [⟨0, 1, .rw, []⟩, ⟨1, 1, .ro, []⟩, ⟨2, 1, .rw, []⟩, ⟨3, 1, .rw, []⟩, ⟨4, 28, .reserved, []⟩]⟩
/-- LPM_STATUS: spec 07. -/
def LPM_STATUS : Reg :=
  ⟨18, 0x02300004, 4, 1, 0, 1, 0, 0x0, [], false,
   [⟨0, 20, .ro, []⟩, ⟨20, 12, .reserved, []⟩]⟩
/-- LPM_ROUTES4: spec 07. -/
def LPM_ROUTES4 : Reg :=
  ⟨18, 0x02300008, 4, 1, 0, 1, 0, 0x0, [], false,
   [⟨0, 20, .ro, []⟩, ⟨20, 12, .reserved, []⟩]⟩
/-- LPM_ROUTES6: spec 07. -/
def LPM_ROUTES6 : Reg :=
  ⟨18, 0x0230000C, 4, 1, 0, 1, 0, 0x0, [], false,
   [⟨0, 18, .ro, []⟩, ⟨18, 14, .reserved, []⟩]⟩
/-- LRN_CTRL: spec 08. -/
def LRN_CTRL : Reg :=
  ⟨19, 0x02400000, 4, 1, 0, 1, 0, 0x2, [], false,
   [⟨0, 1, .rw, []⟩, ⟨1, 1, .ro, []⟩, ⟨2, 1, .rw, []⟩, ⟨3, 1, .rw, []⟩, ⟨4, 28, .reserved, []⟩]⟩
/-- LRN_QUEUE_STATUS: spec 08. -/
def LRN_QUEUE_STATUS : Reg :=
  ⟨19, 0x02400004, 4, 1, 0, 1, 0, 0x0, [], false,
   [⟨0, 13, .ro, []⟩, ⟨13, 1, .ro, []⟩, ⟨14, 18, .reserved, []⟩]⟩
/-- LRN_SWEEP_CFG: spec 08. -/
def LRN_SWEEP_CFG : Reg :=
  ⟨19, 0x02400008, 4, 1, 0, 1, 0, 0x3E8, [], false,
   [⟨0, 14, .rw, [(100, 10000)]⟩, ⟨14, 18, .reserved, []⟩]⟩
/-- LRN_MOVE_CFG: spec 08. -/
def LRN_MOVE_CFG : Reg :=
  ⟨19, 0x0240000C, 4, 1, 0, 1, 0, 0x3E808, [], false,
   [⟨0, 8, .rw, [(0, 254)]⟩, ⟨8, 15, .rw, [(100, 30000)]⟩, ⟨23, 9, .reserved, []⟩]⟩
/-- LRN_TICK: spec 08. -/
def LRN_TICK : Reg :=
  ⟨19, 0x02400010, 4, 1, 0, 1, 0, 0x0, [], false,
   [⟨0, 16, .ro, []⟩, ⟨16, 16, .reserved, []⟩]⟩
/-- LRN_SWEEP_STATUS: spec 08. -/
def LRN_SWEEP_STATUS : Reg :=
  ⟨19, 0x02400014, 4, 1, 0, 1, 0, 0x0, [], false,
   [⟨0, 32, .ro, []⟩]⟩
/-- LRN_WALK_CFG: spec 08. -/
def LRN_WALK_CFG : Reg :=
  ⟨19, 0x02400018, 4, 1, 0, 1, 0, 0x64, [], false,
   [⟨0, 14, .rw, [(10, 10000)]⟩, ⟨14, 18, .reserved, []⟩]⟩
/-- LRN_SWEEP_CLASS: spec 08. -/
def LRN_SWEEP_CLASS : Reg :=
  ⟨19, 0x02400020, 4, 4, 4, 1, 0, 0x0, [(0, 0x12C)], false,
   [⟨0, 16, .rw, []⟩, ⟨16, 16, .reserved, []⟩]⟩
/-- LRN_SECT_CFG: spec 08. -/
def LRN_SECT_CFG : Reg :=
  ⟨19, 0x02400100, 4, 16, 4, 1, 0, 0x0, [], false,
   [⟨0, 1, .rw, []⟩, ⟨1, 2, .rw, []⟩, ⟨3, 1, .rw, []⟩, ⟨4, 19, .rw, [(0, 327680)]⟩, ⟨23, 9, .reserved, []⟩]⟩
/-- LRN_PROF: spec 08. -/
def LRN_PROF : Reg :=
  ⟨19, 0x02400200, 4, 64, 4, 1, 0, 0x0, [], false,
   [⟨0, 1, .rw, []⟩, ⟨1, 4, .rw, []⟩, ⟨5, 27, .reserved, []⟩]⟩
/-- LRN_PORT_CFG: spec 08. -/
def LRN_PORT_CFG : Reg :=
  ⟨19, 0x02400400, 4, 24, 4, 1, 0, 0x1, [], false,
   [⟨0, 1, .rw, []⟩, ⟨1, 1, .rw, []⟩, ⟨2, 16, .rw, []⟩, ⟨18, 14, .reserved, []⟩]⟩
/-- LRN_PORT_STATUS: spec 08. -/
def LRN_PORT_STATUS : Reg :=
  ⟨19, 0x02400600, 4, 24, 4, 1, 0, 0x0, [], false,
   [⟨0, 19, .ro, []⟩, ⟨19, 13, .reserved, []⟩]⟩
/-- FLW_CTRL: spec 09. -/
def FLW_CTRL : Reg :=
  ⟨20, 0x02500000, 4, 1, 0, 1, 0, 0x2, [], false,
   [⟨0, 1, .rw, []⟩, ⟨1, 1, .ro, []⟩, ⟨2, 30, .reserved, []⟩]⟩
/-- FLW_PARK_STATUS: spec 09. -/
def FLW_PARK_STATUS : Reg :=
  ⟨20, 0x02500004, 4, 1, 0, 1, 0, 0x0, [], false,
   [⟨0, 13, .ro, []⟩, ⟨13, 13, .rc, []⟩, ⟨26, 6, .reserved, []⟩]⟩
/-- FLW_PARK_CFG: spec 09. -/
def FLW_PARK_CFG : Reg :=
  ⟨20, 0x02500008, 4, 1, 0, 1, 0, 0xE0C080, [], false,
   [⟨0, 8, .rw, [(1, 255)]⟩, ⟨8, 8, .rw, [(1, 255)]⟩, ⟨16, 8, .rw, [(1, 255)]⟩, ⟨24, 8, .reserved, []⟩]⟩
/-- FLW_PARK_TIME: spec 09. -/
def FLW_PARK_TIME : Reg :=
  ⟨20, 0x0250000C, 4, 1, 0, 1, 0, 0x32, [], false,
   [⟨0, 10, .rw, [(5, 1000)]⟩, ⟨10, 22, .reserved, []⟩]⟩
/-- FLW_HASH_CFG: spec 09. -/
def FLW_HASH_CFG : Reg :=
  ⟨20, 0x02500080, 1, 1, 0, 1, 0, 0x0, [], false,
   [⟨0, 16, .seal, []⟩, ⟨16, 16, .reserved, []⟩]⟩
/-- FLW_WHEY_CFG: spec 09. -/
def FLW_WHEY_CFG : Reg :=
  ⟨20, 0x02500084, 1, 1, 0, 1, 0, 0xA, [], false,
   [⟨0, 10, .rw, [(1, 1000)]⟩, ⟨10, 22, .reserved, []⟩]⟩
/-- FLW_EXPIRY_CFG: spec 09. -/
def FLW_EXPIRY_CFG : Reg :=
  ⟨20, 0x02500088, 1, 1, 0, 1, 0, 0xA, [], false,
   [⟨0, 10, .rw, [(1, 1000)]⟩, ⟨10, 1, .rw, []⟩, ⟨11, 21, .reserved, []⟩]⟩
/-- FLW_CLASS_CFG: spec 09. -/
def FLW_CLASS_CFG : Reg :=
  ⟨20, 0x02500100, 1, 16, 4, 1, 0, 0x0, [], false,
   [⟨0, 1, .seal, []⟩, ⟨1, 2, .seal, []⟩, ⟨3, 1, .seal, []⟩, ⟨4, 1, .seal, []⟩, ⟨5, 1, .seal, []⟩, ⟨6, 26, .reserved, []⟩]⟩
/-- FLW_CLASS_ADM: spec 09. -/
def FLW_CLASS_ADM : Reg :=
  ⟨20, 0x02500140, 1, 16, 4, 1, 0, 0x0, [], false,
   [⟨0, 2, .rw, []⟩, ⟨2, 2, .rw, [(0, 2)]⟩, ⟨4, 2, .rw, [(0, 2)]⟩, ⟨6, 26, .reserved, []⟩]⟩
/-- FLW_CLASS_TIME: spec 09. -/
def FLW_CLASS_TIME : Reg :=
  ⟨20, 0x02500180, 1, 16, 4, 1, 0, 0xA012C, [(0, 0x0)], false,
   [⟨0, 16, .rw, [(1, 65535)]⟩, ⟨16, 16, .rw, [(1, 65535)]⟩]⟩
/-- FLW_SLICE_CTRL: spec 09. -/
def FLW_SLICE_CTRL : Reg :=
  ⟨20, 0x02508000, 4, 1, 0, 1, 0, 0x2, [], false,
   [⟨0, 1, .rw, []⟩, ⟨1, 1, .ro, []⟩, ⟨2, 1, .wo, []⟩, ⟨3, 1, .ro, []⟩, ⟨4, 28, .reserved, []⟩]⟩
/-- FLW_SLICE_STATUS: spec 09. -/
def FLW_SLICE_STATUS : Reg :=
  ⟨20, 0x02508004, 4, 1, 0, 1, 0, 0x0, [], false,
   [⟨0, 17, .ro, []⟩, ⟨17, 10, .ro, []⟩, ⟨27, 5, .ro, []⟩]⟩
/-- FLW_SLICE_RECORDS: spec 09. -/
def FLW_SLICE_RECORDS : Reg :=
  ⟨20, 0x02508008, 4, 1, 0, 1, 0, 0x0, [], false,
   [⟨0, 25, .ro, []⟩, ⟨25, 7, .reserved, []⟩]⟩
/-- FLW_SVC_CFG: spec 10. -/
def FLW_SVC_CFG : Reg :=
  ⟨20, 0x02500200, 1, 16, 4, 1, 0, 0x8, [(0, 0x0)], false,
   [⟨0, 3, .seal, []⟩, ⟨3, 2, .seal, [(0, 2)]⟩, ⟨5, 1, .seal, []⟩, ⟨6, 1, .seal, []⟩, ⟨7, 1, .rw, []⟩, ⟨8, 1, .seal, []⟩, ⟨9, 2, .seal, []⟩, ⟨11, 4, .seal, []⟩, ⟨15, 4, .seal, []⟩, ⟨19, 1, .rw, []⟩, ⟨20, 1, .rw, []⟩, ⟨21, 4, .rw, []⟩, ⟨25, 1, .rw, []⟩, ⟨26, 1, .rw, []⟩, ⟨27, 5, .reserved, []⟩]⟩
/-- FLW_SETUP_LIMIT: spec 10. -/
def FLW_SETUP_LIMIT : Reg :=
  ⟨20, 0x02500240, 1, 16, 4, 1, 0, 0x4000000, [(0, 0x0)], false,
   [⟨0, 16, .rw, [(0, 40000)]⟩, ⟨16, 16, .rw, [(1, 65535)]⟩]⟩
/-- FLW_ACTIVE_TIME: spec 10. -/
def FLW_ACTIVE_TIME : Reg :=
  ⟨20, 0x02500280, 1, 16, 4, 1, 0, 0x0, [], false,
   [⟨0, 12, .rw, [(0, 3600)]⟩, ⟨12, 20, .reserved, []⟩]⟩
/-- FLW_NAT_POOL_ADDR: spec 10. -/
def FLW_NAT_POOL_ADDR : Reg :=
  ⟨20, 0x02500300, 1, 4, 8, 1, 0, 0x0, [], false,
   [⟨0, 32, .seal, []⟩]⟩
/-- FLW_NAT_POOL_CFG: spec 10. -/
def FLW_NAT_POOL_CFG : Reg :=
  ⟨20, 0x02500304, 1, 4, 8, 1, 0, 0x5800, [], false,
   [⟨0, 11, .seal, [(0, 1024)]⟩, ⟨11, 3, .seal, [(0, 4)]⟩, ⟨14, 4, .seal, [(1, 8)]⟩, ⟨18, 8, .seal, []⟩, ⟨26, 6, .reserved, []⟩]⟩
/-- FLW_NAT64_PFX: spec 10. -/
def FLW_NAT64_PFX : Reg :=
  ⟨20, 0x02500340, 1, 4, 16, 3, 4, 0x0, [], false,
   [⟨0, 32, .seal, []⟩]⟩
/-- FLW_PORT_ZONE: spec 10. -/
def FLW_PORT_ZONE : Reg :=
  ⟨20, 0x02500400, 4, 24, 4, 1, 0, 0x0, [], false,
   [⟨0, 1, .rw, []⟩, ⟨1, 31, .reserved, []⟩]⟩
/-- FLW_IPFIX_CFG: spec 10. -/
def FLW_IPFIX_CFG : Reg :=
  ⟨20, 0x02500500, 1, 1, 0, 1, 0, 0xAF04B0, [], false,
   [⟨0, 1, .rw, []⟩, ⟨1, 12, .rw, [(10, 3600)]⟩, ⟨13, 14, .rw, [(512, 8000)]⟩, ⟨27, 5, .reserved, []⟩]⟩
/-- FLW_IPFIX_DOMAIN: spec 10. -/
def FLW_IPFIX_DOMAIN : Reg :=
  ⟨20, 0x02500504, 1, 1, 0, 1, 0, 0x0, [], false,
   [⟨0, 32, .rw, []⟩]⟩
/-- FLW_IPFIX_COLL: spec 10. -/
def FLW_IPFIX_COLL : Reg :=
  ⟨20, 0x02500510, 1, 4, 4, 1, 0, 0x4A0C, [], false,
   [⟨0, 1, .rw, []⟩, ⟨1, 1, .rw, []⟩, ⟨2, 16, .rw, [(1, 65535)]⟩, ⟨18, 14, .reserved, []⟩]⟩
/-- FLW_IPFIX_COLL_ADDR: spec 10. -/
def FLW_IPFIX_COLL_ADDR : Reg :=
  ⟨20, 0x02500540, 1, 4, 16, 4, 4, 0x0, [], false,
   [⟨0, 32, .rw, []⟩]⟩
/-- FLW_IPFIX_SRC: spec 10. -/
def FLW_IPFIX_SRC : Reg :=
  ⟨20, 0x02500580, 1, 4, 4, 1, 0, 0x0, [], false,
   [⟨0, 32, .rw, []⟩]⟩
/-- FLW_IPFIX_STATUS: spec 10. -/
def FLW_IPFIX_STATUS : Reg :=
  ⟨20, 0x02500590, 1, 1, 0, 1, 0, 0x0, [], false,
   [⟨0, 17, .ro, []⟩, ⟨17, 15, .reserved, []⟩]⟩
/-- UPS_CTRL: spec 11. -/
def UPS_CTRL : Reg :=
  ⟨21, 0x02600000, 4, 1, 0, 1, 0, 0x2, [], false,
   [⟨0, 1, .rw, []⟩, ⟨1, 1, .ro, []⟩, ⟨2, 30, .reserved, []⟩]⟩
/-- UPS_CFG: spec 11. -/
def UPS_CFG : Reg :=
  ⟨21, 0x02600080, 4, 1, 0, 1, 0, 0x0, [], false,
   [⟨0, 1, .seal, []⟩, ⟨1, 2, .rw, []⟩, ⟨3, 2, .rw, [(0, 0), (2, 2)]⟩, ⟨5, 2, .rw, [(0, 2)]⟩, ⟨7, 1, .rw, []⟩, ⟨8, 1, .rw, []⟩, ⟨9, 4, .seal, []⟩, ⟨13, 4, .seal, []⟩, ⟨17, 4, .rw, []⟩, ⟨21, 11, .reserved, []⟩]⟩
/-- UPS_TEID_CFG: spec 11. -/
def UPS_TEID_CFG : Reg :=
  ⟨21, 0x02600084, 4, 1, 0, 1, 0, 0x0, [], false,
   [⟨0, 6, .seal, []⟩, ⟨6, 26, .reserved, []⟩]⟩
/-- UPS_N3_ADDR: spec 11. -/
def UPS_N3_ADDR : Reg :=
  ⟨21, 0x02600090, 4, 4, 16, 4, 4, 0x0, [], false,
   [⟨0, 32, .seal, []⟩]⟩
/-- UPS_N3_CFG: spec 11. -/
def UPS_N3_CFG : Reg :=
  ⟨21, 0x026000D0, 4, 4, 4, 1, 0, 0x0, [], false,
   [⟨0, 1, .seal, []⟩, ⟨1, 1, .seal, []⟩, ⟨2, 30, .reserved, []⟩]⟩
/-- UPS_BUF_CFG: spec 11. -/
def UPS_BUF_CFG : Reg :=
  ⟨21, 0x026000E0, 4, 1, 0, 1, 0, 0x0, [], false,
   [⟨0, 11, .seal, [(0, 1024)]⟩, ⟨11, 21, .reserved, []⟩]⟩
/-- UPS_EM_CFG: spec 11. -/
def UPS_EM_CFG : Reg :=
  ⟨21, 0x026000E4, 4, 1, 0, 1, 0, 0x14, [], false,
   [⟨0, 10, .rw, [(10, 1000)]⟩, ⟨10, 22, .reserved, []⟩]⟩
/-- UPS_RATE_CFG: spec 11. -/
def UPS_RATE_CFG : Reg :=
  ⟨21, 0x026000E8, 4, 1, 0, 1, 0, 0x3E803E8, [], false,
   [⟨0, 16, .rw, []⟩, ⟨16, 16, .rw, []⟩]⟩
/-- UPS_STATUS: spec 11. -/
def UPS_STATUS : Reg :=
  ⟨21, 0x026000F0, 4, 1, 0, 1, 0, 0x0, [], false,
   [⟨0, 23, .ro, []⟩, ⟨23, 9, .reserved, []⟩]⟩
/-- UPS_BUF_STATUS: spec 11. -/
def UPS_BUF_STATUS : Reg :=
  ⟨21, 0x026000F4, 4, 1, 0, 1, 0, 0x0, [], false,
   [⟨0, 20, .ro, []⟩, ⟨20, 12, .reserved, []⟩]⟩
/-- UPS_PROF: spec 11. -/
def UPS_PROF : Reg :=
  ⟨21, 0x02600100, 4, 64, 4, 1, 0, 0x0, [], false,
   [⟨0, 1, .rw, []⟩, ⟨1, 1, .rw, []⟩, ⟨2, 30, .reserved, []⟩]⟩
/-- EDT_CTRL: spec 12. -/
def EDT_CTRL : Reg :=
  ⟨22, 0x02700000, 4, 1, 0, 1, 0, 0x2, [], false,
   [⟨0, 1, .rw, []⟩, ⟨1, 1, .ro, []⟩, ⟨2, 30, .reserved, []⟩]⟩
/-- EDT_CFG: spec 12. -/
def EDT_CFG : Reg :=
  ⟨22, 0x02700004, 4, 1, 0, 1, 0, 0x0, [], false,
   [⟨0, 1, .rw, []⟩, ⟨1, 31, .reserved, []⟩]⟩
/-- EDT_BW_STATUS: spec 12. -/
def EDT_BW_STATUS : Reg :=
  ⟨22, 0x02700008, 4, 1, 0, 1, 0, 0x0, [], false,
   [⟨0, 11, .ro, []⟩, ⟨11, 21, .reserved, []⟩]⟩
/-- EDT_MTU: spec 12. -/
def EDT_MTU : Reg :=
  ⟨22, 0x02700100, 4, 16, 4, 1, 0, 0x5DC, [], false,
   [⟨0, 14, .rw, [(576, 16000)]⟩, ⟨14, 1, .rw, []⟩, ⟨15, 17, .reserved, []⟩]⟩
/-- EDT_SMAC_LO: spec 12. -/
def EDT_SMAC_LO : Reg :=
  ⟨22, 0x02700200, 4, 64, 8, 1, 0, 0x0, [], false,
   [⟨0, 32, .rw, []⟩]⟩
/-- EDT_SMAC_HI: spec 12. -/
def EDT_SMAC_HI : Reg :=
  ⟨22, 0x02700204, 4, 64, 8, 1, 0, 0x0, [], false,
   [⟨0, 16, .rw, []⟩, ⟨16, 16, .reserved, []⟩]⟩
/-- EDT_MIRROR_CFG: spec 12. -/
def EDT_MIRROR_CFG : Reg :=
  ⟨22, 0x02700400, 4, 8, 4, 1, 0, 0x0, [], false,
   [⟨0, 1, .rw, []⟩, ⟨1, 7, .rw, [(0, 95), (100, 100), (102, 103)]⟩, ⟨8, 1, .rw, []⟩, ⟨9, 3, .rw, [(0, 4)]⟩, ⟨12, 4, .rw, []⟩, ⟨16, 4, .rw, []⟩, ⟨20, 12, .reserved, []⟩]⟩
/-- EDT_MIRROR_RATE: spec 12. -/
def EDT_MIRROR_RATE : Reg :=
  ⟨22, 0x02700420, 4, 8, 4, 1, 0, 0x1, [], false,
   [⟨0, 24, .rw, [(1, 16777215)]⟩, ⟨24, 8, .reserved, []⟩]⟩
/-- EDT_MIRROR_NH: spec 12. -/
def EDT_MIRROR_NH : Reg :=
  ⟨22, 0x02700440, 4, 8, 4, 1, 0, 0x0, [], false,
   [⟨0, 16, .rw, []⟩, ⟨16, 1, .rw, []⟩, ⟨17, 15, .reserved, []⟩]⟩
/-- EDT_CAP_RING_CFG: spec 12. -/
def EDT_CAP_RING_CFG : Reg :=
  ⟨22, 0x02700800, 1, 16, 16, 1, 0, 0x0, [], false,
   [⟨0, 11, .seal, []⟩, ⟨11, 15, .seal, []⟩, ⟨26, 2, .seal, []⟩, ⟨28, 4, .reserved, []⟩]⟩
/-- EDT_CAP_RING_CTRL: spec 12. -/
def EDT_CAP_RING_CTRL : Reg :=
  ⟨22, 0x02700804, 4, 16, 16, 1, 0, 0x0, [], false,
   [⟨0, 1, .rw, []⟩, ⟨1, 1, .rw, []⟩, ⟨2, 1, .rw, []⟩, ⟨3, 29, .reserved, []⟩]⟩
/-- EDT_CAP_WR: spec 12. -/
def EDT_CAP_WR : Reg :=
  ⟨22, 0x02700808, 4, 16, 16, 1, 0, 0x0, [], false,
   [⟨0, 32, .ro, []⟩]⟩
/-- EDT_CAP_RD: spec 12. -/
def EDT_CAP_RD : Reg :=
  ⟨22, 0x0270080C, 4, 16, 16, 1, 0, 0x0, [], false,
   [⟨0, 32, .rw, []⟩]⟩
/-- BPM_CTRL: spec 13. -/
def BPM_CTRL : Reg :=
  ⟨23, 0x03000000, 4, 1, 0, 1, 0, 0x2, [], false,
   [⟨0, 1, .rw, []⟩, ⟨1, 1, .ro, []⟩, ⟨2, 1, .ro, []⟩, ⟨3, 29, .reserved, []⟩]⟩
/-- BPM_POOL_CFG: spec 13. -/
def BPM_POOL_CFG : Reg :=
  ⟨23, 0x03000004, 4, 1, 0, 1, 0, 0x200400, [], false,
   [⟨0, 14, .seal, [(0, 8192)]⟩, ⟨14, 11, .seal, [(0, 1024)]⟩, ⟨25, 7, .reserved, []⟩]⟩
/-- BPM_GLOBAL_MARK: spec 13. -/
def BPM_GLOBAL_MARK : Reg :=
  ⟨23, 0x03000008, 4, 1, 0, 1, 0, 0x2000, [], false,
   [⟨0, 17, .rw, [(0, 95232)]⟩, ⟨17, 15, .reserved, []⟩]⟩
/-- BPM_SPILL_CFG: spec 13. -/
def BPM_SPILL_CFG : Reg :=
  ⟨23, 0x0300000C, 4, 1, 0, 1, 0, 0x800002, [], false,
   [⟨0, 4, .rw, [(1, 15)]⟩, ⟨4, 22, .rw, [(0, 2097152)]⟩, ⟨26, 6, .reserved, []⟩]⟩
/-- BPM_SPILL_STATUS: spec 13. -/
def BPM_SPILL_STATUS : Reg :=
  ⟨23, 0x03000010, 4, 1, 0, 1, 0, 0x0, [], false,
   [⟨0, 22, .ro, []⟩, ⟨22, 10, .reserved, []⟩]⟩
/-- BPM_CHUNK_STATUS: spec 13. -/
def BPM_CHUNK_STATUS : Reg :=
  ⟨23, 0x03000014, 1, 1, 0, 1, 0, 0x200000, [], false,
   [⟨0, 22, .ro, []⟩, ⟨22, 1, .ro, []⟩, ⟨23, 9, .reserved, []⟩]⟩
/-- BPM_POOL_STATUS: spec 13. -/
def BPM_POOL_STATUS : Reg :=
  ⟨23, 0x03000020, 4, 3, 4, 1, 0, 0x0, [(0, 0x13400), (1, 0x400), (2, 0x80)], false,
   [⟨0, 17, .ro, []⟩, ⟨17, 15, .reserved, []⟩]⟩
/-- BPM_REJECT_INFO: spec 13. -/
def BPM_REJECT_INFO : Reg :=
  ⟨23, 0x03000030, 4, 1, 0, 1, 0, 0x0, [], false,
   [⟨0, 22, .ro, []⟩, ⟨22, 1, .ro, []⟩, ⟨23, 3, .ro, []⟩, ⟨26, 3, .ro, []⟩, ⟨29, 2, .reserved, []⟩, ⟨31, 1, .w1c, []⟩]⟩
/-- BPM_REQ_QUOTA: spec 13. -/
def BPM_REQ_QUOTA : Reg :=
  ⟨23, 0x03000100, 4, 8, 4, 1, 0, 0x0, [(0, 0x17400), (2, 0x4000), (3, 0x1000), (4, 0x1000), (5, 0x1000)], false,
   [⟨0, 17, .rw, [(0, 95232)]⟩, ⟨17, 15, .reserved, []⟩]⟩
/-- BPM_REQ_USED: spec 13. -/
def BPM_REQ_USED : Reg :=
  ⟨23, 0x03000140, 4, 8, 4, 1, 0, 0x0, [], false,
   [⟨0, 17, .ro, []⟩, ⟨17, 15, .reserved, []⟩]⟩
/-- BPM_TIDE_MARK: spec 13. -/
def BPM_TIDE_MARK : Reg :=
  ⟨23, 0x03000400, 4, 32, 16, 1, 0, 0x1000, [], false,
   [⟨0, 17, .rw, [(1, 98304)]⟩, ⟨17, 1, .rw, []⟩, ⟨18, 14, .reserved, []⟩]⟩
/-- BPM_FETCH_MARK: spec 13. -/
def BPM_FETCH_MARK : Reg :=
  ⟨23, 0x03000404, 4, 32, 16, 1, 0, 0x400, [], false,
   [⟨0, 17, .rw, []⟩, ⟨17, 15, .reserved, []⟩]⟩
/-- BPM_DROP_LIMIT: spec 13. -/
def BPM_DROP_LIMIT : Reg :=
  ⟨23, 0x03000408, 4, 32, 16, 1, 0, 0x4000, [], false,
   [⟨0, 28, .rw, [(1, 134217728)]⟩, ⟨28, 4, .reserved, []⟩]⟩
/-- BPM_PORT_XOFF: spec 13. -/
def BPM_PORT_XOFF : Reg :=
  ⟨23, 0x03000800, 4, 24, 4, 1, 0, 0x0, [], false,
   [⟨0, 16, .rw, []⟩, ⟨16, 16, .rw, []⟩]⟩
/-- QUE_QCFG: spec 14. -/
def QUE_QCFG : Reg :=
  ⟨24, 0x0310000C, 4, 1, 0, 1, 0, 0x0, [], false,
   [⟨0, 1, .rw, []⟩, ⟨1, 5, .rw, [(0, 25)]⟩, ⟨6, 4, .rw, []⟩, ⟨10, 5, .rw, []⟩, ⟨15, 17, .reserved, []⟩]⟩
/-- QUE_CTRL: spec 14. -/
def QUE_CTRL : Reg :=
  ⟨24, 0x03100000, 4, 1, 0, 1, 0, 0x2, [], false,
   [⟨0, 1, .rw, []⟩, ⟨1, 1, .ro, []⟩, ⟨2, 30, .reserved, []⟩]⟩
/-- QUE_CFG: spec 14. -/
def QUE_CFG : Reg :=
  ⟨24, 0x03100004, 4, 1, 0, 1, 0, 0x19032, [], false,
   [⟨0, 10, .rw, [(10, 1000)]⟩, ⟨10, 10, .rw, [(1, 1000)]⟩, ⟨20, 12, .reserved, []⟩]⟩
/-- QUE_QSEL: spec 14. -/
def QUE_QSEL : Reg :=
  ⟨24, 0x03100008, 4, 1, 0, 1, 0, 0x0, [], false,
   [⟨0, 16, .rw, []⟩, ⟨16, 16, .reserved, []⟩]⟩
/-- QUE_QSTATUS: spec 14. -/
def QUE_QSTATUS : Reg :=
  ⟨24, 0x03100010, 4, 1, 0, 1, 0, 0x0, [], false,
   [⟨0, 28, .ro, []⟩, ⟨28, 1, .ro, []⟩, ⟨29, 1, .ro, []⟩, ⟨30, 1, .ro, []⟩, ⟨31, 1, .ro, []⟩]⟩
/-- QUE_QPKTS: spec 14. -/
def QUE_QPKTS : Reg :=
  ⟨24, 0x03100014, 4, 1, 0, 1, 0, 0x0, [], false,
   [⟨0, 24, .ro, []⟩, ⟨24, 8, .reserved, []⟩]⟩
/-- QUE_QREDIR: spec 14. -/
def QUE_QREDIR : Reg :=
  ⟨24, 0x03100018, 4, 1, 0, 1, 0, 0x0, [], false,
   [⟨0, 16, .ro, []⟩, ⟨16, 1, .ro, []⟩, ⟨17, 15, .reserved, []⟩]⟩
/-- QUE_RSQ_STATUS: spec 14. -/
def QUE_RSQ_STATUS : Reg :=
  ⟨24, 0x0310001C, 4, 1, 0, 1, 0, 0x0, [], false,
   [⟨0, 15, .ro, []⟩, ⟨15, 17, .reserved, []⟩]⟩
/-- QUE_PORT_CFG: spec 14. -/
def QUE_PORT_CFG : Reg :=
  ⟨24, 0x03100100, 4, 26, 4, 1, 0, 0x14, [], false,
   [⟨0, 1, .rw, []⟩, ⟨1, 7, .rw, [(0, 100)]⟩, ⟨8, 24, .reserved, []⟩]⟩
/-- QUE_PORT_STATUS: spec 14. -/
def QUE_PORT_STATUS : Reg :=
  ⟨24, 0x03100200, 4, 26, 4, 1, 0, 0x3, [], false,
   [⟨0, 2, .ro, []⟩, ⟨2, 30, .reserved, []⟩]⟩
/-- SCH_CTRL: spec 15. -/
def SCH_CTRL : Reg :=
  ⟨25, 0x03200000, 4, 1, 0, 1, 0, 0x0, [], false,
   [⟨0, 1, .rw, []⟩, ⟨1, 31, .reserved, []⟩]⟩
/-- SCH_CFG: spec 15. -/
def SCH_CFG : Reg :=
  ⟨25, 0x03200004, 1, 1, 0, 1, 0, 0x1, [], false,
   [⟨0, 1, .seal, []⟩, ⟨1, 10, .rw, [(0, 1000)]⟩, ⟨11, 21, .reserved, []⟩]⟩
/-- SCH_ESEL: spec 15. -/
def SCH_ESEL : Reg :=
  ⟨25, 0x03200008, 4, 1, 0, 1, 0, 0x0, [], false,
   [⟨0, 3, .rw, [(0, 4)]⟩, ⟨3, 16, .rw, []⟩, ⟨19, 13, .reserved, []⟩]⟩
/-- SCH_ECFG: spec 15. -/
def SCH_ECFG : Reg :=
  ⟨25, 0x0320000C, 4, 1, 0, 1, 0, 0x0, [], false,
   [⟨0, 1, .rw, []⟩, ⟨1, 3, .rw, []⟩, ⟨4, 16, .rw, []⟩, ⟨20, 3, .rw, []⟩, ⟨23, 9, .reserved, []⟩]⟩
/-- SCH_EWEIGHT: spec 15. -/
def SCH_EWEIGHT : Reg :=
  ⟨25, 0x03200010, 4, 1, 0, 1, 0, 0x810, [], false,
   [⟨0, 10, .rw, [(1, 1023)]⟩, ⟨10, 1, .rw, []⟩, ⟨11, 1, .rw, []⟩, ⟨12, 20, .reserved, []⟩]⟩
/-- SCH_ERATE: spec 15. -/
def SCH_ERATE : Reg :=
  ⟨25, 0x03200014, 4, 1, 0, 1, 0, 0x40, [], false,
   [⟨0, 32, .rw, [(64, 3584000000)]⟩]⟩
/-- SCH_EBURST: spec 15. -/
def SCH_EBURST : Reg :=
  ⟨25, 0x03200018, 4, 1, 0, 1, 0, 0x4000, [], false,
   [⟨0, 24, .rw, []⟩, ⟨24, 8, .reserved, []⟩]⟩
/-- SCH_ECMD: spec 15. -/
def SCH_ECMD : Reg :=
  ⟨25, 0x0320001C, 4, 1, 0, 1, 0, 0x0, [], false,
   [⟨0, 1, .wo, []⟩, ⟨1, 1, .wo, []⟩, ⟨2, 1, .ro, []⟩, ⟨3, 29, .reserved, []⟩]⟩
/-- SCH_ESTATUS: spec 15. -/
def SCH_ESTATUS : Reg :=
  ⟨25, 0x03200020, 4, 1, 0, 1, 0, 0x0, [], false,
   [⟨0, 25, .ro, []⟩, ⟨25, 1, .ro, []⟩, ⟨26, 1, .ro, []⟩, ⟨27, 5, .reserved, []⟩]⟩
/-- SCH_EVTIME: spec 15. -/
def SCH_EVTIME : Reg :=
  ⟨25, 0x03200024, 4, 1, 0, 1, 0, 0x0, [], false,
   [⟨0, 32, .ro, []⟩]⟩
/-- SCH_PORT_CFG: spec 15. -/
def SCH_PORT_CFG : Reg :=
  ⟨25, 0x03200100, 4, 26, 4, 1, 0, 0x5F14, [], false,
   [⟨0, 7, .rw, [(0, 63), (96, 127)]⟩, ⟨7, 1, .rw, []⟩, ⟨8, 4, .rw, []⟩, ⟨12, 5, .rw, [(1, 25)]⟩, ⟨17, 15, .reserved, []⟩]⟩
/-- SCH_POL_SEL: spec 15. -/
def SCH_POL_SEL : Reg :=
  ⟨25, 0x03200200, 4, 1, 0, 1, 0, 0x0, [], false,
   [⟨0, 13, .rw, []⟩, ⟨13, 19, .reserved, []⟩]⟩
/-- SCH_POL_CFG: spec 15. -/
def SCH_POL_CFG : Reg :=
  ⟨25, 0x03200204, 4, 1, 0, 1, 0, 0x184, [], false,
   [⟨0, 2, .rw, [(0, 2)]⟩, ⟨2, 1, .rw, []⟩, ⟨3, 2, .rw, []⟩, ⟨5, 2, .rw, []⟩, ⟨7, 2, .rw, []⟩, ⟨9, 6, .rw, []⟩, ⟨15, 6, .rw, []⟩, ⟨21, 6, .rw, []⟩, ⟨27, 5, .reserved, []⟩]⟩
/-- SCH_POL_CIR: spec 15. -/
def SCH_POL_CIR : Reg :=
  ⟨25, 0x03200208, 4, 1, 0, 1, 0, 0x0, [], false,
   [⟨0, 32, .rw, [(0, 3584000000)]⟩]⟩
/-- SCH_POL_PIR: spec 15. -/
def SCH_POL_PIR : Reg :=
  ⟨25, 0x0320020C, 4, 1, 0, 1, 0, 0x0, [], false,
   [⟨0, 32, .rw, [(0, 3584000000)]⟩]⟩
/-- SCH_POL_CBS: spec 15. -/
def SCH_POL_CBS : Reg :=
  ⟨25, 0x03200210, 4, 1, 0, 1, 0, 0x3E80, [], false,
   [⟨0, 28, .rw, []⟩, ⟨28, 4, .reserved, []⟩]⟩
/-- SCH_POL_EBS: spec 15. -/
def SCH_POL_EBS : Reg :=
  ⟨25, 0x03200214, 4, 1, 0, 1, 0, 0x0, [], false,
   [⟨0, 28, .rw, []⟩, ⟨28, 4, .reserved, []⟩]⟩
/-- SCH_POL_CMD: spec 15. -/
def SCH_POL_CMD : Reg :=
  ⟨25, 0x03200218, 4, 1, 0, 1, 0, 0x0, [], false,
   [⟨0, 1, .wo, []⟩, ⟨1, 1, .wo, []⟩, ⟨2, 1, .ro, []⟩, ⟨3, 29, .reserved, []⟩]⟩
/-- SCH_POL_TC: spec 15. -/
def SCH_POL_TC : Reg :=
  ⟨25, 0x0320021C, 4, 1, 0, 1, 0, 0x0, [], false,
   [⟨0, 28, .ro, []⟩, ⟨28, 4, .reserved, []⟩]⟩
/-- SCH_POL_TP: spec 15. -/
def SCH_POL_TP : Reg :=
  ⟨25, 0x03200220, 4, 1, 0, 1, 0, 0x0, [], false,
   [⟨0, 28, .ro, []⟩, ⟨28, 4, .reserved, []⟩]⟩
/-- LHT_CTRL: spec 16. -/
def LHT_CTRL : Reg :=
  ⟨27, 0x05000000, 1, 1, 0, 1, 0, 0x10, [], false,
   [⟨0, 1, .rw, []⟩, ⟨1, 1, .rw, []⟩, ⟨2, 1, .rw, []⟩, ⟨3, 1, .rw, []⟩, ⟨4, 1, .rw, []⟩, ⟨5, 27, .reserved, []⟩]⟩
/-- LHT_KEEP: spec 16. -/
def LHT_KEEP : Reg :=
  ⟨27, 0x05000004, 1, 1, 0, 1, 0, 0x1, [], false,
   [⟨0, 1, .rw, []⟩, ⟨1, 31, .reserved, []⟩]⟩
/-- LHT_STATUS: spec 16. -/
def LHT_STATUS : Reg :=
  ⟨27, 0x05000008, 1, 1, 0, 1, 0, 0x3FC0, [], false,
   [⟨0, 2, .ro, []⟩, ⟨2, 2, .ro, []⟩, ⟨4, 1, .ro, []⟩, ⟨5, 1, .ro, []⟩, ⟨6, 4, .ro, []⟩, ⟨10, 4, .ro, []⟩, ⟨14, 1, .ro, []⟩, ⟨15, 1, .ro, []⟩, ⟨16, 1, .ro, []⟩, ⟨17, 15, .reserved, []⟩]⟩
/-- LHT_TU: spec 16. -/
def LHT_TU : Reg :=
  ⟨27, 0x0500000C, 1, 1, 0, 1, 0, 0xFFFFFFFF, [], false,
   [⟨0, 32, .ro, []⟩]⟩
/-- LHT_HOLD_TIME: spec 16. -/
def LHT_HOLD_TIME : Reg :=
  ⟨27, 0x05000010, 1, 1, 0, 1, 0, 0x0, [], false,
   [⟨0, 32, .ro, []⟩]⟩
/-- LHT_TOD_CMD: spec 16. -/
def LHT_TOD_CMD : Reg :=
  ⟨27, 0x05000014, 1, 1, 0, 1, 0, 0x0, [], false,
   [⟨0, 1, .wo, []⟩, ⟨1, 1, .wo, []⟩, ⟨2, 1, .ro, []⟩, ⟨3, 29, .reserved, []⟩]⟩
/-- LHT_TOD_SEC_HI: spec 16. -/
def LHT_TOD_SEC_HI : Reg :=
  ⟨27, 0x05000018, 1, 1, 0, 1, 0, 0x0, [], false,
   [⟨0, 16, .rw, []⟩, ⟨16, 16, .reserved, []⟩]⟩
/-- LHT_TOD_SEC_LO: spec 16. -/
def LHT_TOD_SEC_LO : Reg :=
  ⟨27, 0x0500001C, 1, 1, 0, 1, 0, 0x0, [], false,
   [⟨0, 32, .rw, []⟩]⟩
/-- LHT_TOD_NS: spec 16. -/
def LHT_TOD_NS : Reg :=
  ⟨27, 0x05000020, 1, 1, 0, 1, 0, 0x0, [], false,
   [⟨0, 30, .rw, [(0, 999999999)]⟩, ⟨30, 2, .reserved, []⟩]⟩
/-- LHT_TOD_SUBNS: spec 16. -/
def LHT_TOD_SUBNS : Reg :=
  ⟨27, 0x05000024, 1, 1, 0, 1, 0, 0x0, [], false,
   [⟨0, 16, .rw, []⟩, ⟨16, 16, .reserved, []⟩]⟩
/-- LHT_UTC: spec 16. -/
def LHT_UTC : Reg :=
  ⟨27, 0x05000028, 1, 1, 0, 1, 0, 0x0, [], false,
   [⟨0, 16, .rw, []⟩, ⟨16, 1, .rw, []⟩, ⟨17, 1, .rw, []⟩, ⟨18, 1, .rw, []⟩, ⟨19, 13, .reserved, []⟩]⟩
/-- LHT_TIME_CFG: spec 16. -/
def LHT_TIME_CFG : Reg :=
  ⟨27, 0x05000030, 1, 1, 0, 1, 0, 0x6440323, [], false,
   [⟨0, 4, .rw, []⟩, ⟨4, 10, .rw, [(1, 1023)]⟩, ⟨14, 6, .rw, [(1, 63)]⟩, ⟨20, 12, .rw, [(1, 4095)]⟩]⟩
/-- LHT_STEP_CFG: spec 16. -/
def LHT_STEP_CFG : Reg :=
  ⟨27, 0x05000034, 1, 1, 0, 1, 0, 0x3E8, [], false,
   [⟨0, 20, .rw, [(1, 1000000)]⟩, ⟨20, 12, .reserved, []⟩]⟩
/-- LHT_HOLD_CFG: spec 16. -/
def LHT_HOLD_CFG : Reg :=
  ⟨27, 0x05000038, 1, 1, 0, 1, 0, 0x10064, [], false,
   [⟨0, 16, .rw, [(1, 65535)]⟩, ⟨16, 16, .rw, []⟩]⟩
/-- LHT_SYNCE_CFG: spec 16. -/
def LHT_SYNCE_CFG : Reg :=
  ⟨27, 0x0500003C, 1, 1, 0, 1, 0, 0x1, [], false,
   [⟨0, 2, .rw, []⟩, ⟨2, 30, .reserved, []⟩]⟩
/-- LHT_SYNCE_OCTETS: spec 16. -/
def LHT_SYNCE_OCTETS : Reg :=
  ⟨27, 0x05000040, 1, 1, 0, 1, 0, 0x0, [], false,
   [⟨0, 12, .rw, []⟩, ⟨12, 20, .reserved, []⟩]⟩
/-- LHT_RADIO_CFG: spec 16. -/
def LHT_RADIO_CFG : Reg :=
  ⟨27, 0x05000044, 1, 1, 0, 1, 0, 0x0, [], false,
   [⟨0, 27, .rw, [(0, 0), (1000, 125000000)]⟩, ⟨27, 5, .reserved, []⟩]⟩
/-- LHT_OSC_CFG: spec 16. -/
def LHT_OSC_CFG : Reg :=
  ⟨27, 0x05000048, 1, 1, 0, 1, 0, 0x0, [], false,
   [⟨0, 3, .seal, [(0, 4)]⟩, ⟨3, 29, .reserved, []⟩]⟩
/-- LHT_TEMP_CFG: spec 16. -/
def LHT_TEMP_CFG : Reg :=
  ⟨27, 0x0500004C, 1, 1, 0, 1, 0, 0x3E80000, [], false,
   [⟨0, 16, .rw, []⟩, ⟨16, 16, .rw, [(1, 65535)]⟩]⟩
/-- LHT_TEMP: spec 16. -/
def LHT_TEMP : Reg :=
  ⟨27, 0x05000050, 1, 1, 0, 1, 0, 0x0, [], false,
   [⟨0, 16, .ro, []⟩, ⟨16, 16, .reserved, []⟩]⟩
/-- LHT_MODEL_CFG: spec 16. -/
def LHT_MODEL_CFG : Reg :=
  ⟨27, 0x05000054, 1, 1, 0, 1, 0, 0x141418, [], false,
   [⟨0, 8, .rw, [(1, 255)]⟩, ⟨8, 8, .rw, []⟩, ⟨16, 7, .rw, [(1, 100)]⟩, ⟨23, 9, .reserved, []⟩]⟩
/-- LHT_MODEL_Y0: spec 16. -/
def LHT_MODEL_Y0 : Reg :=
  ⟨27, 0x05000058, 1, 1, 0, 1, 0, 0x0, [], false,
   [⟨0, 32, .ro, []⟩]⟩
/-- LHT_MODEL_D: spec 16. -/
def LHT_MODEL_D : Reg :=
  ⟨27, 0x0500005C, 1, 1, 0, 1, 0, 0x0, [], false,
   [⟨0, 32, .ro, []⟩]⟩
/-- LHT_MODEL_KT: spec 16. -/
def LHT_MODEL_KT : Reg :=
  ⟨27, 0x05000060, 1, 1, 0, 1, 0, 0x0, [], false,
   [⟨0, 16, .ro, []⟩, ⟨16, 16, .ro, []⟩]⟩
/-- LHT_MODEL_U0: spec 16. -/
def LHT_MODEL_U0 : Reg :=
  ⟨27, 0x05000064, 1, 1, 0, 1, 0, 0x0, [], false,
   [⟨0, 16, .ro, []⟩, ⟨16, 16, .ro, []⟩]⟩
/-- LHT_MODEL_U1: spec 16. -/
def LHT_MODEL_U1 : Reg :=
  ⟨27, 0x05000068, 1, 1, 0, 1, 0, 0x0, [], false,
   [⟨0, 16, .ro, []⟩, ⟨16, 16, .ro, []⟩]⟩
/-- LHT_WTR: spec 16. -/
def LHT_WTR : Reg :=
  ⟨27, 0x0500006C, 1, 1, 0, 1, 0, 0x12C, [], false,
   [⟨0, 12, .rw, [(0, 3600)]⟩, ⟨12, 20, .reserved, []⟩]⟩
/-- LHT_PTP_CFG: spec 16. -/
def LHT_PTP_CFG : Reg :=
  ⟨27, 0x05000070, 1, 1, 0, 1, 0, 0x3, [], false,
   [⟨0, 6, .rw, [(1, 60)]⟩, ⟨6, 26, .reserved, []⟩]⟩
/-- LHT_REF_CFG: spec 16. -/
def LHT_REF_CFG : Reg :=
  ⟨27, 0x05000100, 1, 8, 4, 1, 0, 0x5028640, [(7, 0x0)], false,
   [⟨0, 4, .rw, []⟩, ⟨4, 10, .rw, []⟩, ⟨14, 8, .rw, [(1, 255)]⟩, ⟨22, 8, .rw, [(1, 255)]⟩, ⟨30, 2, .reserved, []⟩]⟩
/-- LHT_REF_FREQ: spec 16. -/
def LHT_REF_FREQ : Reg :=
  ⟨27, 0x05000140, 1, 8, 4, 1, 0, 0x1702710, [(7, 0x0)], false,
   [⟨0, 18, .rw, [(1, 250000)]⟩, ⟨18, 10, .rw, [(1, 1000)]⟩, ⟨28, 4, .reserved, []⟩]⟩
/-- LHT_SYNCE_SRC: spec 16. -/
def LHT_SYNCE_SRC : Reg :=
  ⟨27, 0x05000180, 1, 2, 4, 1, 0, 0x0, [], false,
   [⟨0, 7, .rw, [(0, 95)]⟩, ⟨7, 1, .rw, []⟩, ⟨8, 24, .reserved, []⟩]⟩
/-- LHT_REF_STATUS: spec 16. -/
def LHT_REF_STATUS : Reg :=
  ⟨27, 0x050001C0, 1, 8, 4, 1, 0, 0x0, [], false,
   [⟨0, 1, .ro, []⟩, ⟨1, 1, .ro, []⟩, ⟨2, 1, .ro, []⟩, ⟨3, 1, .ro, []⟩, ⟨4, 1, .ro, []⟩, ⟨5, 3, .reserved, []⟩, ⟨8, 24, .ro, []⟩]⟩
/-- LHT_PPS_IN_ADJ: spec 16. -/
def LHT_PPS_IN_ADJ : Reg :=
  ⟨27, 0x05000200, 1, 2, 4, 1, 0, 0x0, [], false,
   [⟨0, 32, .rw, []⟩]⟩
/-- LHT_PPS_IN_CFG: spec 16. -/
def LHT_PPS_IN_CFG : Reg :=
  ⟨27, 0x05000208, 1, 1, 0, 1, 0, 0x0, [], false,
   [⟨0, 1, .rw, []⟩, ⟨1, 1, .rw, []⟩, ⟨2, 30, .reserved, []⟩]⟩
/-- LHT_PPS_OUT_CFG: spec 16. -/
def LHT_PPS_OUT_CFG : Reg :=
  ⟨27, 0x05000210, 1, 2, 4, 1, 0, 0x61A80, [], false,
   [⟨0, 1, .rw, []⟩, ⟨1, 1, .rw, []⟩, ⟨2, 20, .rw, [(1, 500000)]⟩, ⟨22, 10, .reserved, []⟩]⟩
/-- LHT_PPS_OUT_ADJ: spec 16. -/
def LHT_PPS_OUT_ADJ : Reg :=
  ⟨27, 0x05000218, 1, 2, 4, 1, 0, 0x0, [], false,
   [⟨0, 32, .rw, []⟩]⟩
/-- LHT_TOD_CFG: spec 16. -/
def LHT_TOD_CFG : Reg :=
  ⟨27, 0x05000220, 1, 1, 0, 1, 0, 0xA0, [], false,
   [⟨0, 1, .rw, []⟩, ⟨1, 1, .rw, []⟩, ⟨2, 1, .rw, []⟩, ⟨3, 1, .rw, []⟩, ⟨4, 9, .rw, [(1, 500)]⟩, ⟨13, 19, .reserved, []⟩]⟩
/-- PTP_CTRL: spec 17. -/
def PTP_CTRL : Reg :=
  ⟨28, 0x05100000, 1, 1, 0, 1, 0, 0x0, [], false,
   [⟨0, 1, .rw, []⟩, ⟨1, 1, .rw, []⟩, ⟨2, 30, .reserved, []⟩]⟩
/-- PTP_CLK_CFG: spec 17. -/
def PTP_CLK_CFG : Reg :=
  ⟨28, 0x05100004, 1, 1, 0, 1, 0, 0xA40400C0, [], false,
   [⟨0, 2, .seal, []⟩, ⟨2, 1, .seal, []⟩, ⟨3, 8, .seal, []⟩, ⟨11, 8, .rw, []⟩, ⟨19, 8, .rw, [(1, 255)]⟩, ⟨27, 1, .seal, []⟩, ⟨28, 4, .rw, [(1, 15)]⟩]⟩
/-- PTP_CLK_ID_LO: spec 17. -/
def PTP_CLK_ID_LO : Reg :=
  ⟨28, 0x05100008, 1, 1, 0, 1, 0, 0x0, [], false,
   [⟨0, 32, .seal, []⟩]⟩
/-- PTP_CLK_ID_HI: spec 17. -/
def PTP_CLK_ID_HI : Reg :=
  ⟨28, 0x0510000C, 1, 1, 0, 1, 0, 0x0, [], false,
   [⟨0, 32, .seal, []⟩]⟩
/-- PTP_CLASS_CFG: spec 17. -/
def PTP_CLASS_CFG : Reg :=
  ⟨28, 0x05100010, 1, 1, 0, 1, 0, 0x1E8C044C, [], false,
   [⟨0, 16, .rw, [(1, 65535)]⟩, ⟨16, 8, .rw, [(140, 140), (150, 150), (160, 160)]⟩, ⟨24, 8, .rw, []⟩]⟩
/-- PTP_STATUS: spec 17. -/
def PTP_STATUS : Reg :=
  ⟨28, 0x05100014, 1, 1, 0, 1, 0, 0x7FFEF8, [], false,
   [⟨0, 8, .ro, []⟩, ⟨8, 8, .ro, []⟩, ⟨16, 7, .ro, []⟩, ⟨23, 1, .ro, []⟩, ⟨24, 8, .ro, []⟩]⟩
/-- PTP_PARENT_LO: spec 17. -/
def PTP_PARENT_LO : Reg :=
  ⟨28, 0x05100018, 1, 1, 0, 1, 0, 0x0, [], false,
   [⟨0, 32, .ro, []⟩]⟩
/-- PTP_PARENT_HI: spec 17. -/
def PTP_PARENT_HI : Reg :=
  ⟨28, 0x0510001C, 1, 1, 0, 1, 0, 0x0, [], false,
   [⟨0, 32, .ro, []⟩]⟩
/-- PTP_GM_INFO: spec 17. -/
def PTP_GM_INFO : Reg :=
  ⟨28, 0x05100020, 1, 1, 0, 1, 0, 0x0, [], false,
   [⟨0, 8, .ro, []⟩, ⟨8, 8, .ro, []⟩, ⟨16, 16, .ro, []⟩]⟩
/-- PTP_TRAP: spec 17. -/
def PTP_TRAP : Reg :=
  ⟨28, 0x05100024, 1, 1, 0, 1, 0, 0xFF, [], false,
   [⟨0, 4, .rw, []⟩, ⟨4, 4, .rw, []⟩, ⟨8, 24, .reserved, []⟩]⟩
/-- PTP_SYNCE_CFG: spec 17. -/
def PTP_SYNCE_CFG : Reg :=
  ⟨28, 0x05100030, 1, 1, 0, 1, 0, 0x1064, [], false,
   [⟨0, 1, .rw, []⟩, ⟨1, 8, .rw, [(30, 180)]⟩, ⟨9, 4, .rw, [(7, 8)]⟩, ⟨13, 19, .reserved, []⟩]⟩
/-- PTP_SYNCE_QL: spec 17. -/
def PTP_SYNCE_QL : Reg :=
  ⟨28, 0x05100040, 1, 6, 4, 1, 0, 0x0, [], false,
   [⟨0, 4, .rw, []⟩, ⟨4, 4, .ro, []⟩, ⟨8, 24, .reserved, []⟩]⟩
/-- PTP_PORT_CFG: spec 17. -/
def PTP_PORT_CFG : Reg :=
  ⟨28, 0x05100100, 1, 96, 4, 1, 0, 0x738200, [], false,
   [⟨0, 1, .rw, []⟩, ⟨1, 1, .rw, []⟩, ⟨2, 8, .rw, [(1, 255)]⟩, ⟨10, 1, .rw, []⟩, ⟨11, 2, .rw, []⟩, ⟨13, 3, .rw, []⟩, ⟨16, 2, .rw, []⟩, ⟨18, 3, .rw, []⟩, ⟨21, 3, .rw, [(2, 7)]⟩, ⟨24, 1, .rw, []⟩, ⟨25, 7, .reserved, []⟩]⟩
/-- PTP_PORT_ASYM: spec 17. -/
def PTP_PORT_ASYM : Reg :=
  ⟨28, 0x05100200, 1, 96, 4, 1, 0, 0x0, [], false,
   [⟨0, 32, .rw, [(0, 1000000), (4293967296, 4294967295)]⟩]⟩
/-- PTP_PORT_STATUS: spec 17. -/
def PTP_PORT_STATUS : Reg :=
  ⟨28, 0x05100300, 1, 96, 4, 1, 0, 0x3, [], false,
   [⟨0, 4, .ro, []⟩, ⟨4, 7, .ro, []⟩, ⟨11, 21, .ro, []⟩]⟩
/-- PTP_PORT_ADDR: spec 17. -/
def PTP_PORT_ADDR : Reg :=
  ⟨28, 0x05100400, 1, 96, 16, 4, 4, 0x0, [], false,
   [⟨0, 32, .rw, []⟩]⟩
/-- PTP_UMT_ADDR: spec 17. -/
def PTP_UMT_ADDR : Reg :=
  ⟨28, 0x05101000, 1, 8, 16, 4, 4, 0x0, [], false,
   [⟨0, 32, .rw, []⟩]⟩
/-- PTP_UMT_CFG: spec 17. -/
def PTP_UMT_CFG : Reg :=
  ⟨28, 0x05101080, 1, 8, 4, 1, 0, 0x0, [], false,
   [⟨0, 1, .rw, []⟩, ⟨1, 7, .rw, [(0, 95)]⟩, ⟨8, 24, .reserved, []⟩]⟩
/-- GTE_CTRL: spec 18. -/
def GTE_CTRL : Reg :=
  ⟨14, 0x01300000, 4, 1, 0, 1, 0, 0x2, [], false,
   [⟨0, 1, .rw, []⟩, ⟨1, 1, .ro, []⟩, ⟨2, 1, .rw, []⟩, ⟨3, 29, .reserved, []⟩]⟩
/-- GTE_STATUS: spec 18. -/
def GTE_STATUS : Reg :=
  ⟨14, 0x01300008, 4, 1, 0, 1, 0, 0x0, [], false,
   [⟨0, 12, .ro, []⟩, ⟨12, 20, .reserved, []⟩]⟩
/-- GTE_GCL_SEL: spec 18. -/
def GTE_GCL_SEL : Reg :=
  ⟨14, 0x01300010, 4, 1, 0, 1, 0, 0x0, [], false,
   [⟨0, 5, .rw, [(0, 23)]⟩, ⟨5, 7, .rw, []⟩, ⟨12, 20, .reserved, []⟩]⟩
/-- GTE_GCL_ENTRY_LO: spec 18. -/
def GTE_GCL_ENTRY_LO : Reg :=
  ⟨14, 0x01300014, 4, 1, 0, 1, 0, 0x0, [], false,
   [⟨0, 32, .rw, []⟩]⟩
/-- GTE_GCL_ENTRY_HI: spec 18. -/
def GTE_GCL_ENTRY_HI : Reg :=
  ⟨14, 0x01300018, 4, 1, 0, 1, 0, 0x0, [], false,
   [⟨0, 32, .rw, []⟩]⟩
/-- GTE_GCL_CMD: spec 18. -/
def GTE_GCL_CMD : Reg :=
  ⟨14, 0x0130001C, 4, 1, 0, 1, 0, 0x0, [], false,
   [⟨0, 1, .wo, []⟩, ⟨1, 1, .wo, []⟩, ⟨2, 1, .wo, []⟩, ⟨3, 1, .wo, []⟩, ⟨4, 1, .ro, []⟩, ⟨5, 27, .reserved, []⟩]⟩
/-- GTE_ADMIN_BASE_SEC_HI: spec 18. -/
def GTE_ADMIN_BASE_SEC_HI : Reg :=
  ⟨14, 0x01300020, 4, 1, 0, 1, 0, 0x0, [], false,
   [⟨0, 16, .rw, []⟩, ⟨16, 16, .reserved, []⟩]⟩
/-- GTE_ADMIN_BASE_SEC_LO: spec 18. -/
def GTE_ADMIN_BASE_SEC_LO : Reg :=
  ⟨14, 0x01300024, 4, 1, 0, 1, 0, 0x0, [], false,
   [⟨0, 32, .rw, []⟩]⟩
/-- GTE_ADMIN_BASE_NS: spec 18. -/
def GTE_ADMIN_BASE_NS : Reg :=
  ⟨14, 0x01300028, 4, 1, 0, 1, 0, 0x0, [], false,
   [⟨0, 30, .rw, [(0, 999999999)]⟩, ⟨30, 2, .reserved, []⟩]⟩
/-- GTE_ADMIN_CYCLE: spec 18. -/
def GTE_ADMIN_CYCLE : Reg :=
  ⟨14, 0x0130002C, 4, 1, 0, 1, 0, 0xF4240, [], false,
   [⟨0, 30, .rw, []⟩, ⟨30, 2, .reserved, []⟩]⟩
/-- GTE_ADMIN_LEN: spec 18. -/
def GTE_ADMIN_LEN : Reg :=
  ⟨14, 0x01300030, 4, 1, 0, 1, 0, 0x0, [], false,
   [⟨0, 8, .rw, [(0, 128)]⟩, ⟨8, 24, .rw, []⟩]⟩
/-- GTE_OPER_STATUS: spec 18. -/
def GTE_OPER_STATUS : Reg :=
  ⟨14, 0x01300034, 4, 1, 0, 1, 0, 0x0, [], false,
   [⟨0, 1, .ro, []⟩, ⟨1, 1, .ro, []⟩, ⟨2, 8, .ro, []⟩, ⟨10, 6, .reserved, []⟩, ⟨16, 16, .ro, []⟩]⟩
/-- GTE_CHANGE_SEC_LO: spec 18. -/
def GTE_CHANGE_SEC_LO : Reg :=
  ⟨14, 0x01300038, 4, 1, 0, 1, 0, 0x0, [], false,
   [⟨0, 32, .ro, []⟩]⟩
/-- GTE_CHANGE_NS: spec 18. -/
def GTE_CHANGE_NS : Reg :=
  ⟨14, 0x0130003C, 4, 1, 0, 1, 0, 0x0, [], false,
   [⟨0, 30, .ro, []⟩, ⟨30, 2, .reserved, []⟩]⟩
/-- GTE_PORT_CFG: spec 18. -/
def GTE_PORT_CFG : Reg :=
  ⟨14, 0x01300100, 4, 24, 4, 1, 0, 0x700, [], false,
   [⟨0, 1, .rw, []⟩, ⟨1, 1, .rw, []⟩, ⟨2, 1, .rw, []⟩, ⟨3, 2, .rw, []⟩, ⟨5, 2, .rw, []⟩, ⟨7, 1, .rw, []⟩, ⟨8, 3, .rw, []⟩, ⟨11, 16, .rw, []⟩, ⟨27, 1, .rw, []⟩, ⟨28, 4, .reserved, []⟩]⟩
/-- GTE_EXP_CFG: spec 18. -/
def GTE_EXP_CFG : Reg :=
  ⟨14, 0x01300200, 4, 24, 4, 1, 0, 0x403E8, [], false,
   [⟨0, 14, .rw, []⟩, ⟨14, 6, .rw, [(1, 63)]⟩, ⟨20, 12, .reserved, []⟩]⟩
/-- GTE_EXP_LEN: spec 18. -/
def GTE_EXP_LEN : Reg :=
  ⟨14, 0x01300300, 4, 24, 4, 1, 0, 0x5F2, [], false,
   [⟨0, 14, .rw, [(64, 16000)]⟩, ⟨14, 18, .reserved, []⟩]⟩
/-- GTE_GUARD: spec 18. -/
def GTE_GUARD : Reg :=
  ⟨14, 0x01300400, 4, 24, 4, 1, 0, 0xA07D0, [], false,
   [⟨0, 16, .rw, []⟩, ⟨16, 8, .rw, [(1, 128)]⟩, ⟨24, 8, .reserved, []⟩]⟩
/-- GTE_FALLBACK: spec 18. -/
def GTE_FALLBACK : Reg :=
  ⟨14, 0x01300500, 4, 24, 4, 1, 0, 0x1FFFF, [], false,
   [⟨0, 16, .rw, []⟩, ⟨16, 1, .rw, []⟩, ⟨17, 15, .reserved, []⟩]⟩
/-- GTE_EXP_QSTAT: spec 18. -/
def GTE_EXP_QSTAT : Reg :=
  ⟨14, 0x01300600, 4, 24, 4, 1, 0, 0x0, [], false,
   [⟨0, 6, .ro, []⟩, ⟨6, 1, .ro, []⟩, ⟨7, 1, .reserved, []⟩, ⟨8, 16, .ro, []⟩, ⟨24, 8, .reserved, []⟩]⟩
/-- HBC_CTRL: spec 19. -/
def HBC_CTRL : Reg :=
  ⟨26, 0x04000000, 2, 1, 0, 1, 0, 0x2, [], false,
   [⟨0, 1, .rw, []⟩, ⟨1, 1, .ro, []⟩, ⟨2, 1, .seal, []⟩, ⟨3, 1, .ro, []⟩, ⟨4, 1, .ro, []⟩, ⟨5, 1, .ro, []⟩, ⟨6, 26, .reserved, []⟩]⟩
/-- HBC_ARB_CFG: spec 19. -/
def HBC_ARB_CFG : Reg :=
  ⟨26, 0x04000004, 2, 1, 0, 1, 0, 0x100040, [], false,
   [⟨0, 12, .rw, [(4, 4095)]⟩, ⟨12, 12, .rw, [(4, 4095)]⟩, ⟨24, 8, .reserved, []⟩]⟩
/-- HBC_RETRAIN_CFG: spec 19. -/
def HBC_RETRAIN_CFG : Reg :=
  ⟨26, 0x04000008, 2, 1, 0, 1, 0, 0x1480, [], false,
   [⟨0, 10, .rw, [(16, 1000)]⟩, ⟨10, 5, .rw, [(1, 20)]⟩, ⟨15, 17, .reserved, []⟩]⟩
/-- HBC_SCRUB_CFG: spec 19. -/
def HBC_SCRUB_CFG : Reg :=
  ⟨26, 0x0400000C, 2, 1, 0, 1, 0, 0x31, [], false,
   [⟨0, 1, .rw, []⟩, ⟨1, 8, .rw, [(1, 168)]⟩, ⟨9, 23, .reserved, []⟩]⟩
/-- HBC_REPAIR_CFG: spec 19. -/
def HBC_REPAIR_CFG : Reg :=
  ⟨26, 0x04000010, 2, 1, 0, 1, 0, 0x14, [], false,
   [⟨0, 4, .rw, [(1, 15)]⟩, ⟨4, 1, .rw, []⟩, ⟨5, 27, .reserved, []⟩]⟩
/-- HBC_FAULT_CFG: spec 19. -/
def HBC_FAULT_CFG : Reg :=
  ⟨26, 0x04000014, 2, 1, 0, 1, 0, 0x81, [], false,
   [⟨0, 1, .seal, []⟩, ⟨1, 8, .rw, [(1, 255)]⟩, ⟨9, 23, .reserved, []⟩]⟩
/-- HBC_SR_CFG: spec 19. -/
def HBC_SR_CFG : Reg :=
  ⟨26, 0x04000018, 2, 1, 0, 1, 0, 0x3E8, [], false,
   [⟨0, 10, .rw, [(10, 1000)]⟩, ⟨10, 22, .reserved, []⟩]⟩
/-- HBC_STATUS: spec 19. -/
def HBC_STATUS : Reg :=
  ⟨26, 0x0400001C, 2, 1, 0, 1, 0, 0x0, [], false,
   [⟨0, 8, .ro, []⟩, ⟨8, 2, .ro, []⟩, ⟨10, 22, .reserved, []⟩]⟩
/-- HBC_PC_RETIRED: spec 19. -/
def HBC_PC_RETIRED : Reg :=
  ⟨26, 0x04000020, 2, 1, 0, 1, 0, 0x0, [], false,
   [⟨0, 32, .ro, []⟩]⟩
/-- HBC_REPAIR_STATUS: spec 19. -/
def HBC_REPAIR_STATUS : Reg :=
  ⟨26, 0x04000024, 2, 1, 0, 1, 0, 0x0, [], false,
   [⟨0, 8, .ro, []⟩, ⟨8, 8, .ro, []⟩, ⟨16, 16, .reserved, []⟩]⟩
/-- HBC_FAULT_INFO: spec 19. -/
def HBC_FAULT_INFO : Reg :=
  ⟨26, 0x04000028, 2, 1, 0, 1, 0, 0x0, [], false,
   [⟨0, 6, .ro, []⟩, ⟨6, 3, .ro, []⟩, ⟨9, 22, .ro, []⟩, ⟨31, 1, .w1c, []⟩]⟩
/-- TTB_CTRL: spec 20. -/
def TTB_CTRL : Reg :=
  ⟨10, 0x00A00000, 4, 1, 0, 1, 0, 0x0, [], false,
   [⟨0, 1, .wo, []⟩, ⟨1, 1, .ro, []⟩, ⟨2, 30, .reserved, []⟩]⟩
/-- TTB_CFG: spec 20. -/
def TTB_CFG : Reg :=
  ⟨10, 0x00A00004, 4, 1, 0, 1, 0, 0x3E8, [], false,
   [⟨0, 14, .rw, [(100, 10000)]⟩, ⟨14, 18, .reserved, []⟩]⟩
/-- TTB_HB_SHARE: spec 20. -/
def TTB_HB_SHARE : Reg :=
  ⟨10, 0x00A00100, 1, 7, 4, 1, 0, 0x0, [(0, 0x5388), (1, 0x4753), (2, 0x4753), (3, 0x41F4), (4, 0xFA), (5, 0x40FA), (6, 0xFA)], false,
   [⟨0, 14, .rw, [(0, 10000)]⟩, ⟨14, 1, .rw, []⟩, ⟨15, 17, .reserved, []⟩]⟩
/-- TTB_HB_LAST: spec 20. -/
def TTB_HB_LAST : Reg :=
  ⟨10, 0x00A00140, 1, 7, 4, 1, 0, 0x0, [], false,
   [⟨0, 24, .ro, []⟩, ⟨24, 8, .reserved, []⟩]⟩
/-- TTB_HB_BORROWED: spec 20. -/
def TTB_HB_BORROWED : Reg :=
  ⟨10, 0x00A00160, 1, 7, 4, 1, 0, 0x0, [], false,
   [⟨0, 24, .ro, []⟩, ⟨24, 8, .reserved, []⟩]⟩
/-- TTB_HB_PEAK: spec 20. -/
def TTB_HB_PEAK : Reg :=
  ⟨10, 0x00A00180, 1, 7, 4, 1, 0, 0x0, [], false,
   [⟨0, 24, .rc, []⟩, ⟨24, 8, .reserved, []⟩]⟩
/-- TTB_HB_CARRY: spec 20. -/
def TTB_HB_CARRY : Reg :=
  ⟨10, 0x00A001A0, 1, 1, 0, 1, 0, 0x0, [], false,
   [⟨0, 24, .ro, []⟩, ⟨24, 8, .reserved, []⟩]⟩
/-- TTB_SRAM_SHARE: spec 20. -/
def TTB_SRAM_SHARE : Reg :=
  ⟨10, 0x00A00200, 4, 5, 4, 1, 0, 0x0, [(0, 0x220), (1, 0x240), (2, 0x210), (3, 0x20), (4, 0x20)], false,
   [⟨0, 9, .rw, [(0, 256)]⟩, ⟨9, 1, .rw, []⟩, ⟨10, 22, .reserved, []⟩]⟩
/-- TTB_SRAM_LAST: spec 20. -/
def TTB_SRAM_LAST : Reg :=
  ⟨10, 0x00A00240, 4, 5, 4, 1, 0, 0x0, [], false,
   [⟨0, 9, .ro, []⟩, ⟨9, 9, .ro, []⟩, ⟨18, 14, .reserved, []⟩]⟩
/-- KPR_CTRL: spec 21. -/
def KPR_CTRL : Reg :=
  ⟨29, 0x06000000, 1, 1, 0, 1, 0, 0x2, [], false,
   [⟨0, 1, .rw, []⟩, ⟨1, 1, .ro, []⟩, ⟨2, 30, .reserved, []⟩]⟩
/-- KPR_WDT_CFG: spec 21. -/
def KPR_WDT_CFG : Reg :=
  ⟨29, 0x06000004, 1, 1, 0, 1, 0, 0xC82864, [], false,
   [⟨0, 10, .rw, [(10, 1000)]⟩, ⟨10, 7, .rw, [(1, 100)]⟩, ⟨17, 10, .rw, [(10, 1000)]⟩, ⟨27, 5, .reserved, []⟩]⟩
/-- KPR_CLUSTER_STATUS: spec 21. -/
def KPR_CLUSTER_STATUS : Reg :=
  ⟨29, 0x06000008, 1, 1, 0, 1, 0, 0x0, [], false,
   [⟨0, 2, .ro, []⟩, ⟨2, 7, .ro, []⟩, ⟨9, 23, .reserved, []⟩]⟩
/-- KPR_UCODE: spec 21. -/
def KPR_UCODE : Reg :=
  ⟨29, 0x0600000C, 1, 1, 0, 1, 0, 0x0, [], false,
   [⟨0, 16, .ro, []⟩, ⟨16, 8, .ro, []⟩, ⟨24, 8, .reserved, []⟩]⟩
/-- KPR_PATCH_CFG: spec 21. -/
def KPR_PATCH_CFG : Reg :=
  ⟨29, 0x06000010, 1, 1, 0, 1, 0, 0x3E8, [], false,
   [⟨0, 10, .rw, [(10, 1000)]⟩, ⟨10, 22, .reserved, []⟩]⟩
/-- KPR_ENGINE_STATUS: spec 21. -/
def KPR_ENGINE_STATUS : Reg :=
  ⟨29, 0x06000100, 1, 16, 4, 1, 0, 0x0, [(0, 0x10000), (1, 0x10000), (2, 0x10000), (3, 0x10000), (4, 0x10000), (5, 0x10000), (6, 0x10000), (7, 0x3), (8, 0x10000), (9, 0x10000), (10, 0x10000), (11, 0x10000), (12, 0x10000), (13, 0x10000), (14, 0x10000), (15, 0x3)], false,
   [⟨0, 2, .ro, []⟩, ⟨2, 1, .ro, []⟩, ⟨3, 5, .reserved, []⟩, ⟨8, 8, .ro, []⟩, ⟨16, 5, .ro, []⟩, ⟨21, 11, .reserved, []⟩]⟩
/-- KPR_TASK: spec 21. -/
def KPR_TASK : Reg :=
  ⟨29, 0x06000200, 1, 32, 4, 1, 0, 0x0, [(0, 0x80000), (1, 0x91001), (2, 0xA2002), (3, 0xB3003), (4, 0xC4004), (5, 0xD5005), (6, 0xE6006), (7, 0x8008), (8, 0x19009), (9, 0x2A00A), (10, 0x3B00B), (11, 0x4C00C), (12, 0x5D00D), (13, 0x6E00E)], false,
   [⟨0, 4, .ro, []⟩, ⟨4, 8, .ro, []⟩, ⟨12, 4, .seal, []⟩, ⟨16, 4, .seal, []⟩, ⟨20, 1, .ro, []⟩, ⟨21, 11, .reserved, []⟩]⟩
/-- KPR_MBX_CTRL: spec 21. -/
def KPR_MBX_CTRL : Reg :=
  ⟨29, 0x06000400, 1, 1, 0, 1, 0, 0x0, [], false,
   [⟨0, 1, .rw, []⟩, ⟨1, 1, .ro, []⟩, ⟨2, 6, .rw, []⟩, ⟨8, 6, .rw, []⟩, ⟨14, 18, .reserved, []⟩]⟩
/-- KPR_MBX_CMD_BASE_LO: spec 21. -/
def KPR_MBX_CMD_BASE_LO : Reg :=
  ⟨29, 0x06000404, 1, 1, 0, 1, 0, 0x0, [], false,
   [⟨0, 32, .rw, []⟩]⟩
/-- KPR_MBX_CMD_BASE_HI: spec 21. -/
def KPR_MBX_CMD_BASE_HI : Reg :=
  ⟨29, 0x06000408, 1, 1, 0, 1, 0, 0x0, [], false,
   [⟨0, 32, .rw, []⟩]⟩
/-- KPR_MBX_CMD_SIZE: spec 21. -/
def KPR_MBX_CMD_SIZE : Reg :=
  ⟨29, 0x0600040C, 1, 1, 0, 1, 0, 0x6, [], false,
   [⟨0, 4, .rw, [(6, 12)]⟩, ⟨4, 28, .reserved, []⟩]⟩
/-- KPR_MBX_CMD_TAIL: spec 21. -/
def KPR_MBX_CMD_TAIL : Reg :=
  ⟨29, 0x06000410, 1, 1, 0, 1, 0, 0x0, [], false,
   [⟨0, 32, .rw, []⟩]⟩
/-- KPR_MBX_CMD_HEAD: spec 21. -/
def KPR_MBX_CMD_HEAD : Reg :=
  ⟨29, 0x06000414, 1, 1, 0, 1, 0, 0x0, [], false,
   [⟨0, 32, .ro, []⟩]⟩
/-- KPR_MBX_RPL_BASE_LO: spec 21. -/
def KPR_MBX_RPL_BASE_LO : Reg :=
  ⟨29, 0x06000418, 1, 1, 0, 1, 0, 0x0, [], false,
   [⟨0, 32, .rw, []⟩]⟩
/-- KPR_MBX_RPL_BASE_HI: spec 21. -/
def KPR_MBX_RPL_BASE_HI : Reg :=
  ⟨29, 0x0600041C, 1, 1, 0, 1, 0, 0x0, [], false,
   [⟨0, 32, .rw, []⟩]⟩
/-- KPR_MBX_RPL_SIZE: spec 21. -/
def KPR_MBX_RPL_SIZE : Reg :=
  ⟨29, 0x06000420, 1, 1, 0, 1, 0, 0x6, [], false,
   [⟨0, 4, .rw, [(6, 12)]⟩, ⟨4, 28, .reserved, []⟩]⟩
/-- KPR_MBX_RPL_TAIL: spec 21. -/
def KPR_MBX_RPL_TAIL : Reg :=
  ⟨29, 0x06000424, 1, 1, 0, 1, 0, 0x0, [], false,
   [⟨0, 32, .ro, []⟩]⟩
/-- KPR_MBX_RPL_HEAD: spec 21. -/
def KPR_MBX_RPL_HEAD : Reg :=
  ⟨29, 0x06000428, 1, 1, 0, 1, 0, 0x0, [], false,
   [⟨0, 32, .rw, []⟩]⟩
/-- KPR_MBX_NTF_BASE_LO: spec 21. -/
def KPR_MBX_NTF_BASE_LO : Reg :=
  ⟨29, 0x0600042C, 1, 1, 0, 1, 0, 0x0, [], false,
   [⟨0, 32, .rw, []⟩]⟩
/-- KPR_MBX_NTF_BASE_HI: spec 21. -/
def KPR_MBX_NTF_BASE_HI : Reg :=
  ⟨29, 0x06000430, 1, 1, 0, 1, 0, 0x0, [], false,
   [⟨0, 32, .rw, []⟩]⟩
/-- KPR_MBX_NTF_SIZE: spec 21. -/
def KPR_MBX_NTF_SIZE : Reg :=
  ⟨29, 0x06000434, 1, 1, 0, 1, 0, 0xC, [], false,
   [⟨0, 5, .rw, [(8, 16)]⟩, ⟨5, 27, .reserved, []⟩]⟩
/-- KPR_MBX_NTF_WR: spec 21. -/
def KPR_MBX_NTF_WR : Reg :=
  ⟨29, 0x06000438, 1, 1, 0, 1, 0, 0x0, [], false,
   [⟨0, 32, .ro, []⟩]⟩
/-- KPR_MBX_NTF_RD: spec 21. -/
def KPR_MBX_NTF_RD : Reg :=
  ⟨29, 0x0600043C, 1, 1, 0, 1, 0, 0x0, [], false,
   [⟨0, 32, .rw, []⟩]⟩
/-- FLT_CTRL: spec 22. -/
def FLT_CTRL : Reg :=
  ⟨30, 0x07000000, 1, 1, 0, 1, 0, 0x2, [], false,
   [⟨0, 1, .rw, []⟩, ⟨1, 1, .ro, []⟩, ⟨2, 30, .reserved, []⟩]⟩
/-- FLT_SYS_CFG: spec 22. -/
def FLT_SYS_CFG : Reg :=
  ⟨30, 0x07000004, 1, 1, 0, 1, 0, 0x4000, [], false,
   [⟨0, 2, .seal, [(0, 2)]⟩, ⟨2, 2, .seal, []⟩, ⟨4, 2, .seal, [(0, 2)]⟩, ⟨6, 4, .seal, []⟩, ⟨10, 1, .seal, []⟩, ⟨11, 4, .rw, [(2, 10)]⟩, ⟨15, 17, .reserved, []⟩]⟩
/-- FLT_PAIR_CFG: spec 22. -/
def FLT_PAIR_CFG : Reg :=
  ⟨30, 0x07000008, 1, 1, 0, 1, 0, 0xC00, [], false,
   [⟨0, 13, .rw, [(1, 4095)]⟩, ⟨13, 19, .reserved, []⟩]⟩
/-- FLT_PAIR_STATUS: spec 22. -/
def FLT_PAIR_STATUS : Reg :=
  ⟨30, 0x0700000C, 1, 1, 0, 1, 0, 0x10000, [], false,
   [⟨0, 2, .ro, []⟩, ⟨2, 2, .ro, []⟩, ⟨4, 12, .reserved, []⟩, ⟨16, 16, .ro, []⟩]⟩
/-- FLT_MIRROR_STATUS: spec 22. -/
def FLT_MIRROR_STATUS : Reg :=
  ⟨30, 0x07000010, 1, 1, 0, 1, 0, 0x0, [], false,
   [⟨0, 13, .ro, []⟩, ⟨13, 19, .reserved, []⟩]⟩
/-- FLT_MSEQ_TX: spec 22. -/
def FLT_MSEQ_TX : Reg :=
  ⟨30, 0x07000014, 1, 1, 0, 1, 0, 0x0, [], false,
   [⟨0, 32, .ro, []⟩]⟩
/-- FLT_MSEQ_ACC: spec 22. -/
def FLT_MSEQ_ACC : Reg :=
  ⟨30, 0x07000018, 1, 1, 0, 1, 0, 0x0, [], false,
   [⟨0, 32, .ro, []⟩]⟩
/-- FLT_FENCE: spec 22. -/
def FLT_FENCE : Reg :=
  ⟨30, 0x0700001C, 1, 1, 0, 1, 0, 0x0, [], false,
   [⟨0, 32, .ro, []⟩]⟩
/-- FLT_STACK_STATUS: spec 22. -/
def FLT_STACK_STATUS : Reg :=
  ⟨30, 0x07000020, 1, 1, 0, 1, 0, 0x0, [], false,
   [⟨0, 2, .ro, []⟩, ⟨2, 1, .ro, []⟩, ⟨3, 1, .reserved, []⟩, ⟨4, 4, .ro, []⟩, ⟨8, 24, .reserved, []⟩]⟩
/-- FLT_BUNDLE_CFG: spec 22. -/
def FLT_BUNDLE_CFG : Reg :=
  ⟨30, 0x07000100, 1, 4, 4, 1, 0, 0x0, [], false,
   [⟨0, 1, .rw, []⟩, ⟨1, 7, .seal, [(0, 95)]⟩, ⟨8, 5, .seal, [(0, 0), (2, 16)]⟩, ⟨13, 1, .seal, []⟩, ⟨14, 1, .seal, []⟩, ⟨15, 17, .reserved, []⟩]⟩
/-- FLT_BUNDLE_TIME: spec 22. -/
def FLT_BUNDLE_TIME : Reg :=
  ⟨30, 0x07000140, 1, 4, 4, 1, 0, 0x0, [], false,
   [⟨0, 32, .rw, [(0, 1000000), (4293967296, 4294967295)]⟩]⟩
/-- FLT_BUNDLE_STATUS: spec 22. -/
def FLT_BUNDLE_STATUS : Reg :=
  ⟨30, 0x07000180, 1, 4, 4, 1, 0, 0x0, [], false,
   [⟨0, 2, .ro, []⟩, ⟨2, 1, .ro, []⟩, ⟨3, 5, .ro, []⟩, ⟨8, 7, .ro, []⟩, ⟨15, 2, .ro, []⟩, ⟨17, 15, .reserved, []⟩]⟩
/-- RND_STATUS: spec 23. -/
def RND_STATUS : Reg :=
  ⟨6, 0x00600000, 1, 1, 0, 1, 0, 0x0, [], false,
   [⟨0, 2, .ro, []⟩, ⟨2, 1, .ro, []⟩, ⟨3, 1, .ro, []⟩, ⟨4, 2, .ro, []⟩, ⟨6, 1, .ro, []⟩, ⟨7, 1, .ro, []⟩, ⟨8, 24, .reserved, []⟩]⟩
/-- RND_SVN: spec 23. -/
def RND_SVN : Reg :=
  ⟨6, 0x00600004, 1, 1, 0, 1, 0, 0x0, [], false,
   [⟨0, 7, .ro, []⟩, ⟨7, 1, .reserved, []⟩, ⟨8, 6, .ro, []⟩, ⟨14, 2, .reserved, []⟩, ⟨16, 7, .ro, []⟩, ⟨23, 1, .ro, []⟩, ⟨24, 8, .reserved, []⟩]⟩
/-- RND_RIGHTS: spec 23. -/
def RND_RIGHTS : Reg :=
  ⟨6, 0x00600008, 1, 1, 0, 1, 0, 0x0, [], false,
   [⟨0, 15, .seal, []⟩, ⟨15, 17, .reserved, []⟩]⟩
/-- RND_WR_BLOCKS: spec 23. -/
def RND_WR_BLOCKS : Reg :=
  ⟨6, 0x0060000C, 1, 1, 0, 1, 0, 0x0, [], false,
   [⟨0, 31, .seal, []⟩, ⟨31, 1, .reserved, []⟩]⟩
/-- RND_VIOL_ADDR: spec 23. -/
def RND_VIOL_ADDR : Reg :=
  ⟨6, 0x00600010, 1, 1, 0, 1, 0, 0x0, [], false,
   [⟨0, 32, .ro, []⟩]⟩
/-- RND_VIOL_INFO: spec 23. -/
def RND_VIOL_INFO : Reg :=
  ⟨6, 0x00600014, 1, 1, 0, 1, 0, 0x0, [], false,
   [⟨0, 2, .ro, []⟩, ⟨2, 8, .ro, []⟩, ⟨10, 21, .reserved, []⟩, ⟨31, 1, .w1c, []⟩]⟩
/-- RND_CMD: spec 23. -/
def RND_CMD : Reg :=
  ⟨6, 0x00600020, 1, 1, 0, 1, 0, 0x0, [], false,
   [⟨0, 1, .wo, []⟩, ⟨1, 1, .wo, []⟩, ⟨2, 1, .wo, []⟩, ⟨3, 1, .wo, []⟩, ⟨4, 1, .ro, []⟩, ⟨5, 2, .ro, []⟩, ⟨7, 25, .reserved, []⟩]⟩
/-- RND_NONCE: spec 23. -/
def RND_NONCE : Reg :=
  ⟨6, 0x00600040, 1, 8, 4, 1, 0, 0x0, [], false,
   [⟨0, 32, .rw, []⟩]⟩
/-- RND_DBG_SCOPE: spec 23. -/
def RND_DBG_SCOPE : Reg :=
  ⟨6, 0x00600060, 1, 1, 0, 1, 0, 0x0, [], false,
   [⟨0, 3, .rw, []⟩, ⟨3, 29, .reserved, []⟩]⟩
/-- RND_TAMPER_SEL: spec 23. -/
def RND_TAMPER_SEL : Reg :=
  ⟨6, 0x00600300, 1, 1, 0, 1, 0, 0x0, [], false,
   [⟨0, 5, .rw, []⟩, ⟨5, 27, .reserved, []⟩]⟩
/-- RND_TAMPER_COUNT: spec 23. -/
def RND_TAMPER_COUNT : Reg :=
  ⟨6, 0x00600314, 1, 1, 0, 1, 0, 0x0, [], false,
   [⟨0, 32, .ro, []⟩]⟩
/-- RND_VERIFY_STATUS: spec 23. -/
def RND_VERIFY_STATUS : Reg :=
  ⟨6, 0x00600320, 1, 1, 0, 1, 0, 0x0, [], false,
   [⟨0, 3, .ro, []⟩, ⟨3, 2, .ro, []⟩, ⟨5, 27, .reserved, []⟩]⟩
/-- RND_KEYS: spec 23. -/
def RND_KEYS : Reg :=
  ⟨6, 0x00600324, 1, 1, 0, 1, 0, 0x0, [], false,
   [⟨0, 10, .ro, []⟩, ⟨10, 22, .reserved, []⟩]⟩
/-- IMG_STATUS: spec 24. -/
def IMG_STATUS : Reg :=
  ⟨5, 0x00500000, 1, 1, 0, 1, 0, 0x0, [], false,
   [⟨0, 3, .ro, []⟩, ⟨3, 2, .ro, []⟩, ⟨5, 1, .ro, []⟩, ⟨6, 4, .ro, []⟩, ⟨10, 2, .ro, []⟩, ⟨12, 20, .reserved, []⟩]⟩
/-- IMG_ATTEMPTS: spec 24. -/
def IMG_ATTEMPTS : Reg :=
  ⟨5, 0x00500004, 1, 1, 0, 1, 0, 0x0, [], false,
   [⟨0, 2, .ro, []⟩, ⟨2, 2, .ro, []⟩, ⟨4, 2, .ro, []⟩, ⟨6, 26, .reserved, []⟩]⟩
/-- IMG_PREFER: spec 24. -/
def IMG_PREFER : Reg :=
  ⟨5, 0x00500008, 1, 1, 0, 1, 0, 0x0, [], false,
   [⟨0, 1, .rw, []⟩, ⟨1, 31, .reserved, []⟩]⟩
/-- IMG_NVM_STATUS: spec 24. -/
def IMG_NVM_STATUS : Reg :=
  ⟨5, 0x0050000C, 1, 1, 0, 1, 0, 0x0, [], false,
   [⟨0, 2, .ro, []⟩, ⟨2, 2, .ro, []⟩, ⟨4, 28, .reserved, []⟩]⟩
/-- IMG_CFG: spec 24. -/
def IMG_CFG : Reg :=
  ⟨5, 0x00500010, 1, 1, 0, 1, 0, 0x1, [], false,
   [⟨0, 1, .seal, []⟩, ⟨1, 31, .reserved, []⟩]⟩
/-- IMG_LOAD_MS: spec 24. -/
def IMG_LOAD_MS : Reg :=
  ⟨5, 0x00500014, 1, 1, 0, 1, 0, 0x0, [], false,
   [⟨0, 16, .ro, []⟩, ⟨16, 16, .reserved, []⟩]⟩
/-- IMG_FLASH_ADDR: spec 24. -/
def IMG_FLASH_ADDR : Reg :=
  ⟨5, 0x00500020, 1, 1, 0, 1, 0, 0x0, [], false,
   [⟨0, 30, .rw, []⟩, ⟨30, 2, .reserved, []⟩]⟩
/-- IMG_FLASH_CMD: spec 24. -/
def IMG_FLASH_CMD : Reg :=
  ⟨5, 0x00500024, 1, 1, 0, 1, 0, 0x0, [], false,
   [⟨0, 2, .rw, [(0, 2)]⟩, ⟨2, 1, .wo, []⟩, ⟨3, 1, .ro, []⟩, ⟨4, 2, .ro, []⟩, ⟨6, 26, .reserved, []⟩]⟩
/-- IMG_FLASH_DATA: spec 24. -/
def IMG_FLASH_DATA : Reg :=
  ⟨5, 0x00500100, 1, 64, 4, 1, 0, 0x0, [], false,
   [⟨0, 32, .rw, []⟩]⟩
/-- HST_CTRL: spec 24. -/
def HST_CTRL : Reg :=
  ⟨7, 0x00700000, 1, 1, 0, 1, 0, 0x2, [], false,
   [⟨0, 1, .rw, []⟩, ⟨1, 1, .ro, []⟩, ⟨2, 30, .reserved, []⟩]⟩
/-- HST_PCIE_STATUS: spec 24. -/
def HST_PCIE_STATUS : Reg :=
  ⟨7, 0x00700004, 1, 1, 0, 1, 0, 0x0, [], false,
   [⟨0, 3, .ro, []⟩, ⟨3, 3, .ro, []⟩, ⟨6, 1, .ro, []⟩, ⟨7, 25, .reserved, []⟩]⟩
/-- HST_SUBSYS: spec 24. -/
def HST_SUBSYS : Reg :=
  ⟨7, 0x00700008, 1, 1, 0, 1, 0, 0x0, [], false,
   [⟨0, 16, .seal, []⟩, ⟨16, 16, .seal, []⟩]⟩
/-- HST_RX_MAP: spec 24. -/
def HST_RX_MAP : Reg :=
  ⟨7, 0x00700010, 1, 4, 4, 1, 0, 0x0, [], false,
   [⟨0, 4, .rw, []⟩, ⟨4, 4, .rw, []⟩, ⟨8, 4, .rw, []⟩, ⟨12, 4, .rw, []⟩, ⟨16, 4, .rw, []⟩, ⟨20, 4, .rw, []⟩, ⟨24, 4, .rw, []⟩, ⟨28, 4, .rw, []⟩]⟩
/-- HST_RX_BASE_LO: spec 24. -/
def HST_RX_BASE_LO : Reg :=
  ⟨7, 0x00700100, 1, 16, 32, 1, 0, 0x0, [], false,
   [⟨0, 32, .rw, []⟩]⟩
/-- HST_TX_BASE_LO: spec 24. -/
def HST_TX_BASE_LO : Reg :=
  ⟨7, 0x00700400, 1, 16, 32, 1, 0, 0x0, [], false,
   [⟨0, 32, .rw, []⟩]⟩
/-- HST_RX_BASE_HI: spec 24. -/
def HST_RX_BASE_HI : Reg :=
  ⟨7, 0x00700104, 1, 16, 32, 1, 0, 0x0, [], false,
   [⟨0, 32, .rw, []⟩]⟩
/-- HST_TX_BASE_HI: spec 24. -/
def HST_TX_BASE_HI : Reg :=
  ⟨7, 0x00700404, 1, 16, 32, 1, 0, 0x0, [], false,
   [⟨0, 32, .rw, []⟩]⟩
/-- HST_RX_CFG: spec 24. -/
def HST_RX_CFG : Reg :=
  ⟨7, 0x00700108, 1, 16, 32, 1, 0, 0xC, [], false,
   [⟨0, 1, .rw, []⟩, ⟨1, 4, .rw, [(6, 14)]⟩, ⟨5, 6, .rw, []⟩, ⟨11, 10, .rw, []⟩, ⟨21, 1, .rw, []⟩, ⟨22, 4, .rw, []⟩, ⟨26, 1, .ro, []⟩, ⟨27, 5, .reserved, []⟩]⟩
/-- HST_TX_CFG: spec 24. -/
def HST_TX_CFG : Reg :=
  ⟨7, 0x00700408, 1, 16, 32, 1, 0, 0xC, [], false,
   [⟨0, 1, .rw, []⟩, ⟨1, 4, .rw, [(6, 14)]⟩, ⟨5, 6, .rw, []⟩, ⟨11, 10, .rw, []⟩, ⟨21, 5, .reserved, []⟩, ⟨26, 1, .ro, []⟩, ⟨27, 5, .reserved, []⟩]⟩
/-- HST_RX_HEAD: spec 24. -/
def HST_RX_HEAD : Reg :=
  ⟨7, 0x0070010C, 1, 16, 32, 1, 0, 0x0, [], false,
   [⟨0, 32, .ro, []⟩]⟩
/-- HST_TX_HEAD: spec 24. -/
def HST_TX_HEAD : Reg :=
  ⟨7, 0x0070040C, 1, 16, 32, 1, 0, 0x0, [], false,
   [⟨0, 32, .ro, []⟩]⟩
/-- RST_CMD: spec 25. -/
def RST_CMD : Reg :=
  ⟨1, 0x00100000, 1, 1, 0, 1, 0, 0x0, [], false,
   [⟨0, 1, .wo, []⟩, ⟨1, 7, .reserved, []⟩, ⟨8, 8, .wo, []⟩, ⟨16, 16, .reserved, []⟩]⟩
/-- RST_STATUS: spec 25. -/
def RST_STATUS : Reg :=
  ⟨1, 0x00100004, 1, 1, 0, 1, 0, 0x0, [], false,
   [⟨0, 4, .ro, []⟩, ⟨4, 1, .ro, []⟩, ⟨5, 1, .ro, []⟩, ⟨6, 26, .reserved, []⟩]⟩
/-- RST_LAST: spec 25. -/
def RST_LAST : Reg :=
  ⟨1, 0x00100008, 1, 1, 0, 1, 0, 0x0, [], false,
   [⟨0, 32, .ro, []⟩]⟩
/-- RST_COUNT: spec 25. -/
def RST_COUNT : Reg :=
  ⟨1, 0x0010000C, 1, 1, 0, 1, 0, 0x0, [], false,
   [⟨0, 32, .ro, []⟩]⟩
/-- RST_SRC_COUNT: spec 25. -/
def RST_SRC_COUNT : Reg :=
  ⟨1, 0x00100010, 1, 8, 4, 1, 0, 0x0, [], false,
   [⟨0, 16, .ro, []⟩, ⟨16, 16, .ro, []⟩]⟩
/-- RST_RING_SEL: spec 25. -/
def RST_RING_SEL : Reg :=
  ⟨1, 0x00100030, 1, 1, 0, 1, 0, 0x0, [], false,
   [⟨0, 4, .rw, []⟩, ⟨4, 28, .reserved, []⟩]⟩
/-- RST_RING_ENTRY: spec 25. -/
def RST_RING_ENTRY : Reg :=
  ⟨1, 0x00100034, 1, 4, 4, 1, 0, 0x0, [], false,
   [⟨0, 32, .ro, []⟩]⟩
/-- RST_BLOCK_P: spec 25. -/
def RST_BLOCK_P : Reg :=
  ⟨1, 0x00100100, 1, 4, 4, 1, 0, 0x0, [], false,
   [⟨0, 16, .wo, []⟩, ⟨16, 16, .reserved, []⟩]⟩
/-- RST_BLOCK_DEV: spec 25. -/
def RST_BLOCK_DEV : Reg :=
  ⟨1, 0x00100110, 1, 1, 0, 1, 0, 0x0, [], false,
   [⟨0, 5, .wo, []⟩, ⟨5, 27, .reserved, []⟩]⟩
/-- RST_BLOCK_BUSY: spec 25. -/
def RST_BLOCK_BUSY : Reg :=
  ⟨1, 0x00100114, 1, 1, 0, 1, 0, 0x0, [], false,
   [⟨0, 1, .ro, []⟩, ⟨1, 31, .reserved, []⟩]⟩
/-- PWR_REQ: spec 26. -/
def PWR_REQ : Reg :=
  ⟨2, 0x00200000, 1, 2, 4, 1, 0, 0xFFFFFFFF, [], false,
   [⟨0, 32, .rw, []⟩]⟩
/-- PWR_STATE: spec 26. -/
def PWR_STATE : Reg :=
  ⟨2, 0x00200008, 1, 2, 4, 1, 0, 0xFFFFFFFF, [], false,
   [⟨0, 32, .ro, []⟩]⟩
/-- PWR_STATUS: spec 26. -/
def PWR_STATUS : Reg :=
  ⟨2, 0x00200010, 1, 1, 0, 1, 0, 0x0, [], false,
   [⟨0, 1, .ro, []⟩, ⟨1, 6, .ro, []⟩, ⟨7, 2, .ro, []⟩, ⟨9, 22, .reserved, []⟩, ⟨31, 1, .w1c, []⟩]⟩
/-- PWR_THERM_CFG: spec 26. -/
def PWR_THERM_CFG : Reg :=
  ⟨2, 0x00200020, 1, 1, 0, 1, 0, 0x6E64, [], false,
   [⟨0, 8, .rw, [(60, 115)]⟩, ⟨8, 8, .rw, [(70, 120)]⟩, ⟨16, 16, .reserved, []⟩]⟩
/-- PWR_TEMP: spec 26. -/
def PWR_TEMP : Reg :=
  ⟨2, 0x00200024, 1, 1, 0, 1, 0, 0x0, [], false,
   [⟨0, 8, .ro, []⟩, ⟨8, 4, .ro, []⟩, ⟨12, 1, .ro, []⟩, ⟨13, 1, .ro, []⟩, ⟨14, 1, .ro, []⟩, ⟨15, 17, .reserved, []⟩]⟩
/-- PWR_SENSOR_FAULT: spec 26. -/
def PWR_SENSOR_FAULT : Reg :=
  ⟨2, 0x00200028, 1, 1, 0, 1, 0, 0x0, [], false,
   [⟨0, 16, .ro, []⟩, ⟨16, 16, .reserved, []⟩]⟩
/-- CLK_CTRL: spec 26. -/
def CLK_CTRL : Reg :=
  ⟨3, 0x00300000, 1, 1, 0, 1, 0, 0x0, [], false,
   [⟨0, 1, .rw, []⟩, ⟨1, 1, .rw, []⟩, ⟨2, 30, .reserved, []⟩]⟩
/-- CLK_STATUS: spec 26. -/
def CLK_STATUS : Reg :=
  ⟨3, 0x00300004, 1, 1, 0, 1, 0, 0x0, [], false,
   [⟨0, 1, .ro, []⟩, ⟨1, 1, .ro, []⟩, ⟨2, 1, .ro, []⟩, ⟨3, 1, .ro, []⟩, ⟨4, 6, .ro, []⟩, ⟨10, 1, .ro, []⟩, ⟨11, 21, .reserved, []⟩]⟩
/-- CLK_REF_CFG: spec 26. -/
def CLK_REF_CFG : Reg :=
  ⟨3, 0x00300008, 1, 1, 0, 1, 0, 0x64, [], false,
   [⟨0, 14, .rw, [(10, 10000)]⟩, ⟨14, 18, .reserved, []⟩]⟩
/-- EVT_SUMMARY_LO: spec 27. -/
def EVT_SUMMARY_LO : Reg :=
  ⟨4, 0x00400004, 1, 1, 0, 1, 0, 0x0, [], false,
   [⟨0, 32, .ro, []⟩]⟩
/-- EVT_SUMMARY_HI: spec 27. -/
def EVT_SUMMARY_HI : Reg :=
  ⟨4, 0x00400008, 1, 1, 0, 1, 0, 0x0, [], false,
   [⟨0, 8, .ro, []⟩, ⟨8, 24, .reserved, []⟩]⟩
/-- EVT_LOG_WR: spec 27. -/
def EVT_LOG_WR : Reg :=
  ⟨4, 0x00400010, 1, 1, 0, 1, 0, 0x0, [], false,
   [⟨0, 32, .ro, []⟩]⟩
/-- EVT_LOG_RD: spec 27. -/
def EVT_LOG_RD : Reg :=
  ⟨4, 0x00400014, 1, 1, 0, 1, 0, 0x0, [], false,
   [⟨0, 32, .rw, []⟩]⟩
/-- EVT_LOG_ENTRY: spec 27. -/
def EVT_LOG_ENTRY : Reg :=
  ⟨4, 0x00400020, 1, 4, 4, 1, 0, 0x0, [], false,
   [⟨0, 32, .ro, []⟩]⟩
/-- EVT_STATUS: spec 27. -/
def EVT_STATUS : Reg :=
  ⟨4, 0x00400100, 1, 40, 4, 1, 0, 0x0, [], false,
   [⟨0, 32, .w1c, []⟩]⟩
/-- EVT_PIN_EN: spec 27. -/
def EVT_PIN_EN : Reg :=
  ⟨4, 0x00400200, 1, 40, 4, 1, 0, 0x0, [(5, 0x2), (11, 0x4), (27, 0x4), (19, 0x60), (22, 0x78), (24, 0x6), (25, 0x8A0), (26, 0x68), (30, 0x1), (32, 0x40)], false,
   [⟨0, 32, .rw, []⟩]⟩
/-- EVT_MSIX_EN: spec 27. -/
def EVT_MSIX_EN : Reg :=
  ⟨4, 0x00400300, 1, 40, 4, 1, 0, 0x0, [], false,
   [⟨0, 32, .rw, []⟩]⟩
/-- EVT_KPR_EN: spec 27. -/
def EVT_KPR_EN : Reg :=
  ⟨4, 0x00400400, 1, 40, 4, 1, 0, 0x0, [], false,
   [⟨0, 32, .rw, []⟩]⟩
/-- EVT_LOG_EN: spec 27. -/
def EVT_LOG_EN : Reg :=
  ⟨4, 0x00400500, 1, 40, 4, 1, 0, 0x0, [(0, 0x3), (2, 0x1F), (3, 0x7F), (4, 0x3F), (5, 0x7F), (6, 0x3F), (7, 0xF), (8, 0x1F), (9, 0xF), (10, 0x77), (11, 0x1F), (12, 0xFFF), (13, 0x7F), (14, 0x3F), (15, 0x7F), (16, 0x1FF), (17, 0x1FF), (18, 0x1F), (19, 0x7FF), (20, 0x3FF), (21, 0xFFF), (22, 0x3FF), (23, 0x7), (24, 0xFFF), (25, 0x3FF7), (26, 0x7FF), (27, 0x1F), (28, 0xF), (29, 0x3), (30, 0x7), (31, 0x3), (32, 0x7F), (33, 0xF)], false,
   [⟨0, 32, .rw, []⟩]⟩
/-- EVT_GROUP_VEC: spec 27. -/
def EVT_GROUP_VEC : Reg :=
  ⟨4, 0x00400600, 1, 40, 4, 1, 0, 0x0, [], false,
   [⟨0, 6, .rw, []⟩, ⟨6, 26, .reserved, []⟩]⟩
/-- DGN_CFG: spec 28. -/
def DGN_CFG : Reg :=
  ⟨9, 0x00900000, 1, 1, 0, 1, 0, 0x0, [], false,
   [⟨0, 4, .seal, []⟩, ⟨4, 28, .reserved, []⟩]⟩
/-- DGN_STATUS: spec 28. -/
def DGN_STATUS : Reg :=
  ⟨9, 0x00900004, 1, 1, 0, 1, 0, 0x0, [], false,
   [⟨0, 1, .ro, []⟩, ⟨1, 1, .ro, []⟩, ⟨2, 1, .ro, []⟩, ⟨3, 1, .ro, []⟩, ⟨4, 1, .ro, []⟩, ⟨5, 27, .reserved, []⟩]⟩
/-- DGN_BIST_CTRL: spec 28. -/
def DGN_BIST_CTRL : Reg :=
  ⟨9, 0x00900010, 1, 1, 0, 1, 0, 0x0, [], false,
   [⟨0, 6, .rw, [(24, 59)]⟩, ⟨6, 1, .wo, []⟩, ⟨7, 25, .reserved, []⟩]⟩
/-- DGN_BIST_STATUS: spec 28. -/
def DGN_BIST_STATUS : Reg :=
  ⟨9, 0x00900014, 1, 1, 0, 1, 0, 0x0, [], false,
   [⟨0, 2, .ro, []⟩, ⟨2, 6, .ro, []⟩, ⟨8, 16, .ro, []⟩, ⟨24, 8, .reserved, []⟩]⟩
/-- DGN_INJ_CFG: spec 28. -/
def DGN_INJ_CFG : Reg :=
  ⟨9, 0x00900020, 1, 1, 0, 1, 0, 0x0, [], false,
   [⟨0, 4, .rw, []⟩, ⟨4, 7, .rw, []⟩, ⟨11, 1, .rw, []⟩, ⟨12, 1, .rw, []⟩, ⟨13, 1, .rw, []⟩, ⟨14, 18, .reserved, []⟩]⟩
/-- DGN_PERT_CFG: spec 28. -/
def DGN_PERT_CFG : Reg :=
  ⟨9, 0x00900040, 1, 2, 16, 1, 0, 0x0, [], false,
   [⟨0, 4, .rw, [(0, 5)]⟩, ⟨4, 7, .rw, []⟩, ⟨11, 20, .rw, []⟩, ⟨31, 1, .reserved, []⟩]⟩
/-- DGN_PERT_TIME: spec 28. -/
def DGN_PERT_TIME : Reg :=
  ⟨9, 0x00900044, 1, 2, 16, 1, 0, 0x3E8, [], false,
   [⟨0, 16, .rw, [(1, 60000)]⟩, ⟨16, 16, .rw, []⟩]⟩
/-- DGN_PERT_CTRL: spec 28. -/
def DGN_PERT_CTRL : Reg :=
  ⟨9, 0x00900048, 1, 2, 16, 1, 0, 0xC8, [], false,
   [⟨0, 1, .rw, []⟩, ⟨1, 7, .rw, [(1, 100)]⟩, ⟨8, 24, .reserved, []⟩]⟩
/-- DGN_PORT_LOOP: spec 28. -/
def DGN_PORT_LOOP : Reg :=
  ⟨9, 0x00900100, 1, 96, 4, 1, 0, 0x0, [], false,
   [⟨0, 2, .rw, []⟩, ⟨2, 30, .reserved, []⟩]⟩
/-- SUP_ID: spec 29. -/
def SUP_ID : Reg :=
  ⟨0, 0x00000000, 1, 1, 0, 1, 0, 0x744021, [], false,
   [⟨0, 4, .ro, []⟩, ⟨4, 4, .ro, []⟩, ⟨8, 16, .ro, []⟩, ⟨24, 8, .reserved, []⟩]⟩
/-- RND_WINDOW: spec 23. -/
def RND_WINDOW : Reg :=
  ⟨6, 0x00600100, 1, 128, 4, 1, 0, 0x0, [], false,
   [⟨0, 32, .rw, []⟩]⟩
/-- RND_TAMPER_ENTRY: spec 23. -/
def RND_TAMPER_ENTRY : Reg :=
  ⟨6, 0x00600304, 1, 4, 4, 1, 0, 0x0, [], false,
   [⟨0, 32, .ro, []⟩]⟩
/-- PRT_EEE_CFG: spec 23. -/
def PRT_EEE_CFG : Reg :=
  ⟨12, 0x01100A00, 4, 24, 4, 1, 0, 0x140000, [], false,
   [⟨0, 16, .rw, []⟩, ⟨16, 16, .rw, [(1, 65535)]⟩]⟩

end Sys2Proof.Machine.Reg
end

