-- ==== Sys2Proof/Machine/RegFields.lean ====
section
/-! DEFINITION. The named fields of the registers (BLOCK_REGISTER.FIELD of the register tables) and the
list of all registers of the map. -/
namespace Sys2Proof.Machine.Fld

def LNE_CTRL_MODE : Fld := ⟨Reg.LNE_CTRL, 0, 2⟩
def LNE_CTRL_RATE : Fld := ⟨Reg.LNE_CTRL, 2, 3⟩
def LNE_CTRL_TX_INVERT : Fld := ⟨Reg.LNE_CTRL, 5, 1⟩
def LNE_CTRL_RX_INVERT : Fld := ⟨Reg.LNE_CTRL, 6, 1⟩
def LNE_CTRL_LANE_RESET : Fld := ⟨Reg.LNE_CTRL, 7, 1⟩
def LNE_STATUS_SIG_DET : Fld := ⟨Reg.LNE_STATUS, 0, 1⟩
def LNE_STATUS_CDR_LOCK : Fld := ⟨Reg.LNE_STATUS, 1, 1⟩
def LNE_STATUS_BLOCK_LOCK : Fld := ⟨Reg.LNE_STATUS, 2, 1⟩
def LNE_STATUS_EBBED : Fld := ⟨Reg.LNE_STATUS, 3, 1⟩
def LNE_STATUS_LPI : Fld := ⟨Reg.LNE_STATUS, 4, 1⟩
def LNE_STATUS_PRBS_LOCK : Fld := ⟨Reg.LNE_STATUS, 5, 1⟩
def LNE_STATUS_RATE : Fld := ⟨Reg.LNE_STATUS, 6, 3⟩
def LNE_STATUS_SNR : Fld := ⟨Reg.LNE_STATUS, 16, 8⟩
def LNE_PRBS_CTRL_PATTERN : Fld := ⟨Reg.LNE_PRBS_CTRL, 0, 4⟩
def LNE_PRBS_CTRL_TX_EN : Fld := ⟨Reg.LNE_PRBS_CTRL, 4, 1⟩
def LNE_PRBS_CTRL_RX_EN : Fld := ⟨Reg.LNE_PRBS_CTRL, 5, 1⟩
def LNE_PRBS_CTRL_ERR_CLEAR : Fld := ⟨Reg.LNE_PRBS_CTRL, 6, 1⟩
def LNE_PRBS_ERRS_ERRORS : Fld := ⟨Reg.LNE_PRBS_ERRS, 0, 32⟩
def LNE_OCTET_CTRL_FAMILY : Fld := ⟨Reg.LNE_OCTET_CTRL, 0, 1⟩
def LNE_OCTET_CTRL_OCTET_RESET : Fld := ⟨Reg.LNE_OCTET_CTRL, 1, 1⟩
def LNE_OCTET_CTRL_PLL_LOCK : Fld := ⟨Reg.LNE_OCTET_CTRL, 2, 1⟩
def LNE_OCTET_CTRL_PLL_FAMILY : Fld := ⟨Reg.LNE_OCTET_CTRL, 3, 1⟩
def PRT_MODE_EN : Fld := ⟨Reg.PRT_MODE, 0, 1⟩
def PRT_MODE_TYPE : Fld := ⟨Reg.PRT_MODE, 1, 4⟩
def PRT_MODE_FEC : Fld := ⟨Reg.PRT_MODE, 5, 2⟩
def PRT_MODE_AN_EN : Fld := ⟨Reg.PRT_MODE, 7, 1⟩
def PRT_MODE_EBB_EN : Fld := ⟨Reg.PRT_MODE, 8, 1⟩
def PRT_MODE_EEE_EN : Fld := ⟨Reg.PRT_MODE, 9, 1⟩
def PRT_MODE_PORT_RESET : Fld := ⟨Reg.PRT_MODE, 10, 1⟩
def PRT_LINK_CFG_UP_DEBOUNCE : Fld := ⟨Reg.PRT_LINK_CFG, 0, 10⟩
def PRT_LINK_CFG_DOWN_DELAY : Fld := ⟨Reg.PRT_LINK_CFG, 10, 10⟩
def PRT_LINK_CFG_LT_TIMEOUT : Fld := ⟨Reg.PRT_LINK_CFG, 20, 7⟩
def PRT_LINK_CFG_AN_RETRY_LIMIT : Fld := ⟨Reg.PRT_LINK_CFG, 27, 4⟩
def PRT_LINK_STATUS_STATE : Fld := ⟨Reg.PRT_LINK_STATUS, 0, 3⟩
def PRT_LINK_STATUS_LOCAL_FAULT : Fld := ⟨Reg.PRT_LINK_STATUS, 3, 1⟩
def PRT_LINK_STATUS_REMOTE_FAULT : Fld := ⟨Reg.PRT_LINK_STATUS, 4, 1⟩
def PRT_LINK_STATUS_HI_BER : Fld := ⟨Reg.PRT_LINK_STATUS, 5, 1⟩
def PRT_LINK_STATUS_ACTIVE_LANES : Fld := ⟨Reg.PRT_LINK_STATUS, 6, 4⟩
def PRT_LINK_STATUS_PARTNER_DALZIA : Fld := ⟨Reg.PRT_LINK_STATUS, 10, 1⟩
def PRT_LINK_STATUS_EEE_ACTIVE : Fld := ⟨Reg.PRT_LINK_STATUS, 11, 1⟩
def PRT_LINK_STATUS_EBB_ACTIVE : Fld := ⟨Reg.PRT_LINK_STATUS, 12, 1⟩
def PRT_ARB_CFG_LOW_LIMIT : Fld := ⟨Reg.PRT_ARB_CFG, 0, 8⟩
def PRT_ARB_CFG_MID_LIMIT : Fld := ⟨Reg.PRT_ARB_CFG, 8, 8⟩
def PRT_ARB_CFG_HIGH_LIMIT : Fld := ⟨Reg.PRT_ARB_CFG, 16, 8⟩
def PRT_ARB_CFG_MID_PCP : Fld := ⟨Reg.PRT_ARB_CFG, 24, 3⟩
def PRT_ARB_CFG_HIGH_PCP : Fld := ⟨Reg.PRT_ARB_CFG, 27, 3⟩
def PRT_EBB_CFG_MIN_WIDTH : Fld := ⟨Reg.PRT_EBB_CFG, 0, 2⟩
def PRT_EBB_CFG_SHED_PCT : Fld := ⟨Reg.PRT_EBB_CFG, 2, 6⟩
def PRT_EBB_CFG_RESTORE_MARK : Fld := ⟨Reg.PRT_EBB_CFG, 8, 16⟩
def PRT_EBB_CFG_WINDOW : Fld := ⟨Reg.PRT_EBB_CFG, 24, 4⟩
def PRT_EBB_CFG_HOLDOFF : Fld := ⟨Reg.PRT_EBB_CFG, 28, 4⟩
def PRT_PIPE_CFG_OVERSUB : Fld := ⟨Reg.PRT_PIPE_CFG, 0, 1⟩
def PRT_PIPE_CFG_WGT_BACKWASH : Fld := ⟨Reg.PRT_PIPE_CFG, 4, 8⟩
def PRT_PIPE_CFG_WGT_HOST : Fld := ⟨Reg.PRT_PIPE_CFG, 12, 8⟩
def PRT_PIPE_CFG_WGT_KEEPER : Fld := ⟨Reg.PRT_PIPE_CFG, 20, 8⟩
def PRT_PIPE_STATUS_RATE_SUM : Fld := ⟨Reg.PRT_PIPE_STATUS, 0, 11⟩
def PRT_MAC_CFG_MAX_LEN : Fld := ⟨Reg.PRT_MAC_CFG, 0, 14⟩
def PRT_MAC_CFG_TAG_ALLOW : Fld := ⟨Reg.PRT_MAC_CFG, 14, 1⟩
def PRT_MAC_CFG_L3_BAD_DROP : Fld := ⟨Reg.PRT_MAC_CFG, 15, 1⟩
def PRT_MAC_CFG_UDP6_ZERO_OK : Fld := ⟨Reg.PRT_MAC_CFG, 16, 1⟩
def PRT_MAC_ADDR_LO_ADDR : Fld := ⟨Reg.PRT_MAC_ADDR_LO, 0, 32⟩
def PRT_MAC_ADDR_HI_ADDR : Fld := ⟨Reg.PRT_MAC_ADDR_HI, 0, 16⟩
def PRT_PAUSE_CFG_MODE : Fld := ⟨Reg.PRT_PAUSE_CFG, 0, 2⟩
def PRT_PAUSE_CFG_RX_EN : Fld := ⟨Reg.PRT_PAUSE_CFG, 2, 1⟩
def PRT_PAUSE_CFG_TX_EN : Fld := ⟨Reg.PRT_PAUSE_CFG, 3, 1⟩
def PRT_PAUSE_CFG_EXP_HONOUR : Fld := ⟨Reg.PRT_PAUSE_CFG, 4, 1⟩
def PRT_PAUSE_CFG_QUANTA : Fld := ⟨Reg.PRT_PAUSE_CFG, 5, 16⟩
def PRT_PAUSE_CFG_REFRESH_PCT : Fld := ⟨Reg.PRT_PAUSE_CFG, 21, 7⟩
def PRT_PFC_STORM_STORM_LIMIT : Fld := ⟨Reg.PRT_PFC_STORM, 0, 10⟩
def PRT_PFC_STORM_STORM_ACT : Fld := ⟨Reg.PRT_PFC_STORM, 10, 1⟩
def PRT_PFC_STORM_RECOVER : Fld := ⟨Reg.PRT_PFC_STORM, 11, 10⟩
def PRT_TS_CFG_RX_ADJ : Fld := ⟨Reg.PRT_TS_CFG, 0, 16⟩
def PRT_TS_CFG_TX_ADJ : Fld := ⟨Reg.PRT_TS_CFG, 16, 16⟩
def PRT_PFC_MAP_CLASSES_LO : Fld := ⟨Reg.PRT_PFC_MAP, 0, 16⟩
def PRT_PFC_MAP_CLASSES_HI : Fld := ⟨Reg.PRT_PFC_MAP, 16, 16⟩
def MSC_PORT_CFG_EN : Fld := ⟨Reg.MSC_PORT_CFG, 0, 1⟩
def MSC_PORT_CFG_CIPHER : Fld := ⟨Reg.MSC_PORT_CFG, 1, 2⟩
def MSC_PORT_CFG_CONF : Fld := ⟨Reg.MSC_PORT_CFG, 3, 1⟩
def MSC_PORT_CFG_CONF_OFFSET : Fld := ⟨Reg.MSC_PORT_CFG, 4, 2⟩
def MSC_PORT_CFG_VALIDATE : Fld := ⟨Reg.MSC_PORT_CFG, 6, 2⟩
def MSC_PORT_CFG_REPLAY_PROTECT : Fld := ⟨Reg.MSC_PORT_CFG, 8, 1⟩
def MSC_PORT_CFG_INCLUDE_SCI : Fld := ⟨Reg.MSC_PORT_CFG, 9, 1⟩
def MSC_PORT_CFG_KEY_SOURCE : Fld := ⟨Reg.MSC_PORT_CFG, 10, 1⟩
def MSC_REPLAY_WIN_WINDOW : Fld := ⟨Reg.MSC_REPLAY_WIN, 0, 30⟩
def MSC_MKA_CFG_KS_PRIORITY : Fld := ⟨Reg.MSC_MKA_CFG, 0, 8⟩
def MSC_MKA_CFG_HELLO : Fld := ⟨Reg.MSC_MKA_CFG, 8, 2⟩
def MSC_MKA_CFG_LINGER : Fld := ⟨Reg.MSC_MKA_CFG, 10, 6⟩
def MSC_PN_THRESH_THRESHOLD : Fld := ⟨Reg.MSC_PN_THRESH, 0, 32⟩
def MSC_SA_STATUS_TX_AN : Fld := ⟨Reg.MSC_SA_STATUS, 0, 2⟩
def MSC_SA_STATUS_CP_OPERATIONAL : Fld := ⟨Reg.MSC_SA_STATUS, 2, 1⟩
def MSC_SA_STATUS_KEY_SERVER : Fld := ⟨Reg.MSC_SA_STATUS, 3, 1⟩
def MSC_SA_STATUS_LIVE_PEERS : Fld := ⟨Reg.MSC_SA_STATUS, 4, 4⟩
def MSC_TX_NEXTPN_LO_NEXT_PN : Fld := ⟨Reg.MSC_TX_NEXTPN_LO, 0, 32⟩
def MSC_TX_NEXTPN_HI_NEXT_PN : Fld := ⟨Reg.MSC_TX_NEXTPN_HI, 0, 32⟩
def PRS_CTRL_EN : Fld := ⟨Reg.PRS_CTRL, 0, 1⟩
def PRS_CTRL_QUIET : Fld := ⟨Reg.PRS_CTRL, 1, 1⟩
def PRS_UDP_PORTS_VXLAN_PORT : Fld := ⟨Reg.PRS_UDP_PORTS, 0, 16⟩
def PRS_UDP_PORTS_GTPU_PORT : Fld := ⟨Reg.PRS_UDP_PORTS, 16, 16⟩
def PRS_TUN_CFG_ECPRI_PORT : Fld := ⟨Reg.PRS_TUN_CFG, 0, 16⟩
def PRS_TUN_CFG_MPLS_PAYLOAD : Fld := ⟨Reg.PRS_TUN_CFG, 16, 2⟩
def PRS_EXP_MATCH_ETYPE : Fld := ⟨Reg.PRS_EXP_MATCH, 0, 16⟩
def PRS_EXP_MATCH_VID : Fld := ⟨Reg.PRS_EXP_MATCH, 16, 12⟩
def PRS_EXP_MATCH_VID_ANY : Fld := ⟨Reg.PRS_EXP_MATCH, 28, 1⟩
def PRS_EXP_MATCH_EN : Fld := ⟨Reg.PRS_EXP_MATCH, 29, 1⟩
def PRS_PORT_ACT_DEEP_ACT : Fld := ⟨Reg.PRS_PORT_ACT, 0, 2⟩
def PRS_PORT_ACT_MAL_ACT : Fld := ⟨Reg.PRS_PORT_ACT, 2, 2⟩
def RBK_CTRL_EN : Fld := ⟨Reg.RBK_CTRL, 0, 1⟩
def RBK_CTRL_QUIET : Fld := ⟨Reg.RBK_CTRL, 1, 1⟩
def RBK_CTRL_FAULT_ACT : Fld := ⟨Reg.RBK_CTRL, 2, 1⟩
def RBK_EPOCH_CFG_DRAIN_LIMIT : Fld := ⟨Reg.RBK_EPOCH_CFG, 0, 14⟩
def RBK_EPOCH_STATUS_CUR_SLOT : Fld := ⟨Reg.RBK_EPOCH_STATUS, 0, 1⟩
def RBK_EPOCH_STATUS_SLOT0_STATE : Fld := ⟨Reg.RBK_EPOCH_STATUS, 1, 2⟩
def RBK_EPOCH_STATUS_SLOT1_STATE : Fld := ⟨Reg.RBK_EPOCH_STATUS, 3, 2⟩
def RBK_EPOCH_STATUS_BEGIN_WAITING : Fld := ⟨Reg.RBK_EPOCH_STATUS, 5, 1⟩
def RBK_EPOCH_NUM_SLOT0_EPOCH : Fld := ⟨Reg.RBK_EPOCH_NUM, 0, 16⟩
def RBK_EPOCH_NUM_SLOT1_EPOCH : Fld := ⟨Reg.RBK_EPOCH_NUM, 16, 16⟩
def RBK_EPOCH_INFLIGHT_SLOT0_COUNT : Fld := ⟨Reg.RBK_EPOCH_INFLIGHT, 0, 16⟩
def RBK_EPOCH_INFLIGHT_SLOT1_COUNT : Fld := ⟨Reg.RBK_EPOCH_INFLIGHT, 16, 16⟩
def RBK_SPECIAL_PROF_HOST : Fld := ⟨Reg.RBK_SPECIAL_PROF, 0, 6⟩
def RBK_SPECIAL_PROF_KEEPER : Fld := ⟨Reg.RBK_SPECIAL_PROF, 6, 6⟩
def RBK_VIEW_SLOT : Fld := ⟨Reg.RBK_VIEW, 0, 1⟩
def RBK_BANK_CFG_WIDTH : Fld := ⟨Reg.RBK_BANK_CFG, 0, 2⟩
def RBK_BANK_CFG_SLEEP : Fld := ⟨Reg.RBK_BANK_CFG, 2, 1⟩
def RBK_PORT_PROF_NONIP : Fld := ⟨Reg.RBK_PORT_PROF, 0, 6⟩
def RBK_PORT_PROF_IPV4 : Fld := ⟨Reg.RBK_PORT_PROF, 6, 6⟩
def RBK_PORT_PROF_IPV6 : Fld := ⟨Reg.RBK_PORT_PROF, 12, 6⟩
def RBK_PORT_PROF_TUNNEL : Fld := ⟨Reg.RBK_PORT_PROF, 18, 6⟩
def RBK_PORT_PROF_PASS2 : Fld := ⟨Reg.RBK_PORT_PROF, 24, 6⟩
def RBK_PORT_PROF_PORT_CLASS : Fld := ⟨Reg.RBK_PORT_PROF, 30, 2⟩
def RBK_PROF_CTRL_LK0_EN : Fld := ⟨Reg.RBK_PROF_CTRL, 0, 1⟩
def RBK_PROF_CTRL_LK0_FORMAT : Fld := ⟨Reg.RBK_PROF_CTRL, 1, 2⟩
def RBK_PROF_CTRL_LK0_LEVEL : Fld := ⟨Reg.RBK_PROF_CTRL, 3, 1⟩
def RBK_PROF_CTRL_LK1_EN : Fld := ⟨Reg.RBK_PROF_CTRL, 8, 1⟩
def RBK_PROF_CTRL_LK1_FORMAT : Fld := ⟨Reg.RBK_PROF_CTRL, 9, 2⟩
def RBK_PROF_CTRL_LK1_LEVEL : Fld := ⟨Reg.RBK_PROF_CTRL, 11, 1⟩
def RBK_PROF_CTRL_LK2_EN : Fld := ⟨Reg.RBK_PROF_CTRL, 16, 1⟩
def RBK_PROF_CTRL_LK2_FORMAT : Fld := ⟨Reg.RBK_PROF_CTRL, 17, 2⟩
def RBK_PROF_CTRL_LK2_LEVEL : Fld := ⟨Reg.RBK_PROF_CTRL, 19, 1⟩
def RBK_PROF_CTRL_LK3_EN : Fld := ⟨Reg.RBK_PROF_CTRL, 24, 1⟩
def RBK_PROF_CTRL_LK3_FORMAT : Fld := ⟨Reg.RBK_PROF_CTRL, 25, 2⟩
def RBK_PROF_CTRL_LK3_LEVEL : Fld := ⟨Reg.RBK_PROF_CTRL, 27, 1⟩
def RBK_PROF_BANKS_MASK : Fld := ⟨Reg.RBK_PROF_BANKS, 0, 32⟩
def RBK_MISS_ACT_LO_ACT : Fld := ⟨Reg.RBK_MISS_ACT_LO, 0, 32⟩
def RBK_MISS_ACT_HI_ACT : Fld := ⟨Reg.RBK_MISS_ACT_HI, 0, 32⟩
def EXM_CTRL_EN : Fld := ⟨Reg.EXM_CTRL, 0, 1⟩
def EXM_CTRL_QUIET : Fld := ⟨Reg.EXM_CTRL, 1, 1⟩
def EXM_OVF_STATUS_USED : Fld := ⟨Reg.EXM_OVF_STATUS, 0, 14⟩
def EXM_OVF_STATUS_HIGH : Fld := ⟨Reg.EXM_OVF_STATUS, 14, 1⟩
def EXM_REGION_CFG_NH_UNITS : Fld := ⟨Reg.EXM_REGION_CFG, 0, 6⟩
def EXM_REGION_CFG_TPL_UNITS : Fld := ⟨Reg.EXM_REGION_CFG, 6, 5⟩
def EXM_REGION_CFG_LB_UNITS : Fld := ⟨Reg.EXM_REGION_CFG, 11, 7⟩
def EXM_SECT_CFG_BASE_UNIT : Fld := ⟨Reg.EXM_SECT_CFG, 0, 9⟩
def EXM_SECT_CFG_SIZE_UNITS : Fld := ⟨Reg.EXM_SECT_CFG, 9, 9⟩
def EXM_SECT_CFG_WIDE : Fld := ⟨Reg.EXM_SECT_CFG, 18, 1⟩
def EXM_SECT_CFG_KEY_FMT : Fld := ⟨Reg.EXM_SECT_CFG, 19, 4⟩
def EXM_SECT_CFG_LEARNED_SECT : Fld := ⟨Reg.EXM_SECT_CFG, 23, 1⟩
def EXM_SECT_SEED_SEED0 : Fld := ⟨Reg.EXM_SECT_SEED, 0, 16⟩
def EXM_SECT_SEED_SEED1 : Fld := ⟨Reg.EXM_SECT_SEED, 16, 16⟩
def EXM_SECT_LIM_OVF_QUOTA : Fld := ⟨Reg.EXM_SECT_LIM, 0, 14⟩
def EXM_SECT_LIM_MAX_RELOC : Fld := ⟨Reg.EXM_SECT_LIM, 14, 4⟩
def EXM_SECT_LIM_FAULT_ACT : Fld := ⟨Reg.EXM_SECT_LIM, 18, 1⟩
def EXM_SECT_STATUS_ENTRIES : Fld := ⟨Reg.EXM_SECT_STATUS, 0, 19⟩
def EXM_SECT_MISS_RESULT : Fld := ⟨Reg.EXM_SECT_MISS, 0, 32⟩
def EXM_PROF_LK0_EN : Fld := ⟨Reg.EXM_PROF, 0, 1⟩
def EXM_PROF_LK0_LEVEL : Fld := ⟨Reg.EXM_PROF, 1, 1⟩
def EXM_PROF_LK0_SECT : Fld := ⟨Reg.EXM_PROF, 2, 4⟩
def EXM_PROF_LK0_SA : Fld := ⟨Reg.EXM_PROF, 6, 1⟩
def EXM_PROF_LK1_EN : Fld := ⟨Reg.EXM_PROF, 8, 1⟩
def EXM_PROF_LK1_LEVEL : Fld := ⟨Reg.EXM_PROF, 9, 1⟩
def EXM_PROF_LK1_SECT : Fld := ⟨Reg.EXM_PROF, 10, 4⟩
def EXM_PROF_LK1_SA : Fld := ⟨Reg.EXM_PROF, 14, 1⟩
def EXM_PROF_LPM_EN : Fld := ⟨Reg.EXM_PROF, 16, 1⟩
def EXM_PROF_LPM_LEVEL : Fld := ⟨Reg.EXM_PROF, 17, 1⟩
def EXM_PORT_VRF_VRF : Fld := ⟨Reg.EXM_PORT_VRF, 0, 8⟩
def EXM_PORT_VRF_VRF_PASS2 : Fld := ⟨Reg.EXM_PORT_VRF, 8, 8⟩
def LPM_CTRL_EN : Fld := ⟨Reg.LPM_CTRL, 0, 1⟩
def LPM_CTRL_QUIET : Fld := ⟨Reg.LPM_CTRL, 1, 1⟩
def LPM_CTRL_FAULT_ACT : Fld := ⟨Reg.LPM_CTRL, 2, 1⟩
def LPM_CTRL_MISS_ACT : Fld := ⟨Reg.LPM_CTRL, 3, 1⟩
def LPM_STATUS_UNITS_USED : Fld := ⟨Reg.LPM_STATUS, 0, 20⟩
def LPM_ROUTES4_COUNT : Fld := ⟨Reg.LPM_ROUTES4, 0, 20⟩
def LPM_ROUTES6_COUNT : Fld := ⟨Reg.LPM_ROUTES6, 0, 18⟩
def LRN_CTRL_EN : Fld := ⟨Reg.LRN_CTRL, 0, 1⟩
def LRN_CTRL_QUIET : Fld := ⟨Reg.LRN_CTRL, 1, 1⟩
def LRN_CTRL_SWEEP_EN : Fld := ⟨Reg.LRN_CTRL, 2, 1⟩
def LRN_CTRL_WALK_EN : Fld := ⟨Reg.LRN_CTRL, 3, 1⟩
def LRN_QUEUE_STATUS_DEPTH : Fld := ⟨Reg.LRN_QUEUE_STATUS, 0, 13⟩
def LRN_QUEUE_STATUS_FULL : Fld := ⟨Reg.LRN_QUEUE_STATUS, 13, 1⟩
def LRN_SWEEP_CFG_BASE_MS : Fld := ⟨Reg.LRN_SWEEP_CFG, 0, 14⟩
def LRN_MOVE_CFG_MOVE_LIMIT : Fld := ⟨Reg.LRN_MOVE_CFG, 0, 8⟩
def LRN_MOVE_CFG_HOLD_MS : Fld := ⟨Reg.LRN_MOVE_CFG, 8, 15⟩
def LRN_TICK_TICK : Fld := ⟨Reg.LRN_TICK, 0, 16⟩
def LRN_SWEEP_STATUS_PASS : Fld := ⟨Reg.LRN_SWEEP_STATUS, 0, 32⟩
def LRN_WALK_CFG_PERIOD_MS : Fld := ⟨Reg.LRN_WALK_CFG, 0, 14⟩
def LRN_SWEEP_CLASS_PERIOD : Fld := ⟨Reg.LRN_SWEEP_CLASS, 0, 16⟩
def LRN_SECT_CFG_LEARN_EN : Fld := ⟨Reg.LRN_SECT_CFG, 0, 1⟩
def LRN_SECT_CFG_SWEEP_CLASS : Fld := ⟨Reg.LRN_SECT_CFG, 1, 2⟩
def LRN_SECT_CFG_HOST_NOTIFY : Fld := ⟨Reg.LRN_SECT_CFG, 3, 1⟩
def LRN_SECT_CFG_MAX_ENTRIES : Fld := ⟨Reg.LRN_SECT_CFG, 4, 19⟩
def LRN_PROF_PROBE_EN : Fld := ⟨Reg.LRN_PROF, 0, 1⟩
def LRN_PROF_PROBE_SECT : Fld := ⟨Reg.LRN_PROF, 1, 4⟩
def LRN_PORT_CFG_LEARN_EN : Fld := ⟨Reg.LRN_PORT_CFG, 0, 1⟩
def LRN_PORT_CFG_FLUSH_ON_DOWN : Fld := ⟨Reg.LRN_PORT_CFG, 1, 1⟩
def LRN_PORT_CFG_MAX_ADDR : Fld := ⟨Reg.LRN_PORT_CFG, 2, 16⟩
def LRN_PORT_STATUS_LEARNED : Fld := ⟨Reg.LRN_PORT_STATUS, 0, 19⟩
def FLW_CTRL_EN : Fld := ⟨Reg.FLW_CTRL, 0, 1⟩
def FLW_CTRL_QUIET : Fld := ⟨Reg.FLW_CTRL, 1, 1⟩
def FLW_PARK_STATUS_OCCUPANCY : Fld := ⟨Reg.FLW_PARK_STATUS, 0, 13⟩
def FLW_PARK_STATUS_PEAK : Fld := ⟨Reg.FLW_PARK_STATUS, 13, 13⟩
def FLW_PARK_CFG_LIMIT0 : Fld := ⟨Reg.FLW_PARK_CFG, 0, 8⟩
def FLW_PARK_CFG_LIMIT1 : Fld := ⟨Reg.FLW_PARK_CFG, 8, 8⟩
def FLW_PARK_CFG_LIMIT2 : Fld := ⟨Reg.FLW_PARK_CFG, 16, 8⟩
def FLW_PARK_TIME_PARK_TIMEOUT : Fld := ⟨Reg.FLW_PARK_TIME, 0, 10⟩
def FLW_HASH_CFG_SEED : Fld := ⟨Reg.FLW_HASH_CFG, 0, 16⟩
def FLW_WHEY_CFG_WB_AGE_MS : Fld := ⟨Reg.FLW_WHEY_CFG, 0, 10⟩
def FLW_EXPIRY_CFG_PERIOD_S : Fld := ⟨Reg.FLW_EXPIRY_CFG, 0, 10⟩
def FLW_EXPIRY_CFG_WALK_EN : Fld := ⟨Reg.FLW_EXPIRY_CFG, 10, 1⟩
def FLW_CLASS_CFG_EN : Fld := ⟨Reg.FLW_CLASS_CFG, 0, 1⟩
def FLW_CLASS_CFG_KEY_FMT : Fld := ⟨Reg.FLW_CLASS_CFG, 1, 2⟩
def FLW_CLASS_CFG_LEVEL : Fld := ⟨Reg.FLW_CLASS_CFG, 3, 1⟩
def FLW_CLASS_CFG_SYMMETRIC : Fld := ⟨Reg.FLW_CLASS_CFG, 4, 1⟩
def FLW_CLASS_CFG_MIRROR : Fld := ⟨Reg.FLW_CLASS_CFG, 5, 1⟩
def FLW_CLASS_ADM_PRIO : Fld := ⟨Reg.FLW_CLASS_ADM, 0, 2⟩
def FLW_CLASS_ADM_MISS_ACT : Fld := ⟨Reg.FLW_CLASS_ADM, 2, 2⟩
def FLW_CLASS_ADM_SETUP_ACT : Fld := ⟨Reg.FLW_CLASS_ADM, 4, 2⟩
def FLW_CLASS_TIME_IDLE_S : Fld := ⟨Reg.FLW_CLASS_TIME, 0, 16⟩
def FLW_CLASS_TIME_CLOSE_S : Fld := ⟨Reg.FLW_CLASS_TIME, 16, 16⟩
def FLW_SLICE_CTRL_EN : Fld := ⟨Reg.FLW_SLICE_CTRL, 0, 1⟩
def FLW_SLICE_CTRL_QUIET : Fld := ⟨Reg.FLW_SLICE_CTRL, 1, 1⟩
def FLW_SLICE_CTRL_FLUSH : Fld := ⟨Reg.FLW_SLICE_CTRL, 2, 1⟩
def FLW_SLICE_CTRL_FLUSH_BUSY : Fld := ⟨Reg.FLW_SLICE_CTRL, 3, 1⟩
def FLW_SLICE_STATUS_RESIDENT : Fld := ⟨Reg.FLW_SLICE_STATUS, 0, 17⟩
def FLW_SLICE_STATUS_WHEY_FILL : Fld := ⟨Reg.FLW_SLICE_STATUS, 17, 10⟩
def FLW_SLICE_STATUS_LOCKED : Fld := ⟨Reg.FLW_SLICE_STATUS, 27, 5⟩
def FLW_SLICE_RECORDS_RECORDS : Fld := ⟨Reg.FLW_SLICE_RECORDS, 0, 25⟩
def FLW_SVC_CFG_ROLE : Fld := ⟨Reg.FLW_SVC_CFG, 0, 3⟩
def FLW_SVC_CFG_CREATE : Fld := ⟨Reg.FLW_SVC_CFG, 3, 2⟩
def FLW_SVC_CFG_SYN_ONLY : Fld := ⟨Reg.FLW_SVC_CFG, 5, 1⟩
def FLW_SVC_CFG_TCP_TRACK : Fld := ⟨Reg.FLW_SVC_CFG, 6, 1⟩
def FLW_SVC_CFG_INVALID_ACT : Fld := ⟨Reg.FLW_SVC_CFG, 7, 1⟩
def FLW_SVC_CFG_LB_EN : Fld := ⟨Reg.FLW_SVC_CFG, 8, 1⟩
def FLW_SVC_CFG_POOL : Fld := ⟨Reg.FLW_SVC_CFG, 9, 2⟩
def FLW_SVC_CFG_LINK_CLASS : Fld := ⟨Reg.FLW_SVC_CFG, 11, 4⟩
def FLW_SVC_CFG_SUB_CLASS : Fld := ⟨Reg.FLW_SVC_CFG, 15, 4⟩
def FLW_SVC_CFG_INBOUND_REFRESH : Fld := ⟨Reg.FLW_SVC_CFG, 19, 1⟩
def FLW_SVC_CFG_EXPORT : Fld := ⟨Reg.FLW_SVC_CFG, 20, 1⟩
def FLW_SVC_CFG_COLLECTORS : Fld := ⟨Reg.FLW_SVC_CFG, 21, 4⟩
def FLW_SVC_CFG_NOTIFY_END : Fld := ⟨Reg.FLW_SVC_CFG, 25, 1⟩
def FLW_SVC_CFG_FRAG_ACT : Fld := ⟨Reg.FLW_SVC_CFG, 26, 1⟩
def FLW_SETUP_LIMIT_RATE : Fld := ⟨Reg.FLW_SETUP_LIMIT, 0, 16⟩
def FLW_SETUP_LIMIT_BURST : Fld := ⟨Reg.FLW_SETUP_LIMIT, 16, 16⟩
def FLW_ACTIVE_TIME_ACTIVE_S : Fld := ⟨Reg.FLW_ACTIVE_TIME, 0, 12⟩
def FLW_NAT_POOL_ADDR_BASE : Fld := ⟨Reg.FLW_NAT_POOL_ADDR, 0, 32⟩
def FLW_NAT_POOL_CFG_ADDR_COUNT : Fld := ⟨Reg.FLW_NAT_POOL_CFG, 0, 11⟩
def FLW_NAT_POOL_CFG_BLOCK : Fld := ⟨Reg.FLW_NAT_POOL_CFG, 11, 3⟩
def FLW_NAT_POOL_CFG_MAX_BLOCKS : Fld := ⟨Reg.FLW_NAT_POOL_CFG, 14, 4⟩
def FLW_NAT_POOL_CFG_VRF : Fld := ⟨Reg.FLW_NAT_POOL_CFG, 18, 8⟩
def FLW_NAT64_PFX_PREFIX : Fld := ⟨Reg.FLW_NAT64_PFX, 0, 32⟩
def FLW_PORT_ZONE_INSIDE : Fld := ⟨Reg.FLW_PORT_ZONE, 0, 1⟩
def FLW_IPFIX_CFG_EN : Fld := ⟨Reg.FLW_IPFIX_CFG, 0, 1⟩
def FLW_IPFIX_CFG_TEMPLATE_S : Fld := ⟨Reg.FLW_IPFIX_CFG, 1, 12⟩
def FLW_IPFIX_CFG_MSG_LEN : Fld := ⟨Reg.FLW_IPFIX_CFG, 13, 14⟩
def FLW_IPFIX_DOMAIN_DOMAIN_ID : Fld := ⟨Reg.FLW_IPFIX_DOMAIN, 0, 32⟩
def FLW_IPFIX_COLL_EN : Fld := ⟨Reg.FLW_IPFIX_COLL, 0, 1⟩
def FLW_IPFIX_COLL_V6 : Fld := ⟨Reg.FLW_IPFIX_COLL, 1, 1⟩
def FLW_IPFIX_COLL_UDP_PORT : Fld := ⟨Reg.FLW_IPFIX_COLL, 2, 16⟩
def FLW_IPFIX_COLL_ADDR_ADDR : Fld := ⟨Reg.FLW_IPFIX_COLL_ADDR, 0, 32⟩
def FLW_IPFIX_SRC_ADDR : Fld := ⟨Reg.FLW_IPFIX_SRC, 0, 32⟩
def FLW_IPFIX_STATUS_QUEUE_FILL : Fld := ⟨Reg.FLW_IPFIX_STATUS, 0, 17⟩
def UPS_CTRL_EN : Fld := ⟨Reg.UPS_CTRL, 0, 1⟩
def UPS_CTRL_QUIET : Fld := ⟨Reg.UPS_CTRL, 1, 1⟩
def UPS_CFG_MIRROR : Fld := ⟨Reg.UPS_CFG, 0, 1⟩
def UPS_CFG_PRIO : Fld := ⟨Reg.UPS_CFG, 1, 2⟩
def UPS_CFG_MISS_ACT : Fld := ⟨Reg.UPS_CFG, 3, 2⟩
def UPS_CFG_DL_MISS_ACT : Fld := ⟨Reg.UPS_CFG, 5, 2⟩
def UPS_CFG_FRAG_ACT : Fld := ⟨Reg.UPS_CFG, 7, 1⟩
def UPS_CFG_ERRIND_EN : Fld := ⟨Reg.UPS_CFG, 8, 1⟩
def UPS_CFG_DL4_CLASS : Fld := ⟨Reg.UPS_CFG, 9, 4⟩
def UPS_CFG_DL6_CLASS : Fld := ⟨Reg.UPS_CFG, 13, 4⟩
def UPS_CFG_EM_CLASS : Fld := ⟨Reg.UPS_CFG, 17, 4⟩
def UPS_TEID_CFG_PREFIX : Fld := ⟨Reg.UPS_TEID_CFG, 0, 6⟩
def UPS_N3_ADDR_ADDR : Fld := ⟨Reg.UPS_N3_ADDR, 0, 32⟩
def UPS_N3_CFG_EN : Fld := ⟨Reg.UPS_N3_CFG, 0, 1⟩
def UPS_N3_CFG_V6 : Fld := ⟨Reg.UPS_N3_CFG, 1, 1⟩
def UPS_BUF_CFG_SIZE_MIB : Fld := ⟨Reg.UPS_BUF_CFG, 0, 11⟩
def UPS_EM_CFG_EM_DELAY : Fld := ⟨Reg.UPS_EM_CFG, 0, 10⟩
def UPS_RATE_CFG_ECHO_RATE : Fld := ⟨Reg.UPS_RATE_CFG, 0, 16⟩
def UPS_RATE_CFG_ERRIND_RATE : Fld := ⟨Reg.UPS_RATE_CFG, 16, 16⟩
def UPS_STATUS_SESSIONS : Fld := ⟨Reg.UPS_STATUS, 0, 23⟩
def UPS_BUF_STATUS_UNITS_USED : Fld := ⟨Reg.UPS_BUF_STATUS, 0, 20⟩
def UPS_PROF_UL_EN : Fld := ⟨Reg.UPS_PROF, 0, 1⟩
def UPS_PROF_DL_EN : Fld := ⟨Reg.UPS_PROF, 1, 1⟩
def EDT_CTRL_EN : Fld := ⟨Reg.EDT_CTRL, 0, 1⟩
def EDT_CTRL_QUIET : Fld := ⟨Reg.EDT_CTRL, 1, 1⟩
def EDT_CFG_TTL_ACT : Fld := ⟨Reg.EDT_CFG, 0, 1⟩
def EDT_BW_STATUS_DEPTH : Fld := ⟨Reg.EDT_BW_STATUS, 0, 11⟩
def EDT_MTU_MTU : Fld := ⟨Reg.EDT_MTU, 0, 14⟩
def EDT_MTU_MTU_ACT : Fld := ⟨Reg.EDT_MTU, 14, 1⟩
def EDT_SMAC_LO_ADDR : Fld := ⟨Reg.EDT_SMAC_LO, 0, 32⟩
def EDT_SMAC_HI_ADDR : Fld := ⟨Reg.EDT_SMAC_HI, 0, 16⟩
def EDT_MIRROR_CFG_EN : Fld := ⟨Reg.EDT_MIRROR_CFG, 0, 1⟩
def EDT_MIRROR_CFG_DEST : Fld := ⟨Reg.EDT_MIRROR_CFG, 1, 7⟩
def EDT_MIRROR_CFG_POINT : Fld := ⟨Reg.EDT_MIRROR_CFG, 8, 1⟩
def EDT_MIRROR_CFG_TRUNC : Fld := ⟨Reg.EDT_MIRROR_CFG, 9, 3⟩
def EDT_MIRROR_CFG_CLASS : Fld := ⟨Reg.EDT_MIRROR_CFG, 12, 4⟩
def EDT_MIRROR_CFG_RING : Fld := ⟨Reg.EDT_MIRROR_CFG, 16, 4⟩
def EDT_MIRROR_RATE_RATE : Fld := ⟨Reg.EDT_MIRROR_RATE, 0, 24⟩
def EDT_MIRROR_NH_NH : Fld := ⟨Reg.EDT_MIRROR_NH, 0, 16⟩
def EDT_MIRROR_NH_NH_EN : Fld := ⟨Reg.EDT_MIRROR_NH, 16, 1⟩
def EDT_CAP_RING_CFG_BASE : Fld := ⟨Reg.EDT_CAP_RING_CFG, 0, 11⟩
def EDT_CAP_RING_CFG_COUNT_K : Fld := ⟨Reg.EDT_CAP_RING_CFG, 11, 15⟩
def EDT_CAP_RING_CFG_CAP_LEN : Fld := ⟨Reg.EDT_CAP_RING_CFG, 26, 2⟩
def EDT_CAP_RING_CTRL_EN : Fld := ⟨Reg.EDT_CAP_RING_CTRL, 0, 1⟩
def EDT_CAP_RING_CTRL_MODE : Fld := ⟨Reg.EDT_CAP_RING_CTRL, 1, 1⟩
def EDT_CAP_RING_CTRL_READER : Fld := ⟨Reg.EDT_CAP_RING_CTRL, 2, 1⟩
def EDT_CAP_WR_WR : Fld := ⟨Reg.EDT_CAP_WR, 0, 32⟩
def EDT_CAP_RD_RD : Fld := ⟨Reg.EDT_CAP_RD, 0, 32⟩
def BPM_CTRL_EN : Fld := ⟨Reg.BPM_CTRL, 0, 1⟩
def BPM_CTRL_QUIET : Fld := ⟨Reg.BPM_CTRL, 1, 1⟩
def BPM_CTRL_RECLAIM_BUSY : Fld := ⟨Reg.BPM_CTRL, 2, 1⟩
def BPM_POOL_CFG_N2K : Fld := ⟨Reg.BPM_POOL_CFG, 0, 14⟩
def BPM_POOL_CFG_N16K : Fld := ⟨Reg.BPM_POOL_CFG, 14, 11⟩
def BPM_GLOBAL_MARK_MARK : Fld := ⟨Reg.BPM_GLOBAL_MARK, 0, 17⟩
def BPM_SPILL_CFG_STAGE_AGE_US : Fld := ⟨Reg.BPM_SPILL_CFG, 0, 4⟩
def BPM_SPILL_CFG_SPILL_QUOTA : Fld := ⟨Reg.BPM_SPILL_CFG, 4, 22⟩
def BPM_SPILL_STATUS_CHUNKS_USED : Fld := ⟨Reg.BPM_SPILL_STATUS, 0, 22⟩
def BPM_CHUNK_STATUS_FREE_CHUNKS : Fld := ⟨Reg.BPM_CHUNK_STATUS, 0, 22⟩
def BPM_CHUNK_STATUS_LOW : Fld := ⟨Reg.BPM_CHUNK_STATUS, 22, 1⟩
def BPM_POOL_STATUS_FREE : Fld := ⟨Reg.BPM_POOL_STATUS, 0, 17⟩
def BPM_REJECT_INFO_ID : Fld := ⟨Reg.BPM_REJECT_INFO, 0, 22⟩
def BPM_REJECT_INFO_CHUNK : Fld := ⟨Reg.BPM_REJECT_INFO, 22, 1⟩
def BPM_REJECT_INFO_REQ : Fld := ⟨Reg.BPM_REJECT_INFO, 23, 3⟩
def BPM_REJECT_INFO_OP : Fld := ⟨Reg.BPM_REJECT_INFO, 26, 3⟩
def BPM_REJECT_INFO_VALID : Fld := ⟨Reg.BPM_REJECT_INFO, 31, 1⟩
def BPM_REQ_QUOTA_QUOTA : Fld := ⟨Reg.BPM_REQ_QUOTA, 0, 17⟩
def BPM_REQ_USED_USED : Fld := ⟨Reg.BPM_REQ_USED, 0, 17⟩
def BPM_TIDE_MARK_TIDE_MARK : Fld := ⟨Reg.BPM_TIDE_MARK, 0, 17⟩
def BPM_TIDE_MARK_SPILL_EN : Fld := ⟨Reg.BPM_TIDE_MARK, 17, 1⟩
def BPM_FETCH_MARK_FETCH_MARK : Fld := ⟨Reg.BPM_FETCH_MARK, 0, 17⟩
def BPM_DROP_LIMIT_DROP_LIMIT : Fld := ⟨Reg.BPM_DROP_LIMIT, 0, 28⟩
def BPM_PORT_XOFF_XOFF_MARK : Fld := ⟨Reg.BPM_PORT_XOFF, 0, 16⟩
def BPM_PORT_XOFF_XON_MARK : Fld := ⟨Reg.BPM_PORT_XOFF, 16, 16⟩
def QUE_QCFG_EN : Fld := ⟨Reg.QUE_QCFG, 0, 1⟩
def QUE_QCFG_PORT_IDX : Fld := ⟨Reg.QUE_QCFG, 1, 5⟩
def QUE_QCFG_CLASS : Fld := ⟨Reg.QUE_QCFG, 6, 4⟩
def QUE_QCFG_TIDE_PROF : Fld := ⟨Reg.QUE_QCFG, 10, 5⟩
def QUE_CTRL_EN : Fld := ⟨Reg.QUE_CTRL, 0, 1⟩
def QUE_CTRL_QUIET : Fld := ⟨Reg.QUE_CTRL, 1, 1⟩
def QUE_CFG_BACKSTOP_US : Fld := ⟨Reg.QUE_CFG, 0, 10⟩
def QUE_CFG_DRAIN_MS : Fld := ⟨Reg.QUE_CFG, 10, 10⟩
def QUE_QSEL_QUEUE : Fld := ⟨Reg.QUE_QSEL, 0, 16⟩
def QUE_QSTATUS_OCCUPANCY : Fld := ⟨Reg.QUE_QSTATUS, 0, 28⟩
def QUE_QSTATUS_SPILLING : Fld := ⟨Reg.QUE_QSTATUS, 28, 1⟩
def QUE_QSTATUS_WAIT : Fld := ⟨Reg.QUE_QSTATUS, 29, 1⟩
def QUE_QSTATUS_HELD : Fld := ⟨Reg.QUE_QSTATUS, 30, 1⟩
def QUE_QSTATUS_DRAINING : Fld := ⟨Reg.QUE_QSTATUS, 31, 1⟩
def QUE_QPKTS_PACKETS : Fld := ⟨Reg.QUE_QPKTS, 0, 24⟩
def QUE_QREDIR_TARGET : Fld := ⟨Reg.QUE_QREDIR, 0, 16⟩
def QUE_QREDIR_VALID : Fld := ⟨Reg.QUE_QREDIR, 16, 1⟩
def QUE_RSQ_STATUS_HELD : Fld := ⟨Reg.QUE_RSQ_STATUS, 0, 15⟩
def QUE_PORT_CFG_TAG_EN : Fld := ⟨Reg.QUE_PORT_CFG, 0, 1⟩
def QUE_PORT_CFG_HOLD_MS : Fld := ⟨Reg.QUE_PORT_CFG, 1, 7⟩
def QUE_PORT_STATUS_STATE : Fld := ⟨Reg.QUE_PORT_STATUS, 0, 2⟩
def SCH_CTRL_EN : Fld := ⟨Reg.SCH_CTRL, 0, 1⟩
def SCH_CFG_MODE : Fld := ⟨Reg.SCH_CFG, 0, 1⟩
def SCH_CFG_STARVE_MS : Fld := ⟨Reg.SCH_CFG, 1, 10⟩
def SCH_ESEL_LEVEL : Fld := ⟨Reg.SCH_ESEL, 0, 3⟩
def SCH_ESEL_INDEX : Fld := ⟨Reg.SCH_ESEL, 3, 16⟩
def SCH_ECFG_EN : Fld := ⟨Reg.SCH_ECFG, 0, 1⟩
def SCH_ECFG_PARENT_LEVEL : Fld := ⟨Reg.SCH_ECFG, 1, 3⟩
def SCH_ECFG_PARENT : Fld := ⟨Reg.SCH_ECFG, 4, 16⟩
def SCH_ECFG_PRIO : Fld := ⟨Reg.SCH_ECFG, 20, 3⟩
def SCH_EWEIGHT_WEIGHT : Fld := ⟨Reg.SCH_EWEIGHT, 0, 10⟩
def SCH_EWEIGHT_SHAPE_EN : Fld := ⟨Reg.SCH_EWEIGHT, 10, 1⟩
def SCH_EWEIGHT_FILL : Fld := ⟨Reg.SCH_EWEIGHT, 11, 1⟩
def SCH_ERATE_RATE : Fld := ⟨Reg.SCH_ERATE, 0, 32⟩
def SCH_EBURST_BURST : Fld := ⟨Reg.SCH_EBURST, 0, 24⟩
def SCH_ECMD_WRITE : Fld := ⟨Reg.SCH_ECMD, 0, 1⟩
def SCH_ECMD_READ : Fld := ⟨Reg.SCH_ECMD, 1, 1⟩
def SCH_ECMD_BUSY : Fld := ⟨Reg.SCH_ECMD, 2, 1⟩
def SCH_ESTATUS_CREDIT : Fld := ⟨Reg.SCH_ESTATUS, 0, 25⟩
def SCH_ESTATUS_ELIGIBLE : Fld := ⟨Reg.SCH_ESTATUS, 25, 1⟩
def SCH_ESTATUS_BACKLOGGED : Fld := ⟨Reg.SCH_ESTATUS, 26, 1⟩
def SCH_EVTIME_VTIME : Fld := ⟨Reg.SCH_EVTIME, 0, 32⟩
def SCH_PORT_CFG_LEN_ADJ : Fld := ⟨Reg.SCH_PORT_CFG, 0, 7⟩
def SCH_PORT_CFG_CTRL_EN : Fld := ⟨Reg.SCH_PORT_CFG, 7, 1⟩
def SCH_PORT_CFG_CTRL_CLASS : Fld := ⟨Reg.SCH_PORT_CFG, 8, 4⟩
def SCH_PORT_CFG_CTRL_PCT : Fld := ⟨Reg.SCH_PORT_CFG, 12, 5⟩
def SCH_POL_SEL_INDEX : Fld := ⟨Reg.SCH_POL_SEL, 0, 13⟩
def SCH_POL_CFG_MODE : Fld := ⟨Reg.SCH_POL_CFG, 0, 2⟩
def SCH_POL_CFG_FILL : Fld := ⟨Reg.SCH_POL_CFG, 2, 1⟩
def SCH_POL_CFG_GREEN_ACT : Fld := ⟨Reg.SCH_POL_CFG, 3, 2⟩
def SCH_POL_CFG_YELLOW_ACT : Fld := ⟨Reg.SCH_POL_CFG, 5, 2⟩
def SCH_POL_CFG_RED_ACT : Fld := ⟨Reg.SCH_POL_CFG, 7, 2⟩
def SCH_POL_CFG_GREEN_VAL : Fld := ⟨Reg.SCH_POL_CFG, 9, 6⟩
def SCH_POL_CFG_YELLOW_VAL : Fld := ⟨Reg.SCH_POL_CFG, 15, 6⟩
def SCH_POL_CFG_RED_VAL : Fld := ⟨Reg.SCH_POL_CFG, 21, 6⟩
def SCH_POL_CIR_CIR : Fld := ⟨Reg.SCH_POL_CIR, 0, 32⟩
def SCH_POL_PIR_PIR : Fld := ⟨Reg.SCH_POL_PIR, 0, 32⟩
def SCH_POL_CBS_CBS : Fld := ⟨Reg.SCH_POL_CBS, 0, 28⟩
def SCH_POL_EBS_EBS : Fld := ⟨Reg.SCH_POL_EBS, 0, 28⟩
def SCH_POL_CMD_WRITE : Fld := ⟨Reg.SCH_POL_CMD, 0, 1⟩
def SCH_POL_CMD_READ : Fld := ⟨Reg.SCH_POL_CMD, 1, 1⟩
def SCH_POL_CMD_BUSY : Fld := ⟨Reg.SCH_POL_CMD, 2, 1⟩
def SCH_POL_TC_TC : Fld := ⟨Reg.SCH_POL_TC, 0, 28⟩
def SCH_POL_TP_TP : Fld := ⟨Reg.SCH_POL_TP, 0, 28⟩
def LHT_CTRL_TIME_EN : Fld := ⟨Reg.LHT_CTRL, 0, 1⟩
def LHT_CTRL_SYNCE_EN : Fld := ⟨Reg.LHT_CTRL, 1, 1⟩
def LHT_CTRL_RADIO_EN : Fld := ⟨Reg.LHT_CTRL, 2, 1⟩
def LHT_CTRL_HYBRID : Fld := ⟨Reg.LHT_CTRL, 3, 1⟩
def LHT_CTRL_REVERTIVE : Fld := ⟨Reg.LHT_CTRL, 4, 1⟩
def LHT_KEEP_EN : Fld := ⟨Reg.LHT_KEEP, 0, 1⟩
def LHT_STATUS_TIME_STATE : Fld := ⟨Reg.LHT_STATUS, 0, 2⟩
def LHT_STATUS_SYNCE_STATE : Fld := ⟨Reg.LHT_STATUS, 2, 2⟩
def LHT_STATUS_TIME_VALID : Fld := ⟨Reg.LHT_STATUS, 4, 1⟩
def LHT_STATUS_MODEL_VALID : Fld := ⟨Reg.LHT_STATUS, 5, 1⟩
def LHT_STATUS_TIME_REF : Fld := ⟨Reg.LHT_STATUS, 6, 4⟩
def LHT_STATUS_SYNCE_REF : Fld := ⟨Reg.LHT_STATUS, 10, 4⟩
def LHT_STATUS_OSC_FALLBACK : Fld := ⟨Reg.LHT_STATUS, 14, 1⟩
def LHT_STATUS_TEMP_FAULT : Fld := ⟨Reg.LHT_STATUS, 15, 1⟩
def LHT_STATUS_RADIO_LOCKED : Fld := ⟨Reg.LHT_STATUS, 16, 1⟩
def LHT_TU_TU : Fld := ⟨Reg.LHT_TU, 0, 32⟩
def LHT_HOLD_TIME_SECONDS : Fld := ⟨Reg.LHT_HOLD_TIME, 0, 32⟩
def LHT_TOD_CMD_SNAP : Fld := ⟨Reg.LHT_TOD_CMD, 0, 1⟩
def LHT_TOD_CMD_SET : Fld := ⟨Reg.LHT_TOD_CMD, 1, 1⟩
def LHT_TOD_CMD_BUSY : Fld := ⟨Reg.LHT_TOD_CMD, 2, 1⟩
def LHT_TOD_SEC_HI_SEC : Fld := ⟨Reg.LHT_TOD_SEC_HI, 0, 16⟩
def LHT_TOD_SEC_LO_SEC : Fld := ⟨Reg.LHT_TOD_SEC_LO, 0, 32⟩
def LHT_TOD_NS_NS : Fld := ⟨Reg.LHT_TOD_NS, 0, 30⟩
def LHT_TOD_SUBNS_SUBNS : Fld := ⟨Reg.LHT_TOD_SUBNS, 0, 16⟩
def LHT_UTC_OFFSET : Fld := ⟨Reg.LHT_UTC, 0, 16⟩
def LHT_UTC_LEAP61 : Fld := ⟨Reg.LHT_UTC, 16, 1⟩
def LHT_UTC_LEAP59 : Fld := ⟨Reg.LHT_UTC, 17, 1⟩
def LHT_UTC_VALID : Fld := ⟨Reg.LHT_UTC, 18, 1⟩
def LHT_TIME_CFG_BW : Fld := ⟨Reg.LHT_TIME_CFG, 0, 4⟩
def LHT_TIME_CFG_LOCK_NS : Fld := ⟨Reg.LHT_TIME_CFG, 4, 10⟩
def LHT_TIME_CFG_LOCK_S : Fld := ⟨Reg.LHT_TIME_CFG, 14, 6⟩
def LHT_TIME_CFG_SLEW : Fld := ⟨Reg.LHT_TIME_CFG, 20, 12⟩
def LHT_STEP_CFG_STEP_US : Fld := ⟨Reg.LHT_STEP_CFG, 0, 20⟩
def LHT_HOLD_CFG_FREERUN_TU_US : Fld := ⟨Reg.LHT_HOLD_CFG, 0, 16⟩
def LHT_HOLD_CFG_HYB_RATE_PPT : Fld := ⟨Reg.LHT_HOLD_CFG, 16, 16⟩
def LHT_SYNCE_CFG_BW : Fld := ⟨Reg.LHT_SYNCE_CFG, 0, 2⟩
def LHT_SYNCE_OCTETS_MASK : Fld := ⟨Reg.LHT_SYNCE_OCTETS, 0, 12⟩
def LHT_RADIO_CFG_RADIO_HZ : Fld := ⟨Reg.LHT_RADIO_CFG, 0, 27⟩
def LHT_OSC_CFG_FREQ : Fld := ⟨Reg.LHT_OSC_CFG, 0, 3⟩
def LHT_TEMP_CFG_OFFSET : Fld := ⟨Reg.LHT_TEMP_CFG, 0, 16⟩
def LHT_TEMP_CFG_GAIN : Fld := ⟨Reg.LHT_TEMP_CFG, 16, 16⟩
def LHT_TEMP_TEMP : Fld := ⟨Reg.LHT_TEMP, 0, 16⟩
def LHT_MODEL_CFG_LEARN_MIN_H : Fld := ⟨Reg.LHT_MODEL_CFG, 0, 8⟩
def LHT_MODEL_CFG_RETRACE_PPT : Fld := ⟨Reg.LHT_MODEL_CFG, 8, 8⟩
def LHT_MODEL_CFG_FAULT_DT : Fld := ⟨Reg.LHT_MODEL_CFG, 16, 7⟩
def LHT_MODEL_Y0_Y0 : Fld := ⟨Reg.LHT_MODEL_Y0, 0, 32⟩
def LHT_MODEL_D_D : Fld := ⟨Reg.LHT_MODEL_D, 0, 32⟩
def LHT_MODEL_KT_K : Fld := ⟨Reg.LHT_MODEL_KT, 0, 16⟩
def LHT_MODEL_KT_T_L : Fld := ⟨Reg.LHT_MODEL_KT, 16, 16⟩
def LHT_MODEL_U0_U_F : Fld := ⟨Reg.LHT_MODEL_U0, 0, 16⟩
def LHT_MODEL_U0_U_D : Fld := ⟨Reg.LHT_MODEL_U0, 16, 16⟩
def LHT_MODEL_U1_U_T : Fld := ⟨Reg.LHT_MODEL_U1, 0, 16⟩
def LHT_MODEL_U1_LEARN_H : Fld := ⟨Reg.LHT_MODEL_U1, 16, 16⟩
def LHT_WTR_WTR_S : Fld := ⟨Reg.LHT_WTR, 0, 12⟩
def LHT_PTP_CFG_LOSS_S : Fld := ⟨Reg.LHT_PTP_CFG, 0, 6⟩
def LHT_REF_CFG_PRIO : Fld := ⟨Reg.LHT_REF_CFG, 0, 4⟩
def LHT_REF_CFG_ACCURACY_NS : Fld := ⟨Reg.LHT_REF_CFG, 4, 10⟩
def LHT_REF_CFG_QUAL_S : Fld := ⟨Reg.LHT_REF_CFG, 14, 8⟩
def LHT_REF_CFG_JUMP : Fld := ⟨Reg.LHT_REF_CFG, 22, 8⟩
def LHT_REF_FREQ_NOM_KHZ : Fld := ⟨Reg.LHT_REF_FREQ, 0, 18⟩
def LHT_REF_FREQ_WIN : Fld := ⟨Reg.LHT_REF_FREQ, 18, 10⟩
def LHT_SYNCE_SRC_PORT : Fld := ⟨Reg.LHT_SYNCE_SRC, 0, 7⟩
def LHT_SYNCE_SRC_EN : Fld := ⟨Reg.LHT_SYNCE_SRC, 7, 1⟩
def LHT_REF_STATUS_PRESENT : Fld := ⟨Reg.LHT_REF_STATUS, 0, 1⟩
def LHT_REF_STATUS_QUALIFIED : Fld := ⟨Reg.LHT_REF_STATUS, 1, 1⟩
def LHT_REF_STATUS_FREQ_FAULT : Fld := ⟨Reg.LHT_REF_STATUS, 2, 1⟩
def LHT_REF_STATUS_PHASE_JUMP : Fld := ⟨Reg.LHT_REF_STATUS, 3, 1⟩
def LHT_REF_STATUS_LOST : Fld := ⟨Reg.LHT_REF_STATUS, 4, 1⟩
def LHT_REF_STATUS_OFFSET : Fld := ⟨Reg.LHT_REF_STATUS, 8, 24⟩
def LHT_PPS_IN_ADJ_ADJ_PS : Fld := ⟨Reg.LHT_PPS_IN_ADJ, 0, 32⟩
def LHT_PPS_IN_CFG_EDGE0 : Fld := ⟨Reg.LHT_PPS_IN_CFG, 0, 1⟩
def LHT_PPS_IN_CFG_EDGE1 : Fld := ⟨Reg.LHT_PPS_IN_CFG, 1, 1⟩
def LHT_PPS_OUT_CFG_EN : Fld := ⟨Reg.LHT_PPS_OUT_CFG, 0, 1⟩
def LHT_PPS_OUT_CFG_MODE : Fld := ⟨Reg.LHT_PPS_OUT_CFG, 1, 1⟩
def LHT_PPS_OUT_CFG_WIDTH_US : Fld := ⟨Reg.LHT_PPS_OUT_CFG, 2, 20⟩
def LHT_PPS_OUT_ADJ_ADJ_PS : Fld := ⟨Reg.LHT_PPS_OUT_ADJ, 0, 32⟩
def LHT_TOD_CFG_RX_EN : Fld := ⟨Reg.LHT_TOD_CFG, 0, 1⟩
def LHT_TOD_CFG_TX_EN : Fld := ⟨Reg.LHT_TOD_CFG, 1, 1⟩
def LHT_TOD_CFG_BAUD : Fld := ⟨Reg.LHT_TOD_CFG, 2, 1⟩
def LHT_TOD_CFG_RX_PPS : Fld := ⟨Reg.LHT_TOD_CFG, 3, 1⟩
def LHT_TOD_CFG_TX_DELAY_MS : Fld := ⟨Reg.LHT_TOD_CFG, 4, 9⟩
def PTP_CTRL_EN : Fld := ⟨Reg.PTP_CTRL, 0, 1⟩
def PTP_CTRL_ESMC_EN : Fld := ⟨Reg.PTP_CTRL, 1, 1⟩
def PTP_CLK_CFG_TYPE : Fld := ⟨Reg.PTP_CLK_CFG, 0, 2⟩
def PTP_CLK_CFG_PROFILE : Fld := ⟨Reg.PTP_CLK_CFG, 2, 1⟩
def PTP_CLK_CFG_DOMAIN : Fld := ⟨Reg.PTP_CLK_CFG, 3, 8⟩
def PTP_CLK_CFG_PRIORITY2 : Fld := ⟨Reg.PTP_CLK_CFG, 11, 8⟩
def PTP_CLK_CFG_LOCAL_PRIO : Fld := ⟨Reg.PTP_CLK_CFG, 19, 8⟩
def PTP_CLK_CFG_PPS_PRTC : Fld := ⟨Reg.PTP_CLK_CFG, 27, 1⟩
def PTP_CLK_CFG_PATH_MAX_US : Fld := ⟨Reg.PTP_CLK_CFG, 28, 4⟩
def PTP_CLK_ID_LO_ID : Fld := ⟨Reg.PTP_CLK_ID_LO, 0, 32⟩
def PTP_CLK_ID_HI_ID : Fld := ⟨Reg.PTP_CLK_ID_HI, 0, 32⟩
def PTP_CLASS_CFG_SPEC_NS : Fld := ⟨Reg.PTP_CLASS_CFG, 0, 16⟩
def PTP_CLASS_CFG_OOS_CLASS : Fld := ⟨Reg.PTP_CLASS_CFG, 16, 8⟩
def PTP_CLASS_CFG_HOP_NS : Fld := ⟨Reg.PTP_CLASS_CFG, 24, 8⟩
def PTP_STATUS_CLOCK_CLASS : Fld := ⟨Reg.PTP_STATUS, 0, 8⟩
def PTP_STATUS_CLOCK_ACCURACY : Fld := ⟨Reg.PTP_STATUS, 8, 8⟩
def PTP_STATUS_SLAVE_PORT : Fld := ⟨Reg.PTP_STATUS, 16, 7⟩
def PTP_STATUS_PARENT_VALID : Fld := ⟨Reg.PTP_STATUS, 23, 1⟩
def PTP_STATUS_STEPS_REMOVED : Fld := ⟨Reg.PTP_STATUS, 24, 8⟩
def PTP_PARENT_LO_ID : Fld := ⟨Reg.PTP_PARENT_LO, 0, 32⟩
def PTP_PARENT_HI_ID : Fld := ⟨Reg.PTP_PARENT_HI, 0, 32⟩
def PTP_GM_INFO_GM_CLASS : Fld := ⟨Reg.PTP_GM_INFO, 0, 8⟩
def PTP_GM_INFO_GM_ACCURACY : Fld := ⟨Reg.PTP_GM_INFO, 8, 8⟩
def PTP_GM_INFO_GM_VARIANCE : Fld := ⟨Reg.PTP_GM_INFO, 16, 16⟩
def PTP_TRAP_CLASS : Fld := ⟨Reg.PTP_TRAP, 0, 4⟩
def PTP_TRAP_TX_CLASS : Fld := ⟨Reg.PTP_TRAP, 4, 4⟩
def PTP_SYNCE_CFG_QL_SELECT : Fld := ⟨Reg.PTP_SYNCE_CFG, 0, 1⟩
def PTP_SYNCE_CFG_HOLDOFF : Fld := ⟨Reg.PTP_SYNCE_CFG, 1, 8⟩
def PTP_SYNCE_CFG_EEC_QL : Fld := ⟨Reg.PTP_SYNCE_CFG, 9, 4⟩
def PTP_SYNCE_QL_ASSUMED : Fld := ⟨Reg.PTP_SYNCE_QL, 0, 4⟩
def PTP_SYNCE_QL_CURRENT : Fld := ⟨Reg.PTP_SYNCE_QL, 4, 4⟩
def PTP_PORT_CFG_EN : Fld := ⟨Reg.PTP_PORT_CFG, 0, 1⟩
def PTP_PORT_CFG_MASTER_ONLY : Fld := ⟨Reg.PTP_PORT_CFG, 1, 1⟩
def PTP_PORT_CFG_LOCAL_PRIO : Fld := ⟨Reg.PTP_PORT_CFG, 2, 8⟩
def PTP_PORT_CFG_TWO_STEP : Fld := ⟨Reg.PTP_PORT_CFG, 10, 1⟩
def PTP_PORT_CFG_TRANSPORT : Fld := ⟨Reg.PTP_PORT_CFG, 11, 2⟩
def PTP_PORT_CFG_SYNC_RATE : Fld := ⟨Reg.PTP_PORT_CFG, 13, 3⟩
def PTP_PORT_CFG_ANN_RATE : Fld := ⟨Reg.PTP_PORT_CFG, 16, 2⟩
def PTP_PORT_CFG_DELAY_RATE : Fld := ⟨Reg.PTP_PORT_CFG, 18, 3⟩
def PTP_PORT_CFG_ANN_TIMEOUT : Fld := ⟨Reg.PTP_PORT_CFG, 21, 3⟩
def PTP_PORT_CFG_SYNCE_EN : Fld := ⟨Reg.PTP_PORT_CFG, 24, 1⟩
def PTP_PORT_ASYM_ASYM_PS : Fld := ⟨Reg.PTP_PORT_ASYM, 0, 32⟩
def PTP_PORT_STATUS_STATE : Fld := ⟨Reg.PTP_PORT_STATUS, 0, 4⟩
def PTP_PORT_STATUS_GRANTS : Fld := ⟨Reg.PTP_PORT_STATUS, 4, 7⟩
def PTP_PORT_STATUS_MEAN_PATH : Fld := ⟨Reg.PTP_PORT_STATUS, 11, 21⟩
def PTP_PORT_ADDR_ADDR : Fld := ⟨Reg.PTP_PORT_ADDR, 0, 32⟩
def PTP_UMT_ADDR_ADDR : Fld := ⟨Reg.PTP_UMT_ADDR, 0, 32⟩
def PTP_UMT_CFG_EN : Fld := ⟨Reg.PTP_UMT_CFG, 0, 1⟩
def PTP_UMT_CFG_PORT : Fld := ⟨Reg.PTP_UMT_CFG, 1, 7⟩
def GTE_CTRL_EN : Fld := ⟨Reg.GTE_CTRL, 0, 1⟩
def GTE_CTRL_QUIET : Fld := ⟨Reg.GTE_CTRL, 1, 1⟩
def GTE_CTRL_MISS_ACT : Fld := ⟨Reg.GTE_CTRL, 2, 1⟩
def GTE_STATUS_BUF_CELLS : Fld := ⟨Reg.GTE_STATUS, 0, 12⟩
def GTE_GCL_SEL_PORT : Fld := ⟨Reg.GTE_GCL_SEL, 0, 5⟩
def GTE_GCL_SEL_INDEX : Fld := ⟨Reg.GTE_GCL_SEL, 5, 7⟩
def GTE_GCL_ENTRY_LO_ENTRY : Fld := ⟨Reg.GTE_GCL_ENTRY_LO, 0, 32⟩
def GTE_GCL_ENTRY_HI_ENTRY : Fld := ⟨Reg.GTE_GCL_ENTRY_HI, 0, 32⟩
def GTE_GCL_CMD_WRITE : Fld := ⟨Reg.GTE_GCL_CMD, 0, 1⟩
def GTE_GCL_CMD_READ : Fld := ⟨Reg.GTE_GCL_CMD, 1, 1⟩
def GTE_GCL_CMD_COMMIT : Fld := ⟨Reg.GTE_GCL_CMD, 2, 1⟩
def GTE_GCL_CMD_CANCEL : Fld := ⟨Reg.GTE_GCL_CMD, 3, 1⟩
def GTE_GCL_CMD_BUSY : Fld := ⟨Reg.GTE_GCL_CMD, 4, 1⟩
def GTE_ADMIN_BASE_SEC_HI_SEC : Fld := ⟨Reg.GTE_ADMIN_BASE_SEC_HI, 0, 16⟩
def GTE_ADMIN_BASE_SEC_LO_SEC : Fld := ⟨Reg.GTE_ADMIN_BASE_SEC_LO, 0, 32⟩
def GTE_ADMIN_BASE_NS_NS : Fld := ⟨Reg.GTE_ADMIN_BASE_NS, 0, 30⟩
def GTE_ADMIN_CYCLE_CYCLE_NS : Fld := ⟨Reg.GTE_ADMIN_CYCLE, 0, 30⟩
def GTE_ADMIN_LEN_LEN : Fld := ⟨Reg.GTE_ADMIN_LEN, 0, 8⟩
def GTE_ADMIN_LEN_CYCLE_EXT_NS : Fld := ⟨Reg.GTE_ADMIN_LEN, 8, 24⟩
def GTE_OPER_STATUS_PENDING : Fld := ⟨Reg.GTE_OPER_STATUS, 0, 1⟩
def GTE_OPER_STATUS_ACTIVE_BANK : Fld := ⟨Reg.GTE_OPER_STATUS, 1, 1⟩
def GTE_OPER_STATUS_OPER_LEN : Fld := ⟨Reg.GTE_OPER_STATUS, 2, 8⟩
def GTE_OPER_STATUS_CHANGE_SEC_HI : Fld := ⟨Reg.GTE_OPER_STATUS, 16, 16⟩
def GTE_CHANGE_SEC_LO_SEC : Fld := ⟨Reg.GTE_CHANGE_SEC_LO, 0, 32⟩
def GTE_CHANGE_NS_NS : Fld := ⟨Reg.GTE_CHANGE_NS, 0, 30⟩
def GTE_PORT_CFG_EXP_EN : Fld := ⟨Reg.GTE_PORT_CFG, 0, 1⟩
def GTE_PORT_CFG_GATE_EN : Fld := ⟨Reg.GTE_PORT_CFG, 1, 1⟩
def GTE_PORT_CFG_PREEMPT_EN : Fld := ⟨Reg.GTE_PORT_CFG, 2, 1⟩
def GTE_PORT_CFG_ADD_FRAG : Fld := ⟨Reg.GTE_PORT_CFG, 3, 2⟩
def GTE_PORT_CFG_CM_PROFILE : Fld := ⟨Reg.GTE_PORT_CFG, 5, 2⟩
def GTE_PORT_CFG_TU_GATING : Fld := ⟨Reg.GTE_PORT_CFG, 7, 1⟩
def GTE_PORT_CFG_EXP_PFC_PRIO : Fld := ⟨Reg.GTE_PORT_CFG, 8, 3⟩
def GTE_PORT_CFG_PREEMPT_MASK : Fld := ⟨Reg.GTE_PORT_CFG, 11, 16⟩
def GTE_PORT_CFG_VERIFY_DIS : Fld := ⟨Reg.GTE_PORT_CFG, 27, 1⟩
def GTE_EXP_CFG_RES_LIMIT : Fld := ⟨Reg.GTE_EXP_CFG, 0, 14⟩
def GTE_EXP_CFG_EXP_QLIM : Fld := ⟨Reg.GTE_EXP_CFG, 14, 6⟩
def GTE_EXP_LEN_EXP_MAXLEN : Fld := ⟨Reg.GTE_EXP_LEN, 0, 14⟩
def GTE_GUARD_TU_CAP_NS : Fld := ⟨Reg.GTE_GUARD, 0, 16⟩
def GTE_GUARD_VERIFY_MS : Fld := ⟨Reg.GTE_GUARD, 16, 8⟩
def GTE_FALLBACK_GATES : Fld := ⟨Reg.GTE_FALLBACK, 0, 16⟩
def GTE_FALLBACK_EXP_GATE : Fld := ⟨Reg.GTE_FALLBACK, 16, 1⟩
def GTE_EXP_QSTAT_DEPTH : Fld := ⟨Reg.GTE_EXP_QSTAT, 0, 6⟩
def GTE_EXP_QSTAT_PREEMPT_ACTIVE : Fld := ⟨Reg.GTE_EXP_QSTAT, 6, 1⟩
def GTE_EXP_QSTAT_W_NS : Fld := ⟨Reg.GTE_EXP_QSTAT, 8, 16⟩
def HBC_CTRL_EN : Fld := ⟨Reg.HBC_CTRL, 0, 1⟩
def HBC_CTRL_QUIET : Fld := ⟨Reg.HBC_CTRL, 1, 1⟩
def HBC_CTRL_RETAIN : Fld := ⟨Reg.HBC_CTRL, 2, 1⟩
def HBC_CTRL_SR_ACTIVE : Fld := ⟨Reg.HBC_CTRL, 3, 1⟩
def HBC_CTRL_INIT_DONE : Fld := ⟨Reg.HBC_CTRL, 4, 1⟩
def HBC_CTRL_FILL_DONE : Fld := ⟨Reg.HBC_CTRL, 5, 1⟩
def HBC_ARB_CFG_AGE1 : Fld := ⟨Reg.HBC_ARB_CFG, 0, 12⟩
def HBC_ARB_CFG_AGE2 : Fld := ⟨Reg.HBC_ARB_CFG, 12, 12⟩
def HBC_RETRAIN_CFG_PERIOD_MS : Fld := ⟨Reg.HBC_RETRAIN_CFG, 0, 10⟩
def HBC_RETRAIN_CFG_DT : Fld := ⟨Reg.HBC_RETRAIN_CFG, 10, 5⟩
def HBC_SCRUB_CFG_EN : Fld := ⟨Reg.HBC_SCRUB_CFG, 0, 1⟩
def HBC_SCRUB_CFG_PERIOD_H : Fld := ⟨Reg.HBC_SCRUB_CFG, 1, 8⟩
def HBC_REPAIR_CFG_CE_TH : Fld := ⟨Reg.HBC_REPAIR_CFG, 0, 4⟩
def HBC_REPAIR_CFG_AUTO_EN : Fld := ⟨Reg.HBC_REPAIR_CFG, 4, 1⟩
def HBC_FAULT_CFG_PC_TAKEOVER : Fld := ⟨Reg.HBC_FAULT_CFG, 0, 1⟩
def HBC_FAULT_CFG_PC_UE_LIMIT : Fld := ⟨Reg.HBC_FAULT_CFG, 1, 8⟩
def HBC_SR_CFG_SR_LIMIT_US : Fld := ⟨Reg.HBC_SR_CFG, 0, 10⟩
def HBC_STATUS_TEMP : Fld := ⟨Reg.HBC_STATUS, 0, 8⟩
def HBC_STATUS_REFRESH_RATE : Fld := ⟨Reg.HBC_STATUS, 8, 2⟩
def HBC_PC_RETIRED_MASK : Fld := ⟨Reg.HBC_PC_RETIRED, 0, 32⟩
def HBC_REPAIR_STATUS_LISTED : Fld := ⟨Reg.HBC_REPAIR_STATUS, 0, 8⟩
def HBC_REPAIR_STATUS_UNREPAIRED : Fld := ⟨Reg.HBC_REPAIR_STATUS, 8, 8⟩
def HBC_FAULT_INFO_PC : Fld := ⟨Reg.HBC_FAULT_INFO, 0, 6⟩
def HBC_FAULT_INFO_KIND : Fld := ⟨Reg.HBC_FAULT_INFO, 6, 3⟩
def HBC_FAULT_INFO_ROW : Fld := ⟨Reg.HBC_FAULT_INFO, 9, 22⟩
def HBC_FAULT_INFO_VALID : Fld := ⟨Reg.HBC_FAULT_INFO, 31, 1⟩
def TTB_CTRL_APPLY : Fld := ⟨Reg.TTB_CTRL, 0, 1⟩
def TTB_CTRL_BUSY : Fld := ⟨Reg.TTB_CTRL, 1, 1⟩
def TTB_CFG_STARVE_US : Fld := ⟨Reg.TTB_CFG, 0, 14⟩
def TTB_HB_SHARE_BP : Fld := ⟨Reg.TTB_HB_SHARE, 0, 14⟩
def TTB_HB_SHARE_BORROW : Fld := ⟨Reg.TTB_HB_SHARE, 14, 1⟩
def TTB_HB_LAST_USED : Fld := ⟨Reg.TTB_HB_LAST, 0, 24⟩
def TTB_HB_BORROWED_BYTES : Fld := ⟨Reg.TTB_HB_BORROWED, 0, 24⟩
def TTB_HB_PEAK_PEAK : Fld := ⟨Reg.TTB_HB_PEAK, 0, 24⟩
def TTB_HB_CARRY_BYTES : Fld := ⟨Reg.TTB_HB_CARRY, 0, 24⟩
def TTB_SRAM_SHARE_ACCESSES : Fld := ⟨Reg.TTB_SRAM_SHARE, 0, 9⟩
def TTB_SRAM_SHARE_BORROW : Fld := ⟨Reg.TTB_SRAM_SHARE, 9, 1⟩
def TTB_SRAM_LAST_USED : Fld := ⟨Reg.TTB_SRAM_LAST, 0, 9⟩
def TTB_SRAM_LAST_BORROWED : Fld := ⟨Reg.TTB_SRAM_LAST, 9, 9⟩
def KPR_CTRL_EN : Fld := ⟨Reg.KPR_CTRL, 0, 1⟩
def KPR_CTRL_QUIET : Fld := ⟨Reg.KPR_CTRL, 1, 1⟩
def KPR_WDT_CFG_ENGINE_US : Fld := ⟨Reg.KPR_WDT_CFG, 0, 10⟩
def KPR_WDT_CFG_CLUSTER_MS : Fld := ⟨Reg.KPR_WDT_CFG, 10, 7⟩
def KPR_WDT_CFG_WDT_MS : Fld := ⟨Reg.KPR_WDT_CFG, 17, 10⟩
def KPR_CLUSTER_STATUS_RECENT : Fld := ⟨Reg.KPR_CLUSTER_STATUS, 0, 2⟩
def KPR_CLUSTER_STATUS_IN_FLIGHT : Fld := ⟨Reg.KPR_CLUSTER_STATUS, 2, 7⟩
def KPR_UCODE_VERSION : Fld := ⟨Reg.KPR_UCODE, 0, 16⟩
def KPR_UCODE_PATCH_LEVEL : Fld := ⟨Reg.KPR_UCODE, 16, 8⟩
def KPR_PATCH_CFG_QUIET_LIMIT_US : Fld := ⟨Reg.KPR_PATCH_CFG, 0, 10⟩
def KPR_ENGINE_STATUS_STATE : Fld := ⟨Reg.KPR_ENGINE_STATUS, 0, 2⟩
def KPR_ENGINE_STATUS_IN_HOLD : Fld := ⟨Reg.KPR_ENGINE_STATUS, 2, 1⟩
def KPR_ENGINE_STATUS_LOCKUPS : Fld := ⟨Reg.KPR_ENGINE_STATUS, 8, 8⟩
def KPR_ENGINE_STATUS_TASKS : Fld := ⟨Reg.KPR_ENGINE_STATUS, 16, 5⟩
def KPR_TASK_ENGINE : Fld := ⟨Reg.KPR_TASK, 0, 4⟩
def KPR_TASK_GEN : Fld := ⟨Reg.KPR_TASK, 4, 8⟩
def KPR_TASK_HOME : Fld := ⟨Reg.KPR_TASK, 12, 4⟩
def KPR_TASK_ALT : Fld := ⟨Reg.KPR_TASK, 16, 4⟩
def KPR_TASK_RUNNING : Fld := ⟨Reg.KPR_TASK, 20, 1⟩
def KPR_MBX_CTRL_EN : Fld := ⟨Reg.KPR_MBX_CTRL, 0, 1⟩
def KPR_MBX_CTRL_STOPPED : Fld := ⟨Reg.KPR_MBX_CTRL, 1, 1⟩
def KPR_MBX_CTRL_VEC_REPLY : Fld := ⟨Reg.KPR_MBX_CTRL, 2, 6⟩
def KPR_MBX_CTRL_VEC_NOTIFY : Fld := ⟨Reg.KPR_MBX_CTRL, 8, 6⟩
def KPR_MBX_CMD_BASE_LO_ADDR : Fld := ⟨Reg.KPR_MBX_CMD_BASE_LO, 0, 32⟩
def KPR_MBX_CMD_BASE_HI_ADDR : Fld := ⟨Reg.KPR_MBX_CMD_BASE_HI, 0, 32⟩
def KPR_MBX_CMD_SIZE_LOG2 : Fld := ⟨Reg.KPR_MBX_CMD_SIZE, 0, 4⟩
def KPR_MBX_CMD_TAIL_COUNT : Fld := ⟨Reg.KPR_MBX_CMD_TAIL, 0, 32⟩
def KPR_MBX_CMD_HEAD_COUNT : Fld := ⟨Reg.KPR_MBX_CMD_HEAD, 0, 32⟩
def KPR_MBX_RPL_BASE_LO_ADDR : Fld := ⟨Reg.KPR_MBX_RPL_BASE_LO, 0, 32⟩
def KPR_MBX_RPL_BASE_HI_ADDR : Fld := ⟨Reg.KPR_MBX_RPL_BASE_HI, 0, 32⟩
def KPR_MBX_RPL_SIZE_LOG2 : Fld := ⟨Reg.KPR_MBX_RPL_SIZE, 0, 4⟩
def KPR_MBX_RPL_TAIL_COUNT : Fld := ⟨Reg.KPR_MBX_RPL_TAIL, 0, 32⟩
def KPR_MBX_RPL_HEAD_COUNT : Fld := ⟨Reg.KPR_MBX_RPL_HEAD, 0, 32⟩
def KPR_MBX_NTF_BASE_LO_ADDR : Fld := ⟨Reg.KPR_MBX_NTF_BASE_LO, 0, 32⟩
def KPR_MBX_NTF_BASE_HI_ADDR : Fld := ⟨Reg.KPR_MBX_NTF_BASE_HI, 0, 32⟩
def KPR_MBX_NTF_SIZE_LOG2 : Fld := ⟨Reg.KPR_MBX_NTF_SIZE, 0, 5⟩
def KPR_MBX_NTF_WR_COUNT : Fld := ⟨Reg.KPR_MBX_NTF_WR, 0, 32⟩
def KPR_MBX_NTF_RD_COUNT : Fld := ⟨Reg.KPR_MBX_NTF_RD, 0, 32⟩
def FLT_CTRL_EN : Fld := ⟨Reg.FLT_CTRL, 0, 1⟩
def FLT_CTRL_QUIET : Fld := ⟨Reg.FLT_CTRL, 1, 1⟩
def FLT_SYS_CFG_MODE : Fld := ⟨Reg.FLT_SYS_CFG, 0, 2⟩
def FLT_SYS_CFG_DEV_ID : Fld := ⟨Reg.FLT_SYS_CFG, 2, 2⟩
def FLT_SYS_CFG_STACK_ROLE : Fld := ⟨Reg.FLT_SYS_CFG, 4, 2⟩
def FLT_SYS_CFG_PAIR_PRIO : Fld := ⟨Reg.FLT_SYS_CFG, 6, 4⟩
def FLT_SYS_CFG_TIME_FROM_LINK : Fld := ⟨Reg.FLT_SYS_CFG, 10, 1⟩
def FLT_SYS_CFG_DETECT_US : Fld := ⟨Reg.FLT_SYS_CFG, 11, 4⟩
def FLT_PAIR_CFG_REFRESH_MARK : Fld := ⟨Reg.FLT_PAIR_CFG, 0, 13⟩
def FLT_PAIR_STATUS_ROLE : Fld := ⟨Reg.FLT_PAIR_STATUS, 0, 2⟩
def FLT_PAIR_STATUS_STATE : Fld := ⟨Reg.FLT_PAIR_STATUS, 2, 2⟩
def FLT_PAIR_STATUS_PAIR_GEN : Fld := ⟨Reg.FLT_PAIR_STATUS, 16, 16⟩
def FLT_MIRROR_STATUS_FILL : Fld := ⟨Reg.FLT_MIRROR_STATUS, 0, 13⟩
def FLT_MSEQ_TX_MSEQ : Fld := ⟨Reg.FLT_MSEQ_TX, 0, 32⟩
def FLT_MSEQ_ACC_MSEQ : Fld := ⟨Reg.FLT_MSEQ_ACC, 0, 32⟩
def FLT_FENCE_MSEQ : Fld := ⟨Reg.FLT_FENCE, 0, 32⟩
def FLT_STACK_STATUS_MASTER : Fld := ⟨Reg.FLT_STACK_STATUS, 0, 2⟩
def FLT_STACK_STATUS_MASTER_VALID : Fld := ⟨Reg.FLT_STACK_STATUS, 2, 1⟩
def FLT_STACK_STATUS_HEARD : Fld := ⟨Reg.FLT_STACK_STATUS, 4, 4⟩
def FLT_BUNDLE_CFG_EN : Fld := ⟨Reg.FLT_BUNDLE_CFG, 0, 1⟩
def FLT_BUNDLE_CFG_FIRST_LANE : Fld := ⟨Reg.FLT_BUNDLE_CFG, 1, 7⟩
def FLT_BUNDLE_CFG_LANES : Fld := ⟨Reg.FLT_BUNDLE_CFG, 8, 5⟩
def FLT_BUNDLE_CFG_DATA_EN : Fld := ⟨Reg.FLT_BUNDLE_CFG, 13, 1⟩
def FLT_BUNDLE_CFG_PAIR_LINK : Fld := ⟨Reg.FLT_BUNDLE_CFG, 14, 1⟩
def FLT_BUNDLE_TIME_ASYM_PS : Fld := ⟨Reg.FLT_BUNDLE_TIME, 0, 32⟩
def FLT_BUNDLE_STATUS_STATE : Fld := ⟨Reg.FLT_BUNDLE_STATUS, 0, 2⟩
def FLT_BUNDLE_STATUS_SPARE_USED : Fld := ⟨Reg.FLT_BUNDLE_STATUS, 2, 1⟩
def FLT_BUNDLE_STATUS_ACTIVE_LANES : Fld := ⟨Reg.FLT_BUNDLE_STATUS, 3, 5⟩
def FLT_BUNDLE_STATUS_SPARE_LANE : Fld := ⟨Reg.FLT_BUNDLE_STATUS, 8, 7⟩
def FLT_BUNDLE_STATUS_PEER_DEV : Fld := ⟨Reg.FLT_BUNDLE_STATUS, 15, 2⟩
def RND_STATUS_OWNER_STATE : Fld := ⟨Reg.RND_STATUS, 0, 2⟩
def RND_STATUS_KWK_SET : Fld := ⟨Reg.RND_STATUS, 2, 1⟩
def RND_STATUS_DEBUG_OPEN : Fld := ⟨Reg.RND_STATUS, 3, 1⟩
def RND_STATUS_DEBUG_KIND : Fld := ⟨Reg.RND_STATUS, 4, 2⟩
def RND_STATUS_DEBUG_LOCKED : Fld := ⟨Reg.RND_STATUS, 6, 1⟩
def RND_STATUS_RNG_OK : Fld := ⟨Reg.RND_STATUS, 7, 1⟩
def RND_SVN_IMAGE_SVN : Fld := ⟨Reg.RND_SVN, 0, 7⟩
def RND_SVN_PATCH_SVN : Fld := ⟨Reg.RND_SVN, 8, 6⟩
def RND_SVN_LOADED_SVN : Fld := ⟨Reg.RND_SVN, 16, 7⟩
def RND_SVN_COMMIT_PENDING : Fld := ⟨Reg.RND_SVN, 23, 1⟩
def RND_RIGHTS_RIGHTS : Fld := ⟨Reg.RND_RIGHTS, 0, 15⟩
def RND_WR_BLOCKS_BLOCKS : Fld := ⟨Reg.RND_WR_BLOCKS, 0, 31⟩
def RND_VIOL_ADDR_ADDR : Fld := ⟨Reg.RND_VIOL_ADDR, 0, 32⟩
def RND_VIOL_INFO_KIND : Fld := ⟨Reg.RND_VIOL_INFO, 0, 2⟩
def RND_VIOL_INFO_OPCODE : Fld := ⟨Reg.RND_VIOL_INFO, 2, 8⟩
def RND_VIOL_INFO_VALID : Fld := ⟨Reg.RND_VIOL_INFO, 31, 1⟩
def RND_CMD_ATTEST : Fld := ⟨Reg.RND_CMD, 0, 1⟩
def RND_CMD_DEBUG_CHALLENGE : Fld := ⟨Reg.RND_CMD, 1, 1⟩
def RND_CMD_DEBUG_RESPONSE : Fld := ⟨Reg.RND_CMD, 2, 1⟩
def RND_CMD_CERT_INSTALL : Fld := ⟨Reg.RND_CMD, 3, 1⟩
def RND_CMD_BUSY : Fld := ⟨Reg.RND_CMD, 4, 1⟩
def RND_CMD_RESULT : Fld := ⟨Reg.RND_CMD, 5, 2⟩
def RND_NONCE_NONCE : Fld := ⟨Reg.RND_NONCE, 0, 32⟩
def RND_DBG_SCOPE_SCOPE : Fld := ⟨Reg.RND_DBG_SCOPE, 0, 3⟩
def RND_TAMPER_SEL_INDEX : Fld := ⟨Reg.RND_TAMPER_SEL, 0, 5⟩
def RND_TAMPER_COUNT_COUNT : Fld := ⟨Reg.RND_TAMPER_COUNT, 0, 32⟩
def RND_VERIFY_STATUS_REASON : Fld := ⟨Reg.RND_VERIFY_STATUS, 0, 3⟩
def RND_VERIFY_STATUS_SLOT : Fld := ⟨Reg.RND_VERIFY_STATUS, 3, 2⟩
def RND_KEYS_CAK_USED : Fld := ⟨Reg.RND_KEYS, 0, 10⟩
def IMG_STATUS_STATE : Fld := ⟨Reg.IMG_STATUS, 0, 3⟩
def IMG_STATUS_SLOT : Fld := ⟨Reg.IMG_STATUS, 3, 2⟩
def IMG_STATUS_FALLBACK : Fld := ⟨Reg.IMG_STATUS, 5, 1⟩
def IMG_STATUS_FAIL_REASON : Fld := ⟨Reg.IMG_STATUS, 6, 4⟩
def IMG_STATUS_FAIL_SLOT : Fld := ⟨Reg.IMG_STATUS, 10, 2⟩
def IMG_ATTEMPTS_CNT_A : Fld := ⟨Reg.IMG_ATTEMPTS, 0, 2⟩
def IMG_ATTEMPTS_CNT_B : Fld := ⟨Reg.IMG_ATTEMPTS, 2, 2⟩
def IMG_ATTEMPTS_CNT_G : Fld := ⟨Reg.IMG_ATTEMPTS, 4, 2⟩
def IMG_PREFER_SLOT : Fld := ⟨Reg.IMG_PREFER, 0, 1⟩
def IMG_NVM_STATUS_MODE : Fld := ⟨Reg.IMG_NVM_STATUS, 0, 2⟩
def IMG_NVM_STATUS_STRIDE : Fld := ⟨Reg.IMG_NVM_STATUS, 2, 2⟩
def IMG_CFG_GOLDEN_WP : Fld := ⟨Reg.IMG_CFG, 0, 1⟩
def IMG_LOAD_MS_MS : Fld := ⟨Reg.IMG_LOAD_MS, 0, 16⟩
def IMG_FLASH_ADDR_ADDR : Fld := ⟨Reg.IMG_FLASH_ADDR, 0, 30⟩
def IMG_FLASH_CMD_OP : Fld := ⟨Reg.IMG_FLASH_CMD, 0, 2⟩
def IMG_FLASH_CMD_GO : Fld := ⟨Reg.IMG_FLASH_CMD, 2, 1⟩
def IMG_FLASH_CMD_BUSY : Fld := ⟨Reg.IMG_FLASH_CMD, 3, 1⟩
def IMG_FLASH_CMD_RESULT : Fld := ⟨Reg.IMG_FLASH_CMD, 4, 2⟩
def IMG_FLASH_DATA_DATA : Fld := ⟨Reg.IMG_FLASH_DATA, 0, 32⟩
def HST_CTRL_DMA_EN : Fld := ⟨Reg.HST_CTRL, 0, 1⟩
def HST_CTRL_QUIET : Fld := ⟨Reg.HST_CTRL, 1, 1⟩
def HST_PCIE_STATUS_SPEED : Fld := ⟨Reg.HST_PCIE_STATUS, 0, 3⟩
def HST_PCIE_STATUS_WIDTH : Fld := ⟨Reg.HST_PCIE_STATUS, 3, 3⟩
def HST_PCIE_STATUS_LINK_UP : Fld := ⟨Reg.HST_PCIE_STATUS, 6, 1⟩
def HST_SUBSYS_SUBSYS_VENDOR : Fld := ⟨Reg.HST_SUBSYS, 0, 16⟩
def HST_SUBSYS_SUBSYS_ID : Fld := ⟨Reg.HST_SUBSYS, 16, 16⟩
def HST_RX_MAP_RING0 : Fld := ⟨Reg.HST_RX_MAP, 0, 4⟩
def HST_RX_MAP_RING1 : Fld := ⟨Reg.HST_RX_MAP, 4, 4⟩
def HST_RX_MAP_RING2 : Fld := ⟨Reg.HST_RX_MAP, 8, 4⟩
def HST_RX_MAP_RING3 : Fld := ⟨Reg.HST_RX_MAP, 12, 4⟩
def HST_RX_MAP_RING4 : Fld := ⟨Reg.HST_RX_MAP, 16, 4⟩
def HST_RX_MAP_RING5 : Fld := ⟨Reg.HST_RX_MAP, 20, 4⟩
def HST_RX_MAP_RING6 : Fld := ⟨Reg.HST_RX_MAP, 24, 4⟩
def HST_RX_MAP_RING7 : Fld := ⟨Reg.HST_RX_MAP, 28, 4⟩
def HST_RX_BASE_LO_BASE_LO : Fld := ⟨Reg.HST_RX_BASE_LO, 0, 32⟩
def HST_TX_BASE_LO_BASE_LO : Fld := ⟨Reg.HST_TX_BASE_LO, 0, 32⟩
def HST_RX_BASE_HI_BASE_HI : Fld := ⟨Reg.HST_RX_BASE_HI, 0, 32⟩
def HST_TX_BASE_HI_BASE_HI : Fld := ⟨Reg.HST_TX_BASE_HI, 0, 32⟩
def HST_RX_CFG_EN : Fld := ⟨Reg.HST_RX_CFG, 0, 1⟩
def HST_RX_CFG_SIZE : Fld := ⟨Reg.HST_RX_CFG, 1, 4⟩
def HST_RX_CFG_VEC : Fld := ⟨Reg.HST_RX_CFG, 5, 6⟩
def HST_RX_CFG_COALESCE_US : Fld := ⟨Reg.HST_RX_CFG, 11, 10⟩
def HST_RX_CFG_SOURCE : Fld := ⟨Reg.HST_RX_CFG, 21, 1⟩
def HST_RX_CFG_CAP_RING : Fld := ⟨Reg.HST_RX_CFG, 22, 4⟩
def HST_RX_CFG_STOPPED : Fld := ⟨Reg.HST_RX_CFG, 26, 1⟩
def HST_TX_CFG_EN : Fld := ⟨Reg.HST_TX_CFG, 0, 1⟩
def HST_TX_CFG_SIZE : Fld := ⟨Reg.HST_TX_CFG, 1, 4⟩
def HST_TX_CFG_VEC : Fld := ⟨Reg.HST_TX_CFG, 5, 6⟩
def HST_TX_CFG_COALESCE_US : Fld := ⟨Reg.HST_TX_CFG, 11, 10⟩
def HST_TX_CFG_STOPPED : Fld := ⟨Reg.HST_TX_CFG, 26, 1⟩
def HST_RX_HEAD_HEAD : Fld := ⟨Reg.HST_RX_HEAD, 0, 32⟩
def HST_TX_HEAD_HEAD : Fld := ⟨Reg.HST_TX_HEAD, 0, 32⟩
def RST_CMD_WARM : Fld := ⟨Reg.RST_CMD, 0, 1⟩
def RST_CMD_KEY : Fld := ⟨Reg.RST_CMD, 8, 8⟩
def RST_STATUS_PHASE : Fld := ⟨Reg.RST_STATUS, 0, 4⟩
def RST_STATUS_TRIM_OK : Fld := ⟨Reg.RST_STATUS, 4, 1⟩
def RST_STATUS_ADOPTED : Fld := ⟨Reg.RST_STATUS, 5, 1⟩
def RST_LAST_ENTRY : Fld := ⟨Reg.RST_LAST, 0, 32⟩
def RST_COUNT_COUNT : Fld := ⟨Reg.RST_COUNT, 0, 32⟩
def RST_SRC_COUNT_COUNT_LO : Fld := ⟨Reg.RST_SRC_COUNT, 0, 16⟩
def RST_SRC_COUNT_COUNT_HI : Fld := ⟨Reg.RST_SRC_COUNT, 16, 16⟩
def RST_RING_SEL_INDEX : Fld := ⟨Reg.RST_RING_SEL, 0, 4⟩
def RST_RING_ENTRY_WORD : Fld := ⟨Reg.RST_RING_ENTRY, 0, 32⟩
def RST_BLOCK_P_RESET : Fld := ⟨Reg.RST_BLOCK_P, 0, 16⟩
def RST_BLOCK_DEV_RESET : Fld := ⟨Reg.RST_BLOCK_DEV, 0, 5⟩
def RST_BLOCK_BUSY_BUSY : Fld := ⟨Reg.RST_BLOCK_BUSY, 0, 1⟩
def PWR_REQ_REQ : Fld := ⟨Reg.PWR_REQ, 0, 32⟩
def PWR_STATE_STATE : Fld := ⟨Reg.PWR_STATE, 0, 32⟩
def PWR_STATUS_BUSY : Fld := ⟨Reg.PWR_STATUS, 0, 1⟩
def PWR_STATUS_DOMAIN : Fld := ⟨Reg.PWR_STATUS, 1, 6⟩
def PWR_STATUS_REASON : Fld := ⟨Reg.PWR_STATUS, 7, 2⟩
def PWR_STATUS_VALID : Fld := ⟨Reg.PWR_STATUS, 31, 1⟩
def PWR_THERM_CFG_WARN_C : Fld := ⟨Reg.PWR_THERM_CFG, 0, 8⟩
def PWR_THERM_CFG_HOT_C : Fld := ⟨Reg.PWR_THERM_CFG, 8, 8⟩
def PWR_TEMP_TEMP : Fld := ⟨Reg.PWR_TEMP, 0, 8⟩
def PWR_TEMP_SENSOR : Fld := ⟨Reg.PWR_TEMP, 8, 4⟩
def PWR_TEMP_WARN : Fld := ⟨Reg.PWR_TEMP, 12, 1⟩
def PWR_TEMP_HOT : Fld := ⟨Reg.PWR_TEMP, 13, 1⟩
def PWR_TEMP_TRIPPED : Fld := ⟨Reg.PWR_TEMP, 14, 1⟩
def PWR_SENSOR_FAULT_FAULTS : Fld := ⟨Reg.PWR_SENSOR_FAULT, 0, 16⟩
def CLK_CTRL_PREFER : Fld := ⟨Reg.CLK_CTRL, 0, 1⟩
def CLK_CTRL_REVERTIVE : Fld := ⟨Reg.CLK_CTRL, 1, 1⟩
def CLK_STATUS_SELECTED : Fld := ⟨Reg.CLK_STATUS, 0, 1⟩
def CLK_STATUS_A_QUAL : Fld := ⟨Reg.CLK_STATUS, 1, 1⟩
def CLK_STATUS_B_QUAL : Fld := ⟨Reg.CLK_STATUS, 2, 1⟩
def CLK_STATUS_ONDIE : Fld := ⟨Reg.CLK_STATUS, 3, 1⟩
def CLK_STATUS_LOCK : Fld := ⟨Reg.CLK_STATUS, 4, 6⟩
def CLK_STATUS_PCIE_LOCK : Fld := ⟨Reg.CLK_STATUS, 10, 1⟩
def CLK_REF_CFG_QUAL_MS : Fld := ⟨Reg.CLK_REF_CFG, 0, 14⟩
def EVT_SUMMARY_LO_GROUPS : Fld := ⟨Reg.EVT_SUMMARY_LO, 0, 32⟩
def EVT_SUMMARY_HI_GROUPS : Fld := ⟨Reg.EVT_SUMMARY_HI, 0, 8⟩
def EVT_LOG_WR_COUNT : Fld := ⟨Reg.EVT_LOG_WR, 0, 32⟩
def EVT_LOG_RD_COUNT : Fld := ⟨Reg.EVT_LOG_RD, 0, 32⟩
def EVT_LOG_ENTRY_WORD : Fld := ⟨Reg.EVT_LOG_ENTRY, 0, 32⟩
def EVT_STATUS_PENDING : Fld := ⟨Reg.EVT_STATUS, 0, 32⟩
def EVT_PIN_EN_EN : Fld := ⟨Reg.EVT_PIN_EN, 0, 32⟩
def EVT_MSIX_EN_EN : Fld := ⟨Reg.EVT_MSIX_EN, 0, 32⟩
def EVT_KPR_EN_EN : Fld := ⟨Reg.EVT_KPR_EN, 0, 32⟩
def EVT_LOG_EN_EN : Fld := ⟨Reg.EVT_LOG_EN, 0, 32⟩
def EVT_GROUP_VEC_VEC : Fld := ⟨Reg.EVT_GROUP_VEC, 0, 6⟩
def DGN_CFG_PERMIT : Fld := ⟨Reg.DGN_CFG, 0, 4⟩
def DGN_STATUS_LOOP_ACTIVE : Fld := ⟨Reg.DGN_STATUS, 0, 1⟩
def DGN_STATUS_INJ_ARMED : Fld := ⟨Reg.DGN_STATUS, 1, 1⟩
def DGN_STATUS_PERTURB_ACTIVE : Fld := ⟨Reg.DGN_STATUS, 2, 1⟩
def DGN_STATUS_BIST_BUSY : Fld := ⟨Reg.DGN_STATUS, 3, 1⟩
def DGN_STATUS_SCAN_HOLD : Fld := ⟨Reg.DGN_STATUS, 4, 1⟩
def DGN_BIST_CTRL_DOMAIN : Fld := ⟨Reg.DGN_BIST_CTRL, 0, 6⟩
def DGN_BIST_CTRL_GO : Fld := ⟨Reg.DGN_BIST_CTRL, 6, 1⟩
def DGN_BIST_STATUS_RESULT : Fld := ⟨Reg.DGN_BIST_STATUS, 0, 2⟩
def DGN_BIST_STATUS_DOMAIN : Fld := ⟨Reg.DGN_BIST_STATUS, 2, 6⟩
def DGN_BIST_STATUS_FAILS : Fld := ⟨Reg.DGN_BIST_STATUS, 8, 16⟩
def DGN_INJ_CFG_TARGET : Fld := ⟨Reg.DGN_INJ_CFG, 0, 4⟩
def DGN_INJ_CFG_INSTANCE : Fld := ⟨Reg.DGN_INJ_CFG, 4, 7⟩
def DGN_INJ_CFG_KIND : Fld := ⟨Reg.DGN_INJ_CFG, 11, 1⟩
def DGN_INJ_CFG_CONT : Fld := ⟨Reg.DGN_INJ_CFG, 12, 1⟩
def DGN_INJ_CFG_ARM : Fld := ⟨Reg.DGN_INJ_CFG, 13, 1⟩
def DGN_PERT_CFG_POINT : Fld := ⟨Reg.DGN_PERT_CFG, 0, 4⟩
def DGN_PERT_CFG_TARGET : Fld := ⟨Reg.DGN_PERT_CFG, 4, 7⟩
def DGN_PERT_CFG_AMOUNT : Fld := ⟨Reg.DGN_PERT_CFG, 11, 20⟩
def DGN_PERT_TIME_DURATION_MS : Fld := ⟨Reg.DGN_PERT_TIME, 0, 16⟩
def DGN_PERT_TIME_PERIOD_US : Fld := ⟨Reg.DGN_PERT_TIME, 16, 16⟩
def DGN_PERT_CTRL_EN : Fld := ⟨Reg.DGN_PERT_CTRL, 0, 1⟩
def DGN_PERT_CTRL_DUTY_PCT : Fld := ⟨Reg.DGN_PERT_CTRL, 1, 7⟩
def DGN_PORT_LOOP_MODE : Fld := ⟨Reg.DGN_PORT_LOOP, 0, 2⟩
def SUP_ID_REV_DIGIT : Fld := ⟨Reg.SUP_ID, 0, 4⟩
def SUP_ID_REV_LETTER : Fld := ⟨Reg.SUP_ID, 4, 4⟩
def SUP_ID_PART : Fld := ⟨Reg.SUP_ID, 8, 16⟩
def RND_WINDOW_WORD : Fld := ⟨Reg.RND_WINDOW, 0, 32⟩
def RND_TAMPER_ENTRY_WORD : Fld := ⟨Reg.RND_TAMPER_ENTRY, 0, 32⟩
def PRT_EEE_CFG_TW : Fld := ⟨Reg.PRT_EEE_CFG, 0, 16⟩
def PRT_EEE_CFG_IDLE_ENTRY : Fld := ⟨Reg.PRT_EEE_CFG, 16, 16⟩

end Sys2Proof.Machine.Fld

namespace Sys2Proof.Machine.Reg

/-- The registers of block SUP. -/
def blockSUP : List Reg :=
  [SUP_ID]
/-- The registers of block RST. -/
def blockRST : List Reg :=
  [RST_CMD, RST_STATUS, RST_LAST, RST_COUNT,
   RST_SRC_COUNT, RST_RING_SEL, RST_RING_ENTRY, RST_BLOCK_P,
   RST_BLOCK_DEV, RST_BLOCK_BUSY]
/-- The registers of block PWR. -/
def blockPWR : List Reg :=
  [PWR_REQ, PWR_STATE, PWR_STATUS, PWR_THERM_CFG,
   PWR_TEMP, PWR_SENSOR_FAULT]
/-- The registers of block CLK. -/
def blockCLK : List Reg :=
  [CLK_CTRL, CLK_STATUS, CLK_REF_CFG]
/-- The registers of block EVT. -/
def blockEVT : List Reg :=
  [EVT_SUMMARY_LO, EVT_SUMMARY_HI, EVT_LOG_WR, EVT_LOG_RD,
   EVT_LOG_ENTRY, EVT_STATUS, EVT_PIN_EN, EVT_MSIX_EN,
   EVT_KPR_EN, EVT_LOG_EN, EVT_GROUP_VEC]
/-- The registers of block IMG. -/
def blockIMG : List Reg :=
  [IMG_STATUS, IMG_ATTEMPTS, IMG_PREFER, IMG_NVM_STATUS,
   IMG_CFG, IMG_LOAD_MS, IMG_FLASH_ADDR, IMG_FLASH_CMD,
   IMG_FLASH_DATA]
/-- The registers of block RND. -/
def blockRND : List Reg :=
  [RND_STATUS, RND_SVN, RND_RIGHTS, RND_WR_BLOCKS,
   RND_VIOL_ADDR, RND_VIOL_INFO, RND_CMD, RND_NONCE,
   RND_DBG_SCOPE, RND_TAMPER_SEL, RND_TAMPER_COUNT, RND_VERIFY_STATUS,
   RND_KEYS, RND_WINDOW, RND_TAMPER_ENTRY]
/-- The registers of block HST. -/
def blockHST : List Reg :=
  [HST_CTRL, HST_PCIE_STATUS, HST_SUBSYS, HST_RX_MAP,
   HST_RX_BASE_LO, HST_TX_BASE_LO, HST_RX_BASE_HI, HST_TX_BASE_HI,
   HST_RX_CFG, HST_TX_CFG, HST_RX_HEAD, HST_TX_HEAD]
/-- The registers of block DGN. -/
def blockDGN : List Reg :=
  [DGN_CFG, DGN_STATUS, DGN_BIST_CTRL, DGN_BIST_STATUS,
   DGN_INJ_CFG, DGN_PERT_CFG, DGN_PERT_TIME, DGN_PERT_CTRL,
   DGN_PORT_LOOP]
/-- The registers of block TTB. -/
def blockTTB : List Reg :=
  [TTB_CTRL, TTB_CFG, TTB_HB_SHARE, TTB_HB_LAST,
   TTB_HB_BORROWED, TTB_HB_PEAK, TTB_HB_CARRY, TTB_SRAM_SHARE,
   TTB_SRAM_LAST]
/-- The registers of block LNE. -/
def blockLNE : List Reg :=
  [LNE_CTRL, LNE_STATUS, LNE_PRBS_CTRL, LNE_PRBS_ERRS,
   LNE_OCTET_CTRL]
/-- The registers of block PRT. -/
def blockPRT : List Reg :=
  [PRT_MODE, PRT_LINK_CFG, PRT_LINK_STATUS, PRT_ARB_CFG,
   PRT_EBB_CFG, PRT_PIPE_CFG, PRT_PIPE_STATUS, PRT_MAC_CFG,
   PRT_MAC_ADDR_LO, PRT_MAC_ADDR_HI, PRT_PAUSE_CFG, PRT_PFC_STORM,
   PRT_TS_CFG, PRT_PFC_MAP, PRT_EEE_CFG]
/-- The registers of block MSC. -/
def blockMSC : List Reg :=
  [MSC_PORT_CFG, MSC_REPLAY_WIN, MSC_MKA_CFG, MSC_PN_THRESH,
   MSC_SA_STATUS, MSC_TX_NEXTPN_LO, MSC_TX_NEXTPN_HI]
/-- The registers of block GTE. -/
def blockGTE : List Reg :=
  [GTE_CTRL, GTE_STATUS, GTE_GCL_SEL, GTE_GCL_ENTRY_LO,
   GTE_GCL_ENTRY_HI, GTE_GCL_CMD, GTE_ADMIN_BASE_SEC_HI, GTE_ADMIN_BASE_SEC_LO,
   GTE_ADMIN_BASE_NS, GTE_ADMIN_CYCLE, GTE_ADMIN_LEN, GTE_OPER_STATUS,
   GTE_CHANGE_SEC_LO, GTE_CHANGE_NS, GTE_PORT_CFG, GTE_EXP_CFG,
   GTE_EXP_LEN, GTE_GUARD, GTE_FALLBACK, GTE_EXP_QSTAT]
/-- The registers of block PRS. -/
def blockPRS : List Reg :=
  [PRS_CTRL, PRS_UDP_PORTS, PRS_TUN_CFG, PRS_EXP_MATCH,
   PRS_PORT_ACT]
/-- The registers of block RBK. -/
def blockRBK : List Reg :=
  [RBK_CTRL, RBK_EPOCH_CFG, RBK_EPOCH_STATUS, RBK_EPOCH_NUM,
   RBK_EPOCH_INFLIGHT, RBK_SPECIAL_PROF, RBK_VIEW, RBK_BANK_CFG,
   RBK_PORT_PROF, RBK_PROF_CTRL, RBK_PROF_BANKS, RBK_MISS_ACT_LO,
   RBK_MISS_ACT_HI]
/-- The registers of block EXM. -/
def blockEXM : List Reg :=
  [EXM_CTRL, EXM_OVF_STATUS, EXM_REGION_CFG, EXM_SECT_CFG,
   EXM_SECT_SEED, EXM_SECT_LIM, EXM_SECT_STATUS, EXM_SECT_MISS,
   EXM_PROF, EXM_PORT_VRF]
/-- The registers of block LPM. -/
def blockLPM : List Reg :=
  [LPM_CTRL, LPM_STATUS, LPM_ROUTES4, LPM_ROUTES6]
/-- The registers of block LRN. -/
def blockLRN : List Reg :=
  [LRN_CTRL, LRN_QUEUE_STATUS, LRN_SWEEP_CFG, LRN_MOVE_CFG,
   LRN_TICK, LRN_SWEEP_STATUS, LRN_WALK_CFG, LRN_SWEEP_CLASS,
   LRN_SECT_CFG, LRN_PROF, LRN_PORT_CFG, LRN_PORT_STATUS]
/-- The registers of block FLW. -/
def blockFLW : List Reg :=
  [FLW_CTRL, FLW_PARK_STATUS, FLW_PARK_CFG, FLW_PARK_TIME,
   FLW_HASH_CFG, FLW_WHEY_CFG, FLW_EXPIRY_CFG, FLW_CLASS_CFG,
   FLW_CLASS_ADM, FLW_CLASS_TIME, FLW_SLICE_CTRL, FLW_SLICE_STATUS,
   FLW_SLICE_RECORDS, FLW_SVC_CFG, FLW_SETUP_LIMIT, FLW_ACTIVE_TIME,
   FLW_NAT_POOL_ADDR, FLW_NAT_POOL_CFG, FLW_NAT64_PFX, FLW_PORT_ZONE,
   FLW_IPFIX_CFG, FLW_IPFIX_DOMAIN, FLW_IPFIX_COLL, FLW_IPFIX_COLL_ADDR,
   FLW_IPFIX_SRC, FLW_IPFIX_STATUS]
/-- The registers of block UPS. -/
def blockUPS : List Reg :=
  [UPS_CTRL, UPS_CFG, UPS_TEID_CFG, UPS_N3_ADDR,
   UPS_N3_CFG, UPS_BUF_CFG, UPS_EM_CFG, UPS_RATE_CFG,
   UPS_STATUS, UPS_BUF_STATUS, UPS_PROF]
/-- The registers of block EDT. -/
def blockEDT : List Reg :=
  [EDT_CTRL, EDT_CFG, EDT_BW_STATUS, EDT_MTU,
   EDT_SMAC_LO, EDT_SMAC_HI, EDT_MIRROR_CFG, EDT_MIRROR_RATE,
   EDT_MIRROR_NH, EDT_CAP_RING_CFG, EDT_CAP_RING_CTRL, EDT_CAP_WR,
   EDT_CAP_RD]
/-- The registers of block BPM. -/
def blockBPM : List Reg :=
  [BPM_CTRL, BPM_POOL_CFG, BPM_GLOBAL_MARK, BPM_SPILL_CFG,
   BPM_SPILL_STATUS, BPM_CHUNK_STATUS, BPM_POOL_STATUS, BPM_REJECT_INFO,
   BPM_REQ_QUOTA, BPM_REQ_USED, BPM_TIDE_MARK, BPM_FETCH_MARK,
   BPM_DROP_LIMIT, BPM_PORT_XOFF]
/-- The registers of block QUE. -/
def blockQUE : List Reg :=
  [QUE_QCFG, QUE_CTRL, QUE_CFG, QUE_QSEL,
   QUE_QSTATUS, QUE_QPKTS, QUE_QREDIR, QUE_RSQ_STATUS,
   QUE_PORT_CFG, QUE_PORT_STATUS]
/-- The registers of block SCH. -/
def blockSCH : List Reg :=
  [SCH_CTRL, SCH_CFG, SCH_ESEL, SCH_ECFG,
   SCH_EWEIGHT, SCH_ERATE, SCH_EBURST, SCH_ECMD,
   SCH_ESTATUS, SCH_EVTIME, SCH_PORT_CFG, SCH_POL_SEL,
   SCH_POL_CFG, SCH_POL_CIR, SCH_POL_PIR, SCH_POL_CBS,
   SCH_POL_EBS, SCH_POL_CMD, SCH_POL_TC, SCH_POL_TP]
/-- The registers of block HBC. -/
def blockHBC : List Reg :=
  [HBC_CTRL, HBC_ARB_CFG, HBC_RETRAIN_CFG, HBC_SCRUB_CFG,
   HBC_REPAIR_CFG, HBC_FAULT_CFG, HBC_SR_CFG, HBC_STATUS,
   HBC_PC_RETIRED, HBC_REPAIR_STATUS, HBC_FAULT_INFO]
/-- The registers of block LHT. -/
def blockLHT : List Reg :=
  [LHT_CTRL, LHT_KEEP, LHT_STATUS, LHT_TU,
   LHT_HOLD_TIME, LHT_TOD_CMD, LHT_TOD_SEC_HI, LHT_TOD_SEC_LO,
   LHT_TOD_NS, LHT_TOD_SUBNS, LHT_UTC, LHT_TIME_CFG,
   LHT_STEP_CFG, LHT_HOLD_CFG, LHT_SYNCE_CFG, LHT_SYNCE_OCTETS,
   LHT_RADIO_CFG, LHT_OSC_CFG, LHT_TEMP_CFG, LHT_TEMP,
   LHT_MODEL_CFG, LHT_MODEL_Y0, LHT_MODEL_D, LHT_MODEL_KT,
   LHT_MODEL_U0, LHT_MODEL_U1, LHT_WTR, LHT_PTP_CFG,
   LHT_REF_CFG, LHT_REF_FREQ, LHT_SYNCE_SRC, LHT_REF_STATUS,
   LHT_PPS_IN_ADJ, LHT_PPS_IN_CFG, LHT_PPS_OUT_CFG, LHT_PPS_OUT_ADJ,
   LHT_TOD_CFG]
/-- The registers of block PTP. -/
def blockPTP : List Reg :=
  [PTP_CTRL, PTP_CLK_CFG, PTP_CLK_ID_LO, PTP_CLK_ID_HI,
   PTP_CLASS_CFG, PTP_STATUS, PTP_PARENT_LO, PTP_PARENT_HI,
   PTP_GM_INFO, PTP_TRAP, PTP_SYNCE_CFG, PTP_SYNCE_QL,
   PTP_PORT_CFG, PTP_PORT_ASYM, PTP_PORT_STATUS, PTP_PORT_ADDR,
   PTP_UMT_ADDR, PTP_UMT_CFG]
/-- The registers of block KPR. -/
def blockKPR : List Reg :=
  [KPR_CTRL, KPR_WDT_CFG, KPR_CLUSTER_STATUS, KPR_UCODE,
   KPR_PATCH_CFG, KPR_ENGINE_STATUS, KPR_TASK, KPR_MBX_CTRL,
   KPR_MBX_CMD_BASE_LO, KPR_MBX_CMD_BASE_HI, KPR_MBX_CMD_SIZE, KPR_MBX_CMD_TAIL,
   KPR_MBX_CMD_HEAD, KPR_MBX_RPL_BASE_LO, KPR_MBX_RPL_BASE_HI, KPR_MBX_RPL_SIZE,
   KPR_MBX_RPL_TAIL, KPR_MBX_RPL_HEAD, KPR_MBX_NTF_BASE_LO, KPR_MBX_NTF_BASE_HI,
   KPR_MBX_NTF_SIZE, KPR_MBX_NTF_WR, KPR_MBX_NTF_RD]
/-- The registers of block FLT. -/
def blockFLT : List Reg :=
  [FLT_CTRL, FLT_SYS_CFG, FLT_PAIR_CFG, FLT_PAIR_STATUS,
   FLT_MIRROR_STATUS, FLT_MSEQ_TX, FLT_MSEQ_ACC, FLT_FENCE,
   FLT_STACK_STATUS, FLT_BUNDLE_CFG, FLT_BUNDLE_TIME, FLT_BUNDLE_STATUS]
/-- Every register of the map (Tables 29.2 to 29.7). -/
def all : List Reg :=
  blockSUP ++ blockRST ++ blockPWR ++ blockCLK ++ blockEVT ++ blockIMG ++
  blockRND ++ blockHST ++ blockDGN ++ blockTTB ++ blockLNE ++ blockPRT ++
  blockMSC ++ blockGTE ++ blockPRS ++ blockRBK ++ blockEXM ++ blockLPM ++
  blockLRN ++ blockFLW ++ blockUPS ++ blockEDT ++ blockBPM ++ blockQUE ++
  blockSCH ++ blockHBC ++ blockLHT ++ blockPTP ++ blockKPR ++ blockFLT

end Sys2Proof.Machine.Reg
end

