-- ==== Sys2Proof/Machine/Sparse.lean ====
section
/-! DEFINITION. A sparse table: a list of (key, value) pairs with strictly rising keys, so that equal
tables are equal data.  Every large memory of the device (registers off their reset value, counters,
record areas, buffer states, harbour bytes) is one of these; the manual's table supplies what an
unlisted key reads as. -/
namespace Sys2Proof.Machine

/-- A sparse table from natural-number keys. -/
abbrev Sparse (α : Type) := List (Nat × α)

/-- The entry at a key, when listed. -/
def Sparse.find {α : Type} : Sparse α → Nat → Option α
  | [], _ => none
  | (k', v) :: m, k => if k' = k then some v else if k < k' then none else Sparse.find m k

/-- The entry at a key, or the value an unlisted key reads as. -/
def Sparse.get {α : Type} (m : Sparse α) (k : Nat) (d : α) : α :=
  (Sparse.find m k).getD d

/-- List a value at a key, in place. -/
def Sparse.insert {α : Type} : Sparse α → Nat → α → Sparse α
  | [], k, v => [(k, v)]
  | (k', v') :: m, k, v =>
    if k' = k then (k, v) :: m
    else if k < k' then (k, v) :: (k', v') :: m
    else (k', v') :: Sparse.insert m k v

/-- Remove a key. -/
def Sparse.erase {α : Type} : Sparse α → Nat → Sparse α
  | [], _ => []
  | (k', v') :: m, k =>
    if k' = k then m
    else if k < k' then (k', v') :: m
    else (k', v') :: Sparse.erase m k

/-- Store a value, listing nothing that equals what an unlisted key reads as. -/
def Sparse.put {α : Type} [DecidableEq α] (m : Sparse α) (k : Nat) (v d : α) : Sparse α :=
  if v = d then Sparse.erase m k else Sparse.insert m k v

/-- Apply a function to a listed entry. -/
def Sparse.modify {α : Type} (m : Sparse α) (k : Nat) (f : α → α) : Sparse α :=
  match Sparse.find m k with
  | some v => Sparse.insert m k (f v)
  | none => m

/-- Keep the entries a test allows. -/
def Sparse.keep {α : Type} (m : Sparse α) (p : Nat → Bool) : Sparse α :=
  m.filter (fun e => p e.1)

/-- The keys rise strictly, each above the bound. -/
def Sparse.risesFrom {α : Type} : Nat → Sparse α → Bool
  | _, [] => true
  | b, (k, _) :: m => decide (b ≤ k) && Sparse.risesFrom (k + 1) m

/-- The canonical form: strictly rising keys. -/
def Sparse.wf {α : Type} (m : Sparse α) : Bool := Sparse.risesFrom 0 m

/-- No listed entry equals what an unlisted key reads as. -/
def Sparse.noDefault {α : Type} [DecidableEq α] (d : Nat → α) (m : Sparse α) : Bool :=
  m.all (fun e => decide (e.2 ≠ d e.1))

end Sys2Proof.Machine
end

