-- ==== Sys2Proof/Machine/StateFlow.lean ====
section
/-! DEFINITION. The state of the flow stage and the curd cache (spec 09), of the flow services (spec 10), of the session
stage (spec 11) and of the editor and capture writer (spec 12) beside their registers. -/
namespace Sys2Proof.Machine

/-- State of a way in use (R260); `absent` is a way whose fetch found no record, while a setup of it is decided (R268). -/
inductive WayState where
  | pending | absent | clean | dirty
  deriving DecidableEq, Repr

/-- A way of the curd cache in use: class, record index, key and contents. -/
structure Way where
  cls : Nat
  key : Nat
  idx : Nat
  state : WayState
  rec_ : BitVec 1024
  /-- When it became DIRTY (R271). -/
  dirtyAt : Nat
  /-- The tag of its fetch while that waits for its tide (R267). -/
  waits : Option Nat
  /-- Its setup waits in the slice's setup queue, or in a reseed. -/
  setup : Bool
  /-- Packets that used it in STATE NEW and have no end status yet (R269). -/
  users : Nat
  deriving DecidableEq, Repr

/-- A parking chain of a pipeline on a record (R262), oldest packet first. -/
structure Chain where
  pipe : Nat
  cls : Nat
  key : Nat
  pkts : List Nat
  /-- Packets at its head that parked before the record became HELD (R276). -/
  before : Nat
  deriving DecidableEq, Repr

/-- A setup in a slice's queue (R268): the packet that caused it and what its record takes from that packet. -/
structure Setup where
  pkt : Nat
  cls : Nat
  key : Nat
  port : Nat
  initSide : Bool
  /-- TCP_STATE it starts in. -/
  tcp : Nat
  /-- The group is locked for it (R259). -/
  reseed : Bool
  deriving DecidableEq, Repr

/-- A removal that waits for its chains (R276): its END_REASON and the mailbox command it answers. -/
structure Removal where
  cls : Nat
  key : Nat
  reason : Nat
  tag : Option Nat
  deriving DecidableEq, Repr

/-- An IPFIX data record waiting (R310): its collector, template, and its bytes. -/
structure IpfixRec where
  coll : Nat
  tpl : Nat
  bytes : List (BitVec 8)
  deriving DecidableEq, Repr

/-- The flow stage, the curd cache and the services. -/
structure Flw where
  /-- Records in the flow area of harbour memory by record index; an unlisted slot is all zero (R254).  A cleared slot
  keeps its bits but VALID, so that GEN goes on. -/
  area : Sparse (BitVec 1024)
  /-- The generation last given to a slot by record index; that of the slot in the flow area where none is listed (R254). -/
  gens : Sparse Nat
  /-- Placement seeds by group, and the keepers' copy of them in the table-shadow area (R258). -/
  seeds : Sparse Nat
  seedCopy : Sparse Nat
  /-- Ways in use by slice * 6,144 + set, least recently used first (R261). -/
  sets : Sparse (List Way)
  /-- Misses that wait for a way, oldest first: packet number, and whether it waits for room in the whey buffer, by slice *
  6,144 + set (R261, R270). -/
  stalled : Sparse (List (Nat × Bool))
  chains : List Chain
  /-- Setups by slice, oldest first (R268), and when the slice last set a flow up. -/
  setupQ : Sparse (List Setup)
  setupAt : Sparse Nat
  /-- Locked groups; true while the seed of one is being restored (R259, Table 9.4). -/
  locked : Sparse Bool
  /-- Whey buffers by slice, oldest first: class, key, index and record (R270). -/
  whey : Sparse (List (Nat × Nat × Nat × BitVec 1024))
  removals : List Removal
  /-- Expiry walk: when the next is due, the group it visits next, whether the running one overran (R274). -/
  walkAt : Nat
  walkPos : Option Nat
  walkDue : Bool
  /-- When the running walk started: it paces itself evenly over its period. -/
  walkFrom : Nat
  /-- Setup tokens per class in thousandths of a core clock's millisecond share, with the time they were brought up to date
  (R290); an unlisted bucket is full. -/
  tokens : Sparse (Nat × Nat)
  /-- Free blocks of a pool from head to tail (R297); an unlisted pool holds all its blocks in order. -/
  freeBlocks : Sparse (List Nat)
  /-- Ports in use, a bitmap by pool * 65,536 + block. -/
  portMap : Sparse Nat
  /-- Bindings that a keeper completes (R298): class and key of their OUT records, oldest first. -/
  binding : List (Nat × Nat)
  /-- IPFIX queue, sequence number, and when templates were last sent per collector (R311, R312). -/
  ipfix : List IpfixRec
  ipfixSeq : Nat
  templateAt : Sparse Nat
  /-- Side that sent the first FIN of a flow in FIN_ONE, true for the initiator, by class + 16 * key (Table 10.5: the next
  state depends on it, and the record has no field for it). -/
  finSide : Sparse Bool
  deriving DecidableEq, Repr

/-- The buffer of a session (R335, R338). -/
structure SessBuf where
  /-- Buffered packets with their arrival time, oldest first. -/
  pkts : List (Nat × Nat)
  /-- When the replay sends its next packet at the earliest. -/
  nextAt : Nat
  deriving DecidableEq, Repr

/-- A packet in the keepers' buffer queue (R336, R337): its session, and what a notification for it says; `notify` is NOCP. -/
structure BufItem where
  pkt : Nat
  session : Nat
  notify : Bool
  pdrId : Nat
  qfi : Nat
  deriving DecidableEq, Repr

/-- An Error Indication a keeper owes (R341). -/
structure ErrInd where
  v6 : Bool
  /-- The N3 address, and the sender's address. -/
  n3 : Nat
  peer : Nat
  teid : Nat
  deriving DecidableEq, Repr

/-- An End Marker that a keeper owes (R342). -/
structure EndMarker where
  session : Nat
  nh : Nat
  teid : Nat
  due : Nat
  deriving DecidableEq, Repr

/-- A reply of a session operation that waits until the twin has accepted its last write (R345). -/
structure OwedReply where
  session : Nat
  tag : Nat
  status : Nat
  detail : Nat
  data : Nat
  deriving DecidableEq, Repr

/-- The session stage. -/
structure Ups where
  /-- Session records by index, all four blocks; the head of a resident session lies in the curd cache (R320, R326). -/
  recs : Sparse (BitVec 4096)
  /-- Buffered packets per session. -/
  bufs : Sparse SessBuf
  /-- Settle requests: session and URR, oldest first, with the step that is due (R332, R333). -/
  settles : List (Nat × Nat × Bool)
  /-- The keepers' buffer queue, oldest first. -/
  bufQ : List BufItem
  /-- Reports and notifications held for space in the ring: kind and payload (R334, R337). -/
  held : List (Nat × Nat)
  markers : List EndMarker
  /-- Error Indications due, oldest first. -/
  answers : List ErrInd
  /-- The second in which answers were last counted, and their number, per kind (R340, R341). -/
  rate : Sparse (Nat × Nat)
  owed : List OwedReply
  /-- The clock in which packets of sessions were last decided, and those sessions (R338). -/
  decidedAt : Nat
  decided : List Nat
  /-- Mirrored sessions whose retained head failed its check and is still to come from the twin (R346). -/
  lost : List Nat
  deriving DecidableEq, Repr

/-- The editor and the capture writer. -/
structure Edt where
  /-- Identification counter per pipeline (Table 12.5). -/
  ident : Sparse Nat
  /-- Packets counted per pipeline * 8 + session since EN was last written (R365). -/
  mirrorCount : Sparse Nat
  /-- Capture writer's buffer per capture port (0: 102, 1: 103): copies, oldest first (R370). -/
  capBuf : Sparse (List Nat)
  /-- LOST per ring: records lost since the last one written (R369). -/
  lost : Sparse Nat
  /-- Records in the capture area by ring * 2^32 + place: descriptor and bytes (Table 12.6). -/
  ring : Sparse (BitVec 512 × List (BitVec 8))
  deriving DecidableEq, Repr

/-- The flow stage after reset: nothing cached, nothing parked, every seed 0. -/
def Flw.init : Flw :=
  { area := [], gens := [], seeds := [], seedCopy := [], sets := [], stalled := [], chains := [], setupQ := [], setupAt := [], locked := [],
    whey := [], removals := [], walkAt := 0, walkPos := none, walkDue := false, walkFrom := 0, tokens := [], freeBlocks := [],
    portMap := [], binding := [], ipfix := [], ipfixSeq := 0, templateAt := [], finSide := [] }
/-- The session stage after reset. -/
def Ups.init : Ups :=
  { recs := [], bufs := [], settles := [], bufQ := [], held := [], markers := [], answers := [], rate := [], owed := [],
    decidedAt := 0, decided := [], lost := [] }
/-- The editor after reset. -/
def Edt.init : Edt := { ident := [], mirrorCount := [], capBuf := [], lost := [], ring := [] }

end Sys2Proof.Machine
end

