-- ==== Sys2Proof/Machine/StateHbc.lean ====
section
/-! DEFINITION. The state of the harbour memory controllers (spec 19) beside the HBC registers. -/
namespace Sys2Proof.Machine

/-- A request in a pseudo-channel's reorder window, or in the crossing queue before it (R550, R551). -/
structure HbReq where
  cls : Nat
  prio : Nat
  write : Bool
  addr : Nat
  len : Nat
  at_ : Nat
  /-- It is served as class 0 (R552). -/
  promoted : Bool
  /-- Times a younger request went ahead of it (R551). -/
  passed : Nat
  deriving DecidableEq, Repr

/-- A row that has shown errors (R564): corrected errors in this scrub period, and whether a burst was uncorrectable. -/
structure HbRow where
  ce : Nat
  ue : Bool
  deriving DecidableEq, Repr

/-- The controllers; rows are keyed by pseudo-channel * 2^22 + row. -/
structure Hbc where
  /-- Requests by pseudo-channel, oldest first, and those issued and not yet answered. -/
  wins : Sparse (List HbReq)
  busy : Sparse (List HbReq)
  rows : Sparse HbRow
  /-- Rows that HB_REPAIR has named (R564). -/
  asked : Sparse Bool
  /-- The repair list (R565). -/
  repaired : Sparse Bool
  /-- Uncorrectable errors per pseudo-channel: row and when, newest first (R567). -/
  ues : Sparse (List (Nat × Nat))
  /-- Failed trainings in a row, when the last pause was, and the temperature at the last full retrain, per pseudo-channel
  (R557 to R560). -/
  trainFails : Sparse Nat
  pauseAt : Sparse Nat
  trainTemp : Sparse Int
  /-- The pseudo-channel of a stack that pauses last, and until when (R557); row repairs by pseudo-channel: the row, and until when its
  bank is held (R565). -/
  pausing : Sparse (Nat × Nat)
  repairing : Sparse (Nat × Nat)
  /-- Last refresh of a bank, by pseudo-channel * 64 + bank. -/
  refreshed : Sparse Nat
  /-- When a stack's temperature was last read, and the thresholds (85, 95) that its rate still answers to. -/
  tempAt : Sparse Nat
  /-- Scrub position of a stack in bursts, and when it last read. -/
  scrubPos : Sparse Nat
  scrubAt : Sparse Nat
  /-- When a stack began to enter self-refresh (R570). -/
  entering : Sparse Nat
  deriving DecidableEq, Repr

/-- The controllers after a cold reset. -/
def Hbc.init : Hbc :=
  { wins := [], busy := [], rows := [], asked := [], repaired := [], ues := [], trainFails := [], pauseAt := [], trainTemp := [],
    pausing := [], repairing := [], refreshed := [], tempAt := [], scrubPos := [], scrubAt := [], entering := [] }

end Sys2Proof.Machine
end

