-- ==== Sys2Proof/Machine/StateKpr.lean ====
section
/-! DEFINITION. The state of the keeper cluster and of the host mailbox (spec 21) beside the KPR registers. -/
namespace Sys2Proof.Machine

/-- A change of a replicated table that has begun (R38): the command that makes it, the pipelines still to be written, first one next,
what it replaced in each written one, last one first (R210: an exact-match entry or a route's word, none where there was none), and the
shadowed blocks it is writing now, by pipeline and key (R245). -/
structure Change where
  what : Instr
  left : List Nat
  undo : List (Nat × Option (BitVec 512))
  busy : List (Nat × Nat)
  deriving DecidableEq, Repr

/-- A mailbox command in flight (R611 to R616). -/
structure MbxCmd where
  tag : Nat
  opcode : Nat
  irq : Bool
  pipe : Nat
  all : Bool
  timeoutMs : Nat
  resultAddr : Nat
  /-- What names its serial domain beside the opcode: pipeline, port, group, record or session (Table 21.4). -/
  domain : Nat
  fetchedAt : Nat
  started : Bool
  /-- Elements committed (R610). -/
  done : Nat
  /-- It has sent a reply that is not its last: the OK of a BEGIN, which lets the next command of its domain start (R613). -/
  answered : Bool
  /-- The table change it has begun (R38). -/
  change : Option Change
  deriving DecidableEq, Repr

/-- A reply waiting to be written (Table 21.5). -/
structure Reply where
  tag : Nat
  opcode : Nat
  status : Nat
  done : Nat
  detail : Nat
  data : Nat
  irq : Bool
  /-- The command's last reply. -/
  final : Bool
  deriving DecidableEq, Repr

/-- A notification waiting to be written (R618); `hold` says that it is held, not dropped, when the ring is full. -/
structure Note where
  kind : Nat
  payload : Nat
  hold : Bool
  /-- The pipeline or pool whose counter counts a drop. -/
  src : Nat
  deriving DecidableEq, Repr

/-- A keeper engine beside KPR_ENGINE_STATUS (R598, R599, R605). -/
structure Engine where
  /-- The task it executes: it switches only at a YIELD or a WAIT (R598). -/
  cur : Option Nat
  /-- Instructions executed since HOLD, while a hold is open. -/
  hold : Option Nat
  /-- The staging buffer, in program order. -/
  staged : List KChange
  /-- Stopped at a quiet point for a patch (R609). -/
  stopped : Bool
  /-- Times of its lock-ups, newest first. -/
  lockups : List Nat
  /-- When its reset began. -/
  resetAt : Option Nat
  /-- The uncorrectable control-store word it has fetched: it waits for its restore (R595). -/
  fetch : Option Nat
  deriving DecidableEq, Repr

/-- A RELEASE at the commit port (R600): its task and generation, its changes, and when it arrived. -/
structure Commit where
  task : Nat
  gen : Nat
  changes : List KChange
  since : Nat
  deriving DecidableEq, Repr

/-- A patch waiting for the quiet point (R609): its command, its words, its manifest's digest, and its security version when COMMIT
is set (R666). -/
structure Patch where
  tag : Nat
  words : List (Nat × BitVec 256)
  digest : BitVec 384
  svn : Option Nat
  since : Nat
  deriving DecidableEq, Repr

/-- The keeper cluster. -/
structure Kpr where
  inFlight : List MbxCmd
  replies : List Reply
  notes : List Note
  /-- Packets handed to the keepers at port 101, with the slice and buffers they hold (R384). -/
  inbox : List (Nat × Nat × List Nat)
  engines : Sparse Engine
  commitQ : List Commit
  /-- When the commit port last committed. -/
  lastCommit : Nat
  /-- Tasks that have to move, with the time of the request and the TASK_MOVE command that waits (R604). -/
  moves : List (Nat × Nat × Option Nat)
  /-- Per task: when it last moved (R603), and when it last executed YIELD, WAIT or BEAT (R605). -/
  movedAt : Sparse Nat
  progress : Sparse Nat
  /-- Results of the tasks' current generation that have returned and have not been sampled yet: the tasks (R598, R603). -/
  results : List Nat
  /-- Times of the cluster's lock-ups, newest first, and when the running cluster reset began (R606, R607). -/
  locks : List Nat
  resetAt : Option Nat
  /-- The last heartbeat, and since when the supervisor watchdog waits for one (R606, R607). -/
  beatAt : Nat
  wdtFrom : Option Nat
  /-- Control-store words a patch has replaced; every other word is the image's (R608). -/
  patched : Sparse (BitVec 256)
  /-- Uncorrectable words waiting for their restore, with when each was found (R595), and the walker's next word and time. -/
  csBad : Sparse Nat
  csPos : Nat
  csAt : Nat
  patch : Option Patch
  deriving DecidableEq, Repr

/-- An engine with nothing open. -/
def Engine.init : Engine := ⟨none, none, [], false, [], none, none⟩
/-- The keeper cluster after reset. -/
def Kpr.init : Kpr :=
  { inFlight := [], replies := [], notes := [], inbox := [], engines := [], commitQ := [], lastCommit := 0, moves := [], movedAt := [],
    progress := [], results := [], locks := [], resetAt := none, beatAt := 0, wdtFrom := none, patched := [], csBad := [], csPos := 0, csAt := 0,
    patch := none }

end Sys2Proof.Machine
end

