-- ==== Sys2Proof/Machine/StatePkt.lean ====
section
/-! DEFINITION. A packet on its way through the device (spec 01, the path of a packet): what each step has attached to
it.  A packet is named by a number given when its frame starts. -/
namespace Sys2Proof.Machine

/-- Where a packet is bound after its lookups and edits (R206). -/
inductive Dest where
  | none
  | drop
  | port (p : Nat)
  | group (g : Nat)
  | nextHop (nh : Nat)
  deriving DecidableEq, Repr

/-- The use a packet makes of a flow record (spec 09, 10): what its good end status commits on it. -/
structure FlowUse where
  cls : Nat
  key : Nat
  /-- H_F of the record (R257). -/
  hash : Nat
  /-- It took its next hop from a load-balance group by its bucket: group, member slot, generation (R292). -/
  pin : Option (Nat × Nat × Nat)
  /-- The TCP state it moves to, and the STATE that goes with it (R306). -/
  tcp : Option (Nat × Nat)
  /-- Bits [7:0] of its TCP flags. -/
  flags : Nat
  /-- The record was in STATE NEW when it used it (R269). -/
  wasNew : Bool
  /-- It is the first FIN of its flow: the initiator sent it (Table 10.5). -/
  fin : Option Bool
  deriving DecidableEq, Repr

/-- The NAT rewrite handed to the editor (Table 10.4). -/
structure NatRw where
  role : Nat
  /-- Header level of the class. -/
  level : Nat
  addr : Nat
  port : Nat
  inside6 : Nat
  /-- Pool prefix, 96 bits, for NAT64_IN. -/
  prefix6 : Nat
  deriving DecidableEq, Repr

/-- The session decision (Table 11.4 row 8). -/
structure SessUse where
  idx : Nat
  downlink : Bool
  far : BitVec 64
  octets : Nat
  urrs : Nat
  /-- The QER of the direction is charged at the good end status. -/
  charge : Bool
  deriving DecidableEq, Repr

/-- What a packet looks up in the curd cache: the flow record of its class, the UE record of a downlink packet, or the head
of its session (R325, R326). -/
inductive Seek where
  | record
  | ue
  | head (downlink : Bool)
  deriving DecidableEq, Repr

/-- Where a packet waits in a chain (R262): what it waits on, since when. -/
structure ParkAt where
  cls : Nat
  key : Nat
  seek : Seek
  since : Nat
  deriving DecidableEq, Repr

/-- A capture copy: its ring, mirror session and point (Table 12.6). -/
structure CapUse where
  ring : Nat
  session : Nat
  point : Nat
  /-- Bytes by which the edits made the frame longer. -/
  grew : Int
  deriving DecidableEq, Repr

/-- A PTP event message on its way out (R113): one-step or two-step, its sequence tag, the offset of its PTP header, and that of
its UDP checksum. -/
structure PtpTx where
  oneStep : Bool
  tag : Nat
  off : Nat
  udp : Option Nat
  deriving DecidableEq, Repr

/-- What the parser reads from its registers for a packet, as they stand when its parse starts (R157). -/
structure ParseCfg where
  vxlan : Nat
  gtpu : Nat
  ecpri : Nat
  mplsPayload : Nat
  /-- Enabled PRS_EXP_MATCH entries: ETYPE, VID, VID_ANY. -/
  exp : List (Nat × Nat × Bool)
  /-- DEEP_ACT and MAL_ACT of its port (R154). -/
  deepAct : Nat
  malAct : Nat
  deriving DecidableEq, Repr

/-- A configuration that looks for nothing. -/
def ParseCfg.init : ParseCfg := ⟨0, 0, 0, 0, [], 0, 0⟩

/-- Where a packet stands on its path (spec 01). -/
inductive PStage where
  /-- In its port's ingress FIFO, or in the backwash queue, waiting for a head slot. -/
  | fifo
  /-- Its head has been handed to the parser. -/
  | parsing
  /-- The parse result has been delivered; the lookups run. -/
  | parsed
  /-- An express packet whose express lookup runs. -/
  | express
  /-- The lookup results are merged: at the flow stage. -/
  | flow
  /-- Waiting in a parking chain. -/
  | parked
  /-- Its record has been delivered: at the flow services. -/
  | service
  /-- Its session head has been delivered: at the session stage. -/
  | session
  /-- Decided BUFF: in the keepers' buffer queue, or in the buffer area (R336). -/
  | buffered
  /-- With the keepers, to be answered (R340). -/
  | kept
  /-- At the policer, and then at the editor. -/
  | policer
  | edit
  /-- Edited: at the cell writer. -/
  | cells
  /-- A copy in the capture writer's buffer. -/
  | capture
  /-- Its cells cross the planes, or it stands in a queue of a slice. -/
  | tm
  /-- In an express queue. -/
  | expq
  /-- Taken by the transmit side of its port. -/
  | out
  /-- Discarded before its end status arrived. -/
  | dead
  deriving DecidableEq, Repr

/-- A packet. -/
structure Packet where
  stage : PStage
  /-- INGRESS_PORT, kept across passes (R27). -/
  port : Nat
  /-- Pipeline in which it is processed. -/
  pipe : Nat
  /-- Pass of the pipeline, 0 or 1 (R27). -/
  pass : Nat
  /-- An express packet (R152). -/
  express : Bool
  /-- Receive timestamp, in the units of the time of day (R110 to R112). -/
  ts : Int
  /-- The verdict its MAC attached to its last data: true when errored; none while it is being received (R89). -/
  ended : Option Bool
  /-- The row of Table 3.1 of an errored frame; 0 for any other (R89). -/
  endRow : Nat
  /-- An untagged EAPOL frame of a port with MACsec: it goes to the keepers (R118). -/
  uncontrolled : Bool
  /-- Frame bytes without FCS, as received and then as edited. -/
  frame : List Byte
  /-- The frame as the parser saw it on this pass. -/
  orig : List Byte
  /-- Data length in bytes, once the frame has ended. -/
  len : Nat
  /-- End status: none while it has not reached the packet; true when errored (R89). -/
  status : Option Bool
  /-- Class (R206 step 4). -/
  cls : Nat
  /-- Queue tag (R410). -/
  tag : Nat
  dest : Dest
  /-- PFC priority under which its cells count (R397). -/
  prio : Nat
  /-- Cells counted for its ingress port and priority. -/
  ingCells : Nat
  /-- The parser's configuration when its parse started (R157). -/
  pcfg : ParseCfg
  /-- Parse result (Table 5.4). -/
  parse : BitVec 256
  /-- Policer named by the merged action, and the colour (0 green, 1 yellow, 2 red) with the tokens reserved (R452). -/
  policer : Option Nat
  colour : Option (Nat × Nat)
  /-- DSCP the policer writes at step 5 of Table 12.3 (R455). -/
  polDscp : Option Nat
  /-- Set by a colour action of DROP. -/
  polDrop : Bool
  /-- Its place in the order in which packets reached the policers (R451). -/
  polAt : Nat
  /-- Reason code and further word at the host port (Table 24.5), 0 for a packet forwarded there. -/
  reason : Nat
  aux : Nat
  /-- The packet a copy was made of: its end status is this packet's. -/
  copyOf : Option Nat
  /-- Bytes that still arrive belong to it. -/
  grows : Bool
  /-- Rule-set epoch stamp, and the slot it is counted in flight in (R178, R181). -/
  stamp : Option Nat
  inSlot : Option Nat
  /-- Profile of this pass (R169); none when the rule stage is off. -/
  profile : Option Nat
  /-- Merged action word (R175). -/
  act : BitVec 64
  /-- Rule indices that won lookups, and the winner of LK0 (R193, Table 12.6). -/
  won : List Nat
  rule0 : Option Nat
  /-- META of the deciding exact-match entry (R198). -/
  emMeta : BitVec 128
  /-- Learn notification waiting for the end status (R228). -/
  note : Option (BitVec 128)
  flow : Option FlowUse
  sess : Option SessUse
  nat : Option NatRw
  park : Option ParkAt
  /-- The flow service asks for a hairpin pass (R303). -/
  hairpin : Bool
  /-- A replay of the session's buffer (R338): its session index. -/
  replay : Option Nat
  /-- Length at which the end status cuts the frame (R358). -/
  cut : Option Nat
  cap : Option CapUse
  /-- VID an express entry writes into the outer tag (R522). -/
  expVid : Option Nat
  /-- Transmit checksum request: offsets of the IPv4 header and of the L4 header, and whether that is TCP (R95). -/
  csum : Option (Nat × Nat × Bool)
  /-- A PTP event message. -/
  ptpTx : Option PtpTx
  /-- It commits nothing at its end status. -/
  void : Bool
  deriving DecidableEq, Repr

/-- A packet with nothing attached. -/
def Packet.init : Packet :=
  { stage := .fifo, port := 0, pipe := 0, pass := 0, express := false, ts := 0, ended := none, endRow := 0, uncontrolled := false, frame := [], orig := [], len := 0,
    status := none, cls := 0, tag := 0, dest := .none, prio := 0, ingCells := 0, pcfg := ParseCfg.init, parse := 0, policer := none,
    colour := none, polDscp := none, polDrop := false, polAt := 0, reason := 0, aux := 0, copyOf := none, grows := true,
    stamp := none, inSlot := none, profile := none, act := 0, won := [], rule0 := none, emMeta := 0, note := none,
    flow := none, sess := none, nat := none, park := none, hairpin := false, replay := none, cut := none, cap := none, expVid := none,
    csum := none, ptpTx := none, void := false }

end Sys2Proof.Machine
end

