-- ==== Sys2Proof/Machine/StatePort.lean ====
section
/-! DEFINITION. The state of the ports: link, ingress FIFO and MACs (spec 02, 03), SecY and MKA (spec 04), gates, express
queue and preemption (spec 18), beside the LNE, PRT, MSC and GTE registers. -/
namespace Sys2Proof.Machine

/-- A frame in an ingress FIFO (R47): its packet, arbiter level (0 HIGH, 1 MID, 2 LOW), bytes arrived, bytes handed to the
pipeline, and whether its start has been handed over. -/
structure FifoEnt where
  pkt : Nat
  level : Nat
  got : Nat
  sent : Nat
  started : Bool
  deriving DecidableEq, Repr

/-- What becomes of a frame in reception. -/
inductive RxWhat where
  /-- Admitted: a packet of the pipeline. -/
  | packet (n : Nat)
  /-- A MAC control frame or an ebb frame (R47). -/
  | control
  /-- Dropped by the arbiter (R49), or received while the port is not UP (R57). -/
  | lost
  deriving DecidableEq, Repr

/-- What the SecY finds when a frame's SecTAG arrives (R129): the index of its receive SC and the full packet number of its SA, when
that is in use; a packet number below the lowest acceptable one; and one equal to that of a preempted frame still in reassembly. -/
structure SecFound where
  sc : Option Nat
  pn : Option Nat
  late : Bool
  dup : Bool
  deriving DecidableEq, Repr

/-- A frame in reception. -/
structure RxFrame where
  what : RxWhat
  level : Nat
  bytes : List Byte
  /-- Truncated by the arbiter (R50). -/
  truncated : Bool
  tag : Option SecTag
  /-- What the SecY found when its SecTAG arrived (R128, R129, R134). -/
  sec : SecFound
  /-- A crossing queue of its lanes lost data of it (R36, EVT 2.2). -/
  hurt : Bool
  deriving DecidableEq, Repr

/-- A frame taken by the transmit MAC: a queued item, or an express packet. -/
structure TxFrame where
  item : Option Nat
  pkt : Nat
  cls : Nat
  slice : Nat
  queue : Nat
  /-- Bytes sent on the wire with FCS, once it has started. -/
  len : Option Nat
  /-- It goes through the preemptable MAC and has been preempted. -/
  preempted : Bool
  /-- Cut-through, with its end status not yet known at its start. -/
  cutThrough : Bool
  /-- Cells of the express buffer it holds (R519), and the VID the transmit path writes (R522). -/
  cells : Nat
  vid : Option Nat
  /-- When it started, and the bytes sent in earlier fragments. -/
  startAt : Nat
  done : Nat
  /-- Its bytes as they go out, with FCS, once they are known; its number on the preemptable MAC, when it goes through that, and the
  fragments sent (R96, R117). -/
  wire : List Byte
  pmac : Option Nat
  frags : Nat
  /-- The SA it began under, and its packet number (R134). -/
  sa : Option (Nat × Nat)
  deriving DecidableEq, Repr

/-- What a lane's transmitter puts out (Table 2.4). -/
inductive LaneOut where
  | electricalIdle
  | prbs (pattern : Nat)
  /-- Auto-negotiation, advertising a port type and EEE, and link training (R53, R75). -/
  | negotiation (type : Nat) (eee : Bool)
  | idles
  | remoteFault
  | lowPowerIdle
  | frames
  | fleit
  deriving DecidableEq, Repr

/-- An open ebb request of this device: its type (Table 2.5), sequence number, target and time. -/
structure EbbReq where
  kind : Nat
  seq : Nat
  target : Nat
  at_ : Nat
  deriving DecidableEq, Repr

/-- A width change of this device's transmit side that has been agreed (Table 2.6): the width (log2), the number of the request, and
whether SWITCH has been sent. -/
structure EbbSwitch where
  target : Nat
  seq : Nat
  sent : Bool
  deriving DecidableEq, Repr

/-- Lane ebb of a port (R63 to R71). -/
structure Ebb where
  /-- HELLOs left to send, when the next one is due, and since when the 10 ms run. -/
  helloLeft : Nat
  helloAt : Nat
  helloFrom : Option Nat
  /-- A HELLO with the ebb bit has arrived. -/
  heard : Bool
  seq : Nat
  req : Option EbbReq
  /-- A restore waits for a shed to complete (R69). -/
  restoreDue : Bool
  lastRestore : Option Nat
  /-- The agreed change of the transmit side, which takes effect at the next alignment marker after SWITCH. -/
  switchTo : Option EbbSwitch
  /-- The partner's open request: type, number and target, and its announced switch. -/
  peerReq : Option EbbReq
  peerSwitch : Option Nat
  /-- The partner's transmit width, log2. -/
  rxWidth : Nat
  /-- Received messages not yet processed. -/
  inbox : List (BitVec 128)
  deriving DecidableEq, Repr

/-- A receive secure channel (R125): its SCI, whether it is implicit, and the next PN of each SA in use. -/
structure RxSc where
  /-- Its place among the 8 of the port. -/
  idx : Nat
  sci : BitVec 64
  implicitSc : Bool
  sas : Sparse Nat
  deriving DecidableEq, Repr

/-- An MKA peer (R125, R132, R133). -/
structure MkaPeer where
  sci : BitVec 64
  member : Nat
  ksPrio : Nat
  live : Bool
  lastAt : Nat
  /-- The association number whose receipt it has reported. -/
  reported : Option Nat
  /-- The key store slots of the CAKs under which it has been heard (R678). -/
  caks : List Nat
  deriving DecidableEq, Repr

/-- The SecY and MKA of a port (spec 04). -/
structure SecY where
  /-- Next PN of each transmit SA in use, by AN. -/
  txSas : Sparse Nat
  rx : List RxSc
  peers : List MkaPeer
  /-- When the next MKPDU is due. -/
  helloAt : Nat
  /-- The second in which MKPDUs were last counted, and their number (R133). -/
  pduSec : Nat
  pdus : Nat
  /-- The AN whose SAK has been installed for receive and waits for every peer (R134). -/
  pending : Option Nat
  /-- The key server owes a new SAK. -/
  rekeyDue : Bool
  /-- Old ANs in use for receive, each until a time (R134). -/
  linger : List (Nat × Nat)
  /-- The AN of the latest SAK installed, which the port's MKPDUs report, and the SAK that this key server distributes. -/
  latest : Option Nat
  dist : Option Nat
  /-- SAKs by AN, held by the rind (R131). -/
  saks : Sparse (BitVec 256)
  /-- By AN: the key store slot of the CAK whose association distributed the SAK (R678). -/
  cakAn : Sparse Nat
  /-- This participant's message number, which rises with each MKPDU sent. -/
  member : Nat
  deriving DecidableEq, Repr

/-- A gate control list in force or pending (R533, R535), times in the units of the time of day. -/
structure GateList where
  start : Nat
  cycleNs : Nat
  extNs : Nat
  len : Nat
  deriving DecidableEq, Repr

/-- An express frame in its queue (R519). -/
structure ExpEnt where
  pkt : Nat
  cells : Nat
  /-- It is being cut through (R523). -/
  cut : Bool
  vid : Option Nat
  /-- When it joined the queue. -/
  at_ : Nat
  deriving DecidableEq, Repr

/-- The gates, express queue and MAC merge of a port (spec 18). -/
structure Gte where
  queue : List ExpEnt
  /-- List banks of 128 entries, by bank * 128 + index. -/
  bank : Sparse (BitVec 64)
  /-- Entries that failed ECC, by bank * 128 + index (R541). -/
  badEntry : Sparse Bool
  oper : Option GateList
  pending : Option GateList
  /-- The operational bank, the change time last computed (R535), and the cycle and entry last begun. -/
  active : Bool
  changeAt : Nat
  cycleNo : Option Int
  entryNo : Option (Int × Nat)
  /-- The fallback gates apply until this time, after a step (R537). -/
  fallbackUntil : Option Nat
  /-- The pending change time is computed again when the fallback ends (R537). -/
  redo : Bool
  /-- Verify mPackets sent, and when the next is due (R527). -/
  verifySent : Nat
  verifyAt : Nat
  /-- The MAC merge hold is asserted (R533). -/
  merge : Bool
  /-- EXP_EN was cleared: queued frames are sent until this time (R540). -/
  drainUntil : Option Nat
  /-- Frames begun on the preemptable MAC, modulo 4. -/
  frames : Nat
  deriving DecidableEq, Repr

/-- A port. -/
structure Port where
  pcsUp : Bool
  /-- When the port entered its state. -/
  since : Nat
  /-- Auto-negotiation and training have completed (R822). -/
  trained : Bool
  anStart : Nat
  /-- Consecutive failed attempts, and whether EVT 3.2 has been raised (R55). -/
  anFails : Nat
  anRaised : Bool
  /-- Both ends have advertised EEE (R75). -/
  eee : Bool
  /-- Fault conditions present (0 local, 1 remote, 2 high BER, 3 lock or alignment) and since when (R59). -/
  faults : List Nat
  faultSince : Option Nat
  /-- Disabled with frames in its FIFO until this time (R52): the packets numbered below `drainPkt`. -/
  drainUntil : Option Nat
  drainPkt : Nat
  rx : Option RxFrame
  /-- A preemptable frame in reassembly (R117). -/
  rxp : Option RxFrame
  tx : Option TxFrame
  /-- A preempted frame waiting for its next fragment (R107, R529). -/
  txp : Option TxFrame
  /-- When the last frame's last byte left, and what was sent in the window of R68: time and bits, newest first. -/
  txEnd : Nat
  txLog : List (Nat × Nat)
  ebb : Ebb
  /-- In low-power idle since (R74), and the end of the wake time. -/
  lpi : Option Nat
  wakeUntil : Nat
  /-- Received holds: link pause, and PFC by priority, with when each began (R99, R100, R105). -/
  pauseUntil : Option Nat
  pfcUntil : Sparse Nat
  holdFrom : Sparse Nat
  /-- Classes whose storm has been raised in the present hold, and priorities ignored until a time (R105). -/
  stormed : Sparse Bool
  recover : Sparse Nat
  /-- Held time is counted up to here (TX_HELD_NS). -/
  heldMark : Nat
  /-- Generated frames waiting: time field per priority (8 for link pause), and when the last bit of each was last sent, with the time
  field it had (R106, R107). -/
  gen : Sparse Nat
  genSent : Sparse (Nat × Nat)
  /-- Transmit timestamps returned to the keepers: tag and time (R113). -/
  txStamps : List (Nat × Nat)
  secy : SecY
  gte : Gte
  deriving DecidableEq, Repr

/-- The ingress arbiter of a pipeline (R51, R823). -/
structure Arb where
  /-- Ports whose head frame has started, in the order in which they started. -/
  started : List Nat
  /-- Round-robin position among HIGH heads, and deficit position and deficits among the others. -/
  rrAt : Nat
  drrAt : Nat
  deficit : Sparse Int
  deriving DecidableEq, Repr

/-- Lane ebb after reset. -/
def Ebb.init : Ebb :=
  { helloLeft := 0, helloAt := 0, helloFrom := none, heard := false, seq := 0, req := none, restoreDue := false,
    lastRestore := none, switchTo := none, peerReq := none, peerSwitch := none, rxWidth := 0, inbox := [] }
/-- The SecY after reset: no SA in use (R137). -/
def SecY.init : SecY :=
  { txSas := [], rx := [], peers := [], helloAt := 0, pduSec := 0, pdus := 0, pending := none, rekeyDue := false,
    linger := [], latest := none, dist := none, saks := [], cakAn := [], member := 0 }
/-- Gates and express queue after reset. -/
def Gte.init : Gte :=
  { queue := [], bank := [], badEntry := [], oper := none, pending := none, active := false, changeAt := 0,
    cycleNo := none, entryNo := none, fallbackUntil := none, redo := false, verifySent := 0,
    verifyAt := 0, merge := false, drainUntil := none, frames := 0 }
/-- A port after reset. -/
def Port.init : Port :=
  { pcsUp := false, since := 0, trained := false, anStart := 0, anFails := 0, anRaised := false, eee := false,
    faults := [], faultSince := none, drainUntil := none, drainPkt := 0, rx := none, rxp := none, tx := none, txp := none, txEnd := 0,
    txLog := [], ebb := Ebb.init, lpi := none, wakeUntil := 0, pauseUntil := none, pfcUntil := [], holdFrom := [],
    stormed := [], recover := [], heldMark := 0, gen := [], genSent := [], txStamps := [], secy := SecY.init,
    gte := Gte.init }
/-- An arbiter after reset. -/
def Arb.init : Arb := { started := [], rrAt := 0, drrAt := 0, deficit := [] }

end Sys2Proof.Machine
end

