-- ==== Sys2Proof/Machine/StateSch.lean ====
section
/-! DEFINITION. The state of the scheduler and of the policers (spec 15) beside the SCH registers. -/
namespace Sys2Proof.Machine

/-- A scheduler element (R434 to R449): its configuration and its state. -/
structure Elem where
  en : Bool
  parentLevel : Nat
  parent : Nat
  prio : Nat
  weight : Nat
  shapeEn : Bool
  /-- kbit/s and bytes (R445). -/
  rate : Nat
  burst : Nat
  /-- Virtual time of a node or port, start and finish time of a child, modulo 2^32 (R443). -/
  v : Nat
  s : Nat
  f : Nat
  /-- Credit in 1/256 byte (R445). -/
  credit : Int
  refillAt : Nat
  /-- SHAPE_EN was set: the credit becomes BURST at the next refill (R448). -/
  fillDue : Bool
  /-- It was eligible at its parent's last decision (R443 rule 4). -/
  wasEligible : Bool
  /-- Its configuration word is damaged (R458). -/
  badCfg : Bool
  deriving DecidableEq, Repr

/-- A policer (R451 to R456): configuration, buckets in 1/1,024 byte, and when it last decided. -/
structure Policer where
  cfg : BitVec 32
  cir : Nat
  pir : Nat
  cbs : Nat
  ebs : Nat
  c : Nat
  e : Nat
  at_ : Nat
  badCfg : Bool
  deriving DecidableEq, Repr

/-- The scheduler and the policers. -/
structure Sch where
  /-- Elements off their reset value, by (slice * 5 + level) * 65,536 + index. -/
  elems : Sparse Elem
  /-- Control credit per slice * 32 + port index in 1/256 byte, with the time it was brought up to date (R439). -/
  ctrl : Sparse (Int × Nat)
  /-- When each slice last refilled its shapers (R446). -/
  refill : Sparse Nat
  /-- Policers off their reset value, by pipeline * 8,192 + index. -/
  pols : Sparse Policer
  /-- Packets that have reached the policers (R451). -/
  polCount : Nat
  deriving DecidableEq, Repr

/-- The scheduler after reset. -/
def Sch.init : Sch := { elems := [], ctrl := [], refill := [], pols := [], polCount := 0 }

/-- The key of an element. -/
def eKey (slice level idx : Nat) : Nat := (slice * 5 + level) * 65536 + idx

/-- The reset value of an element (R437): base queues hang on their port with PRIO ⌊c ÷ 2⌋. -/
def elemReset (level idx : Nat) : Elem :=
  let base := level == 4 && decide (idx < 416)
  { en := level == 0, parentLevel := 0, parent := if base then idx / 16 else 0,
    prio := if base then idx % 16 / 2 else 0, weight := 16, shapeEn := false, rate := 64, burst := 16384,
    v := 0, s := 0, f := 0, credit := 16384 * 256, refillAt := 0, fillDue := false, wasEligible := true,
    badCfg := false }

/-- The reset value of a policer: MODE 0, RED_ACT DROP, buckets full. -/
def Policer.reset : Policer :=
  { cfg := BitVec.ofNat 32 (4 + 3 * 128), cir := 0, pir := 0, cbs := 16000, ebs := 0, c := 16000 * 1024, e := 0,
    at_ := 0, badCfg := false }

end Sys2Proof.Machine
end

