-- ==== Sys2Proof/Machine/StateTab.lean ====
section
/-! DEFINITION. The state of the lookup tables beside their registers: rule banks (spec 06), exact-match and route stores
with their result regions (spec 07, 12), learning, the sweep, and shadows (spec 08).  Each pipeline has its own. -/
namespace Sys2Proof.Machine

/-- The rule banks of a pipeline. -/
structure Rbk where
  /-- Rows by bank * 2,048 + row; an unlisted row is all zero: free (R163, R165). -/
  rows : Sparse (BitVec 322)
  /-- Action words by rule index (R174). -/
  acts : Sparse (BitVec 64)
  /-- Rows with an uncorrectable error, and damaged per-slot registers by key (R188, R189). -/
  faulty : Sparse Bool
  badCfg : Sparse Bool
  /-- When the slots last flipped, and the COMMIT that made a slot DRAINING (R182, R184). -/
  flipAt : Option Nat
  drainFrom : Option Nat
  /-- Tag of the waiting or copying BEGIN, when it arrived, and when its copy completes (R179). -/
  beginTag : Option Nat
  copyUntil : Option Nat
  /-- Tag of a COMMIT that waits for its flip (R184). -/
  commitTag : Option Nat
  /-- An aborted build is being cleared until this time (R185). -/
  clearUntil : Option Nat
  /-- Slot 0 is open for loading (R187). -/
  loading : Bool
  deriving DecidableEq, Repr

/-- A member slot of a load-balance group (R291): 0 EMPTY, 1 ACTIVE, 2 DRAINING. -/
structure LbMember where
  state : Nat
  nh : Nat
  weight : Nat
  gen : Nat
  deriving DecidableEq, Repr

/-- A load-balance group: its member slots and its buckets; an unlisted bucket names no member. -/
structure LbGroup where
  members : Sparse LbMember
  buckets : Sparse Nat
  deriving DecidableEq, Repr

/-- The exact-match and route stores of a pipeline. -/
structure Exm where
  /-- Entries by place: section * 2^20 + bucket * 4 + slot in the bucket store, 2^24 + slot in the overflow store; an
  unlisted place is free (Table 7.2). -/
  slots : Sparse (BitVec 512)
  /-- Hit bits by place (R199). -/
  hits : Sparse Bool
  /-- Faulty buckets (place of slot 0) and overflow slots (R217). -/
  faulty : Sparse Bool
  /-- Next hops, templates, groups, edit profiles; an unlisted one is all zero (R197, R355). -/
  nhs : Sparse (BitVec 128)
  tpls : Sparse (BitVec 1024)
  groups : Sparse LbGroup
  edits : Sparse (List (BitVec 32))
  /-- Faulty ones: kind * 65,536 + index, kinds 0 next hop, 1 template, 2 group, 3 edit profile (R371). -/
  faultyRes : Sparse Bool
  /-- Result words of routes by key: ((VRF * 2 + v6) * 256 + length) * 2^128 + prefix (R214). -/
  routes : Sparse (BitVec 32)
  /-- Routes whose node is faulty (R217). -/
  faultyRoutes : Sparse Bool
  /-- The express table, and its faulty entries (R521, R541). -/
  exps : Sparse (BitVec 128)
  faultyExp : Sparse Bool
  /-- The stage has been on and EN has been cleared since: changes wait (R219). -/
  exmHeld : Bool
  lpmHeld : Bool
  deriving DecidableEq, Repr

/-- What a shadowed block holds (R244): the slots of a bucket or overflow group, the routes of a VRF, a register, a load-balance group, an
edit profile, or another word. -/
inductive BlockData where
  | entries (l : List (BitVec 512))
  | routes (m : Sparse (BitVec 32))
  | reg (w : Option Word)
  | group (g : LbGroup)
  | edit (ws : List (BitVec 32))
  | word (w : BitVec 1024)
  deriving DecidableEq, Repr

/-- A shadow tag (Table 8.6) but for BUSY and KIND. -/
structure ShadowTag where
  crc : BitVec 32
  seq : Nat
  valid : Bool
  deriving DecidableEq, Repr

/-- A flush (R235): its mailbox command (none for a port that went down), its scope, and the section and key of each entry it has still
to remove. -/
structure Flush where
  tag : Option Nat
  sect : Option Nat
  port : Option Nat
  vid : Option Nat
  todo : List (Nat × Nat)
  deriving DecidableEq, Repr

/-- Learning, sweep and walk of a pipeline. -/
structure Lrn where
  /-- Notifications, oldest first; the flag says that a flush of their scope has started since (R230, R232 row 1). -/
  queue : List (BitVec 128 × Bool)
  /-- When the next sweep pass is due, the block it visits next while one runs, and whether the running one overran (R239,
  R243). -/
  passAt : Nat
  /-- When the learn tick last advanced (R225). -/
  tickAt : Nat
  pos : Option Nat
  passDue : Bool
  /-- Per class: LRN_SWEEP_STATUS.PASS when PERIOD was last written. -/
  classFrom : Sparse Nat
  /-- The same of the compare walk: blocks visited (R246). -/
  walkAt : Nat
  walkPos : Option Nat
  walkDue : Bool
  /-- When the running walk began, the blocks it skipped as BUSY with the position at which it visits each again, and a mismatch whose second reading is still to come:
  the block's key, its WRITE_SEQ, and what the reading found (R246, R247). -/
  walkFrom : Nat
  skipped : List (Nat × Nat)
  suspect : Option (Nat × Nat × ShadowFinding)
  /-- Flushes that run (R235, R236). -/
  flushes : List Flush
  /-- Tags and contents of the shadow blocks that keepers have written, by kind * 2^24 + block (Table 8.6, R245); the shadow of another
  block follows its block, with WRITE_SEQ 0.  BUSY is the change in flight that writes the block (`Change.busy`). -/
  shadows : Sparse ShadowTag
  copies : Sparse BlockData
  /-- Blocks whose confirmed mismatch waits for repair, with when it was confirmed and what was found (R247). -/
  repairs : Sparse (Nat × ShadowFinding)
  /-- Blocks lost: both copies wrong (R247). -/
  lost : Sparse Bool
  deriving DecidableEq, Repr

/-- What the table-shadow area of harbour memory holds across a retained warm reset (Table 8.4, Table 25.5), until the keepers
load it or let it go (R248). -/
structure Stash where
  /-- EXM, LPM and per-slot rule-bank registers, by register key. -/
  regs : Sparse Word
  exms : Sparse Exm
  rbks : Sparse Rbk
  /-- Gate list banks by port (R541). -/
  banks : Sparse (Sparse (BitVec 64))
  /-- Shadow tags by pipeline. -/
  tags : Sparse (Sparse ShadowTag)
  /-- Pipelines whose CURRENT rule set was that of slot 1. -/
  second : List Nat
  deriving DecidableEq, Repr

/-- Rule banks after reset: no row in use, slot 0 open for loading. -/
def Rbk.init : Rbk :=
  { rows := [], acts := [], faulty := [], badCfg := [], flipAt := none, drainFrom := none, beginTag := none,
    copyUntil := none, commitTag := none, clearUntil := none, loading := true }
/-- An empty group. -/
def LbGroup.init : LbGroup := { members := [], buckets := [] }
/-- The stores after reset: empty. -/
def Exm.init : Exm :=
  { slots := [], hits := [], faulty := [], nhs := [], tpls := [], groups := [], edits := [], faultyRes := [],
    routes := [], faultyRoutes := [], exps := [], faultyExp := [], exmHeld := false, lpmHeld := false }
/-- Learning after reset. -/
def Lrn.init : Lrn :=
  { queue := [], passAt := 0, tickAt := 0, pos := none, passDue := false, classFrom := [], walkAt := 0,
    walkPos := none, walkDue := false, walkFrom := 0, skipped := [], suspect := none, flushes := [], shadows := [], copies := [],
    repairs := [], lost := [] }

end Sys2Proof.Machine
end

