-- ==== Sys2Proof/Machine/StateSys.lean ====
section
/-! DEFINITION. The state of the system, trust, control and diagnostics blocks (spec 22 to 28 and 30) beside their
registers, which the register file holds. -/
namespace Sys2Proof.Machine

/-- What leaves the device, newest first: the model's own record of outputs. -/
inductive Out where
  /-- An MSI-X message on a vector. -/
  | msix (vec : Nat)
  /-- What a port's transmit MAC has sent from a delimiter to its last byte: a frame with its FCS, a fragment with its mCRC, or a frame
  that was cut, with an invalid FCS. -/
  | frame (port : Nat) (start : Delim) (bytes : List Byte)
  /-- An MKPDU sent on the uncontrolled port of a port (R118, R131). -/
  | mkpdu (port : Nat) (m : Mkpdu)
  /-- A verify mPacket of a port (R527). -/
  | verify (port : Nat)
  /-- A frame sent on a Fleit bundle: its header, its payload and its CRC (R627), which a perturbation inverts (R781). -/
  | fleit (bundle : Nat) (hdr : BitVec 128) (payload : List Byte) (crc : Word)
  /-- What a CONTROL frame of a bundle says: a HELLO; or 1 SPARE_REQ, 2 SPARE_ACK, 3 CLOSE, with a lane. -/
  | hello (bundle : Nat) (h : Hello)
  | control (bundle kind lane : Nat)
  /-- A write to host memory over PCIe: an address, and what is written there, the first byte lowest. -/
  | hostWrite (what : Nat) (data : Nat)
  /-- Bytes the management serial port returned. -/
  | mgs (bytes : List Byte)
  /-- The management serial port refuses a third written byte (R713). -/
  | mgsNack
  /-- The software reset of the flash, sent in a mode of IMG_NVM_STATUS (R695). -/
  | nvmReset (mode : Nat)
  /-- The word a register read returned. -/
  | read (word : Word)
  /-- A time-of-day message on TOD_TX (pin 2), or an edge of PPS_OUT: of a second (pins 0 and 1), or of a cycle of the radio clock, counted
  from time 0 (3 and 4). -/
  | time (pin : Nat) (value : Nat)
  /-- A message a keeper task sent from port 101: a kind, a port and a number. -/
  | task (kind : Nat) (port : Nat) (value : Nat)
  deriving DecidableEq, Repr

/-- A raise waiting to be folded into a source's next log record (R767). -/
structure Fold where
  count : Nat
  last : BitVec 128
  deriving DecidableEq, Repr

/-- The event block (spec 27) beside its registers. -/
structure Evt where
  /-- Per group: when its last MSI-X message was sent (R764). -/
  lastMsg : Sparse Nat
  /-- Groups with a folded message waiting (R764). -/
  msgFold : Sparse Bool
  /-- Per source: when its last record was written (R767). -/
  lastRec : Sparse Nat
  /-- Per source: the raises folded since (R767). -/
  folds : Sparse Fold
  /-- Per source: the record of its latest raise, for a route set later (R762). -/
  latest : Sparse (BitVec 128)
  /-- The 512-record log, by record number modulo 512 (R768). -/
  log : Sparse (BitVec 128)
  /-- The EVENTS task's queue, oldest first, at most 1,024 records (R765). -/
  kprQueue : List (BitVec 128)
  /-- Per source and item: the 1 ms interval in which it was last raised. -/
  lastMs : Sparse Nat
  /-- Per W1C bit (register key * 32 + bit): the clock in which hardware last set it (R8). -/
  setAt : Sparse Nat
  /-- Per source: the clock of its last raise that met a status already set (R761). -/
  againAt : Sparse Nat
  /-- Per register with an RC field: the clock of hardware's last update of it, the word before the updates of that clock, and the highest
  value they gave it (R788). -/
  rcAt : Sparse (Nat × Word × Nat)
  deriving DecidableEq, Repr

/-- What a bundle's sender has to send in one frame (R628): a segment of a packet, a mirror update, or a CONTROL message, which `ctl`
names by kind (0 HELLO, 1 SPARE_REQ, 2 SPARE_ACK, 3 CLOSE) and lane. -/
structure Segment where
  chan : Chan
  first : Bool
  last : Bool
  endErr : Bool
  cls : Nat
  payload : List Byte
  ctl : Option (Nat × Nat)
  /-- With the last segment of a packet: the frame whose buffers are held until it is acknowledged (R630). -/
  tx : Option TxFrame
  deriving DecidableEq, Repr

/-- A frame kept by a bundle's sender until its FSEQ is acknowledged (R630). -/
structure KeptFrame where
  fseq : Nat
  seg : Segment
  /-- The buffer of requester FLEIT that stages a MIRROR or CONTROL frame. -/
  buf : Option Nat
  deriving DecidableEq, Repr

/-- A Fleit bundle (spec 22) beside FLT_BUNDLE_CFG, _TIME and _STATUS. -/
structure Bundle where
  /-- When the bundle entered its state (R625, R626). -/
  enteredAt : Nat
  /-- Next FSEQ to send. -/
  txFseq : Nat
  /-- Frames sent and not acknowledged, oldest first (R630). -/
  unacked : List KeptFrame
  /-- When acknowledgement last progressed, and resends in a row without progress. -/
  progressAt : Nat
  resends : Nat
  /-- The FSEQ from which frames are being sent again. -/
  resendFrom : Option Nat
  /-- FSEQ expected from the peer (R630). -/
  rxFseq : Nat
  /-- An ACK (or with `nakDue` a NAK) waits to be sent. -/
  ackDue : Bool
  nakDue : Bool
  /-- A HEARTBEAT waits to be sent, and when the last one was due. -/
  hbDue : Bool
  hbAt : Nat
  /-- Credits held, and credits to return to the peer, per channel code (R631). -/
  credits : Sparse Nat
  owed : Sparse Nat
  /-- Per channel code: since when it has waited for credit. -/
  waitSince : Sparse Nat
  /-- Channels whose stall has been raised (R631). -/
  stalled : Sparse Bool
  /-- Segments waiting to be sent, oldest first. -/
  segments : List Segment
  /-- The packets being received on DATA and EXPRESS (R632). -/
  rxData : Option Nat
  rxExpress : Option Nat
  /-- Heartbeats (R633, R638): when the last valid one arrived; own count and departure times by count, newest first; count and arrival
  time of the peer's last one. -/
  lastHb : Option Nat
  hbSeq : Nat
  departs : List (Nat × Nat)
  arrived : Option (Nat × Nat)
  /-- The peer's last heartbeat (Table 22.3). -/
  peerHb : BitVec 384
  /-- Failed receiving lanes with the time since which they have been clean (R634, R635). -/
  failedLanes : Sparse Nat
  /-- Lane whose stripe the sender moved to the spare. -/
  txMoved : Option Nat
  /-- A SPARE_REQ waits for its marker. -/
  spareWait : Option Nat
  /-- EVT 25.5 has been raised in this AUTH (R626). -/
  refused : Bool
  /-- A HELLO of the peer has arrived in this AUTH. -/
  heard : Bool
  retryAt : Nat
  peer : Option Hello
  /-- EN was cleared at this time and the bundle closes (R654). -/
  closing : Option Nat
  /-- Exchange samples summed for R638, with their number. -/
  sampleSum : Int
  sampleCount : Nat
  deriving DecidableEq, Repr

/-- The Fleit control (spec 22) beside its registers. -/
structure Flt where
  bundles : Sparse Bundle
  /-- The PRIMARY's mirror queue, oldest first: updates the twin has not accepted (R643). -/
  mirrorQ : List MirrorUpd
  /-- Changes waiting to be appended to the mirror queue (R644). -/
  mirrorWait : List MirrorUpd
  /-- The head of `mirrorWait` has been counted as waiting for a full queue (R644). -/
  headWaits : Bool
  /-- MSEQ of the next update to send (R645). -/
  mirrorNext : Nat
  /-- Records with a refresh that was not appended (R644). -/
  unsent : Sparse Bool
  /-- The SECONDARY's apply queue, oldest first, with the bundle each came on (R645). -/
  applyQ : List (Nat × MirrorUpd)
  /-- Updates received and not yet accepted, with their bundles. -/
  rxUpdates : List (Nat × MirrorUpd)
  /-- Highest MSEQ the SECONDARY has accepted (R645); none before the first of a fill. -/
  accepted : Option Nat
  /-- Fence of a FENCE update accepted, when there is one (R649). -/
  fenceSeq : Option Nat
  /-- The resync walk is running (R652); the key of the next item to copy. -/
  resync : Option Nat
  /-- SYNC_END has been appended, or accepted, with its MSEQ. -/
  syncEnd : Option Nat
  /-- Heartbeats carry YIELD (R648). -/
  yielding : Bool
  /-- The twin has been found lost (R647). -/
  twinLost : Bool
  /-- When the first bundle of a stack came UP (R636). -/
  firstUp : Option Nat
  /-- EVT 25.11 stands raised. -/
  masterBad : Bool
  /-- Record areas zero-filled for a rejoin (R651). -/
  rejoinFilled : Bool
  /-- Source bundle of the last link time sample, and the TU it carried (R638). -/
  timeSource : Option Nat
  linkTu : Nat
  /-- The SHA-384 the image loader computed over the sealed fields (R626). -/
  pairDigest : BitVec 384
  /-- A retired pseudo-channel asks that the twin take over (R568). -/
  handOver : Bool
  deriving DecidableEq, Repr

/-- A CAK slot of the key store (R676). -/
structure CakSlot where
  cak : BitVec 256
  ckn : BitVec 256
  bytes : Nat
  ports : List Nat
  /-- The CAK came by KEY_WRITE, not with the image. -/
  host : Bool
  /-- MKA may use it (R700). -/
  usable : Bool
  /-- A newer CAK of the port waits for its first SA (R678). -/
  retiring : Bool
  deriving DecidableEq, Repr

/-- A rind operation in progress (R671). -/
structure RndOp where
  kind : Nat
  at_ : Nat
  report : BitVec 2816
  deriving DecidableEq, Repr

/-- A debug challenge (R681). -/
structure Challenge where
  bits : BitVec 512
  at_ : Nat
  deriving DecidableEq, Repr

/-- The rind (spec 23) beside its registers. -/
structure Rind where
  /-- The three copies of the fuse array (R658). -/
  fuse0 : BitVec 2048
  fuse1 : BitVec 2048
  fuse2 : BitVec 2048
  /-- The voted fuse image read in phase 1. -/
  fuses : BitVec 2048
  fusesRead : Bool
  ownerCert : Option (BitVec 3168)
  virongCert : BitVec 3168
  /-- The 512 CAK slots; an unlisted slot is free (R676). -/
  keys : Sparse CakSlot
  /-- The generation of each slot. -/
  keyGen : Sparse Nat
  op : Option RndOp
  winIn : Sparse Word
  winOut : Sparse Word
  challenge : Option Challenge
  debugFails : Nat
  debugSeen : Bool
  debugVirong : Bool
  gateScope : Nat
  meas : BitVec 384
  imageDigest : BitVec 384
  virongSigned : Bool
  ownerSlot : Nat
  /-- When the Transmitter enable phase ended with no warm reset since (R665). -/
  runSince : Option Nat
  /-- The COMMIT flag of the loaded image (Table 24.2). -/
  imageCommit : Bool
  /-- When a pending commit last checked the golden slot (R665). -/
  recheckAt : Option Nat
  /-- A patch with COMMIT in force: its security version and since when (R666). -/
  patchCommit : Option (Nat × Nat)
  /-- Fuse bits still to be programmed, in order (R659). -/
  blow : List Nat
  deriving DecidableEq, Repr

/-- An image load attempt (R690). -/
structure Attempt where
  slot : Nat
  startedAt : Nat
  manifest : Option Manifest
  sectionsPassed : Nat
  provisioned : Bool
  /-- Block bits (RND_WR_BLOCKS order) the loader has written. -/
  written : List Nat
  /-- Repeats of the read in progress (R695). -/
  readFails : Nat
  /-- The mode to enter when the SFDP tables have been read (R694). -/
  enter : Option Nat
  deriving DecidableEq, Repr

/-- A host flash operation (R702). -/
structure FlashOp where
  op : Nat
  addr : Nat
  at_ : Nat
  /-- The words being programmed. -/
  data : List Word
  deriving DecidableEq, Repr

/-- The image loader (spec 24) beside its registers. -/
structure Img where
  attempt : Option Attempt
  /-- When the last attempt failed, so that the next starts within 1 ms. -/
  failedAt : Option Nat
  noImageSince : Option Nat
  flashOp : Option FlashOp
  /-- A command of a TABLE section was refused (R700). -/
  tableFailed : Bool
  /-- The image measurement recorded with the table shadows (R248). -/
  shadowDigest : Option (BitVec 384)
  deriving DecidableEq, Repr

/-- A packet staged for a receive ring (R707). -/
structure RxStaged where
  pkt : Nat
  len : Nat
  reason : Nat
  ingress : Nat
  aux : Nat
  ts : Nat
  /-- Bytes delivered to earlier buffers of the packet (R708). -/
  done : Nat
  /-- The slice and the buffers HOST_DMA holds for it. -/
  buf : Nat × List Nat
  deriving DecidableEq, Repr

/-- The PCIe endpoint and its DMA (spec 24) beside the HST registers. -/
structure Hst where
  rxTail : Sparse Nat
  txTail : Sparse Nat
  msixTable : Sparse (BitVec 128)
  pba : BitVec 64
  /-- Staged for each receive ring, oldest first. -/
  staged : Sparse (List RxStaged)
  /-- Per ring (receive k, transmit 16 + k): the last vector and the oldest unreported completion. -/
  lastVec : Sparse Nat
  oldest : Sparse Nat
  /-- The block is held in reset by PERST. -/
  inReset : Bool
  deriving DecidableEq, Repr

/-- A reset in progress (R726). -/
structure ResetRun where
  cause : Nat
  detail : Nat
  cold : Bool
  retain : Bool
  at_ : Nat
  /-- Steps 2 to 4 of R726 are done. -/
  held : Bool
  deriving DecidableEq, Repr

/-- The reset sequencer (spec 25) beside its registers. -/
structure Rst where
  run : Option ResetRun
  /-- Reset is asserted: the device waits for release. -/
  asserted : Bool
  /-- Phase being run during release, 0 to 9; 10 when running; and when it began. -/
  phaseNext : Nat
  phaseAt : Nat
  /-- The reset being released was cold (R728). -/
  cold : Bool
  /-- Reloads tried per trim region (R729). -/
  trimTries : Sparse Nat
  trimLoaded : Sparse Bool
  trimFailedAt : Option Nat
  /-- Lane quads unusable after a trim failure (R79). -/
  badQuads : Sparse Bool
  adoptable : Bool
  retained : Bool
  stateDigest : Option (BitVec 384)
  /-- RETAIN was 1 and the reset did not retain, or the digests differed: EVT 30.2 is due after release (R725). -/
  retainLost : Bool
  /-- STATE_ADOPT has run in this release (R733). -/
  adopted : Bool
  /-- Block instances in reset: key, with the time the reset started (R735). -/
  blocks : Sparse Nat
  /-- The table shadows of a retained warm reset, until STATE_ADOPT. -/
  stash : Option Stash
  deriving DecidableEq, Repr

/-- A junction sensor (R754). -/
structure Sensor where
  reading : Int
  sampled : Bool
  excluded : Bool
  validSince : Option Nat
  deriving DecidableEq, Repr

/-- Power domains and temperature (spec 26) beside the PWR registers. -/
structure Pwr where
  /-- Domains still to switch, in order, with the target state (R744). -/
  todo : List (Nat × Bool)
  /-- When the domain now switching started, at the head of `todo`. -/
  switchAt : Nat
  sensors : Sparse Sensor
  /-- When the junction sensors were last sampled. -/
  sampledAt : Option Nat
  deriving DecidableEq, Repr

/-- A reference clock input (R750): not found lost, and the earliest instant since which it can have passed both checks. -/
structure RefClk where
  present : Bool
  goodSince : Option Nat
  deriving DecidableEq, Repr

/-- Reference clocks and PLLs (spec 26) beside the CLK registers. -/
structure Clk where
  refA : RefClk
  refB : RefClk
  /-- Consecutive failed relocks per PLL (R753). -/
  relocks : Sparse Nat
  /-- Per octet in reset: the family its PLL relocks to (R41); and per octet, whether its PLL takes the SyncE DPLL as its reference (R474). -/
  octetFam : Sparse Nat
  octetSynce : Sparse Bool
  deriving DecidableEq, Repr

/-- Diagnostics (spec 28) beside the DGN registers. -/
structure Dgn where
  /-- Domain and start of a running self-test (R778). -/
  bist : Option (Nat × Nat)
  /-- When the injection was armed (R780). -/
  armedAt : Option Nat
  /-- When CONT last corrupted a write. -/
  lastInject : Option Nat
  /-- Words planted with an error: target code and instance, with the kind. -/
  planted : Sparse Nat
  /-- Per perturbation slot: when it started and whether it is acting (R781). -/
  pertAt : Sparse Nat
  pertActs : Sparse Bool
  /-- Buffers a slot at BPM_HOLD holds: per slot, the slice and the buffer IDs. -/
  heldBufs : Sparse (Nat × List Nat)
  deriving DecidableEq, Repr

/-- Pins whose level the device holds or has recorded (spec 30). -/
structure Pins where
  resetN : Bool
  pwrgood : Bool
  quietN : Bool
  /-- The synchronised copy of QUIET_N in MGMT (R35). -/
  quietSeen : Bool
  thermTripN : Bool
  perstN : Bool
  /-- STRAP[3:0] on the balls, and as held since phase 0 (R799). -/
  strap : BitVec 4
  strapHeld : BitVec 4
  /-- The boundary register drives the pins (R779). -/
  scanHold : Bool
  deriving DecidableEq, Repr

/-- The backup domain on VBK (R734, R683, R481) beside its registers. -/
structure Backup where
  /-- The cause ring, newest first, at most 16 entries (Table 25.6). -/
  causes : List (BitVec 128)
  /-- The tamper log, newest first, at most 32 entries (Table 23.5). -/
  tamper : List (BitVec 128)
  /-- The two copies of the holdover model (Table 16.5). -/
  modelA : BitVec 256
  modelB : BitVec 256
  /-- Per slot: its count was incremented and no outcome recorded yet (R692). -/
  openAttempt : Sparse Bool
  deriving DecidableEq, Repr

/-- The event block after reset (R770). -/
def Evt.init : Evt := ⟨[], [], [], [], [], [], [], [], [], [], []⟩
/-- A bundle after reset: nothing sent or received. -/
def Bundle.init : Bundle :=
  { enteredAt := 0, txFseq := 0, unacked := [], progressAt := 0, resends := 0, resendFrom := none, rxFseq := 0, ackDue := false,
    nakDue := false, hbDue := false, hbAt := 0, credits := [], owed := [], waitSince := [], stalled := [], segments := [], rxData := none,
    rxExpress := none, lastHb := none, hbSeq := 0, departs := [], arrived := none, peerHb := 0, failedLanes := [], txMoved := none,
    spareWait := none, refused := false, heard := false, retryAt := 0, peer := none, closing := none, sampleSum := 0, sampleCount := 0 }
/-- The Fleit control after reset. -/
def Flt.init : Flt :=
  { bundles := [], mirrorQ := [], mirrorWait := [], headWaits := false, mirrorNext := 1, unsent := [], applyQ := [], rxUpdates := [], accepted := none,
    fenceSeq := none, resync := none, syncEnd := none, yielding := false, twinLost := false, firstUp := none, masterBad := false,
    rejoinFilled := false, timeSource := none, linkTu := 0, pairDigest := 0, handOver := false }
/-- The rind after a cold reset: no fuse read yet, no key held. -/
def Rind.init : Rind :=
  { fuse0 := 0, fuse1 := 0, fuse2 := 0, fuses := 0, fusesRead := false, ownerCert := none, virongCert := 0,
    keys := [], keyGen := [], op := none, winIn := [], winOut := [], challenge := none, debugFails := 0,
    debugSeen := false, debugVirong := false, gateScope := 0, meas := 0, imageDigest := 0, virongSigned := false,
    ownerSlot := 0, runSince := none, imageCommit := false, recheckAt := none, patchCommit := none, blow := [] }
/-- The image loader after reset. -/
def Img.init : Img := { attempt := none, failedAt := none, noImageSince := none, flashOp := none, tableFailed := false, shadowDigest := none }
/-- The PCIe endpoint after reset: held in reset until phase 6 ends (R728). -/
def Hst.init : Hst :=
  { rxTail := [], txTail := [], msixTable := [], pba := 0, staged := [], lastVec := [], oldest := [],
    inReset := true }
/-- The reset sequencer when a cold reset has just been released: phase 0 runs. -/
def Rst.init : Rst :=
  { run := none, asserted := false, phaseNext := 0, phaseAt := 0, cold := true, trimTries := [], trimLoaded := [], trimFailedAt := none,
    badQuads := [], adoptable := false, retained := false, stateDigest := none, retainLost := false, adopted := false, blocks := [],
    stash := none }
/-- The power controller after reset. -/
def Pwr.init : Pwr := { todo := [], switchAt := 0, sensors := [], sampledAt := none }
/-- The clock inputs after reset: both references are present (R747 asks for one before PWRGOOD rises), and neither is QUALIFIED
yet. -/
def Clk.init : Clk := { refA := ⟨true, some 0⟩, refB := ⟨true, some 0⟩, relocks := [], octetFam := [], octetSynce := [] }
/-- Diagnostics after reset: nothing active. -/
def Dgn.init : Dgn :=
  { bist := none, armedAt := none, lastInject := none, planted := [], pertAt := [], pertActs := [], heldBufs := [] }
/-- The pins in the rest state: no reset requested, straps 0. -/
def Pins.init : Pins :=
  { resetN := true, pwrgood := true, quietN := true, quietSeen := true, thermTripN := true, perstN := false,
    strap := 0, strapHeld := 0, scanHold := false }
/-- The backup domain of a part that has recorded nothing. -/
def Backup.init : Backup := { causes := [], tamper := [], modelA := 0, modelB := 0, openAttempt := [] }

end Sys2Proof.Machine
end

