-- ==== Sys2Proof/Machine/StateTide.lean ====
section
/-! DEFINITION. The state of the tide gates (spec 20) beside the TTB registers. -/
namespace Sys2Proof.Machine

/-- A request waiting at a gate: its activity, its charge, a tag that names the requester, and since when it waits. -/
structure TideReq where
  act : Nat
  charge : Nat
  tag : Nat
  since : Nat
  deriving DecidableEq, Repr

/-- A tide gate: gate 0 is the harbour tide, gate 1 + p the table-SRAM tide of pipeline p (R576). -/
structure Gate where
  /-- When the running tide began. -/
  startAt : Nat
  /-- Per activity: used of its share, its own requests and what it lent (R580, R581). -/
  spent : Sparse Nat
  /-- Per activity: admitted in this tide, own and borrowed. -/
  admitted : Sparse Nat
  /-- Per activity: borrowed in this tide. -/
  borrowed : Sparse Nat
  /-- Used of the spare. -/
  spareUsed : Nat
  /-- Per activity: the share word in force when it differs from the register's reset value. -/
  force : Sparse (BitVec 32)
  /-- Requests waiting, in the order in which they reached the gate. -/
  waiting : List TideReq
  /-- Requests admitted after a wait and not yet carried out: activity and tag. -/
  granted : List (Nat × Nat)
  /-- APPLY has been written and this gate has not applied it (R587). -/
  applyDue : Bool
  /-- Activities whose share register failed parity (R589). -/
  badShare : Sparse Bool
  deriving DecidableEq, Repr

/-- A gate after reset. -/
def Gate.init : Gate :=
  { startAt := 0, spent := [], admitted := [], borrowed := [], spareUsed := 0, force := [], waiting := [],
    granted := [], applyDue := false, badShare := [] }

end Sys2Proof.Machine
end

