-- ==== Sys2Proof/Machine/StateTime.lean ====
section
/-! DEFINITION. The state of the lighthouse (spec 16) and of the time services (spec 17) beside their registers. -/
namespace Sys2Proof.Machine

/-! ### The lighthouse -/

/-- What the monitor of a reference knows (R468): the timestamp of the last accepted edge and the core clock at which it, or the
last sample, came; the filtered offset; consecutive discards; and since when it passes every check and has been QUALIFIED. -/
structure LhtRef where
  lastTs : Option Int
  lastAt : Option Nat
  offset : Option Int
  discards : Nat
  goodSince : Option Nat
  qualSince : Option Nat
  deriving DecidableEq, Repr

/-- The lighthouse; times in units of the time of day unless a field says otherwise. -/
structure Lht where
  refs : Sparse LhtRef
  /-- Time-of-day labels (R470): the last message's seconds, messages in sequence since a loss, when the last valid label came
  (core clock), and the second that names the labelled input's last accepted edge. -/
  todPrev : Option Nat
  todRun : Nat
  labelAt : Option Nat
  labelSec : Option Nat
  /-- Filtered phase error of the time DPLL, and since when it has stayed within LOCK_NS (core clock). -/
  err : Int
  lockFrom : Option Nat
  /-- Offset still to be slewed, and when the CORE copy was last realigned (core clock). -/
  slew : Int
  realignAt : Nat
  /-- HOLDOVER: when it was entered (core clock), TU and temperature at entry, and the integral of the temperature difference in
  0.01 °C × core clocks (R479, R482). -/
  holdAt : Nat
  tuE : Nat
  tE : Int
  theta : Nat
  /-- The frequency of the time DPLL (R474, R479) in 0.0001 ppt: now, after each sample of the last 1,010 s of LOCKED with the core clock
  of the sample, newest first, since when LOCKED has lasted, and the mean that HOLDOVER starts from. -/
  freq : Int
  freqs : List (Nat × Int)
  lockedAt : Nat
  yE : Int
  /-- The radio clock is aligned to the second at this instant, and has no edge before it (R474, R475). -/
  radioFrom : Nat
  /-- When TU was last computed (core clock), and the time learned towards the next hour in core clocks (R480). -/
  tuAt : Nat
  learnClk : Nat
  /-- A model with a good CRC was read or fitted, and the next write goes to copy B (R480, R481). -/
  modelGood : Bool
  nextB : Bool
  /-- The last temperature reading, when it was taken, and since when readings have been good (R485). -/
  reading : Option Int
  tempAt : Option Nat
  tempGood : Option Nat
  /-- No PPS_OUT edge before this instant (R488); per output the second last emitted, and until when the pulse is high (core
  clock); and the time message due: when (core clock), and its second (R489). -/
  ppsFrom : Nat
  ppsLast : Sparse Nat
  ppsHigh : Sparse Nat
  todTx : Option (Nat × Nat)
  /-- LHT_STATUS.TIME_VALID and LHT_TU as the CORE domain holds them (R483). -/
  coreValid : Bool
  coreTu : Nat
  deriving DecidableEq, Repr

/-- A reference of which nothing is known. -/
def LhtRef.init : LhtRef := ⟨none, none, none, 0, none, none⟩
/-- The lighthouse after a reset that clears it. -/
def Lht.init : Lht :=
  { refs := [], todPrev := none, todRun := 0, labelAt := none, labelSec := none, err := 0, lockFrom := none, slew := 0, realignAt := 0,
    holdAt := 0, tuE := 0, tE := 0, theta := 0, freq := 0, freqs := [], lockedAt := 0, yE := 0, radioFrom := 0, tuAt := 0, learnClk := 0, modelGood := false, nextB := false, reading := none,
    tempAt := none, tempGood := none, ppsFrom := 0, ppsLast := [], ppsHigh := [], todTx := none, coreValid := false,
    coreTu := 0xFFFFFFFF }

/-! ### PTP and SyncE -/

/-- A dataset of the best master selection (R505). -/
structure PtpDs where
  gmClass : Nat
  gmAcc : Nat
  gmVar : Nat
  prio2 : Nat
  gmId : Nat
  steps : Nat
  /-- Port identity of the sender: clock identity × 65,536 + port number. -/
  sender : Nat
  deriving DecidableEq, Repr

/-- A foreign master of a port: its dataset, its address under unicast, and when its Announces came (core clocks, newest
first). -/
structure Foreign where
  ds : PtpDs
  addr : Nat
  seen : List Nat
  deriving DecidableEq, Repr

/-- A grant this device gives, or holds from a master (R508): message type, the other side's address, rate code, duration in
seconds, when it began, and when the next message under it is due (core clocks). -/
structure Grant where
  typ : Nat
  addr : Nat
  rate : Nat
  secs : Nat
  at_ : Nat
  next : Nat
  deriving DecidableEq, Repr

/-- A unicast negotiation TLV to be sent (R508): its type, the other side's address, the message type, logInterMessagePeriod as a
byte, and the duration in seconds. -/
structure SigTlv where
  tlv : Nat
  addr : Nat
  typ : Nat
  log : Nat
  secs : Nat
  deriving DecidableEq, Repr

/-- A Delay_Req to be answered: its sender, sequence number, correction, receive time and address. -/
structure DelayDue where
  src : Nat
  seq : Nat
  cf : Nat
  ts : Nat
  addr : Nat
  deriving DecidableEq, Repr

/-- A PTP port beside its registers. -/
structure PtpPort where
  /-- When it entered its state (core clock). -/
  since : Nat
  foreign : List Foreign
  /-- Next sequence numbers, and when the next message is due, by message type. -/
  seq : Sparse Nat
  due : Sparse Nat
  /-- Follow_Ups owed: sequence number of a two-step Sync sent, its address and when; consecutive missing timestamps (R500,
  R501). -/
  syncSent : List (Nat × Nat × Nat)
  missing : Nat
  /-- Open Syncs received: sequence number, sender, receive time t2, correction in 2^-16 ns, and when (core clock). -/
  openSync : List (Nat × Nat × Int × Nat × Nat)
  /-- Open Delay_Reqs sent: sequence number, t3 once known, and when (core clock). -/
  openDelay : List (Nat × Option Int × Nat)
  /-- The last delay measurement: t4 − t3 − c_d. -/
  delay : Option Int
  /-- Filtered mean path delay. -/
  path : Option Int
  /-- The last complete Sync: t2 − t1 − c_s, waiting to be made a sample (R506). -/
  sample : Option Int
  respDue : List DelayDue
  /-- Messages owed at once after a move of the PTP tasks (R503), by type. -/
  owed : List Nat
  grants : List Grant
  held : List Grant
  sigDue : List SigTlv
  /-- Requests made since it left DISABLED, by message type and entry of the unicast master table (R508). -/
  asked : List (Nat × Nat)
  deriving DecidableEq, Repr

/-- ESMC of a port (R510 to R514): the QL in force, when the last accepted PDU came, a worse QL that waits with the time at which
it acts, the QL last sent, and when the next information PDU is due (core clocks). -/
structure Esmc where
  ql : Nat
  at_ : Option Nat
  worse : Option (Nat × Nat)
  sent : Nat
  infoAt : Nat
  deriving DecidableEq, Repr

/-- The PTP and SyncE service. -/
structure Ptp where
  /-- Trap token buckets (R499) by port, 96 for the device: tokens in parts of a core clock, and when they were brought up
  to date; an unlisted bucket is full. -/
  traps : Sparse (Nat × Nat)
  ports : Sparse PtpPort
  esmc : Sparse Esmc
  /-- The clock's own dataset and the advertised one as last derived, and when (core clock) (R509). -/
  own : PtpDs
  adv : PtpDs
  ownAt : Nat
  /-- The parent's dataset while one is selected, with the port that received it. -/
  parent : Option (PtpDs × Nat)
  /-- The PTP tasks have moved to another engine and have not resumed (R503). -/
  moved : Bool
  deriving DecidableEq, Repr

/-- A port of which nothing is known. -/
def PtpPort.init : PtpPort :=
  { since := 0, foreign := [], seq := [], due := [], syncSent := [], missing := 0, openSync := [], openDelay := [], delay := none,
    path := none, sample := none, respDue := [], owed := [], grants := [], held := [], sigDue := [], asked := [] }
/-- ESMC of a port after reset. -/
def Esmc.init : Esmc := ⟨0, none, none, 0, 0⟩
/-- The service after reset: clockClass 248, accuracy unknown (Table 17.8). -/
def Ptp.init : Ptp :=
  { traps := [], ports := [], esmc := [], own := ⟨248, 0xFE, 0xFFFF, 128, 0, 0, 0⟩, adv := ⟨248, 0xFE, 0xFFFF, 128, 0, 0, 0⟩, ownAt := 0, parent := none, moved := false }

end Sys2Proof.Machine
end

