-- ==== Sys2Proof/Machine/StateTm.lean ====
section
/-! DEFINITION. The state of the traffic manager (spec 13 and 14) beside the BPM and QUE registers: buffers, spill,
queues, the crossbar, the resequencer and the replicator. -/
namespace Sys2Proof.Machine

/-- Cells of queued items, in order: item and number of cells. -/
abbrev Runs := List (Nat × Nat)

/-- A staging buffer of a queue (R390). -/
structure Stage where
  buf : Nat
  runs : Runs
  /-- When its first cell was placed. -/
  firstAt : Nat
  /-- The chunk it is being written to, once the write has been issued. -/
  chunk : Option Nat
  deriving DecidableEq, Repr

/-- A queued item: a packet, or one copy of a multicast packet. -/
structure QItem where
  pkt : Nat
  slice : Nat
  queue : Nat
  cells : Nat
  /-- Buffers held, in chain order, with the cells each one holds. -/
  chain : List (Nat × Nat)
  /-- A copy on a multicast stream, whose chain is shared (R393). -/
  mcast : Bool
  /-- VID the transmit path writes (Table 14.3), 0 for none. -/
  vid : Nat
  cls : Nat
  joinedAt : Nat
  deriving DecidableEq, Repr

/-- An egress queue (R386 to R391, R427, R430). -/
structure Queue where
  /-- Items in order, oldest first. -/
  items : List Nat
  /-- Cells in cove, then chunks in harbour, then staging (R388). -/
  cove : Runs
  chunks : List (Nat × Runs)
  stages : List Stage
  /-- The fetch in flight: chunk, its cells, and the P16K buffer it fills (R391). -/
  fetch : Option (Nat × Runs × Nat)
  spilling : Bool
  /-- Redirect target, when valid (R427). -/
  redirect : Option Nat
  /-- Target of a move, not yet eligible. -/
  wait : Bool
  /-- Disabled and draining until this time (R430). -/
  draining : Option Nat
  /-- When the queue last sent, or became backlogged (R450). -/
  lastSent : Nat
  /-- The starvation of the queue has been reported (R450). -/
  starved : Bool
  deriving DecidableEq, Repr

/-- A cell on a crossbar plane: its header (Table 14.2), the packet it belongs to and its plane. -/
structure XCell where
  hdr : BitVec 64
  pkt : Nat
  plane : Nat
  deriving DecidableEq, Repr

/-- A packet whose cells are arriving at a slice (R415). -/
structure Asm where
  slice : Nat
  stream : Nat
  seq : Nat
  pkt : Nat
  queue : Nat
  mcast : Bool
  cells : Nat
  arrived : List Nat
  chain : List (Nat × Nat)
  firstAt : Nat
  /-- Refused or dropped: a tombstone stands for it and its cells are discarded on arrival. -/
  dropped : Bool
  /-- A cell failed ECC, so that it never completes (R418). -/
  broken : Bool
  endErr : Bool
  cls : Nat
  deriving DecidableEq, Repr

/-- What a completed item is. -/
inductive ItemKind where
  | packet | tombstone | close
  deriving DecidableEq, Repr

/-- A complete item held by the resequencer until NEXT reaches it. -/
structure HeldItem where
  slice : Nat
  stream : Nat
  src : Nat
  seq : Nat
  kind : ItemKind
  pkt : Nat
  queue : Nat
  mcast : Bool
  cells : Nat
  chain : List (Nat × Nat)
  since : Nat
  cls : Nat
  deriving DecidableEq, Repr

/-- A tombstone the slice owes its own resequencer (R416). -/
structure Tomb where
  slice : Nat
  stream : Nat
  src : Nat
  seq : Nat
  queue : Nat
  mcast : Bool
  since : Nat
  deriving DecidableEq, Repr

/-- What a pipeline's cell writer knows of a queue: EN, PORT_IDX and the redirect (R409). -/
structure QMap where
  en : Bool
  port : Nat
  redirect : Option Nat
  deriving DecidableEq, Repr
/-- A change of a queue on its way to the pipelines' copies of the queue map: `next` is the pipeline whose copy is written next (R409). -/
structure MapWrite where
  slice : Nat
  queue : Nat
  next : Nat
  map : QMap
  deriving DecidableEq, Repr

/-- A queue move in progress (R427). -/
structure Move where
  slice : Nat
  a : Nat
  b : Nat
  /-- Pipelines to whose copies A's redirect is still to be written. -/
  left : List Nat
  /-- Pipelines whose CLOSE has been promoted. -/
  closed : List Nat
  deadline : Nat
  /-- Tag of the mailbox command, answered when the move completes (R429). -/
  tag : Nat
  deriving DecidableEq, Repr

/-- The traffic manager. -/
structure Tm where
  /-- Buffer state entries by slice * 98,304 + buffer ID; an unlisted one is FREE (Table 13.2). -/
  bufs : Sparse (BitVec 32)
  /-- Chunks off the free list, with 1 + the slice that holds them, 0 when retired, or 5 when an error dropped them from the list (R395,
  R398, R399). -/
  chunks : Sparse Nat
  /-- Ingress cells by port * 8 + priority (R397). -/
  ingress : Sparse Nat
  /-- XOFF signalled, by port * 8 + priority (R397). -/
  xoff : Sparse Bool
  /-- XOFF signalled for the sum of a port's counts, by port (R397, R824). -/
  xoffPort : Sparse Bool
  /-- Queue configuration words off their reset value, by slice * 65,536 + queue (Table 14.1). -/
  qcfg : Sparse (BitVec 32)
  /-- The pipelines' copies of the queue maps, by pipeline * 262,144 + slice * 65,536 + queue, and the changes on their way to them. -/
  maps : Sparse QMap
  mapQ : List MapWrite
  queues : Sparse Queue
  items : Sparse QItem
  nextItem : Nat
  /-- Next sequence number a cell writer gives, and NEXT of the resequencer, by stream (R412, R415). -/
  txSeq : Sparse Nat
  rxNext : Sparse Nat
  /-- Streams that take the SEQ of the next item as NEXT (R418). -/
  resync : Sparse Bool
  /-- Skipped items of which cells had arrived: stream and number (R417). -/
  skipped : List (Nat × Nat)
  /-- Credits in use by pipeline * 4 + slice (R414). -/
  credits : Sparse Nat
  /-- Cells on the planes, oldest first. -/
  xbar : List XCell
  asms : List Asm
  held : List HeldItem
  tombs : List Tomb
  /-- Promoted multicast packets waiting for the replicator, per slice. -/
  repl : Sparse (List HeldItem)
  /-- Slice masks of groups, by pipeline * 65,536 + group, and their copy lists, by slice * 65,536 + group (R419). -/
  masks : Sparse Nat
  lists : Sparse (List (BitVec 64))
  /-- Hold deadline per port (R425). -/
  holdUntil : Sparse Nat
  moves : List Move
  /-- A reclaim sweep runs in a slice until this time (R400). -/
  sweepUntil : Sparse Nat
  deriving DecidableEq, Repr

/-- A queue after reset. -/
def Queue.init : Queue :=
  { items := [], cove := [], chunks := [], stages := [], fetch := none, spilling := false, redirect := none,
    wait := false, draining := none, lastSent := 0, starved := false }

/-- The traffic manager after reset: every buffer FREE, every queue empty, every stream at 0. -/
def Tm.init : Tm :=
  { bufs := [], chunks := [], ingress := [], xoff := [], xoffPort := [], qcfg := [], maps := [], mapQ := [], queues := [], items := [], nextItem := 0,
    txSeq := [], rxNext := [], resync := [], skipped := [], credits := [], xbar := [], asms := [], held := [], tombs := [],
    repl := [], masks := [], lists := [], holdUntil := [], moves := [], sweepUntil := [] }

end Sys2Proof.Machine
end

