-- ==== Sys2Proof/Machine/State.lean ====
section
/-! DEFINITION. The state of the device, as plain data: the register file, the counters, the state each block holds
beside its registers, and the queue of waiting commands; and the state right after reset. -/
namespace Sys2Proof.Machine

/-- Why a step stops with a fault.  No command of this model stops with one: every command the manual gives an
effect has it, and the manual names no condition that stops the device for good. -/
inductive Fault where
  /-- An access to a harbour address that does not exist (R547): raised by no meaning, because the manual answers such a
  request with an error.  Safe. -/
  | noSuchAddress (addr : Nat)
  deriving DecidableEq, Repr

/-- Why a command has no meaning. -/
inductive Refusal where
  /-- The command is not modelled yet.  Raised by exec's arms only; safe. -/
  | notModelled (mnemonic : String)
  deriving DecidableEq, Repr

/-- The state of the device. -/
structure State where
  /-- Commands waiting, first in first out. -/
  pending : List Instr
  /-- Core clocks since reset. -/
  now : Nat
  /-- The time of day (R463), in the units of `Config.todNs`. -/
  tod : Nat
  /-- Free values taken. -/
  fresh : Nat
  /-- Every register off its reset value, by bus address. -/
  regs : Sparse Word
  /-- Registers with a parity error, by the same key: each acts at its reset value until it is rewritten or restored. -/
  bad : Sparse Bool
  /-- Every counter off zero. -/
  ctrs : Sparse Nat
  /-- What has left the device, newest first. -/
  out : List Out
  evt : Evt
  flt : Flt
  rind : Rind
  img : Img
  hst : Hst
  rst : Rst
  pwr : Pwr
  clk : Clk
  dgn : Dgn
  pins : Pins
  backup : Backup
  /-- Blocks that drain after EN was cleared: block * 8 + instance (blocks as RND_WR_BLOCKS numbers them), with the time at
  which the drain limit runs out (R736). -/
  drains : Sparse Nat
  /-- The tide gates, off their reset value (spec 20). -/
  gates : Sparse Gate
  /-- Front ports by port number (spec 02, 03, 04, 18). -/
  ports : Sparse Port
  /-- Ingress FIFOs by pipeline * 32 + arbiter index, oldest first, and the arbiters (R47, R51). -/
  fifos : Sparse (List FifoEnt)
  arbs : Sparse Arb
  /-- Packets in the device, by packet number, and the next number. -/
  pkts : Sparse Packet
  nextPkt : Nat
  /-- The traffic manager (spec 13, 14). -/
  tm : Tm
  /-- The harbour memory controllers (spec 19). -/
  hbc : Hbc
  /-- The scheduler and policers (spec 15). -/
  sch : Sch
  /-- Rule banks, lookup tables and learning per pipeline (spec 06, 07, 08). -/
  rbks : Sparse Rbk
  exms : Sparse Exm
  lrns : Sparse Lrn
  /-- Flow stage, curd cache and services; session stage; editor and capture (spec 09 to 12). -/
  flw : Flw
  ups : Ups
  edt : Edt
  /-- The lighthouse (spec 16). -/
  lht : Lht
  /-- PTP and SyncE (spec 17). -/
  ptp : Ptp
  /-- The keeper cluster and the mailbox (spec 21). -/
  kpr : Kpr
  deriving DecidableEq, Repr

/-- The machine right after a cold reset has been released: every register and memory at its reset value, no command
waiting, phase 0 of the release running (R7, R723, R728). -/
def State.reset : State :=
  { pending := [], now := 0, tod := 0, fresh := 0, regs := [], bad := [], ctrs := [], out := [], evt := Evt.init,
    flt := Flt.init, rind := Rind.init, img := Img.init, hst := Hst.init, rst := Rst.init, pwr := Pwr.init,
    clk := Clk.init, dgn := Dgn.init, pins := Pins.init, backup := Backup.init, drains := [], gates := [], ports := [], fifos := [], arbs := [], pkts := [], nextPkt := 0,
    tm := Tm.init, hbc := Hbc.init,
    sch := Sch.init, rbks := [], exms := [], lrns := [], flw := Flw.init, ups := Ups.init, edt := Edt.init, lht := Lht.init, ptp := Ptp.init,
    kpr := Kpr.init }

end Sys2Proof.Machine
end

