-- ==== Sys2Proof/Machine/Ops.lean ====
section
/-! DEFINITION. The operations every block uses: reading and writing registers (spec 00, R7 to R12; spec 29,
R786 to R789), counters (R81), raising an event and routing it (spec 27, R761 to R769), outputs, and free values. -/
namespace Sys2Proof.Machine

open Sys2Proof.Config

/-! ### Registers -/

/-- The key of an item in the register file: its bus address (R786); the copy of slot 1 of a per-slot
register (R194) has its own key. -/
def Reg.key (r : Reg) (inst i k : Nat) (slot : Nat := 0) : Nat :=
  r.addr inst i k + slot * 0x100000000

/-- The word an item acts with: the one it holds, or its reset value while it has a parity error. -/
def State.rdReg (s : State) (r : Reg) (inst i k : Nat) (slot : Nat := 0) : Word :=
  if Sparse.get s.bad (r.key inst i k slot) false then r.resetOf i k
  else Sparse.get s.regs (r.key inst i k slot) (r.resetOf i k)

/-- Give an item a word; a rewritten register has no parity error. -/
def State.wrReg (s : State) (r : Reg) (inst i k : Nat) (w : Word) (slot : Nat := 0) : State :=
  { s with regs := Sparse.put s.regs (r.key inst i k slot) w (r.resetOf i k),
           bad := Sparse.erase s.bad (r.key inst i k slot) }

/-- The value of a field (of instance `inst`, items `i` and `k`). -/
def State.rd (s : State) (f : Fld) (inst : Nat := 0) (i : Nat := 0) (k : Nat := 0) (slot : Nat := 0) : Nat :=
  bitsOf (s.rdReg f.reg inst i k slot) f.lo f.width

/-- A one-bit field as a truth value. -/
def State.on (s : State) (f : Fld) (inst : Nat := 0) (i : Nat := 0) (k : Nat := 0) : Bool :=
  s.rd f inst i k == 1

/-- Give a field a value; the machine's own write, which no access type limits. -/
def State.wr (s : State) (f : Fld) (v : Nat) (inst : Nat := 0) (i : Nat := 0) (k : Nat := 0)
    (slot : Nat := 0) : State :=
  s.wrReg f.reg inst i k (setBitsOf (s.rdReg f.reg inst i k slot) f.lo f.width v) slot

/-- Give a one-bit field a truth value. -/
def State.wrB (s : State) (f : Fld) (b : Bool) (inst : Nat := 0) (i : Nat := 0) (k : Nat := 0) : State :=
  s.wr f b.toNat inst i k

/-- A per-port field: the instance is the port's pipeline, the item its index there (R82). -/
def State.rdP (s : State) (f : Fld) (port : Nat) : Nat := s.rd f (port / 24) (port % 24)

/-- A one-bit per-port field. -/
def State.onP (s : State) (f : Fld) (port : Nat) : Bool := s.rdP f port == 1

/-- Give a per-port field a value. -/
def State.wrP (s : State) (f : Fld) (port v : Nat) : State := s.wr f v (port / 24) (port % 24)

/-- Hardware sets a W1C bit: what R8 needs to know is the clock of it. -/
def State.markSet (s : State) (key bit : Nat) : State :=
  { s with evt := { s.evt with setAt := Sparse.insert s.evt.setAt (key * 32 + bit) s.now } }

/-- Hardware sets a one-bit W1C field. -/
def State.setW1c (s : State) (f : Fld) (inst : Nat := 0) (i : Nat := 0) (k : Nat := 0) : State :=
  (s.wr f 1 inst i k).markSet (f.reg.key inst i k) f.lo

/-- Hardware updates an RC field that holds the highest value since its last read; a read in the same clock shows what stood before, and
keeps the update (R788). -/
def State.peak (s : State) (f : Fld) (v inst i : Nat) : State :=
  let key := f.reg.key inst i 0
  let old := s.rdReg f.reg inst i 0
  let rec_ : Nat × Word × Nat := match Sparse.find s.evt.rcAt key with
    | some (t, w, m) => if t = s.now then (t, w, max m v) else (s.now, old, v)
    | none => (s.now, old, v)
  let t := s.wr f (max v (s.rd f inst i)) inst i
  { t with evt := { t.evt with rcAt := Sparse.insert t.evt.rcAt key rec_ } }

/-! ### Counters -/

/-- The key of a counter's item. -/
def Ctr.key (c : Ctr) (item : Nat) : Nat := c.ctorIdx * 0x100000000 + item

/-- The value of a counter (R81: 64-bit, never wrapping in service). -/
def State.ctr (s : State) (c : Ctr) (item : Nat := 0) : Nat := Sparse.get s.ctrs (c.key item) 0

/-- Count. -/
def State.bump (s : State) (c : Ctr) (item : Nat := 0) (n : Nat := 1) : State :=
  { s with ctrs := Sparse.put s.ctrs (c.key item) (s.ctr c item + n) 0 }

/-- A counter returns to zero. -/
def State.clearCtr (s : State) (c : Ctr) (item : Nat) : State := { s with ctrs := Sparse.erase s.ctrs (c.key item) }

/-! ### Outputs and free values -/

/-- Record an output. -/
def State.emit (s : State) (o : Out) : State := { s with out := o :: s.out }

/-- An entry of the MSI-X table after reset: its mask bit is 1 (Table 24.10: as the PCIe specification). -/
def msixReset : BitVec 128 := BitVec.ofNat 128 (2 ^ 96)
/-- The entry of a vector masks it. -/
def State.vecMasked (s : State) (v : Nat) : Bool := (Sparse.get s.hst.msixTable v msixReset).getLsbD 96
/-- Send the MSI-X message of a vector, or hold it pending while the vector's entry is masked (Table 24.10: as the PCIe
specification). -/
def State.sendVec (s : State) (v : Nat) : State :=
  if s.vecMasked v then
    { s with hst := { s.hst with pba := s.hst.pba ||| BitVec.ofNat 64 (2 ^ v) } }
  else s.emit (.msix v)

/-- Pass to the next free value. -/
def State.draw (s : State) : State := { s with fresh := s.fresh + 1 }

/-- Whole seconds and nanoseconds of the time of day (R112, R463). -/
def State.todSec (s : State) : Nat := s.tod / todS
/-- See `State.todSec`. -/
def State.todNsec (s : State) : Nat := s.tod % todS / todNs
/-- Sub-nanoseconds, in 2^-16 ns. -/
def State.todSub (s : State) : Nat := s.tod % todNs / 7

/-- A time in the 96-bit format of R112: seconds, nanoseconds, sub-nanoseconds. -/
def time96 (t : Nat) : Nat := t / todS * 2 ^ 48 + t % todS / todNs * 2 ^ 16 + t % todNs / 7
/-- The time a 96-bit timestamp spells, in the units of the time of day. -/
def unitsOf96 (v : Nat) : Nat := v / 2 ^ 48 * todS + v / 2 ^ 16 % 2 ^ 32 * todNs + v % 2 ^ 16 * 7
/-- The time of day in that format. -/
def State.tod96 (s : State) : Nat := time96 s.tod

/-! ### Events (spec 27) -/

/-- The key of a source. -/
def Source.key (e : Source) : Nat := e.group * 32 + e.index

/-- The source's status bit (R761). -/
def State.evtStatus (s : State) (e : Source) : Bool :=
  s.rd Fld.EVT_STATUS_PENDING 0 e.group / 2 ^ e.index % 2 == 1

/-- A route bit of the source (R762). -/
def State.evtRoute (s : State) (e : Source) : Route → Bool
  | .pin => s.rd Fld.EVT_PIN_EN_EN 0 e.group / 2 ^ e.index % 2 == 1
  | .msix => s.rd Fld.EVT_MSIX_EN_EN 0 e.group / 2 ^ e.index % 2 == 1
  | .kpr => s.rd Fld.EVT_KPR_EN_EN 0 e.group / 2 ^ e.index % 2 == 1
  | .log => s.rd Fld.EVT_LOG_EN_EN 0 e.group / 2 ^ e.index % 2 == 1

/-- The log record of a raise, with REPEAT 0 (Table 27.3). -/
def State.logRec (s : State) (e : Source) (sc : Scope) (inst detail : Nat) : BitVec 128 :=
  let tv := s.on Fld.LHT_STATUS_TIME_VALID
  setFields 0 [(LogRec.GROUP, e.group), (LogRec.INDEX, e.index), (LogRec.SEV, e.sev.code),
    (LogRec.SCOPE, sc.code), (LogRec.INSTANCE, inst), (LogRec.TIME_VALID, tv.toNat),
    (LogRec.DETAIL, detail), (LogRec.SEC, if tv then s.todSec else 0),
    (LogRec.NS, if tv then s.todNsec else 0)]

/-- Append a record to the log ring (R768); the second component says that a record was lost. -/
def State.logAppend (s : State) (r : BitVec 128) : State × Bool :=
  let w := s.rd Fld.EVT_LOG_WR_COUNT
  let rd := s.rd Fld.EVT_LOG_RD_COUNT
  let full := decide ((w + 2 ^ 32 - rd) % 2 ^ 32 ≥ 512)
  let s1 := { s with evt := { s.evt with log := Sparse.insert s.evt.log (w % 512) r } }
  let s2 := s1.wr Fld.EVT_LOG_WR_COUNT ((w + 1) % 2 ^ 32)
  if full then ((s2.wr Fld.EVT_LOG_RD_COUNT ((rd + 1) % 2 ^ 32)).bump .EVT_LOG_LOST, true) else (s2, false)

/-- Send the MSI-X message of a group now, or fold it (R764).  Nothing is sent while the PCIe link is down. -/
def State.evtMsix (s : State) (g : Nat) : State :=
  if s.on Fld.HST_PCIE_STATUS_LINK_UP then
    match Sparse.find s.evt.lastMsg g with
    | some t =>
      if s.now < t + 10 * usClk then
        { s with evt := { s.evt with msgFold := Sparse.put s.evt.msgFold g true false } }
      else
        let t := s.sendVec (s.rd Fld.EVT_GROUP_VEC_VEC 0 g)
        { t with
          evt := { s.evt with lastMsg := Sparse.insert s.evt.lastMsg g s.now } }
    | none =>
      let t := s.sendVec (s.rd Fld.EVT_GROUP_VEC_VEC 0 g)
      { t with
        evt := { s.evt with lastMsg := Sparse.insert s.evt.lastMsg g s.now } }
  else s

/-- A source's record has been written within the last 10 µs (R767). -/
def State.recentRec (s : State) (k : Nat) : Bool :=
  match Sparse.find s.evt.lastRec k with
  | some t => decide (s.now < t + 10 * usClk)
  | none => false
/-- Write a source's record, which ends the folding before it. -/
def State.writeRec (s : State) (k : Nat) (r : BitVec 128) : State × Bool :=
  let (t, lost) := s.logAppend r
  ({ t with evt := { t.evt with lastRec := Sparse.insert t.evt.lastRec k t.now, folds := Sparse.erase t.evt.folds k } }, lost)
/-- The record of the raises folded since a source's last one, once its 10 µs have ended (R767). -/
def State.writeFold (s : State) (k : Nat) : State × Bool :=
  match Sparse.find s.evt.folds k with
  | some f => if s.recentRec k then (s, false) else s.writeRec k (LogRec.REPEAT.set f.last f.count)
  | none => (s, false)
/-- Write the log record of a raise, or fold the raise into the source's next record (R767); raises whose 10 µs have ended are written
first. -/
def State.evtLog (s : State) (e : Source) (r : BitVec 128) : State × Bool :=
  let k := e.key
  let (t, lost) := s.writeFold k
  if t.recentRec k then
    let n := ((Sparse.find t.evt.folds k).map Fold.count).getD 0
    ({ t with evt := { t.evt with folds := Sparse.insert t.evt.folds k ⟨min 255 (n + 1), r⟩ } }, lost)
  else
    let (u, more) := t.writeRec k r
    (u, lost || more)

/-- Place a copy of a record in the EVENTS task's queue (R765); the second component says that it was dropped. -/
def State.evtKpr (s : State) (r : BitVec 128) : State × Bool :=
  if s.evt.kprQueue.length < 1024 then
    ({ s with evt := { s.evt with kprQueue := s.evt.kprQueue ++ [r] } }, false)
  else (s.bump .EVT_KPR_DROP, true)

/-- One raise (R761): status, then the destinations whose route bits are set.  Answers the state, whether a
log record was lost and whether a keeper copy was dropped. -/
def State.raiseOnce (s : State) (e : Source) (sc : Scope) (inst detail : Nat) : State × Bool × Bool :=
  let was := s.evtStatus e
  let r := s.logRec e sc inst detail
  let st := s.rd Fld.EVT_STATUS_PENDING 0 e.group
  let s1 := if was then s else s.wr Fld.EVT_STATUS_PENDING (st + 2 ^ e.index) 0 e.group
  let again := if was then Sparse.insert s1.evt.againAt e.key s1.now else s1.evt.againAt
  let s2 := ({ s1 with evt := { s1.evt with latest := Sparse.insert s1.evt.latest e.key r, againAt := again } }).markSet (Reg.EVT_STATUS.key 0 e.group 0) e.index
  let s3 := if !was && s2.evtRoute e .msix then s2.evtMsix e.group else s2
  let (s4, dropped) := if s3.evtRoute e .kpr then s3.evtKpr r else (s3, false)
  let (s5, lost) := if s4.evtRoute e .log then s4.evtLog e r else (s4, false)
  (s5, lost, dropped)

/-- The 1 ms interval an instant lies in. -/
def msOf (t : Nat) : Nat := t / msClk

/-- The first use of a key in the current 1 ms interval: the state that remembers it, and whether it is. -/
def State.firstInMs (s : State) (key : Nat) : State × Bool :=
  if Sparse.find s.evt.lastMs key = some (msOf s.now) then (s, false)
  else ({ s with evt := { s.evt with lastMs := Sparse.insert s.evt.lastMs key (msOf s.now) } }, true)

/-- Raise a source of the event block itself once per 1 ms interval (R765, R768). -/
def State.raiseOwn (s : State) (e : Source) : State :=
  let (s1, first) := s.firstInMs (e.key * 128)
  if first then (s1.raiseOnce e .device 0 0).1 else s1

/-- Raise a source (R761), with the event block's own raises that follow from a lost record or a dropped copy. -/
def State.raise (s : State) (e : Source) (sc : Scope := .device) (inst : Nat := 0) (detail : Nat := 0) : State :=
  let (s1, lost, dropped) := s.raiseOnce e sc inst detail
  let s2 := if lost then s1.raiseOwn Ev.EVT_LOG_LOST else s1
  if dropped then s2.raiseOwn Ev.EVT_KPR_DROP else s2

/-- Raise a source at most once per 1 ms interval and item. -/
def State.raiseMs (s : State) (e : Source) (sc : Scope := .device) (inst : Nat := 0) (detail : Nat := 0) : State :=
  let (s1, first) := s.firstInMs (e.key * 128 + inst)
  if first then s1.raise e sc inst detail else s1

/-- Raise a source at most once per second and item (intervals counted from time 0). -/
def State.raiseSec (s : State) (e : Source) (sc : Scope := .device) (inst : Nat := 0) (detail : Nat := 0) : State :=
  let k := e.key * 128 + inst + 0x100000
  if Sparse.find s.evt.lastMs k = some (s.now / sClk) then s
  else ({ s with evt := { s.evt with lastMs := Sparse.insert s.evt.lastMs k (s.now / sClk) } }).raise e sc inst detail

/-- Some source with its PIN_EN bit set has status 1 in a group (R763). -/
def State.evtPinGroup (s : State) (g : Nat) : Bool :=
  Nat.land (s.rd Fld.EVT_STATUS_PENDING 0 g) (s.rd Fld.EVT_PIN_EN_EN 0 g) != 0

/-- The level of EVENT_N: driven low while some routed source has status 1 (R763). -/
def State.eventN (s : State) : Bool := !((List.range 40).any s.evtPinGroup)

/-- The summary word of up to 32 groups from `g0` (R769). -/
def State.evtSummary (s : State) (g0 n : Nat) : Nat :=
  (List.range n).foldl (fun a j => if s.rd Fld.EVT_STATUS_PENDING 0 (g0 + j) ≠ 0 then a + 2 ^ j else a) 0

/-! ### Power domains of registers (R741) -/

/-- The domain is on (PWR_STATE). -/
def State.domainUp (s : State) (d : Nat) : Bool := s.rd Fld.PWR_STATE_STATE 0 (d / 32) / 2 ^ (d % 32) % 2 == 1

/-- The power domain that holds an item of a register (Table 26.1; assumption log entry 6). -/
def Reg.domain (r : Reg) (inst i : Nat) : Nat :=
  match r.blk with
  | 7 => 56
  | 11 => if r.n1 = 3 then 2 * (3 * inst + i) else 6 * inst + i / 4
  | 12 => 24 + inst
  | 13 => 32 + inst
  | 14 => 24 + inst
  | 15 => 24 + inst
  | 16 => 36 + inst
  | 17 => 24 + inst
  | 18 => 24 + inst
  | 19 => 24 + inst
  | 20 => if r.base % 0x40000 ≥ 0x8000 then 44 + inst else 28 + inst
  | 21 => 28 + inst
  | 22 => 28 + inst
  | 23 => 40 + inst
  | 24 => 40 + inst
  | 25 => 40 + inst
  | 26 => 52 + inst
  | 27 => 62
  | 30 => 59
  | 5 => 61
  | 6 => 61
  | _ => 60

/-! ### Register writes (R7, R10 to R12, R672, R705, R789) -/

/-- The outcome of the checks on a write, in the order R11 gives. -/
inductive Verdict where
  | accepted | right | sealMismatch | rejected
  deriving DecidableEq, Repr

/-- A register the host may write whatever RND_WR_BLOCKS holds (R672). -/
def Reg.alwaysWritable (r : Reg) : Bool :=
  (r.blk == 29 && decide (0x06000400 ≤ r.base)) || r.base == Reg.RND_CMD.base || r.base == Reg.RND_NONCE.base
    || r.base == Reg.RND_DBG_SCOPE.base || r.base == Reg.RND_WINDOW.base

/-- The block right of R672. -/
def State.hasRight (s : State) (r : Reg) : Bool :=
  r.alwaysWritable || s.rd Fld.RND_WR_BLOCKS_BLOCKS / 2 ^ r.blk % 2 == 1

/-- R10 on one field: a reserved field is written 0, and a written value lies in its ranges. -/
def FieldDesc.writeOk (f : FieldDesc) (v : Word) : Bool :=
  match f.access with
  | .reserved => bitsOf v f.lo f.width == 0
  | .rw | .seal | .wo => f.allows (bitsOf v f.lo f.width)
  | .ro | .w1c | .w1s | .rc => true

/-- Some SEAL field of the write differs from the stored value (R11). -/
def Reg.sealDiffers (r : Reg) (old v : Word) : Bool :=
  r.fields.any (fun f => f.access == .seal && bitsOf v f.lo f.width != bitsOf old f.lo f.width)

/-- The word stored by an accepted write (Table 0.2). -/
def Reg.stored (r : Reg) (old v : Word) : Word :=
  r.fields.foldl (fun w f =>
    match f.access with
    | .rw | .seal => setBitsOf w f.lo f.width (bitsOf v f.lo f.width)
    | .w1c => setBitsOf w f.lo f.width
        (Nat.land (bitsOf old f.lo f.width) (2 ^ f.width - 1 - bitsOf v f.lo f.width))
    | .w1s => setBitsOf w f.lo f.width (Nat.lor (bitsOf old f.lo f.width) (bitsOf v f.lo f.width))
    | .ro | .rc | .wo | .reserved => w) old

/-- The word an accepted write leaves in an item: a W1C bit that hardware has set in this clock ends set, whatever the write
clears (R8). -/
def State.storedWord (s : State) (r : Reg) (inst i k : Nat) (v : Word) (slot : Nat) : Word :=
  let old := s.rdReg r inst i k slot
  let w := r.stored old v
  if r.fields.any (fun f => f.access == .w1c) then
    (List.range 32).foldl (fun x b =>
      if old.getLsbD b && Sparse.find s.evt.setAt (r.key inst i k slot * 32 + b) == some s.now then setBitsOf x b 1 1 else x) w
  else w

/-- The device is between the end of phase 6 and the end of phase 9 (R789). -/
def State.loading (s : State) : Bool :=
  decide (6 ≤ s.rd Fld.RST_STATUS_PHASE ∧ s.rd Fld.RST_STATUS_PHASE < 9)

/-- The copy of a per-slot register a write goes to: the BUILDING one, else that of slot 0, open for loading (R180, R187). -/
def State.writeSlot (s : State) (r : Reg) (inst : Nat) : Nat :=
  if r.perSlot then
    if s.rd Fld.RBK_EPOCH_STATUS_SLOT0_STATE inst = 1 then 0
    else if s.rd Fld.RBK_EPOCH_STATUS_SLOT1_STATE inst = 1 then 1
    else 0
  else 0

/-- Memory self-test runs on a domain, whose blocks then take no write (R778). -/
def State.testing (s : State) (d : Nat) : Bool := s.dgn.bist.elim false (fun b => b.1 == d)

/-- The checks on a write of word `v`: block right, SEAL mismatch, then R10 with the register's own conditions
(`extra` says that one of those rejects it). -/
def State.verdict (s : State) (by_ : Agent) (r : Reg) (inst i k : Nat) (v : Word) (extra : Bool) : Verdict :=
  if by_ = .host && !s.hasRight r then .right
  else if by_ ≠ .loader && r.sealDiffers (s.rdReg r inst i k (s.writeSlot r inst)) v then .sealMismatch
  else if (by_ = .host && s.loading) || !s.domainUp (r.domain inst i) || s.testing (r.domain inst i)
      || !(r.fields.all (fun f => f.writeOk v)) || extra then .rejected
  else .accepted

/-- A rights violation (R674): counted, the first one held, EVT 26.0 once per 1 ms interval (R686). -/
def State.violation (s : State) (kind addr opcode : Nat) : State :=
  let s1 := s.bump .RND_VIOLATIONS
  let s2 :=
    if s1.on Fld.RND_VIOL_INFO_VALID then s1
    else ((((s1.wr Fld.RND_VIOL_ADDR_ADDR addr).wr Fld.RND_VIOL_INFO_KIND kind).wr
      Fld.RND_VIOL_INFO_OPCODE opcode).setW1c Fld.RND_VIOL_INFO_VALID)
  s2.raiseMs Ev.RND_RIGHTS_VIOLATION .device 0 (kind + opcode * 4)

/-- A write rejected under R10 (R705): counted, EVT 28.0 once per 1 ms interval. -/
def State.rejectWrite (s : State) : State :=
  (s.bump .HST_WRITE_REJECTED).raiseMs Ev.HST_WRITE_REJECTED

/-- A register write, with the effect an accepted one has beside storing its word. -/
def State.busWrite (s : State) (by_ : Agent) (r : Reg) (inst i k : Nat) (v : Word) (extra : Bool)
    (effect : State → State) : State :=
  match s.verdict by_ r inst i k v extra with
  | .right => s.violation 0 (r.addr inst i k) 0
  | .sealMismatch => s.violation 1 (r.addr inst i k) 0
  | .rejected => s.rejectWrite
  | .accepted =>
    let sl := s.writeSlot r inst
    effect (s.wrReg r inst i k (s.storedWord r inst i k v sl) sl)

/-- The checks on a write to a register whose value lies outside the register file; an accepted one has an effect. -/
def State.busCheck (s : State) (by_ : Agent) (r : Reg) (inst i k : Nat) (v : Word) (extra : Bool)
    (effect : State → State) : State :=
  match s.verdict by_ r inst i k v extra with
  | .right => s.violation 0 (r.addr inst i k) 0
  | .sealMismatch => s.violation 1 (r.addr inst i k) 0
  | .rejected => s.rejectWrite
  | .accepted => effect s

/-- The value a field has in a written word. -/
def Fld.of (f : Fld) (v : Word) : Nat := bitsOf v f.lo f.width

/-- A one-bit field of a written word. -/
def Fld.onIn (f : Fld) (v : Word) : Bool := f.of v == 1

/-! ### Draining a block (R736) -/

/-- EN of a block instance has been cleared: its drain limit runs. -/
def State.startDrain (s : State) (blk inst clk : Nat) : State :=
  { s with drains := Sparse.insert s.drains (blk * 8 + inst) (s.now + clk) }
/-- The block drains no longer. -/
def State.stopDrain (s : State) (blk inst : Nat) : State := { s with drains := Sparse.erase s.drains (blk * 8 + inst) }
/-- The block drains after its EN was cleared. -/
def State.draining (s : State) (blk inst : Nat) : Bool := (Sparse.find s.drains (blk * 8 + inst)).isSome
/-- Its drain limit has run out. -/
def State.drainOver (s : State) (blk inst : Nat) : Bool :=
  match Sparse.find s.drains (blk * 8 + inst) with
  | some t => decide (t ≤ s.now)
  | none => false

/-- A write of a CTRL register with EN and QUIET: setting EN clears QUIET; clearing it starts the drain; `off` rejects a
write that clears EN. -/
def State.ctrlWrite (s : State) (by_ : Agent) (r : Reg) (en quiet : Fld) (inst : Nat) (v : Word) (limit : Nat) (off extra : Bool)
    (onSet : State → State) : State :=
  let was := s.on en inst
  let to_ := en.onIn v
  s.busWrite by_ r inst 0 0 v ((was && !to_ && off) || extra) (fun t =>
    if to_ && !was then onSet ((t.stopDrain r.blk inst).wr quiet 0 inst)
    else if was && !to_ then t.startDrain r.blk inst limit
    else t)

/-- A perturbation slot acts now at a point on a target (R781, Table 28.2). -/
def State.perturbs (s : State) (point target : Nat) : Bool :=
  (List.range 2).any (fun k => s.on Fld.DGN_PERT_CTRL_EN 0 k && s.rd Fld.DGN_PERT_CFG_POINT 0 k == point
    && (s.rd Fld.DGN_PERT_CFG_TARGET 0 k == target || (point == 0 && s.rd Fld.DGN_PERT_CFG_TARGET 0 k == 64))
    && Sparse.get s.dgn.pertActs k true)

/-- The AMOUNT of a perturbation that acts at a point on a target, or 0. -/
def State.perturbAmount (s : State) (point target : Nat) : Nat :=
  (List.range 2).foldl (fun a k =>
    if s.on Fld.DGN_PERT_CTRL_EN 0 k && s.rd Fld.DGN_PERT_CFG_POINT 0 k == point
        && (s.rd Fld.DGN_PERT_CFG_TARGET 0 k == target || (point == 0 && s.rd Fld.DGN_PERT_CFG_TARGET 0 k == 64))
        && Sparse.get s.dgn.pertActs k true then s.rd Fld.DGN_PERT_CFG_AMOUNT 0 k else a) 0

/-! ### Error injection (R780) -/

/-- The key of a word of an instance of an injection target. -/
def plantKey (target inst word : Nat) : Nat := (target * 128 + inst) * 2 ^ 64 + word
/-- A write of a word of an injection target to an instance: an injection armed for it corrupts its check bits, once, or with CONT once
per 1 ms.  The data is written as it is; the damage acts where the word is next read (Table 28.1).  Any other write makes the word
sound. -/
def State.injectFire (s : State) (target inst word : Nat) : State :=
  let s := { s with dgn := { s.dgn with planted := Sparse.erase s.dgn.planted (plantKey target inst word) } }
  let waits := s.dgn.lastInject.elim false (fun t => decide (s.now < t + msClk))
  if s.on Fld.DGN_INJ_CFG_ARM && s.rd Fld.DGN_INJ_CFG_TARGET == target && s.rd Fld.DGN_INJ_CFG_INSTANCE == inst && !waits then
    let planted := Sparse.insert s.dgn.planted (plantKey target inst word) (s.rd Fld.DGN_INJ_CFG_KIND)
    let t := ({ s with dgn := { s.dgn with planted := planted, lastInject := some s.now } }).bump .DGN_INJECTIONS
    if s.on Fld.DGN_INJ_CFG_CONT then t else (t.wr Fld.DGN_INJ_CFG_ARM 0).wr Fld.DGN_STATUS_INJ_ARMED 0
  else s
/-- A word of an injection target is read: the kind of the error planted in it, which is found and stands no longer. -/
def State.readPlant (s : State) (target inst word : Nat) : State × Option Nat :=
  let k := plantKey target inst word
  ({ s with dgn := { s.dgn with planted := Sparse.erase s.dgn.planted k } }, Sparse.find s.dgn.planted k)
/-- What a read of a word finds: the error planted in it, or what the command names: 0 nothing, 1 a corrected error, 2 an uncorrectable
one. -/
def State.readWord (s : State) (target inst word named : Nat) : State × Nat :=
  match s.readPlant target inst word with
  | (t, some k) => (t, k + 1)
  | (_, none) => (s, named)
/-- The words of an instance of an injection target that hold a planted error, with its kind. -/
def State.plants (s : State) (target inst : Nat) : List (Nat × Nat) :=
  (s.dgn.planted.filter (fun (e : Nat × Nat) => e.1 / 2 ^ 64 == target * 128 + inst)).map (fun e => (e.1 % 2 ^ 64, e.2))

end Sys2Proof.Machine
end

