-- ==== Sys2Proof/Machine/Parse.lean ====
section
/-! DEFINITION. The fixed header parser as a function from a window to a parse result (spec 05, R140 to R153), and the
checksums the MAC checks over it (spec 03, R91 to R94). -/
namespace Sys2Proof.Machine

open Sys2Proof.Config

/-- The byte at an offset, 0 past the end. -/
def byteAt (l : List Byte) (i : Nat) : Nat := ((l.drop i).head?.getD 0).toNat
/-- The 16-bit big-endian number at an offset. -/
def be16 (l : List Byte) (i : Nat) : Nat := byteAt l i * 256 + byteAt l (i + 1)
/-- A big-endian number of `n` bytes at an offset. -/
def beAt (l : List Byte) (i n : Nat) : Nat := beOfBytes ((l.drop i).take n ++ List.replicate (n - (l.length - i)) 0)


/-- What follows a header: parsing ends, it ends at an unrecognised value (R145), or a header of Table 5.1. -/
inductive PNext where
  | stop | unknown | hdr (code : Nat)
  deriving DecidableEq, Repr

/-- The walk of a packet's headers. -/
structure Walk where
  /-- Headers parsed, first to last: code and offset. -/
  hdrs : List (Nat × Nat)
  off : Nat
  deep : Bool
  malL3 : Bool
  malL4 : Bool
  malTun : Bool
  malIdx : Nat
  frag : Bool
  fragFirst : Bool
  innerFrag : Bool
  unknown : Bool
  /-- Tags after the last ETH, whether that ETH is an inner one, and tags after the first. -/
  tags : Nat
  innerEth : Bool
  vlans : Nat
  labels : Nat
  exts : Nat
  /-- End of the current IP datagram. -/
  dgram : Option Nat
  /-- Length field of the last UDP header. -/
  udpLen : Nat
  /-- The headers so far after the outer IP are its extension headers. -/
  outerChain : Bool
  l3 : Nat
  l4 : Nat
  tun : Nat
  ipEnd : Nat
  done : Bool
  deriving DecidableEq, Repr

/-- The walk at byte 0. -/
def Walk.init : Walk :=
  { hdrs := [], off := 0, deep := false, malL3 := false, malL4 := false, malTun := false, malIdx := 15, frag := false,
    fragFirst := false, innerFrag := false, unknown := false, tags := 0, innerEth := false, vlans := 0, labels := 0,
    exts := 0, dgram := none, udpLen := 0, outerChain := false, l3 := 15, l4 := 15, tun := 15, ipEnd := 0, done := false }

/-- The header a type field names (Table 5.1); a length leads to LLC except after SNAP. -/
def typeNext (t : Nat) (snap : Bool) : PNext :=
  if t = 0x8100 then .hdr 2 else if t = 0x88A8 then .hdr 3 else if t = 0x9100 then .hdr 4
  else if t ≤ 0x05DC ∧ !snap then .hdr 5
  else if t = 0x8847 ∨ t = 0x8848 then .hdr 7
  else if t = 0x0800 then .hdr 9 else if t = 0x86DD then .hdr 10
  else if t = 0xAEFE then .hdr 24 else if t = 0xFC3D then .hdr 25 else if t = 0x88F7 then .hdr 26
  else if t = 0x0806 then .hdr 27 else .unknown

/-- The header an IP protocol or Next Header value names (Table 5.1); values 0, 43, 44, 58, 59 and 60 are IPv6 only, and 1
is IPv4 only. -/
def protoNext (v6 : Bool) (p : Nat) (routingType : Nat) : PNext :=
  if p = 4 then .hdr 9 else if p = 41 then .hdr 10
  else if v6 ∧ p = 0 then .hdr 11
  else if v6 ∧ p = 43 then .hdr (if routingType = 4 then 13 else 12)
  else if v6 ∧ p = 44 then .hdr 14
  else if v6 ∧ p = 60 then .hdr 15
  else if v6 ∧ p = 59 then .stop
  else if !v6 ∧ p = 1 then .hdr 16
  else if v6 ∧ p = 58 then .hdr 17
  else if p = 17 then .hdr 18 else if p = 6 then .hdr 19 else if p = 132 then .hdr 20
  else if p = 47 then .hdr 21 else if p = 50 then .hdr 28
  else .unknown

/-- The class of a header for the last row of Table 5.5: 0 L3, 1 L4, 2 TUN. -/
def hdrClass (c : Nat) : Nat := if 9 ≤ c ∧ c ≤ 15 then 0 else if 21 ≤ c ∧ c ≤ 23 then 2 else 1

/-- Set the malformed flag of a class for the last header (R148). -/
def Walk.malform (w : Walk) (cls : Nat) : Walk :=
  { w with malL3 := w.malL3 || cls == 0, malL4 := w.malL4 || cls == 1, malTun := w.malTun || cls == 2,
           malIdx := w.hdrs.length - 1, done := true }

/-- Parsing ends with PARSE_DEEP. -/
def Walk.goDeep (w : Walk) : Walk := { w with deep := true, done := true }

/-- A place lies beyond an end, when there is one. -/
def pastEnd (e : Option Nat) (x : Nat) : Bool := match e with | some d => decide (d < x) | none => false

/-- Bytes of the extension headers of a GTP-U header from an offset: those inside the entry, and how the list ends:
0 complete, 1 deep (a fifth, or one beyond the window), 2 malformed (one of length 0, or beyond the data end). -/
def gtpuExts (b : List Byte) (data : Option Nat) : Nat → Nat → Nat → Nat × Nat
  | 0, off, t => if t = 0 then (off, 0) else (off, 1)
  | n + 1, off, t =>
    if t = 0 then (off, 0)
    else if 256 < off + 1 then (off, 1)
    else if pastEnd data (off + 1) then (off, 2)
    else
      let len := byteAt b off * 4
      if len = 0 then (off, 2)
      else if 256 < off + len then (off, 1)
      else if pastEnd data (off + len) then (off, 2)
      else gtpuExts b data n (off + len) (byteAt b (off + len - 1))

/-- A Hop-by-Hop header carries a Jumbo Payload option (type 0xC2): its options from `off` to `end_`. -/
def hasJumbo (b : List Byte) (end_ : Nat) : Nat → Nat → Bool
  | 0, _ => false
  | n + 1, off =>
    if end_ ≤ off then false
    else if byteAt b off = 0xC2 then true
    else if byteAt b off = 0 then hasJumbo b end_ n (off + 1)
    else hasJumbo b end_ n (off + 2 + byteAt b (off + 1))

/-- Bytes from the start of a header that show its length, and its length (Table 5.1). -/
def hdrLen (b : List Byte) (c off : Nat) : Nat × Nat :=
  match c with
  | 1 => (14, 14) | 2 => (4, 4) | 3 => (4, 4) | 4 => (4, 4) | 5 => (3, 3) | 6 => (5, 5) | 7 => (4, 4) | 8 => (4, 4)
  | 9 => (1, byteAt b off % 16 * 4)
  | 10 => (40, 40)
  | 11 => (2, (byteAt b (off + 1) + 1) * 8)
  | 12 => (2, (byteAt b (off + 1) + 1) * 8)
  | 13 => (2, (byteAt b (off + 1) + 1) * 8)
  | 14 => (8, 8)
  | 15 => (2, (byteAt b (off + 1) + 1) * 8)
  | 16 => (8, 8) | 17 => (8, 8) | 18 => (8, 8)
  | 19 => (13, byteAt b (off + 12) / 16 * 4)
  | 20 => (12, 12)
  | 21 =>
    let f := byteAt b off
    (1, 4 + (if f / 128 % 2 = 1 then 4 else 0) + (if f / 32 % 2 = 1 then 4 else 0) + (if f / 16 % 2 = 1 then 4 else 0))
  | 22 => (8, 8)
  | 23 => (1, if byteAt b off % 8 = 0 then 8 else 12)
  | 24 => (4, 4) | 25 => (8, 8) | 26 => (34, 34)
  | 27 => (6, 8 + 2 * byteAt b (off + 4) + 2 * byteAt b (off + 5))
  | _ => (8, 8)

/-- A header that would exceed a limit of Table 5.2. -/
def Walk.overLimit (w : Walk) (c : Nat) : Bool :=
  decide (12 ≤ w.hdrs.length)
    || (decide (2 ≤ c ∧ c ≤ 4) && decide ((if w.innerEth then 2 else 3) ≤ w.tags))
    || (c == 7 && decide (6 ≤ w.labels))
    || (decide (11 ≤ c ∧ c ≤ 15) && decide (4 ≤ w.exts))

/-- The format checks of Table 5.5 on a recorded header of `len` bytes: true when one fails.  `enc` is the enclosing end of
an IP header, when there is one. -/
def Walk.formatBad (w : Walk) (b : List Byte) (c off len : Nat) (enc : Option Nat) : Bool :=
  let past := pastEnd
  let after6 := match w.hdrs.dropLast.getLast? with | some (p, _) => p == 10 | none => false
  match c with
  | 9 =>
    byteAt b off / 16 != 4 || decide (byteAt b off % 16 < 5) || decide (be16 b (off + 2) < byteAt b off % 16 * 4)
      || past enc (off + be16 b (off + 2))
  | 10 => byteAt b off / 16 != 6 || past enc (off + 40 + be16 b (off + 4))
  | 11 => !after6 || hasJumbo b (off + len) len (off + 2) || past w.dgram (off + len)
  | 12 => past w.dgram (off + len)
  | 13 =>
    decide (byteAt b (off + 1) < 2 * (byteAt b (off + 4) + 1)) || decide (byteAt b (off + 4) + 1 < byteAt b (off + 3))
      || past w.dgram (off + len)
  | 14 => past w.dgram (off + len)
  | 15 => past w.dgram (off + len)
  | 18 => decide (be16 b (off + 4) < 8) || (match w.dgram with | some d => off + be16 b (off + 4) != d | none => false)
  | 19 => decide (byteAt b (off + 12) / 16 < 5) || past w.dgram (off + len)
  | 16 => past w.dgram (off + len)
  | 17 => past w.dgram (off + len)
  | 20 => past w.dgram (off + len)
  | 21 => be16 b off % 8 != 0 || be16 b off / 2 ^ 14 % 2 == 1 || be16 b off / 8 % 512 != 0 || past w.dgram (off + len)
  | 22 => byteAt b off / 8 % 2 == 0
  | 23 => byteAt b off / 32 != 1 || byteAt b off / 16 % 2 == 0 || be16 b (off + 2) + 16 != w.udpLen
  | _ => false

/-- The header a payload nibble names after an MPLS bottom label or a G-PDU (R828). -/
def Walk.nibble (w : Walk) (b : List Byte) (data : Option Nat) (pw : Bool) : Walk × PNext :=
  if w.off = 256 then (w.goDeep, .stop)
  else if data = some w.off then (w, .stop)
  else
    let n := byteAt b w.off / 16
    if n = 4 then (w, .hdr 9) else if n = 6 then (w, .hdr 10) else if pw ∧ n = 0 then (w, .hdr 8) else (w, .unknown)

/-- An IPv4 or V6_FRAG header makes its packet a fragment (R151); the value says whether it is the first one. -/
def fragOf (b : List Byte) (c off : Nat) : Option Bool :=
  let ff := be16 b (if c = 9 then off + 6 else off + 2)
  if c = 9 then (if ff / 2 ^ 13 % 2 = 1 ∨ ff % 2 ^ 13 ≠ 0 then some (ff % 2 ^ 13 == 0) else none)
  else if c = 14 then (if ff % 2 = 1 ∨ ff / 8 ≠ 0 then some (ff / 8 == 0) else none)
  else none
/-- The flags of a fragment on a recorded header, well formed or not, whose fields lie before the data end (R151). -/
def Walk.markFrag (w : Walk) (b : List Byte) (data : Option Nat) (c off : Nat) : Walk :=
  match (if pastEnd data (off + 8) then none else fragOf b c off) with
  | some first =>
    if w.hdrs.length - 1 = w.l3 ∨ w.outerChain then { w with frag := true, fragFirst := first } else { w with innerFrag := true, fragFirst := first }
  | none => w
/-- A recorded header without fault: what it leaves in the walk, and what follows it (Table 5.1, R151). -/
def Walk.follow (w : Walk) (cfg : ParseCfg) (b : List Byte) (data : Option Nat) (c off : Nat) : Walk × PNext :=
  let v6 := match w.hdrs.find? (fun h => h.1 == 10 && h.2 == off) with | some _ => true | none => decide (11 ≤ c ∧ c ≤ 15)
  let rt := byteAt b (w.off + 2)
  match c with
  | 1 => (w, typeNext (be16 b (off + 12)) false)
  | 2 => (w, typeNext (be16 b (off + 2)) false)
  | 3 => (w, typeNext (be16 b (off + 2)) false)
  | 4 => (w, typeNext (be16 b (off + 2)) false)
  | 5 => (w, if beAt b off 3 = 0xAAAA03 then .hdr 6 else .stop)
  | 6 => (w, typeNext (be16 b (off + 3)) true)
  | 7 =>
    if byteAt b (off + 2) % 2 = 0 then (w, .hdr 7)
    else if cfg.mplsPayload = 2 then (w, .stop)
    else w.nibble b data (cfg.mplsPayload == 1)
  | 8 => (w, .hdr 1)
  | 9 =>
    (w, if (fragOf b 9 off).isSome then .stop else protoNext false (byteAt b (off + 9)) 0)
  | 10 => (w, protoNext true (byteAt b (off + 6)) rt)
  | 14 =>
    (w, if (fragOf b 14 off).isSome then .stop else protoNext true (byteAt b off) rt)
  | 11 => (w, protoNext v6 (byteAt b off) rt)
  | 12 => (w, protoNext v6 (byteAt b off) rt)
  | 13 => (w, protoNext v6 (byteAt b off) rt)
  | 15 => (w, protoNext v6 (byteAt b off) rt)
  | 18 =>
    let d := be16 b (off + 2)
    if d ≠ 0 ∧ d = cfg.vxlan then (w, .hdr 22)
    else if d ≠ 0 ∧ d = cfg.gtpu then (w, .hdr 23)
    else if d = 319 ∨ d = 320 then (w, .hdr 26)
    else if d ≠ 0 ∧ d = cfg.ecpri then (w, .hdr 24)
    else (w, .stop)
  | 21 =>
    let t := be16 b (off + 2)
    (w, if t = 0x0800 then .hdr 9 else if t = 0x86DD then .hdr 10 else if t = 0x6558 then .hdr 1
      else if t = 0x8847 then .hdr 7 else .unknown)
  | 22 => (w, .hdr 1)
  | 23 => if byteAt b (off + 1) = 255 then w.nibble b data false else (w, .stop)
  | _ => (w, .stop)

/-- Record a header of `len` bytes in the stack, with the counts and indices it sets. -/
def Walk.record (w : Walk) (b : List Byte) (c off len : Nat) : Walk :=
  let i := w.hdrs.length
  let prevIp := match w.hdrs.getLast? with | some (p, _) => decide (9 ≤ p ∧ p ≤ 15) | none => false
  let ip := c == 9 || c == 10
  let outer := ip && w.l3 == 15
  let end_ := if c = 9 then off + be16 b (off + 2) else off + 40 + be16 b (off + 4)
  { w with
    hdrs := w.hdrs ++ [(c, off)], off := off + len,
    tags := if c = 1 then 0 else if 2 ≤ c ∧ c ≤ 4 then w.tags + 1 else w.tags,
    innerEth := if c = 1 then decide (i ≠ 0) else w.innerEth,
    vlans := if 2 ≤ c ∧ c ≤ 4 ∧ !w.innerEth then w.vlans + 1 else w.vlans,
    labels := if c = 7 then w.labels + 1 else w.labels,
    exts := if ip then 0 else if 11 ≤ c ∧ c ≤ 15 then w.exts + 1 else w.exts,
    dgram := if ip then some end_ else w.dgram,
    udpLen := if c = 18 then be16 b (off + 4) else w.udpLen,
    l3 := if outer then i else w.l3,
    l4 := if w.l4 = 15 ∧ w.outerChain ∧ 16 ≤ c ∧ c ≤ 20 then i else w.l4,
    outerChain := outer || (w.outerChain && decide (11 ≤ c ∧ c ≤ 15)),
    tun := if c = 8 ∨ (21 ≤ c ∧ c ≤ 23) ∨ (ip && prevIp) then i else w.tun,
    ipEnd := if outer then min 16383 end_ else w.ipEnd }

/-- One header: the limits (R146), the window (R143), the checks (R148), and what comes next.  `data` is the data end of a
packet of 256 bytes or less. -/
def Walk.header (w : Walk) (cfg : ParseCfg) (b : List Byte) (data : Option Nat) (c : Nat) : Walk × PNext :=
  let off := w.off
  let enc := match w.dgram with | some d => some d | none => data
  let past := pastEnd data
  let (need, len) := hdrLen b c off
  if w.overLimit c then (w.goDeep, .stop)
  else if 256 < off + need || (!past (off + need) && decide (256 < off + len)) then (w.goDeep, .stop)
  else if c = 23 ∧ byteAt b off / 4 % 2 = 1 ∧ !past (off + 12) then
    let (end_, how) := gtpuExts b data 4 (off + 12) (byteAt b (off + 11))
    let w0 := w.record b c off (end_ - off)
    let w1 := { w0 with deep := w0.deep || how == 1 }
    if w1.formatBad b c off (end_ - off) enc || how == 2 then (w1.malform 2, .stop)
    else if how = 1 then (w1.goDeep, .stop)
    else w1.follow cfg b data c off
  else
    let w1 := (w.record b c off (min len (256 - off))).markFrag b data c off
    if past (off + max need len) || w1.formatBad b c off len enc then (w1.malform (hdrClass c), .stop)
    else w1.follow cfg b data c off

/-- The walk; `n` bounds the headers looked at. -/
def walk (cfg : ParseCfg) (b : List Byte) (data : Option Nat) : Nat → Walk → PNext → Walk
  | 0, w, _ => w
  | _ + 1, w, .stop => w
  | _ + 1, w, .unknown => { w with unknown := true }
  | n + 1, w, .hdr c =>
    let (w1, nx) := w.header cfg b data c
    if w1.done then w1 else walk cfg b data n w1 nx

/-- The index of the first header at or after `i` whose code a test allows; 15 if none. -/
def hdrIdx (h : List (Nat × Nat)) (i : Nat) (p : Nat → Bool) : Nat :=
  ((List.range h.length).find? (fun k => decide (i ≤ k) && p ((h.getD k (0, 0)).1))).getD 15

/-- The offset of the L2 type field (R829): of the last tag entry directly after the first ETH, else of the first ETH. -/
def l2TypeOff (h : List (Nat × Nat)) : Nat :=
  let tags := (h.drop 1).takeWhile (fun e => decide (2 ≤ e.1 ∧ e.1 ≤ 4))
  match tags.getLast? with
  | some (_, o) => o + 2
  | none => 12

/-- The VID of the outermost tag, when tagged. -/
def outerVid (b : List Byte) (h : List (Nat × Nat)) : Option Nat :=
  match h.drop 1 with
  | (c, o) :: _ => if 2 ≤ c ∧ c ≤ 4 then some (be16 b o % 4096) else none
  | [] => none

/-- EXPRESS_KIND (R153). -/
def expressKind (cfg : ParseCfg) (b : List Byte) (h : List (Nat × Nat)) : Nat :=
  let t := be16 b (l2TypeOff h)
  if t = 0xAEFE then 1 else if t = 0xFC3D then 2
  else if cfg.exp.any (fun (e, v, any) => e == t && (any || outerVid b h == some v)) then 3 else 0

/-- The parse result of a window (Table 5.4) with both checksum fields 0; `len` is the frame's length with FCS when it is
256 bytes or less. -/
def parseWindow (cfg : ParseCfg) (b : List Byte) (len : Option Nat) (port pass : Nat) : BitVec 256 :=
  let data := len.map (fun l => l - 4)
  let w := walk cfg b data 16 Walk.init (.hdr 1)
  let h := w.hdrs
  let inL3 := if w.tun = 15 then 15 else hdrIdx h w.tun (fun c => c == 9 || c == 10)
  let inL4 := if inL3 = 15 then 15 else hdrIdx h (inL3 + 1) (fun c => decide (16 ≤ c ∧ c ≤ 20))
  let (oc, oo) := h.getD w.l3 (0, 0)
  let ttl := if oc = 9 then byteAt b (oo + 8) else byteAt b (oo + 7)
  let ek := expressKind cfg b h
  let stack := (List.range h.length).foldl (fun (r : BitVec 256) i =>
    let (c, o) := h.getD i (0, 0)
    (ParseRes.HDR i).set r (c + o * 64)) 0
  setFields stack [(ParseRes.HDR_COUNT, h.length), (ParseRes.OUTER_L3_IDX, w.l3), (ParseRes.OUTER_L4_IDX, w.l4),
    (ParseRes.TUNNEL_IDX, w.tun), (ParseRes.INNER_L3_IDX, inL3), (ParseRes.INNER_L4_IDX, inL4),
    (ParseRes.END_OFFSET, w.off), (ParseRes.VLAN_COUNT, w.vlans), (ParseRes.PARSE_DEEP, w.deep.toNat),
    (ParseRes.MALFORMED_L3, w.malL3.toNat), (ParseRes.MALFORMED_L4, w.malL4.toNat), (ParseRes.FRAG, w.frag.toNat),
    (ParseRes.FRAG_FIRST, w.fragFirst.toNat), (ParseRes.INNER_FRAG, w.innerFrag.toNat),
    (ParseRes.EXPRESS, (ek != 0).toNat), (ParseRes.EXPRESS_KIND, ek),
    (ParseRes.LEN_TYPE, (decide (be16 b (l2TypeOff h) < 0x0600)).toNat),
    (ParseRes.TTL_LOW, (w.l3 != 15 && decide (ttl ≤ 1)).toNat),
    (ParseRes.IP_OPTIONS, (oc == 9 && decide (5 < byteAt b oo % 16)).toNat), (ParseRes.STOP_UNKNOWN, w.unknown.toNat),
    (ParseRes.INGRESS_PORT, port), (ParseRes.PASS, pass), (ParseRes.IP_END, w.ipEnd), (ParseRes.MALFORMED_IDX, w.malIdx),
    (ParseRes.MALFORMED_TUN, w.malTun.toNat)]

/-! ### Reading a parse result -/

/-- Code and offset of a stack entry. -/
def prHdr (r : BitVec 256) (i : Nat) : Nat × Nat :=
  if 12 ≤ i then (0, 0) else let v := (ParseRes.HDR i).get r; (v % 64, v / 64)
/-- The stack. -/
def prStack (r : BitVec 256) : List (Nat × Nat) := (List.range (ParseRes.HDR_COUNT.get r)).map (prHdr r)
/-- Some malformed flag is set. -/
def prMalformed (r : BitVec 256) : Bool := ParseRes.MALFORMED_L3.on r || ParseRes.MALFORMED_L4.on r || ParseRes.MALFORMED_TUN.on r

/-! ### Checksums (R91 to R94, R825) -/

/-- The ones' complement sum of 16-bit words from an offset to an end, an odd last byte padded with zero. -/
def sum16 (b : List Byte) : Nat → Nat → Nat → Nat
  | 0, _, _ => 0
  | n + 1, off, end_ =>
    if end_ ≤ off then 0
    else (if end_ = off + 1 then byteAt b off * 256 else be16 b off) + sum16 b n (off + 2) end_
/-- Fold a sum into 16 bits. -/
def fold16 (s : Nat) : Nat :=
  let a := s % 65536 + s / 65536
  let c := a % 65536 + a / 65536
  c % 65536 + c / 65536
/-- RFC 1624, equation 3, over some changed words. -/
def csumFix (c : Nat) (old new : List Nat) : Nat :=
  0xFFFF - fold16 ((0xFFFF - c) + old.foldl (fun a w => a + (0xFFFF - w)) 0 + new.foldl (· + ·) 0)
/-- A sum that includes its checksum is good. -/
def csumGood (s : Nat) : Bool := fold16 s == 0xFFFF

/-- L3_CSUM of a packet: 0 not checked, 1 good, 2 bad (R91). -/
def l3Csum (r : BitVec 256) (b : List Byte) : Nat :=
  let i := ParseRes.OUTER_L3_IDX.get r
  let (c, o) := prHdr r i
  if i = 15 ∨ c ≠ 9 then 0
  else if csumGood (sum16 b 32 o (o + byteAt b o % 16 * 4)) then 1 else 2

/-- The L4 check is made on a packet (R91 to R93): a UDP or TCP header of a packet that is no fragment, with sound length
fields. -/
def l4Checked (r : BitVec 256) (b : List Byte) (zeroOk : Bool) : Bool :=
  let i := ParseRes.OUTER_L4_IDX.get r
  let (c, o) := prHdr r i
  let v4 := (prHdr r (ParseRes.OUTER_L3_IDX.get r)).1 == 9
  i != 15 && (c == 18 || c == 19) && !ParseRes.FRAG.on r && ParseRes.MALFORMED_IDX.get r != i
    && ParseRes.MALFORMED_IDX.get r != ParseRes.OUTER_L3_IDX.get r
    && !(c == 18 && be16 b (o + 6) == 0 && (v4 || zeroOk))

/-- L4_CSUM of a packet; a UDP checksum of zero over IPv6 is bad (R92, R93). -/
def l4Csum (r : BitVec 256) (b : List Byte) (zeroOk : Bool) : Nat :=
  let (c, o) := prHdr r (ParseRes.OUTER_L4_IDX.get r)
  let (c3, o3) := prHdr r (ParseRes.OUTER_L3_IDX.get r)
  if !l4Checked r b zeroOk then 0
  else if c = 18 ∧ be16 b (o + 6) = 0 then 2
  else
    let end_ := ParseRes.IP_END.get r
    let addrs := if c3 = 9 then sum16 b 8 (o3 + 12) (o3 + 20) else sum16 b 32 (o3 + 8) (o3 + 40)
    let pseudo := addrs + (if c = 18 then 17 else 6) + (end_ - o)
    if csumGood (pseudo + sum16 b b.length o end_) then 1 else 2

/-! ### The frame check sequence -/

/-- The remainder of one byte under a bit-reversed polynomial, bit 0 first. -/
def crcStep (poly c : Nat) (b : Byte) : Nat :=
  (List.range 8).foldl (fun x _ => if x % 2 = 1 then Nat.xor (x / 2) poly else x / 2) (Nat.xor c b.toNat)
/-- The FCS of a frame: the CRC-32 of 802.3. -/
def crc32 (l : List Byte) : BitVec 32 := BitVec.ofNat 32 (0xFFFFFFFF - l.foldl (crcStep 0xEDB88320) 0xFFFFFFFF)
/-- The mCRC behind the bytes of a frame sent up to a fragment's end (802.3br): their CRC-32 with its upper sixteen bits inverted. -/
def mCrc (l : List Byte) : BitVec 32 := crc32 l ^^^ 0xFFFF0000
/-- An invalid FCS: the ones' complement of the good one. -/
def badFcs (l : List Byte) : BitVec 32 := ~~~(crc32 l)

end Sys2Proof.Machine
end

