-- ==== Sys2Proof/Machine/Keys.lean ====
section
/-! DEFINITION. The keys the lookups build from a packet's bytes at the
offsets of its parse result (spec 06, R167, R168; spec 07, R200, R201; spec 09, R256). -/
namespace Sys2Proof.Machine

open Sys2Proof.Config

/-! ### Fields of a packet -/

/-- A front port. -/
def isFront (port : Nat) : Bool := decide (port < 96)

/-- The window of a packet: its first 256 bytes with the FCS bytes that lie in it (R140, R142). -/
def Packet.window (p : Packet) : List Byte :=
  if p.orig.length < 256 ∧ p.ended.isSome then (p.orig ++ bytesOfNat 4 (crc32 p.orig).toNat).take 256
  else p.orig.take 256

/-- What was parsed of the window: no field is read beyond END_OFFSET (R168). -/
def Packet.parsed (p : Packet) : List Byte := p.window.take (ParseRes.END_OFFSET.get p.parse)

/-- The IP and L4 fields at one level. -/
structure KFields where
  /-- 0 no IP header, 9 IPV4, 10 IPV6 (Table 5.1). -/
  l3 : Nat
  sip : Nat
  dip : Nat
  proto : Nat
  dscp : Nat
  ecn : Nat
  flowLabel : Nat
  l4 : Bool
  /-- Code of the L4 entry. -/
  l4Code : Nat
  l4Off : Nat
  src : Nat
  dst : Nat
  tcp : Nat
  deriving DecidableEq, Repr

/-- No header at the level. -/
def KFields.none : KFields := ⟨0, 0, 0, 0, 0, 0, 0, false, 0, 0, 0, 0, 0⟩

/-- The protocol field of an IPv6 header: Next Header of the last IPV6 or extension header parsed at the level (R168). -/
def nextHeader (w : List Byte) : List (Nat × Nat) → Nat → Nat
  | (c, o) :: r, cur => if 11 ≤ c ∧ c ≤ 15 then nextHeader w r (byteAt w o) else cur
  | [], cur => cur

/-- The fields at a level: 0 outer, 1 inner (R168). -/
def Packet.fields (p : Packet) (level : Nat) : KFields :=
  let r := p.parse
  let w := p.parsed
  let i3 := if level = 0 then ParseRes.OUTER_L3_IDX.get r else ParseRes.INNER_L3_IDX.get r
  let i4 := if level = 0 then ParseRes.OUTER_L4_IDX.get r else ParseRes.INNER_L4_IDX.get r
  let frag := if level = 0 then ParseRes.FRAG.on r else ParseRes.INNER_FRAG.on r
  if i3 = 15 then KFields.none
  else
    let (c3, o3) := prHdr r i3
    let (c4, o4) := prHdr r i4
    let tos := if c3 = 9 then byteAt w (o3 + 1) else be16 w o3 / 16 % 256
    let l4 := i4 != 15 && !frag
    let icmp := c4 == 16 || c4 == 17
    { l3 := c3, sip := if c3 = 9 then beAt w (o3 + 12) 4 else beAt w (o3 + 8) 16,
      dip := if c3 = 9 then beAt w (o3 + 16) 4 else beAt w (o3 + 24) 16,
      proto := if c3 = 9 then byteAt w (o3 + 9) else nextHeader w ((prStack r).drop (i3 + 1)) (byteAt w (o3 + 6)),
      dscp := tos / 4, ecn := tos % 4, flowLabel := if c3 = 9 then 0 else beAt w o3 4 % 2 ^ 20,
      l4 := l4, l4Code := if l4 then c4 else 0, l4Off := if l4 then o4 else 0,
      src := if l4 then be16 w o4 else 0, dst := if l4 && !icmp then be16 w (o4 + 2) else 0,
      tcp := if l4 && c4 == 19 then byteAt w (o4 + 13) else 0 }

/-- An address in IPv4-mapped form (R168). -/
def mapped (l3 a : Nat) : Nat := if l3 = 9 then 0xFFFF * 2 ^ 32 + a else a

/-- The TCI of the outermost tag, when tagged. -/
def Packet.outerTci (p : Packet) : Option Nat :=
  match (prStack p.parse).drop 1 with
  | (c, o) :: _ => if 2 ≤ c ∧ c ≤ 4 then some (be16 p.parsed o) else none
  | [] => none

/-- VID of the outermost tag, 0 if untagged. -/
def Packet.vid (p : Packet) : Nat := (p.outerTci.getD 0) % 4096

/-- Destination and source address of the first ETH. -/
def Packet.da (p : Packet) : Nat := beAt p.parsed 0 6
/-- See `Packet.da`. -/
def Packet.sa (p : Packet) : Nat := beAt p.parsed 6 6

/-- Code and offset of the last tunnel header; code 0 when there is none. -/
def Packet.tunnel (p : Packet) : Nat × Nat :=
  let i := ParseRes.TUNNEL_IDX.get p.parse
  if i = 15 then (0, 0) else prHdr p.parse i

/-- TUN_ID (Table 6.7). -/
def Packet.tunId (p : Packet) : Nat :=
  let (c, o) := p.tunnel
  let w := p.parsed
  let i := ParseRes.TUNNEL_IDX.get p.parse
  if c = 22 then beAt w (o + 4) 3
  else if c = 23 then beAt w (o + 4) 4
  else if c = 21 then
    let f := byteAt w o
    if f / 32 % 2 = 1 then beAt w (o + (if f / 128 % 2 = 1 then 8 else 4)) 4 else 0
  else if c = 8 then let (_, m) := prHdr p.parse (i - 1); beAt w m 3 / 16
  else 0

/-! ### Rule keys (Tables 6.3 to 6.7) -/

/-- The prefix of every rule key. -/
def Packet.keyPrefix (p : Packet) (prof portClass : Nat) : BitVec 32 :=
  let r := p.parse
  setFields 0 [(KeyPrefix.INGRESS_PORT, ParseRes.INGRESS_PORT.get r), (KeyPrefix.PASS, ParseRes.PASS.get r),
    (KeyPrefix.VLAN_COUNT, ParseRes.VLAN_COUNT.get r), (KeyPrefix.PARSE_DEEP, ParseRes.PARSE_DEEP.get r),
    (KeyPrefix.MALFORMED_L3, ParseRes.MALFORMED_L3.get r), (KeyPrefix.MALFORMED_L4, ParseRes.MALFORMED_L4.get r),
    (KeyPrefix.MALFORMED_TUN, ParseRes.MALFORMED_TUN.get r), (KeyPrefix.FRAG, ParseRes.FRAG.get r),
    (KeyPrefix.FRAG_FIRST, ParseRes.FRAG_FIRST.get r), (KeyPrefix.INNER_FRAG, ParseRes.INNER_FRAG.get r),
    (KeyPrefix.TTL_LOW, ParseRes.TTL_LOW.get r), (KeyPrefix.IP_OPTIONS, ParseRes.IP_OPTIONS.get r),
    (KeyPrefix.STOP_UNKNOWN, ParseRes.STOP_UNKNOWN.get r), (KeyPrefix.LEN_TYPE, ParseRes.LEN_TYPE.get r),
    (KeyPrefix.TUNNELLED, (ParseRes.TUNNEL_IDX.get r != 15).toNat), (KeyPrefix.PORT_CLASS, portClass),
    (KeyPrefix.PROFILE, prof)]

/-- The L2 type field (R829). -/
def Packet.l2Type (p : Packet) : Nat := be16 p.parsed (l2TypeOff (prStack p.parse))

/-- The key of a format, in the low bits of 640 (R167, R168). -/
def Packet.ruleKey (p : Packet) (fmt level prof portClass : Nat) : BitVec 640 :=
  let pre : BitVec 640 := BitVec.ofNat 640 (p.keyPrefix prof portClass).toNat
  let tci := p.outerTci
  let f0 := p.fields level
  match fmt with
  | 0 => setFields pre [(KF0.DA, p.da), (KF0.SA, p.sa), (KF0.OUTER_VID, p.vid), (KF0.OUTER_PCP, (tci.getD 0) / 8192),
      (KF0.TAGGED, (ParseRes.VLAN_COUNT.get p.parse != 0).toNat), (KF0.ETYPE, p.l2Type)]
  | 1 =>
    let f := if f0.l3 = 9 then f0 else KFields.none
    setFields pre [(KF1.SIP, f.sip), (KF1.DIP, f.dip), (KF1.PROTO, f.proto), (KF1.DSCP, f.dscp), (KF1.L4_SRC, f.src),
      (KF1.L4_DST, f.dst), (KF1.TCP_FLAGS, f.tcp), (KF1.L3_VALID, (f.l3 == 9).toNat), (KF1.L4_VALID, f.l4.toNat),
      (KF1.ECN, f.ecn)]
  | 2 =>
    let f := if f0.l3 = 10 then f0 else KFields.none
    setFields pre [(KF2.DIP, f.dip), (KF2.SIP_HI, f.sip / 2 ^ 64), (KF2.NEXT_HDR, f.proto), (KF2.DSCP, f.dscp),
      (KF2.ECN, f.ecn), (KF2.L4_SRC, f.src), (KF2.L4_DST, f.dst), (KF2.TCP_FLAGS, f.tcp), (KF2.FLOW_LABEL, f.flowLabel),
      (KF2.L3_VALID, (f.l3 == 10).toNat), (KF2.L4_VALID, f.l4.toNat)]
  | _ =>
    let o := p.fields 0
    let i := p.fields 1
    setFields pre [(KF3.OUT_SIP, if o.l3 = 0 then 0 else mapped o.l3 o.sip),
      (KF3.OUT_DIP, if o.l3 = 0 then 0 else mapped o.l3 o.dip), (KF3.IN_SIP, if i.l3 = 0 then 0 else mapped i.l3 i.sip),
      (KF3.IN_DIP, if i.l3 = 0 then 0 else mapped i.l3 i.dip), (KF3.TUN_ID, p.tunId), (KF3.TUN_TYPE, p.tunnel.1),
      (KF3.IN_PROTO, i.proto), (KF3.IN_L4_SRC, i.src), (KF3.IN_L4_DST, i.dst), (KF3.IN_DSCP, i.dscp),
      (KF3.OUTER_VID, p.vid)]

/-! ### Exact-match and flow keys -/

/-- Bits used by an exact-match key format (Table 7.3). -/
def emKeyBits (fmt : Nat) : Nat := [60, 40, 112, 27, 136, 304, 166].getD fmt 0

/-- The format 0 key of a VID and an address. -/
def l2Key (vid addr : Nat) : Nat := vid + addr * 2 ^ 12

/-- The exact-match key of a format; none when a header it needs is absent (R201). -/
def Packet.emKey (p : Packet) (fmt level vrf : Nat) (sa : Bool) : Option Nat :=
  let f := p.fields level
  match fmt with
  | 0 => some (l2Key p.vid (if sa then p.sa else p.da))
  | 1 => if f.l3 = 9 then some (vrf + f.dip * 2 ^ 8) else none
  | 2 => if f.l3 = 9 then
      some (vrf + f.sip * 2 ^ 8 + f.dip * 2 ^ 40 + f.proto * 2 ^ 72 + f.src * 2 ^ 80 + f.dst * 2 ^ 96) else none
  | 3 =>
    match (prStack p.parse).find? (fun h => h.1 == 7) with
    | some (_, o) => some (beAt p.parsed o 3 / 16 + p.port * 2 ^ 20)
    | none => none
  | 4 => if f.l3 = 10 then some (vrf + f.dip * 2 ^ 8) else none
  | 5 => if f.l3 = 10 then
      some (vrf + f.sip * 2 ^ 8 + f.dip * 2 ^ 136 + f.proto * 2 ^ 264 + f.src * 2 ^ 272 + f.dst * 2 ^ 288) else none
  | 6 =>
    let o := p.fields 0
    if p.tunnel.1 = 0 ∨ o.l3 = 0 then none
    else some (p.tunnel.1 + p.tunId * 2 ^ 6 + mapped o.l3 o.dip * 2 ^ 38)
  | _ => none

/-- The fields a flow key is built from: VRF, family, addresses, protocol, ports. -/
structure FlowTuple where
  l3 : Nat
  vrf : Nat
  sip : Nat
  dip : Nat
  proto : Nat
  src : Nat
  dst : Nat
  deriving DecidableEq, Repr

/-- The 5-tuple of a packet at a level. -/
def Packet.tuple (p : Packet) (level vrf : Nat) : FlowTuple :=
  let f := p.fields level
  ⟨f.l3, vrf, f.sip, f.dip, f.proto, f.src, f.dst⟩

/-- {SIP, L4_SRC} is placed in the key's SIP and L4_SRC fields: it is not the larger one (R256). -/
def FlowTuple.forward (t : FlowTuple) : Bool := decide (t.sip * 65536 + t.src ≤ t.dip * 65536 + t.dst)

/-- The tuple with its ends exchanged. -/
def FlowTuple.swap (t : FlowTuple) : FlowTuple := { t with sip := t.dip, dip := t.sip, src := t.dst, dst := t.src }

/-- A flow key of a format (Table 9.2). -/
def FlowTuple.key (t : FlowTuple) (fmt : Nat) : Nat :=
  match fmt with
  | 0 => t.vrf + t.sip * 2 ^ 8 + t.dip * 2 ^ 40 + t.proto * 2 ^ 72 + t.src * 2 ^ 80 + t.dst * 2 ^ 96
  | 1 => t.vrf + t.sip * 2 ^ 8 + t.dip * 2 ^ 136 + t.proto * 2 ^ 264 + t.src * 2 ^ 272 + t.dst * 2 ^ 288
  | 2 => t.vrf + t.sip * 2 ^ 8
  | _ => t.vrf + t.sip / 2 ^ 64 * 2 ^ 8

/-- The IP family a flow key format needs (R256). -/
def flowFmtL3 (fmt : Nat) : Nat := if fmt % 2 = 0 then 9 else 10

/-- H_F of a class and key (R257): 41 bytes. -/
def hashF (seed cls key : Nat) : Nat := seedHash poly32C 41 (cls + key * 256) seed
/-- H_S of a class and key under a group's seed. -/
def hashS (seed cls key : Nat) : Nat := seedHash poly32K 41 (cls + key * 256) seed
/-- Rotate a 32-bit number left. -/
def rotl32 (h n : Nat) : Nat := h * 2 ^ n % 2 ^ 32 + h / 2 ^ (32 - n)

end Sys2Proof.Machine
end

