-- ==== Sys2Proof/Machine/KprOps.lean ====
section
/-! DEFINITION. Mailbox replies and notifications (spec 21, R610 to R618): what every mailbox operation shares. -/
namespace Sys2Proof.Machine

/-- Status codes of a reply (Table 21.6). -/
inductive MbxStatus where
  | ok | completed | aborted | duplicate | exists_ | notFound | badKey | badRule | full | ueConflict | busy | noRight
  | badCmd | timeout
  deriving DecidableEq, Repr

/-- The value of STATUS (Table 21.6). -/
def MbxStatus.code : MbxStatus → Nat
  | .ok => 0 | .completed => 1 | .aborted => 2 | .duplicate => 3 | .exists_ => 4 | .notFound => 5 | .badKey => 6
  | .badRule => 7 | .full => 8 | .ueConflict => 9 | .busy => 10 | .noRight => 11 | .badCmd => 12 | .timeout => 13

/-- The opcodes of Table 21.4. -/
def opCounterRead : Nat := 0x01
/-- See `opCounterRead`. -/
def opBufRead : Nat := 0x02
/-- See `opCounterRead`. -/
def opTaskMove : Nat := 0x03
/-- See `opCounterRead`. -/
def opKeyWrite : Nat := 0x08
/-- See `opCounterRead`. -/
def opAbort : Nat := 0x09
/-- See `opCounterRead`. -/
def opPatchLoad : Nat := 0x0A
/-- See `opCounterRead`. -/
def opEmInsert : Nat := 0x10
/-- See `opCounterRead`. -/
def opEmDelete : Nat := 0x11
/-- See `opCounterRead`. -/
def opEmModify : Nat := 0x12
/-- See `opCounterRead`. -/
def opEmHitRead : Nat := 0x13
/-- See `opCounterRead`. -/
def opRouteAdd : Nat := 0x18
/-- See `opCounterRead`. -/
def opRouteDelete : Nat := 0x19
/-- See `opCounterRead`. -/
def opRouteModify : Nat := 0x1A
/-- See `opCounterRead`. -/
def opBegin : Nat := 0x20
/-- See `opCounterRead`. -/
def opRuleWrite : Nat := 0x21
/-- See `opCounterRead`. -/
def opRuleDelete : Nat := 0x22
/-- See `opCounterRead`. -/
def opCommit : Nat := 0x23
/-- See `opCounterRead`. -/
def opLrnFlush : Nat := 0x28
/-- See `opCounterRead`. -/
def opFlowRead : Nat := 0x30
/-- See `opCounterRead`. -/
def opFlowDelete : Nat := 0x31
/-- See `opCounterRead`. -/
def opLbMemberSet : Nat := 0x32
/-- See `opCounterRead`. -/
def opLbMemberDrain : Nat := 0x33
/-- See `opCounterRead`. -/
def opLbMemberRemove : Nat := 0x34
/-- See `opCounterRead`. -/
def opLbGroupStatus : Nat := 0x35
/-- See `opCounterRead`. -/
def opSessionCreate : Nat := 0x38
/-- See `opCounterRead`. -/
def opSessionModify : Nat := 0x39
/-- See `opCounterRead`. -/
def opSessionDelete : Nat := 0x3A
/-- See `opCounterRead`. -/
def opSessionRead : Nat := 0x3B
/-- See `opCounterRead`. -/
def opUrrQuery : Nat := 0x3C
/-- See `opCounterRead`. -/
def opNhWrite : Nat := 0x40
/-- See `opCounterRead`. -/
def opTplWrite : Nat := 0x41
/-- See `opCounterRead`. -/
def opEditWrite : Nat := 0x42
/-- See `opCounterRead`. -/
def opMcGroupWrite : Nat := 0x48
/-- See `opCounterRead`. -/
def opQueueMove : Nat := 0x49
/-- See `opCounterRead`. -/
def opExpWrite : Nat := 0x50
/-- See `opCounterRead`. -/
def opHbRepair : Nat := 0x58

/-- The command of a tag in flight. -/
def State.mbx (s : State) (tag : Nat) : Option MbxCmd := s.kpr.inFlight.find? (fun c => c.tag == tag)

/-- The tag under which the image loader runs the commands of TABLE sections (R700): no tag of the mailbox. -/
def loaderTag : Nat := 4294967296

/-- A command has its last reply waiting to be written. -/
def State.replied (s : State) (tag : Nat) : Bool := s.kpr.replies.any (fun r => r.tag == tag && r.final)

/-- The command of a tag runs: it has been fetched with that opcode and has started (R614) and has not sent its last reply, or the image loader runs it
while it loads. -/
def State.mbxRuns (s : State) (tag op : Nat) : Bool :=
  match s.mbx tag with
  | some c => c.opcode == op && c.started && !s.replied tag
  | none => tag == loaderTag && s.loading

/-- A command of a tag runs and names a pipeline or slice (Table 21.3). -/
def State.mbxRunsAt (s : State) (tag op pipe : Nat) : Bool :=
  s.mbxRuns tag op && (match s.mbx tag with | some c => c.pipe == pipe | none => true)

/-- Commands that return data (R613). -/
def returnsData (op : Nat) : Bool := [opCounterRead, opBufRead, opEmHitRead, opFlowRead, opLbGroupStatus, opSessionRead].contains op

/-- Queue a reply of a command in flight (R614, R616), which sends one final reply; result data is written before it. -/
def State.reply (s : State) (tag : Nat) (st : MbxStatus) (done detail data : Nat) (final : Bool) : State :=
  match s.mbx tag with
  | some c =>
    if s.replied tag then s else
    let r : Reply := { tag := tag, opcode := c.opcode, status := st.code, done := done, detail := detail,
                       data := data % 2 ^ 128, irq := c.irq, final := final }
    let mark := fun (x : MbxCmd) => if x.tag = tag then { x with answered := x.answered || !final } else x
    let t := { s with kpr := { s.kpr with replies := s.kpr.replies ++ [r], inFlight := s.kpr.inFlight.map mark } }
    if c.resultAddr ≠ 0 && returnsData c.opcode && st == .ok then t.emit (.hostWrite c.resultAddr data) else t
  | none =>
    if tag == loaderTag && st.code != 0 && st.code != 1 then { s with img := { s.img with tableFailed := true } } else s

/-- Elements a command has committed. -/
def State.doneOf (s : State) (tag : Nat) : Nat := match s.mbx tag with | some c => c.done | none => 0

/-- Record the elements a command has committed (R610). -/
def State.setDone (s : State) (tag n : Nat) : State :=
  { s with kpr := { s.kpr with inFlight := s.kpr.inFlight.map (fun c => if c.tag = tag then { c with done := n } else c) } }

/-- Queue a notification (R618). -/
def State.notify (s : State) (kind payload : Nat) (hold : Bool) (src : Nat := 0) : State :=
  { s with kpr := { s.kpr with notes := s.kpr.notes ++ [⟨kind, payload, hold, src⟩] } }

/-- The base of a ring of host memory. -/
def State.ringBase (s : State) (lo hi : Fld) : Nat := s.rd lo + s.rd hi * 2 ^ 32

/-- The notification ring has no free entry (R618). -/
def State.ntfFull (s : State) : Bool :=
  decide (2 ^ s.rd Fld.KPR_MBX_NTF_SIZE_LOG2 ≤ (s.rd Fld.KPR_MBX_NTF_WR_COUNT + 2 ^ 32 - s.rd Fld.KPR_MBX_NTF_RD_COUNT) % 2 ^ 32)
/-- Time of day in milliseconds modulo 2^32 (R255). -/
def State.todMs (s : State) : Nat := (s.todSec * 1000 + s.todNsec / 1000000) % 2 ^ 32
/-- Write a notification entry: it raises the notification vector (R618). -/
def State.writeNote (s : State) (kind payload : Nat) : State :=
  let w := s.rd Fld.KPR_MBX_NTF_WR_COUNT
  let addr := s.ringBase Fld.KPR_MBX_NTF_BASE_LO_ADDR Fld.KPR_MBX_NTF_BASE_HI_ADDR + 64 * (w % 2 ^ s.rd Fld.KPR_MBX_NTF_SIZE_LOG2)
  let t := s.emit (.hostWrite addr (kind + w * 2 ^ 32 + s.todMs * 2 ^ 64 + payload * 2 ^ 128))
  let u := (t.wr Fld.KPR_MBX_NTF_WR_COUNT ((w + 1) % 2 ^ 32)).bump .KPR_NOTIFICATIONS
  if u.on Fld.HST_PCIE_STATUS_LINK_UP then u.sendVec (u.rd Fld.KPR_MBX_CTRL_VEC_NOTIFY) else u

/-- What a mailbox operation answers: a status, with a detail and result data. -/
structure Answer where
  status : MbxStatus
  detail : Nat
  data : Nat
  deriving DecidableEq, Repr

/-- A running mailbox stops (R617). -/
def State.mbxStop (s : State) : State :=
  if s.on Fld.KPR_MBX_CTRL_STOPPED || !(s.on Fld.KPR_MBX_CTRL_EN || !s.kpr.replies.isEmpty) then s
  else (s.wr Fld.KPR_MBX_CTRL_STOPPED 1).raise Ev.KPR_MBX_DMA_ERR
/-- Run a mailbox operation: it acts only once the command of its tag has started, and ends with one final reply. -/
def State.mbxOp (s : State) (tag op : Nat) (f : State → State × Answer) : State :=
  if s.mbxRuns tag op then
    let (t, a) := f s
    t.reply tag a.status 0 a.detail a.data true
  else s

end Sys2Proof.Machine
end

