-- ==== Sys2Proof/Machine/TideOps.lean ====
section
/-! DEFINITION. Admission at the tide gates (spec 20, R576 to R584): shares, waiting, lending, and the charge every
internal activity pays before it uses a shared memory. -/
namespace Sys2Proof.Machine

open Sys2Proof.Config

/-- Number of activities of a gate (Tables 20.1 and 20.2). -/
def tideActs (g : Nat) : Nat := if g = 0 then 7 else 5
/-- Capacity of one tide (R576): bytes, or accesses. -/
def tideCap (g : Nat) : Nat := if g = 0 then 6400000 else 256
/-- Length of a tide in core clocks (R576): 4 µs, or 1,750 core clocks. -/
def tidePeriod (g : Nat) : Nat := if g = 0 then 4 * usClk else 1750
/-- The TTB instance that holds a gate (R593). -/
def gateInst (g : Nat) : Nat := g - 1

/-- Harbour activities (Table 20.1). -/
def actFlow : Nat := 0
/-- See `actFlow`. -/
def actSpillRd : Nat := 1
/-- See `actFlow`. -/
def actSpillWr : Nat := 2
/-- See `actFlow`. -/
def actSession : Nat := 3
/-- See `actFlow`. -/
def actCapture : Nat := 4
/-- See `actFlow`. -/
def actKeeper : Nat := 5
/-- See `actFlow`. -/
def actMaint : Nat := 6
/-- Table-SRAM activities (Table 20.2). -/
def actLearn : Nat := 0
/-- See `actLearn`. -/
def actHost : Nat := 1
/-- See `actLearn`. -/
def actSweep : Nat := 2
/-- See `actLearn`. -/
def actShadow : Nat := 3
/-- See `actLearn`. -/
def actScrub : Nat := 4

/-- The gate. -/
def State.gate (s : State) (g : Nat) : Gate := Sparse.get s.gates g Gate.init
/-- Replace a gate. -/
def State.setGate (s : State) (g : Nat) (t : Gate) : State := { s with gates := Sparse.insert s.gates g t }

/-- The reset value of an activity's share word. -/
def shareReset (g a : Nat) : Word :=
  if g = 0 then Reg.TTB_HB_SHARE.resetOf a 0 else Reg.TTB_SRAM_SHARE.resetOf a 0

/-- The share word in force: its reset value while its register has a parity error (R589). -/
def Gate.word (t : Gate) (g a : Nat) : Word :=
  if Sparse.get t.badShare a false then shareReset g a else Sparse.get t.force a (shareReset g a)

/-- The share in force in bytes (one basis point is 640 bytes, R578) or accesses. -/
def Gate.share (t : Gate) (g a : Nat) : Nat :=
  if g = 0 then bitsOf (t.word g a) 0 14 * 640 else bitsOf (t.word g a) 0 9

/-- The BORROW bit in force; MAINT and SCRUB never borrow. -/
def Gate.mayBorrow (t : Gate) (g a : Nat) : Bool :=
  if g = 0 then bitsOf (t.word g a) 14 1 == 1 && a != 6 else bitsOf (t.word g a) 9 1 == 1 && a != 4

/-- The place an activity takes among borrowers (Tables 20.1 and 20.2). -/
def borrowPlace (g a : Nat) : Nat :=
  if g = 0 then [1, 3, 4, 2, 6, 5].getD a 7 else [1, 2, 3].getD a 4

/-- An activity with no request waiting (R581). -/
def Gate.idle (t : Gate) (a : Nat) : Bool := t.waiting.all (fun r => r.act != a)

/-- What is unused of an activity's share. -/
def Gate.left (t : Gate) (g a : Nat) : Nat := t.share g a - Sparse.get t.spent a 0

/-- What is unused of the spare: capacity that no share takes (R587). -/
def Gate.spareLeft (t : Gate) (g : Nat) : Nat :=
  tideCap g - (List.range (tideActs g)).foldl (fun n a => n + t.share g a) 0 - t.spareUsed

/-- The code used for the spare as a lender. -/
def spareCode : Nat := 9

/-- The first lender of R581 that can take a whole charge: the spare, then the idle activities in ascending code. -/
def Gate.lender? (t : Gate) (g act charge : Nat) : Option Nat :=
  if charge ≤ t.spareLeft g then some spareCode
  else (List.range (tideActs g)).find? (fun a => a != act && t.idle a && decide (charge ≤ t.left g a))

/-- A borrower with a lower place waits for the same lender (R582). -/
def Gate.outranked (t : Gate) (g act l : Nat) : Bool :=
  (List.range (tideActs g)).any (fun b =>
    b != act && decide (borrowPlace g b < borrowPlace g act) && t.mayBorrow g b &&
      match t.waiting.find? (fun r => r.act == b) with
      | some r => decide (t.left g b < r.charge) && t.lender? g b r.charge == some l
      | none => false)

/-- How a charge would be admitted now: none (it waits), its own share, or a lender. -/
inductive Admission where
  | waits | own | borrow (lender : Nat)
  deriving DecidableEq, Repr

/-- The test of R580, then of R581 and R582. -/
def Gate.test (t : Gate) (g act charge : Nat) : Admission :=
  if Sparse.get t.spent act 0 + charge ≤ t.share g act then .own
  else if t.mayBorrow g act then
    match t.lender? g act charge with
    | some l => if t.outranked g act l then .waits else .borrow l
    | none => .waits
  else .waits

/-- Add to an entry of a table of sums. -/
def addTo (m : Sparse Nat) (k n : Nat) : Sparse Nat := Sparse.put m k (Sparse.get m k 0 + n) 0

/-- Admit a charge from the activity's own share. -/
def State.admitOwn (s : State) (g act charge : Nat) : State :=
  let t := s.gate g
  (s.setGate g { t with spent := addTo t.spent act charge, admitted := addTo t.admitted act charge }).bump
    .TTB_ADMITTED (g * 8 + act) charge

/-- Admit a charge from a lender: the spare, or an idle activity's share (R581). -/
def State.admitLent (s : State) (g act charge l : Nat) : State :=
  let t := s.gate g
  let t1 := { t with admitted := addTo t.admitted act charge, borrowed := addTo t.borrowed act charge }
  let t2 := if l = spareCode then { t1 with spareUsed := t1.spareUsed + charge }
    else { t1 with spent := addTo t1.spent l charge }
  let s1 := ((s.setGate g t2).bump .TTB_ADMITTED (g * 8 + act) charge).bump .TTB_BORROWED (g * 8 + act) charge
  if l = spareCode then s1 else s1.bump .TTB_LENT (g * 8 + l) charge

/-- Put a charge of an activity to the gate: the state, and whether it is admitted.  A request that is not admitted,
or that finds an earlier one of its activity waiting, waits in order (R580); one that was granted after waiting
goes through. -/
def State.charge (s : State) (g act charge tag : Nat) : State × Bool :=
  let t := s.gate g
  if charge = 0 then (s, true)
  else if t.granted.contains (act, tag) then
    (s.setGate g { t with granted := t.granted.erase (act, tag) }, true)
  else if t.waiting.any (fun r => r.act == act && r.tag == tag) then (s, false)
  else if t.idle act then
    match t.test g act charge with
    | .own => (s.admitOwn g act charge, true)
    | .borrow l => (s.admitLent g act charge l, true)
    | .waits => (s.setGate g { t with waiting := t.waiting ++ [⟨act, charge, tag, s.now⟩] }, false)
  else (s.setGate g { t with waiting := t.waiting ++ [⟨act, charge, tag, s.now⟩] }, false)

/-- A gate would admit a charge of a requester now. -/
def State.gateReady (s : State) (tag : Nat) (e : Nat × Nat × Nat) : Bool :=
  let g := s.gate e.1
  e.2.2 == 0 || g.granted.contains (e.2.1, tag) || (g.idle e.2.1 && g.test e.1 e.2.1 e.2.2 != .waits)
/-- Put the charges of one operation to several gates together, each a gate, an activity and an amount: each tide pays for its own access
(R249, R579).  All are admitted once each is ready; until then the others' requests wait. -/
def State.chargeAll (s : State) (charges : List (Nat × Nat × Nat)) (tag : Nat) : State × Bool :=
  let put := fun (t : State) (e : Nat × Nat × Nat) => (t.charge e.1 e.2.1 e.2.2 tag).1
  if charges.all (s.gateReady tag) then (charges.foldl put s, true)
  else ((charges.filter (fun e => !s.gateReady tag e)).foldl put s, false)

/-- A request of an activity waits at a gate, or has been granted and not used. -/
def State.gateAsked (s : State) (g act tag : Nat) : Bool :=
  (s.gate g).granted.contains (act, tag) || (s.gate g).waiting.any (fun w => w.act == act && w.tag == tag)

/-- A request is withdrawn. -/
def State.unask (s : State) (g act tag : Nat) : State :=
  if s.gateAsked g act tag then
    let t := s.gate g
    s.setGate g { t with granted := t.granted.erase (act, tag), waiting := t.waiting.filter (fun w => !(w.act == act && w.tag == tag)) }
  else s

/-- The tag under which the 10 ms scrub of the rule banks waits at a table-SRAM gate. -/
def rowScrubTag : Nat := 2 ^ 33 + 5

/-- The four pipelines, in the order of R38. -/
def allPipes : List Nat := [0, 1, 2, 3]

/-- Forced maintenance (R584): admitted at once; what exceeds MAINT's remaining share becomes carry. -/
def State.forceMaint (s : State) (charge : Nat) : State :=
  let left := (s.gate 0).left 0 actMaint
  let own := min charge left
  let s1 := s.admitOwn 0 actMaint own
  if charge ≤ left then s1
  else (s1.wr Fld.TTB_HB_CARRY_BYTES (s1.rd Fld.TTB_HB_CARRY_BYTES + (charge - left))).bump .TTB_CARRIED 0
    (charge - left)

/-- The bytes charged for a harbour write: twice when it is shorter than 32 bytes or not aligned (R549, R579). -/
def hbWriteCharge (addr len : Nat) : Nat :=
  if len < 32 ∨ addr % 32 ≠ 0 ∨ len % 32 ≠ 0 then 2 * len else len

end Sys2Proof.Machine
end

