-- ==== Sys2Proof/Machine/HbOps.lean ====
section
/-! DEFINITION. Harbour addresses and requests (spec 19, R547 to R553): where an address lies, who may reach it, and how a request
enters its pseudo-channel's window. -/
namespace Sys2Proof.Machine

/-- The pseudo-channel of an address (R548). -/
def hbPc (a : Nat) : Nat := Nat.xor (Nat.xor (a / 256 % 64) (a / 16384 % 64)) (a / 1048576 % 64)
/-- The offset of an address within its pseudo-channel (R548). -/
def hbOffset (a : Nat) : Nat := a / 16384 * 256 + a % 256
/-- The address at an offset of a pseudo-channel. -/
def hbAddr (pc off : Nat) : Nat :=
  let hi := off / 256
  hi * 16384 + Nat.xor (Nat.xor pc (hi % 64)) (hi / 64 % 64) * 256 + off % 256

/-- Requesters of harbour memory (Table 19.1). -/
inductive HbWho where
  | curd | session | keeper | spill | capture | hostWindow
  deriving DecidableEq, Repr
/-- Areas of Table 19.1 a requester reaches, as first and last address. -/
def HbWho.areas : HbWho → List (Nat × Nat)
  | .curd => [(0x0, 0x1FFFFFFFF)]
  | .session => [(0x200000000, 0x27FFFFFFF)]
  | .keeper => [(0x0, 0x1FFFFFFFF), (0x200000000, 0x27FFFFFFF), (0x280000000, 0x2FFFFFFFF), (0xB00000000, 0xB7FFFFFFF), (0xB80000000, 0xBFFFFFFFF)]
  | .spill => [(0x300000000, 0xAFFFFFFFF)]
  | .capture => [(0xB00000000, 0xB7FFFFFFF)]
  | .hostWindow => [(0xB00000000, 0xB7FFFFFFF), (0xB80000000, 0xBFFFFFFFF)]
/-- A request of a requester lies within its areas. -/
def HbWho.reaches (w : HbWho) (addr len : Nat) : Bool := w.areas.any (fun e => decide (e.1 ≤ addr ∧ addr + len ≤ e.2 + 1))

/-- The pseudo-channel is retired (R567). -/
def State.pcRetired (s : State) (pc : Nat) : Bool := s.rd Fld.HBC_PC_RETIRED_MASK (pc / 32) / 2 ^ (pc % 32) % 2 == 1
/-- Some pseudo-channel is retired: the chunk free list is empty (R567). -/
def State.anyRetired (s : State) : Bool := s.rd Fld.HBC_PC_RETIRED_MASK 0 != 0 || s.rd Fld.HBC_PC_RETIRED_MASK 1 != 0
/-- The errors planted in the bursts of a stretch of harbour memory (R780): whether one of them is uncorrectable, or none.  A read
leaves them in place (R562). -/
def State.plantedAt (s : State) (addr len : Nat) : Option Bool :=
  let ks := (s.plants 5 (hbPc addr)).filter (fun (e : Nat × Nat) => decide (addr / 32 ≤ e.1 ∧ e.1 * 32 < addr + len))
  if ks.isEmpty then none else some (ks.any (fun e => e.2 == 1))
/-- What the ECC of a stretch finds: an error planted in it, or what the command names. -/
def State.hbFinds (s : State) (addr len : Nat) (e : HbEcc) : HbEcc :=
  let row := Config.hbRow (hbPc addr) (hbOffset addr) % 4194304
  match s.plantedAt addr len with
  | none => e
  | some false => .corrected row
  | some true => .uncorrectable row
/-- The 128 bytes at an address can be read: their pseudo-channel is not retired, and no uncorrectable error is planted in them. -/
def State.harbourOk (s : State) (addr : Nat) : Bool := !s.pcRetired (hbPc addr) && s.plantedAt addr 128 != some true

/-- The pieces of a request within 256-byte units (R549); `n` bounds their number. -/
def hbPieces : Nat → Nat → Nat → List (Nat × Nat)
  | 0, _, _ => []
  | n + 1, addr, len =>
    if len = 0 then []
    else
      let k := min len (256 - addr % 256)
      (addr, k) :: hbPieces n (addr + k) (len - k)
/-- Put a request in the window of its pseudo-channel; one to a retired pseudo-channel is answered at once. -/
def State.hbPut (s : State) (r : HbReq) : State :=
  let pc := hbPc r.addr
  if s.pcRetired pc then s
  else
    let t := { s with hbc := { s.hbc with wins := Sparse.insert s.hbc.wins pc (Sparse.get s.hbc.wins pc [] ++ [r]) } }
    let u := t.wr Fld.HBC_CTRL_QUIET 0 (pc / 32)
    if r.write then
      let old := (u.plants 5 pc).filter (fun (e : Nat × Nat) => decide (r.addr / 32 < e.1 ∧ (e.1 + 1) * 32 ≤ r.addr + r.len))
      (old.foldl (fun (t : State) e => (t.readPlant 5 pc e.1).1) u).injectFire 5 pc (r.addr / 32)
    else u
/-- Issue a request (R547, R550): one outside its requester's area is refused. -/
def State.hbSend (s : State) (who : HbWho) (cls prio : Nat) (write : Bool) (addr len : Nat) : State :=
  if who.reaches addr len then
    (hbPieces (len / 256 + 2) addr len).foldl (fun (t : State) (e : Nat × Nat) => t.hbPut ⟨cls, prio, write, e.1, e.2, s.now, false, 0⟩) s
  else (s.bump .HBC_BAD_ADDR (hbPc addr / 32)).raise Ev.HBC_REQ_ERR .device (hbPc addr / 32)

/-- Where a record lies: flow records from 0, session records of 512 bytes after them (R254, R320). -/
def recAddr (c i : Nat) : Nat := if c = 0 then 0x200000000 + 512 * i else 128 * i
/-- Who requests it. -/
def recWho (c : Nat) : HbWho := if c = 0 then .session else .curd
/-- Where a spill chunk lies. -/
def chunkAddr (c : Nat) : Nat := 0x300000000 + 16384 * c

/-- The reset of a block instance has completed (R735): its key, block bit * 8 + instance, leaves the list. -/
def State.blockDone (s : State) (key : Nat) : State :=
  let t := { s with rst := { s.rst with blocks := Sparse.erase s.rst.blocks key } }
  t.wrB Fld.RST_BLOCK_BUSY_BUSY (!t.rst.blocks.isEmpty)

end Sys2Proof.Machine
end

