-- ==== Sys2Proof/Machine/BufferOps.lean ====
section
/-! DEFINITION. The buffer pool manager's operations (spec 13, R376 to R385): pools, state entries, quotas, ALLOC, SHARE,
HANDOFF, RELEASE, FREE and RELEASE_FREE, with their rejections. -/
namespace Sys2Proof.Machine

open Sys2Proof.Config

/-- Cells per buffer of a pool: P256, P2K, P16K (Table 13.1). -/
def poolCells (k : Nat) : Nat := [1, 8, 64].getD k 1

/-- Buffers of a pool of a slice (Table 13.1). -/
def State.poolCount (s : State) (slice k : Nat) : Nat :=
  let n2 := s.rd Fld.BPM_POOL_CFG_N2K slice
  let n16 := s.rd Fld.BPM_POOL_CFG_N16K slice
  if k = 0 then 95232 - 8 * n2 - 64 * n16 else if k = 1 then n2 else n16

/-- The first cell of a pool: cell numbers run upward from P256 through P2K to P16K (R376). -/
def State.poolBase (s : State) (slice k : Nat) : Nat :=
  if k = 0 then 0
  else if k = 1 then s.poolCount slice 0
  else s.poolCount slice 0 + 8 * s.poolCount slice 1

/-- The pool a buffer ID names, when it names the first cell of a buffer (R376). -/
def State.poolOf (s : State) (slice id : Nat) : Option Nat :=
  (List.range 3).find? (fun k =>
    decide (s.poolBase slice k ≤ id ∧ (id - s.poolBase slice k) % poolCells k = 0
      ∧ (id - s.poolBase slice k) / poolCells k < s.poolCount slice k))

/-- Cells of a buffer. -/
def State.bufCells (s : State) (slice id : Nat) : Nat :=
  match s.poolOf slice id with
  | some k => poolCells k
  | none => 0

/-- The state entry of a buffer (Table 13.2). -/
def State.buf (s : State) (slice id : Nat) : BitVec 32 := Sparse.get s.tm.bufs (slice * 98304 + id) 0

/-- Replace a state entry. -/
def State.setBuf (s : State) (slice id : Nat) (e : BitVec 32) : State :=
  ({ s with tm := { s.tm with bufs := Sparse.put s.tm.bufs (slice * 98304 + id) e 0 } }).injectFire 4 slice id

/-- Free buffers of a pool. -/
def State.poolFree (s : State) (slice k : Nat) : Nat := s.rd Fld.BPM_POOL_STATUS_FREE slice k

/-- Some buffer of the slice is held or waits for its FREE. -/
def State.anyBuffer (s : State) (slice : Nat) : Bool :=
  s.tm.bufs.any (fun e => e.1 / 98304 == slice && (BufState.STATE.get e.2 == 1 || BufState.STATE.get e.2 == 2))

/-- A buffer is QUARANTINED (R398). -/
def State.quarantined (s : State) (slice id : Nat) : Bool := BufState.STATE.get (s.buf slice id) == 3
/-- An uncorrectable error in a state entry sets its buffer QUARANTINED; it stays charged to its owner (R398). -/
def State.quarantine (s : State) (slice id : Nat) : State :=
  let e := s.buf slice id
  let t := match BufState.STATE.get e, s.poolOf slice id with
    | 0, some k => s.wr Fld.BPM_POOL_STATUS_FREE (s.poolFree slice k - 1) slice k
    | _, _ => s
  (t.setBuf slice id (BufState.STATE.set e 3)).raise Ev.BPM_STATE_ECC .pipeline slice id
/-- A state entry is read: its ECC corrects a single-bit error, and a double-bit one is uncorrectable (R398, R780). -/
def State.readBuf (s : State) (slice id : Nat) : State :=
  match s.readPlant 4 slice id with
  | (_, none) => s
  | (t, some 0) => t.bump .BPM_ECC_CORRECTED slice
  | (t, some _) => t.quarantine slice id
/-- The state entries of a chain are read. -/
def State.readBufs (s : State) (slice : Nat) (ids : List Nat) : State := ids.foldl (fun t id => t.readBuf slice id) s

/-- The first FREE buffer of a pool at or after index `i`, wrapping once; `n` bounds the search.  Which free buffer the
BPM gives is open, so the command that allocates names where its search starts (log entry 12). -/
def State.searchFree (s : State) (slice k : Nat) : Nat → Nat → Option Nat
  | 0, _ => none
  | n + 1, i =>
    let id := s.poolBase slice k + poolCells k * (i % s.poolCount slice k)
    if BufState.STATE.get (s.buf slice id) = 0 then some id else s.searchFree slice k n (i + 1)

/-- A FREE buffer of a pool. -/
def State.freeBuffer (s : State) (slice k pick : Nat) : Option Nat :=
  if s.poolFree slice k = 0 ∨ s.poolCount slice k = 0 then none
  else s.searchFree slice k (min (s.poolCount slice k) (s.tm.bufs.length + 1)) pick

/-- The pools a requester allocates from, in order (Table 13.3). -/
def requesterPools (r : Nat) : List Nat :=
  if r = 0 then [0, 1, 2] else if r = 2 then [2] else if r = 5 then [1, 2] else []

/-- Requester codes (Table 13.3). -/
def reqPacket : Nat := 0
/-- See `reqPacket`. -/
def reqReplicator : Nat := 1
/-- See `reqPacket`. -/
def reqSpill : Nat := 2
/-- See `reqPacket`. -/
def reqHostDma : Nat := 3
/-- See `reqPacket`. -/
def reqKeeper : Nat := 4
/-- See `reqPacket`. -/
def reqFleit : Nat := 5

/-- Charge or credit cells to a requester (R379). -/
def State.addUsed (s : State) (slice r n : Nat) : State :=
  s.wr Fld.BPM_REQ_USED_USED (s.rd Fld.BPM_REQ_USED_USED slice r + n) slice r
/-- See `State.addUsed`. -/
def State.subUsed (s : State) (slice r n : Nat) : State :=
  s.wr Fld.BPM_REQ_USED_USED (s.rd Fld.BPM_REQ_USED_USED slice r - n) slice r

/-- The requester's quota allows some cells more (R380). -/
def State.quotaAllows (s : State) (slice r n : Nat) : Bool :=
  decide (s.rd Fld.BPM_REQ_USED_USED slice r + n ≤ s.rd Fld.BPM_REQ_QUOTA_QUOTA slice r)

/-- BPM_CTRL.QUIET reads 1 while no buffer is held. -/
def State.bpmQuiet (s : State) (slice : Nat) : State :=
  s.wrB Fld.BPM_CTRL_QUIET (!s.anyBuffer slice) slice

/-- The first pool of a requester that has a free buffer, and that buffer, whose entry has been read: one found damaged is
QUARANTINED and never given (R398).  `n` bounds the entries read. -/
def State.findFree (s : State) (slice r pick : Nat) : Nat → State × Option (Nat × Nat)
  | 0 => (s, none)
  | n + 1 =>
    match (requesterPools r).findSome? (fun k => (s.freeBuffer slice k pick).map (fun id => (k, id))) with
    | some (k, id) =>
      let t := s.readBuf slice id
      if t.quarantined slice id then t.findFree slice r pick n else (t, some (k, id))
    | none => (s, none)

/-- ALLOC (R380): the first pool of the requester that has a free buffer decides; above quota the request is refused
and no other pool is tried.  The second component is the buffer given. -/
def State.alloc (s0 : State) (slice r pick : Nat) : State × Option Nat :=
  let (s, found) := s0.findFree slice r pick (s0.dgn.planted.length + 1)
  match found with
  | some (k, id) =>
    let n := poolCells k
    if s.quotaAllows slice r n then
      let e : BitVec 32 := setFields 0 [(BufState.STATE, 1), (BufState.OWNER, r), (BufState.HOLDERS, 2 ^ r),
        (BufState.REFCNT, 1)]
      let s1 := ((s.setBuf slice id e).addUsed slice r n).wr Fld.BPM_POOL_STATUS_FREE
        (s.poolFree slice k - 1) slice k
      (s1.wr Fld.BPM_CTRL_QUIET 0 slice, some id)
    else
      ((s.bump .BPM_QUOTA_REFUSED (slice * 8 + r)).raiseMs Ev.BPM_QUOTA_REFUSED .pipeline slice, none)
  | none => ((s.bump .BPM_POOL_EMPTY (slice * 8 + r)).raiseMs Ev.BPM_POOL_EMPTY .pipeline slice, none)

/-- The operations of BPM_REJECT_INFO.OP. -/
inductive BufOp where
  | alloc | share | handoff | release | free | releaseFree
  deriving DecidableEq, Repr

/-- The value of OP (Table 13.6). -/
def BufOp.code : BufOp → Nat
  | .alloc => 0 | .share => 1 | .handoff => 2 | .release => 3 | .free => 4 | .releaseFree => 5

/-- How a rejected operation is classed (R385). -/
inductive Reject where
  | double | foreign
  deriving DecidableEq, Repr

/-- The test of Table 13.4 on one buffer: none when the operation is accepted. -/
def State.bufTest (s : State) (slice r : Nat) (op : BufOp) (id : Nat) : Option Reject :=
  let e := s.buf slice id
  let st := BufState.STATE.get e
  let holder := BufState.HOLDERS.get e / 2 ^ r % 2 == 1
  match op with
  | .alloc => none
  | .share => if r = reqReplicator ∧ st = 1 ∧ BufState.REFCNT.get e = 1 then none else some .foreign
  | .handoff => if BufState.OWNER.get e = r ∧ st = 1 ∧ BufState.REFCNT.get e = 1 then none else some .foreign
  | .release | .releaseFree =>
    if st = 0 ∨ st = 2 then some .double else if holder && st == 1 then none else some .foreign
  | .free =>
    if st = 0 then some .double
    else if st = 2 ∧ BufState.LAST_OWNER.get e = r then none else some .foreign

/-- Record a rejection (R385): counted for the requester, the first one held, and its event raised. -/
def State.bufReject (s : State) (slice r : Nat) (op : BufOp) (id : Nat) (chunk : Bool) (why : Reject) : State :=
  let s1 := s.bump .BPM_REJECTS (slice * 8 + r)
  let s2 := if s1.on Fld.BPM_REJECT_INFO_VALID slice then s1
    else (((((s1.wr Fld.BPM_REJECT_INFO_ID id slice).wrB Fld.BPM_REJECT_INFO_CHUNK chunk slice).wr
      Fld.BPM_REJECT_INFO_REQ r slice).wr Fld.BPM_REJECT_INFO_OP op.code slice).setW1c Fld.BPM_REJECT_INFO_VALID slice)
  let detail := id + chunk.toNat * 2 ^ 22 + r * 2 ^ 23 + op.code * 2 ^ 26
  s2.raise (if why = .double then Ev.BPM_DOUBLE_FREE else Ev.BPM_BAD_FREE) .pipeline slice detail

/-- RELEASE of one buffer that accepts it (Table 13.4). -/
def State.release1 (s : State) (slice r id : Nat) : State :=
  let e := s.buf slice id
  let n := BufState.REFCNT.get e - 1
  if n = 0 then
    s.setBuf slice id (setFields e [(BufState.REFCNT, 0), (BufState.STATE, 2), (BufState.LAST_OWNER, r)])
  else s.setBuf slice id (BufState.REFCNT.set e n)

/-- A buffer becomes FREE and its owner is credited (R379). -/
def State.free1 (s : State) (slice id : Nat) : State :=
  let e := s.buf slice id
  let k := (s.poolOf slice id).getD 0
  let s1 := (s.subUsed slice (BufState.OWNER.get e) (poolCells k)).wr Fld.BPM_POOL_STATUS_FREE
    (s.poolFree slice k + 1) slice k
  (s1.setBuf slice id (setFields e [(BufState.STATE, 0), (BufState.HOLDERS, 0)])).bpmQuiet slice

/-- RELEASE, then FREE when the releaser became LAST_OWNER (R382, R383). -/
def State.releaseFree1 (s : State) (slice r id : Nat) : State :=
  let s1 := s.release1 slice r id
  if BufState.STATE.get (s1.buf slice id) = 2 then s1.free1 slice id else s1

/-- An operation on a chain is refused whole when any buffer would refuse it (R382); else it acts on each buffer in
chain order. -/
def State.onChain (s0 : State) (slice r : Nat) (op : BufOp) (ids : List Nat) (act : State → Nat → State) : State :=
  let s := s0.readBufs slice ids
  match ids.findSome? (fun id => (s.bufTest slice r op id).map (fun w => (id, w))) with
  | some (id, w) => s.bufReject slice r op id false w
  | none => ids.foldl act s

/-- SHARE(N, mask) (Table 13.4). -/
def State.share (s : State) (slice r n mask : Nat) (ids : List Nat) : State :=
  s.onChain slice r .share ids (fun t id =>
    let e := t.buf slice id
    t.setBuf slice id (setFields e [(BufState.REFCNT, n),
      (BufState.HOLDERS, Nat.lor (Nat.lor (BufState.HOLDERS.get e) mask) (2 ^ reqReplicator))]))

/-- HANDOFF(to) (Table 13.4): a target over quota leaves the chain with its owner (R384).  The second component says
that it was done. -/
def State.handoff (s0 : State) (slice r to_ : Nat) (ids : List Nat) : State × Bool :=
  let s := s0.readBufs slice ids
  match ids.findSome? (fun id => (s.bufTest slice r .handoff id).map (fun w => (id, w))) with
  | some (id, w) => (s.bufReject slice r .handoff id false w, false)
  | none =>
    let n := ids.foldl (fun a id => a + s.bufCells slice id) 0
    if s.quotaAllows slice to_ n then
      ((((ids.foldl (fun t id =>
        t.setBuf slice id (setFields (t.buf slice id) [(BufState.OWNER, to_), (BufState.HOLDERS, 2 ^ to_)])) s).subUsed
          slice r n).addUsed slice to_ n), true)
    else (s, false)

/-- RELEASE_FREE of a chain. -/
def State.releaseFree (s : State) (slice r : Nat) (ids : List Nat) : State :=
  s.onChain slice r .releaseFree ids (fun t id => t.releaseFree1 slice r id)

/-- RELEASE_FREE of the chain of a packet that is dropped or sent (R383, R387): its buffers with the cells each holds; quarantined ones
are held no more by anyone (R398). -/
def State.freeChain (s : State) (slice r : Nat) (chain : List (Nat × Nat)) : State :=
  let all := chain.map Prod.fst
  let t := s.readBufs slice all
  t.releaseFree slice r (all.filter (fun b => !t.quarantined slice b))

/-- RELEASE of a chain. -/
def State.release (s : State) (slice r : Nat) (ids : List Nat) : State :=
  s.onChain slice r .release ids (fun t id => t.release1 slice r id)

/-- FREE of a chain. -/
def State.free (s : State) (slice r : Nat) (ids : List Nat) : State :=
  s.onChain slice r .free ids (fun t id => t.free1 slice id)

end Sys2Proof.Machine
end

