-- ==== Sys2Proof/Machine/QueueOps.lean ====
section
/-! DEFINITION. Queues and spill (spec 13, R386 to R402; spec 14, R406 to R409): configuration, occupancy, chunks,
staging, and releasing what a queue holds. -/
namespace Sys2Proof.Machine

open Sys2Proof.Config

/-! ### Packets -/

/-- The packet of a number. -/
def State.pkt (s : State) (n : Nat) : Packet := Sparse.get s.pkts n Packet.init
/-- An older packet of the same port and pass stands where a packet stands: each step of the path takes the packets of a port in their
order of arrival (R24). -/
def State.behind (s : State) (n : Nat) : Bool :=
  let p := s.pkt n
  s.pkts.any (fun (e : Nat × Packet) => decide (e.1 < n) && e.2.stage == p.stage && e.2.port == p.port && e.2.pass == p.pass && e.2.pipe == p.pipe
    && e.2.copyOf.isNone)
/-- The same among the packets bound for the same destination: those of other queues are no part of the order (R24). -/
def State.behindTo (s : State) (n : Nat) : Bool :=
  let p := s.pkt n
  s.pkts.any (fun (e : Nat × Packet) => decide (e.1 < n) && e.2.stage == p.stage && e.2.port == p.port && e.2.pass == p.pass && e.2.pipe == p.pipe
    && e.2.dest == p.dest && e.2.cls == p.cls && e.2.tag == p.tag && e.2.copyOf.isNone)
/-- Replace a packet. -/
def State.setPkt (s : State) (n : Nat) (p : Packet) : State := { s with pkts := Sparse.insert s.pkts n p }
/-- A packet reaches the policers, behind those that came before it (R451). -/
def State.atPolicer (s : State) (n : Nat) (p : Packet) : State :=
  ({ s with sch := { s.sch with polCount := s.sch.polCount + 1 } }).setPkt n { p with stage := .policer, polAt := s.sch.polCount }

/-- Bytes that arrive for a packet are its own and those of its copies that still grow (R366). -/
def State.appendBytes (s : State) (n : Nat) (more : List Byte) : State :=
  { s with pkts := s.pkts.map (fun e =>
      if (e.1 == n || e.2.copyOf == some n) && e.2.grows then (e.1, { e.2 with frame := e.2.frame ++ more, orig := e.2.orig ++ more }) else e) }

/-- Take a packet's cells off the ingress count of its port and priority (R397). -/
def State.uncount (s : State) (n : Nat) : State :=
  let p := s.pkt n
  let k := p.port * 8 + p.prio
  { s with tm := { s.tm with ingress := Sparse.put s.tm.ingress k (Sparse.get s.tm.ingress k 0 - p.ingCells) 0 } }

/-- A packet needs no further lookup in its slot: it leaves the slot's in-flight count (R181). -/
def State.leaveSlot (s : State) (n : Nat) : State :=
  let p := s.pkt n
  match p.inSlot with
  | some k =>
    let f := if k = 0 then Fld.RBK_EPOCH_INFLIGHT_SLOT0_COUNT else Fld.RBK_EPOCH_INFLIGHT_SLOT1_COUNT
    (s.setPkt n { p with inSlot := none }).wr f (s.rd f p.pipe - 1) p.pipe
  | none => s

/-- A packet that has left the device, or that has been dropped. -/
def State.forget (s : State) (n : Nat) : State :=
  let t := (s.leaveSlot n).uncount n
  { t with pkts := Sparse.erase t.pkts n }

/-- HOST_DMA or KEEPER gives up its copy of a packet (R383, R384): its buffers return, and the packet ends with its last holder. -/
def State.releaseCopy (s : State) (slice r n : Nat) (ids : List Nat) : State :=
  let t := ids.foldl (fun (u : State) id =>
    u.releaseFree slice (if BufState.HOLDERS.get (u.buf slice id) / 2 ^ r % 2 = 1 then r else reqPacket) [id]) s
  if ids.all (fun id => BufState.STATE.get (t.buf slice id) == 0) then t.forget n else t

/-- A packet is discarded before it holds a sequence number: it commits nothing (R90, R455).  It stays, discarded, until
its end status has settled what it reserved. -/
def State.discard (s : State) (n : Nat) : State :=
  match (s.pkt n).status with
  | none => let t := s.leaveSlot n; t.setPkt n { t.pkt n with stage := .dead }
  | some _ => s.forget n

/-- The PFC priority of a class at a port (R100, Table 3.10): the priority whose map holds the class. -/
def State.pfcPrio (s : State) (port cls : Nat) : Nat :=
  ((List.range 8).find? (fun p =>
    s.rd (if p % 2 = 0 then Fld.PRT_PFC_MAP_CLASSES_LO else Fld.PRT_PFC_MAP_CLASSES_HI) (port / 24) (port % 24) (p / 2)
      / 2 ^ cls % 2 == 1)).getD 0

/-- The Fleit bundle whose logical port ID this is: its first lane (R624). -/
def State.bundleOf (s : State) (port : Nat) : Option Nat :=
  (List.range 4).find? (fun b => s.rd Fld.FLT_BUNDLE_CFG_LANES 0 b != 0 && s.rd Fld.FLT_BUNDLE_CFG_FIRST_LANE 0 b == port)
/-- The port is UP (PRT_LINK_STATUS.STATE, R57); a bundle with DATA_EN while the bundle is (R632). -/
def State.portUp (s : State) (port : Nat) : Bool :=
  match s.bundleOf port with
  | some b => s.on Fld.FLT_BUNDLE_CFG_DATA_EN 0 b && s.rd Fld.FLT_BUNDLE_STATUS_STATE 0 b == 3
  | none => s.rdP Fld.PRT_LINK_STATUS_STATE port == 3

/-! ### Queue configuration -/

/-- The key of a queue of a slice. -/
def qKey (slice q : Nat) : Nat := slice * 65536 + q

/-- The reset value of a queue's configuration word: base queues have a fixed port index and class (R407, Table 14.1). -/
def qReset (q : Nat) : Word := if q < 416 then BitVec.ofNat 32 (q / 16 * 2 + q % 16 * 64) else 0

/-- The configuration word of a queue. -/
def State.qword (s : State) (slice q : Nat) : Word := Sparse.get s.tm.qcfg (qKey slice q) (qReset q)
/-- Replace a configuration word. -/
def State.setQword (s : State) (slice q : Nat) (w : Word) : State :=
  { s with tm := { s.tm with qcfg := Sparse.put s.tm.qcfg (qKey slice q) w (qReset q) } }
/-- EN of a queue. -/
def State.qEn (s : State) (slice q : Nat) : Bool := Fld.QUE_QCFG_EN.onIn (s.qword slice q)
/-- PORT_IDX of a queue. -/
def State.qPort (s : State) (slice q : Nat) : Nat := Fld.QUE_QCFG_PORT_IDX.of (s.qword slice q)
/-- CLASS of a queue. -/
def State.qClass (s : State) (slice q : Nat) : Nat := Fld.QUE_QCFG_CLASS.of (s.qword slice q)
/-- TIDE_PROF of a queue. -/
def State.qProf (s : State) (slice q : Nat) : Nat := Fld.QUE_QCFG_TIDE_PROF.of (s.qword slice q)

/-- The port of a port index of a slice (R407). -/
def portOfIdx (slice j : Nat) : Nat := if j < 24 then 24 * slice + j else if j = 24 then 100 else 101
/-- The port index of a port in a slice. -/
def idxOfPort (port : Nat) : Nat := if port = 100 then 24 else if port = 101 then 25 else port % 24

/-- The queue state of a port index (Table 14.4); the host and keeper ports are always OPEN (R423). -/
def State.qPortState (s : State) (slice j : Nat) : Nat :=
  if j < 24 then s.rd Fld.QUE_PORT_STATUS_STATE slice j else 0

/-- Queues of a slice in its mode (R406): 65,536, or 4,096 in compact mode. -/
def State.queueCount (s : State) : Nat := if s.rd Fld.SCH_CFG_MODE = 1 then 65536 else 4096

/-- The queue. -/
def State.queue (s : State) (slice q : Nat) : Queue := Sparse.get s.tm.queues (qKey slice q) Queue.init
/-- Replace a queue. -/
def State.setQueue (s : State) (slice q : Nat) (u : Queue) : State :=
  { s with tm := { s.tm with queues := Sparse.put s.tm.queues (qKey slice q) u Queue.init } }

/-- A pipeline's copy of a queue's map entry after reset (R409). -/
def qmapReset (q : Nat) : QMap := ⟨false, if q < 416 then q / 16 else 0, none⟩
/-- The map entry of a queue as a pipeline's cell writer has it (R409). -/
def State.qmap (s : State) (pipe slice q : Nat) : QMap := Sparse.get s.tm.maps (pipe * 262144 + qKey slice q) (qmapReset q)
/-- Write a pipeline's copy of a map entry. -/
def State.setQmap (s : State) (pipe slice q : Nat) (m : QMap) : State :=
  { s with tm := { s.tm with maps := Sparse.put s.tm.maps (pipe * 262144 + qKey slice q) m (qmapReset q) } }
/-- A change of a queue is sent to the copies of P0, P1, P2 and P3, in that order (R409). -/
def State.sendMap (s : State) (slice q : Nat) : State :=
  let m : QMap := ⟨s.qEn slice q, s.qPort slice q, (s.queue slice q).redirect⟩
  { s with tm := { s.tm with mapQ := s.tm.mapQ ++ [⟨slice, q, 0, m⟩] } }
/-- In each clock the oldest change of a slice is written to the next pipeline's copy (R409). -/
def State.mapStep (s : State) (slice : Nat) : State :=
  match s.tm.mapQ.find? (fun w => w.slice == slice) with
  | some w =>
    let rest := s.tm.mapQ.erase w
    let q := if w.next < 3 then { w with next := w.next + 1 } :: rest else rest
    let t := s.setQmap w.next slice w.queue w.map
    { t with tm := { t.tm with mapQ := q } }
  | none => s
/-- The slices' changes of their queue maps go on. -/
def State.mapSteps (s : State) : State :=
  if s.tm.mapQ.isEmpty then s else (List.range 4).foldl (fun t k => t.mapStep k) s

/-- Cells of some runs. -/
def runCells (r : Runs) : Nat := r.foldl (fun a e => a + e.2) 0
/-- Runs without an item. -/
def runsDrop (r : Runs) (id : Nat) : Runs := r.filter (fun e => e.1 != id)
/-- The items of some runs, each once. -/
def runItems (r : Runs) : List Nat := (r.map Prod.fst).eraseDups

/-- Cells of the cove part. -/
def Queue.coveCells (u : Queue) : Nat := runCells u.cove

/-- Occupancy (R386): cells in cove, in staging and in harbour chunks. -/
def Queue.occupancy (u : Queue) : Nat :=
  u.coveCells + u.chunks.foldl (fun a c => a + runCells c.2) 0 + u.stages.foldl (fun a g => a + runCells g.runs) 0
    + (match u.fetch with | some (_, r, _) => runCells r | none => 0)

/-- The item of a number. -/
def State.item (s : State) (id : Nat) : QItem := Sparse.get s.tm.items id ⟨0, 0, 0, 0, [], false, 0, 0, 0⟩

/-! ### Chunks (R395) -/

/-- What a chunk is kept under while an error in the free list has dropped it from the list (R398). -/
def lostChunk : Nat := 5

/-- Give a chunk of the device-wide free list to a slice, searching from `i`; which free chunk is taken is open. -/
def State.searchChunk (s : State) : Nat → Nat → Option Nat
  | 0, _ => none
  | n + 1, i =>
    if (Sparse.find s.tm.chunks (i % 2097152)).isNone then some (i % 2097152) else s.searchChunk n (i + 1)

/-- Set FREE_CHUNKS and LOW; EVT 16.8 when it falls to 131,072 (Table 13.5).  The free list stays empty while a
pseudo-channel is retired (R567). -/
def State.setFreeChunks (s : State) (m : Nat) : State :=
  let n := if s.anyRetired then 0 else m
  let s1 := s.wr Fld.BPM_CHUNK_STATUS_FREE_CHUNKS n
  if n ≤ 131072 then
    if s1.on Fld.BPM_CHUNK_STATUS_LOW then s1
    else (s1.wr Fld.BPM_CHUNK_STATUS_LOW 1).raise Ev.BPM_CHUNKS_LOW .pipeline 0
  else if n > 262144 then s1.wr Fld.BPM_CHUNK_STATUS_LOW 0 else s1

/-- Take a chunk for a slice, when one is free and the slice is below SPILL_QUOTA (R394). -/
def State.takeChunk (s : State) (slice pick : Nat) : State × Option Nat :=
  let used := s.rd Fld.BPM_SPILL_STATUS_CHUNKS_USED slice
  if s.rd Fld.BPM_CHUNK_STATUS_FREE_CHUNKS = 0 ∨ s.rd Fld.BPM_SPILL_CFG_SPILL_QUOTA slice ≤ used then (s, none)
  else
    match s.searchChunk (s.tm.chunks.length + 1) pick with
    | some c =>
      (({ s with tm := { s.tm with chunks := Sparse.insert s.tm.chunks c (slice + 1) } }.wr
        Fld.BPM_SPILL_STATUS_CHUNKS_USED (used + 1) slice).setFreeChunks
          (s.rd Fld.BPM_CHUNK_STATUS_FREE_CHUNKS - 1), some c)
    | none => (s, none)

/-- Return a chunk to the free list; the free of a free chunk is rejected with the CHUNK bit set (R395). -/
def State.freeChunk (s : State) (slice c : Nat) : State :=
  match Sparse.find s.tm.chunks c with
  | some _ =>
    ({ s with tm := { s.tm with chunks := Sparse.erase s.tm.chunks c } }.wr Fld.BPM_SPILL_STATUS_CHUNKS_USED
      (s.rd Fld.BPM_SPILL_STATUS_CHUNKS_USED slice - 1) slice).setFreeChunks
        (s.rd Fld.BPM_CHUNK_STATUS_FREE_CHUNKS + 1)
  | none => s.bufReject slice reqSpill .free c true .double

/-- An error in the chunk free list drops an entry from it, until a reclaim sweep finds the chunk again (R398). -/
def State.loseChunk (s : State) (c : Nat) : State :=
  if (Sparse.find s.tm.chunks c).isSome then s
  else ({ s with tm := { s.tm with chunks := Sparse.insert s.tm.chunks c lostChunk } }).setFreeChunks (s.rd Fld.BPM_CHUNK_STATUS_FREE_CHUNKS - 1)
/-- The chunks dropped from the free list return to it (R398, R400). -/
def State.foundChunks (s : State) : State :=
  let kept := s.tm.chunks.filter (fun (e : Nat × Nat) => e.2 != lostChunk)
  let n := s.tm.chunks.length - kept.length
  if n = 0 then s
  else ({ s with tm := { s.tm with chunks := kept } }).setFreeChunks (s.rd Fld.BPM_CHUNK_STATUS_FREE_CHUNKS + n)

/-- A chunk whose fetch failed is retired until its row is repaired (R399). -/
def State.retireChunk (s : State) (slice c : Nat) : State :=
  { s with tm := { s.tm with chunks := Sparse.insert s.tm.chunks c 0 } }.wr Fld.BPM_SPILL_STATUS_CHUNKS_USED
    (s.rd Fld.BPM_SPILL_STATUS_CHUNKS_USED slice - 1) slice

/-! ### Dropping and releasing queued items -/

/-- RELEASE_FREE of an item's chain by PACKET (R383), but for its quarantined buffers (R398); the packet is forgotten once
nothing holds it. -/
def State.releaseItem (s : State) (id : Nat) : State :=
  let it := s.item id
  let s1 := s.freeChain it.slice reqPacket it.chain
  let s2 := { s1 with tm := { s1.tm with items := Sparse.erase s1.tm.items id } }
  let ids := (it.chain.map Prod.fst).filter (fun b => !s1.quarantined it.slice b)
  let gone := !it.mcast || ids.all (fun b => BufState.STATE.get (s2.buf it.slice b) == 0)
  if gone then s2.forget it.pkt else s2

/-- Take an item out of its queue: out of the cove part, chunks, staging and fetch.  A chunk or staging buffer left
with no cell is freed (R401). -/
def State.unqueue (s : State) (slice q id : Nat) : State :=
  let u := s.queue slice q
  let chunks := u.chunks.map (fun c => (c.1, runsDrop c.2 id))
  let stages := u.stages.map (fun g => { g with runs := runsDrop g.runs id })
  let empty := (chunks.filter (fun c => c.2.isEmpty)).map Prod.fst
  let emptySt := (stages.filter (fun g => g.runs.isEmpty && g.chunk.isNone)).map Stage.buf
  let u1 := { u with items := u.items.erase id, cove := runsDrop u.cove id,
                     chunks := chunks.filter (fun c => !c.2.isEmpty),
                     stages := stages.filter (fun g => !(g.runs.isEmpty && g.chunk.isNone)),
                     fetch := u.fetch.map (fun f => (f.1, runsDrop f.2.1 id, f.2.2)) }
  let s1 := s.setQueue slice q u1
  let s2 := empty.foldl (fun t c => t.freeChunk slice c) s1
  emptySt.foldl (fun t b => t.releaseFree slice reqSpill [b]) s2

/-- Drop a queued item: it leaves its queue and its buffers are released. -/
def State.dropItem (s : State) (slice q id : Nat) : State := (s.unqueue slice q id).releaseItem id

/-- Drop every item of a queue, counting each in a counter of its port and class. -/
def State.flushQueue (s : State) (slice q : Nat) (c : Ctr) : State :=
  let port := portOfIdx slice (s.qPort slice q)
  (s.queue slice q).items.foldl (fun t id => (t.dropItem slice q id).bump c (port * 16 + (t.item id).cls)) s

/-! ### Staging (R389 to R394) -/

/-- Hand a P16K buffer of SPILL to PACKET with one hold for each item in it (R392); no when PACKET's quota forbids it. -/
def State.handToPacket (s : State) (slice b n : Nat) : State × Bool :=
  if s.quotaAllows slice reqPacket 64 then
    (((s.setBuf slice b (setFields (s.buf slice b) [(BufState.OWNER, reqPacket), (BufState.HOLDERS, 1),
      (BufState.REFCNT, n)])).subUsed slice reqSpill 64).addUsed slice reqPacket 64, true)
  else (s, false)

/-- Link a P16K buffer with cells of several items after the cove part (R391, R392). -/
def State.linkBuffer (s : State) (slice q b : Nat) (runs : Runs) : State :=
  let ids := runItems runs
  if ids.isEmpty then s.releaseFree slice reqSpill [b]
  else
    match s.handToPacket slice b ids.length with
    | (s1, true) =>
      let u := s1.queue slice q
      let s2 := s1.setQueue slice q { u with cove := u.cove ++ runs }
      ids.foldl (fun t id =>
        let it := t.item id
        let n := runCells (runs.filter (fun e => e.1 == id))
        { t with tm := { t.tm with items := Sparse.insert t.tm.items id { it with chain := it.chain ++ [(b, n)] } } }) s2
    | (s1, false) => ids.foldl (fun t id => t.dropItem slice q id) (s1.releaseFree slice reqSpill [b])

/-- FETCH_MARK of a queue's profile. -/
def State.fetchMark (s : State) (slice q : Nat) : Nat := s.rd Fld.BPM_FETCH_MARK_FETCH_MARK slice (s.qProf slice q)

/-- STAGING_LINK (R391): with no chunk and no fetch left and the cove part at or below FETCH_MARK, the filling staging
buffer is linked directly and the queue returns to COVE. -/
def State.tryLink (s : State) (slice q : Nat) : State :=
  let u := s.queue slice q
  if u.spilling && u.chunks.isEmpty && u.fetch.isNone && decide (u.coveCells ≤ s.fetchMark slice q) then
    match u.stages with
    | [] => s.setQueue slice q { u with spilling := false }
    | [g] =>
      if g.chunk.isNone then
        (s.setQueue slice q { u with stages := [], spilling := false }).linkBuffer slice q g.buf g.runs
      else s
    | _ => s
  else s

/-- The device-wide free list and the slice's quota have a chunk for it (R394). -/
def State.chunkLeft (s : State) (slice : Nat) : Bool :=
  s.rd Fld.BPM_CHUNK_STATUS_FREE_CHUNKS != 0 && decide (s.rd Fld.BPM_SPILL_STATUS_CHUNKS_USED slice < s.rd Fld.BPM_SPILL_CFG_SPILL_QUOTA slice)
/-- Place one cell of an item in staging; no when it can get no room (R390, R394). -/
def State.stageOne (s : State) (slice q id pick : Nat) : State × Bool :=
  let u := s.queue slice q
  let add := fun (g : Stage) => { g with runs :=
    match g.runs.getLast? with
    | some (i, n) => if i = id then g.runs.dropLast ++ [(id, n + 1)] else g.runs ++ [(id, 1)]
    | none => [(id, 1)] }
  match u.stages.getLast? with
  | some g =>
    if g.chunk.isNone && decide (runCells g.runs < 64) then
      (s.setQueue slice q { u with stages := u.stages.dropLast ++ [add g] }, true)
    else if u.stages.length < 2 && (g.chunk.isSome || s.chunkLeft slice) then
      match s.alloc slice reqSpill pick with
      | (t, some b) => (t.setQueue slice q { u with stages := u.stages ++ [⟨b, [(id, 1)], t.now, none⟩] }, true)
      | (t, none) => (t, false)
    else (s, false)
  | none =>
    match s.alloc slice reqSpill pick with
    | (t, some b) => (t.setQueue slice q { u with stages := [⟨b, [(id, 1)], t.now, none⟩] }, true)
    | (t, none) => (t, false)

/-- Place some cells of an item in staging. -/
def State.stageCells (s : State) (slice q id pick : Nat) : Nat → State × Bool
  | 0 => (s, true)
  | n + 1 =>
    match s.stageOne slice q id pick with
    | (t, true) => t.stageCells slice q id pick n
    | (t, false) => (t, false)

/-- The buffers of a chain that hold its first `n` cells. -/
def chainTake : List (Nat × Nat) → Nat → List (Nat × Nat)
  | [], _ => []
  | (b, k) :: r, n => if n = 0 then [] else (b, min k n) :: chainTake r (n - k)

/-- Put an item at the tail of its queue (R415, R389, R393). -/
def State.joinQueue (s : State) (slice q pick : Nat) (it : QItem) : State :=
  let id := s.tm.nextItem
  let u := s.queue slice q
  let prof := s.qProf slice q
  let spillEn := s.on Fld.BPM_TIDE_MARK_SPILL_EN slice prof
  let mark := s.rd Fld.BPM_TIDE_MARK_TIDE_MARK slice prof
  let glob := s.rd Fld.BPM_GLOBAL_MARK_MARK slice
  let trig := glob != 0 && decide (s.poolFree slice 0 ≤ glob) && decide (s.fetchMark slice q ≤ u.coveCells)
  let room := if u.spilling then 0
    else if !spillEn then it.cells
    else if trig then 0
    else min it.cells (mark - u.coveCells)
  let shared := it.mcast && it.chain.any (fun e => BufState.REFCNT.get (s.buf slice e.1) > 1)
  let room := if shared && decide (room < it.cells) then 0 else room
  let backlog := if u.items.isEmpty then s.now else u.lastSent
  let s1 := { s with tm := { s.tm with items := Sparse.insert s.tm.items id it, nextItem := id + 1 } }
  let cove := if room = 0 then u.cove else u.cove ++ [(id, room)]
  if room = it.cells then
    s1.setQueue slice q { u with items := u.items ++ [id], cove := cove, lastSent := backlog }
  else
    let s2 := s1.setQueue slice q { u with items := u.items ++ [id], cove := cove, spilling := true,
                                           lastSent := backlog }
    match s2.stageCells slice q id pick (if shared then 1 else it.cells - room) with
    | (s3, true) =>
      if shared then s3
      else
        let keep := chainTake it.chain room
        let gone := (it.chain.map Prod.fst).filter (fun b => !(keep.map Prod.fst).contains b)
        ({ s3 with tm := { s3.tm with items := Sparse.insert s3.tm.items id { it with chain := keep } } }).releaseFree
          slice reqPacket gone
    | (s3, false) =>
      let t := ((s3.dropItem slice q id).bump .BPM_SPILL_DROP (slice * 32 + prof)).raiseMs Ev.BPM_SPILL_STALL .pipeline slice
      let port := portOfIdx slice (s.qPort slice q)
      if it.mcast then (t.bump .QUE_MC_PARTIAL port).raiseMs Ev.QUE_MC_PARTIAL .port port else t

end Sys2Proof.Machine
end

