-- ==== Sys2Proof/Machine/SchedOps.lean ====
section
/-! DEFINITION. The scheduler's tree and shapers, and the policers' buckets (spec 15, R434 to R456). -/
namespace Sys2Proof.Machine

open Sys2Proof.Config

/-! ### Elements -/


/-- The element. -/
def State.elem (s : State) (slice level idx : Nat) : Elem :=
  Sparse.get s.sch.elems (eKey slice level idx) (elemReset level idx)
/-- Replace an element. -/
def State.setElem (s : State) (slice level idx : Nat) (e : Elem) : State :=
  ({ s with sch := { s.sch with elems := Sparse.put s.sch.elems (eKey slice level idx) e (elemReset level idx) } }).injectFire 9 slice (level * 65536 + idx)

/-- Elements of a level in the current mode (Table 15.1). -/
def State.levelCount (s : State) (level : Nat) : Nat :=
  let full := s.rd Fld.SCH_CFG_MODE == 1
  if full then [26, 256, 2048, 16384, 65536].getD level 0 else [26, 64, 256, 1024, 4096].getD level 0

/-- PRIO, WEIGHT and shaper as scheduled: a damaged element has PRIO 0, WEIGHT 16 and no shaper (R458). -/
def Elem.effPrio (e : Elem) : Nat := if e.badCfg then 0 else e.prio
/-- See `Elem.effPrio`. -/
def Elem.effWeight (e : Elem) : Nat := if e.badCfg then 16 else e.weight
/-- See `Elem.effPrio`. -/
def Elem.effShaped (e : Elem) : Bool := e.shapeEn && !e.badCfg

/-- 1/256 bytes a rate in kbit/s adds in some core clocks (R446); a part of 1/256 byte is not added. -/
def shaperGain (rate clk : Nat) : Nat := rate * 1000 * clk * 256 / (1750000000 * 8)

/-- The credit of an element now: in compact mode it is brought up to date when its parent considers it (R446). -/
def State.creditNow (s : State) (e : Elem) : Int :=
  if s.rd Fld.SCH_CFG_MODE = 1 then e.credit
  else min ((e.burst * 256 : Nat) : Int) (e.credit + (shaperGain e.rate (s.now - e.refillAt) : Nat))

/-- The shaper passes (R445). -/
def State.shaperPasses (s : State) (e : Elem) : Bool := !e.effShaped || decide (0 ≤ s.creditNow e)

/-- The elements from a queue or node up to its port, itself first; `n` bounds the walk. -/
def State.pathUp (s : State) (slice : Nat) : Nat → Nat → Nat → List (Nat × Nat)
  | 0, _, _ => []
  | n + 1, level, idx =>
    if level = 0 then [(0, idx)]
    else
      let e := s.elem slice level idx
      (level, idx) :: s.pathUp slice n e.parentLevel e.parent

/-- The path of a queue. -/
def State.queuePath (s : State) (slice q : Nat) : List (Nat × Nat) := s.pathUp slice 5 4 q

/-- A queue element is backlogged: it holds a packet and does not WAIT (R440, R427). -/
def State.qBacklogged (s : State) (slice q : Nat) : Bool :=
  let u := s.queue slice q
  !u.items.isEmpty && !u.wait

/-- The backlogged queues of a slice, ascending. -/
def State.backlog (s : State) (slice : Nat) : List Nat :=
  (s.tm.queues.filter (fun e => e.1 / 65536 == slice && !e.2.items.isEmpty && !e.2.wait)).map (fun e => e.1 % 65536)

/-- An element is backlogged (R440). -/
def State.elemBacklogged (s : State) (slice level idx : Nat) : Bool :=
  (s.backlog slice).any (fun q => (s.queuePath slice q).contains (level, idx))

/-- A child becomes backlogged (R443 rule 1): it and every ancestor that was not takes S := V of its parent. -/
def State.newBacklog (s : State) (slice q : Nat) (others : List Nat) : State :=
  let path := s.queuePath slice q
  (path.zip path.tail).foldl (fun t pr =>
    let (c, p) := pr
    if others.any (fun x => x != q && (s.queuePath slice x).contains c) then t
    else t.setElem slice c.1 c.2 { t.elem slice c.1 c.2 with s := (t.elem slice p.1 p.2).v }) s

/-- Put an item at the tail of its queue, and its queue into selection when it was empty (R443). -/
def State.enqueue (s : State) (slice q pick : Nat) (it : QItem) : State :=
  let was := s.qBacklogged slice q
  let t := s.joinQueue slice q pick it
  if !was && t.qBacklogged slice q then t.newBacklog slice q (s.backlog slice) else t

/-- The scheduled length of a frame at a port (R442): its length with FCS after padding, plus LEN_ADJ. -/
def State.schedLen (s : State) (slice j len : Nat) : Nat :=
  let adj := s.rd Fld.SCH_PORT_CFG_LEN_ADJ slice j
  let l := max 64 (len + 4)
  if adj ≥ 64 then l + adj - 128 else l + adj

/-- The cost of a candidate of length `l` (R443). -/
def Elem.cost (e : Elem) (l : Nat) : Nat := (l * 1024 + e.effWeight - 1) / e.effWeight

/-- A finish time lies before another: their difference as a signed 32-bit number is negative (R441). -/
def ftLess (a b : Nat) : Bool := decide (2 ^ 31 ≤ (a + 2 ^ 32 - b) % 2 ^ 32)

/-- Length of the head packet of a queue. -/
def State.headLen (s : State) (slice q : Nat) : Nat :=
  match (s.queue slice q).items.head? with
  | some id => s.schedLen slice (s.qPort slice q) ((s.pkt (s.item id).pkt).frame.length)
  | none => 0

/-- The children of an element that lead to the given queues. -/
def State.childrenOf (s : State) (slice : Nat) (p : Nat × Nat) (qs : List Nat) : List (Nat × Nat) :=
  (qs.filterMap (fun q =>
    let path := s.queuePath slice q
    ((path.zip path.tail).find? (fun e => e.2 == p)).map Prod.fst)).eraseDups

/-- The choice at an element (R441): the queue sent and the path of elements to it, the element itself last.  `qs` are
the queues that meet the conditions of Table 15.3; `n` bounds the depth. -/
def State.choose (s : State) (slice : Nat) (qs : List Nat) : Nat → Nat × Nat → Option (Nat × List (Nat × Nat))
  | 0, _ => none
  | n + 1, p =>
    if !s.shaperPasses (s.elem slice p.1 p.2) then none
    else if p.1 = 4 then if qs.contains p.2 then some (p.2, [p]) else none
    else
      let cs := (s.childrenOf slice p qs).filterMap (fun c =>
        (s.choose slice qs n c).map (fun r => (c, r)))
      let better := fun (a b : (Nat × Nat) × (Nat × List (Nat × Nat))) =>
        let ea := s.elem slice a.1.1 a.1.2
        let eb := s.elem slice b.1.1 b.1.2
        let f := fun (e : Elem) (q : Nat) (c : Nat × Nat) =>
          let f0 := (e.s + e.cost (s.headLen slice q)) % 2 ^ 32
          let v := (s.elem slice p.1 p.2).v
          if !(s.elem slice c.1 c.2).wasEligible && ftLess f0 v then (v + e.cost (s.headLen slice q)) % 2 ^ 32 else f0
        let fa := f ea a.2.1 a.1
        let fb := f eb b.2.1 b.1
        if ea.effPrio ≠ eb.effPrio then decide (ea.effPrio > eb.effPrio)
        else if fa ≠ fb then ftLess fa fb
        else decide (a.1.1 < b.1.1 ∨ (a.1.1 = b.1.1 ∧ a.1.2 < b.1.2))
      match cs with
      | [] => none
      | c :: r =>
        let m := r.foldl (fun a b => if better b a then b else a) c
        some (m.2.1, m.2.2 ++ [p])

/-- Bring the elements below a parent up to date before its decision (R443 rule 4): one that turns eligible with F
behind V takes S := V, and eligibility is remembered. -/
def State.noteEligible (s : State) (slice : Nat) (all ok : List Nat) (p : Nat × Nat) : State :=
  (s.childrenOf slice p all).foldl (fun t c =>
    let e := t.elem slice c.1 c.2
    let now := (s.choose slice ok 5 c)
    match now with
    | some (q, _) =>
      let f := (e.s + e.cost (s.headLen slice q)) % 2 ^ 32
      let v := (t.elem slice p.1 p.2).v
      let s' := if !e.wasEligible && ftLess f v then v else e.s
      t.setElem slice c.1 c.2 { e with s := s', wasEligible := true }
    | none => t.setElem slice c.1 c.2 { e with wasEligible := false }) s

/-- Charge an element's shaper (R445). -/
def State.spendCredit (s : State) (slice : Nat) (p : Nat × Nat) (l : Nat) : State :=
  let e := s.elem slice p.1 p.2
  if e.effShaped then
    s.setElem slice p.1 p.2 { e with credit := s.creditNow e - ((l * 256 : Nat) : Int),
                                     refillAt := if s.rd Fld.SCH_CFG_MODE = 1 then e.refillAt else s.now }
  else s

/-- Carry out a choice (R443 rule 3, R445): each parent's V takes the chosen child's F; every element of the path pays.
The chosen child takes S := F; one whose backlog has ended takes a new S when it is backlogged again. -/
def State.takeChoice (s : State) (slice : Nat) (path : List (Nat × Nat)) (l : Nat) : State :=
  let s1 := (path.zip path.tail).foldl (fun t pr =>
    let (c, p) := pr
    let e := t.elem slice c.1 c.2
    let f := (e.s + e.cost l) % 2 ^ 32
    let t1 := t.setElem slice c.1 c.2 { e with s := f, f := f }
    t1.setElem slice p.1 p.2 { t1.elem slice p.1 p.2 with v := f }) s
  path.foldl (fun t p => t.spendCredit slice p l) s1

/-! ### Errors in element state (R457, R780) -/

/-- An element with an uncorrectable error in its state takes S := V of its parent and C := 0. -/
def State.elemFix (s : State) (slice level idx : Nat) : State :=
  let e := s.elem slice level idx
  let v := if level = 0 then e.s else (s.elem slice e.parentLevel e.parent).v
  (s.setElem slice level idx { e with s := v, credit := 0 }).raise Ev.SCH_STATE_ECC .pipeline slice
/-- The state of elements is read: a corrected error is counted, and an uncorrectable one is handled. -/
def State.readElems (s : State) (slice : Nat) (cs : List (Nat × Nat)) : State :=
  cs.foldl (fun (t : State) (c : Nat × Nat) =>
    match t.readWord 9 slice (c.1 * 65536 + c.2) 0 with
    | (u, 1) => u.bump .SCH_ECC_CORRECTED slice
    | (u, 2) => u.elemFix slice c.1 c.2
    | _ => t) s

/-! ### Policers (R451 to R456) -/


/-- The policer. -/
def State.pol (s : State) (p i : Nat) : Policer := Sparse.get s.sch.pols (p * 8192 + i) Policer.reset
/-- Replace a policer. -/
def State.setPol (s : State) (p i : Nat) (x : Policer) : State :=
  { s with sch := { s.sch with pols := Sparse.put s.sch.pols (p * 8192 + i) x Policer.reset } }

/-- MODE; a policer with damaged configuration colours every packet green (R458). -/
def Policer.mode (x : Policer) : Nat := if x.badCfg then 0 else Fld.SCH_POL_CFG_MODE.of x.cfg

/-- 1/1,024 bytes a rate in kbit/s adds in some core clocks (R452). -/
def policerGain (rate clk : Nat) : Nat := rate * 1000 * clk * 1024 / (1750000000 * 8)

/-- The buckets refilled to now (R452 to R454). -/
def Policer.refill (x : Policer) (now : Nat) : Policer :=
  let clk := now - x.at_
  let gain := policerGain x.cir clk
  let size := x.cbs * 1024
  if x.mode = 1 then
    let beyond := x.c + gain - size
    { x with c := min size (x.c + gain), e := min (x.ebs * 1024) (x.e + beyond), at_ := now }
  else
    { x with c := min size (x.c + gain), e := min (x.ebs * 1024) (x.e + policerGain x.pir clk), at_ := now }

/-- The colour of a metered length (0 green, 1 yellow, 2 red), and the policer with the tokens taken. -/
def Policer.decide (x : Policer) (m : Nat) : Nat × Policer :=
  let k := m * 1024
  if x.mode = 1 then
    if x.c ≥ k then (0, { x with c := x.c - k })
    else if x.e ≥ k then (1, { x with e := x.e - k })
    else (2, x)
  else if x.mode = 2 then
    if x.e < k then (2, x)
    else if x.c < k then (1, { x with e := x.e - k })
    else (0, { x with c := x.c - k, e := x.e - k })
  else (0, x)

/-- Give tokens back to, or take more from, the buckets a colour was charged to, clamped between 0 and their size
(R452): `back` tokens return when positive. -/
def Policer.adjust (x : Policer) (colour : Nat) (back : Int) : Policer :=
  let fix := fun (b size : Nat) => min (size * 1024) ((b : Int) + back * 1024).toNat
  if x.mode = 1 then
    if colour = 0 then { x with c := fix x.c x.cbs }
    else if colour = 1 then { x with e := fix x.e x.ebs } else x
  else if x.mode = 2 then
    if colour = 0 then { x with c := fix x.c x.cbs, e := fix x.e x.ebs }
    else if colour = 1 then { x with e := fix x.e x.ebs } else x
  else x

/-- Settle a packet's reservation at its end status (R452): to the frame length when good, returned when errored or when
the packet is dropped by its colour. -/
def State.policerSettle (s : State) (n : Nat) (errored : Bool) : State :=
  let p := s.pkt n
  match p.policer, p.colour with
  | some i, some (col, m) =>
    let len := p.len + 4
    let x := s.pol p.pipe i
    let back : Int := if errored then (m : Int) else (m : Int) - (len : Int)
    let k := p.pipe * 8192 + i
    let s1 := (s.setPol p.pipe i (x.adjust col back)).setPkt n { p with colour := none, policer := none }
    if errored then s1
    else
      let s2 := if col = 0 then (s1.bump .POL_GREEN_PKTS k).bump .POL_GREEN_OCTETS k len
        else if col = 1 then (s1.bump .POL_YELLOW_PKTS k).bump .POL_YELLOW_OCTETS k len
        else (s1.bump .POL_RED_PKTS k).bump .POL_RED_OCTETS k len
      if p.polDrop then s2.bump .POL_DROPS k else s2
  | _, _ => s

end Sys2Proof.Machine
end

