-- ==== Sys2Proof/Machine/SeqOps.lean ====
section
/-! DEFINITION. The resequencer and the port queue states (spec 14, R412 to R426): the operations the commands of that
chapter share. -/
namespace Sys2Proof.Machine

open Sys2Proof.Config

/-! ### The resequencer (R412 to R418) -/

/-- The stream of a pipeline to a queue of a slice. -/
def uniStream (src slice q : Nat) : Nat := (slice * 4 + src) * 65536 + q
/-- The multicast stream of a pipeline to a slice. -/
def mcStream (src slice : Nat) : Nat := 1048576 + slice * 4 + src

/-- Return a credit (R414). -/
def State.creditBack (s : State) (src slice : Nat) : State :=
  let k := src * 4 + slice
  { s with tm := { s.tm with credits := Sparse.put s.tm.credits k (Sparse.get s.tm.credits k 0 - 1) 0 } }

/-- Promote a complete item (R415, R424, R427). -/
def State.promote (s : State) (h : HeldItem) (pick : Nat) : State :=
  let s1 := s.creditBack h.src h.slice
  match h.kind with
  | .tombstone => s1
  | .close =>
    { s1 with tm := { s1.tm with moves := s1.tm.moves.map (fun m =>
        if m.slice = h.slice ∧ m.a = h.queue then { m with closed := h.src :: m.closed.erase h.src } else m) } }
  | .packet =>
    if h.mcast then
      let input := Sparse.get s1.tm.repl h.slice [] ++ [h]
      { s1 with tm := { s1.tm with repl := Sparse.insert s1.tm.repl h.slice input } }
    else
      let j := s1.qPort h.slice h.queue
      let port := portOfIdx h.slice j
      let drop := fun (c : Ctr) =>
        ((s1.freeChain h.slice reqPacket h.chain).forget h.pkt).bump c (port * 16 + h.cls)
      if 2 ≤ s1.qPortState h.slice j then drop .QUE_FLUSH
      else if !s1.qEn h.slice h.queue && (s1.queue h.slice h.queue).redirect.isNone then drop .QUE_DISABLED_DROP
      else s1.enqueue h.slice h.queue pick
        { pkt := h.pkt, slice := h.slice, queue := h.queue, cells := h.cells, chain := h.chain, mcast := false,
          vid := 0, cls := h.cls, joinedAt := s1.now }

/-- Set QUE_RSQ_STATUS.HELD of a slice. -/
def State.heldCount (s : State) (slice : Nat) : State :=
  s.wr Fld.QUE_RSQ_STATUS_HELD ((s.tm.held.filter (fun h => h.slice == slice)).length) slice

/-- Promote held items of a stream one after another while their number is NEXT; `n` bounds the loop. -/
def State.promoteHeld (s : State) (stream pick : Nat) : Nat → State
  | 0 => s
  | n + 1 =>
    let next := Sparse.get s.tm.rxNext stream 0
    match s.tm.held.find? (fun h => h.stream == stream && h.seq == next) with
    | some h =>
      let s1 := { s with tm := { s.tm with held := s.tm.held.erase h,
                                           rxNext := Sparse.put s.tm.rxNext stream ((next + 1) % 65536) 0 } }
      ((s1.heldCount h.slice).promote h pick).promoteHeld stream pick n
    | none => s

/-- Late-drop a complete item (R415); the second copy of a CLOSE is discarded without being counted (R427). -/
def State.lateDrop (s : State) (h : HeldItem) : State :=
  match h.kind with
  | .close => s
  | .tombstone => ((s.creditBack h.src h.slice).bump .QUE_LATE_DROP h.slice).raiseMs Ev.QUE_LATE_DROP .pipeline h.slice
  | .packet =>
    ((((s.creditBack h.src h.slice).freeChain h.slice reqPacket h.chain).forget h.pkt).bump
      .QUE_LATE_DROP h.slice).raiseMs Ev.QUE_LATE_DROP .pipeline h.slice

/-- A complete item reaches the resequencer (R415); a stream being resynchronised takes its number as NEXT and
late-drops its older held items (R418). -/
def State.sequence (s : State) (h : HeldItem) (pick : Nat) : State :=
  let rs := Sparse.get s.tm.resync h.stream false
  let s := if rs then
      let older := s.tm.held.filter (fun x => x.stream == h.stream && decide (4096 ≤ (x.seq + 65536 - h.seq) % 65536))
      let s1 := { s with tm := { s.tm with rxNext := Sparse.put s.tm.rxNext h.stream h.seq 0,
                                           resync := Sparse.erase s.tm.resync h.stream,
                                           held := s.tm.held.filter (fun x => !older.contains x) } }
      (older.foldl State.lateDrop s1).heldCount h.slice
    else s
  let next := Sparse.get s.tm.rxNext h.stream 0
  let d := (h.seq + 65536 - next) % 65536
  if d = 0 then
    let s1 := { s with tm := { s.tm with rxNext := Sparse.put s.tm.rxNext h.stream ((next + 1) % 65536) 0 } }
    (s1.promote h pick).promoteHeld h.stream pick (s.tm.held.length + 1)
  else if d < 4096 then
    if h.kind = .close && s.tm.held.any (fun x => x.stream == h.stream && x.seq == h.seq) then s
    else ({ s with tm := { s.tm with held := s.tm.held ++ [h] } }).heldCount h.slice
  else s.lateDrop h

/-- A packet of the slice is dropped after its number was assigned: its buffers return, and a tombstone is owed
(R387, R416). -/
def State.dropAsm (s : State) (a : Asm) : State :=
  let s1 := (s.freeChain a.slice reqPacket a.chain).forget a.pkt
  let rest := s1.tm.asms.filter (fun x => !(x.stream == a.stream && x.seq == a.seq))
  let asms := if a.arrived.length < a.cells then rest ++ [{ a with dropped := true, chain := [] }] else rest
  { s1 with tm := { s1.tm with asms := asms, tombs := s1.tm.tombs ++
      [⟨a.slice, a.stream, a.stream / (if a.mcast then 1 else 65536) % 4, a.seq, a.queue, a.mcast, s1.now⟩] } }

/-- Skip NEXT of a stream (R417): its arrived cells are discarded, NEXT advances and promotion resumes. -/
def State.skipNext (s : State) (slice stream pick : Nat) : State :=
  let next := Sparse.get s.tm.rxNext stream 0
  let src := if stream ≥ 1048576 then stream % 4 else stream / 65536 % 4
  let s1 := match s.tm.asms.find? (fun a => a.stream == stream && a.seq == next) with
    | some a =>
      let t := ((s.freeChain slice reqPacket a.chain).forget a.pkt).creditBack src slice
      { t with tm := { t.tm with asms := t.tm.asms.erase a, skipped := t.tm.skipped ++ [(stream, next)] } }
    | none => s
  let s2 := { s1 with tm := { s1.tm with rxNext := Sparse.put s1.tm.rxNext stream ((next + 1) % 65536) 0 } }
  ((s2.promoteHeld stream pick (s2.tm.held.length + 1)).bump .QUE_BACKSTOP slice).raise Ev.QUE_BACKSTOP .pipeline slice

/-! ### Ports and their express queues (R519, R426) -/

/-- The port. -/
def State.port (s : State) (p : Nat) : Port := Sparse.get s.ports p Port.init
/-- Replace a port. -/
def State.setPort (s : State) (p : Nat) (x : Port) : State := { s with ports := Sparse.put s.ports p x Port.init }
/-- The express buffer of a slice holds some cells more. -/
def State.takeExpCells (s : State) (slice n : Nat) : State :=
  let t := s.wr Fld.GTE_STATUS_BUF_CELLS (s.rd Fld.GTE_STATUS_BUF_CELLS slice + n) slice
  t.wrB Fld.GTE_CTRL_QUIET (t.rd Fld.GTE_STATUS_BUF_CELLS slice == 0) slice
/-- The express buffer of a slice gives some cells back. -/
def State.freeExpCells (s : State) (slice n : Nat) : State :=
  let t := s.wr Fld.GTE_STATUS_BUF_CELLS (s.rd Fld.GTE_STATUS_BUF_CELLS slice - n) slice
  t.wrB Fld.GTE_CTRL_QUIET (t.rd Fld.GTE_STATUS_BUF_CELLS slice == 0) slice
/-- Give a port's express queue its contents, with DEPTH. -/
def State.setExpQueue (s : State) (port : Nat) (q : List ExpEnt) : State :=
  let p := s.port port
  (s.setPort port { p with gte := { p.gte with queue := q } }).wr Fld.GTE_EXP_QSTAT_DEPTH q.length (port / 24) (port % 24)
/-- Drop a queued express frame: its cells return and it commits nothing. -/
def State.dropExpress (s : State) (port : Nat) (e : ExpEnt) : State :=
  ((s.setExpQueue port ((s.port port).gte.queue.erase e)).freeExpCells (port / 24) e.cells).discard e.pkt
/-- Drop every queued express frame of a port. -/
def State.flushExpress (s : State) (port : Nat) : State :=
  (s.port port).gte.queue.foldl (fun t e => t.dropExpress port e) s

/-- Mark an entry of a port's gate list banks faulty, or sound again (R541). -/
def State.setGateFault (s : State) (port k : Nat) (b : Bool) : State :=
  let p := s.port port
  s.setPort port { p with gte := { p.gte with badEntry := Sparse.put p.gte.badEntry k b false } }

/-! ### Port queue states (R423 to R426) -/

/-- The queues of a port that hold anything. -/
def State.portQueues (s : State) (port : Nat) : List Nat :=
  let slice := port / 24
  (s.tm.queues.filter (fun e => e.1 / 65536 == slice && s.qPort slice (e.1 % 65536) == port % 24)).map
    (fun e => e.1 % 65536)

/-- Enter FLUSHING: every packet in the port's queues is released and counted in QUE_FLUSH (R425). -/
def State.flushPort (s : State) (port : Nat) : State :=
  let s1 := s.wr Fld.QUE_PORT_STATUS_STATE 2 (port / 24) (port % 24)
  ((s.portQueues port).foldl (fun t q => t.flushQueue (port / 24) q .QUE_FLUSH) (s1.flushExpress port)).raise Ev.QUE_PORT_FLUSH .port port

/-- The port enters UP (R423, R425): its queues become OPEN unless a flush is running, and what they hold waits from now (R450). -/
def State.openPort (s : State) (port : Nat) : State :=
  if s.rd Fld.QUE_PORT_STATUS_STATE (port / 24) (port % 24) = 2 then s
  else
    let waits := (s.portQueues port).foldl (fun (m : Sparse Queue) q =>
      Sparse.modify m (port / 24 * 65536 + q) (fun u => { u with lastSent := s.now })) s.tm.queues
    { s.wr Fld.QUE_PORT_STATUS_STATE 0 (port / 24) (port % 24) with
      tm := { s.tm with queues := waits, holdUntil := Sparse.erase s.tm.holdUntil port } }

/-- The port leaves UP (R425): HOLDING with a deadline, or FLUSHING at once with HOLD_MS = 0. -/
def State.holdPort (s : State) (port : Nat) : State :=
  let ms := s.rd Fld.QUE_PORT_CFG_HOLD_MS (port / 24) (port % 24)
  if ms = 0 then s.flushPort port
  else
    { s.wr Fld.QUE_PORT_STATUS_STATE 1 (port / 24) (port % 24) with
      tm := { s.tm with holdUntil := Sparse.insert s.tm.holdUntil port (s.now + ms * msClk) } }

end Sys2Proof.Machine
end

