-- ==== Sys2Proof/Machine/Shadow.lean ====
section
/-! DEFINITION. The tables of a pipeline, and the shadows of their blocks (spec 08, R244, R245, R247): what a block holds, which blocks
are faulty, the tag of a block, and a keeper's write of a shadowed block. -/
namespace Sys2Proof.Machine

open Sys2Proof.Config

/-- Rule banks, stores and learning of a pipeline. -/
def State.rbk (s : State) (p : Nat) : Rbk := Sparse.get s.rbks p Rbk.init
/-- See `State.rbk`. -/
def State.setRbk (s : State) (p : Nat) (x : Rbk) : State := { s with rbks := Sparse.put s.rbks p x Rbk.init }
/-- See `State.rbk`. -/
def State.exm (s : State) (p : Nat) : Exm := Sparse.get s.exms p Exm.init
/-- See `State.rbk`. -/
def State.setExm (s : State) (p : Nat) (x : Exm) : State := { s with exms := Sparse.put s.exms p x Exm.init }
/-- See `State.rbk`. -/
def State.lrn (s : State) (p : Nat) : Lrn := Sparse.get s.lrns p Lrn.init
/-- See `State.rbk`. -/
def State.setLrn (s : State) (p : Nat) (x : Lrn) : State := { s with lrns := Sparse.put s.lrns p x Lrn.init }

/-! ### Keys of routes and of per-slot registers -/

/-- The key of a route. -/
def routeKey (vrf : Nat) (v6 : Bool) (len prefix_ : Nat) : Nat := ((vrf * 2 + v6.toNat) * 256 + len) * 2 ^ 128 + prefix_
/-- VRF, family and length of a route key, and its prefix. -/
def routeVrf (k : Nat) : Nat := k / 2 ^ 128 / 512
/-- See `routeVrf`. -/
def routeV6 (k : Nat) : Bool := k / 2 ^ 128 / 256 % 2 == 1
/-- See `routeVrf`. -/
def routeLen (k : Nat) : Nat := k / 2 ^ 128 % 256
/-- See `routeVrf`. -/
def routePrefix (k : Nat) : Nat := k % 2 ^ 128
/-- Address width of a family. -/
def addrBits (v6 : Bool) : Nat := if v6 then 128 else 32

/-- A bus address holds a per-slot register of a pipeline (Table 6.13). -/
def perSlotAddr (p a : Nat) : Bool :=
  let base := 0x02100000 + p * 0x40000
  decide (a = base + 0x14 ∨ (base + 0x400 ≤ a ∧ a < base + 0x460) ∨ (base + 0x1000 ≤ a ∧ a < base + 0x2800))

/-! ### Blocks (R244) -/

/-- Kinds of a shadow tag (Table 8.6); the model numbers on from them for the other shadowed tables (R371, R541, R589). -/
def shEm : Nat := 0
/-- See `shEm`. -/
def shOvf : Nat := 1
/-- See `shEm`. -/
def shRoute : Nat := 2
/-- See `shEm`. -/
def shRow : Nat := 3
/-- See `shEm`. -/
def shAct : Nat := 4
/-- See `shEm`. -/
def shReg : Nat := 5
/-- Next hops, templates, groups and edit profiles, by kind * 65,536 + index (R371). -/
def shRes : Nat := 6

/-- The key of a shadowed block. -/
def shKey (kind block : Nat) : Nat := kind * 2 ^ 24 + block

/-- The four places of an exact-match bucket (kind 0) or overflow group (1). -/
def blockPlaces (kind block : Nat) : List Nat :=
  (List.range 4).map (fun j => if kind = 0 then block * 4 + j else 2 ^ 24 + block * 4 + j)

/-- Numbers in order, each in some bits, the first lowest. -/
def packBits (bits : Nat) (l : List Nat) : Nat := l.foldr (fun v a => v + a * 2 ^ bits) 0

/-- A scheduler element of a slice by level * 65,536 + index. -/
def State.elemAt (s : State) (slice i : Nat) : Elem := Sparse.get s.sch.elems (slice * 327680 + i) (elemReset (i / 65536) (i % 65536))
/-- Replace it. -/
def State.setElemAt (s : State) (slice i : Nat) (e : Elem) : State :=
  { s with sch := { s.sch with elems := Sparse.put s.sch.elems (slice * 327680 + i) e (elemReset (i / 65536) (i % 65536)) } }

/-- What a block holds: kinds 0 bucket, 1 overflow group, 2 routes of a VRF, 3 rule row, 4 action word, 5 register by address and slot,
6 next hop, template, group or edit profile, 7 express entry, 8 gate entry by port index * 256 + bank * 128 + index (R541), 9 share
register by tide gate * 8 + activity (R589), 10 the configuration of a scheduler element by level * 65,536 + index, 11 that of a policer
(R458). -/
def State.blockRead (s : State) (p kind block : Nat) : BlockData :=
  let x := s.exm p
  let r := s.rbk p
  let i := block % 65536
  let word := fun (n : Nat) => BlockData.word (BitVec.ofNat 1024 n)
  match kind with
  | 0 | 1 => .entries ((blockPlaces kind block).map (fun k => Sparse.get x.slots k 0))
  | 2 => .routes (x.routes.keep (fun k => routeVrf k == block))
  | 3 => word (Sparse.get r.rows block 0).toNat
  | 4 => word (Sparse.get r.acts block 0).toNat
  | 5 => .reg (Sparse.find s.regs block)
  | 7 => word (Sparse.get x.exps block 0).toNat
  | 8 => word (Sparse.get (s.port (24 * p + block / 256 % 24)).gte.bank (block % 256) 0).toNat
  | 9 => .reg (Sparse.find (s.gate (block / 8)).force (block % 8))
  | 10 =>
    let e := s.elemAt p block
    word (packBits 32 [e.rate, e.burst, e.parent, e.weight * 128 + e.prio * 16 + e.parentLevel * 2 + e.en.toNat + e.shapeEn.toNat * 2 ^ 20])
  | 11 =>
    let x := Sparse.get s.sch.pols (p * 8192 + block % 8192) Policer.reset
    word (packBits 32 [x.cfg.toNat, x.cir, x.pir, x.cbs, x.ebs])
  | _ =>
    match block / 65536 with
    | 0 => word (Sparse.get x.nhs i 0).toNat
    | 1 => word (Sparse.get x.tpls i 0).toNat
    | 2 => .group (Sparse.get x.groups i LbGroup.init)
    | _ => .edit (Sparse.get x.edits i [])

/-- Give a register file entry its word, or its reset value. -/
def setOrErase {α : Type} (m : Sparse α) (k : Nat) (w : Option α) : Sparse α :=
  match w with
  | some v => Sparse.insert m k v
  | none => Sparse.erase m k

/-- Give a block its contents. -/
def State.blockWrite (s : State) (p kind block : Nat) (d : BlockData) : State :=
  let x := s.exm p
  let r := s.rbk p
  let i := block % 65536
  let port := 24 * p + block / 256 % 24
  match kind, d with
  | 0, .entries l | 1, .entries l =>
    s.setExm p { x with slots := ((blockPlaces kind block).zip l).foldl (fun m e => Sparse.put m e.1 e.2 0) x.slots }
  | 2, .routes m => s.setExm p { x with routes := m.foldl (fun a e => Sparse.insert a e.1 e.2) (x.routes.keep (fun k => routeVrf k != block)) }
  | 3, .word w => s.setRbk p { r with rows := Sparse.put r.rows block (w.setWidth 322) 0 }
  | 4, .word w => s.setRbk p { r with acts := Sparse.put r.acts block (w.setWidth 64) 0 }
  | 5, .reg w => { s with regs := setOrErase s.regs block w }
  | 7, .word w => s.setExm p { x with exps := Sparse.put x.exps block (w.setWidth 128) 0 }
  | 8, .word w => s.setPort port { s.port port with gte := { (s.port port).gte with bank := Sparse.put (s.port port).gte.bank (block % 256) (w.setWidth 64) 0 } }
  | 10, .word w =>
    let c := fun (i : Nat) => w.toNat / 2 ^ (32 * i) % 2 ^ 32
    s.setElemAt p block { s.elemAt p block with rate := c 0, burst := c 1, parent := c 2, weight := c 3 / 128 % 1024, prio := c 3 / 16 % 8, parentLevel := c 3 / 2 % 8, en := c 3 % 2 == 1, shapeEn := c 3 / 2 ^ 20 % 2 == 1 }
  | 11, .word w =>
    let c := fun (i : Nat) => w.toNat / 2 ^ (32 * i) % 2 ^ 32
    let k := p * 8192 + block % 8192
    let x := { Sparse.get s.sch.pols k Policer.reset with cfg := BitVec.ofNat 32 (c 0), cir := c 1, pir := c 2, cbs := c 3, ebs := c 4 }
    { s with sch := { s.sch with pols := Sparse.put s.sch.pols k x Policer.reset } }
  | 9, .reg w => s.setGate (block / 8) { s.gate (block / 8) with force := setOrErase (s.gate (block / 8)).force (block % 8) w }
  | _, .word w =>
    if block / 65536 = 0 then s.setExm p { x with nhs := Sparse.put x.nhs i (w.setWidth 128) 0 }
    else s.setExm p { x with tpls := Sparse.put x.tpls i w 0 }
  | _, .group g => s.setExm p { x with groups := Sparse.put x.groups i g LbGroup.init }
  | _, .edit ws => s.setExm p { x with edits := Sparse.put x.edits i ws [] }
  | _, _ => s


/-- The bytes of a block as a number, with how many there are: 128 of a bucket of narrow entries or of another word, 256 of a wide bucket.
The layout of what the manual keeps internal (route nodes, groups) is the model's. -/
def BlockData.bytes : BlockData → Nat × Nat
  | .entries l => if l.all (fun e => decide (e.toNat < 2 ^ 256)) then (128, packBits 256 (l.map BitVec.toNat)) else (256, packBits 512 (l.map BitVec.toNat))
  | .routes m => (32 * m.length, packBits 256 (m.map (fun (e : Nat × BitVec 32) => e.1 * 2 ^ 32 + e.2.toNat)))
  | .reg w => (128, w.elim 0 (fun v => v.toNat + 2 ^ 32))
  | .group g => (512, packBits 40 (g.members.map (fun (e : Nat × LbMember) => e.1 + (e.2.nh + e.2.weight * 2 ^ 16 + e.2.state * 2 ^ 24 + e.2.gen * 2 ^ 26) * 64))
      + packBits 16 (g.buckets.map (fun (e : Nat × Nat) => e.1 + e.2 * 256)) * 2 ^ 2560)
  | .edit ws => (128, packBits 33 (ws.map (fun w => w.toNat * 2 + 1)))
  | .word w => (128, w.toNat)
/-- The CRC of a block's contents (Table 8.6). -/
def BlockData.crc (d : BlockData) : BitVec 32 := crc32c d.bytes.1 d.bytes.2

/-! ### Faulty blocks (R188, R217, R371) -/

/-- A block counts as faulty in the tables, by the kinds of `State.blockRead`. -/
def State.blockFaulty (s : State) (p kind block : Nat) : Bool :=
  let x := s.exm p
  match kind with
  | 0 => Sparse.get x.faulty (block * 4) false
  | 1 => (blockPlaces 1 block).any (fun k => Sparse.get x.faulty k false)
  | 2 => x.faultyRoutes.any (fun e => routeVrf e.1 == block)
  | 3 | 4 => Sparse.get (s.rbk p).faulty block false
  | 5 => Sparse.get s.bad block false || Sparse.get (s.rbk p).badCfg block false
  | 7 => Sparse.get x.faultyExp block false
  | 8 => Sparse.get (s.port (24 * p + block / 256 % 24)).gte.badEntry (block % 256) false
  | 9 => Sparse.get (s.gate (block / 8)).badShare (block % 8) false
  | 10 => (s.elemAt p block).badCfg
  | 11 => (Sparse.get s.sch.pols (p * 8192 + block % 8192) Policer.reset).badCfg
  | _ => Sparse.get x.faultyRes block false

/-- Mark a block faulty, or sound again. -/
def State.setBlockFaulty (s : State) (p kind block : Nat) (b : Bool) : State :=
  let x := s.exm p
  let r := s.rbk p
  match kind with
  | 0 => s.setExm p { x with faulty := Sparse.put x.faulty (block * 4) b false }
  | 1 => s.setExm p { x with faulty := (blockPlaces 1 block).foldl (fun m k => Sparse.put m k b false) x.faulty }
  | 2 => s.setExm p { x with faultyRoutes := (x.routes.map Prod.fst).foldl (fun m k =>
      if routeVrf k = block then Sparse.put m k b false else m) x.faultyRoutes }
  | 3 | 4 => s.setRbk p { r with faulty := Sparse.put r.faulty block b false }
  | 5 =>
    if perSlotAddr p (block % 0x100000000) then s.setRbk p { r with badCfg := Sparse.put r.badCfg block b false }
    else { s with bad := Sparse.put s.bad block b false }
  | 7 => s.setExm p { x with faultyExp := Sparse.put x.faultyExp block b false }
  | 8 => s.setGateFault (24 * p + block / 256 % 24) (block % 256) b
  | 10 => s.setElemAt p block { s.elemAt p block with badCfg := b }
  | 11 =>
    let k := p * 8192 + block % 8192
    { s with sch := { s.sch with pols := Sparse.put s.sch.pols k { Sparse.get s.sch.pols k Policer.reset with badCfg := b } Policer.reset } }
  | 9 => s.setGate (block / 8) { s.gate (block / 8) with badShare := Sparse.put (s.gate (block / 8)).badShare (block % 8) b false }
  | _ => s.setExm p { x with faultyRes := Sparse.put x.faultyRes block b false }

/-! ### Shadow tags and keeper writes (R244, R245) -/

/-- A block is shadowed (Table 8.4): not one of a learned section. -/
def State.shadowed (s : State) (p kind block : Nat) : Bool := kind != 0 || !s.on Fld.EXM_SECT_CFG_LEARNED_SECT p (block / 2 ^ 18)
/-- The tag of a block: a block no keeper has written has the tag of what it holds. -/
def State.shadowTag (s : State) (p kind block : Nat) : ShadowTag :=
  Sparse.get (s.lrn p).shadows (shKey kind block) ⟨(s.blockRead p kind block).crc, 0, s.shadowed p kind block⟩
/-- BUSY of a block's tag: a change in flight writes it. -/
def State.tagBusy (s : State) (p kind block : Nat) : Bool :=
  s.kpr.inFlight.any (fun c => c.change.elim false (fun h => h.busy.contains (p, shKey kind block)))
/-- The shadow of a block. -/
def State.shadowCopy (s : State) (p kind block : Nat) : BlockData := (Sparse.find (s.lrn p).copies (shKey kind block)).getD (s.blockRead p kind block)

/-- A keeper's write of a shadowed block (R245), whose new contents stand in the table: the shadow block takes them, the tag their CRC
and WRITE_SEQ + 1.  A block that was lost is rewritten and sound again (R247). -/
def State.touch (s : State) (p kind block : Nat) : State :=
  let k := shKey kind block
  let d := s.blockRead p kind block
  let l := s.lrn p
  let tag : ShadowTag := ⟨d.crc, ((Sparse.find l.shadows k).elim 0 ShadowTag.seq + 1) % 65536, true⟩
  let t := s.setLrn p { l with shadows := Sparse.insert l.shadows k tag, copies := Sparse.insert l.copies k d, lost := Sparse.erase l.lost k }
  let f := if Sparse.get l.lost k false then t.setBlockFaulty p kind block false else t
  let u := if kind = shRow then f.injectFire 0 p block else if kind = shRoute then f.injectFire 2 p block else f
  u.injectFire 11 p k

end Sys2Proof.Machine
end

