-- ==== Sys2Proof/Machine/TabOps.lean ====
section
/-! DEFINITION. The lookup tables (spec 06, 07, 08): rule slots and first match, exact-match candidate buckets, search,
insertion with relocation and deletion, routes, shadows, and sending a packet or a copy to host port 100. -/
namespace Sys2Proof.Machine

open Sys2Proof.Config

/-! ### Host port 100 (R155, R366) -/

/-- Host port 100 can accept a packet: a receive ring for its packets is enabled (R155). -/
def State.hostAccepts (s : State) : Bool :=
  s.on Fld.HST_CTRL_DMA_EN &&
    (List.range 16).any (fun k => s.on Fld.HST_RX_CFG_EN 0 k && s.rd Fld.HST_RX_CFG_SOURCE 0 k == 0)

/-- Send a packet to host port 100 with a reason code; one that cannot be accepted is discarded and counted. -/
def State.toHost (s : State) (n reason aux : Nat) (unavail : Ctr) : State :=
  let p := s.pkt n
  if s.hostAccepts then
    let t := s.leaveSlot n
    t.setPkt n { t.pkt n with stage := .cells, dest := .port 100, tag := 0, reason := reason, aux := aux, void := true }
  else
    let t := (s.discard n).bump unavail p.port
    if unavail = .PRS_HOST_UNAVAIL then t.raiseMs Ev.PRS_HOST_UNAVAIL .port p.port else t

/-- A new packet that is a copy of another: it commits nothing and takes its end status. -/
def State.copyPkt (s : State) (n : Nat) (f : Packet → Packet) : State :=
  let p := s.pkt n
  let c := { p with copyOf := some (p.copyOf.getD n), inSlot := none, note := none, flow := none, sess := none, nat := none,
                    policer := none, colour := none, won := [], park := none, replay := none, tag := 0,
                    ingCells := 0 }
  { s.setPkt s.nextPkt (f c) with nextPkt := s.nextPkt + 1 }

/-- Send a copy to host port 100. -/
def State.copyToHost (s : State) (n reason aux : Nat) (unavail : Ctr) : State :=
  if s.hostAccepts then
    s.copyPkt n (fun c => { c with stage := .cells, dest := .port 100, reason := reason, aux := aux })
  else
    let t := s.bump unavail (s.pkt n).port
    if unavail = .PRS_HOST_UNAVAIL then t.raiseMs Ev.PRS_HOST_UNAVAIL .port (s.pkt n).port else t

/-- VRF of a packet (R202). -/
def State.vrfOf (s : State) (p : Packet) : Nat :=
  if isFront p.port then
    s.rd (if p.pass = 1 then Fld.EXM_PORT_VRF_VRF_PASS2 else Fld.EXM_PORT_VRF_VRF) p.pipe (p.port % 24)
  else 0

/-! ### Rule slots and first match (R163 to R173, R177) -/

/-- State of a slot (Table 6.11). -/
def State.slotState (s : State) (p k : Nat) : Nat :=
  s.rd (if k = 0 then Fld.RBK_EPOCH_STATUS_SLOT0_STATE else Fld.RBK_EPOCH_STATUS_SLOT1_STATE) p
/-- Give a slot a state. -/
def State.setSlotState (s : State) (p k v : Nat) : State :=
  s.wr (if k = 0 then Fld.RBK_EPOCH_STATUS_SLOT0_STATE else Fld.RBK_EPOCH_STATUS_SLOT1_STATE) v p
/-- Epoch number of a slot. -/
def State.epoch (s : State) (p k : Nat) : Nat :=
  s.rd (if k = 0 then Fld.RBK_EPOCH_NUM_SLOT0_EPOCH else Fld.RBK_EPOCH_NUM_SLOT1_EPOCH) p
/-- Give a slot an epoch number. -/
def State.setEpoch (s : State) (p k v : Nat) : State :=
  s.wr (if k = 0 then Fld.RBK_EPOCH_NUM_SLOT0_EPOCH else Fld.RBK_EPOCH_NUM_SLOT1_EPOCH) v p
/-- In-flight count of a slot. -/
def State.inFlight (s : State) (p k : Nat) : Nat :=
  s.rd (if k = 0 then Fld.RBK_EPOCH_INFLIGHT_SLOT0_COUNT else Fld.RBK_EPOCH_INFLIGHT_SLOT1_COUNT) p
/-- Give a slot an in-flight count. -/
def State.setInFlight (s : State) (p k v : Nat) : State :=
  s.wr (if k = 0 then Fld.RBK_EPOCH_INFLIGHT_SLOT0_COUNT else Fld.RBK_EPOCH_INFLIGHT_SLOT1_COUNT) v p
/-- The CURRENT slot. -/
def State.curSlot (s : State) (p : Nat) : Nat := s.rd Fld.RBK_EPOCH_STATUS_CUR_SLOT p
/-- The slot being built, when there is one. -/
def State.building (s : State) (p : Nat) : Option Nat := (List.range 2).find? (fun k => s.slotState p k == 1)

/-- WIDTH of a bank, and the banks of its group (Table 6.1). -/
def State.bankWidth (s : State) (p b : Nat) : Nat := s.rd Fld.RBK_BANK_CFG_WIDTH p b
/-- See `State.bankWidth`. -/
def groupSize (w : Nat) : Nat := if w = 2 then 4 else if w = 1 then 2 else 1

/-- The membership bit of a row in a slot. -/
def rowMember (r : BitVec 322) (slot : Nat) : Bool := if slot = 0 then RuleRow.MEMBER0.on r else RuleRow.MEMBER1.on r
/-- Give a row a membership bit. -/
def setMember (r : BitVec 322) (slot : Nat) (b : Bool) : BitVec 322 :=
  if slot = 0 then RuleRow.MEMBER0.set r b.toNat else RuleRow.MEMBER1.set r b.toNat

/-- A row's 160 bits match a key part (R166). -/
def rowMatches (r : BitVec 322) (key : Nat) : Bool :=
  Nat.land (Nat.xor (key % 2 ^ 160) (RuleRow.VALUE.get r)) (RuleRow.CARE.get r) == 0

/-- The rule in a row of a group matches: every bank of the group compares its part of the key (R164), and none of its rows is faulty
(R188). -/
def Rbk.ruleMatches (x : Rbk) (size bank row key : Nat) : Bool :=
  (List.range size).all (fun i =>
    let k := (bank + i) * 2048 + row
    !Sparse.get x.faulty k false && rowMatches (Sparse.get x.rows k 0) (key / 2 ^ (160 * i)))

/-- The winning rule of a lookup: lowest bank of the mask, then lowest row (R173). -/
def State.firstMatch (s : State) (p slot mask size key : Nat) : Option Nat :=
  let x := s.rbk p
  (x.rows.find? (fun e =>
    let b := e.1 / 2048
    mask / 2 ^ b % 2 == 1 && b % size == 0 && rowMember e.2 slot && x.ruleMatches size b (e.1 % 2048) key)).map Prod.fst

/-- A row of some bank of a mask is faulty (R188). -/
def Rbk.maskFaulty (x : Rbk) (mask : Nat) : Bool := x.faulty.any (fun e => mask / 2 ^ (e.1 / 2048) % 2 == 1)

/-! ### Exact-match places and entries (R196 to R203) -/

/-- Entry fields (Table 7.2). -/
def emValid (e : BitVec 512) : Bool := e.toNat % 2 == 1
/-- See `emValid`. -/
def emStatic (e : BitVec 512) : Bool := e.toNat / 2 % 2 == 1
/-- See `emValid`. -/
def emLearned (e : BitVec 512) : Bool := e.toNat / 4 % 2 == 1
/-- See `emValid`. -/
def emSection (e : BitVec 512) : Nat := e.toNat / 8 % 16
/-- See `emValid`. -/
def emClass (e : BitVec 512) : Nat := e.toNat / 128 % 4
/-- See `emValid`. -/
def emKeyOf (wide : Bool) (e : BitVec 512) : Nat := e.toNat / 2 ^ 32 % (if wide then 2 ^ 320 else 2 ^ 128)
/-- See `emValid`. -/
def emResult (wide : Bool) (e : BitVec 512) : BitVec 32 := BitVec.ofNat 32 (e.toNat / (if wide then 2 ^ 352 else 2 ^ 160))
/-- See `emValid`. -/
def emMetaOf (wide : Bool) (e : BitVec 512) : Nat := if wide then e.toNat / 2 ^ 384 else e.toNat / 2 ^ 192 % 2 ^ 64

/-- An entry. -/
def emMake (wide static learned : Bool) (sect cls key : Nat) (result : BitVec 32) (meta_ : Nat) : BitVec 512 :=
  let low := 1 + static.toNat * 2 + learned.toNat * 4 + sect * 8 + cls * 128 + key * 2 ^ 32
  BitVec.ofNat 512 (if wide then low + result.toNat * 2 ^ 352 + meta_ % 2 ^ 128 * 2 ^ 384
    else low + result.toNat * 2 ^ 160 + meta_ % 2 ^ 64 * 2 ^ 192)

/-- WIDE of a section. -/
def State.sectWide (s : State) (p c : Nat) : Bool := s.rd Fld.EXM_SECT_CFG_WIDE p c == 1
/-- Buckets of a section (R212). -/
def State.sectBuckets (s : State) (p c : Nat) : Nat :=
  s.rd Fld.EXM_SECT_CFG_SIZE_UNITS p c * (if s.sectWide p c then 128 else 256)
/-- A section exists: its number and size (R207 step 1). -/
def State.sectOn (s : State) (p c : Nat) : Bool := decide (c < 16) && s.rd Fld.EXM_SECT_CFG_SIZE_UNITS p c != 0

/-- The two candidate buckets of a key (R203). -/
def State.candidates (s : State) (p c key : Nat) : Nat × Nat :=
  let n := s.sectBuckets p c
  let bytes := if s.sectWide p c then 40 else 16
  let b0 := seedHash poly32C bytes key (s.rd Fld.EXM_SECT_SEED_SEED0 p c) * n / 2 ^ 32
  let b1 := seedHash poly32K bytes key (s.rd Fld.EXM_SECT_SEED_SEED1 p c) * n / 2 ^ 32
  (b0, if b1 = b0 then (b0 + 1) % n else b1)

/-- The place of a bucket slot, and of an overflow slot. -/
def emPlace (c b i : Nat) : Nat := c * 2 ^ 20 + b * 4 + i
/-- See `emPlace`. -/
def ovfPlace (i : Nat) : Nat := 2 ^ 24 + i
/-- The section and the bucket of a place in the bucket store. -/
def placeSect (k : Nat) : Nat := k / 2 ^ 20
/-- See `placeSect`. -/
def placeBucket (k : Nat) : Nat := k % 2 ^ 20 / 4

/-- The places of a bucket. -/
def bucketPlaces (c b : Nat) : List Nat := (List.range 4).map (emPlace c b)

/-- The entry at a place. -/
def Exm.at (x : Exm) (k : Nat) : BitVec 512 := Sparse.get x.slots k 0
/-- A place holds an entry. -/
def Exm.used (x : Exm) (k : Nat) : Bool := emValid (x.at k)
/-- Overflow places of a section. -/
def Exm.ovf (x : Exm) (c : Nat) : List Nat :=
  (x.slots.filter (fun e => decide (2 ^ 24 ≤ e.1) && emSection e.2 == c)).map Prod.fst
/-- A bucket is faulty. -/
def Exm.badBucket (x : Exm) (c b : Nat) : Bool := Sparse.get x.faulty (emPlace c b 0) false

/-- The bucket or overflow slot of a place is faulty; a wide entry of the overflow store lies in two slots. -/
def Exm.badPlace (x : Exm) (wide : Bool) (k : Nat) : Bool :=
  if k < 2 ^ 24 then Sparse.get x.faulty (k / 4 * 4) false else Sparse.get x.faulty k false || (wide && Sparse.get x.faulty (k + 1) false)

/-- The place that holds a key of a section, in the order of R204, whether or not it is faulty. -/
def State.emWhere (s : State) (p c key : Nat) (ok : Nat → Bool) : Option Nat :=
  let x := s.exm p
  let (b0, b1) := s.candidates p c key
  let wide := s.sectWide p c
  (bucketPlaces c b0 ++ bucketPlaces c b1 ++ x.ovf c).find? (fun k =>
    let e := x.at k
    ok k && emValid e && emSection e == c && emKeyOf wide e == key)
/-- The place where a lookup finds a key of a section (R204); faulty buckets and slots count as empty (R217). -/
def State.emFind (s : State) (p c key : Nat) : Option Nat := s.emWhere p c key (fun k => !(s.exm p).badPlace (s.sectWide p c) k)
/-- The place that holds a key of a section, for a change, which meets the entries of faulty buckets and slots as well. -/
def State.emHeldAt (s : State) (p c key : Nat) : Option Nat := s.emWhere p c key (fun _ => true)

/-- Some candidate bucket of a key is faulty (R217). -/
def State.emFaulty (s : State) (p c key : Nat) : Bool :=
  let (b0, b1) := s.candidates p c key
  (s.exm p).badBucket c b0 || (s.exm p).badBucket c b1

/-- Set the hit bit of a place (R199). -/
def State.hit (s : State) (p k : Nat) : State :=
  let x := s.exm p
  s.setExm p { x with hits := Sparse.insert x.hits k true }

/-! ### Changes of the exact-match store (R207 to R213) -/

/-- Entry and overflow counts of a section and the overflow status, after a change (R213, Table 7.6). -/
def State.countOvf (s : State) (p : Nat) : State :=
  let x := s.exm p
  let used := (x.slots.filter (fun e => decide (2 ^ 24 ≤ e.1))).foldl (fun a e =>
    a + (if s.sectWide p (emSection e.2) then 2 else 1)) 0
  let s1 := s.wr Fld.EXM_OVF_STATUS_USED used p
  if 7168 ≤ used then
    if s1.on Fld.EXM_OVF_STATUS_HIGH p then s1
    else (s1.wr Fld.EXM_OVF_STATUS_HIGH 1 p).raise Ev.EXM_OVF_HIGH .pipeline p used
  else if used ≤ 6144 then s1.wr Fld.EXM_OVF_STATUS_HIGH 0 p else s1

/-- The port a learned entry names, when the entry is learned. -/
def State.learnedPort (s : State) (p : Nat) (e : BitVec 512) : Option Nat :=
  if emLearned e then some (ResWord.TARGET.get (emResult (s.sectWide p (emSection e)) e)) else none

/-- Add to, or take from, the learned count of the port an entry names (R240, LRN_PORT_STATUS). -/
def State.countLearned (s : State) (p : Nat) (e : BitVec 512) (up : Bool) : State :=
  match s.learnedPort p e with
  | some port =>
    let v := s.rd Fld.LRN_PORT_STATUS_LEARNED p (port % 24)
    s.wr Fld.LRN_PORT_STATUS_LEARNED (if up then v + 1 else v - 1) p (port % 24)
  | none => s

/-- The shadowed block of a place that an entry of a section is written to or cleared from: none for a learned section (Table 8.4). -/
def State.emBlock (s : State) (p c k : Nat) : List (Nat × Nat) :=
  if s.on Fld.EXM_SECT_CFG_LEARNED_SECT p c then [] else if k < 2 ^ 24 then [(shEm, k / 4)] else [(shOvf, (k - 2 ^ 24) / 4)]
/-- The shadow of a place's block follows its contents. -/
def State.touchEm (s : State) (p c k : Nat) : State := (s.emBlock p c k).foldl (fun t b => t.touch p b.1 b.2) s

/-- Write an entry at a place with its hit bit. -/
def State.emPut (s : State) (p k : Nat) (e : BitVec 512) (hit : Bool) : State :=
  let x := s.exm p
  ((s.setExm p { x with slots := Sparse.insert x.slots k e, hits := Sparse.put x.hits k hit false }).touchEm p (emSection e) k).injectFire 1 p k

/-- Clear a place. -/
def State.emClear (s : State) (p k : Nat) : State :=
  let x := s.exm p
  ((s.setExm p { x with slots := Sparse.erase x.slots k, hits := Sparse.erase x.hits k }).touchEm p (emSection (x.at k)) k).injectFire 1 p k

/-- The lowest free slot of a bucket, and its number of free slots. -/
def Exm.freeIn (x : Exm) (c b : Nat) : List Nat := (bucketPlaces c b).filter (fun k => !x.used k)

/-- The alternate bucket of the entry at a place (R207 step 4). -/
def State.alternate (s : State) (p k : Nat) : Nat :=
  let c := placeSect k
  let (b0, b1) := s.candidates p c (emKeyOf (s.sectWide p c) ((s.exm p).at k))
  if placeBucket k = b0 then b1 else b0

/-- Breadth-first search of a relocation path: each path lists places, the last entry to move first; `n` bounds the moves.
Answers the path found with the free place at its end. -/
def State.relocSearch (s : State) (p c : Nat) : Nat → List (List Nat) → Option (Nat × List Nat)
  | 0, _ => none
  | n + 1, paths =>
    let x := s.exm p
    let hit := paths.filterMap (fun path =>
      match path with
      | k :: _ => ((x.freeIn c (s.alternate p k)).head?).map (fun f => (f, path))
      | [] => none)
    match hit with
    | h :: _ => some h
    | [] =>
      s.relocSearch p c n (paths.flatMap (fun path =>
        match path with
        | k :: _ => (bucketPlaces c (s.alternate p k)).map (fun j => j :: path)
        | [] => []))

/-- Carry out the moves of a path from its far end (R207 step 5): each entry is copied to the place before it and then
cleared.  Answers the place freed for the new entry. -/
def State.relocate (s : State) (p : Nat) : Nat → List Nat → State × Nat
  | free, [] => (s, free)
  | free, k :: rest => ((s.emPut p free ((s.exm p).at k) true).emClear p k).relocate p k rest

/-- The lowest free overflow slot, or even and odd pair. -/
def State.freeOvf (s : State) (p : Nat) (wide : Bool) : Option Nat :=
  let x := s.exm p
  let taken := fun i => x.used (ovfPlace i)
    || (i % 2 == 1 && x.used (ovfPlace (i - 1)) && s.sectWide p (emSection (x.at (ovfPlace (i - 1)))))
  let n := (x.slots.filter (fun e => decide (2 ^ 24 ≤ e.1))).length
  if wide then ((List.range (min 4096 (2 * n + 1))).find? (fun i => !taken (2 * i) && !taken (2 * i + 1))).map (fun i => 2 * i)
  else (List.range (min 8192 (2 * n + 1))).find? (fun i => !taken i)

/-- Where an insert puts its entry (R207 steps 2 to 6). -/
inductive EmPlan where
  /-- The key is held at a place. -/
  | held (k : Nat)
  /-- A free slot of a candidate bucket. -/
  | slot (k : Nat)
  /-- The entries of a path move, the first of them into a free place. -/
  | path (free : Nat) (ks : List Nat)
  /-- The lowest free overflow slot. -/
  | spill (i : Nat)
  | full
  deriving DecidableEq, Repr

/-- The plan of an insert. -/
def State.emPlan (s : State) (p : Nat) (e : BitVec 512) : EmPlan :=
  let c := emSection e
  let wide := s.sectWide p c
  let key := emKeyOf wide e
  match s.emHeldAt p c key with
  | some k => .held k
  | none =>
    let x := s.exm p
    let (b0, b1) := s.candidates p c key
    let f0 := x.freeIn c b0
    let f1 := x.freeIn c b1
    match (if f1.length > f0.length then f1 else f0) with
    | k :: _ => .slot k
    | [] =>
      let start := (bucketPlaces c b0 ++ bucketPlaces c b1).map (fun k => [k])
      match s.relocSearch p c (s.rd Fld.EXM_SECT_LIM_MAX_RELOC p c) start with
      | some (free, ks) => .path free ks
      | none =>
        let need := if wide then 2 else 1
        match s.freeOvf p wide with
        | some i => if (x.ovf c).length * need + need ≤ s.rd Fld.EXM_SECT_LIM_OVF_QUOTA p c then .spill i else .full
        | none => .full

/-- The places a plan reads or writes beside the candidate buckets. -/
def EmPlan.places : EmPlan → List Nat
  | .held k | .slot k => [k]
  | .path free ks => free :: ks
  | .spill i => [ovfPlace i]
  | .full => []
/-- An insert needs a faulty bucket or slot: it waits until that is restored (R217).  A lost block is not restored: it is rewritten
(R247). -/
def State.emBlocked (s : State) (p : Nat) (e : BitVec 512) : Bool :=
  let c := emSection e
  let bad := fun (k : Nat) => (s.exm p).badPlace (s.sectWide p c) k
    && !(s.emBlock p c k).any (fun b => Sparse.get (s.lrn p).lost (shKey b.1 b.2) false)
  let (b0, b1) := s.candidates p c (emKeyOf (s.sectWide p c) e)
  (emPlace c b0 0 :: emPlace c b1 0 :: (s.emPlan p e).places).any bad

/-- How an insert ends. -/
inductive EmEnd where
  | ok (moves : Nat)
  | duplicate
  | full
  deriving DecidableEq, Repr

/-- The counts of an entry that has been inserted. -/
def State.emCounted (s : State) (p c moves : Nat) (e : BitVec 512) : State :=
  let t := (s.bump .EXM_INSERTS (p * 16 + c)).wr Fld.EXM_SECT_STATUS_ENTRIES (s.rd Fld.EXM_SECT_STATUS_ENTRIES p c + 1) p c
  ((if moves = 0 then t else t.bump .EXM_RELOCATIONS (p * 16 + c) moves).countLearned p e true).countOvf p

/-- Insert an entry (R207 steps 2 to 6). -/
def State.emInsert (s : State) (p : Nat) (e : BitVec 512) : State × EmEnd :=
  let c := emSection e
  match s.emPlan p e with
  | .held _ => (s.bump .EXM_INSERT_DUP (p * 16 + c), .duplicate)
  | .slot k => ((s.emPut p k e true).emCounted p c 0 e, .ok 0)
  | .path free ks =>
    let (t, k) := s.relocate p free ks
    ((t.emPut p k e true).emCounted p c ks.length e, .ok ks.length)
  | .spill i => (((s.emPut p (ovfPlace i) e true).bump .EXM_OVF_INSERTS (p * 16 + c)).emCounted p c 0 e, .ok 0)
  | .full => ((s.bump .EXM_INSERT_FULL (p * 16 + c)).raiseMs Ev.EXM_INSERT_FULL .pipeline p c, .full)

/-- Remove the entry at a place, and move back into a freed bucket slot the lowest overflow entry of the section that has
the bucket as a candidate (R209). -/
def State.emRemove (s : State) (p k : Nat) : State :=
  let e := (s.exm p).at k
  let c := emSection e
  let s1 := ((s.emClear p k).countLearned p e false).wr Fld.EXM_SECT_STATUS_ENTRIES
    (s.rd Fld.EXM_SECT_STATUS_ENTRIES p c - 1) p c
  let s2 := s1.bump .EXM_DELETES (p * 16 + c)
  if k < 2 ^ 24 then
    let wide := s2.sectWide p c
    let x := s2.exm p
    match (x.ovf c).find? (fun o =>
        !x.badPlace wide o &&
        let (a, b) := s2.candidates p c (emKeyOf wide (x.at o))
        placeBucket k == a || placeBucket k == b) with
    | some o => ((s2.emPut p k (x.at o) true).emClear p o).countOvf p
    | none => s2
  else s2.countOvf p

/-! ### Routes (R214 to R216) -/

/-- A route covers an address. -/
def routeCovers (k vrf : Nat) (v6 : Bool) (addr : Nat) : Bool :=
  routeVrf k == vrf && routeV6 k == v6 && addr / 2 ^ (addrBits v6 - routeLen k) == routePrefix k / 2 ^ (addrBits v6 - routeLen k)

/-- The longest of some route keys. -/
def longest (ks : List Nat) : Option Nat :=
  ks.foldl (fun m k => match m with | some j => if routeLen j < routeLen k then some k else m | none => some k) none

/-- What a route lookup finds. -/
inductive RouteEnd where
  | hit (word : BitVec 32)
  | miss
  | fault
  deriving DecidableEq, Repr

/-- An IPv6 address is an IPv4-mapped one. -/
def mappedAddr (a : Nat) : Bool := a / 2 ^ 32 == 0xFFFF

/-- The route lookup (R215): the longest covering prefix, for an IPv4-mapped address none; a faulty node on the way applies FAULT_ACT
(R217). -/
def State.routeLookup (s : State) (p vrf : Nat) (v6 : Bool) (addr : Nat) : RouteEnd :=
  let x := s.exm p
  let cover := (x.routes.map Prod.fst).filter (fun k => routeCovers k vrf v6 addr && !(v6 && mappedAddr addr))
  let bad := cover.filter (fun k => Sparse.get x.faultyRoutes k false)
  let best := fun ks => match longest ks with | some k => RouteEnd.hit (Sparse.get x.routes k 0) | none => .miss
  match bad with
  | [] => best cover
  | b :: r =>
    if s.on Fld.LPM_CTRL_FAULT_ACT p then .fault
    else
      let top := r.foldl (fun m k => min m (routeLen k)) (routeLen b)
      best (cover.filter (fun k => decide (routeLen k < top)))

/-! ### Reads that find an error (R188, R217, R780) -/

/-- An uncorrectable error marks a rule row faulty (R188). -/
def State.rowBad (s : State) (p r : Nat) : State :=
  let x := s.rbk p
  (s.setRbk p { x with faulty := Sparse.insert x.faulty r true }).raise Ev.RBK_ENTRY_ECC .pipeline p r
/-- The rows of the banks of a mask are read: planted errors are found. -/
def State.readRows (s : State) (p mask : Nat) : State :=
  ((s.plants 0 p).filter (fun (e : Nat × Nat) => mask / 2 ^ (e.1 / 2048) % 2 == 1)).foldl (fun (t : State) e =>
    let u := (t.readPlant 0 p e.1).1
    if e.2 = 0 then u.bump .RBK_ECC_CORRECTED p else u.rowBad p e.1) s
/-- An uncorrectable error marks the bucket or the overflow slot of a place faulty (R217). -/
def State.emBad (s : State) (p k : Nat) : State :=
  let x := s.exm p
  (s.setExm p { x with faulty := Sparse.insert x.faulty (if k < 2 ^ 24 then k / 4 * 4 else k) true }).raise Ev.EXM_ECC .pipeline p k
/-- Places of the exact-match tables are read: planted errors are found. -/
def State.readPlaces (s : State) (p : Nat) (ks : List Nat) : State :=
  ks.foldl (fun (t : State) k =>
    match t.readWord 1 p k 0 with
    | (u, 1) => u.bump .EXM_ECC_CORRECTED p
    | (u, 2) => u.emBad p k
    | _ => t) s
/-- The route nodes of a VRF are read: planted errors are found. -/
def State.readRoutes (s : State) (p vrf : Nat) : State :=
  match s.readWord 2 p vrf 0 with
  | (u, 1) => u.bump .LPM_ECC_CORRECTED p
  | (u, 2) => (u.setBlockFaulty p shRoute vrf true).raise Ev.LPM_ECC .pipeline p
  | _ => s

/-- Route units used: 1 for an IPv4 route, 4 for an IPv6 route (R214). -/
def routeUnits (v6 : Bool) : Nat := if v6 then 4 else 1

/-! ### Checks on result words (R195) -/

/-- Next hops, templates and groups the result regions hold (Table 7.7). -/
def State.nhCap (s : State) : Nat := 2048 * s.rd Fld.EXM_REGION_CFG_NH_UNITS
/-- See `State.nhCap`. -/
def State.tplCap (s : State) : Nat := 256 * s.rd Fld.EXM_REGION_CFG_TPL_UNITS
/-- See `State.nhCap`. -/
def State.lbCap (s : State) : Nat := 64 * s.rd Fld.EXM_REGION_CFG_LB_UNITS

/-- A result word keeps R195 and R351. -/
def State.resultOk (s : State) (w : BitVec 32) : Bool :=
  let k := ResWord.KIND.get w
  let t := ResWord.TARGET.get w
  decide (w.toNat < 2 ^ 25) &&
    (if k = 0 then t == 0 else if k = 1 then decide (t < 96) || t == 100 else if k = 2 then decide (t < s.nhCap) else true)

/-- An action word keeps R174. -/
def actionOk (a : BitVec 64) : Bool :=
  decide (a.toNat < 2 ^ 55) && decide (ActWord.VERDICT.get a ≤ 6) &&
    (ActWord.VERDICT.get a != 5 || decide (ActWord.DEST.get a < 96))

/-- What the parser of a pipeline reads from its registers for a packet of a port (Tables 5.10 to 5.12, R154). -/
def State.parseCfg (s : State) (p port : Nat) : ParseCfg :=
  let front := decide (port < 96)
  { vxlan := s.rd Fld.PRS_UDP_PORTS_VXLAN_PORT p, gtpu := s.rd Fld.PRS_UDP_PORTS_GTPU_PORT p,
    ecpri := s.rd Fld.PRS_TUN_CFG_ECPRI_PORT p, mplsPayload := s.rd Fld.PRS_TUN_CFG_MPLS_PAYLOAD p,
    exp := ((List.range 16).filter (fun k => s.on Fld.PRS_EXP_MATCH_EN p k)).map (fun k =>
      (s.rd Fld.PRS_EXP_MATCH_ETYPE p k, s.rd Fld.PRS_EXP_MATCH_VID p k, s.on Fld.PRS_EXP_MATCH_VID_ANY p k)),
    deepAct := if front then s.rdP Fld.PRS_PORT_ACT_DEEP_ACT port else 0,
    malAct := if front then s.rdP Fld.PRS_PORT_ACT_MAL_ACT port else 1 }

end Sys2Proof.Machine
end

