-- ==== Sys2Proof/Machine/LearnOps.lean ====
section
/-! DEFINITION. What several commands do with learned entries (spec 08): reports to the host, the queue's status, and
flushes. -/
namespace Sys2Proof.Machine

open Sys2Proof.Config

/-- The learn notification that describes an entry (Table 8.2). -/
def State.entryNote (s : State) (p : Nat) (e : BitVec 512) : BitVec 128 :=
  let c := emSection e
  setFields 0 [(LearnNote.KEY, emKeyOf (s.sectWide p c) e), (LearnNote.SECTION, c),
    (LearnNote.PORT, ResWord.TARGET.get (emResult (s.sectWide p c) e)), (LearnNote.TICK, s.rd Fld.LRN_TICK_TICK p)]

/-- Report a change in a learned section: ACTION 0 insert, 1 move, 2 freeze, 3 removal (R237, Table 21.7). -/
def State.lrnReport (s : State) (p c : Nat) (note : BitVec 128) (action : Nat) : State :=
  if s.on Fld.EXM_SECT_CFG_LEARNED_SECT p c && s.on Fld.LRN_SECT_CFG_HOST_NOTIFY p c then
    s.notify 1 (note.toNat + action * 2 ^ 128) false p
  else s

/-- Give the learn queue of a pipeline its contents, with LRN_QUEUE_STATUS (Table 8.9). -/
def State.setLearnQueue (s : State) (p : Nat) (q : List (BitVec 128 × Bool)) : State :=
  let t := s.setLrn p { s.lrn p with queue := q }
  (t.wr Fld.LRN_QUEUE_STATUS_DEPTH q.length p).wrB Fld.LRN_QUEUE_STATUS_FULL (q.length == 4096) p

/-- A notification of a packet with a good end status joins the learn queue (R228, R230). -/
def State.learnQueue (s : State) (pipe : Nat) (w : BitVec 128) : State :=
  let l := s.lrn pipe
  let same := fun (e : BitVec 128 × Bool) => LearnNote.SECTION.get e.1 == LearnNote.SECTION.get w
    && LearnNote.KEY.get e.1 == LearnNote.KEY.get w && LearnNote.PORT.get e.1 == LearnNote.PORT.get w
  if l.queue.any same then s.bump .LRN_MERGED pipe
  else if 4096 ≤ l.queue.length then (s.bump .LRN_QUEUE_DROP pipe).raiseMs Ev.LRN_QUEUE_FULL .pipeline pipe
  else
    let e := LearnNote.TICK.set w (s.rd Fld.LRN_TICK_TICK pipe)
    let t := s.setLrn pipe { l with queue := l.queue ++ [(e, false)] }
    (t.wr Fld.LRN_QUEUE_STATUS_DEPTH (l.queue.length + 1) pipe).wrB Fld.LRN_QUEUE_STATUS_FULL (l.queue.length + 1 == 4096) pipe

/-- Remove a learned entry and report it (R236, R240). -/
def State.unlearn (s : State) (p k : Nat) : State :=
  let e := (s.exm p).at k
  (s.emRemove p k).lrnReport p (emSection e) (s.entryNote p e) 3

/-- The scope of a flush (R235): a section, a port and a VID, or all of them. -/
def inScope (sect port vid : Option Nat) (c p v : Nat) : Bool :=
  sect.all (· == c) && port.all (· == p) && vid.all (· == v)

/-- An entry falls in the scope of a flush: learned, not static, and in its section, port and VID. -/
def State.flushes (s : State) (p : Nat) (f : Flush) (e : BitVec 512) : Bool :=
  let c := emSection e
  emLearned e && !emStatic e &&
    inScope f.sect f.port f.vid c (ResWord.TARGET.get (emResult (s.sectWide p c) e)) (emKeyOf (s.sectWide p c) e % 4096)

/-- The tag under which a flush waits at a table-SRAM gate: that of its command, or one no mailbox command has. -/
def Flush.gate (f : Flush) : Nat := f.tag.getD (2 ^ 33 + 16 + f.port.getD 96)

/-- Keep a flush as it stands now, while it has entries to remove. -/
def State.putFlush (s : State) (p : Nat) (f : Flush) : State :=
  let l := s.lrn p
  let others := l.flushes.filter (fun x => x.gate != f.gate)
  s.setLrn p { l with flushes := if f.todo.isEmpty then others else others ++ [f] }

/-- A flush starts (R235, R236): queued notifications of its scope will be discarded, and it has every entry of its scope to remove. -/
def State.startFlush (s : State) (p : Nat) (tag sect port vid : Option Nat) : State :=
  let l := s.lrn p
  let f : Flush := ⟨tag, sect, port, vid, []⟩
  let s1 := s.setLrn p { l with queue := l.queue.map (fun (e : BitVec 128 × Bool) =>
    if inScope sect port vid (LearnNote.SECTION.get e.1) (LearnNote.PORT.get e.1) (LearnNote.KEY.get e.1 % 4096) then (e.1, true) else e) }
  let mine := (s.exm p).slots.filter (fun e => s.flushes p f e.2)
  s1.putFlush p { f with todo := mine.map (fun e => (emSection e.2, emKeyOf (s.sectWide p (emSection e.2)) e.2)) }

/-- A flush removes its next entry, if that still is in its scope, once the learning inserts of the pipeline's tide have admitted the
delete (R211, R236). -/
def State.flushNext (s : State) (p : Nat) (f : Flush) : State :=
  match f.todo with
  | [] => s
  | (c, key) :: rest =>
    let on := fun (t : State) => t.putFlush p { f with todo := rest }
    match s.emHeldAt p c key with
    | none => on s
    | some k =>
      if !s.flushes p f ((s.exm p).at k) then on s
      else if (s.exm p).exmHeld then s
      else
        match s.charge (p + 1) actLearn 4 f.gate with
        | (t, false) => t
        | (t, true) =>
          let u := on (t.unlearn p k)
          match f.tag with
          | some g => u.setDone g (u.doneOf g + 1)
          | none => u

/-- A mailbox flush ends (R236). -/
def State.endFlush (s : State) (p tag : Nat) : State :=
  s.setLrn p { s.lrn p with flushes := (s.lrn p).flushes.filter (fun f => f.tag != some tag) }

/-- The flushes that pipelines have started by themselves go on (R235). -/
def State.ownFlushes (s : State) : State :=
  (List.range 4).foldl (fun (t : State) p =>
    match (t.lrn p).flushes.find? (fun f => f.tag.isNone) with
    | some f => t.flushNext p f
    | none => t) s

/-- A port has gone down: with FLUSH_ON_DOWN its learned entries are flushed (R235). -/
def State.flushPortDown (s : State) (port : Nat) : State :=
  if s.onP Fld.LRN_PORT_CFG_FLUSH_ON_DOWN port then s.startFlush (port / 24) none none (some port) none else s

end Sys2Proof.Machine
end

