-- ==== Sys2Proof/Machine/PtpState.lean ====
section
/-! DEFINITION. The states of the PTP ports and the best master selection (spec 17, R501, R505). -/
namespace Sys2Proof.Machine

open Sys2Proof.Config

/-- A PTP port beside its registers. -/
def State.ptpPort (s : State) (p : Nat) : PtpPort := Sparse.get s.ptp.ports p PtpPort.init
/-- Replace it. -/
def State.setPtpPort (s : State) (p : Nat) (x : PtpPort) : State :=
  { s with ptp := { s.ptp with ports := Sparse.put s.ptp.ports p x PtpPort.init } }
/-- The state of a port (Table 17.3). -/
def State.ptpState (s : State) (p : Nat) : Nat := s.rd Fld.PTP_PORT_STATUS_STATE 0 p
/-- The clock identity. -/
def State.clockId (s : State) : Nat := s.rd Fld.PTP_CLK_ID_HI_ID * 2 ^ 32 + s.rd Fld.PTP_CLK_ID_LO_ID
/-- An interval of 2^-code seconds. -/
def rateClk (code : Nat) : Nat := sClk / 2 ^ code
/-- The announce interval of a port. -/
def State.annClk (s : State) (p : Nat) : Nat := rateClk (s.rd Fld.PTP_PORT_CFG_ANN_RATE 0 p)
/-- The port in UNCALIBRATED or SLAVE, when there is one. -/
def State.ptpSlave (s : State) : Option Nat := (List.range 96).find? (fun p => s.ptpState p == 8 || s.ptpState p == 9)

/-- Enter a state: EVT 20.0, SLAVE_PORT, and the first messages of a MASTER and of a slave port (R501). -/
def State.enterPtp (s : State) (p st : Nat) : State :=
  if s.ptpState p = st then s
  else
    let x := s.ptpPort p
    let sync := s.now + rateClk (s.rd Fld.PTP_PORT_CFG_SYNC_RATE 0 p)
    let y := if st ≤ 3 then { PtpPort.init with seq := x.seq, since := s.now }
      else if st = 6 then { x with since := s.now, due := [(0, sync), (11, s.now)], owed := [] }
      else if st = 8 then { x with since := s.now, due := [(1, s.now)], delay := none, path := none, sample := none, openSync := [], openDelay := [] }
      else { x with since := s.now }
    let s1 := ((s.setPtpPort p y).wr Fld.PTP_PORT_STATUS_STATE st 0 p).wr Fld.PTP_PORT_STATUS_GRANTS y.grants.length 0 p
    (s1.wr Fld.PTP_STATUS_SLAVE_PORT (s1.ptpSlave.getD 127)).raise Ev.PTP_PORT_STATE .port p st

/-! ### Best master selection (R505) -/

/-- The order of comparison, with the local priority that goes with a dataset. -/
def PtpDs.rank (d : PtpDs) (localPrio : Nat) : List Nat := [d.gmClass, d.gmAcc, d.gmVar, d.prio2, localPrio, d.steps, d.sender]
/-- Comparison step by step, lower winning. -/
def rankLess : List Nat → List Nat → Bool
  | a :: l, b :: m => decide (a < b) || (a == b && rankLess l m)
  | _, _ => false
/-- A port takes part: it is LISTENING, MASTER, PASSIVE, UNCALIBRATED or SLAVE. -/
def State.ptpActive (s : State) (p : Nat) : Bool := decide (4 ≤ s.ptpState p)
/-- A foreign master takes part: its last two Announces lie within 4 announce intervals, and the last within the receipt
timeout. -/
def State.foreignOk (s : State) (p : Nat) (f : Foreign) : Bool :=
  match f.seen with
  | a :: b :: _ => decide (a ≤ b + 4 * s.annClk p ∧ s.now ≤ a + s.rd Fld.PTP_PORT_CFG_ANN_TIMEOUT 0 p * s.annClk p)
  | _ => false
/-- The rank of a dataset received on a port. -/
def State.rankAt (s : State) (p : Nat) (d : PtpDs) : List Nat := d.rank (s.rd Fld.PTP_PORT_CFG_LOCAL_PRIO 0 p)
/-- The best foreign dataset of a port. -/
def State.portBest (s : State) (p : Nat) : Option PtpDs :=
  if s.on Fld.PTP_PORT_CFG_MASTER_ONLY 0 p || s.rd Fld.PTP_CLK_CFG_TYPE == 1 then none
  else
    match ((s.ptpPort p).foreign.filter (s.foreignOk p)).map Foreign.ds with
    | [] => none
    | d :: l => some (l.foldl (fun m e => if rankLess (s.rankAt p e) (s.rankAt p m) then e else m) d)
/-- The rank of the clock's own dataset. -/
def State.ownRank (s : State) : List Nat := s.ptp.own.rank (s.rd Fld.PTP_CLK_CFG_LOCAL_PRIO)
/-- E_best: the best foreign dataset of all ports. -/
def State.eBest (s : State) : Option (Nat × PtpDs) :=
  match ((List.range 96).filter s.ptpActive).filterMap (fun p => (s.portBest p).map (fun d => (p, d))) with
  | [] => none
  | e :: l => some (l.foldl (fun (m e : Nat × PtpDs) => if rankLess (s.rankAt e.1 e.2) (s.rankAt m.1 m.2) then e else m) e)
/-- The state R505 gives a port, `slave` being the slave port. -/
def State.bmcaState (s : State) (slave : Option Nat) (p : Nat) : Nat :=
  if slave = some p then (if s.ptpState p = 9 then 9 else 8)
  else if s.rd Fld.PTP_CLK_CFG_TYPE = 3 then 4
  else
    match slave, s.portBest p with
    | some _, some d => if rankLess s.ownRank (s.rankAt p d) then 6 else 7
    | _, _ => 6
/-- The parent changes to another one, or to none. -/
def State.setParent (s : State) (d : Option (PtpDs × Nat)) : State :=
  let was := s.ptp.parent.map (fun e => e.1.sender)
  let s1 := { s with ptp := { s.ptp with parent := d } }
  let s2 := match d with
    | some (d, _) =>
      let t := ((s1.wr Fld.PTP_PARENT_LO_ID (d.sender / 65536 % 2 ^ 32)).wr Fld.PTP_PARENT_HI_ID (d.sender / 2 ^ 48)).wr Fld.PTP_GM_INFO_GM_CLASS d.gmClass
      ((t.wr Fld.PTP_GM_INFO_GM_ACCURACY d.gmAcc).wr Fld.PTP_GM_INFO_GM_VARIANCE d.gmVar).wr Fld.PTP_STATUS_PARENT_VALID 1
    | none => s1.wr Fld.PTP_STATUS_PARENT_VALID 0
  if was = d.map (fun e => e.1.sender) then s2 else (s2.bump .PTP_PARENT_CHANGES).raise Ev.PTP_PARENT_CHANGE
/-- Run the alternate BMCA. -/
def State.runBmca (s : State) : State :=
  let slave := match s.eBest with
    | some (p, d) => if rankLess s.ownRank (s.rankAt p d) then none else some (d, p)
    | none => none
  let ports := (List.range 96).filter s.ptpActive
  let states := ports.map (fun p => (p, s.bmcaState (slave.map Prod.snd) p))
  states.foldl (fun (t : State) (e : Nat × Nat) => t.enterPtp e.1 e.2) (s.setParent slave)

/-- A port follows PTP_CTRL.EN, its own EN and its link: DISABLED, or out of DISABLED to INITIALIZING (R501). -/
def State.ptpFollow (s : State) (p : Nat) : State :=
  let want := s.on Fld.PTP_CTRL_EN && s.on Fld.PTP_PORT_CFG_EN 0 p && s.rd Fld.PTP_CLK_CFG_TYPE != 0 && s.portUp p
  if !want then
    let t := s.enterPtp p 3
    if (s.ptp.parent.map Prod.snd) = some p then t.runBmca else t
  else if s.ptpState p = 3 then s.enterPtp p 1
  else s

end Sys2Proof.Machine
end

