-- ==== Sys2Proof/Machine/EditOps.lean ====
section
/-! DEFINITION. Mirror copies and the capture writer's buffer (spec 12, R365 to R370). -/
namespace Sys2Proof.Machine

open Sys2Proof.Config

/-- A copy for a capture ring joins the writer's buffer of its capture port, or is lost (R370). -/
def State.toCapture (s : State) (n port ring sess point : Nat) (grew : Int) (f : Packet → Packet) : State :=
  if s.on Fld.EDT_CAP_RING_CTRL_EN 0 ring && s.rd Fld.EDT_CAP_RING_CFG_COUNT_K 0 ring != 0 then
    let q := Sparse.get s.edt.capBuf (port - 102) []
    if q.length < 2048 then
      let m := s.nextPkt
      let t := s.copyPkt n (fun c => { f c with stage := .capture, cap := some ⟨ring, sess, point, grew⟩ })
      { t with edt := { t.edt with capBuf := Sparse.insert t.edt.capBuf (port - 102) (q ++ [m]) } }
    else
      let t := { s with edt := { s.edt with lost := Sparse.insert s.edt.lost ring (min 65535 (Sparse.get s.edt.lost ring 0 + 1)) } }
      (t.bump .CAP_LOST ring).raiseMs Ev.CAP_LOST
  else s

/-- Cut a copy to TRUNC bytes (Table 12.8: codes 1 to 4 give 64 to 256 bytes). -/
def truncCopy (code : Nat) (c : Packet) : Packet :=
  if code = 0 then c else { c with frame := c.frame.take (64 * code), grows := false }

/-- The copy a mirror session makes of a packet at a point (R365 to R367): every RATE-th packet that names the session.  `r`
is the parse of the copy's own headers, `grew` by how much the edits lengthened them. -/
def State.mirrorCopy (s : State) (n point : Nat) (r : BitVec 256) (grew : Int) : State :=
  let p := s.pkt n
  let ss := ActWord.MIRROR.get p.act
  if ss ≠ 0 ∧ s.on Fld.EDT_MIRROR_CFG_EN p.pipe ss ∧ s.rd Fld.EDT_MIRROR_CFG_POINT p.pipe ss = point then
    let k := p.pipe * 8 + ss
    let c := Sparse.get s.edt.mirrorCount k 0 + 1
    let s1 := { s with edt := { s.edt with mirrorCount := Sparse.insert s.edt.mirrorCount k c } }
    if c % s.rd Fld.EDT_MIRROR_RATE_RATE p.pipe ss = 0 then
      let s2 := s1.bump .MIR_COPIES k
      let dest := s.rd Fld.EDT_MIRROR_CFG_DEST p.pipe ss
      let trunc := truncCopy (s.rd Fld.EDT_MIRROR_CFG_TRUNC p.pipe ss)
      let base := fun (c : Packet) => trunc { c with frame := (if point = 0 then c.orig else c.frame), reason := 17, aux := 0 }
      let cls := s.rd Fld.EDT_MIRROR_CFG_CLASS p.pipe ss
      if dest = 102 ∨ dest = 103 then
        s2.toCapture n dest (s.rd Fld.EDT_MIRROR_CFG_RING p.pipe ss) ss point grew base
      else if s.on Fld.EDT_MIRROR_NH_NH_EN p.pipe ss then
        s2.copyPkt n (fun c =>
          let d := base c
          { d with orig := d.frame, parse := r, act := 0, cls := cls, dest := .nextHop (s.rd Fld.EDT_MIRROR_NH_NH p.pipe ss), stage := .edit })
      else
        s2.copyPkt n (fun c => { base c with act := 0, cls := cls, dest := .port dest, stage := .cells })
    else s1
  else s

end Sys2Proof.Machine
end

