-- ==== Sys2Proof/Machine/FlowOps.lean ====
section
/-! DEFINITION. The flow area, placement, the curd cache, parking chains and the mirroring of record changes (spec 09;
spec 11, R326; spec 22, R643, R646): what flow records, UE records and session heads share.  A head is a record of class 0
whose key and index are its session index. -/
namespace Sys2Proof.Machine

open Sys2Proof.Config

/-! ### Time and class settings -/

/-- An age in milliseconds, compared modulo 2^32. -/
def ageMs (now then_ : Nat) : Nat := (now + 2 ^ 32 - then_) % 2 ^ 32

/-- A class setting (instance 0). -/
def State.cls (s : State) (f : Fld) (c : Nat) : Nat := s.rd f 0 c
/-- A one-bit class setting. -/
def State.clsOn (s : State) (f : Fld) (c : Nat) : Bool := s.cls f c == 1
/-- ROLE of a class (Table 10.1). -/
def State.role (s : State) (c : Nat) : Nat := s.cls Fld.FLW_SVC_CFG_ROLE c
/-- An OUT role: NAT44_OUT or NAT64_OUT. -/
def isOut (role : Nat) : Bool := role == 2 || role == 4
/-- An IN role: NAT44_IN or NAT64_IN. -/
def isIn (role : Nat) : Bool := role == 3 || role == 5
/-- The counter item of a class in a pipeline. -/
def pcItem (pipe c : Nat) : Nat := pipe * 16 + c

/-- This device is the SECONDARY of a pair (R642). -/
def State.standby (s : State) : Bool := s.rd Fld.FLT_PAIR_STATUS_ROLE == 2

/-! ### Placement (R257, R326) -/

/-- H_F of a class and key, and the head hash of a session. -/
def State.recHash (s : State) (c key : Nat) : Nat :=
  let seed := s.rd Fld.FLW_HASH_CFG_SEED
  if c = 0 then seedHash poly32C 4 (key * 256) seed else hashF seed c key
/-- The group of a hash. -/
def hashGroup (h : Nat) : Nat := h / 2048
/-- The slice of a group. -/
def groupSlice (g : Nat) : Nat := g % 4
/-- The key of the cache set of a hash: slice * 6,144 + set. -/
def hashSet (h : Nat) : Nat := groupSlice (hashGroup h) * 6144 + rotl32 h 21 * 6144 / 2 ^ 32
/-- The placement seed of a group. -/
def State.seed (s : State) (g : Nat) : Nat := Sparse.get s.flw.seeds g 0
/-- The slot of a class and key under a seed. -/
def slotUnder (seed c key : Nat) : Nat := hashS seed c key * 32 / 2 ^ 32
/-- The index of a class and key: record index, or session index for a head. -/
def State.recIdx (s : State) (c key : Nat) : Nat :=
  if c = 0 then key
  else
    let g := hashGroup (s.recHash c key)
    32 * g + slotUnder (s.seed g) c key
/-- The slice of a class and key. -/
def State.recSlice (s : State) (c key : Nat) : Nat := groupSlice (hashGroup (s.recHash c key))
/-- The group of a class and key is locked (R259); heads have no group lock. -/
def State.isLocked (s : State) (c key : Nat) : Bool :=
  c != 0 && (Sparse.find s.flw.locked (hashGroup (s.recHash c key))).isSome

/-- Lock or unlock a group, with FLW_SLICE_STATUS.LOCKED. -/
def State.setLocked (s : State) (g : Nat) (v : Option Bool) : State :=
  let l := match v with | some b => Sparse.insert s.flw.locked g b | none => Sparse.erase s.flw.locked g
  let t := { s with flw := { s.flw with locked := l } }
  t.wr Fld.FLW_SLICE_STATUS_LOCKED ((l.filter (fun e => groupSlice e.1 == groupSlice g)).length) (groupSlice g)

/-! ### Ways (R260, R261) -/

/-- The ways in use of a set, least recently used first. -/
def State.ways (s : State) (k : Nat) : List Way := Sparse.get s.flw.sets k []
/-- A way holds a record: CLEAN or DIRTY. -/
def Way.live (w : Way) : Bool := w.state == .clean || w.state == .dirty
/-- Give a set its ways, with FLW_SLICE_STATUS.RESIDENT. -/
def State.setWays (s : State) (k : Nat) (ws : List Way) : State :=
  let cnt := fun (l : List Way) => (l.filter Way.live).length
  let sl := k / 6144
  let t := { s with flw := { s.flw with sets := Sparse.put s.flw.sets k ws [] } }
  if cnt ws = cnt (s.ways k) then t
  else t.wr Fld.FLW_SLICE_STATUS_RESIDENT (s.rd Fld.FLW_SLICE_STATUS_RESIDENT sl + cnt ws - cnt (s.ways k)) sl
/-- The set of a class and key. -/
def State.setOf (s : State) (c key : Nat) : Nat := hashSet (s.recHash c key)
/-- The way names a class and key. -/
def Way.is (w : Way) (c key : Nat) : Bool := w.cls == c && w.key == key
/-- The way of a class and key. -/
def State.way (s : State) (c key : Nat) : Option Way := (s.ways (s.setOf c key)).find? (fun w => w.is c key)
/-- The word of a cache line, for an injected error (R780): the record it holds. -/
def lineWord (w : Way) : Nat := (if w.cls = 0 then 2 ^ 32 else 0) + w.idx
/-- Replace a way, in its place in the order of use. -/
def State.putWay (s : State) (w : Way) : State :=
  let k := s.setOf w.cls w.key
  let t := s.setWays k ((s.ways k).map (fun v => if v.is w.cls w.key then w else v))
  if w.live then t.injectFire 3 (k / 6144) (lineWord w) else t
/-- A way is used: it becomes the most recently used. -/
def State.useWay (s : State) (w : Way) : State :=
  let k := s.setOf w.cls w.key
  s.setWays k ((s.ways k).filter (fun v => !v.is w.cls w.key) ++ [w])
/-- Invalidate a way. -/
def State.dropWay (s : State) (c key : Nat) : State :=
  let k := s.setOf c key
  s.setWays k ((s.ways k).filter (fun v => !v.is c key))
/-- Another record with the same index is resident in the set (R268). -/
def State.conflict (s : State) (c key : Nat) : Bool :=
  c != 0 && (s.ways (s.setOf c key)).any (fun w => w.cls != 0 && w.live && !w.is c key && w.idx == s.recIdx c key)

/-! ### Whey buffers (R270) -/

/-- The whey buffer of a slice. -/
def State.wheyOf (s : State) (sl : Nat) : List (Nat × Nat × Nat × BitVec 1024) := Sparse.get s.flw.whey sl []
/-- Give a slice its whey buffer, with FLW_SLICE_STATUS.WHEY_FILL. -/
def State.setWhey (s : State) (sl : Nat) (l : List (Nat × Nat × Nat × BitVec 1024)) : State :=
  ({ s with flw := { s.flw with whey := Sparse.put s.flw.whey sl l [] } }).wr Fld.FLW_SLICE_STATUS_WHEY_FILL l.length sl
/-- The whey entry of a class and key. -/
def State.wheyFind (s : State) (c key : Nat) : Option (Nat × Nat × Nat × BitVec 1024) :=
  (s.wheyOf (s.recSlice c key)).find? (fun e => e.1 == c && e.2.1 == key)

/-! ### Records in harbour memory (R254, R320) -/

/-- The session record of an index. -/
def State.session (s : State) (i : Nat) : BitVec 4096 := Sparse.get s.ups.recs i 0
/-- Replace a session record. -/
def State.setSession (s : State) (i : Nat) (r : BitVec 4096) : State :=
  { s with ups := { s.ups with recs := Sparse.put s.ups.recs i r 0 } }
/-- Block 0 of a session record, and a record with another block 0. -/
def sessHead (r : BitVec 4096) : BitVec 1024 := r.extractLsb' 0 1024
/-- See `sessHead`. -/
def setSessHead (r : BitVec 4096) (h : BitVec 1024) : BitVec 4096 := BitVec.ofNat 4096 (r.toNat / 2 ^ 1024 * 2 ^ 1024 + h.toNat)

/-- What harbour memory holds at an index: a slot of the flow area, or a head. -/
def State.stored (s : State) (c i : Nat) : BitVec 1024 :=
  if c = 0 then sessHead (s.session i) else Sparse.get s.flw.area i 0
/-- Write a slot of the flow area, or a head, to harbour memory. -/
def State.store (s : State) (c i : Nat) (r : BitVec 1024) : State :=
  if c = 0 then s.setSession i (setSessHead (s.session i) r)
  else { s with flw := { s.flw with area := Sparse.put s.flw.area i r 0 } }
/-- A record with its CRC as a write-back writes it (R254, R270). -/
def sealRec (r : BitVec 1024) : BitVec 1024 := FlowRec.CRC.set r (crc32c 124 (r.toNat % 2 ^ 992)).toNat

/-- A stored record is that of a class and key. -/
def recIs (r : BitVec 1024) (c key : Nat) : Bool :=
  FlowRec.VALID.on r && FlowRec.CLASS.get r == c && FlowRec.KEY.get r == key

/-- The way of a class and key that holds its record. -/
def State.liveWay (s : State) (c key : Nat) : Option Way := (s.way c key).filter Way.live

/-- The current contents of a record, wherever it lies: its way, a whey buffer, or harbour memory (while a fetch of it is in
flight, too). -/
def State.getRec (s : State) (c key : Nat) : Option (BitVec 1024) :=
  match s.liveWay c key with
  | some w => some w.rec_
  | none =>
    match s.wheyFind c key with
    | some e => some e.2.2.2
    | none =>
      let r := s.stored c (s.recIdx c key)
      if c = 0 || recIs r c key then some r else none

/-- Change a record where it lies; its way becomes DIRTY (R271). -/
def State.modRec (s : State) (c key : Nat) (f : BitVec 1024 → BitVec 1024) : State :=
  match s.liveWay c key with
  | some w =>
    s.putWay { w with rec_ := f w.rec_, state := .dirty, dirtyAt := if w.state == .dirty then w.dirtyAt else s.now }
  | none =>
    match s.wheyFind c key with
    | some _ =>
      let sl := s.recSlice c key
      s.setWhey sl ((s.wheyOf sl).map (fun e => if e.1 == c && e.2.1 == key then (e.1, e.2.1, e.2.2.1, f e.2.2.2) else e))
    | none =>
      let i := s.recIdx c key
      let r := s.stored c i
      if c = 0 || recIs r c key then s.store c i (sealRec (f r)) else s

/-- Count VALID records of a slice (FLW_SLICE_RECORDS). -/
def State.countRecord (s : State) (c key : Nat) (up : Bool) : State :=
  let sl := s.recSlice c key
  let v := s.rd Fld.FLW_SLICE_RECORDS_RECORDS sl
  s.wr Fld.FLW_SLICE_RECORDS_RECORDS (if up then v + 1 else v - 1) sl

/-- Clear a record everywhere: VALID is cleared in the cache and in harbour memory (R274, R276). -/
def State.clearRec (s : State) (c key : Nat) : State :=
  let i := s.recIdx c key
  let s1 := s.dropWay c key
  let sl := s.recSlice c key
  let s2 := if (s1.wheyFind c key).isSome then s1.setWhey sl ((s1.wheyOf sl).filter (fun e => !(e.1 == c && e.2.1 == key))) else s1
  if recIs (s2.stored c i) c key then s2.store c i (FlowRec.VALID.set (s2.stored c i) 0) else s2

/-! ### The pair mirror queue (R277, R345, R643, R646) -/

/-- A change to be mirrored is handed to the mirror queue when a PRIMARY has a twin. -/
def State.mirrorChange (s : State) (kind block index seed : Nat) (body : BitVec 1024) (refresh : Bool) : State :=
  if s.rd Fld.FLT_PAIR_STATUS_ROLE = 1 ∧ s.rd Fld.FLT_PAIR_STATUS_STATE ≠ 0 then
    let u : MirrorUpd := { mseq := 0, kind := kind, resync := false, block := block, index := index, seed := seed, fenceSeq := 0,
                           body := body, refresh := refresh }
    { s with flt := { s.flt with mirrorWait := s.flt.mirrorWait ++ [u] } }
  else s

/-- A committed change of a flow record of a mirrored class (R277). -/
def State.mirrorRec (s : State) (c key : Nat) (refresh : Bool) : State :=
  match s.getRec c key with
  | some r => if FlowRec.MIRRORED.on r then s.mirrorChange 0 0 (s.recIdx c key) 0 r refresh else s
  | none => s

/-- The twin has not accepted every change of a record that its parked packets wait for (R646). -/
def State.awaitsTwin (s : State) (i : Nat) : Bool :=
  s.rd Fld.FLT_PAIR_STATUS_STATE == 2 &&
    (s.flt.mirrorWait ++ s.flt.mirrorQ).any (fun u => u.kind == 0 && u.index == i && !u.refresh)

/-- A change of a record waits because the mirror queue is full: its way is held (R644). -/
def State.mirrorHeld (s : State) (i : Nat) : Bool :=
  decide (4096 ≤ s.flt.mirrorQ.length) && s.flt.mirrorWait.any (fun u => u.kind == 0 && u.index == i && !u.refresh)

/-! ### Chains (R262 to R265) -/

/-- A chain is that of a pipeline on a class and key. -/
def Chain.is (ch : Chain) (pipe c key : Nat) : Bool := ch.pipe == pipe && ch.cls == c && ch.key == key
/-- The chain of a pipeline on a class and key. -/
def State.chain (s : State) (pipe c key : Nat) : Option Chain := s.flw.chains.find? (fun ch => ch.is pipe c key)
/-- Replace a chain; an empty one ends. -/
def State.setChain (s : State) (x : Chain) : State :=
  let rest := fun (l : List Chain) => l.filter (fun ch => !ch.is x.pipe x.cls x.key)
  let l := if x.pkts.isEmpty then rest s.flw.chains
    else if s.flw.chains.any (fun ch => ch.is x.pipe x.cls x.key) then
      s.flw.chains.map (fun ch => if ch.is x.pipe x.cls x.key then x else ch)
    else s.flw.chains ++ [x]
  { s with flw := { s.flw with chains := l } }
/-- Some pipeline has a chain on a class and key. -/
def State.chained (s : State) (c key : Nat) : Bool := s.flw.chains.any (fun ch => ch.cls == c && ch.key == key)

/-- A way whose record was found absent ends with its last chain. -/
def State.endAbsent (s : State) (c key : Nat) : State :=
  match s.way c key with
  | some w => if w.state == .absent && !w.setup && !s.chained c key then s.dropWay c key else s
  | none => s

/-- The misses that wait for a way of the set of a class and key. -/
def State.stalledOn (s : State) (c key : Nat) : List (Nat × Bool) := Sparse.get s.flw.stalled (s.setOf c key) []
/-- A packet waits for a way of a set no longer. -/
def State.unstall (s : State) (n c key : Nat) : State :=
  { s with flw := { s.flw with stalled := Sparse.put s.flw.stalled (s.setOf c key) ((s.stalledOn c key).filter (fun e => e.1 != n)) [] } }
/-- A packet waits for a way of the set of its class and key, or for room in the whey buffer: each wait is counted once. -/
def State.stallOn (s : State) (n c key : Nat) (whey : Bool) : State :=
  let l := s.stalledOn c key
  if l.contains (n, whey) then s
  else
    let l' := if l.any (fun e => e.1 == n) then l.map (fun e => if e.1 = n then (n, whey) else e) else l ++ [(n, whey)]
    let t := { s with flw := { s.flw with stalled := Sparse.insert s.flw.stalled (s.setOf c key) l' } }
    let sl := s.setOf c key / 6144
    if whey then (t.bump .FLW_WHEY_STALL sl).raiseMs Ev.FLW_WHEY_STALL .device sl else t.bump .FLW_SET_STALL sl

/-- A packet leaves its chain and its parking slot. -/
def State.unpark (s : State) (n : Nat) : State :=
  let p := s.pkt n
  match p.park with
  | none => s
  | some a =>
    let s1 := (s.setPkt n { p with park := none }).wr Fld.FLW_PARK_STATUS_OCCUPANCY (s.rd Fld.FLW_PARK_STATUS_OCCUPANCY p.pipe - 1) p.pipe
    match s1.chain p.pipe a.cls a.key with
    | some ch =>
      let wasBefore := decide (ch.pkts.idxOf n < ch.before)
      let s2 := s1.setChain { ch with pkts := ch.pkts.filter (· != n), before := if wasBefore then ch.before - 1 else ch.before }
      (s2.unstall n a.cls a.key).endAbsent a.cls a.key
    | none => s1

/-- The slot occupancy at which a class is no longer admitted (R265). -/
def State.parkLimit (s : State) (pipe c : Nat) : Nat :=
  match (if c = 0 then s.rd Fld.UPS_CFG_PRIO else s.cls Fld.FLW_CLASS_ADM_PRIO c) with
  | 0 => s.rd Fld.FLW_PARK_CFG_LIMIT0 pipe * 16
  | 1 => s.rd Fld.FLW_PARK_CFG_LIMIT1 pipe * 16
  | 2 => s.rd Fld.FLW_PARK_CFG_LIMIT2 pipe * 16
  | _ => 4096

/-! ### Allocation and fetch (R261, R267, R270) -/

/-- A NEW record that packets use is not written to harbour memory before one of them has ended (R269; log entry 106). -/
def Way.uncommitted (w : Way) : Bool := w.cls != 0 && FlowRec.STATE.get w.rec_ == 0 && w.users != 0

/-- A way may be evicted (R261, R269). -/
def State.evictable (s : State) (w : Way) : Bool :=
  w.live && !s.chained w.cls w.key && !s.isLocked w.cls w.key && (w.cls == 0 || FlowRec.STATE.get w.rec_ != 3) && !w.uncommitted

/-- How a search for a way ends: it has one, or it waits for one, or for room in the whey buffer (R261, R270). -/
inductive WayEnd where
  | got | noWay | noWhey
  deriving DecidableEq, Repr

/-- Give a record a way of its set: a free one, or the least recently used that may be evicted; a DIRTY victim goes to the
whey buffer. -/
def State.allocWay (s : State) (w : Way) : State × WayEnd :=
  let k := s.setOf w.cls w.key
  let sl := k / 6144
  let ws := s.ways k
  if ws.length < 16 then (s.setWays k (ws ++ [w]), .got)
  else
    match ws.find? s.evictable with
    | none => (s, .noWay)
    | some v =>
      let rest := ws.filter (fun u => !u.is v.cls v.key)
      if v.state == .dirty then
        if 512 ≤ (s.wheyOf sl).length then (s, .noWhey)
        else ((s.setWhey sl (s.wheyOf sl ++ [(v.cls, v.key, v.idx, v.rec_)])).setWays k (rest ++ [w]), .got)
      else (s.setWays k (rest ++ [w]), .got)

/-- A packet's miss takes a way, or waits for one. -/
def State.takeWay (s : State) (n : Nat) (w : Way) : State × Bool :=
  match s.allocWay w with
  | (t, .got) => (t.unstall n w.cls w.key, true)
  | (t, .noWay) => (t.stallOn n w.cls w.key false, false)
  | (t, .noWhey) => (t.stallOn n w.cls w.key true, false)

/-- The harbour activity of a class: flow records, or sessions (R267, R327). -/
def recAct (c : Nat) : Nat := if c = 0 then actSession else actFlow
/-- The tag under which a record's own requests wait at the harbour gate. -/
def recTag (c i : Nat) : Nat := 2 ^ 40 + c * 2 ^ 32 + i

/-- Issue the fetch of a PENDING way, or let it wait for its tide. -/
def State.issueFetch (s : State) (w : Way) : State :=
  let tag := recTag w.cls w.idx
  let (t, ok) := s.charge 0 (recAct w.cls) 128 tag
  if ok then ((t.putWay { w with waits := none }).hbSend (recWho w.cls) 0 (if w.cls = 0 then 2 else 1) false (recAddr w.cls w.idx) 128).bump
      .FLW_FETCHES (t.setOf w.cls w.key / 6144)
  else t.putWay { w with waits := some tag }

/-- A miss: the record is taken back from the whey buffer, or a way becomes PENDING and its fetch is issued; a miss that
finds no way waits for one.  A locked group, or a resident record with the same index, issues no fetch. -/
def State.miss (s : State) (n c key : Nat) : State :=
  if s.isLocked c key || (s.way c key).isSome || s.conflict c key then s
  else
    let i := s.recIdx c key
    match s.wheyFind c key with
    | some e =>
      let sl := s.recSlice c key
      let (t, ok) := s.takeWay n ⟨c, key, i, .dirty, e.2.2.2, s.now, none, false, 0⟩
      if ok then (t.setWhey sl ((t.wheyOf sl).filter (fun x => !(x.1 == c && x.2.1 == key)))).bump .FLW_WHEY_HITS sl else t
    | none =>
      let w : Way := ⟨c, key, i, .pending, 0, 0, none, false, 0⟩
      let (t, ok) := s.takeWay n w
      if ok then t.issueFetch w else t

/-! ### Parking (R262, R265) -/

/-- A packet that looks for a record must park. -/
def State.mustPark (s : State) (pipe c key : Nat) : Bool :=
  (s.chain pipe c key).isSome || s.isLocked c key ||
    match s.way c key with
    | some w => !w.live || (c != 0 && (FlowRec.SVC_WAIT.on w.rec_ || FlowRec.STATE.get w.rec_ == 3 || s.mirrorHeld w.idx))
    | none => true

/-- Park a packet at the tail of its pipeline's chain, and issue the fetch its miss needs. -/
def State.parkIn (s : State) (n c key : Nat) (seek : Seek) : State :=
  let p := s.pkt n
  let occ := s.rd Fld.FLW_PARK_STATUS_OCCUPANCY p.pipe + 1
  let s1 := s.setPkt n { p with stage := .parked, park := some ⟨c, key, seek, s.now⟩ }
  let s2 := match s1.chain p.pipe c key with
    | some ch => s1.setChain { ch with pkts := ch.pkts ++ [n] }
    | none => s1.setChain ⟨p.pipe, c, key, [n], 0⟩
  let s3 := (s2.peak Fld.FLW_PARK_STATUS_PEAK occ p.pipe 0).wr Fld.FLW_PARK_STATUS_OCCUPANCY occ p.pipe
  (s3.bump .FLW_PARKED (pcItem p.pipe c)).miss n c key

end Sys2Proof.Machine
end

