-- ==== Sys2Proof/Machine/SvcOps.lean ====
section
/-! DEFINITION. What the flow commands share (spec 09, R259, R268, R269; spec 10): choosing a load-balance member, setting
records up, reseeding a group, NAT pools and keys, IPFIX data records, and removal. -/
namespace Sys2Proof.Machine

open Sys2Proof.Config

/-! ### Result regions -/

/-- An uncorrectable error in a result region: kinds 0 next hop, 1 template, 2 group, 3 edit profile (R371). -/
def State.resFaulty (s : State) (pipe kind i : Nat) : Bool := Sparse.get (s.exm pipe).faultyRes (kind * 65536 + i) false
/-- A next hop of a pipeline. -/
def State.nhAt (s : State) (pipe i : Nat) : BitVec 128 := Sparse.get (s.exm pipe).nhs i 0
/-- A load-balance group of a pipeline. -/
def State.lbGroup (s : State) (pipe g : Nat) : LbGroup := Sparse.get (s.exm pipe).groups g LbGroup.init
/-- A member slot of a group; an unlisted one is EMPTY. -/
def LbGroup.at (g : LbGroup) (k : Nat) : LbMember := Sparse.get g.members k ⟨0, 0, 0, 0⟩
/-- A packet that uses a faulty table entry is discarded (R371). -/
def State.faultDrop (s : State) (n : Nat) : State :=
  let p := s.pkt n
  ((s.discard n).bump .EDT_FAULT_DROP p.pipe).raiseMs Ev.EDT_TABLE_ECC .pipeline p.pipe

/-! ### Resilient load balancing (R292) -/

/-- H of a packet: of its record, or of its outer 5-tuple with class byte 0; none without an IP header. -/
def State.lbHash (s : State) (p : Packet) : Option Nat :=
  match p.flow with
  | some u => some u.hash
  | none =>
    let t := p.tuple 0 (s.vrfOf p)
    let seed := s.rd Fld.FLW_HASH_CFG_SEED
    if t.l3 = 9 then some (hashF seed 0 (t.key 0)) else if t.l3 = 10 then some (hashF seed 0 (t.key 1)) else none

/-- The record of a packet whose class has LB_EN. -/
def State.lbRecord (s : State) (p : Packet) : Option (BitVec 1024) :=
  match p.flow with
  | some u => if s.clsOn Fld.FLW_SVC_CFG_LB_EN u.cls then s.getRec u.cls u.key else none
  | none => none

/-- The pinned member slot of a record in a group, when it may still be used (R292 step 1). -/
def pinnedSlot (g : LbGroup) (gi : Nat) (r : BitVec 1024) : Option Nat :=
  let k := FlowRec.LB_MEMBER.get r
  let m := g.at k
  if FlowRec.LB_PINNED.on r ∧ FlowRec.LB_GROUP.get r = gi ∧ m.state ≠ 0 ∧ m.gen = FlowRec.LB_MGEN.get r then some k else none

/-- Resolve a destination that is a GROUP next hop (R292, R352); no when the packet has been discarded. -/
def State.resolve (s : State) (n : Nat) : State × Bool :=
  let p := s.pkt n
  match p.dest with
  | .nextHop i =>
    let h := s.nhAt p.pipe i
    if NextHop.TYPE.get h ≠ 2 ∨ s.resFaulty p.pipe 0 i then (s, true)
    else
      let gi := NextHop.LB_GROUP.get h
      if s.resFaulty p.pipe 2 gi then (s.faultDrop n, false)
      else
        let g := s.lbGroup p.pipe gi
        let r := s.lbRecord p
        match r.bind (pinnedSlot g gi) with
        | some k => (s.setPkt n { p with dest := .nextHop (g.at k).nh }, true)
        | none =>
          let b := match s.lbHash p with | some h => h * 256 / 2 ^ 32 | none => 0
          match Sparse.find g.buckets b with
          | some k =>
            let use := match r, p.flow with
              | some _, some u => some { u with pin := some (gi, k, (g.at k).gen) }
              | _, f => f
            (s.setPkt n { p with dest := .nextHop (g.at k).nh, flow := use }, true)
          | none => (((s.discard n).bump .LB_NO_MEMBER gi).raiseMs Ev.LB_GROUP_EMPTY .device gi, false)
  | _ => (s, true)

/-- A packet leaves the flow stage for the policer, its next hop resolved. -/
def State.toPolicer (s : State) (n : Nat) : State :=
  let (t, ok) := s.resolve n
  if ok then t.atPolicer n (t.pkt n) else t

/-! ### Records of a group, setups and reseeds (R259, R268) -/

/-- The records of a group with their class and key and the index they occupy: in the flow area, in the cache and in whey
buffers, each once. -/
def State.groupSlots (s : State) (g : Nat) : List ((Nat × Nat) × Nat) :=
  let area := (List.range 32).filterMap (fun j =>
    let r := Sparse.get s.flw.area (32 * g + j) 0
    if FlowRec.VALID.on r then some ((FlowRec.CLASS.get r, FlowRec.KEY.get r), 32 * g + j) else none)
  let cached := s.flw.sets.flatMap (fun e =>
    (e.2.filter (fun w => w.cls != 0 && w.live && w.idx / 32 == g)).map (fun w => ((w.cls, w.key), w.idx)))
  let whey := (s.wheyOf (groupSlice g)).filterMap (fun e =>
    if e.1 ≠ 0 ∧ e.2.2.1 / 32 = g then some ((e.1, e.2.1), e.2.2.1) else none)
  (area ++ cached ++ whey).eraseDups
/-- The records of a group with their class and key, each once. -/
def State.groupRecords (s : State) (g : Nat) : List (Nat × Nat) := ((s.groupSlots g).map (fun e => e.1)).eraseDups
/-- The search of R273: the lowest seed under which every record of a group lies where it lies (log entry 37). -/
def State.searchSeed (s : State) (g : Nat) : Option Nat :=
  (List.range 65536).find? (fun sd => (s.groupSlots g).all (fun e => 32 * g + slotUnder sd e.1.1 e.1.2 == e.2))
/-- Commit a seed: to the keepers' copy, then to the seed array (R258, R259). -/
def State.putSeed (s : State) (g seed : Nat) : State :=
  { s with flw := { s.flw with seedCopy := Sparse.put s.flw.seedCopy g seed 0, seeds := Sparse.put s.flw.seeds g seed 0 } }
/-- The seeds of a slice are loaded from the keepers' copy (R273, R280). -/
def State.loadSeeds (s : State) (sl : Nat) : State :=
  let mine := s.flw.seedCopy.filter (fun (e : Nat × Nat) => groupSlice e.1 == sl)
  let others := s.flw.seeds.filter (fun (e : Nat × Nat) => groupSlice e.1 != sl)
  { s with flw := { s.flw with seeds := mine.foldl (fun a e => Sparse.put a e.1 e.2 0) others } }

/-- The slot of an index is empty: no record of its group lies in it. -/
def State.slotEmpty (s : State) (i : Nat) : Bool :=
  (s.groupRecords (i / 32)).all (fun e => s.recIdx e.1 e.2 != i)

/-- A new record as step 2 of R268 and R288 write it; `state` is 0 NEW for a packet's setup, 1 ACTIVE for a keeper's. -/
def State.freshRec (s : State) (c key port : Nat) (initSide : Bool) (tcp state : Nat) : BitVec 1024 :=
  let i := s.recIdx c key
  let gen := Sparse.get s.flw.gens i (FlowRec.GEN.get (s.stored c i))
  setFields 0 [(FlowRec.VALID, 1), (FlowRec.CLASS, c), (FlowRec.STATE, state),
    (FlowRec.MIRRORED, s.cls Fld.FLW_CLASS_CFG_MIRROR c), (FlowRec.SVC_WAIT, (isOut (s.role c)).toNat),
    (FlowRec.FIRST_PORT, port), (FlowRec.GEN, gen + 1), (FlowRec.FIRST_SEEN, s.todSec % 2 ^ 32),
    (FlowRec.LAST_SEEN, s.todMs), (FlowRec.KEY, key), (FlowRec.KEY_HASH, s.recHash c key),
    (FlowRec.INIT_SIDE, initSide.toNat), (FlowRec.TCP_STATE, tcp), (FlowRec.EXP_TIME, s.todSec * 1000 % 2 ^ 32)]

/-- Write a new record to its way (R268 step 2); no when the set has no way for it.  A NEW record is not mirrored (R269) but
in PROTECTED, where the packets that wait for it need the twin's acceptance (R646; log entry 107). -/
def State.install (s : State) (c key : Nat) (r : BitVec 1024) : State × Bool :=
  let i := s.recIdx c key
  let w : Way := ⟨c, key, i, .dirty, r, s.now, none, false, 0⟩
  let (t, e) := match s.way c key with
    | some _ => (s.putWay w, WayEnd.got)
    | none => s.allocWay w
  if e = .got then
    let u := { t with flw := { t.flw with gens := Sparse.insert t.flw.gens i (FlowRec.GEN.get r) } }
    let v := (u.countRecord c key true).bump .FLW_SETUPS c
    (if FlowRec.STATE.get r = 0 ∧ s.rd Fld.FLT_PAIR_STATUS_STATE ≠ 2 then v else v.mirrorRec c key false, true)
  else (t, false)

/-- The first seed after a group's seed that places every record of the group and one more key in distinct slots (R259
step 2). -/
def State.findSeed (s : State) (g c key : Nat) : Option Nat :=
  let keys := s.groupRecords g ++ [(c, key)]
  let old := s.seed g
  ((List.range 65536).find? (fun d =>
    let slots := keys.map (fun e => slotUnder ((old + 1 + d) % 65536) e.1 e.2)
    slots.eraseDups.length == keys.length)).map (fun d => (old + 1 + d) % 65536)

/-- Move the records of a group under a new seed (R259 steps 3 and 4): each record is written to its new slot with its
current contents, freed slots are cleared, resident records take their new index, and the seed commits.  A record that no
good end status has committed yet is not written to harbour memory (R269). -/
def State.moveGroup (s : State) (g seed : Nat) : State :=
  let slotOf := fun (e : Nat × Nat) => 32 * g + slotUnder seed e.1 e.2
  let written := fun (e : Nat × Nat) => !((s.way e.1 e.2).any Way.uncommitted)
  let news := (s.groupRecords g).filterMap (fun e =>
    match s.getRec e.1 e.2 with
    | some r => if written e then some (slotOf e, r) else none
    | none => none)
  let area0 := (List.range 32).foldl (fun a j =>
    let i := 32 * g + j
    Sparse.put a i (FlowRec.VALID.set (Sparse.get a i 0) 0) 0) s.flw.area
  let area := news.foldl (fun a e => Sparse.put a e.1 (sealRec e.2) 0) area0
  let sets := s.flw.sets.map (fun e => (e.1, e.2.map (fun w => if w.cls != 0 && w.idx / 32 == g then { w with idx := slotOf (w.cls, w.key) } else w)))
  let sl := groupSlice g
  let whey := Sparse.put s.flw.whey sl ((s.wheyOf sl).map (fun e => if e.1 != 0 && e.2.2.1 / 32 == g then (e.1, e.2.1, slotOf (e.1, e.2.1), e.2.2.2) else e)) []
  let t := { s with flw := { s.flw with area := area, sets := sets, whey := whey } }
  ((t.putSeed g seed).bump .FLW_RESEEDS sl).mirrorChange 2 0 g seed 0 false

/-- What a reseed of a group for one more key does: it waits for its tide, fails, or is done (R259). -/
inductive ReseedEnd where
  | waits | failed | done
  deriving DecidableEq, Repr

/-- Reseed a group for one more key: 256 bytes of the keeper share for each record of the group. -/
def State.reseed (s : State) (g c key : Nat) : State × ReseedEnd :=
  let (t, ok) := s.charge 0 actKeeper (256 * (s.groupRecords g).length) (2 ^ 42 + g)
  if !ok then (t, .waits)
  else match t.findSeed g c key with
    | some sd =>
      let u := (s.groupRecords g).foldl (fun (u : State) (e : Nat × Nat) => u.hbSend .keeper 2 2 true (recAddr e.1 (s.recIdx e.1 e.2)) 128) t
      (u.moveGroup g sd, .done)
    | none => ((t.bump .FLW_GROUP_FULL c).raiseMs Ev.FLW_GROUP_FULL, .failed)

/-- How a keeper's own setup ends. -/
inductive SetupEnd where
  | waits | refused | done
  deriving DecidableEq, Repr

/-- A record that a keeper sets up (R268, R298, R343): a group that must be reseeded is reseeded at once.  The record is
ACTIVE, since no packet used it (log entry 40). -/
def State.keeperSetup (s : State) (c key : Nat) : State × SetupEnd :=
  let put := fun (t : State) =>
    let (u, ok) := t.install c key (FlowRec.SVC_WAIT.set (t.freshRec c key 0 false 0 1) 0)
    (u, if ok then SetupEnd.done else .waits)
  if s.isLocked c key then (s, .waits)
  else if s.slotEmpty (s.recIdx c key) then put s
  else
    match s.reseed (hashGroup (s.recHash c key)) c key with
    | (t, .done) => put t
    | (t, .failed) => (t, .refused)
    | (t, .waits) => (t, .waits)

/-! ### A packet whose setup or record is refused -/

/-- A packet whose setup is refused takes SETUP_ACT (R268, Table 9.3). -/
def State.setupRefused (s : State) (n c : Nat) : State :=
  let p := s.pkt n
  let t := s.unpark n
  match s.cls Fld.FLW_CLASS_ADM_SETUP_ACT c with
  | 0 => (t.discard n).bump .FLW_SETUP_DROP c
  | 1 => (t.bump .FLW_STATELESS (pcItem p.pipe c)).toPolicer n
  | _ => t.toHost n 7 0 .PRS_HOST_UNAVAIL

/-- A NEW record that no packet has committed is removed (R269, R308): nothing of it remains. -/
def State.dropNew (s : State) (c key : Nat) : State := (s.clearRec c key).countRecord c key false

/-! ### NAT pools and keys (R295, R297, R298) -/

/-- Ports in a block, and blocks of an address. -/
def State.poolS (s : State) (k : Nat) : Nat := 64 * 2 ^ s.rd Fld.FLW_NAT_POOL_CFG_BLOCK 0 k
/-- See `State.poolS`. -/
def State.poolK (s : State) (k : Nat) : Nat := 64512 / s.poolS k
/-- The address and the first port of a block. -/
def State.blockAt (s : State) (k b : Nat) : Nat × Nat :=
  (s.rd Fld.FLW_NAT_POOL_ADDR_BASE 0 k + b / s.poolK k, 1024 + b % s.poolK k * s.poolS k)
/-- The free blocks of a pool, head first. -/
def State.poolFreeList (s : State) (k : Nat) : List Nat :=
  match Sparse.find s.flw.freeBlocks k with
  | some l => l
  | none => List.range (s.rd Fld.FLW_NAT_POOL_CFG_ADDR_COUNT 0 k * s.poolK k)
/-- Give a pool its free blocks. -/
def State.setPoolFreeList (s : State) (k : Nat) (l : List Nat) : State :=
  { s with flw := { s.flw with freeBlocks := Sparse.insert s.flw.freeBlocks k l } }
/-- A port of a block is in use. -/
def State.portUsed (s : State) (k b off : Nat) : Bool := Nat.testBit (Sparse.get s.flw.portMap (k * 65536 + b) 0) off
/-- Mark a port of a block used or free. -/
def State.markPort (s : State) (k b off : Nat) (used : Bool) : State :=
  let m := Sparse.get s.flw.portMap (k * 65536 + b) 0
  let m' := if Nat.testBit m off = used then m else if used then m + 2 ^ off else m - 2 ^ off
  { s with flw := { s.flw with portMap := Sparse.put s.flw.portMap (k * 65536 + b) m' 0 } }

/-- The inside tuple of an OUT key (Table 9.2): VRF, source address, protocol, source port. -/
def outParts (v6 : Bool) (key : Nat) : Nat × Nat × Nat × Nat :=
  if v6 then (key % 256, key / 2 ^ 8 % 2 ^ 128, key / 2 ^ 264 % 256, key / 2 ^ 272 % 65536)
  else (key % 256, key / 2 ^ 8 % 2 ^ 32, key / 2 ^ 72 % 256, key / 2 ^ 80 % 65536)
/-- The key of the IN record of an OUT record (R298 step 5). -/
def State.inKey (s : State) (c key addr port : Nat) : Nat :=
  let (_, _, proto, _) := outParts (s.role c == 4) key
  let pr := if s.role c = 4 ∧ proto = 58 then 1 else proto
  s.rd Fld.FLW_NAT_POOL_CFG_VRF 0 (s.cls Fld.FLW_SVC_CFG_POOL c) + addr * 2 ^ 40 + pr * 2 ^ 72 + port * 2 ^ 96
/-- The class and key of the IN record of an OUT record that holds a binding. -/
def State.inOf (s : State) (c key : Nat) (r : BitVec 1024) : Nat × Nat :=
  (s.cls Fld.FLW_SVC_CFG_LINK_CLASS c, s.inKey c key (FlowRec.NAT_ADDR.get r) (FlowRec.NAT_PORT.get r))
/-- The class and key of the subscriber record of an OUT key. -/
def State.subOf (s : State) (c key : Nat) : Nat × Nat :=
  let sc := s.cls Fld.FLW_SVC_CFG_SUB_CLASS c
  let (vrf, addr, _, _) := outParts (s.role c == 4) key
  (sc, if s.cls Fld.FLW_CLASS_CFG_KEY_FMT sc = 2 then vrf + addr % 2 ^ 32 * 2 ^ 8 else vrf + addr / 2 ^ 64 * 2 ^ 8)

/-- Report a block taken or returned on the notification ring (R298, R305, Table 21.7). -/
def State.natNotify (s : State) (k block subKey action : Nat) : State :=
  s.notify 2 (k + block * 2 ^ 8 + subKey % 256 * 2 ^ 24 + subKey / 2 ^ 8 % 2 ^ 128 * 2 ^ 32 + action * 2 ^ 160) false k

/-! ### IPFIX (R310 to R313) -/

/-- The fields of a key that a data record carries: VRF, addresses, ports and protocol. -/
def keyParts (fmt key : Nat) : FlowTuple :=
  if fmt = 0 then ⟨9, key % 256, key / 2 ^ 8 % 2 ^ 32, key / 2 ^ 40 % 2 ^ 32, key / 2 ^ 72 % 256, key / 2 ^ 80 % 65536, key / 2 ^ 96 % 65536⟩
  else if fmt = 1 then
    ⟨10, key % 256, key / 2 ^ 8 % 2 ^ 128, key / 2 ^ 136 % 2 ^ 128, key / 2 ^ 264 % 256, key / 2 ^ 272 % 65536, key / 2 ^ 288 % 65536⟩
  else if fmt = 2 then ⟨9, key % 256, key / 2 ^ 8 % 2 ^ 32, 0, 0, 0, 0⟩
  else ⟨10, key % 256, key / 2 ^ 8 % 2 ^ 64 * 2 ^ 64, 0, 0, 0, 0⟩

/-- The template of a class (Table 10.6). -/
def State.ipfixTemplate (s : State) (c : Nat) : Nat :=
  let r := s.role c
  if r = 2 then 258 else if r = 4 then 259 else if s.cls Fld.FLW_CLASS_CFG_KEY_FMT c % 2 = 0 then 256 else 257

/-- Time of day in milliseconds. -/
def State.msNow (s : State) : Nat := s.todSec * 1000 + s.todNsec / 1000000

/-- The bytes of a data record (Table 10.6). -/
def State.ipfixData (s : State) (c : Nat) (r : BitVec 1024) (endReason : Nat) : List Byte :=
  let t := keyParts (s.cls Fld.FLW_CLASS_CFG_KEY_FMT c) (FlowRec.KEY.get r)
  let ab := if t.l3 = 9 then 4 else 16
  let start := (s.todSec - (s.todSec + 2 ^ 32 - FlowRec.FIRST_SEEN.get r) % 2 ^ 32) * 1000
  let end_ := s.msNow - ageMs s.todMs (FlowRec.LAST_SEEN.get r)
  bytesBE ab t.sip ++ bytesBE ab t.dip ++ bytesBE 2 t.src ++ bytesBE 2 t.dst ++ bytesBE 1 t.proto
    ++ bytesBE 2 (FlowRec.TCP_FLAGS_OR.get r) ++ bytesBE 4 (FlowRec.FIRST_PORT.get r) ++ bytesBE 4 (FlowRec.EGRESS_PORT.get r)
    ++ bytesBE 8 (FlowRec.PKTS.get r - FlowRec.EXP_PKTS.get r) ++ bytesBE 8 (FlowRec.OCTETS.get r - FlowRec.EXP_OCTETS.get r)
    ++ bytesBE 8 start ++ bytesBE 8 end_ ++ bytesBE 1 endReason ++ bytesBE 4 t.vrf
    ++ (if s.role c = 2 then bytesBE 4 (FlowRec.NAT_ADDR.get r) ++ bytesBE 2 (FlowRec.NAT_PORT.get r)
        else if s.role c = 4 then bytesBE 4 (FlowRec.NAT_ADDR.get r) ++ bytesBE 4 0 ++ bytesBE 2 (FlowRec.NAT_PORT.get r) else [])

/-- Records of a class are exported (R310, R316). -/
def State.ipfixOn (s : State) (c : Nat) : Bool :=
  s.on Fld.FLW_IPFIX_CFG_EN && s.clsOn Fld.FLW_SVC_CFG_EXPORT c && !isIn (s.role c) && s.role c != 6
    && !(s.standby && s.clsOn Fld.FLW_CLASS_CFG_MIRROR c)

/-- Set FLW_IPFIX_STATUS. -/
def State.ipfixFill (s : State) : State := s.wr Fld.FLW_IPFIX_STATUS_QUEUE_FILL s.flw.ipfix.length

/-- Queue a data record for each collector in use of a class (R310, R311); no when one of them was dropped. -/
def State.ipfixQueue (s : State) (c : Nat) (r : BitVec 1024) (endReason : Nat) : State × Bool :=
  let colls := (List.range 4).filter (fun k => Nat.testBit (s.cls Fld.FLW_SVC_CFG_COLLECTORS c) k && s.on Fld.FLW_IPFIX_COLL_EN 0 k)
  let bytes := s.ipfixData c r endReason
  let (t, ok) := colls.foldl (fun (x : State × Bool) k =>
    if x.1.flw.ipfix.length < 65536 then
      ({ x.1 with flw := { x.1.flw with ipfix := x.1.flw.ipfix ++ [⟨k, s.ipfixTemplate c, bytes⟩] } }, x.2)
    else ((x.1.bump .IPFIX_DROP k).raiseMs Ev.IPFIX_DROP .device k, false)) (s, true)
  (t.ipfixFill, ok)

/-- What a record holds once it has been exported. -/
def exportedRec (r : BitVec 1024) (ms : Nat) : BitVec 1024 :=
  setFields r [(FlowRec.EXP_PKTS, FlowRec.PKTS.get r), (FlowRec.EXP_OCTETS, FlowRec.OCTETS.get r), (FlowRec.EXP_TIME, ms), (FlowRec.EXPORTED, 1)]

/-! ### Removal (R276, R305, R314) -/

/-- Set a record HELD: packets already parked on it keep their place before the removal. -/
def State.hold (s : State) (c key : Nat) : State :=
  let t := s.modRec c key (fun r => FlowRec.STATE.set r 3)
  { t with flw := { t.flw with chains := t.flw.chains.map (fun ch => if ch.cls = c ∧ ch.key = key then { ch with before := ch.pkts.length } else ch) } }

/-- Start the removal of a record; that of an OUT record takes its IN record first (R305). -/
def State.startRemoval (s : State) (c key reason : Nat) (tag : Option Nat) : State :=
  let own : Removal := ⟨c, key, reason, tag⟩
  let t := s.hold c key
  match s.getRec c key with
  | some r =>
    if isOut (s.role c) && FlowRec.LINK_VALID.on r then
      let i := s.inOf c key r
      let u := t.hold i.1 i.2
      { u with flw := { u.flw with removals := u.flw.removals ++ [⟨i.1, i.2, 4, none⟩, own] } }
    else { t with flw := { t.flw with removals := t.flw.removals ++ [own] } }
  | none => s

/-- A removal may commit: no chain was formed before the record became HELD, and the IN record of an OUT record is gone. -/
def State.removalReady (s : State) (x : Removal) : Bool :=
  s.flw.chains.all (fun ch => !(ch.cls == x.cls && ch.key == x.key) || ch.before == 0) &&
    match s.getRec x.cls x.key with
    | some r => !isOut (s.role x.cls) || !FlowRec.LINK_VALID.on r ||
        (s.flw.removals.all (fun y => !(y.cls == (s.inOf x.cls x.key r).1 && y.key == (s.inOf x.cls x.key r).2)))
    | none => true

/-- The pool of a subscriber class: that of the first OUT class that names it. -/
def State.subPool (s : State) (c : Nat) : Nat :=
  match (List.range 16).find? (fun o => isOut (s.role o) && s.cls Fld.FLW_SVC_CFG_SUB_CLASS o == c) with
  | some o => s.cls Fld.FLW_SVC_CFG_POOL o
  | none => s.cls Fld.FLW_SVC_CFG_POOL c

/-- What the removal of a subscriber or OUT record returns to its pool (R305). -/
def State.natRelease (s : State) (c key : Nat) (r : BitVec 1024) : State :=
  if isOut (s.role c) && FlowRec.LINK_VALID.on r then
    let k := s.cls Fld.FLW_SVC_CFG_POOL c
    let b := FlowRec.NAT_BLOCK.get r
    let t := (s.markPort k b (FlowRec.NAT_PORT.get r - (s.blockAt k b).2) false).bump .NAT_BINDINGS_ENDED k
    let u := s.subOf c key
    (t.modRec u.1 u.2 (fun q => SubRec.BINDINGS.set q (SubRec.BINDINGS.get q - 1))).mirrorRec u.1 u.2 false
  else if s.role c = 6 then
    let k := s.subPool c
    let blocks := (List.range (SubRec.BLOCKS.get r)).map (fun i => (SubRec.BLOCK i).get r)
    blocks.foldl (fun t b => (t.setPoolFreeList k (t.poolFreeList k ++ [b])).natNotify k b key 1) s
  else s

/-- The key under which the side of a flow's first FIN is kept. -/
def finKey (c key : Nat) : Nat := c + 16 * key

/-- The end of a record as the host is told of it (R314, Table 21.7). -/
def State.notifyEnd (s : State) (c key : Nat) (r : BitVec 1024) (reason : Nat) : State :=
  if s.clsOn Fld.FLW_SVC_CFG_NOTIFY_END c && !(s.standby && FlowRec.MIRRORED.on r) then
    s.notify 3 (c + s.recIdx c key * 2 ^ 8 + FlowRec.KEY_HASH.get r * 2 ^ 40 + reason * 2 ^ 72
      + FlowRec.PKTS.get r * 2 ^ 80 + FlowRec.OCTETS.get r * 2 ^ 120) false
  else s
/-- The record of a flow that has been lost, as it is reported: no counts survive (Table 10.7). -/
def lostRec (r : BitVec 1024) : BitVec 1024 := FlowRec.OCTETS.set (FlowRec.PKTS.set r 0) 0
/-- Commit a removal (R276, R314): the end is reported and exported, and the record is cleared everywhere. -/
def State.commitRemoval (s : State) (x : Removal) : State :=
  let s0 := { s with flw := { s.flw with removals := s.flw.removals.filter (fun y => !(y.cls == x.cls && y.key == x.key)) } }
  let done := fun (t : State) => match x.tag with | some g => t.reply g .ok 0 0 0 true | none => t
  match s0.getRec x.cls x.key with
  | none => done s0
  | some r0 =>
    let r := FlowRec.END_REASON.set r0 x.reason
    let s1 := if x.reason = 1 ∨ x.reason = 2 then s0.bump .FLW_EXPIRED x.cls
      else if x.reason = 3 then s0.bump .FLW_DELETED x.cls else s0
    let s2 := if x.reason ≤ 3 ∧ s1.ipfixOn x.cls = true then (s1.ipfixQueue x.cls r (if x.reason = 1 then 1 else if x.reason = 2 then 3 else 4)).1 else s1
    let s3 := s2.notifyEnd x.cls x.key r x.reason
    let gone := FlowRec.VALID.set r 0
    let s4 := if FlowRec.MIRRORED.on r then s3.mirrorChange 0 0 (s3.recIdx x.cls x.key) 0 gone false else s3
    let s5 := { s4 with flw := { s4.flw with finSide := Sparse.erase s4.flw.finSide (finKey x.cls x.key) } }
    done ((s5.dropNew x.cls x.key).natRelease x.cls x.key r)

end Sys2Proof.Machine
end

