-- ==== Sys2Proof/Machine/SessOps.lean ====
section
/-! DEFINITION. Session records (spec 11): reading and writing blocks, settling usage, reports, and removing a session. -/
namespace Sys2Proof.Machine

open Sys2Proof.Config

/-! ### Entries of a head (Table 11.2) -/

def Pdr.EN : BitFld := ⟨0, 1⟩
def Pdr.DIR : BitFld := ⟨1, 1⟩
def Pdr.QFI_EN : BitFld := ⟨2, 1⟩
def Pdr.QFI : BitFld := ⟨3, 6⟩
def Pdr.PROTO_EN : BitFld := ⟨9, 1⟩
def Pdr.PROTO : BitFld := ⟨10, 8⟩
def Pdr.PORT_EN : BitFld := ⟨18, 1⟩
def Pdr.PORT_LO : BitFld := ⟨19, 16⟩
def Pdr.PORT_HI : BitFld := ⟨35, 16⟩
def Pdr.FAR : BitFld := ⟨51, 2⟩
def Pdr.QER_EN : BitFld := ⟨53, 1⟩
def Pdr.URRS : BitFld := ⟨54, 4⟩
def Pdr.RESERVED : BitFld := ⟨58, 6⟩
def Far.ACTION : BitFld := ⟨0, 2⟩
def Far.NOCP : BitFld := ⟨2, 1⟩
def Far.ENCAP : BitFld := ⟨3, 1⟩
def Far.ROUTE : BitFld := ⟨4, 1⟩
def Far.NH : BitFld := ⟨5, 16⟩
def Far.QFI : BitFld := ⟨21, 6⟩
def Far.RESERVED : BitFld := ⟨27, 5⟩
def Far.PEER_TEID : BitFld := ⟨32, 32⟩
def Qer.GATE : BitFld := ⟨0, 1⟩
def Qer.MBR_EN : BitFld := ⟨1, 1⟩
def Qer.MBR_M : BitFld := ⟨2, 8⟩
def Qer.MBR_E : BitFld := ⟨10, 4⟩
def Qer.BURST_KIB : BitFld := ⟨14, 8⟩
def Qer.TOKENS : BitFld := ⟨22, 18⟩
def Qer.STAMP : BitFld := ⟨40, 24⟩
def Urr.LEFT : BitFld := ⟨0, 40⟩
def Urr.EN : BitFld := ⟨40, 1⟩
def Urr.TRIG : BitFld := ⟨41, 1⟩
def Urr.QUOTA_END : BitFld := ⟨42, 1⟩
def Urr.QUOTA_HIT : BitFld := ⟨43, 1⟩
def Urr.OVER : BitFld := ⟨44, 20⟩

/-- PDR `i` of a head. -/
def pdrOf {n : Nat} (h : BitVec n) (i : Nat) : BitVec 64 := BitVec.ofNat 64 ((Sess.PDR i).get h)
/-- FAR `i` of a head. -/
def farOf {n : Nat} (h : BitVec n) (i : Nat) : BitVec 64 := BitVec.ofNat 64 ((Sess.FAR i).get h)
/-- URR `i` of a head. -/
def urrOf {n : Nat} (h : BitVec n) (i : Nat) : BitVec 64 := BitVec.ofNat 64 ((Sess.URR i).get h)
/-- The QER of a direction: 0 uplink, 1 downlink. -/
def qerFld (dir : Nat) : BitFld := if dir = 0 then Sess.QER0 else Sess.QER1
/-- See `qerFld`. -/
def qerOf {n : Nat} (h : BitVec n) (dir : Nat) : BitVec 64 := BitVec.ofNat 64 ((qerFld dir).get h)
/-- LAST_UL_MS or LAST_DL_MS. -/
def lastFld (dir : Nat) : BitFld := if dir = 0 then Sess.LAST_UL_MS else Sess.LAST_DL_MS

/-! ### Records -/

/-- The head of a session as it stands, resident or in harbour memory. -/
def State.head (s : State) (i : Nat) : BitVec 1024 := (s.getRec 0 i).getD (sessHead (s.session i))
/-- A session with its head as it stands. -/
def State.sess (s : State) (i : Nat) : BitVec 4096 := setSessHead (s.session i) (s.head i)
/-- Change a head where it lies. -/
def State.modHead (s : State) (i : Nat) (f : BitVec 1024 → BitVec 1024) : State := s.modRec 0 i f
/-- The CRC of each block as a write to harbour memory leaves it (R320). -/
def sealBlock (r : BitVec 4096) (b : Nat) : BitVec 4096 :=
  let f : BitFld := ⟨1024 * b + 992, 32⟩
  f.set r (crc32c 124 (r.toNat / 2 ^ (1024 * b) % 2 ^ 992)).toNat
/-- Write a session: blocks 1 to 3 to harbour memory, the head where it lies; each written block is mirrored when sessions
are (R345). -/
def State.putSess (s : State) (i : Nat) (r : BitVec 4096) : State :=
  let was := s.sess i
  let full := sealBlock (sealBlock (sealBlock r 1) 2) 3
  let t := (s.setSession i (setSessHead full (sessHead (s.session i)))).modHead i (fun _ => sessHead r)
  if s.on Fld.UPS_CFG_MIRROR then
    [1, 2, 3, 0].foldl (fun (u : State) b =>
      let body := BitVec.ofNat 1024 (full.toNat / 2 ^ (1024 * b))
      if body.toNat = was.toNat / 2 ^ (1024 * b) % 2 ^ 1024 then u else u.mirrorChange 1 b i 0 body false) t
  else t
/-- Change a session. -/
def State.modSess (s : State) (i : Nat) (f : BitVec 4096 → BitVec 4096) : State := s.putSess i (f (s.sess i))
/-- Count sessions with VALID = 1 (UPS_STATUS). -/
def State.countSession (s : State) (up : Bool) : State :=
  let v := s.rd Fld.UPS_STATUS_SESSIONS
  s.wr Fld.UPS_STATUS_SESSIONS (if up then v + 1 else v - 1)

/-! ### UE records (R325) -/

/-- The class and key of the UE record of an address in a VRF. -/
def State.ueKey (s : State) (v6 : Bool) (vrf addr : Nat) : Nat × Nat :=
  if v6 then (s.rd Fld.UPS_CFG_DL6_CLASS, vrf + addr / 2 ^ 64 * 2 ^ 8) else (s.rd Fld.UPS_CFG_DL4_CLASS, vrf + addr * 2 ^ 8)
/-- The UE records of a session, IPv4 before IPv6. -/
def State.ueKeys (s : State) (r : BitVec 4096) : List (Nat × Nat) :=
  (if Sess.UE_V4_VALID.on r then [s.ueKey false (Sess.VRF.get r) (Sess.UE_IPV4.get r)] else [])
    ++ (if Sess.UE_V6_VALID.on r then [s.ueKey true (Sess.VRF.get r) (Sess.UE_IPV6_PFX.get r * 2 ^ 64)] else [])
/-- A record is a UE record. -/
def State.isUe (s : State) (c : Nat) (r : BitVec 1024) : Bool :=
  (c == s.rd Fld.UPS_CFG_DL4_CLASS || c == s.rd Fld.UPS_CFG_DL6_CLASS) && FlowRec.LINK_VALID.on r && s.role c == 0

/-! ### Usage (R332 to R334) -/

/-- The load of a URR: the smallest of what is left to its threshold and to its quota, and 2^40 - 1; with whether the quota
gave it. -/
def urrLoad (r : BitVec 4096) (i : Nat) : Nat × Bool :=
  let vt := (Sess.VOL_THRESH i).get r
  let q := (Sess.QUOTA i).get r
  let a := if vt = 0 then 2 ^ 40 - 1 else min (2 ^ 40 - 1) (vt - (Sess.SINCE i).get r)
  if q ≠ 0 ∧ q - (Sess.TOTAL i).get r ≤ a then (q - (Sess.TOTAL i).get r, true) else (a, false)

/-- Report triggers (Table 11.5), in the order of the table. -/
inductive Trig where
  | volume | quota | time | query | delete
  deriving DecidableEq, Repr
/-- The number under which a trigger is reported. -/
def Trig.code : Trig → Nat
  | .volume => 0 | .quota => 1 | .time => 2 | .query => 3 | .delete => 4

/-- Send a usage report (R334); what SINCE and PERIOD_START are afterwards is Table 11.5. -/
def State.report (s : State) (i u : Nat) (t : Trig) : State :=
  let r := s.sess i
  let s1 := s.notify 4 (i + (Sess.URR_ID u).get r * 2 ^ 32 + t.code * 2 ^ 64 + (Sess.TOTAL u).get r * 2 ^ 72
    + (Sess.SINCE u).get r * 2 ^ 120 + (Sess.PERIOD_START u).get r * 2 ^ 160 + s.todSec % 2 ^ 32 * 2 ^ 192) true
  match t with
  | .volume => s1.modSess i (fun x => (Sess.SINCE u).set x 0)
  | .time => s1.modSess i (fun x => (Sess.PERIOD_START u).set ((Sess.SINCE u).set x 0) s.todSec)
  | _ => s1

/-- Step 1 of a settle (R333), with the VOLUME report it sends. -/
def State.settle1 (s : State) (i u : Nat) : State :=
  let r := s.sess i
  let w := urrOf r u
  let used := (Sess.LOADED u).get r - Urr.LEFT.get w + Urr.OVER.get w
  let r1 := (Sess.URR u).set r (setFields w [(Urr.LEFT, 0), (Urr.OVER, 0), (Urr.TRIG, 1)]).toNat
  let r2 := (Sess.TOTAL u).set ((Sess.SINCE u).set r1 ((Sess.SINCE u).get r + used)) ((Sess.TOTAL u).get r + used)
  let t := s.putSess i r2
  let vt := (Sess.VOL_THRESH u).get r
  if vt ≠ 0 ∧ vt ≤ (Sess.SINCE u).get r2 then t.report i u .volume else t

/-- Step 2 of a settle (R333), with the QUOTA report it sends; no when the URR must be settled again. -/
def State.settle2 (s : State) (i u : Nat) : State × Bool :=
  let r := s.sess i
  let w := urrOf r u
  let (l, byQuota) := urrLoad r u
  let q := (Sess.QUOTA u).get r
  let hit := q != 0 && decide (q ≤ (Sess.TOTAL u).get r)
  let o := Urr.OVER.get w
  let w1 := setFields w [(Urr.QUOTA_END, byQuota.toNat), (Urr.QUOTA_HIT, hit.toNat)]
  let ok := decide (o < l)
  let w2 := if ok then setFields w1 [(Urr.LEFT, l - o), (Urr.OVER, 0), (Urr.TRIG, 0)] else w1
  let t := s.putSess i ((Sess.URR u).set ((Sess.LOADED u).set r l) w2.toNat)
  (if hit && !Urr.QUOTA_HIT.on w then t.report i u .quota else t, ok)

/-- A settle request enters the keepers' usage queue. -/
def State.askSettle (s : State) (i u : Nat) : State :=
  if s.ups.settles.any (fun e => e.1 == i && e.2.1 == u) then s
  else { s with ups := { s.ups with settles := s.ups.settles ++ [(i, u, false)] } }

/-- A settle of a URR has ended, or goes on from step 1 (R333). -/
def State.settled (i u : Nat) (x : State × Bool) : State :=
  if x.2 then { x.1 with ups := { x.1.ups with settles := x.1.ups.settles.filter (fun e => !(e.1 == i && e.2.1 == u)) } }
  else x.1.askSettle i u
/-- Settle a URR for a host operation: both steps, when the URR is in use. -/
def State.settleNow (s : State) (i u : Nat) : State :=
  if Urr.EN.on (urrOf (s.head i) u) then State.settled i u ((s.settle1 i u).settle2 i u) else s

/-! ### Buffered packets (R335) -/

/-- Buffered packets of a session with their arrival times, oldest first. -/
def State.sessBuf (s : State) (i : Nat) : List (Nat × Nat) := (Sparse.get s.ups.bufs i ⟨[], 0⟩).pkts
/-- Buffer units of a packet (R335). -/
def State.bufUnits (s : State) (n : Nat) : Nat := ((s.pkt n).orig.length + 4 + 32 + 2047) / 2048
/-- Give a session its buffered packets, with BUF_PKTS and UNITS_USED; which units hold them is open, so BUF_HEAD and BUF_TAIL
are free values (log entry 49). -/
def State.setSessBuf (s : State) (i : Nat) (l : List (Nat × Nat)) : State :=
  let units := fun (x : List (Nat × Nat)) => x.foldl (fun a e => a + s.bufUnits e.1) 0
  let at_ := if l.isEmpty then 0 else (Sparse.get s.ups.bufs i ⟨[], 0⟩).nextAt
  let t := { s with ups := { s.ups with bufs := Sparse.put s.ups.bufs i ⟨l, at_⟩ ⟨[], 0⟩ } }
  let u := (t.wr Fld.UPS_BUF_STATUS_UNITS_USED (s.rd Fld.UPS_BUF_STATUS_UNITS_USED + units l - units (s.sessBuf i))).modSess i
    (fun r => setFields r [(Sess.BUF_PKTS, l.length), (Sess.BUF_HEAD, freeNat s.fresh), (Sess.BUF_TAIL, freeNat (s.fresh + 1))])
  { u with fresh := u.fresh + 2 }
/-- Discard the buffered packets of a session. -/
def State.dropSessBuf (s : State) (i : Nat) : State :=
  let l := s.sessBuf i
  let t := s.setSessBuf i []
  (l.foldl (fun u e => u.forget e.1) t).bump .UPS_BUF_DISCARD 0 l.length

/-! ### Removing a session (Table 11.6) -/

/-- Remove a session whose UE records are gone: its URRs are settled and reported, its buffered packets discarded and VALID
cleared. -/
def State.dropSession (s : State) (i : Nat) : State :=
  let s1 := (List.range 4).foldl (fun t u =>
    if Urr.EN.on (urrOf (t.head i) u) then (t.settleNow i u).report i u .delete else t) s
  let s2 := s1.dropSessBuf i
  let s3 := { s2 with ups := { s2.ups with settles := s2.ups.settles.filter (fun e => e.1 != i) } }
  (s3.modSess i (fun r => setFields r [(Sess.VALID, 0), (Sess.BUFFERING, 0), (Sess.REPLAY, 0)])).countSession false

/-- Start the removal of a session's UE records (R276); each commits at once when no chain waits on it. -/
def State.dropUes (s : State) (i : Nat) : State :=
  (s.ueKeys (s.sess i)).foldl (fun t k =>
    match t.getRec k.1 k.2 with
    | some _ =>
      let u := if t.flw.removals.any (fun y => y.cls == k.1 && y.key == k.2) then t else t.startRemoval k.1 k.2 3 none
      (match u.flw.removals.find? (fun y => y.cls == k.1 && y.key == k.2) with
       | some x => if u.removalReady x then u.commitRemoval x else u
       | none => u)
    | none => t) s
/-- Every UE record of a session is gone. -/
def State.uesGone (s : State) (i : Nat) : Bool := (s.ueKeys (s.sess i)).all (fun k => (s.getRec k.1 k.2).isNone)

/-- A session whose block was lost is deleted (R346): its UE records go at once, whatever waits on them. -/
def State.loseSession (s : State) (i : Nat) : State :=
  let s1 := (s.ueKeys (s.sess i)).foldl (fun t k =>
    match t.getRec k.1 k.2 with
    | some _ => t.commitRemoval ⟨k.1, k.2, 3, none⟩
    | none => t) s
  (if Sess.VALID.on (s1.head i) then s1.dropSession i else s1).raise Ev.UPS_RECORD_LOST .device i

/-! ### Replies that wait for the twin (R345) -/

/-- Writes of a session's blocks have not been accepted by the twin yet. -/
def State.sessAwaits (s : State) (i : Nat) : Bool :=
  s.rd Fld.FLT_PAIR_STATUS_STATE == 2 && (s.flt.mirrorWait ++ s.flt.mirrorQ).any (fun u => u.kind == 1 && u.index == i)
/-- Answer a session operation: at once, or when the twin has accepted its last write. -/
def State.sessReply (s : State) (i tag : Nat) (st : MbxStatus) (detail data : Nat) : State :=
  if s.sessAwaits i then { s with ups := { s.ups with owed := s.ups.owed ++ [⟨i, tag, st.code, detail, data⟩] } }
  else s.reply tag st 0 detail data true
/-- Send the replies that wait for nothing any more. -/
def State.payReplies (s : State) : State :=
  let due := s.ups.owed.filter (fun o => !s.sessAwaits o.session)
  let t := { s with ups := { s.ups with owed := s.ups.owed.filter (fun o => s.sessAwaits o.session) } }
  due.foldl (fun (u : State) o => u.reply o.tag .ok 0 o.detail o.data true) t

end Sys2Proof.Machine
end

