-- ==== Sys2Proof/Machine/Rewrite.lean ====
section
/-! DEFINITION. The header edits (spec 12, R353 to R360): what each operation does to a packet's bytes and to the list of its
headers.  No operation writes a header the parser did not parse. -/
namespace Sys2Proof.Machine

open Sys2Proof.Config

/-- A header of a packet: code (Table 5.1), offset, and whether it is the outer IP header, the tunnel header or the inner IP
header of the parse result. -/
structure EdHdr where
  code : Nat
  off : Nat
  outer : Bool
  tunnel : Bool
  inner : Bool
  deriving DecidableEq, Repr

/-- A packet in the editor. -/
structure Ed where
  b : List Byte
  h : List EdHdr
  /-- Bytes inserted less bytes removed (R354). -/
  grew : Int
  /-- The TTL has been decremented on this pass, or an attempt found it expired (R356). -/
  ttl : Bool
  expired : Bool
  /-- Skipped operations (R355). -/
  skips : Nat
  deriving DecidableEq, Repr

/-- A packet as the parser saw it. -/
def Packet.ed (p : Packet) : Ed :=
  let r := p.parse
  { b := p.frame, grew := 0, ttl := false, expired := false, skips := 0,
    h := (List.range (ParseRes.HDR_COUNT.get r)).map (fun i =>
      ⟨(prHdr r i).1, (prHdr r i).2, ParseRes.OUTER_L3_IDX.get r == i, ParseRes.TUNNEL_IDX.get r == i, ParseRes.INNER_L3_IDX.get r == i⟩) }

/-- An IP header, a tag. -/
def isIp (c : Nat) : Bool := c == 9 || c == 10
/-- See `isIp`. -/
def isTag (c : Nat) : Bool := decide (2 ≤ c ∧ c ≤ 4)

/-! ### Bytes -/

/-- Overwrite bytes that lie in the packet. -/
def Ed.set (e : Ed) (off : Nat) (x : List Byte) : Ed :=
  if off + x.length ≤ e.b.length then { e with b := e.b.take off ++ x ++ e.b.drop (off + x.length) } else e
/-- Overwrite a 16-bit word. -/
def Ed.set16 (e : Ed) (off v : Nat) : Ed := e.set off (bytesBE 2 v)
/-- Replace `n` bytes at an offset: headers in them go, those behind them move. -/
def Ed.splice (e : Ed) (pos n : Nat) (ins : List Byte) : Ed :=
  let keep := e.h.filter (fun x => !(decide (pos ≤ x.off) && decide (x.off < pos + n)))
  { e with b := e.b.take pos ++ ins ++ e.b.drop (pos + n),
           h := keep.map (fun x => if pos + n ≤ x.off then { x with off := x.off + ins.length - n } else x),
           grew := e.grew + ins.length - n }
/-- Add a header in the order of offsets. -/
def Ed.addHdr (e : Ed) (code off : Nat) : Ed :=
  let x : EdHdr := ⟨code, off, false, false, false⟩
  { e with h := e.h.filter (fun y => decide (y.off < off)) ++ [x] ++ e.h.filter (fun y => decide (off ≤ y.off)) }
/-- A skipped operation. -/
def Ed.skip (e : Ed) : Ed := { e with skips := e.skips + 1 }
/-- The packet expires (R356). -/
def Ed.expire (e : Ed) : Ed := { e with expired := true }

/-! ### Checksums (R360) -/

/-- The 16-bit words of a number, highest first. -/
def words16 : Nat → Nat → List Nat
  | 0, _ => []
  | n + 1, v => v / 2 ^ (16 * n) % 65536 :: words16 n v
/-- Update a checksum field. -/
def Ed.fix (e : Ed) (at_ : Nat) (old new : List Nat) : Ed := e.set16 at_ (csumFix (be16 e.b at_) old new)
/-- Change a word of an IP header, with the IPv4 header checksum. -/
def Ed.ipSet (e : Ed) (ip : EdHdr) (at_ new : Nat) : Ed :=
  let old := be16 e.b (ip.off + at_)
  let t := e.set16 (ip.off + at_) new
  if ip.code = 9 then t.fix (ip.off + 10) [old] [new] else t
/-- Update the checksum of a UDP or TCP header for changed words; a UDP checksum of 0 over IPv4 stays 0, and a result of 0 is
written as 0xFFFF. -/
def Ed.l4Fix (e : Ed) (l4 : EdHdr) (v4 : Bool) (old new : List Nat) : Ed :=
  if l4.code = 19 then e.fix (l4.off + 16) old new
  else if l4.code = 18 then
    let c := be16 e.b (l4.off + 6)
    if v4 && c == 0 then e
    else
      let d := csumFix c old new
      e.set16 (l4.off + 6) (if d = 0 then 0xFFFF else d)
  else e

/-! ### Headers -/

/-- The outermost IP header. -/
def Ed.ip (e : Ed) : Option EdHdr := e.h.find? (fun x => isIp x.code)
/-- The outermost tag after the first ETH. -/
def Ed.tag (e : Ed) : Option EdHdr :=
  match e.h with
  | a :: t :: _ => if a.code = 1 ∧ isTag t.code = true then some t else none
  | _ => none
/-- The first label. -/
def Ed.label (e : Ed) : Option EdHdr := e.h.find? (fun x => x.code == 7)
/-- The headers behind one. -/
def Ed.after (e : Ed) (x : EdHdr) : List EdHdr := e.h.filter (fun y => decide (x.off < y.off))
/-- The L4 header of an IP header: the first one behind its extension headers. -/
def Ed.l4 (e : Ed) (ip : EdHdr) : Option EdHdr :=
  match (e.after ip).dropWhile (fun y => decide (11 ≤ y.code ∧ y.code ≤ 15)) with
  | y :: _ => if 16 ≤ y.code ∧ y.code ≤ 20 then some y else none
  | [] => none
/-- The type field in front of an offset: that of the last header before it, when that has one. -/
def Ed.typePos (e : Ed) (off : Nat) : Option Nat :=
  match (e.h.filter (fun y => decide (y.off < off))).getLast? with
  | some y => if y.code = 1 then some (y.off + 12) else if isTag y.code = true ∨ y.code = 21 then some (y.off + 2)
      else if y.code = 6 then some (y.off + 3) else none
  | none => none
/-- Write the type field in front of an offset. -/
def Ed.setType (e : Ed) (off t : Nat) : Ed := match e.typePos off with | some k => e.set16 k t | none => e
/-- EtherType of an IP version. -/
def ipType (code : Nat) : Nat := if code = 9 then 0x0800 else 0x86DD
/-- The length of the outermost IP datagram (R361). -/
def Ed.dgram (e : Ed) : Option Nat :=
  e.ip.map (fun ip => if ip.code = 9 then be16 e.b (ip.off + 2) else 40 + be16 e.b (ip.off + 4))
/-- Where the first ETH and its tags end. -/
def Ed.l2End (e : Ed) : Nat :=
  match e.h with
  | a :: r =>
    if a.code = 1 then
      match (r.takeWhile (fun y => isTag y.code)).getLast? with
      | some t => t.off + 4
      | none => a.off + 14
    else 0
  | [] => 0

/-! ### Operations (Table 12.4) -/

/-- Decrement the TTL or hop limit of the outermost IP header, once per pass (R356). -/
def Ed.decTtl (e : Ed) : Ed :=
  if e.ttl then e
  else match e.ip with
    | none => e
    | some ip =>
      let at_ := if ip.code = 9 then 8 else 6
      let w := be16 e.b (ip.off + at_)
      let t := { e with ttl := true }
      if (if ip.code = 9 then w / 256 else w % 256) ≤ 1 then t.expire
      else t.ipSet ip at_ (if ip.code = 9 then w - 256 else w - 1)
/-- Write the DSCP of the outermost IP header. -/
def Ed.setDscp (e : Ed) (v : Nat) : Ed :=
  match e.ip with
  | none => e
  | some ip =>
    let w := be16 e.b ip.off
    e.ipSet ip 0 (if ip.code = 9 then w / 256 * 256 + v * 4 + w % 4 else w / 4096 * 4096 + v * 64 + w % 64)
/-- POP_TAG. -/
def Ed.popTag (e : Ed) : Option Ed := e.tag.map (fun t =>
  { (e.splice (t.off - 2) 4 []) with h := (e.h.filter (fun y => y != t)).map (fun y => if t.off < y.off then { y with off := y.off - 4 } else y) })
/-- PUSH_TAG. -/
def Ed.pushTag (e : Ed) (tpid pcp vid : Nat) : Option Ed :=
  match e.h with
  | a :: _ =>
    if a.code = 1 then
      let t := e.splice 12 0 (bytesBE 2 ([0x8100, 0x88A8, 0x9100].getD tpid 0) ++ bytesBE 2 (pcp * 8192 + vid))
      some (t.addHdr (2 + tpid) 14)
    else none
  | [] => none
/-- SET_VID and SET_PCP. -/
def Ed.setTci (e : Ed) (f : Nat → Nat) : Option Ed := e.tag.map (fun t => e.set16 t.off (f (be16 e.b t.off)))
/-- POP_MPLS. -/
def Ed.popMpls (e : Ed) (etype : Nat) : Option Ed :=
  e.label.map (fun m =>
    let t := if byteAt e.b (m.off + 2) % 2 = 1 then e.setType m.off etype else e
    t.splice m.off 4 [])
/-- PUSH_MPLS, before a label, an IP header, or an ARP header, which has no TTL (log entry 89). -/
def Ed.pushMpls (e : Ed) (label tc : Nat) : Option Ed :=
  (e.h.find? (fun x => x.code == 7 || isIp x.code || x.code == 27)).map (fun x =>
    let below := if x.code = 7 then byteAt e.b (x.off + 3) else if x.code = 9 then byteAt e.b (x.off + 8)
      else if x.code = 10 then byteAt e.b (x.off + 7) else 255
    let s := if x.code = 7 then 0 else 1
    let t := if x.code = 7 then e else e.setType x.off 0x8847
    (t.splice x.off 0 (bytesBE 4 (label * 4096 + tc * 512 + s * 256 + below))).addHdr 7 x.off)
/-- SWAP_MPLS. -/
def Ed.swapMpls (e : Ed) (label : Nat) : Option Ed :=
  e.label.map (fun m =>
    let w := beAt e.b m.off 4
    if w % 256 ≤ 1 then e.expire else e.set m.off (bytesBE 4 (label * 4096 + w % 4096 - 1)))
/-- DECAP_L3. -/
def Ed.decapL3 (e : Ed) : Option Ed :=
  match e.h.find? EdHdr.outer, e.h.find? EdHdr.inner, e.h.find? EdHdr.tunnel with
  | some o, some i, some t =>
    let follows := t == i || (e.after t).head? == some i
    if follows ∧ o.off < i.off then some ((e.setType o.off (ipType i.code)).splice o.off (i.off - o.off) []) else none
  | _, _, _ => none
/-- DECAP_L2. -/
def Ed.decapL2 (e : Ed) : Option Ed :=
  match e.h.find? EdHdr.tunnel with
  | some t =>
    match (e.after t).head? with
    | some i => if i.code = 1 then some (e.splice 0 i.off []) else none
    | none => none
  | none => none

/-- One operation of an edit profile; a skipped one is counted and the list goes on (R355). -/
def Ed.op (e : Ed) (w : BitVec 32) : Ed :=
  if e.expired then e
  else
    let v := w.toNat
    let r := match v % 16 with
      | 1 => e.popTag
      | 2 => e.pushTag (v / 2 ^ 23 % 4) (v / 2 ^ 20 % 8) (v / 256 % 4096)
      | 3 => e.setTci (fun t => t / 4096 * 4096 + v / 256 % 4096)
      | 4 => e.setTci (fun t => t % 8192 + v / 256 % 8 * 8192)
      | 5 => e.popMpls (v / 256 % 65536)
      | 6 => e.pushMpls (v / 256 % 2 ^ 20) (v / 2 ^ 28 % 8)
      | 7 => e.swapMpls (v / 256 % 2 ^ 20)
      | 8 => e.decapL3
      | 9 => e.decapL2
      | 10 => if e.ip.isSome then some e.decTtl else none
      | 11 => if e.ip.isSome then some (e.setDscp (v / 256 % 64)) else none
      | _ => some e
    match r with | some t => t | none => e.skip

/-- DECAP_L2 and DECAP_L3, which run before the NAT rewrite (Table 12.3). -/
def isDecap (w : BitVec 32) : Bool := w.toNat % 16 == 8 || w.toNat % 16 == 9
/-- The operations of a profile, up to the first END. -/
def profOps (l : List (BitVec 32)) : List (BitVec 32) := (l.take 8).takeWhile (fun w => w.toNat % 16 != 0)

/-! ### Session decapsulation (R330) -/

/-- Remove everything in front of the inner IP header but the two addresses of the first ETH; the type field becomes that
of the inner IP version (log entry 48). -/
def Ed.decapSession (e : Ed) : Ed :=
  match e.h.find? EdHdr.inner with
  | some i => if 12 ≤ i.off then e.splice 12 (i.off - 12) (bytesBE 2 (ipType i.code)) else e
  | none => e

/-! ### NAT (Table 10.4, R359, R360) -/

/-- The header of a NAT class: outer or inner IP header. -/
def Ed.natIp (e : Ed) (level : Nat) : Option EdHdr := e.h.find? (fun x => isIp x.code && (if level = 0 then x.outer else x.inner))

/-- An ICMP or ICMPv6 echo message. -/
def echoType (code t : Nat) : Bool := (code == 16 && (t == 8 || t == 0)) || (code == 17 && (t == 128 || t == 129))

/-- Rewrite address and port of one end: `src` picks the source. -/
def Ed.nat44 (e : Ed) (ip : EdHdr) (src : Bool) (addr port : Nat) : Ed :=
  let ao := ip.off + (if src then 12 else 16)
  let old := words16 2 (beAt e.b ao 4)
  let new := words16 2 addr
  let e1 := (e.set ao (bytesBE 4 addr)).fix (ip.off + 10) old new
  match e.l4 ip with
  | none => e1
  | some l =>
    if l.code = 16 then
      if echoType 16 (byteAt e.b l.off) then
        let was := be16 e.b (l.off + 4)
        (e1.set16 (l.off + 4) port).fix (l.off + 2) [was] [port]
      else e1
    else
      let po := l.off + (if src then 0 else 2)
      let was := be16 e.b po
      (e1.set16 po port).l4Fix l true (old ++ [was]) (new ++ [port])

/-- The ICMP type of the other family: echo request and reply. -/
def icmpSwap (v4 : Bool) (t : Nat) : Nat :=
  if v4 then (if t = 8 then 128 else if t = 0 then 129 else t) else (if t = 128 then 8 else if t = 129 then 0 else t)

/-- Replace an IP header by one of the other family (R359): the L4 checksum follows the pseudo-header, the port and, for ICMP,
the type. -/
def Ed.nat64 (e : Ed) (ip : EdHdr) (to4 : Bool) (src dst : Nat) (portAt port ident : Nat) : Ed :=
  let b := e.b
  let hl := if to4 then 40 else byteAt b ip.off % 16 * 4
  let oldAddrs := if to4 then words16 16 (beAt b (ip.off + 8) 32) else words16 4 (beAt b (ip.off + 12) 8)
  let newAddrs := if to4 then words16 2 src ++ words16 2 dst else words16 8 src ++ words16 8 dst
  let proto := if to4 then byteAt b (ip.off + 6) else byteAt b (ip.off + 9)
  let proto' := if to4 then (if proto = 58 then 1 else proto) else (if proto = 1 then 58 else proto)
  let plen := if to4 then be16 b (ip.off + 4) else be16 b (ip.off + 2) - hl
  let tos := if to4 then be16 b ip.off / 16 % 256 else byteAt b (ip.off + 1)
  let hop := if to4 then byteAt b (ip.off + 7) else byteAt b (ip.off + 8)
  let h4 := fun (c : Nat) => bytesBE 1 0x45 ++ bytesBE 1 tos ++ bytesBE 2 (plen + 20) ++ bytesBE 2 ident ++ bytesBE 2 0x4000
    ++ bytesBE 1 hop ++ bytesBE 1 proto' ++ bytesBE 2 c ++ bytesBE 4 src ++ bytesBE 4 dst
  let hdr := if to4 then h4 (0xFFFF - fold16 (sum16 (h4 0) 10 0 20))
    else bytesBE 4 (6 * 2 ^ 28 + tos * 2 ^ 20) ++ bytesBE 2 plen ++ bytesBE 1 proto' ++ bytesBE 1 hop ++ bytesBE 16 src ++ bytesBE 16 dst
  let e1 := match e.l4 ip with
    | none => e
    | some l =>
      if l.code = 16 ∨ l.code = 17 then
        let t := be16 b l.off
        let ty := t / 256
        let t' := icmpSwap (!to4) ty * 256 + t % 256
        let echo := echoType l.code ty
        let was := be16 b (l.off + 4)
        let now_ := if echo then port else was
        let pseudo := fun (addrs : List Nat) => addrs ++ [plen / 65536, plen % 65536, 58]
        ((e.set16 l.off t').set16 (l.off + 4) now_).fix (l.off + 2)
          ([t, was] ++ (if to4 then pseudo oldAddrs else [])) ([t', now_] ++ (if to4 then [] else pseudo newAddrs))
      else
        let po := l.off + portAt
        let was := be16 b po
        (e.set16 po port).l4Fix l (!to4) (oldAddrs ++ [was]) (newAddrs ++ [port])
  let e2 := (e1.setType ip.off (ipType (if to4 then 9 else 10)))
  let delta := hdr.length
  { e2 with b := e2.b.take ip.off ++ hdr ++ e2.b.drop (ip.off + hl), grew := e2.grew + delta - hl,
            h := e2.h.map (fun x =>
              if x = ip then { x with code := if to4 then 9 else 10 }
              else if ip.off < x.off then
                { x with off := x.off + delta - hl, code := if x.code = 16 ∨ x.code = 17 then (if to4 then 16 else 17) else x.code }
              else x) }

/-- The NAT rewrite of a packet. -/
def Ed.nat (e : Ed) (w : NatRw) (ident : Nat) : Ed :=
  match e.natIp w.level with
  | none => e
  | some ip =>
    match w.role with
    | 2 => e.nat44 ip true w.addr w.port
    | 3 => e.nat44 ip false w.addr w.port
    | 4 => e.nat64 ip true w.addr (beAt e.b (ip.off + 24) 16 % 2 ^ 32) 0 w.port ident
    | _ => e.nat64 ip false (w.prefix6 * 2 ^ 32 + beAt e.b (ip.off + 12) 4) w.inside6 2 w.port ident

/-- The counter under which a NAT64 rewrite is refused (R359). -/
def Ed.nat64No (e : Ed) (w : NatRw) (options : Bool) : Option Ctr :=
  match e.natIp w.level with
  | none => none
  | some ip =>
    if w.role = 4 then
      if ((e.after ip).head?.map (fun x => decide (11 ≤ x.code ∧ x.code ≤ 15))).getD false then some .EDT_NAT64_EXT else none
    else if w.role = 5 then
      let udp0 := match e.l4 ip with | some l => l.code == 18 && be16 e.b (l.off + 6) == 0 | none => false
      let opts := if w.level = 0 then options else decide (5 < byteAt e.b ip.off % 16)
      if opts then some .EDT_NAT64_OPT else if udp0 then some .EDT_NAT64_UDP0 else none
    else none

/-! ### Encapsulation (R357, R358) -/

/-- The bytes of a template's HDR. -/
def tplBytes (t : BitVec 1024) : List Byte := (bytesOfNat 112 (Tpl.HDR.get t)).take (Tpl.LEN.get t)
/-- A template is of KIND 6 or 7. -/
def tplGtpu (t : BitVec 1024) : Bool := Tpl.KIND.get t == 6 || Tpl.KIND.get t == 7
/-- The GTP-U header the editor appends (Table 12.5). -/
def gtpuHdr (type_ teid qfi len : Nat) : List Byte :=
  if qfi = 0 then bytesBE 1 0x30 ++ bytesBE 1 type_ ++ bytesBE 2 len ++ bytesBE 4 teid
  else bytesBE 1 0x34 ++ bytesBE 1 type_ ++ bytesBE 2 (len + 8) ++ bytesBE 4 teid ++ bytesBE 2 0 ++ bytesBE 1 0 ++ bytesBE 1 0x85
    ++ bytesBE 1 1 ++ bytesBE 1 0 ++ bytesBE 1 qfi ++ bytesBE 1 0

/-- The headers an encapsulation puts in front of `len` bytes, with the GTP-U header `gtp` behind them. -/
def encapHdr (t : BitVec 1024) (gtp : List Byte) (len ident hash : Nat) : List Byte :=
  let kind := Tpl.KIND.get t
  let l3 := Tpl.L3_OFF.get t
  let l4 := Tpl.L4_OFF.get t
  let base : Ed := { b := tplBytes t ++ gtp, h := [], grew := 0, ttl := false, expired := false, skips := 0 }
  if kind = 5 ∨ kind = 0 then base.b
  else
    let v4 := kind == 1 || kind == 3 || kind == 6
    let udp := kind == 1 || kind == 2 || tplGtpu t
    let total := Tpl.LEN.get t - l3 + gtp.length + len
    let e1 := if udp then
        let u := (base.set16 (l4 + 4) (len + 8 + gtp.length)).set16 (l4 + 6) 0
        if Tpl.SRC_HASH.on t then u.set16 l4 (49152 + hash % 16384) else u
      else base
    let e2 := if v4 then
        let a := ((e1.set16 (l3 + 2) total).set16 (l3 + 4) ident).set16 (l3 + 10) 0
        a.set16 (l3 + 10) (0xFFFF - fold16 (sum16 a.b 32 l3 (l3 + byteAt a.b l3 % 16 * 4)))
      else e1.set16 (l3 + 4) (total - 40)
    e2.b

/-- The headers of a template that edits and the MTU check look at: its ETH and its outer IP header. -/
def tplHdrs (t : BitVec 1024) : List EdHdr :=
  let kind := Tpl.KIND.get t
  let eth : EdHdr := ⟨1, 0, false, false, false⟩
  if kind = 5 ∨ kind = 0 then [eth]
  else [eth, ⟨if kind = 1 ∨ kind = 3 ∨ kind = 6 then 9 else 10, Tpl.L3_OFF.get t, false, false, false⟩]

/-- Encapsulate: the packet's ETH and tags are removed unless L2_PAYLOAD says otherwise, and HDR goes in front. -/
def Ed.encap (e : Ed) (t : BitVec 1024) (gtp : Nat → List Byte) (len ident hash : Nat) : Ed :=
  let cut := if Tpl.L2_PAYLOAD.on t then 0 else match e.ip with | some ip => ip.off | none => e.l2End
  let hdr := encapHdr t (gtp len) len ident hash
  let u := e.splice 0 cut hdr
  { u with h := tplHdrs t ++ u.h }

/-- The addresses of the outermost ETH. -/
def Ed.setMacs (e : Ed) (dmac smac : Nat) : Ed := e.set 0 (bytesBE 6 dmac ++ bytesBE 6 smac)

end Sys2Proof.Machine
end

