-- ==== Sys2Proof/Machine/PortBase.lean ====
section
/-! DEFINITION. Ports and the frames they send (spec 02, Tables 2.1 and 2.2; spec 03, R95, R96, R110 to R113; spec 04, R117 to R124): port
types, lanes, rates, and the bytes of a frame as sent. -/
namespace Sys2Proof.Machine

open Sys2Proof.Config

/-! ### Bytes of a frame -/

/-- A VLAN tag's TPID (R48, R86). -/
def isTpid (t : Nat) : Bool := t == 0x8100 || t == 0x88A8 || t == 0x9100

/-! ### Port types (Tables 2.1 and 2.2) -/

/-- Lanes of a port type. -/
def typeLanes (t : Nat) : Nat := [0, 1, 1, 1, 4, 2, 1, 4, 2, 1, 8, 4, 2, 8, 4, 8].getD t 0
/-- Lane rate code of a port type (Table 2.1 order). -/
def typeLaneRate (t : Nat) : Nat := [0, 0, 1, 2, 1, 2, 3, 2, 3, 4, 2, 3, 4, 3, 4, 4].getD t 0
/-- Rate of a port type in units of 2.5 Gbit/s (R46). -/
def typeUnits (t : Nat) : Nat := [0, 4, 10, 20, 40, 40, 40, 80, 80, 80, 160, 160, 160, 320, 320, 640].getD t 0
/-- Family of a lane rate code: 0 NRZ, 1 PAM4 (Table 2.1). -/
def rateFamily (r : Nat) : Nat := if r < 2 then 0 else 1
/-- The FEC codes a type accepts (R44). -/
def fecOk (t f : Nat) : Bool :=
  f == 0 || (f == 1 && (t == 1 || t == 2)) || (f == 2 && (t == 2 || t == 4)) || (f == 3 && (t == 3 || 5 ≤ t))
/-- log2 of a lane count. -/
def log2Lanes (n : Nat) : Nat := if n ≥ 8 then 3 else if n ≥ 4 then 2 else if n ≥ 2 then 1 else 0

/-! ### Ports and lanes -/

/-- TYPE of a port. -/
def State.portType (s : State) (p : Nat) : Nat := s.rdP Fld.PRT_MODE_TYPE p
/-- Lanes of a port's type, from its own lane number upward. -/
def State.portLanes (s : State) (p : Nat) : List Nat := (List.range (typeLanes (s.portType p))).map (fun i => p + i)
/-- Active transmit lanes: ACTIVE_LANES, or every lane while it reads 0. -/
def State.activeLanes (s : State) (p : Nat) : Nat :=
  let n := s.rdP Fld.PRT_LINK_STATUS_ACTIVE_LANES p
  if n = 0 then typeLanes (s.portType p) else n
/-- Rate of a bundle in units of 2.5 Gbit/s: its active lanes, all but the spare, at the lane rate (R624). -/
def State.bundleUnits (s : State) (b : Nat) : Nat :=
  let lane := s.rd Fld.FLT_BUNDLE_CFG_FIRST_LANE 0 b
  (s.rd Fld.FLT_BUNDLE_CFG_LANES 0 b - 1) * [4, 10, 20, 40, 80].getD (s.rd Fld.LNE_CTRL_RATE (lane / 24) (lane % 24)) 0
/-- Rate at the active width in units of 2.5 Gbit/s. -/
def State.portUnits (s : State) (p : Nat) : Nat :=
  match s.bundleOf p with
  | some b => s.bundleUnits b
  | none => typeUnits (s.portType p) * s.activeLanes p / max 1 (typeLanes (s.portType p))
/-- Core clocks some bits take at a rate in units of 2.5 Gbit/s, rounded up: 10/7 bits per unit and clock. -/
def bitClocks (bits units : Nat) : Nat := if units = 0 then 0 else (bits * 7 + units * 10 - 1) / (units * 10)
/-- A field of a lane (R82). -/
def State.rdL (s : State) (f : Fld) (lane : Nat) : Nat := s.rd f (lane / 24) (lane % 24)
/-- A one-bit field of a lane is 1. -/
def State.onL (s : State) (f : Fld) (lane : Nat) : Bool := s.rdL f lane == 1
/-- Give a lane's field a value. -/
def State.wrL (s : State) (f : Fld) (lane v : Nat) : State := s.wr f v (lane / 24) (lane % 24)
/-- The port that holds a lane. -/
def State.laneOwner (s : State) (lane : Nat) : Option Nat :=
  (List.range 8).findSome? (fun d =>
    let p := lane - d
    if d ≤ lane ∧ (lane - d) / 8 = lane / 8 ∧ d < typeLanes (s.portType p) then some p else none)
/-- The quad of a lane is powered and its trim is loaded (R78, R79). -/
def State.quadReady (s : State) (lane : Nat) : Bool :=
  s.domainUp (lane / 4) && !Sparse.get s.rst.badQuads (lane / 4) false
/-- The octet PLL of a lane is locked to a family (R41). -/
def State.pllReady (s : State) (lane fam : Nat) : Bool :=
  s.on Fld.LNE_OCTET_CTRL_PLL_LOCK (lane / 24) (lane / 8 % 3)
    && s.rd Fld.LNE_OCTET_CTRL_PLL_FAMILY (lane / 24) (lane / 8 % 3) == fam
/-- Give each lane of a port a field value. -/
def State.wrLanes (s : State) (lanes : List Nat) (f : Fld) (v : Nat) : State :=
  lanes.foldl (fun t l => t.wrL f l v) s
/-- The port has an express queue or a gate list enabled, or is in a loopback, which inhibits lane ebb and low-power idle (R73, R777). -/
def State.ebbInhibited (s : State) (p : Nat) : Bool :=
  s.onP Fld.GTE_PORT_CFG_EXP_EN p || s.onP Fld.GTE_PORT_CFG_GATE_EN p || s.rd Fld.DGN_PORT_LOOP_MODE 0 p != 0

/-- The address of a port as six bytes. -/
def State.portAddr (s : State) (port : Nat) : Nat :=
  s.rdP Fld.PRT_MAC_ADDR_HI_ADDR port * 2 ^ 32 + s.rdP Fld.PRT_MAC_ADDR_LO_ADDR port
/-- A frame of at least 60 bytes, padded with zeros. -/
def padFrame (b : List Byte) : List Byte := b ++ List.replicate (60 - b.length) 0
/-! ### Protection of a frame (R117 to R124) -/

/-- The suite is an XPN suite (R122). -/
def State.isXpn (s : State) (port : Nat) : Bool := decide (2 ≤ s.rdP Fld.MSC_PORT_CFG_CIPHER port)
/-- The SCI of the port's transmit SC: its address and port identifier 1. -/
def State.ownSci (s : State) (port : Nat) : Nat := s.portAddr port * 65536 + 1
/-- The SecTAG of a transmitted frame, directly behind the source address (R124). -/
def State.secTagBytes (s : State) (port an pn len : Nat) : List Byte :=
  let sci := s.onP Fld.MSC_PORT_CFG_INCLUDE_SCI port
  let tci := (if sci then 0x20 else 0) + (if s.onP Fld.MSC_PORT_CFG_CONF port then 0x0C else 0) + an
  bytesBE 2 0x88E5 ++ [BitVec.ofNat 8 tci, BitVec.ofNat 8 (if len < 48 then len else 0)] ++ bytesBE 4 (pn % 2 ^ 32)
    ++ (if sci then bytesBE 8 (s.ownSci port) else [])
/-- Bytes of a frame behind its addresses that stay in the clear: all of them without confidentiality, else the offset (R122). -/
def State.clearBytes (s : State) (port : Nat) (n : Nat) : Nat :=
  if s.onP Fld.MSC_PORT_CFG_CONF port then min n ([0, 30, 50].getD (s.rdP Fld.MSC_PORT_CFG_CONF_OFFSET port) 0) else n
/-- Text under GCM in counter mode: each byte with a byte of the key stream. -/
def gcmText (stream : Nat → Byte) (i : Nat) : List Byte → List Byte
  | [] => []
  | b :: r => (b ^^^ stream i) :: gcmText stream (i + 1) r
/-- A frame protected under an SA and a packet number: SecTAG, the secured data, and the 16-byte ICV over all before it (R121, R122). -/
def State.sealed (s : State) (port an pn : Nat) (b : List Byte) : List Byte :=
  let suite := s.rdP Fld.MSC_PORT_CFG_CIPHER port
  let sak := Sparse.get (s.port port).secy.saks an 0
  let data := b.drop 12
  let head := b.take 12 ++ s.secTagBytes port an pn data.length
  let k := s.clearBytes port data.length
  let body := data.take k ++ gcmText (gcmStream suite sak (s.ownSci port) pn) 0 (data.drop k)
  head ++ body ++ bytesBE 16 (gcmIcv suite sak (s.ownSci port) pn (head ++ body)).toNat

/-! ### The frame as sent (R95 to R97, R113, R420, R522, R826) -/

/-- A signed 16-bit count of picoseconds in units of the time of day (R111). -/
def adjUnits (v : Nat) : Int :=
  let ps : Int := if v ≥ 32768 then (v : Int) - 65536 else (v : Int)
  ps * (todNs : Int) / 1000

/-- The instant at the ball that a transmit decision made now refers to (R534). -/
def State.ballTime (s : State) (port : Nat) : Nat := s.tod + txLead (s.portType port) * todClk
/-- Write a VID into the outer tag of a frame that has one. -/
def setVid (b : List Byte) (vid : Nat) : List Byte :=
  if isTpid (be16 b 12) then b.take 14 ++ bytesBE 2 (be16 b 14 / 4096 * 4096 + vid) ++ b.drop 16 else b
/-- Write a 16-bit word. -/
def put16 (b : List Byte) (off v : Nat) : List Byte := b.take off ++ bytesBE 2 v ++ b.drop (off + 2)
/-- A checksum request carried out (R95), or none when the frame does not hold what it needs (R826). -/
def csumDone (b : List Byte) (l3 l4 : Nat) (tcp : Bool) : Option (List Byte) :=
  let ihl := byteAt b l3 % 16 * 4
  let end_ := l3 + be16 b (l3 + 2)
  if 9216 < b.length + 4 ∨ b.length < l3 + 20 ∨ byteAt b l3 / 16 ≠ 4 ∨ ihl < 20 ∨ b.length < l3 + ihl ∨ b.length < end_
      ∨ b.length < l4 + (if tcp then 18 else 8) then none
  else
    let at_ := l4 + (if tcp then 16 else 6)
    let b1 := put16 (put16 b (l3 + 10) 0) at_ 0
    let c3 := 0xFFFF - fold16 (sum16 b1 32 l3 (l3 + ihl))
    let pseudo := sum16 b1 8 (l3 + 12) (l3 + 20) + (if tcp then 6 else 17) + (end_ - l4)
    let c := 0xFFFF - fold16 (pseudo + sum16 b1 b1.length l4 end_)
    some (put16 (put16 b1 (l3 + 10) c3) at_ (if !tcp && c == 0 then 0xFFFF else c))
/-- The residence time of a packet in 2^-16 ns: from its receive timestamp to its departure with TX_ADJ (R111, R113). -/
def State.residence (s : State) (port : Nat) (p : Packet) : Int :=
  ((s.ballTime port : Int) + adjUnits (s.rdP Fld.PRT_TS_CFG_TX_ADJ port) - p.ts) / 7
/-- Add a residence time to the correctionField of a PTP message, with its UDP checksum updated (R113). -/
def ptpCorrected (b : List Byte) (x : PtpTx) (add : Int) : List Byte :=
  let o := x.off + 8
  let v := ((beAt b o 8 : Int) + add) % ((2 ^ 64 : Nat) : Int)
  let b1 := b.take o ++ bytesBE 8 v.toNat ++ b.drop (o + 8)
  match x.udp with
  | some u =>
    let ws := fun (c : List Byte) => (List.range 4).map (fun i => be16 c (o + 2 * i))
    if be16 b u = 0 then b1 else put16 b1 u (csumFix (be16 b u) (ws b) (ws b1))
  | none => b1
/-- The frame of a taken packet before padding: VID, checksum request and PTP correction; and whether a request was skipped. -/
def State.txBytes (s : State) (port : Nat) (f : TxFrame) : List Byte × Bool :=
  let p := s.pkt f.pkt
  let b0 := match f.vid with | some v => setVid p.frame v | none => p.frame
  let b1 := match p.ptpTx with
    | some x => if x.oneStep then ptpCorrected b0 x (s.residence port p) else b0
    | none => b0
  match p.csum with
  | some (l3, l4, tcp) => match csumDone b1 l3 l4 tcp with
    | some b2 => (b2, false)
    | none => (b1, true)
  | none => (b1, false)
/-- Bytes of a frame sent since it started, or started again. -/
def State.sentBytes (s : State) (port : Nat) (f : TxFrame) : Nat := (s.now - f.startAt) * s.portUnits port * 10 / 56
/-- How what a port sends next of a frame starts (R96, R117): on the preemptable MAC with a start or continuation delimiter. -/
def TxFrame.delim (f : TxFrame) : Delim :=
  match f.pmac with
  | some k => if f.frags = 0 then .start k else .cont k ((f.frags - 1) % 4)
  | none => .sfd

end Sys2Proof.Machine
end

