-- ==== Sys2Proof/Machine/PortOps.lean ====
section
/-! DEFINITION. Port operations (spec 02, 03, 04): port types, lanes, the ingress FIFO, received holds, generated pause
frames, going up and going down. -/
namespace Sys2Proof.Machine

open Sys2Proof.Config

/-! ### The ingress FIFO (R47 to R51) -/

/-- The FIFO of an arbiter index of a pipeline: 0 to 23 front ports, 24 backwash, 25 host, 26 keeper. -/
def State.fifo (s : State) (pipe j : Nat) : List FifoEnt := Sparse.get s.fifos (pipe * 32 + j) []
/-- Replace a FIFO. -/
def State.setFifo (s : State) (pipe j : Nat) (l : List FifoEnt) : State :=
  { s with fifos := Sparse.put s.fifos (pipe * 32 + j) l [] }
/-- Fill in bytes. -/
def fifoFill (l : List FifoEnt) : Nat := l.foldl (fun a e => a + (e.got - e.sent)) 0
/-- Capacity: 32 KiB per lane of the port (R47). -/
def State.fifoSize (s : State) (p : Nat) : Nat :=
  32768 * (match s.bundleOf p with | some b => s.rd Fld.FLT_BUNDLE_CFG_LANES 0 b | none => typeLanes (s.portType p))
/-- The EtherType of Table 2.3 and the outer PCP: at most two tags are passed (R48). -/
def arbFields (b : List Byte) : Option Nat × Option Nat :=
  let t0 := be16 b 12
  if !isTpid t0 then (some t0, none)
  else
    let pcp := byteAt b 14 / 32
    let t1 := be16 b 16
    if !isTpid t1 then (some t1, some pcp)
    else
      let t2 := be16 b 20
      if isTpid t2 then (none, some pcp) else (some t2, some pcp)
/-- The arbiter level of a frame (Table 2.3) under two PCP thresholds: 0 HIGH, 1 MID, 2 LOW. -/
def arbLevel (b : List Byte) (mid high : Nat) : Nat :=
  let (et, pcp) := arbFields b
  let hiType := match et with
    | some e => [0xAEFE, 0xFC3D, 0x88F7, 0x8809, 0x888E].contains e
    | none => false
  match pcp with
  | some c => if hiType || decide (high ≤ c) then 0 else if mid ≤ c then 1 else 2
  | none => if hiType then 0 else 2
/-- The level of a frame that has a front port's PRT_ARB_CFG, or the reset values 4 and 7 (R831). -/
def State.levelFor (s : State) (port : Nat) (b : List Byte) : Nat :=
  if port < 96 then arbLevel b (s.rdP Fld.PRT_ARB_CFG_MID_PCP port) (s.rdP Fld.PRT_ARB_CFG_HIGH_PCP port)
  else arbLevel b 4 7
/-- The FIFO limit of a level in bytes: 1/256 of the FIFO (Table 2.18). -/
def State.levelLimit (s : State) (p level : Nat) : Nat :=
  let f := if level = 0 then Fld.PRT_ARB_CFG_HIGH_LIMIT else if level = 1 then Fld.PRT_ARB_CFG_MID_LIMIT
    else Fld.PRT_ARB_CFG_LOW_LIMIT
  s.rdP f p * s.fifoSize p / 256
/-- Place a whole packet in an arbiter input that has no FIFO: backwash, host or keeper (R831). -/
def State.arbOffer (s : State) (pipe j n : Nat) : State :=
  let p := s.pkt n
  s.setFifo pipe j (s.fifo pipe j ++ [⟨n, s.levelFor p.port p.frame, p.frame.length, 0, false⟩])
/-- Change the entry of a packet in a FIFO. -/
def fifoUpd (l : List FifoEnt) (n : Nat) (f : FifoEnt → FifoEnt) : List FifoEnt :=
  l.map (fun e => if e.pkt = n then f e else e)
/-- Mark a packet's last data with its MAC's verdict: good, row 0, or errored with the row of Table 3.1 (R89). -/
def State.endPacket (s : State) (n row : Nat) : State :=
  { s with pkts := Sparse.modify s.pkts n (fun p => { p with ended := some (row != 0), endRow := row }) }

/-! ### Received holds (R99 to R105) -/

/-- A timer is running. -/
def running (until_ : Option Nat) (now : Nat) : Bool :=
  match until_ with
  | some t => decide (now < t)
  | none => false
/-- A class is mapped to a PFC priority at a port (R100). -/
def State.pfcMaps (s : State) (port prio cls : Nat) : Bool :=
  s.rd (if prio % 2 = 0 then Fld.PRT_PFC_MAP_CLASSES_LO else Fld.PRT_PFC_MAP_CLASSES_HI) (port / 24) (port % 24) (prio / 2)
    / 2 ^ cls % 2 == 1
/-- A class of a port is held by received pause or PFC (R100, R104). -/
def State.classHeld (s : State) (port cls : Nat) : Bool :=
  let p := s.port port
  running p.pauseUntil s.now
    || (List.range 8).any (fun i => running (Sparse.find p.pfcUntil i) s.now && s.pfcMaps port i cls)
/-- When the last hold of a class by received pause or PFC ended or ends; 0 when there was none. -/
def State.heldUntil (s : State) (port cls : Nat) : Nat :=
  let p := s.port port
  ((List.range 8).filter (fun i => s.pfcMaps port i cls)).foldl (fun m i => max m ((Sparse.find p.pfcUntil i).getD 0)) (p.pauseUntil.getD 0)
/-- The express class is held (R103, R518). -/
def State.expressHeld (s : State) (port : Nat) : Bool :=
  let p := s.port port
  s.onP Fld.PRT_PAUSE_CFG_EXP_HONOUR port
    && (running p.pauseUntil s.now || running (Sparse.find p.pfcUntil (s.rdP Fld.GTE_PORT_CFG_EXP_PFC_PRIO port)) s.now)
/-- Since when some queued frame of the classes of a hold, the express class among them or not, has waited for nothing else. -/
def State.heldSince (s : State) (port : Nat) (cls : Nat → Bool) (express : Bool) (at_ : Nat) : Option Nat :=
  let j := s.tm.items.filterMap (fun e =>
    let it := e.2
    if (s.queue it.slice it.queue).items.contains e.1 && portOfIdx it.slice (s.qPort it.slice it.queue) == port
        && cls it.cls then some it.joinedAt else none)
  match j ++ (if express then (s.port port).gte.queue.map ExpEnt.at_ else []) with
  | [] => none
  | a :: r => some (max (max (r.foldl min a) at_) (max (s.port port).txEnd (s.port port).heldMark))
/-- Count the time in which a hold kept queued frames waiting (TX_HELD_NS, Table 3.4), up to an instant. -/
def State.countHeld (s : State) (port : Nat) (cls : Nat → Bool) (express : Bool) (at_ upto : Nat) : State :=
  match s.heldSince port cls express at_ with
  | some t =>
    if t < upto then
      let s1 := s.setPort port { s.port port with heldMark := upto }
      s1.bump .TX_HELD_NS port ((upto - t) * 4 / 7)
    else s
  | none => s
/-- Count the time that the link pause hold has held frames so far. -/
def State.countPause (s : State) (port : Nat) : State :=
  let p := s.port port
  match p.pauseUntil with
  | some t => s.countHeld port (fun _ => true) (s.onP Fld.PRT_PAUSE_CFG_EXP_HONOUR port) (Sparse.get p.holdFrom 8 0) (min t s.now)
  | none => s
/-- Count the time that the hold of a PFC priority has held frames so far. -/
def State.countPfc (s : State) (port prio : Nat) : State :=
  let p := s.port port
  match Sparse.find p.pfcUntil prio with
  | some t =>
    let express := s.onP Fld.PRT_PAUSE_CFG_EXP_HONOUR port && s.rdP Fld.GTE_PORT_CFG_EXP_PFC_PRIO port == prio
    s.countHeld port (s.pfcMaps port prio) express (Sparse.get p.holdFrom prio 0) (min t s.now)
  | none => s
/-- Bring TX_HELD_NS of a port up to date (Table 3.4). -/
def State.countHolds (s : State) (port : Nat) : State :=
  (List.range 8).foldl (fun (t : State) i => t.countPfc port i) (s.countPause port)
/-- End the link pause hold. -/
def State.endPause (s : State) (port : Nat) : State :=
  match (s.port port).pauseUntil with
  | some _ =>
    let s1 := s.countPause port
    let q := s1.port port
    s1.setPort port { q with pauseUntil := none, holdFrom := Sparse.erase q.holdFrom 8 }
  | none => s
/-- End the hold of a PFC priority. -/
def State.endPfc (s : State) (port prio : Nat) : State :=
  match Sparse.find (s.port port).pfcUntil prio with
  | some _ =>
    let s1 := s.countPfc port prio
    let q := s1.port port
    s1.setPort port { q with pfcUntil := Sparse.erase q.pfcUntil prio, holdFrom := Sparse.erase q.holdFrom prio,
                             stormed := q.stormed.keep (fun c => !s1.pfcMaps port prio c) }
  | none => s
/-- Cancel every running timer (R108, R824). -/
def State.cancelHolds (s : State) (port : Nat) : State :=
  (List.range 8).foldl (fun t i => t.endPfc port i) (s.endPause port)
/-- The instant at which a pause time of `q` quanta ends (R99). -/
def State.quantaEnd (s : State) (port q : Nat) : Nat := s.now + bitClocks (q * 512) (s.portUnits port)

/-! ### Generated pause and PFC frames (R106, R107, R824) -/

/-- XOFF stands for a priority, or for the port (8): the state the MAC keeps of each (R824). -/
def State.xoffOn (s : State) (port prio : Nat) : Bool :=
  if prio = 8 then Sparse.get s.tm.xoffPort port false else Sparse.get s.tm.xoff (port * 8 + prio) false
/-- Give that state a value. -/
def State.setXoff (s : State) (port prio : Nat) (b : Bool) : State :=
  if prio = 8 then { s with tm := { s.tm with xoffPort := Sparse.put s.tm.xoffPort port b false } }
  else { s with tm := { s.tm with xoff := Sparse.put s.tm.xoff (port * 8 + prio) b false } }
/-- The signals MODE sends frames for: the port's under link pause, each priority's under PFC, none with MODE 0 (R106, R824). -/
def State.signals (s : State) (port prio : Nat) : Bool :=
  let m := s.rdP Fld.PRT_PAUSE_CFG_MODE port
  (m == 1 && prio == 8) || (m == 2 && decide (prio < 8))
/-- A frame for a priority or the port waits to be sent, with a time field; none is ever sent with MODE 0 or TX_EN 0. -/
def State.genPause (s : State) (port prio time : Nat) : State :=
  if s.signals port prio && s.onP Fld.PRT_PAUSE_CFG_TX_EN port && s.portUp port then
    let p := s.port port
    s.setPort port { p with gen := Sparse.insert p.gen prio time }
  else s
/-- A frame waits for each priority whose XOFF is in force; under link pause, for the port. -/
def State.genForXoff (s : State) (port : Nat) : State :=
  (List.range 9).foldl (fun t i =>
    if t.xoffOn port i then t.genPause port i (t.rdP Fld.PRT_PAUSE_CFG_QUANTA port) else t) s
/-- The bytes of a generated pause frame, or PFC frame for some priorities (R106). -/
def State.pauseBytes (s : State) (port : Nat) : List Byte :=
  let g := (s.port port).gen
  let head := bytesBE 6 0x0180C2000001 ++ bytesBE 6 (s.portAddr port) ++ bytesBE 2 0x8808
  if s.rdP Fld.PRT_PAUSE_CFG_MODE port = 2 then
    padFrame (head ++ bytesBE 2 0x0101
      ++ bytesBE 2 ((List.range 8).foldl (fun a i => if (Sparse.find g i).isSome then a + 2 ^ i else a) 0)
      ++ (List.range 8).flatMap (fun i => bytesBE 2 (Sparse.get g i 0)))
  else padFrame (head ++ bytesBE 2 0x0001 ++ bytesBE 2 (Sparse.get g 8 0))
/-- The transmitters drive the balls: the Transmitter enable phase has passed, no reset has idled them (R62, R726), QUIET_N is high (R35),
the device has not tripped (R756), and boundary scan does not hold the pins (R779). -/
def State.txOn (s : State) : Bool :=
  s.pins.quietN && s.pins.thermTripN && !s.pins.scanHold && decide (9 ≤ s.rd Fld.RST_STATUS_PHASE)
    && !(s.rst.run.elim false ResetRun.held)
/-- The transmitters of a port drive the balls with its own traffic: it is in no loopback (R777). -/
def State.txDriven (s : State) (port : Nat) : Bool := s.txOn && s.rd Fld.DGN_PORT_LOOP_MODE 0 port == 0
/-- What a port sends from a delimiter on reaches the ball unless its transmitter is quiet. -/
def State.putWire (s : State) (port : Nat) (d : Delim) (b : List Byte) : State :=
  if s.txDriven port then s.emit (.frame port d b) else s
/-- Send a frame, given without its FCS, from a port. -/
def State.sendBytes (s : State) (port : Nat) (b : List Byte) : State :=
  s.putWire port .sfd (b ++ bytesOfNat 4 (crc32 b).toNat)
/-- Send the generated frame that waits, at a frame boundary; the refresh counts from its last bit (R106). -/
def State.sendGenerated (s : State) (port : Nat) : State :=
  let p := s.port port
  if p.gen.isEmpty then s
  else
    let s1 := s.sendBytes port (s.pauseBytes port)
    let s2 := if s.rdP Fld.PRT_PAUSE_CFG_MODE port = 2 then
        p.gen.foldl (fun t e => t.bump .TX_PFC (port * 8 + e.1)) s1
      else s1.bump .TX_PAUSE port
    let end_ := s.now + bitClocks ((8 + 64) * 8) (s.portUnits port)
    let sent := p.gen.foldl (fun m e => if e.2 = 0 then Sparse.erase m e.1 else Sparse.insert m e.1 (end_, e.2)) p.genSent
    s2.setPort port { p with gen := [], genSent := sent, txEnd := max p.txEnd end_ }

/-! ### Going up and going down (R57 to R61) -/

/-- Discard the frames in reception (R61): each takes row 1 of Table 3.1, whatever has become of it. -/
def State.abortRx (s : State) (port : Nat) : State :=
  let p := s.port port
  let one := fun (t : State) (r : Option RxFrame) =>
    match r with
    | some f =>
      match f.what with
      | .packet n => (t.bump .RX_ABORTED port).endPacket n 1
      | _ => t.bump .RX_ABORTED port
    | none => t
  let s1 := one (one s p.rx) p.rxp
  s1.setPort port { s1.port port with rx := none, rxp := none }
/-- Release what a taken frame holds (R383): a queued item's buffers, or the express packet. -/
def State.releaseTx (s : State) (port : Nat) (f : TxFrame) : State :=
  match f.item with
  | some id => s.releaseItem id
  | none => (s.freeExpCells (port / 24) f.cells).forget f.pkt
/-- The frame has begun to leave: its first preamble bit has left the transmit MAC (R101). -/
def TxFrame.begun (f : TxFrame) : Bool := f.len.isSome || f.startAt != 0
/-- A frame taken and not begun returns to the head of its queue (R101, R104, R425). -/
def State.untake (s : State) (port : Nat) (f : TxFrame) : State :=
  match f.item with
  | some id =>
    let u := s.queue f.slice f.queue
    let it := s.item id
    let s1 := s.setQueue f.slice f.queue { u with items := id :: u.items, cove := (id, it.cells) :: u.cove }
    let s2 := if it.mcast then s1 else s1.setPkt it.pkt { s1.pkt it.pkt with stage := .tm }
    if u.items.isEmpty then s2.newBacklog f.slice f.queue (s.backlog f.slice) else s2
  | none =>
    let e : ExpEnt := ⟨f.pkt, f.cells, f.cutThrough, f.vid, s.now⟩
    (s.setExpQueue port (e :: (s.port port).gte.queue)).setPkt f.pkt { s.pkt f.pkt with stage := .expq }
/-- The bytes of a begun frame that have left so far of its present fragment, ended by an invalid FCS. -/
def State.cutBytes (s : State) (port : Nat) (f : TxFrame) : List Byte :=
  let whole := if f.len.isSome then f.wire
    else match f.sa with
      | some (an, pn) => s.sealed port an pn (s.txBytes port f).1
      | none => (s.txBytes port f).1
  let b := (whole.drop f.done).take (s.sentBytes port f)
  b ++ bytesOfNat 4 (badFcs b).toNat
/-- Cut the frame in transmission (R61): what has left of it ends with an invalid FCS.  One that has not begun stays queued. -/
def State.abortTx (s : State) (port : Nat) : State :=
  let p := s.port port
  let cut := fun (t : State) (f : TxFrame) => (t.bump .TX_ABORTED port).releaseTx port f
  let s0 := s.setPort port { p with tx := none, txp := none }
  let s1 := match p.tx with
    | some f => if f.begun then cut (s0.putWire port f.delim (s.cutBytes port f)) f else s0.untake port f
    | none => s0
  match p.txp with
  | some f => cut s1 f
  | none => s1
/-- Discard from a port's FIFO the frames of some packets, counting those that no row of Table 3.1 has counted: whole frames, and what
remains of started ones (R52). -/
def State.dropFifo (s : State) (port : Nat) (c : Ctr) (which : Nat → Bool) : State :=
  let l := s.fifo (port / 24) (port % 24)
  let s1 := (l.filter (fun e => which e.pkt)).foldl (fun t e =>
    let t1 := if (t.pkt e.pkt).ended = some true then t else t.bump c port
    if e.started then (if (t1.pkt e.pkt).ended = some true then t1 else t1.endPacket e.pkt 1) else t1.forget e.pkt) s
  let rest := l.filter (fun e => !which e.pkt)
  let s2 := s1.setFifo (port / 24) (port % 24) rest
  let a := Sparse.get s2.arbs (port / 24) Arb.init
  if rest.any FifoEnt.started then s2
  else { s2 with arbs := Sparse.put s2.arbs (port / 24) { a with started := a.started.erase (port % 24) } Arb.init }
/-- Low-power idle ends: its time is counted (R74, R81). -/
def State.endLpi (s : State) (port : Nat) : State :=
  let p := s.port port
  match p.lpi with
  | some t => ((s.setPort port { p with lpi := none }).wrLanes (s.portLanes port) Fld.LNE_STATUS_LPI 0).bump .LPI_TIME_US port ((s.now - t) / usClk)
  | none => s
/-- Everything that ends with UP beside the state itself: frames in flight, holds, waiting control frames, ebb, low-power
idle, preemption and the port's queues (R61, R425, R527, R824). -/
def State.leaveUp (s : State) (port : Nat) : State :=
  let s1 := (((s.abortRx port).abortTx port).cancelHolds port).endLpi port
  let p := s1.port port
  let s2 := s1.setPort port { p with gen := [], genSent := [], ebb := { Ebb.init with seq := p.ebb.seq },
                                     faultSince := none, txLog := [], gte := { p.gte with merge := false, verifySent := 0 } }
  let s3 := ((s2.wrP Fld.PRT_LINK_STATUS_ACTIVE_LANES port 0).wrP Fld.PRT_LINK_STATUS_EBB_ACTIVE port 0).wrP
    Fld.PRT_LINK_STATUS_EEE_ACTIVE port 0
  let s4 := (s3.wrP Fld.PRT_LINK_STATUS_PARTNER_DALZIA port 0).wrLanes (s3.portLanes port) Fld.LNE_STATUS_EBBED 0
  (s4.wrP Fld.GTE_EXP_QSTAT_PREEMPT_ACTIVE port 0).holdPort port
/-- Enter a link state (Table 2.4); the port's PTP state follows (R501). -/
def State.enterLink (s : State) (port code : Nat) : State :=
  let s1 := s.wrP Fld.PRT_LINK_STATUS_STATE port code
  (s1.setPort port { s1.port port with since := s1.now }).ptpFollow port
/-- Enter TRAINING: a new negotiation attempt starts (R822). -/
def State.enterTraining (s : State) (port : Nat) : State :=
  let s1 := s.enterLink port 1
  s1.setPort port { s1.port port with trained := false, anStart := s1.now, pcsUp := false, faultSince := none }
/-- Declare the link of an UP port down (R59). -/
def State.linkDown (s : State) (port : Nat) : State :=
  ((((s.leaveUp port).enterTraining port).bump .LINK_DOWN port).raise Ev.LINK_DOWN .port port).flushPortDown port
/-- A lane of a port fails: UP goes down at once, CHECKING returns to TRAINING (R59, R821). -/
def State.dropLink (s : State) (port : Nat) : State :=
  let st := s.rdP Fld.PRT_LINK_STATUS_STATE port
  if st = 3 then s.linkDown port else if st = 2 then s.enterTraining port else s
/-- Lane ebb may be used at all: a PAM4 type of two or more lanes with EBB_EN (R63, R73). -/
def State.ebbAble (s : State) (port : Nat) : Bool :=
  let t := s.portType port
  rateFamily (typeLaneRate t) == 1 && decide (2 ≤ typeLanes t) && s.onP Fld.PRT_MODE_EBB_EN port && !s.ebbInhibited port
/-- Low-power idle is used (R63, R73, R75, Table 2.7). -/
def State.lpiAble (s : State) (port : Nat) : Bool :=
  let t := s.portType port
  decide (1 ≤ t ∧ t ≤ 5) && s.onP Fld.PRT_MODE_EEE_EN port && !s.ebbInhibited port
    && !s.onP Fld.PRT_LINK_STATUS_EBB_ACTIVE port && (!s.onP Fld.PRT_MODE_AN_EN port || (s.port port).eee)
/-- Enter UP (R58): the queues open, HELLOs start, XOFF still in force is sent again, preemption is verified. -/
def State.enterUp (s : State) (port : Nat) : State :=
  let s1 := ((s.enterLink port 3).wrP Fld.PRT_LINK_STATUS_ACTIVE_LANES port (typeLanes (s.portType port))).openPort port
  let p := s1.port port
  let e := if s1.onP Fld.PRT_MODE_EBB_EN port then
      { Ebb.init with seq := p.ebb.seq, helloLeft := 10, helloAt := s1.now, rxWidth := log2Lanes (typeLanes (s1.portType port)),
                      helloFrom := if s1.onP Fld.MSC_PORT_CFG_EN port then none else some s1.now }
    else { Ebb.init with seq := p.ebb.seq, rxWidth := log2Lanes (typeLanes (s1.portType port)) }
  let g := { p.gte with verifySent := 0, verifyAt := s1.now }
  let s2 := s1.setPort port { p with anFails := 0, anRaised := false, ebb := e, gte := g, txEnd := s1.now, heldMark := s1.now }
  let s3 := s2.wrP Fld.PRT_LINK_STATUS_EEE_ACTIVE port (s2.lpiAble port).toNat
  let pre := s3.onP Fld.GTE_PORT_CFG_PREEMPT_EN port && s3.rdP Fld.GTE_PORT_CFG_CM_PROFILE port != 1
    && s3.onP Fld.GTE_PORT_CFG_VERIFY_DIS port
  let s4 := if pre then s3.wrP Fld.GTE_EXP_QSTAT_PREEMPT_ACTIVE port 1 else s3
  (s4.genForXoff port).raise Ev.LINK_UP .port port

end Sys2Proof.Machine
end

