-- ==== Sys2Proof/Machine/GteOps.lean ====
section
/-! DEFINITION. Gates, guard bands and frame preemption at a port (spec 18, R527 to R539): which gate is open, how long it
stays open, and whether a frame may start. -/
namespace Sys2Proof.Machine

open Sys2Proof.Config

/-- The gates and express queue of a port. -/
def State.gte (s : State) (port : Nat) : Gte := (s.port port).gte
/-- Replace them. -/
def State.setGte (s : State) (port : Nat) (g : Gte) : State := s.setPort port { s.port port with gte := g }

/-! ### Preemption (R527 to R530) -/

/-- Preemption is active at the port. -/
def State.preemptActive (s : State) (port : Nat) : Bool := s.onP Fld.GTE_EXP_QSTAT_PREEMPT_ACTIVE port
/-- The port runs the MAC merge sublayer: PREEMPT_EN, unless profile A forbids preemption (R530). -/
def State.mergeOn (s : State) (port : Nat) : Bool :=
  s.onP Fld.GTE_PORT_CFG_PREEMPT_EN port && s.rdP Fld.GTE_PORT_CFG_CM_PROFILE port != 1
/-- A class is sent preemptable (R528): by its mask bit, or always under profile B (R530). -/
def State.preemptable (s : State) (port cls : Nat) : Bool :=
  s.preemptActive port && (s.rdP Fld.GTE_PORT_CFG_CM_PROFILE port == 2 || Nat.testBit (s.rdP Fld.GTE_PORT_CFG_PREEMPT_MASK port) cls)
/-- The minimum fragment: 64 × (1 + ADD_FRAG) bytes with its mCRC (R528). -/
def State.minFragment (s : State) (port : Nat) : Nat := 64 * (1 + s.rdP Fld.GTE_PORT_CFG_ADD_FRAG port)
/-- Y in byte times (R529). -/
def State.holdBytes (s : State) (port : Nat) : Nat := s.minFragment port + 75

/-! ### Times at the ball (R534, R538) -/

/-- Wire time of some bytes at a port in units of the time of day, rounded up: 0.4 ns per bit and unit of rate. -/
def State.bytesTime (s : State) (port n : Nat) : Nat :=
  let u := s.portUnits port
  if u = 0 then 0 else (n * 8 * 2 * todNs + 5 * u - 1) / (5 * u)
/-- Bytes a SecTAG and ICV add at a port (R121). -/
def State.secBytes (s : State) (port : Nat) : Nat :=
  if s.onP Fld.MSC_PORT_CFG_EN port then (if s.onP Fld.MSC_PORT_CFG_INCLUDE_SCI port then 32 else 24) else 0
/-- Wire time of a frame of a length with FCS (R538). -/
def State.wireTime (s : State) (port len : Nat) : Nat := s.bytesTime port (len + s.secBytes port + 20)

/-! ### Gate lists (R531 to R536) -/

/-- A stretch of a cycle, from `lo` to `hi`, with its entry. -/
structure GSeg where
  lo : Nat
  hi : Nat
  idx : Nat
  entry : BitVec 64
  deriving DecidableEq, Repr

/-- The stretches of a cycle (R533): the last entry lasts to its end, and the cycle's end cuts the entry in force. -/
def gateSegs (cyc : Nat) : List (BitVec 64) → Nat → Nat → List GSeg
  | [], _, _ => []
  | [e], i, lo => if lo < cyc then [⟨lo, cyc, i, e⟩] else []
  | e :: r, i, lo =>
    if lo < cyc then
      let hi := min cyc (lo + GateEntry.INTERVAL_NS.get e * todNs)
      ⟨lo, hi, i, e⟩ :: gateSegs cyc r (i + 1) hi
    else []

/-- The first entries of a list bank. -/
def Gte.entries (g : Gte) (bank : Bool) (len : Nat) : List (BitVec 64) :=
  (List.range len).map (fun i => Sparse.get g.bank (bank.toNat * 128 + i) 0)

/-- A position in the running list: its stretches, cycle time and cycle number, the position in the cycle, the entry in
force, whether it is held until the change (R536), the time to the change, and the time since the list's start. -/
structure GatePos where
  segs : List GSeg
  cyc : Nat
  k : Int
  pos : Nat
  cur : GSeg
  held : Bool
  /-- The next cycle does not start. -/
  lastCycle : Bool
  toChange : Option Nat
  fromStart : Nat
  deriving DecidableEq, Repr

/-- The position of an instant in a list, with the pending change (R533, R536). -/
def GateList.posAt (l : GateList) (es : List (BitVec 64)) (pending : Option GateList) (t : Nat) : Option GatePos :=
  let cyc := l.cycleNs * todNs
  let segs := gateSegs cyc es 0 0
  let k : Int := ((t : Int) - l.start) / (cyc : Int)
  let pos := (((t : Int) - l.start) % (cyc : Int)).toNat
  let cut := match pending with
    | some n =>
      let c : Int := n.start
      let kS : Int := (c - l.start) / (cyc : Int)
      let d := ((c - l.start) % (cyc : Int)).toNat
      if d < l.extNs * todNs then some kS else none
    | none => none
  let toChange := pending.map (fun n => n.start - t)
  let at_ := fun (q : Nat) => segs.find? (fun g => decide (g.lo ≤ q ∧ q < g.hi))
  match cut with
  | some kS =>
    if kS ≤ k then
      (segs.getLast?).map (fun g => ⟨segs, cyc, kS - 1, cyc + (((t : Int) - l.start) - kS * cyc).toNat, g, true, true, toChange, t - l.start⟩)
    else (at_ pos).map (fun g => ⟨segs, cyc, k, pos, g, false, decide (kS = k + 1), toChange, t - l.start⟩)
  | none => (at_ pos).map (fun g => ⟨segs, cyc, k, pos, g, false, false, toChange, t - l.start⟩)

/-- A gate is open in an entry: bits 0 to 15 the classes, bit 16 the express gate. -/
def gateOpenIn (e : BitVec 64) (gate : Nat) : Bool := Nat.testBit e.toNat gate

/-- The smaller of two times, either of which may be absent. -/
def minTime : Option Nat → Option Nat → Option Nat
  | some a, some b => some (min a b)
  | some a, none => some a
  | none, b => b

/-- Time until the gate's open run ends: none when it does not (R538). -/
def GatePos.closesIn (g : GatePos) (gate : Nat) : Option Nat :=
  if g.held then g.toChange
  else
    match (g.segs.filter (fun x => decide (g.pos < x.hi))).find? (fun x => !gateOpenIn x.entry gate) with
    | some x => minTime (some (x.lo - g.pos)) g.toChange
    | none =>
      if g.lastCycle then g.toChange
      else minTime ((g.segs.find? (fun x => !gateOpenIn x.entry gate)).map (fun x => g.cyc - g.pos + x.lo)) g.toChange

/-- Time since the gate's open run began: none when it has no beginning in the list. -/
def GatePos.openFor (g : GatePos) (gate : Nat) : Option Nat :=
  let back := match (g.segs.filter (fun x => decide (x.lo ≤ g.pos))).reverse.find? (fun x => !gateOpenIn x.entry gate) with
    | some x => some (g.pos - x.hi)
    | none => (g.segs.reverse.find? (fun x => !gateOpenIn x.entry gate)).map (fun x => g.pos + (g.cyc - x.hi))
  minTime back (some g.fromStart)

/-- Lengths of the open runs of a gate in the list, or none when the gate is always open (R539). -/
def GatePos.runs (g : GatePos) (gate : Nat) : Option (List Nat) :=
  if g.segs.all (fun x => gateOpenIn x.entry gate) then none
  else
    some (((g.segs.zip (g.segs.getLast?.toList ++ g.segs)).filter (fun (e : GSeg × GSeg) =>
        gateOpenIn e.1.entry gate && !gateOpenIn e.2.entry gate)).map (fun (e : GSeg × GSeg) =>
      (({ g with pos := e.1.lo, cur := e.1, held := false, lastCycle := false, toChange := none } : GatePos).closesIn gate).getD 0))

/-- How a port's gates stand (R531). -/
inductive GateMode where
  | allOpen
  | fallback
  | list (pos : GatePos)
  deriving DecidableEq, Repr

/-- The mode of a port's gates at an instant at the ball (R531, R537, R541). -/
def State.gateMode (s : State) (port t : Nat) : GateMode :=
  let g := s.gte port
  if !s.onP Fld.GTE_PORT_CFG_GATE_EN port then .allOpen
  else if !s.lht.coreValid || running g.fallbackUntil s.now
    || g.badEntry.any (fun e => e.1 / 128 == g.active.toNat && decide (e.1 % 128 < (g.oper.map GateList.len).getD 0)) then .fallback
  else
    match g.oper with
    | some l =>
      match l.posAt (g.entries g.active l.len) g.pending t with
      | some p => .list p
      | none => .fallback
    | none => .fallback

/-- W as latched at the last cycle start, in units of the time of day (R538). -/
def State.guardW (s : State) (port : Nat) : Nat := s.rdP Fld.GTE_EXP_QSTAT_W_NS port * todNs

/-- A gate is open at an instant. -/
def State.gateOpen (s : State) (port gate t : Nat) : Bool :=
  match s.gateMode port t with
  | .allOpen => true
  | .fallback => Nat.testBit (s.rdP Fld.GTE_FALLBACK_GATES port + s.rdP Fld.GTE_FALLBACK_EXP_GATE port * 65536) gate
  | .list g => gateOpenIn g.cur.entry gate

/-- A frame that takes a wire time may start in a gate's open run (R538). -/
def State.gateAdmits (s : State) (port gate wire : Nat) : Bool :=
  let t := s.ballTime port
  s.gateOpen port gate t &&
    (match s.gateMode port t with
     | .list g =>
       let w := s.guardW port
       (match g.openFor gate with | some d => decide (w ≤ d) | none => true)
         && (match g.closesIn gate with | some d => decide (wire + w ≤ d) | none => true)
     | _ => true)

/-- A frame exceeds every open run of its class (R539). -/
def State.gateTooLong (s : State) (port gate wire : Nat) : Bool :=
  match s.gateMode port (s.ballTime port) with
  | .list g =>
    match g.runs gate with
    | some r => r.all (fun n => decide (n < wire + 2 * s.guardW port))
    | none => false
  | _ => false

/-- Wire time a frame must fit with (R538): of a preemptable one only its first minimum fragment. -/
def State.frameWire (s : State) (port : Nat) (pre : Bool) (len : Nat) : Nat :=
  if pre then s.wireTime port (min len (s.minFragment port)) else s.wireTime port len

/-- The change time of a list (R535): its base, or the first of its cycle starts at least 1 µs after an instant. -/
def changeTime (base cyc now : Nat) : Nat :=
  let least := now + 1000 * todNs
  if least ≤ base then base else base + (least - base + cyc - 1) / cyc * cyc

end Sys2Proof.Machine
end

