-- ==== Sys2Proof/Machine/LhtOps.lean ====
section
/-! DEFINITION. The lighthouse's operations (spec 16, R463 to R490): time states, reference selection, samples, steps and slews,
the holdover model and the time-uncertainty bound. -/
namespace Sys2Proof.Machine

open Sys2Proof.Config

/-- A number held in a field of some bits, as a signed number. -/
def signedOf (w v : Nat) : Int := if 2 ^ (w - 1) ≤ v then (v : Int) - ((2 ^ w : Nat) : Int) else (v : Int)
/-- A signed number as a field of some bits holds it, saturating. -/
def fieldOf (w : Nat) (x : Int) : Nat :=
  let top : Int := ((2 ^ (w - 1) : Nat) : Int)
  let y := max (-top) (min (top - 1) x)
  (y % ((2 ^ w : Nat) : Int)).toNat
/-- Picoseconds in units of the time of day. -/
def psUnits (ps : Int) : Int := ps * (todNs : Int) / 1000

/-- What is known of a reference. -/
def State.ref (s : State) (r : Nat) : LhtRef := Sparse.get s.lht.refs r LhtRef.init
/-- Replace it. -/
def State.setRef (s : State) (r : Nat) (x : LhtRef) : State := { s with lht := { s.lht with refs := Sparse.put s.lht.refs r x LhtRef.init } }
/-- TIME_STATE (Table 16.3). -/
def State.timeState (s : State) : Nat := s.rd Fld.LHT_STATUS_TIME_STATE
/-- TIME_VALID. -/
def State.timeValid (s : State) : Bool := s.on Fld.LHT_STATUS_TIME_VALID
/-- The temperature in 0.01 °C. -/
def State.temp (s : State) : Int := signedOf 16 (s.rd Fld.LHT_TEMP_TEMP)

/-! ### The model in the backup domain (R480, R481) -/

/-- A model record's CRC is good. -/
def modelCrcOk (m : BitVec 256) : Bool := decide (HoldModel.CRC.get m = (crc32c 28 (m.toNat % 2 ^ 224)).toNat)
/-- MODEL_VALID follows from what has been read or fitted (R480, R486). -/
def State.showModel (s : State) : State :=
  s.wrB Fld.LHT_STATUS_MODEL_VALID (s.lht.modelGood && !s.on Fld.LHT_STATUS_OSC_FALLBACK
    && decide (s.rd Fld.LHT_MODEL_CFG_LEARN_MIN_H ≤ s.rd Fld.LHT_MODEL_U1_LEARN_H))
/-- The record of the model in force, with a sequence number (Table 16.5). -/
def State.modelRecord (s : State) (seq : Nat) : BitVec 256 :=
  let body := setFields (0 : BitVec 256) [(HoldModel.SEQ, seq), (HoldModel.VALID, 1), (HoldModel.Y0, s.rd Fld.LHT_MODEL_Y0_Y0),
    (HoldModel.D, s.rd Fld.LHT_MODEL_D_D), (HoldModel.K, s.rd Fld.LHT_MODEL_KT_K), (HoldModel.T_L, s.rd Fld.LHT_MODEL_KT_T_L),
    (HoldModel.U_F, s.rd Fld.LHT_MODEL_U0_U_F), (HoldModel.U_D, s.rd Fld.LHT_MODEL_U0_U_D), (HoldModel.U_T, s.rd Fld.LHT_MODEL_U1_U_T),
    (HoldModel.LEARN_H, s.rd Fld.LHT_MODEL_U1_LEARN_H), (HoldModel.STORE_SEC, if s.timeValid then s.todSec % 2 ^ 32 else 0)]
  HoldModel.CRC.set body (crc32c 28 body.toNat).toNat
/-- Write the model to the copy whose turn it is; a failed write raises EVT 19.8. -/
def State.storeModel (s : State) (ok : Bool) : State :=
  if !ok then s.raise Ev.LHT_MODEL_STORE_ERR
  else
    let seq := (max (HoldModel.SEQ.get s.backup.modelA) (HoldModel.SEQ.get s.backup.modelB) + 1) % 65536
    let seq' := if s.lht.nextB then (HoldModel.SEQ.get s.backup.modelA + 1) % 65536 else if s.lht.modelGood then (HoldModel.SEQ.get s.backup.modelB + 1) % 65536 else seq
    let m := s.modelRecord seq'
    let b := if s.lht.nextB then { s.backup with modelB := m } else { s.backup with modelA := m }
    { s with backup := b, lht := { s.lht with nextB := !s.lht.nextB } }
/-- Load a record into the model registers. -/
def State.loadModel (s : State) (m : BitVec 256) (retrace : Nat) : State :=
  let s1 := ((s.wr Fld.LHT_MODEL_Y0_Y0 (HoldModel.Y0.get m)).wr Fld.LHT_MODEL_D_D (HoldModel.D.get m)).wr Fld.LHT_MODEL_KT_K (HoldModel.K.get m)
  let s2 := (s1.wr Fld.LHT_MODEL_KT_T_L (HoldModel.T_L.get m)).wr Fld.LHT_MODEL_U0_U_F (min 65535 (HoldModel.U_F.get m + retrace))
  ((s2.wr Fld.LHT_MODEL_U0_U_D (HoldModel.U_D.get m)).wr Fld.LHT_MODEL_U1_U_T (HoldModel.U_T.get m)).wr Fld.LHT_MODEL_U1_LEARN_H (HoldModel.LEARN_H.get m)
/-- At start-up the lighthouse reads both copies and uses the good one of higher SEQ, compared modulo 65,536; after a cold reset
U_F is raised by RETRACE_PPT (R481). -/
def State.readModel (s : State) (cold : Bool) : State :=
  let a := s.backup.modelA
  let b := s.backup.modelB
  let retrace := if cold then s.rd Fld.LHT_MODEL_CFG_RETRACE_PPT * 100 else 0
  let newerB := decide ((HoldModel.SEQ.get b + 65536 - HoldModel.SEQ.get a) % 65536 < 32768)
  let pick := if modelCrcOk a && modelCrcOk b then some (if newerB then (b, false) else (a, true))
    else if modelCrcOk a then some (a, true) else if modelCrcOk b then some (b, false) else none
  match pick with
  | some (m, nextB) =>
    let t := s.loadModel m retrace
    ({ t with lht := { t.lht with modelGood := true, nextB := nextB } }).showModel
  | none =>
    let t := s.wr Fld.LHT_MODEL_U1_LEARN_H 0
    (({ t with lht := { t.lht with modelGood := false } }).showModel).raise Ev.LHT_MODEL_STORE_ERR

/-! ### The frequency of the time DPLL (R474, R479) -/

/-- The seconds of LOCKED that HOLDOVER looks back on: 1,000 s that end 10 s before the loss. -/
def lookBack : Nat := 1010 * sClk
/-- Y_E (R479): the mean frequency over the 1,000 s that end 10 s before a loss now, or the model's Y0 when LOCKED has lasted less. -/
def State.entryFreq (s : State) : Int :=
  let w := s.lht.freqs.filter (fun (e : Nat × Int) => decide (s.now ≤ e.1 + lookBack ∧ e.1 + 10 * sClk ≤ s.now))
  if s.timeState ≠ 2 ∨ s.now < s.lht.lockedAt + lookBack ∨ w.isEmpty = true then signedOf 32 (s.rd Fld.LHT_MODEL_Y0_Y0) * 10000
  else (w.map (fun e => e.2)).sum / (w.length : Int)
/-- y(t) of R479, in 0.0001 ppt. -/
def State.holdFreq (s : State) : Int :=
  s.lht.yE + signedOf 32 (s.rd Fld.LHT_MODEL_D_D) * 10 * ((s.now - s.lht.holdAt : Nat) : Int) / ((3600 * sClk : Nat) : Int)
    + signedOf 16 (s.rd Fld.LHT_MODEL_KT_K) * (s.temp - s.lht.tE)
/-- The frequency the time DPLL holds: that of the SyncE DPLL under HYBRID, the model's in HOLDOVER, else its loop's. -/
def State.dpllFreq (s : State) : Int :=
  if s.on Fld.LHT_CTRL_HYBRID && s.rd Fld.LHT_STATUS_SYNCE_STATE == 2 then synceFreq s.now
  else if s.timeState = 3 then s.holdFreq
  else s.lht.freq
/-- A phase sample moves the loop's frequency, which LOCKED keeps for R479. -/
def State.sampleFreq (s : State) (off : Int) : State :=
  let f := loopFreq (s.rd Fld.LHT_TIME_CFG_BW) s.dpllFreq off
  let kept := s.lht.freqs.filter (fun (e : Nat × Int) => decide (s.now ≤ e.1 + lookBack))
  { s with lht := { s.lht with freq := f, freqs := if s.timeState = 2 then (s.now, f) :: kept else [] } }

/-! ### The radio clock (R474, R475) -/

/-- The radio clock runs: it is locked, and RADIO_HZ is not 0. -/
def State.radioRuns (s : State) : Bool := s.on Fld.LHT_STATUS_RADIO_LOCKED && s.rd Fld.LHT_RADIO_CFG_RADIO_HZ != 0
/-- Cycles of the radio clock since time 0, in parts of a second's units: a whole number of cycles fits in each second, so a rising edge
coincides with each whole second. -/
def State.radioPhase (s : State) : Nat := s.tod * s.rd Fld.LHT_RADIO_CFG_RADIO_HZ
/-- The cycle of the radio clock whose rising edge lies in the last core clock, when there is one; none before it has realigned. -/
def State.radioEdge (s : State) : Option Nat :=
  if s.radioRuns = true ∧ s.lht.radioFrom ≤ s.tod ∧ s.radioPhase % todS < todClk * s.rd Fld.LHT_RADIO_CFG_RADIO_HZ then
    some (s.radioPhase / todS)
  else none
/-- The radio clock aligns to the first second after an instant, and no edge of a partial cycle is emitted before it. -/
def State.alignRadio (s : State) (from_ : Nat) : State :=
  { s with lht := { s.lht with radioFrom := (from_ / todS + 1) * todS } }

/-! ### States (R477) -/

/-- Move to a time state: EVT 19.0, with what entry to HOLDOVER and FREE-RUN adds. -/
def State.setTimeState (s : State) (st : Nat) : State :=
  if s.timeState = st then s
  else
    let s1 := (s.wr Fld.LHT_STATUS_TIME_STATE st).raise Ev.LHT_STATE_CHANGE
    let s2 := { s1 with lht := { s1.lht with lockFrom := none, freq := s.dpllFreq, freqs := [],
                                             lockedAt := if st = 2 then s.now else s1.lht.lockedAt } }
    if st = 3 then
      let s3 := { s2 with lht := { s2.lht with holdAt := s2.now, tuE := s2.rd Fld.LHT_TU_TU, tE := s2.temp, theta := 0, slew := 0,
                                               yE := s.entryFreq } }
      (((s3.wr Fld.LHT_HOLD_TIME_SECONDS 0).bump .LHT_HOLDOVER_ENTRIES).storeModel true).raise Ev.LHT_HOLDOVER
    else if st = 0 then ((s2.wr Fld.LHT_TU_TU 0xFFFFFFFF).raise Ev.LHT_FREERUN)
    else s2
/-- Move to a SyncE state: EVT 19.10 (R474). -/
def State.setSynceState (s : State) (st : Nat) : State :=
  if s.rd Fld.LHT_STATUS_SYNCE_STATE = st then s else (s.wr Fld.LHT_STATUS_SYNCE_STATE st).raise Ev.LHT_SYNCE_STATE

/-! ### Selection (R469, R471, R513) -/

/-- The edges of a PPS input carry valid labels (R470): the first two messages only establish the sequence. -/
def State.labelled (s : State) (r : Nat) : Bool :=
  s.on Fld.LHT_TOD_CFG_RX_EN && s.rd Fld.LHT_TOD_CFG_RX_PPS == r && decide (3 ≤ s.lht.todRun)
/-- A reference serves as a time reference (R467, R469). -/
def State.servesTime (s : State) (r : Nat) : Bool := r == 6 || (decide (r < 2) && (s.labelled r || s.timeValid))
/-- A reference is QUALIFIED with PRIO above 0. -/
def State.refUsable (s : State) (r : Nat) : Bool :=
  s.on Fld.LHT_REF_STATUS_QUALIFIED 0 r && s.rd Fld.LHT_REF_CFG_PRIO 0 r != 0
/-- Candidates of the time DPLL. -/
def State.timeCands (s : State) : List Nat :=
  if s.on Fld.LHT_CTRL_TIME_EN then [0, 1, 6].filter (fun r => s.refUsable r && s.servesTime r) else []
/-- Rank of a reference's quality level: 0, none known, comes last. -/
def State.qlRank (s : State) (r : Nat) : Nat := let q := s.rd Fld.PTP_SYNCE_QL_CURRENT 0 r; if q = 0 then 16 else q
/-- Candidates of the SyncE DPLL; with QL_SELECT only those of the best quality level (R513). -/
def State.synceCands (s : State) : List Nat :=
  let c := if s.on Fld.LHT_CTRL_SYNCE_EN then (List.range 6).filter s.refUsable else []
  if s.on Fld.PTP_SYNCE_CFG_QL_SELECT then c.filter (fun r => c.all (fun q => decide (s.qlRank r ≤ s.qlRank q))) else c
/-- The candidate of lowest PRIO, ties to the lower number. -/
def State.bestRef (s : State) (c : List Nat) : Option Nat :=
  match c with
  | [] => none
  | a :: l => some (l.foldl (fun m r => if s.rd Fld.LHT_REF_CFG_PRIO 0 r < s.rd Fld.LHT_REF_CFG_PRIO 0 m then r else m) a)
/-- Select a time reference, or none (15): EVT 19.2 for a change to another reference. -/
def State.takeTimeRef (s : State) (r : Nat) : State :=
  let s1 := s.wr Fld.LHT_STATUS_TIME_REF r
  if r = 15 then s1 else (s1.bump .LHT_SWITCHES).raise Ev.LHT_REF_SWITCH .device 0 r
/-- The time DPLL's selection is brought up to date (R471, R473, R477). -/
def State.reselTime (s : State) : State :=
  let sel := s.rd Fld.LHT_STATUS_TIME_REF
  let c := s.timeCands
  let st := s.timeState
  if !s.on Fld.LHT_CTRL_TIME_EN then (s.wr Fld.LHT_STATUS_TIME_REF 15).setTimeState 0
  else if c.contains sel then s
  else
    match s.bestRef c with
    | some r =>
      let t := s.takeTimeRef r
      if st = 0 ∨ st = 3 then t.setTimeState 1 else { t with lht := { t.lht with lockFrom := none } }
    | none =>
      if sel = 15 then s
      else
        let t := s.takeTimeRef 15
        t.setTimeState (if t.timeValid && t.on Fld.LHT_STATUS_MODEL_VALID then 3 else 0)
/-- The SyncE DPLL's selection is brought up to date (R471, R474). -/
def State.reselSynce (s : State) : State :=
  let sel := s.rd Fld.LHT_STATUS_SYNCE_REF
  let c := s.synceCands
  let st := s.rd Fld.LHT_STATUS_SYNCE_STATE
  if !s.on Fld.LHT_CTRL_SYNCE_EN then (s.wr Fld.LHT_STATUS_SYNCE_REF 15).setSynceState 0
  else if c.contains sel then s
  else
    match s.bestRef c with
    | some r =>
      let t := ((s.wr Fld.LHT_STATUS_SYNCE_REF r).bump .LHT_SWITCHES).raise Ev.LHT_REF_SWITCH .device 0 (r + 16)
      if st = 0 ∨ st = 3 then t.setSynceState 1 else t
    | none =>
      if sel = 15 then s
      else (s.wr Fld.LHT_STATUS_SYNCE_REF 15).setSynceState (if s.on Fld.LHT_STATUS_MODEL_VALID then 3 else 0)
/-- Both selections. -/
def State.reselect (s : State) : State := s.reselTime.reselSynce

/-! ### Monitoring (R468) -/

/-- The slave port follows QUALIFIED of reference 6: SLAVE with it, UNCALIBRATED without (Table 17.3). -/
def State.ptpServo (s : State) (r : Nat) : State :=
  match s.ptpSlave with
  | some p => if r = 6 then s.enterPtp p (if s.on Fld.LHT_REF_STATUS_QUALIFIED 0 6 then 9 else 8) else s
  | none => s

/-- A reference fails a check: a QUALIFIED one is lost, and it must qualify from zero. -/
def State.refFails (s : State) (r : Nat) (cause : Fld) : State :=
  let was := s.on Fld.LHT_REF_STATUS_QUALIFIED 0 r
  let s1 := ((s.wr cause 1 0 r).wr Fld.LHT_REF_STATUS_QUALIFIED 0 0 r).setRef r { s.ref r with goodSince := none, qualSince := none, discards := 0 }
  let s2 := if was then (s1.bump .LHT_REF_LOSSES r).raise Ev.LHT_REF_LOST .device 0 r else s1
  s2.reselect.ptpServo r
/-- A reference is lost altogether. -/
def State.refGone (s : State) (r : Nat) : State :=
  let s1 := (s.setRef r { s.ref r with lastTs := none, lastAt := none, offset := none }).wr Fld.LHT_REF_STATUS_PRESENT 0 0 r
  s1.refFails r Fld.LHT_REF_STATUS_LOST
/-- A reference passes its checks: its monitor's bits clear and its qualification runs. -/
def State.refGood (s : State) (r : Nat) : State :=
  let x := s.ref r
  let s1 := ((s.wr Fld.LHT_REF_STATUS_PRESENT 1 0 r).wr Fld.LHT_REF_STATUS_FREQ_FAULT 0 0 r).wr Fld.LHT_REF_STATUS_PHASE_JUMP 0 0 r
  (s1.wr Fld.LHT_REF_STATUS_LOST 0 0 r).setRef r { x with discards := 0, goodSince := some (x.goodSince.getD s.now) }
/-- Discard an edge or a sample (R493); `limit` consecutive ones disqualify the reference (none for 0), and a reference that has
not qualified yet starts again. -/
def State.refDiscard (s : State) (r limit : Nat) : State :=
  let x := s.ref r
  let good := if s.on Fld.LHT_REF_STATUS_QUALIFIED 0 r then x.goodSince else none
  let s1 := (s.setRef r { x with discards := x.discards + 1, goodSince := good }).bump .LHT_REF_DISCARDS r
  if limit ≠ 0 ∧ limit ≤ x.discards + 1 then s1.refFails r Fld.LHT_REF_STATUS_PHASE_JUMP else s1
/-- JUMP of a reference in units. -/
def State.jumpOf (s : State) (r : Nat) : Int := ((s.rd Fld.LHT_REF_CFG_JUMP 0 r * 10 * todNs : Nat) : Int)
/-- Show the filtered offset of a reference. -/
def State.showOffset (s : State) (r : Nat) (off : Int) : State :=
  (s.setRef r { s.ref r with offset := some off }).wr Fld.LHT_REF_STATUS_OFFSET (fieldOf 24 (off / (todNs : Int))) 0 r

/-! ### Steps and slews (R475, R478, R537) -/

/-- An offset from the nearest whole second. -/
def secOff (x : Int) : Int := (x + ((todS / 2 : Nat) : Int)) % ((todS : Nat) : Int) - ((todS / 2 : Nat) : Int)
/-- The counter is stepped: counted, EVT 19.3; PPS edges wait for a whole second at least 500 ms ahead (R488), and gated ports
take their fallback for 1 µs, after which a change time that has passed, or lies less than 1 µs ahead, is computed again (R537). -/
def State.stepTime (s : State) (to_ : Nat) : State :=
  let d : Int := (to_ : Int) - (s.tod : Int)
  let refs := s.lht.refs.map (fun (e : Nat × LhtRef) => (e.1, { e.2 with lastTs := e.2.lastTs.map (· + d), offset := e.2.offset.map (fun o => if e.1 < 2 then secOff (o + d) else o + d) }))
  let from_ := (to_ + todS / 2 + todS - 1) / todS * todS
  let l := { s.lht with refs := refs, slew := 0, lockFrom := none, err := s.lht.err + d, ppsFrom := from_ }
  let s1 := ({ s with tod := to_, lht := l }).alignRadio to_
  let s2 := (List.range 96).foldl (fun t p =>
    let g := t.gte p
    let late := g.pending.any (fun l => decide (l.start < to_ + 1000 * todNs))
    if t.onP Fld.GTE_PORT_CFG_GATE_EN p || late then t.setGte p { g with fallbackUntil := some (t.now + usClk), redo := late } else t) s1
  (s2.bump .LHT_STEPS).raise Ev.LHT_TIME_STEP
/-- A sample of the selected time reference (R477, R478): `off` is lighthouse time less the reference's. -/
def State.timeSample (s : State) (off : Int) : State :=
  let bw := s.rd Fld.LHT_TIME_CFG_BW
  let e := dpllFilter bw s.lht.err off
  let ok := decide (e.natAbs ≤ s.rd Fld.LHT_TIME_CFG_LOCK_NS * todNs)
  let from_ := if ok then some (s.lht.lockFrom.getD s.now) else none
  let s1 := ({ s with lht := { s.lht with err := e, lockFrom := from_ } }).sampleFreq off
  let to_ := ((s.tod : Int) - off).toNat
  if s.timeState = 1 ∧ s.timeValid = false then (s1.stepTime to_).wr Fld.LHT_STATUS_TIME_VALID 1
  else if s.timeState = 1 ∧ s.rd Fld.LHT_STEP_CFG_STEP_US * 1000 * todNs < off.natAbs then s1.stepTime to_
  else { s1 with lht := { s1.lht with slew := -off } }

/-- A phase sample of reference 6, from PTP (R493) or from a Fleit link (R638): discarded beyond JUMP of the filtered offset, else
shown and handed to the time DPLL when that has selected reference 6. -/
def State.phaseSample6 (s : State) (off : Int) : State :=
  let r := s.ref 6
  let near := match r.offset with
    | some o => decide (((off - o).natAbs : Int) ≤ s.jumpOf 6)
    | none => true
  let s1 := s.setRef 6 { r with lastAt := some s.now }
  if !near then s1.refDiscard 6 8
  else
    let s2 := (s1.refGood 6).showOffset 6 (match r.offset with
      | some o => dpllFilter (s1.rd Fld.LHT_TIME_CFG_BW) o off
      | none => off)
    if s2.rd Fld.LHT_STATUS_TIME_REF = 6 ∧ s2.timeState ≠ 0 then s2.timeSample off else s2

/-! ### The time-uncertainty bound (R482) -/

/-- Upper bound in ns of a clockAccuracy code (IEEE 1588; R507, 0xFE counts as 1,000 ns). -/
def accuracyNs (c : Nat) : Nat :=
  [25, 100, 250, 1000, 2500, 10000, 25000, 100000, 250000, 1000000, 2500000, 10000000, 25000000, 100000000, 250000000, 1000000000,
    10000000000].getD (c - 0x20) 1000
/-- A of the selected reference (R482, R507, R638). -/
def State.refAccuracy (s : State) : Nat :=
  let r := s.rd Fld.LHT_STATUS_TIME_REF
  if r = 6 ∧ s.on Fld.FLT_SYS_CFG_TIME_FROM_LINK = true then s.flt.linkTu + 5
  else if r = 6 then
    match s.ptp.parent with
    | some (d, _) => (if d.gmAcc < 0x20 ∨ 0x30 < d.gmAcc then 1000 else accuracyNs d.gmAcc) + s.rd Fld.PTP_CLASS_CFG_HOP_NS * d.steps
    | none => 1000
  else s.rd Fld.LHT_REF_CFG_ACCURACY_NS 0 r
/-- A division rounded up. -/
def ceilDiv (a b : Nat) : Nat := (a + b - 1) / b
/-- What TU has grown by after some core clocks of HOLDOVER, in ns rounded up (R482). -/
def State.holdGrowth (s : State) (clk : Nat) : Nat :=
  if s.on Fld.LHT_CTRL_HYBRID && s.rd Fld.LHT_STATUS_SYNCE_STATE == 2 then
    ceilDiv (s.rd Fld.LHT_HOLD_CFG_HYB_RATE_PPT * clk) (sClk * 1000)
  else
    ceilDiv (s.rd Fld.LHT_MODEL_U0_U_F * clk * sClk * 72000 + s.rd Fld.LHT_MODEL_U0_U_D * clk * clk
      + s.rd Fld.LHT_MODEL_U1_U_T * s.lht.theta * sClk * 720) (sClk * sClk * 7200000000)
/-- TU now. -/
def State.tuNow (s : State) : Nat :=
  let st := s.timeState
  if st = 0 ∨ s.timeValid = false then 0xFFFFFFFF
  else if st = 3 then min 0xFFFFFFFE (s.lht.tuE + s.holdGrowth (s.now - s.lht.holdAt))
  else min 0xFFFFFFFE (s.refAccuracy + ceilDiv (max s.lht.err.natAbs s.lht.slew.natAbs) todNs + 5)

end Sys2Proof.Machine
end

