-- ==== Sys2Proof/Machine/Clock.lean ====
section
/-! DEFINITION. A core clock in which no command is waiting (log entry 2): time passes, and what the pipelines do by themselves goes on. -/
namespace Sys2Proof.Machine

/-- One core clock with no command: time of day passes by its own clock, at the frequency the time DPLL holds (R33, R464, R479), and the
flushes of ports that went down go on (R235), as do the changes of the queue maps (R409). -/
def State.tick (s : State) : State :=
  let t := s.ownFlushes.mapSteps
  { t with now := t.now + 1, tod := t.tod + Config.todPerClock t.now t.dpllFreq }

end Sys2Proof.Machine
end

