-- ==== Sys2Proof/Machine/BufferPools.lean ====
section
/-! DEFINITION. The commands of the buffer pool manager and of the spill (spec 13). -/
namespace Sys2Proof.Machine

open Sys2Proof.Config

/-- ALLOC (R380). -/
def execAlloc (slice req pick : Nat) (s : State) : Host.Outcome State Fault Refusal :=
  .next (if (requesterPools req).isEmpty then s else (s.alloc slice req pick).1)

/-- SHARE (R382): N from 1 to 4,096. -/
def execShare (slice req n mask : Nat) (ids : List Nat) (s : State) : Host.Outcome State Fault Refusal :=
  .next (s.share slice req n mask ids)

/-- HANDOFF (R384): refused under quota, the chain stays with its owner. -/
def execHandoff (slice req to_ : Nat) (ids : List Nat) (s : State) : Host.Outcome State Fault Refusal :=
  .next (s.handoff slice req to_ ids).1

/-- RELEASE (R382). -/
def execRelease (slice req : Nat) (ids : List Nat) (s : State) : Host.Outcome State Fault Refusal :=
  .next (s.release slice req ids)

/-- FREE (R382). -/
def execFree (slice req : Nat) (ids : List Nat) (s : State) : Host.Outcome State Fault Refusal :=
  .next (s.free slice req ids)

/-- RELEASE_FREE (R383). -/
def execReleaseFree (slice req : Nat) (ids : List Nat) (s : State) : Host.Outcome State Fault Refusal :=
  .next (s.releaseFree slice req ids)

/-- Issue the write of the oldest staging buffer of a queue (R390): one write at a time, charged to the write half of
the spill share (R395), to a chunk of the device-wide free list. -/
def State.writeStage (s : State) (slice q pick : Nat) : State :=
  let u := s.queue slice q
  match u.stages with
  | g :: rest =>
    if g.chunk.isNone then
      let (s1, ok) := s.charge 0 actSpillWr (256 * runCells g.runs) (qKey slice q)
      if ok then
        match s1.takeChunk slice pick with
        | (s2, some c) => (s2.setQueue slice q { u with stages := { g with chunk := some c } :: rest }).hbSend .spill 1 3 true
          (chunkAddr c) (256 * runCells g.runs)
        | (s2, none) => s2
      else s1
    else s
  | [] => s

/-- STAGE_AGE_EXPIRY (R390): a staging buffer is written STAGE_AGE_US after its first cell while the queue holds chunks
or a fetch is in flight. -/
def execStageAgeExpiry (slice q pick : Nat) (s : State) : Host.Outcome State Fault Refusal :=
  let u := s.queue slice q
  match u.stages.head? with
  | some g =>
    if g.firstAt + s.rd Fld.BPM_SPILL_CFG_STAGE_AGE_US slice * usClk ≤ s.now ∧ (u.chunks ≠ [] ∨ u.fetch ≠ none) then
      .next (s.writeStage slice q pick)
    else .next s
  | none => .next s

/-- CHUNK_WRITE_ISSUE (R390): a staging buffer that holds 64 cells is written to a harbour chunk. -/
def execChunkWriteIssue (slice q pick : Nat) (s : State) : Host.Outcome State Fault Refusal :=
  match (s.queue slice q).stages.head? with
  | some g => if runCells g.runs = 64 then .next (s.writeStage slice q pick) else .next s
  | none => .next s

/-- CHUNK_WRITE_COMPLETE (R390): the chunk joins the queue's chunks and its staging buffer becomes FREE. -/
def execChunkWriteComplete (slice q : Nat) (s : State) : Host.Outcome State Fault Refusal :=
  let u := s.queue slice q
  match u.stages with
  | g :: rest =>
    match g.chunk with
    | some c =>
      let s1 := if g.runs.isEmpty then (s.setQueue slice q { u with stages := rest }).freeChunk slice c
        else s.setQueue slice q { u with stages := rest, chunks := u.chunks ++ [(c, g.runs)] }
      .next (((s1.releaseFree slice reqSpill [g.buf]).bump .BPM_CHUNKS_WRITTEN slice).tryLink slice q)
    | none => .next s
  | [] => .next s

/-- CHUNK_FETCH_ISSUE (R391): when the cove part of a SPILLING queue is at or below FETCH_MARK, its oldest chunk is
fetched into a P16K buffer, charged to the read half (R395); with no chunk left the staging buffer is linked. -/
def execChunkFetchIssue (slice q pick : Nat) (s : State) : Host.Outcome State Fault Refusal :=
  let u := s.queue slice q
  if u.spilling && u.fetch.isNone && decide (u.coveCells ≤ s.fetchMark slice q) then
    match u.chunks with
    | (c, runs) :: rest =>
      let (s1, ok) := s.charge 0 actSpillRd (256 * runCells runs) (qKey slice q)
      if ok then
        match s1.alloc slice reqSpill pick with
        | (s2, some b) => .next ((s2.setQueue slice q { s2.queue slice q with chunks := rest, fetch := some (c, runs, b) }).hbSend
            .spill 1 1 false (chunkAddr c) (256 * runCells runs))
        | (s2, none) => .next s2
      else .next s1
    | [] => .next (s.tryLink slice q)
  else .next s

/-- CHUNK_FETCH_RETURN (R391, R392): the fetched buffer is linked after the cove part and handed to PACKET, and the chunk
returns to the free list.  A fetch with an uncorrectable error drops every packet with a cell in the chunk and retires
it (R399). -/
def execChunkFetchReturn (slice q : Nat) (ok : Bool) (s : State) : Host.Outcome State Fault Refusal :=
  let u := s.queue slice q
  match u.fetch with
  | some (c, runs, b) =>
    let s1 := s.setQueue slice q { u with fetch := none }
    if ok && !s1.anyRetired then
      .next ((((s1.freeChunk slice c).bump .BPM_CHUNKS_FETCHED slice).linkBuffer slice q b runs).tryLink slice q)
    else
      let s2 := ((s1.retireChunk slice c).releaseFree slice reqSpill [b])
      let s3 := (runItems runs).foldl (fun t id => t.dropItem slice q id) s2
      .next (((s3.bump .BPM_CHUNK_LOST slice).raise Ev.BPM_CHUNK_LOST .pipeline slice).tryLink slice q)
  | none => .next s

/-- The buffers of a slice a reclaim sweep takes from a requester (R400). -/
def State.sweepIds (s : State) (slice req : Nat) : List Nat :=
  (s.tm.bufs.filter (fun e => e.1 / 98304 == slice &&
    ((BufState.STATE.get e.2 == 1 && BufState.OWNER.get e.2 == req)
      || (BufState.STATE.get e.2 == 2 && BufState.LAST_OWNER.get e.2 == req)))).map (fun e => e.1 % 98304)

/-- The packets that lose a buffer, or for SPILL a chunk, to a reclaim sweep, each with its queue (R400). -/
def State.sweepHits (s : State) (slice req : Nat) : List (Nat × Nat) :=
  let ids := s.sweepIds slice req
  (s.tm.items.filter (fun e => e.2.slice == slice && e.2.chain.any (fun c => ids.contains c.1))).map (fun e => (e.1, e.2.queue)) ++
    (if req = reqSpill then
      (s.tm.queues.filter (fun e => e.1 / 65536 == slice)).flatMap (fun e =>
        (e.2.chunks.flatMap (fun c => runItems c.2)).map (fun id => (id, e.1 % 65536)))
    else [])

/-- Such a packet is dropped; of its chain only what is still held is released (R400). -/
def State.sweepDrop (s : State) (slice : Nat) (e : Nat × Nat) : State :=
  let live := (s.item e.1).chain.filter (fun c => BufState.STATE.get (s.buf slice c.1) == 1)
  ({ s with tm := { s.tm with items := Sparse.modify s.tm.items e.1 (fun x => { x with chain := live }) } }).dropItem slice e.2 e.1

/-- The requester's block has reported quiet (R400): the queues, the replicator and the spill report it with the queue block. -/
def State.requesterQuiet (s : State) (slice req : Nat) : Bool :=
  match req with
  | 0 | 1 | 2 => s.on Fld.QUE_CTRL_QUIET slice && !s.on Fld.QUE_CTRL_EN slice
  | 3 => s.on Fld.HST_CTRL_QUIET
  | 4 => s.on Fld.KPR_CTRL_QUIET
  | 5 => s.on Fld.FLT_CTRL_QUIET
  | _ => false

/-- BUFFER_RECLAIM_SWEEP (R400): every buffer the quiet requester still holds is set FREE and credited, and for SPILL every
chunk of the slice's queues returns; packets that lose a buffer or chunk are dropped. -/
def execBufferReclaimSweep (slice req : Nat) (s : State) : Host.Outcome State Fault Refusal :=
  if s.requesterQuiet slice req then
    let ids := s.sweepIds slice req
    let s0 := if req = reqSpill then s.foundChunks else s
    let s1 := ids.foldl (fun t id => t.free1 slice id) s0
    let s2 := (s.sweepHits slice req).foldl (fun t e => t.sweepDrop slice e) s1
    .next ({ (s2.bump .BPM_RECLAIMED (slice * 8 + req) ids.length).raise Ev.BPM_RECLAIM .pipeline slice with
      tm := { s2.tm with sweepUntil := Sparse.insert s2.tm.sweepUntil slice (s.now + 47616) } })
  else .next s

/-- BUF_READ (R378): the state entry of a buffer is returned. -/
def execBufRead (tag slice id : Nat) (s : State) : Host.Outcome State Fault Refusal :=
  .next (s.mbxOp tag opBufRead (fun t =>
    let u := t.readBuf slice id
    (u, ⟨.ok, 0, (u.buf slice id).toNat⟩)))

end Sys2Proof.Machine
end

