-- ==== Sys2Proof/Machine/EventBlock.lean ====
section
/-! DEFINITION. The commands of the event block (spec 27): raising a source, clearing its status, its routes, the
folding windows of MSI-X and the log, and the host's log read pointer. -/
namespace Sys2Proof.Machine

open Sys2Proof.Config

/-- The implemented source at a group and index (Table 27.1); every other one is reserved (R760). -/
def source? (g i : Nat) : Option Source := Ev.all.find? (fun e => e.group == g && e.index == i)

/-- The bits of the implemented sources of a group. -/
def sourceMask (g : Nat) : Nat :=
  Ev.all.foldl (fun a e => if e.group = g then a + 2 ^ e.index else a) 0

/-- A written word sets a bit of a reserved source (R775). -/
def setsReservedSource (g : Nat) (v : Word) : Bool :=
  Nat.land v.toNat (2 ^ 32 - 1 - sourceMask g) != 0

/-- A raise that met a status already set in this clock, and now meets its clear, counts as new for MSI-X (R761). -/
def State.newRaises (s : State) (g : Nat) (v : Word) : State :=
  let meets := Ev.all.any (fun e => e.group == g && v.getLsbD e.index && s.evtRoute e .msix && Sparse.find s.evt.againAt e.key == some s.now)
  if meets then s.evtMsix g else s
/-- EVT_STATUS_CLEAR (R761): the ones written clear status bits, but not one that is set in the same clock (R8); EVENT_N follows
(R763). -/
def execEvtStatusClear (who : Agent) (g : Nat) (v : Word) (s : State) : Host.Outcome State Fault Refusal :=
  .next (s.busWrite who Reg.EVT_STATUS 0 g 0 v (setsReservedSource g v) (fun t => t.newRaises g v))

/-- The register of a route (R762). -/
def routeReg : Route → Reg
  | .pin => Reg.EVT_PIN_EN
  | .msix => Reg.EVT_MSIX_EN
  | .kpr => Reg.EVT_KPR_EN
  | .log => Reg.EVT_LOG_EN

/-- Deliver a standing raise to a destination as if it had just arrived (R762). -/
def State.deliverEvent (s : State) (e : Source) (rt : Route) : State :=
  let r := (Sparse.find s.evt.latest e.key).getD (s.logRec e .device 0 0)
  match rt with
  | .pin => s
  | .msix => s.evtMsix e.group
  | .kpr => let (t, dropped) := s.evtKpr r; if dropped then t.raiseOwn Ev.EVT_KPR_DROP else t
  | .log => let (t, lost) := s.evtLog e r; if lost then t.raiseOwn Ev.EVT_LOG_LOST else t

/-- Deliver the standing raises whose route bit has just been set. -/
def State.deliverNew (s : State) (g : Nat) (rt : Route) (old : Nat) : State :=
  (Ev.all.filter (fun e => e.group == g)).foldl (fun t e =>
    if t.evtRoute e rt && old / 2 ^ e.index % 2 == 0 && t.evtStatus e then t.deliverEvent e rt else t) s

/-- EVT_ROUTE_WRITE (R762). -/
def execEvtRouteWrite (who : Agent) (route : Route) (g : Nat) (v : Word) (s : State) :
    Host.Outcome State Fault Refusal :=
  let old := (s.rdReg (routeReg route) 0 g 0).toNat
  .next (s.busWrite who (routeReg route) 0 g 0 v (setsReservedSource g v) (fun t => t.deliverNew g route old))

/-- MSIX_FOLD_EXPIRY (R764): 10 µs after a group's last message the folded message is sent; while the PCIe link is
down nothing is sent, then or later. -/
def execMsixFoldExpiry (g : Nat) (s : State) : Host.Outcome State Fault Refusal :=
  if Sparse.get s.evt.msgFold g false
      && decide (Sparse.get s.evt.lastMsg g 0 + 10 * usClk ≤ s.now) then
    let t := { s with evt := { s.evt with msgFold := Sparse.erase s.evt.msgFold g } }
    .next (t.evtMsix g)
  else .next s

/-- LOG_FOLD_EXPIRY (R767): 10 µs after a source's last record, the raises counted since are written as one record
that carries the latest of them, with their number in REPEAT. -/
def execLogFoldExpiry (g i : Nat) (s : State) : Host.Outcome State Fault Refusal :=
  let (t, lost) := s.writeFold (g * 32 + i)
  .next (if lost then t.raiseOwn Ev.EVT_LOG_LOST else t)

/-- LOG_RD_WRITE (R768): a value that puts (WR − RD) mod 2^32 above 512, which every RD beyond WR does, is rejected. -/
def execLogRdWrite (who : Agent) (v : Word) (s : State) : Host.Outcome State Fault Refusal :=
  let unread := (s.rd Fld.EVT_LOG_WR_COUNT + 2 ^ 32 - v.toNat) % 2 ^ 32
  .next (s.busWrite who Reg.EVT_LOG_RD 0 0 0 v (decide (unread > 512)) id)

end Sys2Proof.Machine
end

