-- ==== Sys2Proof/Machine/KeeperSend.lean ====
section
/-! DEFINITION. Packets the keepers send through keeper port 101 (spec 10, R312; spec 11, R338 to R342): building a UDP
datagram and handing it to a pipeline's arbiter. -/
namespace Sys2Proof.Machine

open Sys2Proof.Config

/-- `n` free bytes from the free value counter on. -/
def freeBytes (from_ n : Nat) : List Byte := (List.range n).map (fun i => freeByte (from_ + i))

/-- The ones' complement of a folded sum, as a checksum field holds it. -/
def csumField (s : Nat) : Nat := 0xFFFF - fold16 s

/-- A UDP datagram in an Ethernet frame.  What the manual leaves open (both MAC addresses, the identification and the hop
limit) is taken from free values, 15 bytes of them. -/
def udpFrame (from_ : Nat) (v6 : Bool) (src dst sport dport : Nat) (payload : List Byte) : List Byte :=
  let len := 8 + payload.length
  let ttl := freeBytes (from_ + 14) 1
  let ab := if v6 then 16 else 4
  let addrs := bytesBE ab src ++ bytesBE ab dst
  let udp := fun (c : Nat) => bytesBE 2 sport ++ bytesBE 2 dport ++ bytesBE 2 len ++ bytesBE 2 c ++ payload
  let sum := sum16 addrs 32 0 addrs.length + 17 + len + sum16 (udp 0) (len + 1) 0 len
  let c := if csumField sum = 0 then 0xFFFF else csumField sum
  let l3 := if v6 then bytesBE 4 0x60000000 ++ bytesBE 2 len ++ [17] ++ ttl ++ addrs
    else
      let hdr := fun (k : Nat) => bytesBE 2 0x4500 ++ bytesBE 2 (20 + len) ++ freeBytes (from_ + 12) 2 ++ bytesBE 2 0 ++ ttl ++ [17] ++ bytesBE 2 k ++ addrs
      hdr (csumField (sum16 (hdr 0) 16 0 20))
  freeBytes from_ 12 ++ bytesBE 2 (if v6 then 0x86DD else 0x0800) ++ l3 ++ udp c

/-- A complete frame enters a pipeline from keeper port 101. -/
def State.keeperPacket (s : State) (pipe : Nat) (p : Packet) : State :=
  let n := s.nextPkt
  let q := { p with stage := .fifo, port := 101, pipe := pipe, ended := some false, status := none, ts := (s.tod : Int), grows := false,
                    park := none, void := false }
  let t := { s.setPkt n q with nextPkt := n + 1 }
  t.setFifo pipe 26 (t.fifo pipe 26 ++ [⟨n, 2, q.frame.length, 0, false⟩])

/-- Send a UDP datagram from keeper port 101, in pipeline 0 (log entry 47). -/
def State.keeperUdp (s : State) (v6 : Bool) (src dst sport dport : Nat) (payload : List Byte) : State :=
  ({ s with fresh := s.fresh + 15 }).keeperPacket 0 { Packet.init with frame := udpFrame s.fresh v6 src dst sport dport payload }

end Sys2Proof.Machine
end

