-- ==== Sys2Proof/Machine/CtrHome.lean ====
section
/-! DEFINITION. Where each counter is kept (the counter tables of each chapter): its block, as RND_WR_BLOCKS numbers blocks, and
how many items each of the block's instances keeps, or 0 for a counter kept for the whole device. -/
namespace Sys2Proof.Machine

/-- The block that keeps a counter, and its items per pipeline, slice or stack (0: kept for the whole device). -/
def Ctr.home : Ctr → Nat × Nat
  | .FEC_CW_CORRECTED | .FEC_CW_UNCORRECTED | .FEC_SYMBOL_ERRS | .ARB_DROP_HIGH | .ARB_DROP_MID | .ARB_DROP_LOW
    | .ARB_TRUNCATED | .RX_DISCARD_NOT_UP | .RX_DISCARD_DISABLE | .RX_ABORTED | .TX_ABORTED | .LINK_DOWN | .AN_FAIL
    | .AN_BAD_PAGE | .EBB_TX | .EBB_RX | .EBB_BAD_MSG | .EBB_SHEDS | .EBB_RESTORES | .LPI_ENTRIES | .LPI_TIME_US
    | .LPI_UNEXPECTED | .RX_OK | .RX_OCTETS_OK | .RX_UCAST | .RX_MCAST | .RX_BCAST | .RX_FCS_ERR | .RX_UNDERSIZE
    | .RX_FRAGMENT | .RX_OVERSIZE | .RX_JABBER | .RX_BAD_START | .RX_L3_CSUM_BAD | .RX_L4_CSUM_BAD | .RX_PAUSE
    | .RX_PFC_NONE | .RX_MACCTL_BAD | .RX_ASSY_ERR | .TX_OK | .TX_OCTETS_OK | .TX_UCAST | .TX_MCAST | .TX_BCAST
    | .TX_PAUSE | .TX_PADDED | .TX_OVERSIZE_DROP | .TX_CSUM_SKIPPED | .TX_HELD_NS | .PFC_STORMS | .PFC_IGNORED => (12, 24)
  | .RX_PFC | .TX_PFC => (12, 192)
  | .PRS_DEEP | .PRS_MALFORMED_L3 | .PRS_MALFORMED_L4 | .PRS_MALFORMED_TUN | .PRS_MALFORMED_LATE | .PRS_FRAG
    | .PRS_INNER_FRAG | .PRS_STOP_UNKNOWN | .PRS_EXPRESS | .PRS_ACT_DROP | .PRS_ACT_HOST | .PRS_ACT_COPY
    | .PRS_HOST_UNAVAIL => (15, 24)
  | .PRS_PASS2 | .PRS_DISCARD_DISABLE => (15, 1)
  | .RBK_RULE_PKTS | .RBK_RULE_OCTETS => (16, 65536)
  | .RBK_MISS => (16, 256)
  | .RBK_BANK_SEARCHES => (16, 32)
  | .RBK_DROP | .RBK_TO_HOST | .RBK_COPY | .RBK_HOST_UNAVAIL => (16, 24)
  | .RBK_EPOCH_STRAGGLERS | .RBK_EPOCH_FORCED | .RBK_SWAPS | .RBK_FAULT_DROP | .RBK_ECC_CORRECTED
    | .RBK_DISCARD_DISABLE => (16, 1)
  | .EXM_LOOKUPS | .EXM_HITS | .EXM_SKIP | .EXM_INSERTS | .EXM_DELETES | .EXM_RELOCATIONS | .EXM_OVF_INSERTS
    | .EXM_INSERT_DUP | .EXM_INSERT_FULL => (17, 16)
  | .EXM_RESULT_DROP | .EXM_RESULT_HOST | .EXM_NO_DEST => (17, 24)
  | .EXM_FAULT_DROP | .EXM_ECC_CORRECTED | .EXM_DISCARD_DISABLE => (17, 1)
  | .LPM_LOOKUPS | .LPM_NO_ROUTE => (18, 256)
  | .LPM_FAULT_DROP | .LPM_ECC_CORRECTED | .LPM_DISCARD_DISABLE => (18, 1)
  | .LRN_INSERTS | .LRN_INSERT_FULL | .LRN_STATION_MOVES | .LRN_FREEZES | .LRN_FROZEN_DROP | .LRN_REDUNDANT
    | .LRN_AGED => (19, 16)
  | .LRN_STATIC_CONFLICT | .LRN_LIMIT_DROP | .LRN_BAD_SA => (19, 24)
  | .LRN_MERGED | .LRN_QUEUE_DROP | .LRN_FLUSH_DISCARD | .LRN_DISCARD_DISABLE | .LRN_ECC_DROP | .LRN_NOTIFY_DROP
    | .LRN_SWEEP_OVERRUN | .SHD_BLOCKS_COMPARED | .SHD_SKIPPED_BUSY | .SHD_SRAM_REPAIRS | .SHD_SHADOW_REPAIRS
    | .SHD_BLOCKS_LOST | .SHD_WALK_OVERRUN => (19, 1)
  | .FLW_HITS | .FLW_PARKED | .FLW_CHAIN_DROP | .FLW_ADMIT_DROP | .FLW_STATELESS | .FLW_PARK_TIMEOUT => (20, 16)
  | .FLW_CLASS_OFF | .FLW_NO_KEY | .FLW_FETCHES | .FLW_WRITEBACKS | .FLW_WHEY_HITS | .FLW_WHEY_STALL | .FLW_SET_STALL
    | .FLW_RESEEDS | .FLW_ECC_CORRECTED | .FLW_RECORD_LOST | .FLW_PARK_ECC | .FLW_ADOPT_FAIL | .FLW_DISCARD_DISABLE
    | .NAT_HAIRPIN_DROP => (20, 1)
  | .FLW_SETUPS | .FLW_SETUP_DROP | .FLW_GROUP_FULL | .FLW_SETUP_FULL | .FLW_EXPIRED | .FLW_DELETED | .SVC_NO_STATE
    | .SVC_RATE_LIMITED | .SVC_L4_CSUM_BAD | .LB_REPINS | .LB_NO_MEMBER | .NAT_BINDINGS_SET | .NAT_BINDINGS_ENDED
    | .NAT_PORTS_EXHAUSTED | .NAT_POOL_EXHAUSTED | .NAT_NOTIFY_DROP | .NAT_NO_BINDING | .NAT_FRAG | .NAT_ICMP_ERR
    | .NAT64_PREFIX_MISS | .FLT_TCP_INVALID | .IPFIX_RECORDS | .IPFIX_MESSAGES | .IPFIX_DROP => (20, 0)
  | .InPktsNoTag | .InPktsUntagged | .InPktsBadTag | .InPktsUnknownSCI | .InPktsNoSCI | .OutPktsTooLong
    | .TX_NOT_OPERATIONAL | .TX_UNCONTROLLED_REFUSED | .MKPDU_BAD | .MKPDU_RATE_DROP | .MKA_PEERS_EXCESS => (13, 24)
  | .InPktsNotUsingSA | .InPktsUnusedSA | .InPktsUnchecked | .InPktsLate | .InPktsNotValid | .InPktsInvalid
    | .InPktsDelayed | .InPktsOK => (13, 768)
  | .OutPktsProtected | .OutPktsEncrypted | .OutOctetsProtected | .OutOctetsEncrypted => (13, 96)
  | .InOctetsValidated | .InOctetsDecrypted => (13, 192)
  | .UPS_BAD_TEID | .UPS_NO_PDR | .UPS_FAR_DROP | .UPS_GATE_DROP | .UPS_QUOTA_DROP | .UPS_MBR_DROP | .UPS_BUFFERED
    | .UPS_UL_PKTS | .UPS_DL_PKTS | .UPS_NO_SESSION | .UPS_FRAG | .UPS_GTP_OTHER | .UPS_DISCARD_DISABLE => (21, 1)
  | .UPS_BUF_DROP_LIMIT | .UPS_BUF_DROP_FULL | .UPS_BUF_EXPIRED | .UPS_BUF_DISCARD | .UPS_REPORT_DELAYED
    | .UPS_URR_OVER_SAT | .UPS_ECHO_DROP | .UPS_ERRIND_DROP => (21, 0)
  | .EDT_MTU_EXCEEDED | .EDT_TTL_EXPIRED => (22, 24)
  | .EDT_NH_INVALID | .EDT_GROW_DROP | .EDT_OP_SKIP | .EDT_LEN_UNKNOWN | .EDT_NAT64_EXT | .EDT_NAT64_OPT
    | .EDT_NAT64_UDP0 | .EDT_PASS_LIMIT | .EDT_BW_FULL | .EDT_FAULT_DROP | .EDT_DISCARD_DISABLE => (22, 1)
  | .MIR_COPIES => (22, 8)
  | .CAP_RECORDS | .CAP_LOST => (22, 0)
  | .BPM_QUOTA_REFUSED | .BPM_POOL_EMPTY | .BPM_REJECTS | .BPM_RECLAIMED => (23, 8)
  | .BPM_LIMIT_DROP | .BPM_SPILL_DROP => (23, 32)
  | .BPM_CHUNKS_WRITTEN | .BPM_CHUNKS_FETCHED | .BPM_CHUNK_LOST | .BPM_ECC_CORRECTED => (23, 1)
  | .BPM_XOFF_EVENTS => (23, 192)
  | .QUE_DOWN_DROP | .QUE_FLUSH | .QUE_DISABLED_DROP | .QUE_MOVE_FLUSH => (24, 384)
  | .QUE_TAG_MISMATCH | .QUE_MC_PARTIAL | .QUE_MC_VID_UNTAGGED => (24, 24)
  | .QUE_LATE_DROP | .QUE_BACKSTOP | .QUE_RESYNC | .QUE_MC_EMPTY => (24, 1)
  | .QUE_CREDIT_WAIT => (24, 4)
  | .SCH_TX_PKTS | .SCH_TX_OCTETS | .SCH_STARVED => (25, 65536)
  | .SCH_CTRL_PKTS => (25, 24)
  | .SCH_ECC_CORRECTED => (25, 1)
  | .POL_GREEN_PKTS | .POL_GREEN_OCTETS | .POL_YELLOW_PKTS | .POL_YELLOW_OCTETS | .POL_RED_PKTS | .POL_RED_OCTETS
    | .POL_DROPS => (25, 8192)
  | .LHT_STEPS | .LHT_SWITCHES | .LHT_HOLDOVER_ENTRIES | .LHT_HOLDOVER_S | .LHT_TOD_BAD | .LHT_REF_DISCARDS
    | .LHT_REF_LOSSES => (27, 0)
  | .PTP_RX_MSGS | .PTP_TX_MSGS | .PTP_RX_BAD | .PTP_RX_OTHER_DOMAIN | .PTP_RX_NOT_EN | .PTP_RX_RATE_DROP
    | .PTP_TX_TS_MISSING | .PTP_ANN_TIMEOUTS | .PTP_GRANT_REFUSED | .ESMC_RX | .ESMC_TX | .ESMC_BAD | .ESMC_TIMEOUTS
    | .PTP_SAMPLES | .PTP_SAMPLE_REFUSED | .PTP_CLASS_CHANGES | .PTP_PARENT_CHANGES => (28, 0)
  | .EXP_RX | .EXP_TX | .EXP_CUT_THROUGH | .EXP_STORE_FWD | .EXP_CUT_TRUNC_ERR | .EXP_CUT_TRUNC_LEN
    | .EXP_DEADLINE_DROP | .EXP_QFULL | .EXP_NO_QUEUE | .EXP_DISCARD_DISABLE | .GTE_TOO_LONG | .GTE_WINDOW_LOST
    | .GTE_CFG_CHANGES | .PREEMPT_FRAMES | .PREEMPT_FRAGS_TX | .PREEMPT_VERIFY_FAIL => (14, 24)
  | .EXP_MISS | .EXP_BUF_FULL => (14, 1)
  | .HBC_READS | .HBC_WRITES | .HBC_RMW | .HBC_PROMOTED | .HBC_CE | .HBC_UE | .HBC_ONDIE_REPORTS => (26, 32)
  | .HBC_ROWS_REPAIRED | .HBC_LANE_REPAIRS | .HBC_RETRAINS | .HBC_MAINT_FORCED | .HBC_SR_CUT | .HBC_BAD_ADDR => (26, 1)
  | .TTB_ADMITTED | .TTB_BORROWED | .TTB_LENT | .TTB_WAIT_TIDES | .TTB_STARVES | .TTB_CARRIED => (10, 8)
  | .KPR_LOCKUPS | .KPR_CLUSTER_LOCKUPS | .KPR_HOLD_OVERRUNS | .KPR_STALE_RESULTS | .KPR_MOVES | .KPR_CS_CE
    | .KPR_DM_CE | .KPR_MBX_COMMANDS | .KPR_MBX_REFUSED | .KPR_NOTIFICATIONS => (29, 0)
  | .FLT_TX_FRAMES | .FLT_RX_FRAMES | .FLT_CRC_ERR | .FLT_RESENDS | .FLT_BAD_FRAME | .FLT_SPARES | .FLT_HOP_DROP
    | .FLT_DISCARD_DISABLE | .FLT_MIRROR_UPDATES | .FLT_MIRROR_MERGED | .FLT_MIRROR_WAIT | .FLT_MIRROR_DUP
    | .FLT_STALE_FRAMES | .FLT_STANDBY_DROP | .FLT_TAKEOVERS | .FLT_TIME_SOURCE_CHANGES | .FLT_RESYNC_COPIES => (30, 0)
  | .RND_VIOLATIONS | .RND_IMAGE_REJECTS | .RND_PATCH_REJECTS | .RND_DEBUG_FAILS | .RND_KEY_WRITES => (6, 0)
  | .IMG_FAILED => (5, 0)
  | .HST_RX_PKTS | .HST_TX_PKTS | .HST_RX_DISCARD | .HST_RX_NO_RING | .HST_RX_TOO_SMALL | .HST_TX_BAD_DESC
    | .HST_DMA_ERR | .HST_WRITE_REJECTED | .HST_REG_TIMEOUT => (7, 0)
  | .MGS_TRANSACTIONS | .MGS_TIMEOUTS | .MGS_BAD_INDEX => (8, 0)
  | .PWR_REFUSALS | .THERM_HOT_ENTRIES => (2, 0)
  | .CLK_SWITCHES | .CLK_REF_LOSSES => (3, 0)
  | .EVT_LOG_LOST | .EVT_KPR_DROP => (4, 0)
  | .DGN_INJ_EXPIRED | .DGN_INJECTIONS | .DGN_BIST_RUNS | .DGN_PERT_RUNS => (9, 0)

/-- The instance that keeps an item of a counter. -/
def Ctr.instOf (c : Ctr) (item : Nat) : Nat := if c.home.2 = 0 then 0 else item / c.home.2

/-- Every counter, by its number. -/
def Ctr.all : List Ctr :=
  [.FEC_CW_CORRECTED, .FEC_CW_UNCORRECTED, .FEC_SYMBOL_ERRS, .ARB_DROP_HIGH, .ARB_DROP_MID, .ARB_DROP_LOW, 
   .ARB_TRUNCATED, .RX_DISCARD_NOT_UP, .RX_DISCARD_DISABLE, .RX_ABORTED, .TX_ABORTED, .LINK_DOWN, .AN_FAIL, 
   .AN_BAD_PAGE, .EBB_TX, .EBB_RX, .EBB_BAD_MSG, .EBB_SHEDS, .EBB_RESTORES, .LPI_ENTRIES, .LPI_TIME_US, 
   .LPI_UNEXPECTED, .RX_OK, .RX_OCTETS_OK, .RX_UCAST, .RX_MCAST, .RX_BCAST, .RX_FCS_ERR, .RX_UNDERSIZE, .RX_FRAGMENT, 
   .RX_OVERSIZE, .RX_JABBER, .RX_BAD_START, .RX_L3_CSUM_BAD, .RX_L4_CSUM_BAD, .RX_PAUSE, .RX_PFC, .RX_PFC_NONE, 
   .RX_MACCTL_BAD, .RX_ASSY_ERR, .TX_OK, .TX_OCTETS_OK, .TX_UCAST, .TX_MCAST, .TX_BCAST, .TX_PAUSE, .TX_PFC, 
   .TX_PADDED, .TX_OVERSIZE_DROP, .TX_CSUM_SKIPPED, .TX_HELD_NS, .PFC_STORMS, .PFC_IGNORED, .PRS_DEEP, 
   .PRS_MALFORMED_L3, .PRS_MALFORMED_L4, .PRS_MALFORMED_TUN, .PRS_MALFORMED_LATE, .PRS_FRAG, .PRS_INNER_FRAG, 
   .PRS_STOP_UNKNOWN, .PRS_EXPRESS, .PRS_ACT_DROP, .PRS_ACT_HOST, .PRS_ACT_COPY, .PRS_HOST_UNAVAIL, .PRS_PASS2, 
   .PRS_DISCARD_DISABLE, .RBK_RULE_PKTS, .RBK_RULE_OCTETS, .RBK_MISS, .RBK_BANK_SEARCHES, .RBK_DROP, .RBK_TO_HOST, 
   .RBK_COPY, .RBK_HOST_UNAVAIL, .RBK_EPOCH_STRAGGLERS, .RBK_EPOCH_FORCED, .RBK_SWAPS, .RBK_FAULT_DROP, 
   .RBK_ECC_CORRECTED, .RBK_DISCARD_DISABLE, .EXM_LOOKUPS, .EXM_HITS, .EXM_SKIP, .EXM_INSERTS, .EXM_DELETES, 
   .EXM_RELOCATIONS, .EXM_OVF_INSERTS, .EXM_INSERT_DUP, .EXM_INSERT_FULL, .EXM_RESULT_DROP, .EXM_RESULT_HOST, 
   .EXM_NO_DEST, .EXM_FAULT_DROP, .EXM_ECC_CORRECTED, .EXM_DISCARD_DISABLE, .LPM_LOOKUPS, .LPM_NO_ROUTE, 
   .LPM_FAULT_DROP, .LPM_ECC_CORRECTED, .LPM_DISCARD_DISABLE, .LRN_INSERTS, .LRN_INSERT_FULL, .LRN_STATION_MOVES, 
   .LRN_FREEZES, .LRN_FROZEN_DROP, .LRN_REDUNDANT, .LRN_AGED, .LRN_STATIC_CONFLICT, .LRN_LIMIT_DROP, .LRN_BAD_SA, 
   .LRN_MERGED, .LRN_QUEUE_DROP, .LRN_FLUSH_DISCARD, .LRN_DISCARD_DISABLE, .LRN_ECC_DROP, .LRN_NOTIFY_DROP, 
   .LRN_SWEEP_OVERRUN, .SHD_BLOCKS_COMPARED, .SHD_SKIPPED_BUSY, .SHD_SRAM_REPAIRS, .SHD_SHADOW_REPAIRS, 
   .SHD_BLOCKS_LOST, .SHD_WALK_OVERRUN, .FLW_HITS, .FLW_PARKED, .FLW_CHAIN_DROP, .FLW_ADMIT_DROP, .FLW_STATELESS, 
   .FLW_PARK_TIMEOUT, .FLW_CLASS_OFF, .FLW_NO_KEY, .FLW_SETUPS, .FLW_SETUP_DROP, .FLW_GROUP_FULL, .FLW_SETUP_FULL, 
   .FLW_EXPIRED, .FLW_DELETED, .FLW_FETCHES, .FLW_WRITEBACKS, .FLW_WHEY_HITS, .FLW_WHEY_STALL, .FLW_SET_STALL, 
   .FLW_RESEEDS, .FLW_ECC_CORRECTED, .FLW_RECORD_LOST, .FLW_PARK_ECC, .FLW_ADOPT_FAIL, .FLW_DISCARD_DISABLE, 
   .SVC_NO_STATE, .SVC_RATE_LIMITED, .SVC_L4_CSUM_BAD, .LB_REPINS, .LB_NO_MEMBER, .NAT_BINDINGS_SET, 
   .NAT_BINDINGS_ENDED, .NAT_PORTS_EXHAUSTED, .NAT_POOL_EXHAUSTED, .NAT_NOTIFY_DROP, .NAT_NO_BINDING, .NAT_FRAG, 
   .NAT_ICMP_ERR, .NAT64_PREFIX_MISS, .NAT_HAIRPIN_DROP, .FLT_TCP_INVALID, .IPFIX_RECORDS, .IPFIX_MESSAGES, 
   .IPFIX_DROP, .InPktsNoTag, .InPktsUntagged, .InPktsBadTag, .InPktsUnknownSCI, .InPktsNoSCI, .InPktsNotUsingSA, 
   .InPktsUnusedSA, .InPktsUnchecked, .InPktsLate, .InPktsNotValid, .InPktsInvalid, .InPktsDelayed, .InPktsOK, 
   .OutPktsProtected, .OutPktsEncrypted, .OutOctetsProtected, .OutOctetsEncrypted, .InOctetsValidated, 
   .InOctetsDecrypted, .OutPktsTooLong, .TX_NOT_OPERATIONAL, .TX_UNCONTROLLED_REFUSED, .MKPDU_BAD, .MKPDU_RATE_DROP, 
   .MKA_PEERS_EXCESS, .UPS_BAD_TEID, .UPS_NO_PDR, .UPS_FAR_DROP, .UPS_GATE_DROP, .UPS_QUOTA_DROP, .UPS_MBR_DROP, 
   .UPS_BUFFERED, .UPS_UL_PKTS, .UPS_DL_PKTS, .UPS_NO_SESSION, .UPS_FRAG, .UPS_GTP_OTHER, .UPS_DISCARD_DISABLE, 
   .UPS_BUF_DROP_LIMIT, .UPS_BUF_DROP_FULL, .UPS_BUF_EXPIRED, .UPS_BUF_DISCARD, .UPS_REPORT_DELAYED, 
   .UPS_URR_OVER_SAT, .UPS_ECHO_DROP, .UPS_ERRIND_DROP, .EDT_MTU_EXCEEDED, .EDT_TTL_EXPIRED, .EDT_NH_INVALID, 
   .EDT_GROW_DROP, .EDT_OP_SKIP, .EDT_LEN_UNKNOWN, .EDT_NAT64_EXT, .EDT_NAT64_OPT, .EDT_NAT64_UDP0, .EDT_PASS_LIMIT, 
   .EDT_BW_FULL, .EDT_FAULT_DROP, .EDT_DISCARD_DISABLE, .MIR_COPIES, .CAP_RECORDS, .CAP_LOST, .BPM_QUOTA_REFUSED, 
   .BPM_POOL_EMPTY, .BPM_REJECTS, .BPM_RECLAIMED, .BPM_LIMIT_DROP, .BPM_SPILL_DROP, .BPM_CHUNKS_WRITTEN, 
   .BPM_CHUNKS_FETCHED, .BPM_CHUNK_LOST, .BPM_ECC_CORRECTED, .BPM_XOFF_EVENTS, .QUE_DOWN_DROP, .QUE_FLUSH, 
   .QUE_DISABLED_DROP, .QUE_MOVE_FLUSH, .QUE_TAG_MISMATCH, .QUE_MC_PARTIAL, .QUE_MC_VID_UNTAGGED, .QUE_LATE_DROP, 
   .QUE_BACKSTOP, .QUE_RESYNC, .QUE_MC_EMPTY, .QUE_CREDIT_WAIT, .SCH_TX_PKTS, .SCH_TX_OCTETS, .SCH_STARVED, 
   .SCH_CTRL_PKTS, .SCH_ECC_CORRECTED, .POL_GREEN_PKTS, .POL_GREEN_OCTETS, .POL_YELLOW_PKTS, .POL_YELLOW_OCTETS, 
   .POL_RED_PKTS, .POL_RED_OCTETS, .POL_DROPS, .LHT_STEPS, .LHT_SWITCHES, .LHT_HOLDOVER_ENTRIES, .LHT_HOLDOVER_S, 
   .LHT_TOD_BAD, .LHT_REF_DISCARDS, .LHT_REF_LOSSES, .PTP_RX_MSGS, .PTP_TX_MSGS, .PTP_RX_BAD, .PTP_RX_OTHER_DOMAIN, 
   .PTP_RX_NOT_EN, .PTP_RX_RATE_DROP, .PTP_TX_TS_MISSING, .PTP_ANN_TIMEOUTS, .PTP_GRANT_REFUSED, .ESMC_RX, .ESMC_TX, 
   .ESMC_BAD, .ESMC_TIMEOUTS, .PTP_SAMPLES, .PTP_SAMPLE_REFUSED, .PTP_CLASS_CHANGES, .PTP_PARENT_CHANGES, .EXP_RX, 
   .EXP_TX, .EXP_CUT_THROUGH, .EXP_STORE_FWD, .EXP_CUT_TRUNC_ERR, .EXP_CUT_TRUNC_LEN, .EXP_DEADLINE_DROP, .EXP_QFULL, 
   .EXP_NO_QUEUE, .EXP_DISCARD_DISABLE, .GTE_TOO_LONG, .GTE_WINDOW_LOST, .GTE_CFG_CHANGES, .PREEMPT_FRAMES, 
   .PREEMPT_FRAGS_TX, .PREEMPT_VERIFY_FAIL, .EXP_MISS, .EXP_BUF_FULL, .HBC_READS, .HBC_WRITES, .HBC_RMW, 
   .HBC_PROMOTED, .HBC_CE, .HBC_UE, .HBC_ONDIE_REPORTS, .HBC_ROWS_REPAIRED, .HBC_LANE_REPAIRS, .HBC_RETRAINS, 
   .HBC_MAINT_FORCED, .HBC_SR_CUT, .HBC_BAD_ADDR, .TTB_ADMITTED, .TTB_BORROWED, .TTB_LENT, .TTB_WAIT_TIDES, 
   .TTB_STARVES, .TTB_CARRIED, .KPR_LOCKUPS, .KPR_CLUSTER_LOCKUPS, .KPR_HOLD_OVERRUNS, .KPR_STALE_RESULTS, 
   .KPR_MOVES, .KPR_CS_CE, .KPR_DM_CE, .KPR_MBX_COMMANDS, .KPR_MBX_REFUSED, .KPR_NOTIFICATIONS, .FLT_TX_FRAMES, 
   .FLT_RX_FRAMES, .FLT_CRC_ERR, .FLT_RESENDS, .FLT_BAD_FRAME, .FLT_SPARES, .FLT_HOP_DROP, .FLT_DISCARD_DISABLE, 
   .FLT_MIRROR_UPDATES, .FLT_MIRROR_MERGED, .FLT_MIRROR_WAIT, .FLT_MIRROR_DUP, .FLT_STALE_FRAMES, .FLT_STANDBY_DROP, 
   .FLT_TAKEOVERS, .FLT_TIME_SOURCE_CHANGES, .FLT_RESYNC_COPIES, .RND_VIOLATIONS, .RND_IMAGE_REJECTS, 
   .RND_PATCH_REJECTS, .RND_DEBUG_FAILS, .RND_KEY_WRITES, .IMG_FAILED, .HST_RX_PKTS, .HST_TX_PKTS, .HST_RX_DISCARD, 
   .HST_RX_NO_RING, .HST_RX_TOO_SMALL, .HST_TX_BAD_DESC, .HST_DMA_ERR, .HST_WRITE_REJECTED, .HST_REG_TIMEOUT, 
   .MGS_TRANSACTIONS, .MGS_TIMEOUTS, .MGS_BAD_INDEX, .PWR_REFUSALS, .CLK_SWITCHES, .CLK_REF_LOSSES, 
   .THERM_HOT_ENTRIES, .EVT_LOG_LOST, .EVT_KPR_DROP, .DGN_INJ_EXPIRED, .DGN_INJECTIONS, .DGN_BIST_RUNS, 
   .DGN_PERT_RUNS]

/-- The counter of a number. -/
def Ctr.ofIdx? (n : Nat) : Option Ctr := Ctr.all[n]?

end Sys2Proof.Machine
end

