-- ==== Sys2Proof/Machine/RegTable.lean ====
section
/-! DEFINITION. The register map as a list (spec 29, R786): the register that lies at a bus address. -/
namespace Sys2Proof.Machine

/-- A part of the register map. -/
def regs0 : List Reg :=
  [Reg.LNE_CTRL, Reg.LNE_STATUS, Reg.LNE_PRBS_CTRL, Reg.LNE_PRBS_ERRS, Reg.LNE_OCTET_CTRL, Reg.PRT_MODE,
   Reg.PRT_LINK_CFG, Reg.PRT_LINK_STATUS, Reg.PRT_ARB_CFG, Reg.PRT_EBB_CFG, Reg.PRT_PIPE_CFG,
   Reg.PRT_PIPE_STATUS, Reg.PRT_MAC_CFG, Reg.PRT_MAC_ADDR_LO, Reg.PRT_MAC_ADDR_HI, Reg.PRT_PAUSE_CFG,
   Reg.PRT_PFC_STORM, Reg.PRT_TS_CFG, Reg.PRT_PFC_MAP, Reg.MSC_PORT_CFG, Reg.MSC_REPLAY_WIN, Reg.MSC_MKA_CFG,
   Reg.MSC_PN_THRESH, Reg.MSC_SA_STATUS, Reg.MSC_TX_NEXTPN_LO, Reg.MSC_TX_NEXTPN_HI, Reg.PRS_CTRL,
   Reg.PRS_UDP_PORTS, Reg.PRS_TUN_CFG, Reg.PRS_EXP_MATCH, Reg.PRS_PORT_ACT, Reg.RBK_CTRL, Reg.RBK_EPOCH_CFG,
   Reg.RBK_EPOCH_STATUS, Reg.RBK_EPOCH_NUM, Reg.RBK_EPOCH_INFLIGHT, Reg.RBK_SPECIAL_PROF, Reg.RBK_VIEW,
   Reg.RBK_BANK_CFG, Reg.RBK_PORT_PROF, Reg.RBK_PROF_CTRL, Reg.RBK_PROF_BANKS, Reg.RBK_MISS_ACT_LO,
   Reg.RBK_MISS_ACT_HI, Reg.EXM_CTRL, Reg.EXM_OVF_STATUS, Reg.EXM_REGION_CFG, Reg.EXM_SECT_CFG,
   Reg.EXM_SECT_SEED, Reg.EXM_SECT_LIM, Reg.EXM_SECT_STATUS, Reg.EXM_SECT_MISS, Reg.EXM_PROF,
   Reg.EXM_PORT_VRF, Reg.LPM_CTRL, Reg.LPM_STATUS, Reg.LPM_ROUTES4, Reg.LPM_ROUTES6, Reg.LRN_CTRL,
   Reg.LRN_QUEUE_STATUS]

/-- A part of the register map. -/
def regs1 : List Reg :=
  [Reg.LRN_SWEEP_CFG, Reg.LRN_MOVE_CFG, Reg.LRN_TICK, Reg.LRN_SWEEP_STATUS, Reg.LRN_WALK_CFG,
   Reg.LRN_SWEEP_CLASS, Reg.LRN_SECT_CFG, Reg.LRN_PROF, Reg.LRN_PORT_CFG, Reg.LRN_PORT_STATUS, Reg.FLW_CTRL,
   Reg.FLW_PARK_STATUS, Reg.FLW_PARK_CFG, Reg.FLW_PARK_TIME, Reg.FLW_HASH_CFG, Reg.FLW_WHEY_CFG,
   Reg.FLW_EXPIRY_CFG, Reg.FLW_CLASS_CFG, Reg.FLW_CLASS_ADM, Reg.FLW_CLASS_TIME, Reg.FLW_SLICE_CTRL,
   Reg.FLW_SLICE_STATUS, Reg.FLW_SLICE_RECORDS, Reg.FLW_SVC_CFG, Reg.FLW_SETUP_LIMIT, Reg.FLW_ACTIVE_TIME,
   Reg.FLW_NAT_POOL_ADDR, Reg.FLW_NAT_POOL_CFG, Reg.FLW_NAT64_PFX, Reg.FLW_PORT_ZONE, Reg.FLW_IPFIX_CFG,
   Reg.FLW_IPFIX_DOMAIN, Reg.FLW_IPFIX_COLL, Reg.FLW_IPFIX_COLL_ADDR, Reg.FLW_IPFIX_SRC,
   Reg.FLW_IPFIX_STATUS, Reg.UPS_CTRL, Reg.UPS_CFG, Reg.UPS_TEID_CFG, Reg.UPS_N3_ADDR, Reg.UPS_N3_CFG,
   Reg.UPS_BUF_CFG, Reg.UPS_EM_CFG, Reg.UPS_RATE_CFG, Reg.UPS_STATUS, Reg.UPS_BUF_STATUS, Reg.UPS_PROF,
   Reg.EDT_CTRL, Reg.EDT_CFG, Reg.EDT_BW_STATUS, Reg.EDT_MTU, Reg.EDT_SMAC_LO, Reg.EDT_SMAC_HI,
   Reg.EDT_MIRROR_CFG, Reg.EDT_MIRROR_RATE, Reg.EDT_MIRROR_NH, Reg.EDT_CAP_RING_CFG, Reg.EDT_CAP_RING_CTRL,
   Reg.EDT_CAP_WR, Reg.EDT_CAP_RD]

/-- A part of the register map. -/
def regs2 : List Reg :=
  [Reg.BPM_CTRL, Reg.BPM_POOL_CFG, Reg.BPM_GLOBAL_MARK, Reg.BPM_SPILL_CFG, Reg.BPM_SPILL_STATUS,
   Reg.BPM_CHUNK_STATUS, Reg.BPM_POOL_STATUS, Reg.BPM_REJECT_INFO, Reg.BPM_REQ_QUOTA, Reg.BPM_REQ_USED,
   Reg.BPM_TIDE_MARK, Reg.BPM_FETCH_MARK, Reg.BPM_DROP_LIMIT, Reg.BPM_PORT_XOFF, Reg.QUE_QCFG, Reg.QUE_CTRL,
   Reg.QUE_CFG, Reg.QUE_QSEL, Reg.QUE_QSTATUS, Reg.QUE_QPKTS, Reg.QUE_QREDIR, Reg.QUE_RSQ_STATUS,
   Reg.QUE_PORT_CFG, Reg.QUE_PORT_STATUS, Reg.SCH_CTRL, Reg.SCH_CFG, Reg.SCH_ESEL, Reg.SCH_ECFG,
   Reg.SCH_EWEIGHT, Reg.SCH_ERATE, Reg.SCH_EBURST, Reg.SCH_ECMD, Reg.SCH_ESTATUS, Reg.SCH_EVTIME,
   Reg.SCH_PORT_CFG, Reg.SCH_POL_SEL, Reg.SCH_POL_CFG, Reg.SCH_POL_CIR, Reg.SCH_POL_PIR, Reg.SCH_POL_CBS,
   Reg.SCH_POL_EBS, Reg.SCH_POL_CMD, Reg.SCH_POL_TC, Reg.SCH_POL_TP, Reg.LHT_CTRL, Reg.LHT_KEEP,
   Reg.LHT_STATUS, Reg.LHT_TU, Reg.LHT_HOLD_TIME, Reg.LHT_TOD_CMD, Reg.LHT_TOD_SEC_HI, Reg.LHT_TOD_SEC_LO,
   Reg.LHT_TOD_NS, Reg.LHT_TOD_SUBNS, Reg.LHT_UTC, Reg.LHT_TIME_CFG, Reg.LHT_STEP_CFG, Reg.LHT_HOLD_CFG,
   Reg.LHT_SYNCE_CFG, Reg.LHT_SYNCE_OCTETS]

/-- A part of the register map. -/
def regs3 : List Reg :=
  [Reg.LHT_RADIO_CFG, Reg.LHT_OSC_CFG, Reg.LHT_TEMP_CFG, Reg.LHT_TEMP, Reg.LHT_MODEL_CFG, Reg.LHT_MODEL_Y0,
   Reg.LHT_MODEL_D, Reg.LHT_MODEL_KT, Reg.LHT_MODEL_U0, Reg.LHT_MODEL_U1, Reg.LHT_WTR, Reg.LHT_PTP_CFG,
   Reg.LHT_REF_CFG, Reg.LHT_REF_FREQ, Reg.LHT_SYNCE_SRC, Reg.LHT_REF_STATUS, Reg.LHT_PPS_IN_ADJ,
   Reg.LHT_PPS_IN_CFG, Reg.LHT_PPS_OUT_CFG, Reg.LHT_PPS_OUT_ADJ, Reg.LHT_TOD_CFG, Reg.PTP_CTRL,
   Reg.PTP_CLK_CFG, Reg.PTP_CLK_ID_LO, Reg.PTP_CLK_ID_HI, Reg.PTP_CLASS_CFG, Reg.PTP_STATUS,
   Reg.PTP_PARENT_LO, Reg.PTP_PARENT_HI, Reg.PTP_GM_INFO, Reg.PTP_TRAP, Reg.PTP_SYNCE_CFG, Reg.PTP_SYNCE_QL,
   Reg.PTP_PORT_CFG, Reg.PTP_PORT_ASYM, Reg.PTP_PORT_STATUS, Reg.PTP_PORT_ADDR, Reg.PTP_UMT_ADDR,
   Reg.PTP_UMT_CFG, Reg.GTE_CTRL, Reg.GTE_STATUS, Reg.GTE_GCL_SEL, Reg.GTE_GCL_ENTRY_LO,
   Reg.GTE_GCL_ENTRY_HI, Reg.GTE_GCL_CMD, Reg.GTE_ADMIN_BASE_SEC_HI, Reg.GTE_ADMIN_BASE_SEC_LO,
   Reg.GTE_ADMIN_BASE_NS, Reg.GTE_ADMIN_CYCLE, Reg.GTE_ADMIN_LEN, Reg.GTE_OPER_STATUS, Reg.GTE_CHANGE_SEC_LO,
   Reg.GTE_CHANGE_NS, Reg.GTE_PORT_CFG, Reg.GTE_EXP_CFG, Reg.GTE_EXP_LEN, Reg.GTE_GUARD, Reg.GTE_FALLBACK,
   Reg.GTE_EXP_QSTAT, Reg.HBC_CTRL]

/-- A part of the register map. -/
def regs4 : List Reg :=
  [Reg.HBC_ARB_CFG, Reg.HBC_RETRAIN_CFG, Reg.HBC_SCRUB_CFG, Reg.HBC_REPAIR_CFG, Reg.HBC_FAULT_CFG,
   Reg.HBC_SR_CFG, Reg.HBC_STATUS, Reg.HBC_PC_RETIRED, Reg.HBC_REPAIR_STATUS, Reg.HBC_FAULT_INFO,
   Reg.TTB_CTRL, Reg.TTB_CFG, Reg.TTB_HB_SHARE, Reg.TTB_HB_LAST, Reg.TTB_HB_BORROWED, Reg.TTB_HB_PEAK,
   Reg.TTB_HB_CARRY, Reg.TTB_SRAM_SHARE, Reg.TTB_SRAM_LAST, Reg.KPR_CTRL, Reg.KPR_WDT_CFG,
   Reg.KPR_CLUSTER_STATUS, Reg.KPR_UCODE, Reg.KPR_PATCH_CFG, Reg.KPR_ENGINE_STATUS, Reg.KPR_TASK,
   Reg.KPR_MBX_CTRL, Reg.KPR_MBX_CMD_BASE_LO, Reg.KPR_MBX_CMD_BASE_HI, Reg.KPR_MBX_CMD_SIZE,
   Reg.KPR_MBX_CMD_TAIL, Reg.KPR_MBX_CMD_HEAD, Reg.KPR_MBX_RPL_BASE_LO, Reg.KPR_MBX_RPL_BASE_HI,
   Reg.KPR_MBX_RPL_SIZE, Reg.KPR_MBX_RPL_TAIL, Reg.KPR_MBX_RPL_HEAD, Reg.KPR_MBX_NTF_BASE_LO,
   Reg.KPR_MBX_NTF_BASE_HI, Reg.KPR_MBX_NTF_SIZE, Reg.KPR_MBX_NTF_WR, Reg.KPR_MBX_NTF_RD, Reg.FLT_CTRL,
   Reg.FLT_SYS_CFG, Reg.FLT_PAIR_CFG, Reg.FLT_PAIR_STATUS, Reg.FLT_MIRROR_STATUS, Reg.FLT_MSEQ_TX,
   Reg.FLT_MSEQ_ACC, Reg.FLT_FENCE, Reg.FLT_STACK_STATUS, Reg.FLT_BUNDLE_CFG, Reg.FLT_BUNDLE_TIME,
   Reg.FLT_BUNDLE_STATUS, Reg.RND_STATUS, Reg.RND_SVN, Reg.RND_RIGHTS, Reg.RND_WR_BLOCKS, Reg.RND_VIOL_ADDR,
   Reg.RND_VIOL_INFO]

/-- A part of the register map. -/
def regs5 : List Reg :=
  [Reg.RND_CMD, Reg.RND_NONCE, Reg.RND_DBG_SCOPE, Reg.RND_TAMPER_SEL, Reg.RND_TAMPER_COUNT,
   Reg.RND_VERIFY_STATUS, Reg.RND_KEYS, Reg.IMG_STATUS, Reg.IMG_ATTEMPTS, Reg.IMG_PREFER, Reg.IMG_NVM_STATUS,
   Reg.IMG_CFG, Reg.IMG_LOAD_MS, Reg.IMG_FLASH_ADDR, Reg.IMG_FLASH_CMD, Reg.IMG_FLASH_DATA, Reg.HST_CTRL,
   Reg.HST_PCIE_STATUS, Reg.HST_SUBSYS, Reg.HST_RX_MAP, Reg.HST_RX_BASE_LO, Reg.HST_TX_BASE_LO,
   Reg.HST_RX_BASE_HI, Reg.HST_TX_BASE_HI, Reg.HST_RX_CFG, Reg.HST_TX_CFG, Reg.HST_RX_HEAD, Reg.HST_TX_HEAD,
   Reg.RST_CMD, Reg.RST_STATUS, Reg.RST_LAST, Reg.RST_COUNT, Reg.RST_SRC_COUNT, Reg.RST_RING_SEL,
   Reg.RST_RING_ENTRY, Reg.RST_BLOCK_P, Reg.RST_BLOCK_DEV, Reg.RST_BLOCK_BUSY, Reg.PWR_REQ, Reg.PWR_STATE,
   Reg.PWR_STATUS, Reg.PWR_THERM_CFG, Reg.PWR_TEMP, Reg.PWR_SENSOR_FAULT, Reg.CLK_CTRL, Reg.CLK_STATUS,
   Reg.CLK_REF_CFG, Reg.EVT_SUMMARY_LO, Reg.EVT_SUMMARY_HI, Reg.EVT_LOG_WR, Reg.EVT_LOG_RD,
   Reg.EVT_LOG_ENTRY, Reg.EVT_STATUS, Reg.EVT_PIN_EN, Reg.EVT_MSIX_EN, Reg.EVT_KPR_EN, Reg.EVT_LOG_EN,
   Reg.EVT_GROUP_VEC, Reg.DGN_CFG, Reg.DGN_STATUS]

/-- A part of the register map. -/
def regs6 : List Reg :=
  [Reg.DGN_BIST_CTRL, Reg.DGN_BIST_STATUS, Reg.DGN_INJ_CFG, Reg.DGN_PERT_CFG, Reg.DGN_PERT_TIME,
   Reg.DGN_PERT_CTRL, Reg.DGN_PORT_LOOP, Reg.SUP_ID, Reg.RND_WINDOW, Reg.RND_TAMPER_ENTRY, Reg.PRT_EEE_CFG]

/-- Every register and register array. -/
def allRegs : List Reg :=
  regs0 ++ regs1 ++ regs2 ++ regs3 ++ regs4 ++ regs5 ++ regs6

/-- A register item. -/
structure RegItem where
  reg : Reg
  inst : Nat
  i : Nat
  k : Nat
  deriving DecidableEq, Repr

/-- The item at a bus address, when one lies there. -/
def regAt (a : Nat) : Option RegItem :=
  (allRegs.find? (fun r => (r.item? a).isSome)).bind (fun r => (r.item? a).map (fun (n, i, k) => ⟨r, n, i, k⟩))

end Sys2Proof.Machine
end

