-- ==== Sys2Proof/Machine/Parser.lean ====
section
/-! DEFINITION. The commands of the parser (spec 05): delivering a parse result with its counters, checksums and default
action, disabling the parser, and its parity check. -/
namespace Sys2Proof.Machine

open Sys2Proof.Config


/-- The action of codes 0 to 3 that is stronger: DROP, TO_HOST, COPY_TO_HOST, FORWARD (R154). -/
def strongerAct (a b : Nat) : Nat :=
  if a = 1 ∨ b = 1 then 1 else if a = 2 ∨ b = 2 then 2 else if a = 3 ∨ b = 3 then 3 else 0

/-- The default action of a parsed packet (R154, R156). -/
def Packet.defaultAct (p : Packet) : Nat :=
  let deep := if ParseRes.PARSE_DEEP.on p.parse then p.pcfg.deepAct else 0
  let mal := if prMalformed p.parse then p.pcfg.malAct else 0
  let a := strongerAct deep mal
  if p.express then (if a = 2 then 1 else if a = 3 then 0 else a) else a

/-- Both checksum fields of a parse result, with their final values (R149, R825). -/
def withCsums (r : BitVec 256) (l3 l4 : Nat) : BitVec 256 := setFields r [(ParseRes.L3_CSUM, l3), (ParseRes.L4_CSUM, l4)]

/-- The checksum results of a packet: 0 for a packet that passes no MAC (R825), on its second pass too (DESIGN CHOICE, log entry 101), else
R91 to R93 over the frame as parsed. -/
def State.csumsOf (s : State) (p : Packet) : Nat × Nat :=
  if isFront p.port then
    let zeroOk := s.onP Fld.PRT_MAC_CFG_UDP6_ZERO_OK p.port
    (l3Csum p.parse p.orig, l4Csum p.parse p.orig zeroOk)
  else (0, 0)

/-- The late length check (R150) fails for a packet of 257 bytes or more. -/
def lateBad (p : Packet) : Bool :=
  decide (253 ≤ p.orig.length) &&
    (decide (p.orig.length < ParseRes.IP_END.get p.parse) || decide (p.orig.length < ParseRes.END_OFFSET.get p.parse))

/-- Count a late length failure (R150, EVT 6.2). -/
def State.countLate (s : State) (port : Nat) : State :=
  (s.bump .PRS_MALFORMED_LATE port).raiseMs Ev.PRS_MALFORMED_LATE .port port

/-- Count what a parse found (Table 5.8, EVT 6.0 and 6.1). -/
def State.countParse (s : State) (p : Packet) : State :=
  let r := p.parse
  let when_ := fun (b : Bool) (c : Ctr) (t : State) => if b then t.bump c p.port else t
  let s1 := when_ (ParseRes.PARSE_DEEP.on r) .PRS_DEEP s
  let s2 := if ParseRes.PARSE_DEEP.on r then s1.raiseMs Ev.PRS_DEEP .port p.port else s1
  let s3 := when_ (ParseRes.MALFORMED_TUN.on r) .PRS_MALFORMED_TUN
    (when_ (ParseRes.MALFORMED_L4.on r) .PRS_MALFORMED_L4 (when_ (ParseRes.MALFORMED_L3.on r) .PRS_MALFORMED_L3 s2))
  let s4 := if prMalformed r then s3.raiseMs Ev.PRS_MALFORMED .port p.port else s3
  let s5 := when_ (ParseRes.FRAG.on r) .PRS_FRAG (when_ (ParseRes.INNER_FRAG.on r) .PRS_INNER_FRAG s4)
  let s6 := when_ (ParseRes.STOP_UNKNOWN.on r) .PRS_STOP_UNKNOWN (when_ (ParseRes.EXPRESS.on r) .PRS_EXPRESS s5)
  if p.pass = 1 then s6.bump .PRS_PASS2 p.pipe else s6

/-- PARSE_COMPLETE (R95, R140 to R157, R161): the parse result of a packet whose window is in is delivered, in order, under the
configuration at its parse's start, and its default action taken.  A packet of 256 bytes or less is complete: an errored one is discarded.
A checksum field reads 0 where no check is made, and 3 until a check that is made has its result; an express frame carries no checksum
request. -/
def execParseComplete (n : Nat) (s : State) : Host.Outcome State Fault Refusal :=
  let p0 := s.pkt n
  if p0.stage != .parsing || (Sparse.find s.pkts n).isNone || s.behind n then .next s
  else if p0.frame.length < 256 && p0.ended.isNone then .next s
  else
    let short := p0.ended.isSome && decide (p0.frame.length + 4 ≤ 256)
    if short && p0.pass == 0 && p0.ended == some true then .next (s.forget n)
    else
      let p1 := { p0 with orig := p0.frame }
      let len := if short then some (p1.orig.length + 4) else none
      let r := parseWindow p1.pcfg p1.window len p1.port p1.pass
      let express := ParseRes.EXPRESS.on r
      let p2 := { p1 with parse := r, express := express, stage := if express then .express else .parsed, csum := if express then none else p1.csum }
      let (c3, c4) := s.csumsOf p2
      let final := short || (p2.pass == 1 && p2.ended.isSome)
      let keep := fun (c : Nat) => if final || c == 0 then c else 3
      let p3 := { p2 with parse := withCsums r (keep c3) (keep c4) }
      let s1 := (s.setPkt n p3).countParse p3
      let act := p3.defaultAct
      let reason := if prMalformed r then 2 else 1
      if act = 1 then .next ((s1.discard n).bump .PRS_ACT_DROP p3.port)
      else if act = 2 then .next ((s1.bump .PRS_ACT_HOST p3.port).toHost n reason 0 .PRS_HOST_UNAVAIL)
      else if act = 3 then
        .next ((s1.bump .PRS_ACT_COPY p3.port).copyToHost n reason 0 .PRS_HOST_UNAVAIL)
      else .next s1

/-- A write of PRS_CTRL: clearing EN stops head hand-off and the drain limit of 1 µs runs (R158). -/
def State.prsCtrlWrite (s : State) (who : Agent) (pipe : Nat) (v : Word) : State :=
  s.ctrlWrite who Reg.PRS_CTRL Fld.PRS_CTRL_EN Fld.PRS_CTRL_QUIET pipe v usClk false false id

/-- PRS_DISABLE (R158): a write of PRS_CTRL with EN = 0. -/
def execPrsDisable (who : Agent) (pipe : Nat) (v : Word) (s : State) : Host.Outcome State Fault Refusal :=
  .next (s.prsCtrlWrite who pipe v)

/-- The items of a block instance that may have a parity error: an address of that instance. -/
def State.parityAt (s : State) (blk inst addr : Nat) (f : RegItem → State → State) : State :=
  match regAt addr with
  | some x => if x.reg.blk = blk ∧ x.inst = inst then f x s else s
  | none => s

/-- A register acts at its reset value from now on. -/
def State.damage (s : State) (key : Nat) : State := { s with bad := Sparse.insert s.bad key true }
/-- A register acts at the value it holds again. -/
def State.undamage (s : State) (key : Nat) : State := { s with bad := Sparse.erase s.bad key }

/-- PRS_PARITY_CHECK (R159): a register that fails parity acts at its reset value until it is rewritten; an EXP_MATCH entry
is disabled, since the reset value of its EN is 0. -/
def execPrsParityCheck (pipe : Nat) (bad : Option Nat) (s : State) : Host.Outcome State Fault Refusal :=
  match bad with
  | some a => .next (s.parityAt 15 pipe a (fun _ t => (t.damage a).raise Ev.PRS_CFG_PARITY .pipeline pipe a))
  | none => .next s

end Sys2Proof.Machine
end

