-- ==== Sys2Proof/Machine/EndOps.lean ====
section
/-! DEFINITION. What a packet commits at its end status (spec 03, R89, R90, R94; spec 05, R150; spec 09, R255, R269; spec 10,
R292, R306, R308, R309; spec 11, R331, R332). -/
namespace Sys2Proof.Machine

open Sys2Proof.Config

/-- The lighter of a number and the most a field holds. -/
def sat (w v : Nat) : Nat := min (2 ^ w - 1) v

/-- The egress port a flow record keeps (Table 10.2); for a multicast group it is a free value (log entry 45). -/
def State.egressOf (s : State) (p : Packet) : Nat :=
  match p.dest with
  | .port e => e
  | .nextHop i => NextHop.PORT.get (s.nhAt p.pipe i)
  | .group _ => freeNat s.fresh % 128
  | _ => 96 + p.pipe

/-- Undo the binding of an OUT record that no packet committed (R90, R269): its IN record goes, its port and its place in the
subscriber record are free again. -/
def State.unbind (s : State) (c key : Nat) (r : BitVec 1024) : State :=
  if isOut (s.role c) && FlowRec.LINK_VALID.on r then
    let i := s.inOf c key r
    let t := match s.getRec i.1 i.2 with
      | some q =>
        let t := if FlowRec.MIRRORED.on q then s.mirrorChange 0 0 (s.recIdx i.1 i.2) 0 (FlowRec.VALID.set q 0) false else s
        t.dropNew i.1 i.2
      | none => s
    t.natRelease c key r
  else s

/-- A packet stops using its flow record: a NEW record that none of its users committed is removed with the last of them, and
with it its binding (R90, R269, R308). -/
def State.leaveRecord (s : State) (u : FlowUse) : State :=
  if !u.wasNew then s
  else match s.way u.cls u.key with
    | some w =>
      let t := s.putWay { w with users := w.users - 1 }
      if w.users ≤ 1 ∧ FlowRec.STATE.get w.rec_ = 0 then
        let t1 := if FlowRec.MIRRORED.on w.rec_ then t.mirrorChange 0 0 w.idx 0 (FlowRec.VALID.set w.rec_ 0) false else t
        (t1.dropNew u.cls u.key).unbind u.cls u.key w.rec_
      else t
    | none => s

/-- Commit a packet on its flow record at a good end status; `l4bad` says that its L4 checksum is bad (R308). -/
def State.commitFlow (s : State) (p : Packet) (u : FlowUse) (l4bad : Bool) : State :=
  match s.getRec u.cls u.key with
  | none => s
  | some r =>
    let counted := setFields r [(FlowRec.PKTS, sat 40 (FlowRec.PKTS.get r + 1)),
      (FlowRec.OCTETS, sat 48 (FlowRec.OCTETS.get r + p.orig.length + 4)), (FlowRec.LAST_SEEN, s.todMs)]
    if l4bad then ((s.modRec u.cls u.key (fun _ => counted)).mirrorRec u.cls u.key true).bump .SVC_L4_CSUM_BAD u.cls
    else
      let st := FlowRec.STATE.get r
      let st' := if st = 3 then 3 else match u.tcp with
        | some (_, x) => x
        | none => if st = 0 then 1 else st
      let r1 := setFields counted [(FlowRec.TCP_FLAGS_OR, Nat.lor (FlowRec.TCP_FLAGS_OR.get r) u.flags),
        (FlowRec.EGRESS_PORT, s.egressOf p), (FlowRec.STATE, st')]
      let r2 := match u.tcp with | some (x, _) => FlowRec.TCP_STATE.set r1 x | none => r1
      let r3 := match u.pin with
        | some (g, k, gen) => setFields r2 [(FlowRec.LB_GROUP, g), (FlowRec.LB_MEMBER, k), (FlowRec.LB_MGEN, gen), (FlowRec.LB_PINNED, 1)]
        | none => r2
      let sd := match p.dest with | .group _ => s.draw | _ => s
      let s0 := match u.fin with
        | some side => { sd with flw := { sd.flw with finSide := Sparse.insert sd.flw.finSide (finKey u.cls u.key) side } }
        | none => sd
      let s1 := match u.pin with
        | some (g, _, _) => if FlowRec.LB_PINNED.on r then s0.bump .LB_REPINS g else s0
        | none => s0
      let same := st' == st && u.pin.isNone && FlowRec.TCP_STATE.get r3 == FlowRec.TCP_STATE.get r
      (s1.modRec u.cls u.key (fun _ => r3)).mirrorRec u.cls u.key same

/-- Charge a URR with some octets (R332). -/
def State.chargeUrr (s : State) (i u n : Nat) : State :=
  let w := urrOf (s.head i) u
  if !Urr.EN.on w then s
  else
    let left := Urr.LEFT.get w
    if n ≤ left then s.modHead i (fun h => (Sess.URR u).set h (Urr.LEFT.set w (left - n)).toNat)
    else
      let beyond := Urr.OVER.get w + (n - left)
      let s1 := s.modHead i (fun h => (Sess.URR u).set h (setFields w [(Urr.LEFT, 0), (Urr.OVER, sat 20 beyond), (Urr.TRIG, 1)]).toNat)
      let s2 := if 2 ^ 20 - 1 < beyond then s1.bump .UPS_URR_OVER_SAT 0 (beyond - (2 ^ 20 - 1)) else s1
      if Urr.TRIG.on w then s2 else s2.askSettle i u

/-- Commit a forwarded session packet at a good end status (R331, R332). -/
def State.commitSess (s : State) (p : Packet) (u : SessUse) : State :=
  let dir := u.downlink.toNat
  let s1 := s.modHead u.idx (fun h =>
    let q := qerOf h dir
    let h1 := if u.charge then (qerFld dir).set h (Qer.TOKENS.set q (Qer.TOKENS.get q - u.octets)).toNat else h
    (lastFld dir).set h1 s.todMs)
  let s2 := (List.range 4).foldl (fun t i => if Nat.testBit u.urrs i then t.chargeUrr u.idx i u.octets else t) s1
  s2.bump (if u.downlink then .UPS_DL_PKTS else .UPS_UL_PKTS) p.pipe

/-- Everything a packet's end status settles or commits; `bad` says that it counts as errored. -/
def State.commit (s : State) (n : Nat) (bad : Bool) : State :=
  let p := s.pkt n
  let void := p.void || p.stage == .dead || bad
  let s1 := p.won.foldl (fun t r => t.bump .RBK_RULE_OCTETS (p.pipe * 65536 + r) (p.orig.length + 4)) s
  let s2 := s1.policerSettle n bad
  let s3 := match p.note with | some w => if void then s2 else s2.learnQueue p.pipe w | none => s2
  let s4 := match p.flow with
    | some u => (if void then s3 else s3.commitFlow p u (ParseRes.L4_CSUM.get p.parse == 2)).leaveRecord u
    | none => s3
  let s5 := match p.sess with | some u => if void then s4 else s4.commitSess p u | none => s4
  s5.setPkt n { s5.pkt n with note := none, flow := none, sess := none, won := [] }

/-- A packet counts as errored at its end status: by its MAC, by a bad IPv4 header checksum with L3_BAD_DROP, or by the late
length check (R89, R94, R150). -/
def State.endBad (s : State) (p : Packet) : Bool :=
  p.ended == some true
    || (isFront p.port && p.pass == 0 && s.onP Fld.PRT_MAC_CFG_L3_BAD_DROP p.port && (s.csumsOf p).1 == 2)
    || lateBad p

/-- The checksum results a packet has at its end status: no L4 check is made where its lengths prove malformed (R92, R150). -/
def State.endCsums (s : State) (p : Packet) : Nat × Nat := ((s.csumsOf p).1, if lateBad p then 0 else (s.csumsOf p).2)
/-- Count what the end status of a good frame shows (R94): one that fails the late length check counts there alone (R150). -/
def State.countEnd (s : State) (p : Packet) : State :=
  if p.ended == some true then s
  else if lateBad p then s.countLate p.port
  else
    let (l3, l4) := s.csumsOf p
    let first := isFront p.port && p.pass == 0
    let s1 := if first && l3 == 2 then s.bump .RX_L3_CSUM_BAD p.port else s
    if first && l4 == 2 then s1.bump .RX_L4_CSUM_BAD p.port else s1

/-- The end status reaches a packet: the final checksum results, its status and that of its copies, the cut of R358, and
what it commits. -/
def State.settleEnd (s : State) (n : Nat) : State :=
  let p := s.pkt n
  let bad := s.endBad p
  let (l3, l4) := s.endCsums p
  let fix := fun (c : Packet) =>
    { c with parse := withCsums c.parse l3 l4, status := some bad, ended := p.ended, len := p.orig.length,
             frame := (match c.cut with | some k => c.frame.take k | none => c.frame) }
  let s1 := s.countEnd p
  let s2 := { s1 with pkts := s1.pkts.map (fun (e : Nat × Packet) => if e.1 == n || e.2.copyOf == some n then (e.1, fix e.2) else e) }
  s2.commit n bad

end Sys2Proof.Machine
end

