-- ==== Sys2Proof/Machine/Replicate.lean ====
section
/-! DEFINITION. Changes of replicated tables (R38, R207, R210, R216): one pipeline after another, each charged to its own tide, undone
where a later pipeline refuses. -/
namespace Sys2Proof.Machine

open Sys2Proof.Config

/-- What a change does in one pipeline: the state after it, the accesses it is charged, the refusal, if any, what it replaces there,
whether it has to wait, and the shadowed blocks it writes. -/
structure PipeWrite where
  after : State
  cost : Nat
  refused : Option MbxStatus
  old : Option (BitVec 512)
  waits : Bool
  blocks : List (Nat × Nat)

/-- The charges of a change in a pipeline: its accesses of the table SRAM, and a shadow block of 128 bytes with its tag of 8 for each
shadowed block (R245, R249). -/
def writeCharges (blocks : List (Nat × Nat)) (p act cost : Nat) : List (Nat × Nat × Nat) :=
  [(0, actKeeper, 136 * blocks.length), (p + 1, act, cost)]

/-- Record what a command's change has come to. -/
def State.setChange (s : State) (tag : Nat) (c : Option Change) : State :=
  { s with kpr := { s.kpr with inFlight := s.kpr.inFlight.map (fun x => if x.tag = tag then { x with change := c } else x) } }

/-- Put back what an exact-match change replaced in a pipeline (R210). -/
def State.undoEm (s : State) (p c key : Nat) (old : Option (BitVec 512)) : State :=
  match s.emHeldAt p c key, old with
  | some k, none => s.emRemove p k
  | some k, some e => s.emPut p k e (Sparse.get (s.exm p).hits k false)
  | none, some e => (s.emInsert p e).1
  | none, none => s

/-- Count routes and units of a pipeline (Table 7.6). -/
def State.countRoute (s : State) (p : Nat) (v6 up : Bool) : State :=
  let step := fun (v n : Nat) => if up then v + n else v - n
  let f := if v6 then Fld.LPM_ROUTES6_COUNT else Fld.LPM_ROUTES4_COUNT
  let t := s.wr f (step (s.rd f p) 1) p
  t.wr Fld.LPM_STATUS_UNITS_USED (step (s.rd Fld.LPM_STATUS_UNITS_USED p) (routeUnits v6)) p

/-- Write a route's word in a pipeline, or remove the route. -/
def State.putRoute (s : State) (p key : Nat) (w : Option (BitVec 32)) : State :=
  let x := s.exm p
  let was := (Sparse.find x.routes key).isSome
  let t := (s.setExm p { x with routes := setOrErase x.routes key w }).touch p shRoute (routeVrf key)
  if was == w.isSome then t else t.countRoute p (routeV6 key) w.isSome

/-- Put back in one pipeline what a change replaced (R210, R216); the other tables have no refusal after their first write. -/
def State.undoIn (s : State) (i : Instr) (p : Nat) (old : Option (BitVec 512)) : State :=
  match i with
  | .emInsert _ _ c key _ _ _ _ | .emDelete _ _ c key | .emModify _ _ c key _ _ _ _ => s.undoEm p c key old
  | .routeAdd _ vrf v6 len prefix_ _ | .routeDelete _ vrf v6 len prefix_ | .routeModify _ vrf v6 len prefix_ _ =>
    s.putRoute p (routeKey vrf v6 len prefix_) (old.map (fun w => w.setWidth 32))
  | _ => s

/-- Undo a change in the pipelines it has written, in reverse order. -/
def State.undoChange (s : State) (c : Change) : State := c.undo.foldl (fun t e => t.undoIn c.what e.1 e.2) s

/-- A command of a tag goes on with a change: it has begun this one, or none. -/
def State.changeOf (s : State) (tag : Nat) (i : Instr) (pipes : List Nat) : Option Change :=
  match s.mbx tag with
  | some c =>
    match c.change with
    | some h => if h.what = i then some h else none
    | none => some ⟨i, pipes, [], []⟩
  | none => none

/-- A change of one pipeline's table is charged; while it waits its blocks are BUSY (R245). -/
def State.chargeWrite (s : State) (tag : Nat) (i : Instr) (p act cost : Nat) (blocks : List (Nat × Nat)) : State × Bool :=
  match s.chargeAll (writeCharges blocks p act cost) tag with
  | (t, false) => (t.setChange tag (some ⟨i, [p], [], blocks.map (fun b => (p, shKey b.1 b.2))⟩), false)
  | (t, true) => (t.setChange tag none, true)

/-- Write a change to some pipelines at once: what the image loader does (R700).  Answers the refusal, if any. -/
def State.writeAll (s : State) (write : State → Nat → PipeWrite) (pipes : List Nat) : State × Option MbxStatus :=
  pipes.foldl (fun (r : State × Option MbxStatus) p =>
    match r.2 with
    | some _ => r
    | none => ((write r.1 p).after, (write r.1 p).refused)) (s, none)

/-- A change stands at a pipeline: the blocks it is to write there are BUSY (R245). -/
def State.standAt (s : State) (tag : Nat) (h : Change) (p : Nat) (blocks : List (Nat × Nat)) : State :=
  s.setChange tag (some { h with busy := blocks.map (fun b => (p, shKey b.1 b.2)) })

/-- The tides admit a change at a pipeline, or it waits for them. -/
def State.admitAt (s : State) (tag : Nat) (h : Change) (p act cost : Nat) (blocks : List (Nat × Nat)) : State × Bool :=
  (s.standAt tag h p blocks).chargeAll (writeCharges blocks p act cost) tag

/-- A change refused in a pipeline: undone in the earlier ones, and answered with the pipeline's number. -/
def State.refusedAt (s : State) (tag act : Nat) (h : Change) (p : Nat) (st : MbxStatus) : State :=
  (((s.undoChange h).setChange tag (some { h with left := [], busy := [] })).unask (p + 1) act tag).reply tag st 0 p 0 true

/-- A change written in a pipeline, where it replaced `old`: the last write completes it. -/
def State.wroteAt (s : State) (tag : Nat) (h : Change) (p : Nat) (rest : List Nat) (old : Option (BitVec 512)) : State :=
  let u := s.setChange tag (some { h with left := rest, undo := (p, old) :: h.undo, busy := [] })
  if rest.isEmpty then u.reply tag .ok 0 0 0 true else u

/-- Go on with a change in the next of its pipelines (R38): it waits, or is refused there, naming the pipeline, and undone in the earlier
ones, or is written once the tides have admitted it; the last write completes it. -/
def State.writeNext (s : State) (tag act : Nat) (h : Change) (p : Nat) (rest : List Nat) (write : State → Nat → PipeWrite) : State :=
  let e := write s p
  if e.waits then s.standAt tag h p e.blocks
  else
    match e.refused with
    | some st => e.after.refusedAt tag act h p st
    | none =>
      match s.admitAt tag h p act e.cost e.blocks with
      | (t, false) => t
      | (t, true) => (write t p).after.wroteAt tag h p rest (write t p).old

/-- A mailbox change of a table held in several pipelines: checked, then written to each in order (R38, R210), one pipeline at each
execution of the command. -/
def State.replicate (s : State) (tag op : Nat) (i : Instr) (pipes : List Nat) (act : Nat) (check : Option MbxStatus)
    (write : State → Nat → PipeWrite) : State :=
  if !s.mbxRuns tag op then s
  else
    match s.changeOf tag i pipes with
    | some h =>
      match h.undo.isEmpty, check with
      | true, some st => s.reply tag st 0 0 0 true
      | _, _ =>
        match h.left with
        | p :: rest => s.writeNext tag act h p rest write
        | [] => s
    | none =>
      if (s.mbx tag).isSome then s
      else
        match check with
        | some st => s.reply tag st 0 0 0 true
        | none =>
          let (t, no) := s.writeAll write pipes
          t.reply tag (no.getD .ok) 0 0 0 true

end Sys2Proof.Machine
end

