-- ==== Sys2Proof/Machine/Rules.lean ====
section
/-! DEFINITION. Rule-set epochs and the commands of the rule banks (spec 06, R177 to R191, R832). -/
namespace Sys2Proof.Machine

open Sys2Proof.Config

/-! ### Slots -/

/-- Core clocks a slot copy or a slot clear takes (R179, R185). -/
def slotClk : Nat := 2048

/-- The per-slot registers of a pipeline's slot return to their reset values. -/
def State.clearSlotRegs (s : State) (p k : Nat) : State :=
  { s with regs := Sparse.keep s.regs (fun a => !(decide (k * 0x100000000 ≤ a) && perSlotAddr p (a - k * 0x100000000))) }

/-- A slot's per-slot registers take a copy of another slot's (R179). -/
def State.copySlotRegs (s : State) (p src dst : Nat) : State :=
  let mine := s.regs.filter (fun e => decide (src * 0x100000000 ≤ e.1) && perSlotAddr p (e.1 - src * 0x100000000))
  let t := s.clearSlotRegs p dst
  { t with regs := mine.foldl (fun m e => Sparse.insert m (e.1 - src * 0x100000000 + dst * 0x100000000) e.2) t.regs }

/-- Give every row of a pipeline a membership bit in a slot. -/
def State.mapMembers (s : State) (p slot : Nat) (f : BitVec 322 → Bool) : State :=
  let x := s.rbk p
  s.setRbk p { x with rows := x.rows.foldl (fun m e => Sparse.put m e.1 (setMember e.2 slot (f e.2)) 0) x.rows }

/-- A slot becomes FREE (R177, R181). -/
def State.freeSlot (s : State) (p k : Nat) : State :=
  let t := ((s.setSlotState p k 0).setEpoch p k 0).setInFlight p k 0
  t.setRbk p { t.rbk p with drainFrom := none }

/-- The waiting BEGIN's copy starts (R179). -/
def State.startCopy (s : State) (p : Nat) : State :=
  s.setRbk p { s.rbk p with copyUntil := some (s.now + slotClk) }

/-- A BEGIN waits for the other slot to be FREE. -/
def State.beginWaits (s : State) (p : Nat) : Bool := (s.rbk p).beginTag.isSome && (s.rbk p).copyUntil.isNone && (s.building p).isNone

/-- The drain limit of a DRAINING slot has expired (R182). -/
def State.drainLimitPast (s : State) (p : Nat) : Bool :=
  match (s.rbk p).drainFrom with
  | some t => decide (t + s.rd Fld.RBK_EPOCH_CFG_DRAIN_LIMIT p * usClk ≤ s.now)
  | none => false

/-- A DRAINING slot is retired by force (R182, R183): its packets are counted no longer, and those in the backwash queue
are discarded as stragglers. -/
def State.retire (s : State) (p k : Nat) : State :=
  let e := s.epoch p k
  let s1 := { s with pkts := s.pkts.map (fun (x : Nat × Packet) => if x.2.pipe = p ∧ x.2.inSlot = some k then (x.1, { x.2 with inSlot := none }) else x) }
  let late := (Sparse.get s1.fifos (p * 32 + 24) []).filter (fun f =>
    let q := s1.pkt f.pkt
    !f.started && q.pass == 1 && q.stamp == some e)
  let s2 := { s1 with fifos := Sparse.put s1.fifos (p * 32 + 24) ((Sparse.get s1.fifos (p * 32 + 24) []).filter (fun f => !late.contains f)) [] }
  let s3 := late.foldl (fun t f => (t.discard f.pkt).bump .RBK_EPOCH_STRAGGLERS p) s2
  let s4 := s3.wr Fld.EDT_BW_STATUS_DEPTH (s3.rd Fld.EDT_BW_STATUS_DEPTH p - late.length) p
  ((s4.freeSlot p k).bump .RBK_EPOCH_FORCED p).raise Ev.RBK_EPOCH_FORCED .pipeline p e

/-- A mailbox operation on a pipeline's rule set: it answers with one final reply. -/
def State.ruleOp (s : State) (tag op pipe : Nat) (f : State → State × MbxStatus) : State :=
  if s.mbxRunsAt tag op pipe then
    let (t, a) := f s
    t.reply tag a 0 0 0 true
  else s

/-- BEGIN (R179, R182). -/
def execBeginSet (tag pipe : Nat) (s : State) : Host.Outcome State Fault Refusal :=
  if !s.mbxRunsAt tag opBegin pipe || (s.rbk pipe).beginTag == some tag then .next s
  else if (s.rbk pipe).loading || (s.building pipe).isSome || (s.rbk pipe).beginTag.isSome then .next (s.reply tag .busy 0 0 0 true)
  else
    let other := 1 - s.curSlot pipe
    let t := (s.setRbk pipe { s.rbk pipe with beginTag := some tag }).wr Fld.RBK_EPOCH_STATUS_BEGIN_WAITING 1 pipe
    if s.slotState pipe other = 0 then .next (t.startCopy pipe)
    else if s.drainLimitPast pipe ∧ s.inFlight pipe other ≠ 0 then .next ((t.retire pipe other).startCopy pipe)
    else .next t

/-- BEGIN_COPY_DONE (R179): the slot becomes BUILDING and BEGIN replies OK. -/
def execBeginCopyDone (pipe : Nat) (s : State) : Host.Outcome State Fault Refusal :=
  let x := s.rbk pipe
  match x.beginTag, x.copyUntil with
  | some tag, some t =>
    if t ≤ s.now then
      let cur := s.curSlot pipe
      let b := 1 - cur
      let s1 := ((s.setRbk pipe { x with copyUntil := none }).mapMembers pipe b (fun r => rowMember r cur)).copySlotRegs pipe cur b
      let s2 := (s1.setSlotState pipe b 1).wr Fld.RBK_EPOCH_STATUS_BEGIN_WAITING 0 pipe
      .next (s2.reply tag .ok 0 0 0 false)
    else .next s
  | _, _ => .next s

/-- The slot that rule operations change now: the BUILDING one, or slot 0 while it is open for loading (R187, R832). -/
def State.openSlot (s : State) (pipe : Nat) : Option Nat :=
  if (s.rbk pipe).loading then some 0
  else if (s.rbk pipe).clearUntil.isSome then none
  else s.building pipe

/-- One more write or delete of the rule-set change in progress (R185). -/
def State.ruleDone (s : State) (pipe : Nat) : State :=
  match (s.rbk pipe).beginTag with
  | some b => s.setDone b (s.doneOf b + 1)
  | none => s

/-- The lowest bank of the group a bank belongs to (Table 6.1). -/
def State.groupBank (s : State) (pipe bank : Nat) : Nat := bank / groupSize (s.bankWidth pipe bank) * groupSize (s.bankWidth pipe bank)

/-- A rule keeps R166 in its 640 bits: no VALUE bit under a CARE bit of 0. -/
def ruleBitsOk (value care : BitVec 640) : Bool := value &&& ~~~care == 0

/-- The rows of a rule, with its membership bit in the slot, in the banks of its group (R164, R165). -/
def ruleRows (x : Sparse (BitVec 322)) (size bank row slot : Nat) (value care : BitVec 640) : Sparse (BitVec 322) :=
  (List.range size).foldl (fun m i =>
    let r : BitVec 322 := setFields 0 [(RuleRow.VALUE, value.toNat / 2 ^ (160 * i) % 2 ^ 160),
      (RuleRow.CARE, care.toNat / 2 ^ (160 * i) % 2 ^ 160)]
    Sparse.put m ((bank + i) * 2048 + row) (if i = 0 then setMember r slot true else r) 0) x

/-- RULE_WRITE (R179, R187, R832): fill a free row.  A joined rule is named by any bank of its group. -/
def execRuleWrite (tag pipe bank row : Nat) (value care : BitVec 640) (act : BitVec 64) (s : State) : Host.Outcome State Fault Refusal :=
  if !s.mbxRunsAt tag opRuleWrite pipe then .next s
  else
    match s.openSlot pipe with
    | none => .next (s.reply tag .busy 0 0 0 true)
    | some slot =>
      let size := groupSize (s.bankWidth pipe bank)
      let b := s.groupBank pipe bank
      let low := BitVec.ofNat 640 (2 ^ (160 * size) - 1)
      if row ≥ 2048 || !ruleBitsOk (value &&& low) (care &&& low) || !actionOk act then .next (s.reply tag .badRule 0 0 0 true)
      else
        let x := s.rbk pipe
        let idx := b * 2048 + row
        let old := Sparse.get x.rows idx 0
        if rowMember old 0 || rowMember old 1 then .next (s.reply tag .exists_ 0 0 0 true)
        else
          let rows := (List.range size).map (fun i => (b + i) * 2048 + row)
          let (s1, ok) := s.chargeWrite tag (.ruleWrite tag pipe bank row value care act) pipe actHost (size + 1) ((shAct, idx) :: rows.map (fun r => (shRow, r)))
          if !ok then .next s1
          else
            let y := s1.rbk pipe
            let s2 := s1.setRbk pipe { y with rows := ruleRows y.rows size b row slot value care,
                                              acts := Sparse.put y.acts idx act 0,
                                              faulty := rows.foldl Sparse.erase y.faulty }
            let s3 := (rows.foldl (fun t r => t.touch pipe shRow r) s2).touch pipe shAct idx
            let s4 := (s3.clearCtr .RBK_RULE_PKTS (pipe * 65536 + idx)).clearCtr .RBK_RULE_OCTETS (pipe * 65536 + idx)
            .next ((s4.ruleDone pipe).reply tag .ok 0 0 0 true)

/-- RULE_DELETE (R179, R187, R832): clear a row's membership bit in the open slot. -/
def execRuleDelete (tag pipe bank row : Nat) (s : State) : Host.Outcome State Fault Refusal :=
  if !s.mbxRunsAt tag opRuleDelete pipe then .next s
  else
    match s.openSlot pipe with
    | none => .next (s.reply tag .busy 0 0 0 true)
    | some slot =>
      let idx := s.groupBank pipe bank * 2048 + row
      let old := Sparse.get (s.rbk pipe).rows idx 0
      if row ≥ 2048 || !rowMember old slot then .next (s.reply tag .notFound 0 0 0 true)
      else
        let (s1, ok) := s.chargeWrite tag (.ruleDelete tag pipe bank row) pipe actHost 1 [(shRow, idx)]
        if !ok then .next s1
        else
          let x := s1.rbk pipe
          let s2 := (s1.setRbk pipe { x with rows := Sparse.put x.rows idx (setMember old slot false) 0 }).touch pipe shRow idx
          .next ((s2.ruleDone pipe).reply tag .ok 0 0 0 true)

/-- COMMIT (R179, R184): ask for the flip. -/
def execCommit (tag pipe : Nat) (s : State) : Host.Outcome State Fault Refusal :=
  if !s.mbxRunsAt tag opCommit pipe || (s.rbk pipe).commitTag == some tag then .next s
  else if (s.rbk pipe).loading || (s.openSlot pipe).isNone || (s.rbk pipe).commitTag.isSome then .next (s.reply tag .busy 0 0 0 true)
  else .next (s.setRbk pipe { s.rbk pipe with commitTag := some tag })

/-- EPOCH_FLIP (R179, R184, R185): BUILDING becomes CURRENT with the next epoch number, CURRENT becomes DRAINING, or FREE
when no packet is in flight in it. -/
def execEpochFlip (pipe : Nat) (s : State) : Host.Outcome State Fault Refusal :=
  let x := s.rbk pipe
  let due := match x.flipAt with | some t => decide (t + 10 * usClk ≤ s.now) | none => true
  match x.commitTag, s.openSlot pipe with
  | some ct, some b =>
    if due && !x.loading then
      let old := s.curSlot pipe
      let e := s.epoch pipe old
      let s1 := s.setRbk pipe { x with flipAt := some s.now, drainFrom := some s.now, commitTag := none, beginTag := none }
      let s2 := ((s1.setSlotState pipe b 2).setSlotState pipe old 3).setEpoch pipe b (if e = 65535 then 1 else e + 1)
      let s3 := ((s2.wr Fld.RBK_EPOCH_STATUS_CUR_SLOT b pipe).setInFlight pipe b 0).bump .RBK_SWAPS pipe
      let s4 := if s3.inFlight pipe old = 0 then s3.freeSlot pipe old else s3
      let s5 := s4.reply ct .ok 0 0 0 true
      match x.beginTag with
      | some bt => .next (s5.reply bt .completed (s5.doneOf bt) 0 0 true)
      | none => .next s5
    else .next s
  | _, _ => .next s

/-- SLOT_DRAINED (R181): a DRAINING slot with no packet in flight becomes FREE; a waiting BEGIN starts its copy. -/
def execSlotDrained (pipe : Nat) (s : State) : Host.Outcome State Fault Refusal :=
  let k := 1 - s.curSlot pipe
  if s.slotState pipe k = 3 ∧ s.inFlight pipe k = 0 then
    let t := s.freeSlot pipe k
    .next (if s.beginWaits pipe then t.startCopy pipe else t)
  else .next s

/-- EPOCH_DRAIN_LIMIT (R182): at the drain limit, a slot for which a BEGIN waits is retired by force. -/
def execEpochDrainLimit (pipe : Nat) (s : State) : Host.Outcome State Fault Refusal :=
  let k := 1 - s.curSlot pipe
  if s.slotState pipe k = 3 ∧ s.inFlight pipe k ≠ 0 ∧ s.drainLimitPast pipe ∧ s.beginWaits pipe then
    .next ((s.retire pipe k).startCopy pipe)
  else .next s

/-- An ABORT of a rule-set change before its flip (R185). -/
def State.abortRules (s : State) (pipe tag : Nat) : State :=
  let x := s.rbk pipe
  if x.beginTag ≠ some tag then s
  else
    let s1 := match x.commitTag with | some ct => s.reply ct .aborted 0 0 0 true | none => s
    if (s.building pipe).isSome then
      (s1.setRbk pipe { x with commitTag := none, clearUntil := some (s.now + slotClk) }).reply tag .aborted (s.doneOf tag) 0 0 true
    else
      ((s1.setRbk pipe { x with beginTag := none, copyUntil := none }).wr Fld.RBK_EPOCH_STATUS_BEGIN_WAITING 0 pipe).reply tag .aborted 0 0 0 true

/-- BUILDING_SLOT_CLEARED (R185): an aborted build's slot becomes FREE. -/
def execBuildingSlotCleared (pipe : Nat) (s : State) : Host.Outcome State Fault Refusal :=
  let x := s.rbk pipe
  match x.clearUntil, s.building pipe with
  | some t, some b =>
    if t ≤ s.now then
      let s1 := s.setRbk pipe { x with clearUntil := none, beginTag := none }
      .next ((((s1.mapMembers pipe b (fun _ => false)).clearSlotRegs pipe b)).setSlotState pipe b 0)
    else .next s
  | _, _ => .next s

/-- RBK_SCRUB (R188): a scrub read, charged one access of the scrub share (Table 20.2): corrected errors are counted; an uncorrectable
one marks its row (bank * 2,048 + row) faulty. -/
def execRbkScrub (pipe corrected : Nat) (bad : Option Nat) (s : State) : Host.Outcome State Fault Refusal :=
  let (c, ok) := s.charge (pipe + 1) actScrub 1 rowScrubTag
  if !ok then .next c
  else
  let s0 := c.readRows pipe (2 ^ 32 - 1)
  let s1 := if corrected = 0 then s0 else s0.bump .RBK_ECC_CORRECTED pipe corrected
  match bad with
  | some r => .next (s1.rowBad pipe r)
  | none => .next s1

/-- RBK_PARITY_CHECK (R189): a damaged per-slot register (its bus address, in a slot) makes the packets that use it take
FAULT_ACT until it is restored. -/
def execRbkParityCheck (pipe slot : Nat) (bad : Option Nat) (s : State) : Host.Outcome State Fault Refusal :=
  match bad with
  | some a =>
    if perSlotAddr pipe a then
      let x := s.rbk pipe
      .next ((s.setRbk pipe { x with badCfg := Sparse.insert x.badCfg (a + slot * 0x100000000) true }).raise Ev.RBK_CFG_PARITY .pipeline pipe a)
    else .next s
  | none => .next s

/-- A write of RBK_CTRL (R187, R190): the first set of EN closes slot 0 to loading; clearing EN is rejected while the
parser of the pipeline is on. -/
def State.rbkCtrlWrite (s : State) (who : Agent) (pipe : Nat) (v : Word) : State :=
  s.ctrlWrite who Reg.RBK_CTRL Fld.RBK_CTRL_EN Fld.RBK_CTRL_QUIET pipe v usClk (s.on Fld.PRS_CTRL_EN pipe) false
    (fun t => t.setRbk pipe { t.rbk pipe with loading := false })

/-- RBK_DISABLE (R190): a write of RBK_CTRL with EN = 0. -/
def execRbkDisable (who : Agent) (pipe : Nat) (v : Word) (s : State) : Host.Outcome State Fault Refusal :=
  .next (s.rbkCtrlWrite who pipe v)

end Sys2Proof.Machine
end

