-- ==== Sys2Proof/Machine/Tables.lean ====
section
/-! DEFINITION. The commands of the exact-match and route tables (spec 07, R207 to R219). -/
namespace Sys2Proof.Machine

open Sys2Proof.Config

/-! ### Exact-match changes -/

/-- Tag under which learning waits at a table-SRAM gate: no tag of the mailbox. -/
def learnTag : Nat := 2 ^ 33
/-- The tag under which the 10 ms scrub of the exact-match, route and result tables waits at a table-SRAM gate. -/
def tableScrubTag : Nat := 2 ^ 33 + 4

/-- The pipelines a change of a section is written to (R210): all four in order, or the one it names when learned. -/
def State.emPipes (s : State) (pipe c : Nat) : List Nat :=
  if s.on Fld.EXM_SECT_CFG_LEARNED_SECT pipe c then [pipe] else allPipes

/-- The key check of R207 step 1. -/
def State.emKeyOk (s : State) (pipe c key : Nat) : Bool :=
  s.sectOn pipe c && decide (key < 2 ^ emKeyBits (s.rd Fld.EXM_SECT_CFG_KEY_FMT pipe c))

/-- A host operation that has entered the exact-match change queue of a pipeline and has still to run there (R207). -/
def State.emPending (s : State) (p : Nat) : Bool :=
  s.kpr.inFlight.any (fun c => [opEmInsert, opEmDelete, opEmModify].contains c.opcode && !s.replied c.tag
    && c.change.elim false (fun h => h.left.contains p))

/-- A host operation waits in a pipeline: the stage is held off (R219), or a notification that entered the change queue before it has
still to run (R207). -/
def State.emHeld (s : State) (p : Nat) : Bool := (s.exm p).exmHeld || s.gateAsked (p + 1) actLearn learnTag

/-- An exact-match mailbox change: checked, and charged to the learning inserts of each pipeline (R211). -/
def State.emChange (s : State) (tag op : Nat) (i : Instr) (pipe c key : Nat) (wordOk : Bool) (write : State → Nat → PipeWrite) : State :=
  s.replicate tag op i (s.emPipes pipe c) actLearn (if s.emKeyOk pipe c key && wordOk then none else some .badKey) write

/-- The shadowed blocks of some places of a section. -/
def State.emBlocks (s : State) (p c : Nat) (ks : List Nat) : List (Nat × Nat) := (ks.flatMap (s.emBlock p c)).eraseDups

/-- EM_INSERT (R207): insert an entry. -/
def execEmInsert (tag pipe sect key : Nat) (static : Bool) (cls : Nat) (word : BitVec 32) (meta_ : Nat) (s : State) :
    Host.Outcome State Fault Refusal :=
  .next (s.emChange tag opEmInsert (.emInsert tag pipe sect key static cls word meta_) pipe sect key (s.resultOk word) (fun t p =>
    let e := emMake (t.sectWide p sect) static false sect cls key word meta_
    let waits := t.emHeld p || t.emBlocked p e
    let blocks := t.emBlocks p sect (t.emPlan p e).places
    match t.emInsert p e with
    | (u, .ok m) => ⟨u.lrnReport p sect (u.entryNote p e) 0, 4 + 2 * m, none, none, waits, blocks⟩
    | (u, .duplicate) => ⟨u, 0, some .duplicate, none, waits, []⟩
    | (u, .full) => ⟨u, 0, some .full, none, waits, []⟩))

/-- A change of the entry that holds a key: refused as NOT_FOUND where there is none; it waits for a faulty place (R217). -/
def State.emEntry (s : State) (p sect key : Nat) (f : Nat → State) : PipeWrite :=
  match s.emHeldAt p sect key with
  | some k => ⟨f k, 4, none, some ((s.exm p).at k), s.emHeld p || s.emBlocked p ((s.exm p).at k), s.emBlocks p sect [k]⟩
  | none => ⟨s, 0, some .notFound, none, s.emHeld p || s.emFaulty p sect key, []⟩

/-- EM_DELETE (R209): remove the entry that holds a key. -/
def execEmDelete (tag pipe sect key : Nat) (s : State) : Host.Outcome State Fault Refusal :=
  .next (s.emChange tag opEmDelete (.emDelete tag pipe sect key) pipe sect key true (fun t p =>
    t.emEntry p sect key (fun k => (t.emRemove p k).lrnReport p sect (t.entryNote p ((t.exm p).at k)) 3)))

/-- Rewrite RESULT, META, STATIC and SWEEP_CLASS of the entry at a place; it keeps its hit bit (R209). -/
def State.emRewrite (s : State) (p k : Nat) (static : Bool) (cls : Nat) (word : BitVec 32) (meta_ : Nat) : State :=
  let x := s.exm p
  let e := x.at k
  let c := emSection e
  let wide := s.sectWide p c
  let e' := emMake wide static (emLearned e) c cls (emKeyOf wide e) word meta_
  let t := (s.countLearned p e false).emPut p k e' (Sparse.get x.hits k false)
  t.countLearned p e' true

/-- EM_MODIFY (R209). -/
def execEmModify (tag pipe sect key : Nat) (static : Bool) (cls : Nat) (word : BitVec 32) (meta_ : Nat) (s : State) :
    Host.Outcome State Fault Refusal :=
  .next (s.emChange tag opEmModify (.emModify tag pipe sect key static cls word meta_) pipe sect key (s.resultOk word) (fun t p =>
    t.emEntry p sect key (fun k => t.emRewrite p k static cls word meta_)))

/-- The entries of a key in the pipelines of its section: pipeline and place. -/
def State.emPlaces (s : State) (pipe sect key : Nat) : List (Nat × Nat) :=
  (s.emPipes pipe sect).filterMap (fun p => (s.emFind p sect key).map (fun k => (p, k)))

/-- EM_HIT_READ (R199, R238): the OR of the pipelines' hit bits of an entry, which it clears; each pipeline's read is charged to its
host-access share (Table 20.2). -/
def execEmHitRead (tag pipe sect key : Nat) (s : State) : Host.Outcome State Fault Refusal :=
  if !s.mbxRuns tag opEmHitRead then .next s
  else if !s.emKeyOk pipe sect key then .next (s.reply tag .badKey 0 0 0 true)
  else
    match s.chargeAll ((s.emPipes pipe sect).map (fun p => (p + 1, actHost, 1))) tag with
    | (t, false) => .next t
    | (t, true) =>
      let at_ := t.emPlaces pipe sect key
      if at_.isEmpty then .next (t.reply tag .notFound 0 0 0 true)
      else
        let bit := at_.any (fun e => Sparse.get (t.exm e.1).hits e.2 false)
        let u := at_.foldl (fun u e =>
          let x := u.exm e.1
          u.setExm e.1 { x with hits := Sparse.erase x.hits e.2 }) t
        .next (u.reply tag .ok 0 0 bit.toNat true)

/-! ### Routes -/

/-- The prefix checks of R216. -/
def prefixOk (v6 : Bool) (len prefix_ : Nat) : Bool :=
  let w := addrBits v6
  decide (len ≤ w) && decide (prefix_ < 2 ^ w) && prefix_ % 2 ^ (w - len) == 0

/-- A route change waits in a pipeline: the stage is held off, or a node on its way is faulty (R217, R219). -/
def State.routeWaits (s : State) (p key : Nat) : Bool :=
  (s.exm p).lpmHeld || (s.exm p).faultyRoutes.any (fun e => !Sparse.get (s.lrn p).lost (shKey shRoute (routeVrf e.1)) false
    && decide (routeLen e.1 ≤ routeLen key) && routeCovers e.1 (routeVrf key) (routeV6 key) (routePrefix key))

/-- A mailbox change of a route: its checks in the order of R216, its charge of one access of the host-access activity in
each pipeline, and its reply. -/
def State.routeChange (s : State) (tag op : Nat) (i : Instr) (vrf : Nat) (v6 : Bool) (len prefix_ : Nat) (wordOk add : Bool)
    (w : Option (BitVec 32)) : State :=
  let key := routeKey vrf v6 len prefix_
  s.replicate tag op i allPipes actHost (if prefixOk v6 len prefix_ && wordOk then none else some .badKey) (fun t p =>
    let old := Sparse.find (t.exm p).routes key
    let full := add && decide (524288 < t.rd Fld.LPM_STATUS_UNITS_USED p + routeUnits v6)
    let waits := t.routeWaits p key
    if add && old.isSome then ⟨t, 0, some .duplicate, none, waits, []⟩
    else if !add && old.isNone then ⟨t, 0, some .notFound, none, waits, []⟩
    else if full then ⟨t.raise Ev.LPM_FULL .pipeline p, 0, some .full, none, waits, []⟩
    else ⟨t.putRoute p key w, 1, none, old.map (fun v => v.setWidth 512), waits, [(shRoute, vrf)]⟩)

/-- ROUTE_ADD (R214, R216). -/
def execRouteAdd (tag vrf : Nat) (v6 : Bool) (len prefix_ : Nat) (word : BitVec 32) (s : State) : Host.Outcome State Fault Refusal :=
  .next (s.routeChange tag opRouteAdd (.routeAdd tag vrf v6 len prefix_ word) vrf v6 len prefix_ (s.resultOk word) true (some word))

/-- ROUTE_DELETE (R216). -/
def execRouteDelete (tag vrf : Nat) (v6 : Bool) (len prefix_ : Nat) (s : State) : Host.Outcome State Fault Refusal :=
  .next (s.routeChange tag opRouteDelete (.routeDelete tag vrf v6 len prefix_) vrf v6 len prefix_ true false none)

/-- ROUTE_MODIFY (R216). -/
def execRouteModify (tag vrf : Nat) (v6 : Bool) (len prefix_ : Nat) (word : BitVec 32) (s : State) : Host.Outcome State Fault Refusal :=
  .next (s.routeChange tag opRouteModify (.routeModify tag vrf v6 len prefix_ word) vrf v6 len prefix_ (s.resultOk word) false (some word))

/-! ### Faults and disable -/

/-- The scrub read of a pipeline's tables, charged one access of the scrub share (Table 20.2): it waits, or has been made, and the words
planted there have been read. -/
def State.scrubRead (s : State) (pipe : Nat) : State × Bool :=
  let (c, ok) := s.charge (pipe + 1) actScrub 1 tableScrubTag
  if ok then
    (((c.plants 2 pipe).map Prod.fst).foldl (fun (t : State) v => t.readRoutes pipe v) (c.readPlaces pipe ((c.plants 1 pipe).map Prod.fst)), true)
  else (c, false)

/-- TABLE_SCRUB (R217, R371): a scrub read, charged one access of the scrub share (Table 20.2), with what it finds: corrected errors are counted; an uncorrectable one marks a bucket (kind 0) or overflow slot
(1) by its place, a route (2) by its key, a next hop, template, group or edit profile (4 to 7) or express entry (8) by its index, or a gate entry (9) by port index *
256 + bank * 128 + index faulty, or the configuration of a scheduler element (10) by level * 65,536 + index or of a policer (11) (R458). -/
def execTableScrub (pipe emCorrected lpmCorrected kind : Nat) (bad : Option Nat) (s : State) : Host.Outcome State Fault Refusal :=
  let (s0, ok) := s.scrubRead pipe
  if !ok then .next s0
  else
  let s1 := if emCorrected = 0 then s0 else s0.bump .EXM_ECC_CORRECTED pipe emCorrected
  let s2 := if lpmCorrected = 0 then s1 else s1.bump .LPM_ECC_CORRECTED pipe lpmCorrected
  match bad with
  | none => .next s2
  | some k =>
    let x := s2.exm pipe
    if kind < 2 then
      .next (s2.emBad pipe k)
    else if kind = 2 then
      .next ((s2.setExm pipe { x with faultyRoutes := Sparse.insert x.faultyRoutes k true }).raise Ev.LPM_ECC .pipeline pipe)
    else if kind = 10 then .next ((s2.setBlockFaulty pipe kind k true).raise Ev.SCH_CFG_ECC .pipeline pipe k)
    else if kind = 11 then .next ((s2.setBlockFaulty pipe kind k true).raise Ev.POL_CFG_ECC .pipeline pipe k)
    else if kind = 8 then
      .next ((s2.setExm pipe { x with faultyExp := Sparse.insert x.faultyExp k true }).raise Ev.GTE_TABLE_ECC .pipeline pipe k)
    else if kind = 9 then
      .next (((s2.setGateFault (24 * pipe + k / 256 % 24) (k % 256) true)).raise Ev.GTE_TABLE_ECC .pipeline pipe k)
    else
      .next ((s2.setExm pipe { x with faultyRes := Sparse.insert x.faultyRes ((kind - 4) * 65536 + k) true }).raise Ev.EDT_TABLE_ECC .pipeline pipe k)

/-- EXM_PARITY_CHECK (R218, R371): a damaged EXM, LPM or EDT register acts at its reset value until it is restored. -/
def execExmParityCheck (pipe : Nat) (bad : Option Nat) (s : State) : Host.Outcome State Fault Refusal :=
  match bad with
  | some a =>
    let hit := fun (blk : Nat) (e : Source) (t : State) => t.parityAt blk pipe a (fun _ u => (u.damage a).raise e .pipeline pipe a)
    .next (hit 17 Ev.EXM_CFG_PARITY (hit 18 Ev.LPM_CFG_PARITY (hit 22 Ev.EDT_CFG_PARITY s)))
  | none => .next s

/-- A write of EXM_CTRL (R219): changes wait once EN has been cleared, until it is set again. -/
def State.exmCtrlWrite (s : State) (who : Agent) (pipe : Nat) (v : Word) : State :=
  let t := s.ctrlWrite who Reg.EXM_CTRL Fld.EXM_CTRL_EN Fld.EXM_CTRL_QUIET pipe v usClk (s.on Fld.PRS_CTRL_EN pipe) false id
  if s.on Fld.EXM_CTRL_EN pipe == t.on Fld.EXM_CTRL_EN pipe then t
  else t.setExm pipe { t.exm pipe with exmHeld := s.on Fld.EXM_CTRL_EN pipe }

/-- EXM_DISABLE (R219): a write of EXM_CTRL with EN = 0. -/
def execExmDisable (who : Agent) (pipe : Nat) (v : Word) (s : State) : Host.Outcome State Fault Refusal :=
  .next (s.exmCtrlWrite who pipe v)

/-- A write of LPM_CTRL (R219). -/
def State.lpmCtrlWrite (s : State) (who : Agent) (pipe : Nat) (v : Word) : State :=
  let t := s.ctrlWrite who Reg.LPM_CTRL Fld.LPM_CTRL_EN Fld.LPM_CTRL_QUIET pipe v usClk (s.on Fld.PRS_CTRL_EN pipe) false id
  if s.on Fld.LPM_CTRL_EN pipe == t.on Fld.LPM_CTRL_EN pipe then t
  else t.setExm pipe { t.exm pipe with lpmHeld := s.on Fld.LPM_CTRL_EN pipe }

/-- LPM_DISABLE (R219): a write of LPM_CTRL with EN = 0. -/
def execLpmDisable (who : Agent) (pipe : Nat) (v : Word) (s : State) : Host.Outcome State Fault Refusal :=
  .next (s.lpmCtrlWrite who pipe v)

end Sys2Proof.Machine
end

