-- ==== Sys2Proof/Machine/Learning.lean ====
section
/-! DEFINITION. The commands of learning, of the ripening sweep and of the compare walker (spec 08). -/
namespace Sys2Proof.Machine

open Sys2Proof.Config

/-- Tags under which the device's own requests wait at a table-SRAM gate: no tag of the mailbox. -/
def sweepTag : Nat := 2 ^ 33 + 1
/-- See `sweepTag`. -/
def walkTag : Nat := 2 ^ 33 + 2
/-- See `sweepTag`. -/
def repairTag : Nat := 2 ^ 33 + 3

/-! ### Deciding a notification (R231 to R233, Table 8.3) -/

/-- META of an entry as a 64-bit word. -/
def State.entryMeta (s : State) (p : Nat) (e : BitVec 512) : BitVec 64 := BitVec.ofNat 64 (emMetaOf (s.sectWide p (emSection e)) e)

/-- Window open (R232). -/
def windowOpen (m : BitVec 64) (tick : Nat) : Bool :=
  decide (1 ≤ Meta.MOVES.get m) && decide ((tick + 65536 - Meta.WIN_START.get m) % 65536 < 1000)
/-- Hold-down running (R232). -/
def holdRunning (m : BitVec 64) (tick : Nat) : Bool :=
  let d := (Meta.FROZEN_UNTIL.get m + 65536 - tick) % 65536
  Meta.FROZEN.on m && decide (1 ≤ d) && decide (d ≤ 30000)

/-- Learned entries of a section. -/
def State.learnedIn (s : State) (p c : Nat) : Nat :=
  ((s.exm p).slots.filter (fun e => emLearned e.2 && emSection e.2 == c)).length

/-- A limit of row 2 is reached. -/
def State.learnLimit (s : State) (p c port : Nat) : Bool :=
  let mp := s.rd Fld.LRN_PORT_CFG_MAX_ADDR p (port % 24)
  let ms := s.rd Fld.LRN_SECT_CFG_MAX_ENTRIES p c
  (mp != 0 && s.rd Fld.LRN_PORT_STATUS_LEARNED p (port % 24) == mp) || (ms != 0 && s.learnedIn p c == ms)

/-- Rewrite a learned entry's TARGET and META (rows 7 to 9). -/
def State.moveEntry (s : State) (p k target : Nat) (m : BitVec 64) : State :=
  let e := (s.exm p).at k
  let w := emResult (s.sectWide p (emSection e)) e
  s.emRewrite p k (emStatic e) (emClass e) (ResWord.TARGET.set w target) m.toNat

/-- The entry of row 3 (R224). -/
def State.noteEntry (s : State) (p : Nat) (w : BitVec 128) : BitVec 512 :=
  let c := LearnNote.SECTION.get w
  let word := setFields (0 : BitVec 32) [(ResWord.KIND, 1), (ResWord.TARGET, LearnNote.PORT.get w)]
  emMake (s.sectWide p c) false true c (s.rd Fld.LRN_SECT_CFG_SWEEP_CLASS p c) (LearnNote.KEY.get w) word 0

/-- Decide a notification against the table as it stands: the state after it, and the accesses it is charged.  Rows 6 to 9 read META, and
an entry that the host inserted keeps the META it was given (R224): such an entry is left as it is (log entry 104). -/
def State.decideNote (s : State) (p : Nat) (w : BitVec 128) (flushed : Bool) : State × Nat :=
  let c := LearnNote.SECTION.get w
  let port := LearnNote.PORT.get w
  let key := LearnNote.KEY.get w
  let item := p * 16 + c
  if flushed then (s.bump .LRN_FLUSH_DISCARD p, 0)
  else
    match s.emHeldAt p c key with
    | none =>
      if s.learnLimit p c port then ((s.bump .LRN_LIMIT_DROP port).raiseMs Ev.LRN_LIMIT .port port, 0)
      else
        match s.emInsert p (s.noteEntry p w) with
        | (t, .ok m) => ((t.bump .LRN_INSERTS item).lrnReport p c w 0, 4 + 2 * m)
        | (t, .full) => (t.bump .LRN_INSERT_FULL item, 0)
        | (t, .duplicate) => (t, 0)
    | some k =>
      let e := (s.exm p).at k
      let target := ResWord.TARGET.get (emResult (s.sectWide p c) e)
      let m := s.entryMeta p e
      let tick := s.rd Fld.LRN_TICK_TICK p
      let swept := s.on Fld.LRN_CTRL_SWEEP_EN p
      let limit := s.rd Fld.LRN_MOVE_CFG_MOVE_LIMIT p
      if emStatic e then (s.bump .LRN_STATIC_CONFLICT port, 0)
      else if target = port then (s.bump .LRN_REDUNDANT item, 0)
      else if !emLearned e then (s, 0)
      else if swept && holdRunning m tick then (s.bump .LRN_FROZEN_DROP item, 0)
      else if swept && windowOpen m tick then
        if limit ≠ 0 ∧ Meta.MOVES.get m = limit then
          let m' := setFields m [(Meta.FROZEN, 1), (Meta.FROZEN_UNTIL, (tick + s.rd Fld.LRN_MOVE_CFG_HOLD_MS p) % 65536), (Meta.MOVES, limit + 1)]
          ((((s.moveEntry p k (Meta.WIN_PORT.get m) m').bump .LRN_FREEZES item).raise Ev.LRN_STATION_FREEZE .port port).lrnReport p c w 2, 4)
        else
          (((s.moveEntry p k port (Meta.MOVES.set m (min 255 (Meta.MOVES.get m + 1)))).bump .LRN_STATION_MOVES item).lrnReport p c w 1, 4)
      else
        let m' := setFields m [(Meta.WIN_PORT, target), (Meta.WIN_START, tick), (Meta.MOVES, 1), (Meta.FROZEN, 0)]
        (((s.moveEntry p k port m').bump .LRN_STATION_MOVES item).lrnReport p c w 1, 4)

/-- LEARN_DECIDE (R231, R232, R250): the notification at the head of a pipeline's learn queue enters the change queue, behind the host
operations that entered it before (R207), and is decided; one that fails ECC is discarded. -/
def execLearnDecide (take : LearnTake) (s : State) : Host.Outcome State Fault Refusal :=
  let pipe := take.pipe
  match (s.lrn pipe).queue with
  | [] => .next s
  | (w, flushed) :: rest =>
    if take.bad then .next ((s.setLearnQueue pipe rest).bump .LRN_ECC_DROP pipe)
    else if (s.exm pipe).exmHeld || s.emBlocked pipe (s.noteEntry pipe w) || (s.emPending pipe && !s.gateAsked (pipe + 1) actLearn learnTag) then .next s
    else
      let (u, ok) := s.charge (pipe + 1) actLearn (s.decideNote pipe w flushed).2 learnTag
      if ok then .next ((u.setLearnQueue pipe rest).decideNote pipe w flushed).1 else .next u

/-- LEARN_TICK (R225): once per millisecond. -/
def execLearnTick (pipe : Nat) (s : State) : Host.Outcome State Fault Refusal :=
  let l := s.lrn pipe
  if s.now < l.tickAt + msClk then .next s
  else .next ((s.setLrn pipe { l with tickAt := l.tickAt + msClk }).wr Fld.LRN_TICK_TICK ((s.rd Fld.LRN_TICK_TICK pipe + 1) % 65536) pipe)

/-- LRN_FLUSH (R235, R236): a section, a port and a VID, or all of them; one entry at each execution. -/
def execLrnFlush (tag pipe : Nat) (sect port vid : Option Nat) (s : State) : Host.Outcome State Fault Refusal :=
  if s.mbxRunsAt tag opLrnFlush pipe then
    let mine := fun (t : State) => (t.lrn pipe).flushes.find? (fun f => f.tag == some tag)
    let t := match mine s with
      | some f => s.flushNext pipe f
      | none => s.startFlush pipe (some tag) sect port vid
    .next (if (mine t).isNone then t.reply tag .completed (t.doneOf tag) 0 0 true else t)
  else .next s

/-! ### The ripening sweep (R238 to R243) -/

/-- Blocks a pass visits: buckets, then overflow groups (R243). -/
def sweepBlocks : Nat := 81920

/-- SWEEP_PASS_START (R239, R243): a pass is due every BASE_MS; one that is due while another runs starts as soon as that
finishes. -/
def execSweepPassStart (pipe : Nat) (s : State) : Host.Outcome State Fault Refusal :=
  let l := s.lrn pipe
  let base := s.rd Fld.LRN_SWEEP_CFG_BASE_MS pipe * msClk
  if !s.on Fld.LRN_CTRL_SWEEP_EN pipe || decide (s.now < l.passAt) then .next s
  else if l.pos.isSome then
    if l.passDue then .next s
    else .next (((s.setLrn pipe { l with passDue := true }).bump .LRN_SWEEP_OVERRUN pipe).raise Ev.LRN_SWEEP_OVERRUN .pipeline pipe)
  else
    let next := if l.passDue then s.now + base else l.passAt + base
    .next ((s.setLrn pipe { l with pos := some 0, passAt := next, passDue := false }).wr Fld.LRN_SWEEP_STATUS_PASS
      ((s.rd Fld.LRN_SWEEP_STATUS_PASS pipe + 1) % 2 ^ 32) pipe)

/-- A class is due on the running pass: every nth, counted from the first after its PERIOD was written (R239). -/
def State.classDue (s : State) (p c : Nat) : Bool :=
  let n := s.rd Fld.LRN_SWEEP_CLASS_PERIOD p c
  let k := (s.rd Fld.LRN_SWEEP_STATUS_PASS p + 2 ^ 32 - Sparse.get (s.lrn p).classFrom c 0) % 2 ^ 32
  n != 0 && k != 0 && k % n == 0

/-- The section that holds a narrow bucket of the store, by its number in the store. -/
def State.sectionOf (s : State) (p i : Nat) : Option Nat :=
  (List.range 16).find? (fun c =>
    let b := s.rd Fld.EXM_SECT_CFG_BASE_UNIT p c
    decide (b ≤ i / 256) && decide (i / 256 < b + s.rd Fld.EXM_SECT_CFG_SIZE_UNITS p c))

/-- The places of the learned entries a visit meets: those of a bucket, numbered as narrow buckets of the store, or of an
overflow group. -/
def State.sweepPlaces (s : State) (p i : Nat) : List Nat :=
  let learned := fun (c : Nat) => s.on Fld.EXM_SECT_CFG_LEARNED_SECT p c
  if i < 79872 then
    match s.sectionOf p i with
    | some c => if learned c then bucketPlaces c (i - s.rd Fld.EXM_SECT_CFG_BASE_UNIT p c * 256) else []
    | none => []
  else
    ((List.range 4).map (fun j => ovfPlace ((i - 79872) * 4 + j))).filter (fun k => learned (emSection ((s.exm p).at k)))

/-- What a visit does with the entry at a place (R239, R242). -/
def State.sweepEntry (s : State) (p k : Nat) : State :=
  let x := s.exm p
  let e := x.at k
  if !(emValid e && emLearned e) then s
  else
    let c := emSection e
    let tick := s.rd Fld.LRN_TICK_TICK p
    let m := s.entryMeta p e
    let m1 := if windowOpen m tick then m else Meta.MOVES.set m 0
    let m2 := if holdRunning m tick then m1 else Meta.FROZEN.set m1 0
    let s1 := if m2 = m then s
      else s.emRewrite p k (emStatic e) (emClass e) (emResult (s.sectWide p c) e) m2.toNat
    if emStatic e || !s.classDue p (emClass e) then s1
    else if Sparse.get x.hits k false then
      let y := s1.exm p
      s1.setExm p { y with hits := Sparse.erase y.hits k }
    else (s1.unlearn p k).bump .LRN_AGED (p * 16 + c)

/-- SWEEP_VISIT (R239, R240): the pass visits its next block: one access to read it and one more to write it. -/
def execSweepVisit (pipe : Nat) (s : State) : Host.Outcome State Fault Refusal :=
  let l := s.lrn pipe
  match l.pos with
  | none => .next s
  | some i =>
    let ks := s.sweepPlaces pipe i
    let t := ks.foldl (fun t k => t.sweepEntry pipe k) s
    let (u, ok) := s.charge (pipe + 1) actSweep (if t = s then 1 else 2) sweepTag
    if ok then
      let v := ks.foldl (fun t k => t.sweepEntry pipe k) u
      let l1 := v.lrn pipe
      .next (v.setLrn pipe { l1 with pos := if i + 1 < sweepBlocks then some (i + 1) else none })
    else .next u

/-! ### The compare walker and repairs (R244 to R247) -/

/-- Blocks of a full walk (R249). -/
def walkBlocks : Nat := 155648

/-- WALK_PERIOD_START (R246). -/
def execWalkPeriodStart (pipe : Nat) (s : State) : Host.Outcome State Fault Refusal :=
  let l := s.lrn pipe
  let period := s.rd Fld.LRN_WALK_CFG_PERIOD_MS pipe * msClk
  if !s.on Fld.LRN_CTRL_WALK_EN pipe || decide (s.now < l.walkAt) then .next s
  else if l.walkPos.isSome then
    if l.walkDue then .next s
    else .next (((s.setLrn pipe { l with walkDue := true }).bump .SHD_WALK_OVERRUN pipe).raise Ev.SHD_WALK_OVERRUN .pipeline pipe)
  else .next (s.setLrn pipe { l with walkPos := some 0, walkFrom := s.now, skipped := [], suspect := none, walkAt := (if l.walkDue then s.now else l.walkAt) + period, walkDue := false })

/-- The kind of the block at a position of the walk (R249): 79,872 buckets, 2,048 overflow groups, 49,152 blocks of route nodes, 20,480 of
rule rows and 4,096 of action words (log entry 105). -/
def walkKind (i : Nat) : Nat :=
  if i < 79872 then shEm else if i < 81920 then shOvf else if i < 131072 then shRoute else if i < 151552 then shRow else shAct

/-- A block is one that a position of the walk reads: rows take 40 bytes and action words 8; which routes a route node holds is internal. -/
def State.walkReads (s : State) (p i kind block : Nat) : Bool :=
  kind == walkKind i &&
    (match kind with
    | 0 => (s.sectionOf p i).elim false (fun c =>
        let n := i - s.rd Fld.EXM_SECT_CFG_BASE_UNIT p c * 256
        block == c * 2 ^ 18 + (if s.sectWide p c then n / 2 else n))
    | 1 => block == i - 79872
    | 2 => decide (block < 256)
    | 3 => decide (block * 40 / 128 ≤ i - 131072 ∧ i - 131072 ≤ (block * 40 + 39) / 128)
    | _ => block / 16 == i - 151552)

/-- The walk goes on to its next block; it ends once it has visited every block, the skipped ones too. -/
def State.walkOn (s : State) (p i : Nat) (skipped : List (Nat × Nat)) : State :=
  s.setLrn p { s.lrn p with skipped := skipped, walkPos := if walkBlocks ≤ i ∧ skipped.isEmpty = true then none else some i }

/-- What the walker finds in a block: a flipped SRAM block planted in it (R780), or what the command names. -/
def State.walkFinds (s : State) (p kind block : Nat) (f : ShadowFinding) : ShadowFinding :=
  if (Sparse.find s.dgn.planted (plantKey 11 p (shKey kind block))).isSome then .sramWrong else f
/-- The walker reads a block and its tag (R246): a BUSY one is skipped and visited again after the next block; a mismatch is read a second
time. -/
def State.walkRead (s : State) (p i kind block : Nat) (f : ShadowFinding) (skipped : List (Nat × Nat)) : State :=
  let f := s.walkFinds p kind block f
  let tag := s.shadowTag p kind block
  if !tag.valid then s.walkOn p i skipped
  else
    match s.chargeAll [(0, actKeeper, 8), (p + 1, actShadow, 1)] walkTag with
    | (t, false) => t
    | (t, true) =>
      if t.tagBusy p kind block then
        (t.bump .SHD_SKIPPED_BUSY p).walkOn p i (skipped ++ [(shKey kind block, min (i + 1) walkBlocks)])
      else
        let u := t.setLrn p { t.lrn p with suspect := if f = .matches then none else some (shKey kind block, tag.seq, f) }
        (u.bump .SHD_BLOCKS_COMPARED p).walkOn p i skipped

/-- WALK_VISIT (R246, R247): the walker reads the next block of its pipeline, evenly over its period, or one it skipped; or it reads a
block that mismatched again: an unchanged WRITE_SEQ with BUSY 0 confirms the mismatch, which waits for its repair.  Blocks of the kinds
from 5 on are read beside the walk (R371, R541, R589). -/
def execWalkVisit (pipe kind block : Nat) (f : ShadowFinding) (s : State) : Host.Outcome State Fault Refusal :=
  let l := s.lrn pipe
  let k := shKey kind block
  match l.walkPos, l.suspect with
  | none, _ => .next s
  | some _, some (k', seq, g) =>
    if k ≠ k' then .next s
    else
      match s.chargeAll [(0, actKeeper, 136)] walkTag with
      | (t, false) => .next t
      | (t, true) =>
        let m := t.lrn pipe
        let sure := (t.shadowTag pipe kind block).seq == seq && !t.tagBusy pipe kind block
        .next (t.setLrn pipe { m with suspect := none, repairs := if sure then Sparse.insert m.repairs k (t.now, g) else m.repairs })
  | some i, none =>
    match l.skipped with
    | (k', due) :: rest =>
      if due ≤ i then .next (if k = k' then s.walkRead pipe i kind block f rest else s)
      else if s.walkReads pipe i kind block then .next (s.walkRead pipe (i + 1) kind block f l.skipped)
      else .next s
    | [] =>
      if 5 ≤ kind then .next (s.walkRead pipe i kind block f [])
      else if s.now * walkBlocks < l.walkFrom * walkBlocks + i * (s.rd Fld.LRN_WALK_CFG_PERIOD_MS pipe * msClk) then .next s
      else if i < 79872 ∧ (s.sectionOf pipe i).isNone = true then .next (s.walkOn pipe (i + 1) [])
      else if s.walkReads pipe i kind block then .next (s.walkRead pipe (i + 1) kind block f [])
      else .next s

/-- The learned entries of a faulty bucket or overflow group are cleared (R217). -/
def State.clearLearned (s : State) (p kind block : Nat) : State :=
  (if kind < 2 then blockPlaces kind block else []).foldl (fun t k =>
    let e := (t.exm p).at k
    if emValid e && t.on Fld.EXM_SECT_CFG_LEARNED_SECT p (emSection e) then t.unlearn p k else t) s

/-- A SEAL register of the exact-match and route stages comes back only through a warm reset (R218). -/
def sealedReg (a : Nat) : Bool :=
  match regAt (a % 0x100000000) with
  | some x => (x.reg.blk == 17 || x.reg.blk == 18) && x.reg.fields.any (fun f => f.access == .seal)
  | none => false

/-- A repair of a block by what was found (R247): the SRAM block is rewritten from the shadow and is sound again, or the shadow from the
SRAM block; or the block is lost.  A learned section has no shadow: its entries are cleared. -/
def State.repairBlock (s : State) (p kind block : Nat) (walked : Bool) (f : ShadowFinding) : State :=
  let l := s.lrn p
  let k := shKey kind block
  match f with
  | .matches => s
  | .sramWrong =>
    let t := ((((s.readPlant 11 p k).1).blockWrite p kind block (s.shadowCopy p kind block)).clearLearned p kind block).setBlockFaulty p kind block false
    if walked then (t.bump .SHD_SRAM_REPAIRS p).raise Ev.SHD_SRAM_REPAIRED .pipeline p block else t
  | .shadowWrong =>
    let d := s.blockRead p kind block
    let tag := s.shadowTag p kind block
    let t := s.setLrn p { l with copies := Sparse.insert l.copies k d, shadows := Sparse.insert l.shadows k { tag with crc := d.crc } }
    (t.bump .SHD_SHADOW_REPAIRS p).raise Ev.SHD_SHADOW_REPAIRED .pipeline p block
  | .lost =>
    let t := s.setLrn p { l with lost := Sparse.insert l.lost k true }
    ((t.setBlockFaulty p kind block true).bump .SHD_BLOCKS_LOST p).raise Ev.SHD_BLOCK_LOST .pipeline p block

/-- SHADOW_REPAIR (R217, R247): a block that a walk has confirmed wrong, or that a scrub has found faulty, is repaired, its reads and
writes charged to the harbour tide and to scrub and repair (R249).  One that was lost stays faulty. -/
def execShadowRepair (pipe kind block : Nat) (f : ShadowFinding) (s : State) : Host.Outcome State Fault Refusal :=
  let k := shKey kind block
  let found := Sparse.find (s.lrn pipe).repairs k
  let mine := match found with | some (_, g) => decide (g = f) | none => s.blockFaulty pipe kind block && f != .matches
  if !mine || Sparse.get (s.lrn pipe).lost k false || (kind == shReg && sealedReg block) then .next s
  else
    match s.chargeAll [(0, actKeeper, 136), (pipe + 1, actScrub, 1)] repairTag with
    | (t, false) => .next t
    | (t, true) =>
      let l := t.lrn pipe
      .next ((t.setLrn pipe { l with repairs := Sparse.erase l.repairs k }).repairBlock pipe kind block found.isSome f)

/-! ### Control -/

/-- A write of LRN_CTRL (R250): clearing EN starts the drain of 100 µs; setting SWEEP_EN or WALK_EN starts a new pass or
walk, clearing it stops the running one. -/
def State.lrnCtrlWrite (s : State) (who : Agent) (pipe : Nat) (v : Word) : State :=
  let t := s.ctrlWrite who Reg.LRN_CTRL Fld.LRN_CTRL_EN Fld.LRN_CTRL_QUIET pipe v (100 * usClk) false false id
  let l := t.lrn pipe
  let l1 := if s.on Fld.LRN_CTRL_SWEEP_EN pipe == t.on Fld.LRN_CTRL_SWEEP_EN pipe then l
    else { l with pos := none, passDue := false, passAt := s.now }
  let l2 := if s.on Fld.LRN_CTRL_WALK_EN pipe == t.on Fld.LRN_CTRL_WALK_EN pipe then l1
    else { l1 with walkPos := none, skipped := [], suspect := none, walkDue := false, walkAt := s.now }
  t.setLrn pipe l2

/-- LRN_DISABLE (R250): a write of LRN_CTRL with EN = 0. -/
def execLrnDisable (who : Agent) (pipe : Nat) (v : Word) (s : State) : Host.Outcome State Fault Refusal :=
  .next (s.lrnCtrlWrite who pipe v)

end Sys2Proof.Machine
end

