-- ==== Sys2Proof/Machine/Edit.lean ====
section
/-! DEFINITION. The commands of the editor and the capture writer (spec 12): editing a packet and sending it on or to
backwash, capture records, and the writes of next hops, templates and edit profiles. -/
namespace Sys2Proof.Machine

open Sys2Proof.Config

/-! ### The edit of a packet (R353 to R364) -/

/-- How the edits of a packet end. -/
inductive EditEnd where
  /-- Discarded, with a counter of the pipeline. -/
  | drop (c : Ctr)
  | fault
  | expired
  | mtu
  /-- Edited: the packet's headers, the egress port of a next hop, and where padding is cut. -/
  | done (e : Ed) (port : Option Nat) (cut : Option Nat)
  deriving DecidableEq, Repr

/-- The frame of a packet is complete and short, so that its data length is known at the edit (R358). -/
def Packet.lenKnown (p : Packet) : Bool := p.ended.isSome && decide (p.orig.length + 4 ≤ 256)
/-- The FAR of a session packet. -/
def Packet.far (p : Packet) : Option (BitVec 64) := p.sess.map SessUse.far
/-- The editor sends a packet to backwash (R362). -/
def Packet.toBackwash (p : Packet) : Bool :=
  ActWord.VERDICT.get p.act == 6 || p.hairpin
    || (match p.far with | some f => !Far.ENCAP.on f && Far.ROUTE.on f | none => false)

/-- Step 6 of Table 12.3: the next hop's TTL decrement, tag operation, encapsulation and addresses; none when a length it
needs is not known.  E counts the headers as steps 1 to 5 leave them (R358; log entry 89). -/
def State.editNh (s : State) (p : Packet) (e : Ed) (h : BitVec 128) : Option Ed :=
  let e1 := if NextHop.TTL_DEC.on h then e.decTtl else e
  let vid := NextHop.VID.get h
  let tagged := match NextHop.TAG_OP.get h with
    | 1 => e1.setTci (fun t => t / 4096 * 4096 + vid)
    | 2 => e1.pushTag 0 0 vid
    | 3 => e1.popTag
    | _ => none
  let e2 := tagged.getD e1
  let smac := NextHop.SMAC_IDX.get h
  let macs := fun (x : Ed) => x.setMacs (NextHop.DMAC.get h)
    (s.rd Fld.EDT_SMAC_HI_ADDR p.pipe smac * 2 ^ 32 + s.rd Fld.EDT_SMAC_LO_ADDR p.pipe smac)
  if !NextHop.ENCAP_EN.on h then some (macs e2)
  else
    let t := Sparse.get (s.exm p.pipe).tpls (NextHop.TEMPLATE.get h) 0
    let l2 := Tpl.L2_PAYLOAD.on t
    let len := match e.ip, e.dgram with
      | some ip, some d => some (if l2 then ip.off + d else d)
      | _, _ => if p.lenKnown then some (e.b.length - (if l2 then 0 else e.l2End)) else none
    let gtp := fun (n : Nat) => if tplGtpu t then
        match p.far with
        | some f => gtpuHdr 255 (Far.PEER_TEID.get f) (Far.QFI.get f) n
        | none => gtpuHdr 255 (freeNat s.fresh % 2 ^ 32) 0 n
      else []
    len.map (fun n => macs (e2.encap t gtp n (Sparse.get s.edt.ident p.pipe 0) ((s.lbHash p).getD 0)))

/-- The edits of a packet, in the order of Table 12.3. -/
def State.edits (s : State) (p : Packet) : EditEnd × Nat :=
  let prof := if ActWord.EDIT_SET.on p.act then some (ActWord.EDIT_PROFILE.get p.act) else none
  let ops := match prof with | some i => profOps (Sparse.get (s.exm p.pipe).edits i []) | none => []
  let nh := match p.dest with | .nextHop i => if p.toBackwash then none else some (i, s.nhAt p.pipe i) | _ => none
  let faulty := (match prof with | some i => s.resFaulty p.pipe 3 i | none => false)
    || (match nh with
        | some (i, h) => s.resFaulty p.pipe 0 i || (NextHop.ENCAP_EN.on h && s.resFaulty p.pipe 1 (NextHop.TEMPLATE.get h))
        | none => false)
  if faulty then (.fault, 0)
  else
    let e1 := match p.sess with | some u => if u.downlink then p.ed else p.ed.decapSession | none => p.ed
    let e2 := (ops.filter isDecap).foldl Ed.op e1
    match p.nat.bind (fun w => e2.nat64No w (ParseRes.IP_OPTIONS.on p.parse)) with
    | some c => (.drop c, e2.skips)
    | none =>
      let e3 := match p.nat with | some w => e2.nat w (Sparse.get s.edt.ident p.pipe 0) | none => e2
      let e4 := (ops.filter (fun w => !isDecap w)).foldl Ed.op e3
      let dscp := match p.polDscp with
        | some v => some v
        | none => if ActWord.DSCP_SET.on p.act then some (ActWord.DSCP.get p.act) else none
      let e5 := match dscp with | some v => e4.setDscp v | none => e4
      let invalid := match nh with | some (_, h) => NextHop.TYPE.get h != 1 | none => false
      if e4.expired then (.expired, e4.skips)
      else if invalid then (.drop .EDT_NH_INVALID, e4.skips)
      else
        match (match nh with | some (_, h) => s.editNh p e5 h | none => some e5) with
        | none => (.drop .EDT_LEN_UNKNOWN, e4.skips)
        | some e6 =>
          let encap := match nh with | some (_, h) => NextHop.ENCAP_EN.on h | none => false
          let nat64 := match p.nat with | some w => w.role == 4 || w.role == 5 | none => false
          let cut := if (encap || nat64) && ParseRes.IP_END.get p.parse != 0 then
              some ((ParseRes.IP_END.get p.parse : Int) + e6.grew).toNat else none
          let mtu := match nh with | some (_, h) => NextHop.MTU_PROF.get h | none => 0
          let beyond := match e6.dgram with
            | some d => !p.toBackwash && decide (s.rd Fld.EDT_MTU_MTU p.pipe mtu < d)
            | none => false
          if e6.expired then (.expired, e4.skips)
          else if 128 < e6.grew then (.drop .EDT_GROW_DROP, e4.skips)
          else if beyond then (.mtu, e4.skips)
          else (.done e6 (nh.map (fun x => NextHop.PORT.get x.2)) cut, e4.skips)

/-- The free bytes of the backwash queue of a pipeline hold a packet (R364). -/
def State.backwashRoom (s : State) (pipe len : Nat) : Bool :=
  let q := s.fifo pipe 24
  decide (q.length < 1024 ∧ fifoFill q + len ≤ 524288)

/-- Send an edited packet to backwash (R362 to R364, R831): what its first pass did is committed, and it returns to the arbiter as a second
pass, levelled by its ingress port's limits.  A transmit checksum request does not come with it (DESIGN CHOICE, log entry 103). -/
def State.backwash (s : State) (n : Nat) : State :=
  let p := s.pkt n
  if p.pass = 1 then
    ((s.discard n).bump .EDT_PASS_LIMIT p.pipe).raiseMs Ev.EDT_PASS_LIMIT .pipeline p.pipe
  else if (match p.stamp with | some e => (List.range 2).all (fun k => s.epoch p.pipe k != e) | none => false) then
    (s.discard n).bump .RBK_EPOCH_STRAGGLERS p.pipe
  else if !s.backwashRoom p.pipe p.frame.length then
    ((s.discard n).bump .EDT_BW_FULL p.pipe).raiseMs Ev.EDT_BW_FULL .pipeline p.pipe
  else
    let t := s.settleEnd n
    let q := t.pkt n
    if q.status = some true then t.forget n
    else
      let u := t.setPkt n { Packet.init with
        stage := .fifo, port := q.port, pipe := q.pipe, pass := 1, ts := q.ts, ended := some false, frame := q.frame,
        orig := q.frame, stamp := q.stamp, inSlot := q.inSlot, grows := false, replay := q.replay }
      let v := u.arbOffer q.pipe 24 n
      v.wr Fld.EDT_BW_STATUS_DEPTH (v.rd Fld.EDT_BW_STATUS_DEPTH q.pipe + 1) q.pipe

/-- The port a packet's MTU drop is counted for: its egress front port, or the port it came in on (R361). -/
def mtuPort (p : Packet) (egress : Option Nat) : Nat :=
  match (match egress with | some e => some e | none => match p.dest with | .port e => some e | _ => none) with
  | some e => if e < 96 then e else p.port
  | none => p.port

/-- The egress port of a packet, when it is known (R361). -/
def State.knownEgress (s : State) (p : Packet) : Option Nat :=
  match p.dest with
  | .nextHop i => some (NextHop.PORT.get (s.nhAt p.pipe i))
  | .port x => some x
  | _ => none
/-- The MTU profile of a packet: that of its next hop, or 0 (R361). -/
def State.mtuProf (s : State) (p : Packet) : Nat :=
  match p.dest with | .nextHop i => NextHop.MTU_PROF.get (s.nhAt p.pipe i) | _ => 0

/-- The pipeline counter of identifications goes on when a packet takes one (Table 12.5, R359). -/
def State.usedIdent (s : State) (p : Packet) : State :=
  let encap := match p.dest with | .nextHop i => NextHop.ENCAP_EN.on (s.nhAt p.pipe i) | _ => false
  let nat := match p.nat with | some w => w.role == 4 | none => false
  if encap || nat then
    { s with edt := { s.edt with ident := Sparse.put s.edt.ident p.pipe ((Sparse.get s.edt.ident p.pipe 0 + 1) % 65536) 0 }, fresh := s.fresh + 1 }
  else s

/-- Edit a packet and send it on (R353). -/
def State.edit (s : State) (n : Nat) : State :=
  match s.resolve n with
  | (t, false) => t
  | (t, true) =>
    let p := t.pkt n
    let (e, skips) := t.edits p
    let t1 := if skips = 0 then t else t.bump .EDT_OP_SKIP p.pipe skips
    match e with
    | .drop c => (t1.discard n).bump c p.pipe
    | .fault => t1.faultDrop n
    | .expired =>
      let u := t1.bump .EDT_TTL_EXPIRED p.port
      if u.on Fld.EDT_CFG_TTL_ACT p.pipe then u.toHost n 16 0 .PRS_HOST_UNAVAIL else u.discard n
    | .mtu =>
      let k := mtuPort p (t.knownEgress p)
      let u := (t1.bump .EDT_MTU_EXCEEDED k).raiseMs Ev.EDT_MTU_EXCEEDED .port k
      if u.on Fld.EDT_MTU_MTU_ACT p.pipe (t.mtuProf p) then u.toHost n 15 0 .PRS_HOST_UNAVAIL else u.discard n
    | .done x port cut =>
      let frame := match cut with | some k => x.b.take k | none => x.b
      let q := { p with frame := frame, cut := cut,
                        dest := (match port with | some k => .port k | none => p.dest) }
      let t2 := (t1.usedIdent p).setPkt n q
      if p.toBackwash then t2.backwash n
      else
        let t3 := t2.leaveSlot n
        let t4 := t3.setPkt n { t3.pkt n with stage := .cells }
        let w := frame.take 256
        t4.mirrorCopy n 1 (parseWindow (s.parseCfg p.pipe p.port) w (if p.lenKnown then some (frame.length + 4) else none) p.port p.pass) x.grew

/-- EDIT (R353 to R366, R372): a packet at the editor.  One that goes to backwash waits until its end has arrived. -/
def execEdit (n : Nat) (s : State) : Host.Outcome State Fault Refusal :=
  let p := s.pkt n
  if (Sparse.find s.pkts n).isNone || p.stage != .edit || s.behind n then .next s
  else if !s.on Fld.EDT_CTRL_EN p.pipe && !s.draining 22 p.pipe then
    .next (((s.discard n).bump .EDT_DISCARD_DISABLE p.pipe).raise Ev.EDT_DRAIN_DISCARD .pipeline p.pipe)
  else if p.toBackwash && p.ended.isNone then .next s
  else .next (s.edit n)

/-! ### Capture (R368 to R370, R372) -/

/-- Records a ring holds, and bytes of a record. -/
def State.ringCap (s : State) (r : Nat) : Nat := s.rd Fld.EDT_CAP_RING_CFG_COUNT_K 0 r * 1024
/-- See `State.ringCap`. -/
def State.capBytes (s : State) (r : Nat) : Nat := 64 * (s.rd Fld.EDT_CAP_RING_CFG_CAP_LEN 0 r + 1)
/-- Unread records of a ring. -/
def State.ringFill (s : State) (r : Nat) : Nat := (s.rd Fld.EDT_CAP_WR_WR 0 r + 2 ^ 32 - s.rd Fld.EDT_CAP_RD_RD 0 r) % 2 ^ 32

/-- Where a copy was bound (Table 12.6). -/
def State.capEgress (s : State) (c : Packet) : Nat :=
  match c.dest with
  | .port e => e
  | .nextHop i => if NextHop.TYPE.get (s.nhAt c.pipe i) = 1 then NextHop.PORT.get (s.nhAt c.pipe i) else 127
  | _ => 127

/-- The descriptor of a record (Table 12.6). -/
def State.capDesc (s : State) (c : Packet) (u : CapUse) (data lost : Nat) : BitVec 512 :=
  let len := match c.cut with | some k => k | none => ((c.len : Int) + u.grew).toNat
  let ts := c.ts.toNat
  setFields 0 [(CapDesc.FRAME_LEN, len + 4), (CapDesc.END_ERR, (c.status == some true).toNat), (CapDesc.POINT, u.point),
    (CapDesc.DATA_LEN, data), (CapDesc.SESSION, u.session), (CapDesc.PASS, c.pass), (CapDesc.SEQ, s.rd Fld.EDT_CAP_WR_WR 0 u.ring),
    (CapDesc.TS_SEC, ts / todS), (CapDesc.TS_NS, ts % todS / todNs), (CapDesc.TS_SUBNS, ts % todNs / 7),
    (CapDesc.INGRESS_PORT, ParseRes.INGRESS_PORT.get c.parse), (CapDesc.EGRESS_PORT, s.capEgress c),
    (CapDesc.EPOCH, c.stamp.getD 0), (CapDesc.LOST, lost), (CapDesc.RULE_IDX, c.rule0.getD 0), (CapDesc.RULE_VALID, c.rule0.isSome.toNat),
    (CapDesc.CLASS, c.cls), (CapDesc.PARSE, c.parse.toNat)]

/-- CAPTURE_RECORD_WRITE (R368 to R370): the oldest copy in the buffer of capture port 102 + `port` becomes a record, under
the capture share; one that finds its ring full in STOP mode is lost. -/
def execCaptureRecordWrite (port : Nat) (s : State) : Host.Outcome State Fault Refusal :=
  match Sparse.get s.edt.capBuf port [] with
  | [] => .next s
  | n :: rest =>
    let c := s.pkt n
    match c.cap, c.status with
    | some u, some _ =>
      let r := u.ring
      let gone := fun (t : State) =>
        let t1 := { t with edt := { t.edt with capBuf := Sparse.put t.edt.capBuf port rest [] } }
        t1.forget n
      if s.ringCap r ≤ s.ringFill r ∧ s.on Fld.EDT_CAP_RING_CTRL_MODE 0 r = false then
        let t := gone s
        .next { t with edt := { t.edt with lost := Sparse.insert t.edt.lost r (min 65535 (Sparse.get t.edt.lost r 0 + 1)) } }
      else
        let (t, ok) := s.charge 0 actCapture (64 + s.capBytes r) (2 ^ 44 + n)
        if !ok then .next t
        else
          let data := c.frame.take (s.capBytes r)
          let d := s.capDesc c u data.length (Sparse.get s.edt.lost r 0)
          let w := s.rd Fld.EDT_CAP_WR_WR 0 r
          let place := r * 2 ^ 32 + w % s.ringCap r
          let t1 := gone t
          let t2 := { t1 with edt := { t1.edt with ring := Sparse.insert t1.edt.ring place (d, data), lost := Sparse.erase t1.edt.lost r } }
          let at_ := 0xB00000000 + s.rd Fld.EDT_CAP_RING_CFG_BASE 0 r * 1048576 + w % s.ringCap r * (64 + s.capBytes r)
          .next (((t2.hbSend .capture 2 3 true at_ (64 + data.length)).wr Fld.EDT_CAP_WR_WR ((w + 1) % 2 ^ 32) 0 r).bump .CAP_RECORDS r)
    | _, _ => .next s

/-- A write of EDT_CAP_RD: one that would put more records in the ring than it holds is rejected (R369). -/
def State.capRdWrite (s : State) (who : Agent) (ring : Nat) (v : Word) : State :=
  s.busWrite who Reg.EDT_CAP_RD 0 ring 0 v
    (decide (s.ringCap ring < (s.rd Fld.EDT_CAP_WR_WR 0 ring + 2 ^ 32 - v.toNat) % 2 ^ 32)) id

/-- CAP_RD_WRITE (R369): records of a ring are consumed. -/
def execCapRdWrite (who : Agent) (ring : Nat) (v : Word) (s : State) : Host.Outcome State Fault Refusal :=
  .next (s.capRdWrite who ring v)

/-- CAP_RING_DISABLE (R372): a write of EDT_CAP_RING_CTRL with EN = 0: no new record; those in the buffer are still written. -/
def execCapRingDisable (who : Agent) (ring : Nat) (v : Word) (s : State) : Host.Outcome State Fault Refusal :=
  .next (s.busWrite who Reg.EDT_CAP_RING_CTRL 0 ring 0 v false id)

/-! ### Tables of the editor (R351, R352, R355, R371) -/

/-- A table write: refused as BAD_RULE, or made in P0 to P3 in order (R38). -/
def State.edtOp (s : State) (tag op : Nat) (i : Instr) (kind idx : Nat) (bad : Bool) (f : Exm → Exm) : State :=
  s.replicate tag op i allPipes actHost (if bad then some .badRule else none) (fun t p =>
    let x := t.exm p
    let k := kind * 65536 + idx
    ⟨(t.setExm p { f x with faultyRes := Sparse.erase x.faultyRes k }).touch p shRes k, 1, none, none, false, [(shRes, k)]⟩)

/-- NH_WRITE (R351, R352): write a next hop. -/
def execNhWrite (tag idx : Nat) (entry : BitVec 128) (s : State) : Host.Outcome State Fault Refusal :=
  let port := NextHop.PORT.get entry
  let kind := Tpl.KIND.get (Sparse.get (s.exm 0).tpls (NextHop.TEMPLATE.get entry) 0)
  let bad := decide (s.nhCap ≤ idx ∨ 2 ^ 107 ≤ entry.toNat ∨ NextHop.TYPE.get entry = 3 ∨ (95 < port ∧ port ≠ 100)
    ∨ (NextHop.ENCAP_EN.on entry = true ∧ kind = 0) ∨ (NextHop.TYPE.get entry = 2 ∧ s.lbCap ≤ NextHop.LB_GROUP.get entry))
  .next (s.edtOp tag opNhWrite (.nhWrite tag idx entry) 0 idx bad (fun x => { x with nhs := Sparse.put x.nhs idx entry 0 }))

/-- TPL_WRITE (R351, Table 12.2): write a tunnel template. -/
def execTplWrite (tag idx : Nat) (t : BitVec 1024) (s : State) : Host.Outcome State Fault Refusal :=
  let len := Tpl.LEN.get t
  let bad := decide (s.tplCap ≤ idx ∨ 2 ^ 922 ≤ t.toNat ∨ len < 14 ∨ 112 < len
    ∨ (Tpl.KIND.get t = 5 ∧ (Tpl.L3_OFF.get t ≠ 0 ∨ Tpl.L4_OFF.get t ≠ 0)))
  .next (s.edtOp tag opTplWrite (.tplWrite tag idx t) 1 idx bad (fun x => { x with tpls := Sparse.put x.tpls idx t 0 }))

/-- An operation word that EDIT_WRITE refuses (Table 12.4). -/
def opBad (w : BitVec 32) : Bool :=
  let v := w.toNat
  let mask := [0, 0, 0x01FFFF00, 0x000FFF00, 0x700, 0x00FFFF00, 0x7FFFFF00, 0x0FFFFF00, 0, 0, 0, 0x3F00].getD (v % 16) 0
  decide (12 ≤ v % 16) || decide (Nat.land v (0xFFFFFFF0 - mask) ≠ 0) || (v % 16 == 2 && v / 2 ^ 23 % 4 == 3)

/-- EDIT_WRITE (R355): write an edit profile. -/
def execEditWrite (tag idx : Nat) (words : List (BitVec 32)) (s : State) : Host.Outcome State Fault Refusal :=
  .next (s.edtOp tag opEditWrite (.editWrite tag idx words) 3 idx (decide (256 ≤ idx ∨ 8 < words.length) || words.any opBad)
    (fun x => { x with edits := Sparse.put x.edits idx words [] }))

/-- EDT_TABLE_RESTORE (R371): a faulty next hop (kind 0), template (1) or edit profile (3) is restored from its shadow, as a walk's repair
is (R247). -/
def execEdtTableRestore (pipe kind idx : Nat) (s : State) : Host.Outcome State Fault Refusal :=
  if s.resFaulty pipe kind idx then execShadowRepair pipe shRes (kind * 65536 + idx) .sramWrong s else .next s

/-- A write of EDT_CTRL (R372). -/
def State.edtCtrlWrite (s : State) (who : Agent) (pipe : Nat) (v : Word) : State :=
  s.ctrlWrite who Reg.EDT_CTRL Fld.EDT_CTRL_EN Fld.EDT_CTRL_QUIET pipe v usClk (s.on Fld.PRS_CTRL_EN pipe) false id

/-- EDT_DISABLE (R372): a write of EDT_CTRL with EN = 0. -/
def execEdtDisable (who : Agent) (pipe : Nat) (v : Word) (s : State) : Host.Outcome State Fault Refusal :=
  .next (s.edtCtrlWrite who pipe v)

end Sys2Proof.Machine
end

