-- ==== Sys2Proof/Machine/Flow.lean ====
section
/-! DEFINITION. The commands of the flow stage and the curd cache (spec 09; spec 11, R323 to R326; spec 22, R642). -/
namespace Sys2Proof.Machine

open Sys2Proof.Config

/-! ### What a packet looks up (R256, R295, R296, R323 to R325) -/

/-- What the flow stage does with a packet. -/
inductive FlowWay where
  /-- No flow service. -/
  | stateless
  /-- No flow service: the class or the flow stage is off, or the packet has no key. -/
  | off | noKey
  | record (cls key : Nat)
  | natFrag (cls : Nat)
  | natErr (cls : Nat)
  | head (idx : Nat) (downlink : Bool)
  | ue (cls key : Nat)
  | upsFrag
  | echo
  | gtpOther
  deriving DecidableEq, Repr

/-- The enabled N3 address a packet is addressed to (R323). -/
def State.n3Of (s : State) (p : Packet) : Option Nat :=
  let f := p.fields 0
  (List.range 4).find? (fun k =>
    let w := fun j => (s.rdReg Reg.UPS_N3_ADDR 0 k j).toNat
    s.on Fld.UPS_N3_CFG_EN 0 k &&
      (if s.on Fld.UPS_N3_CFG_V6 0 k then f.l3 == 10 && f.dip == w 0 + w 1 * 2 ^ 32 + w 2 * 2 ^ 64 + w 3 * 2 ^ 96
       else f.l3 == 9 && f.dip == w 0))

/-- The GTP-U header that follows the outer UDP header: its offset. -/
def Packet.gtpu (p : Packet) : Option Nat :=
  let i := ParseRes.OUTER_L4_IDX.get p.parse
  let (c, o) := prHdr p.parse (i + 1)
  if i ≠ 15 ∧ i + 1 < ParseRes.HDR_COUNT.get p.parse ∧ c = 23 then some o else none

/-- The session stage is on for a packet's pipeline, and so is the flow stage (R279, R347). -/
def State.upsOn (s : State) (pipe : Nat) : Bool := s.on Fld.UPS_CTRL_EN pipe && s.on Fld.FLW_CTRL_EN pipe

/-- The session lookup of a candidate; none for a packet that is no candidate. -/
def State.sessionWay (s : State) (p : Packet) : Option FlowWay :=
  match p.replay, p.profile with
  | some i, _ => if s.upsOn p.pipe then some (.head i true) else none
  | none, some n =>
    if !s.upsOn p.pipe then none
    else
      let f := p.fields 0
      let frag := ParseRes.FRAG.on p.parse
      let n3 := if s.on Fld.UPS_PROF_UL_EN p.pipe n then s.n3Of p else none
      let port := s.rd Fld.PRS_UDP_PORTS_GTPU_PORT p.pipe
      if n3.isSome ∧ frag = true ∧ f.proto = 17 then some .upsFrag
      else if n3.isSome ∧ f.l4Code = 18 ∧ f.dst = port ∧ port ≠ 0 then
        match p.gtpu with
        | some o =>
          let t := byteAt p.parsed (o + 1)
          some (if t = 255 then .head (beAt p.parsed (o + 4) 4 % 2 ^ 22) false else if t = 1 then .echo else .gtpOther)
        | none => some .gtpOther
      else if s.on Fld.UPS_PROF_DL_EN p.pipe n ∧ f.l3 ≠ 0 then
        let k := s.ueKey (f.l3 == 10) (s.vrfOf p) f.dip
        some (.ue k.1 k.2)
      else none
  | none, none => none

/-- An ICMP or ICMPv6 error message at a level (R296). -/
def icmpError (f : KFields) (t : Nat) : Bool :=
  (f.l4Code == 16 && (t == 3 || t == 4 || t == 5 || t == 11 || t == 12)) || (f.l4Code == 17 && decide (t < 128))
/-- An echo request or reply (R295). -/
def icmpEcho (f : KFields) (t : Nat) : Bool :=
  (f.l4Code == 16 && (t == 8 || t == 0)) || (f.l4Code == 17 && (t == 128 || t == 129))

/-- The tuple of a packet for its class (R256, R295), before SYMMETRIC exchanges its ends. -/
def State.classTuple (s : State) (p : Packet) (c : Nat) : FlowTuple :=
  let lv := s.cls Fld.FLW_CLASS_CFG_LEVEL c
  let f := p.fields lv
  let t := p.tuple lv (s.vrfOf p)
  let icmp := icmpEcho f (byteAt p.parsed f.l4Off)
  let ident := be16 p.parsed (f.l4Off + 4)
  if isOut (s.role c) then { t with dip := 0, dst := 0, src := if icmp then ident else t.src }
  else if isIn (s.role c) then { t with sip := 0, src := 0, dst := if icmp then ident else t.dst }
  else t

/-- SYMMETRIC exchanges the ends of the keys of a class: 5-tuple keys only (R256). -/
def State.keyExchanges (s : State) (c : Nat) : Bool :=
  s.clsOn Fld.FLW_CLASS_CFG_SYMMETRIC c && decide (s.cls Fld.FLW_CLASS_CFG_KEY_FMT c ≤ 1)

/-- The class a packet's merged action gives it; 0 for none. -/
def Packet.flowClass (p : Packet) : Nat := if ActWord.FLOW_SET.on p.act then ActWord.FLOW_CLASS.get p.act else 0

/-- What the flow stage does with a packet. -/
def State.flowWay (s : State) (p : Packet) : FlowWay :=
  match s.sessionWay p with
  | some w => w
  | none =>
    let c := p.flowClass
    if c = 0 then .stateless
    else if !s.on Fld.FLW_CTRL_EN p.pipe || !s.clsOn Fld.FLW_CLASS_CFG_EN c then .off
    else
      let lv := s.cls Fld.FLW_CLASS_CFG_LEVEL c
      let f := p.fields lv
      let frag := if lv = 0 then ParseRes.FRAG.on p.parse else ParseRes.INNER_FRAG.on p.parse
      let nat := isOut (s.role c) || isIn (s.role c)
      let fmt := s.cls Fld.FLW_CLASS_CFG_KEY_FMT c
      if nat && frag then .natFrag c
      else if nat && icmpError f (byteAt p.parsed f.l4Off) then .natErr c
      else if f.l3 ≠ flowFmtL3 fmt then .noKey
      else
        let t := s.classTuple p c
        let u := if s.keyExchanges c && !t.forward then t.swap else t
        .record c (u.key fmt)

/-- The packet's {SIP, L4_SRC} stands in the key's SIP and L4_SRC fields (INIT_SIDE, R306). -/
def State.ownSide (s : State) (p : Packet) (c : Nat) : Bool := !s.keyExchanges c || (s.classTuple p c).forward

/-! ### Delivery and parking -/

/-- A downlink packet without a session (R325). -/
def State.noSession (s : State) (n : Nat) : State :=
  let t := s.bump .UPS_NO_SESSION (s.pkt n).pipe
  match s.rd Fld.UPS_CFG_DL_MISS_ACT with
  | 0 => t.discard n
  | 1 => t.toPolicer n
  | _ => t.toHost n 11 0 .PRS_HOST_UNAVAIL

/-- A packet that may not park takes its admission action (R265, R326). -/
def State.notAdmitted (s : State) (n c key : Nat) : State :=
  let p := s.pkt n
  let k := pcItem p.pipe c
  if (s.chain p.pipe c key).isSome then (s.discard n).bump .FLW_CHAIN_DROP k
  else
    let act := if c = 0 then s.rd Fld.UPS_CFG_MISS_ACT else s.cls Fld.FLW_CLASS_ADM_MISS_ACT c
    let t := match act with
      | 0 => (s.discard n).bump .FLW_ADMIT_DROP k
      | 1 => (s.bump .FLW_STATELESS k).toPolicer n
      | _ => s.toHost n (if c = 0 then 14 else 6) 0 .PRS_HOST_UNAVAIL
    t.raiseMs Ev.FLW_PARK_FULL .pipeline p.pipe

/-- A hit: the way is used. -/
def State.hitWay (s : State) (c key : Nat) (f : Way → Way) : State :=
  match s.way c key with
  | some w => s.useWay (f w)
  | none => s

/-- Deliver a head (R326): the packet stands at the session stage. -/
def State.deliverHead (s : State) (n i : Nat) (downlink : Bool) : State :=
  let t := s.hitWay 0 i id
  if downlink && !Sess.VALID.on (s.head i) then t.noSession n
  else t.setPkt n { t.pkt n with stage := .session, sess := some ⟨i, downlink, 0, 0, 0, false⟩ }

/-- Look a head up: a hit delivers it, a miss parks. -/
def State.seekHead (s : State) (n i : Nat) (downlink : Bool) : State :=
  let pipe := (s.pkt n).pipe
  if s.mustPark pipe 0 i then
    if s.rd Fld.FLW_PARK_STATUS_OCCUPANCY pipe < s.parkLimit pipe 0 then s.parkIn n 0 i (.head downlink)
    else s.notAdmitted n 0 i
  else (s.bump .FLW_HITS (pcItem pipe 0)).deliverHead n i downlink

/-- Deliver a record to a packet: a flow record to the services, a UE record to the head it links. -/
def State.deliver (s : State) (n c key : Nat) (seek : Seek) : State :=
  match seek with
  | .head d => s.deliverHead n key d
  | .ue =>
    match s.getRec c key with
    | some r => if FlowRec.LINK_VALID.on r then (s.hitWay c key id).seekHead n (FlowRec.LINK.get r % 2 ^ 22) true else s.noSession n
    | none => s.noSession n
  | .record =>
    match s.way c key with
    | some w =>
      let new := FlowRec.STATE.get w.rec_ == 0
      let p := s.pkt n
      let f := p.fields (s.cls Fld.FLW_CLASS_CFG_LEVEL c)
      let t := s.useWay { w with users := if new then w.users + 1 else w.users }
      t.setPkt n { p with stage := .service, flow := some ⟨c, key, s.recHash c key, none, none, f.tcp, new, none⟩ }
    | none => s

/-- The line of a record is read (R278, Table 9.4, R780): a corrected error is counted; an uncorrectable one, in the line or its tag,
invalidates the way, and what a DIRTY one changed since its last write-back is lost. -/
def State.readLine (s : State) (c key named : Nat) : State :=
  match s.way c key with
  | some w =>
    if !w.live then s
    else
      let sl := s.recSlice c key
      match s.readWord 3 sl (lineWord w) named with
      | (t, 0) => t
      | (t, 1) => t.bump .FLW_ECC_CORRECTED sl
      | (t, _) => (t.dropWay c key).raise Ev.FLW_CACHE_ECC .device sl
  | none => s

/-- Look a record up (R260, R262): a hit delivers it, a miss parks. -/
def State.seek (s : State) (n c key : Nat) (sk : Seek) : State :=
  let pipe := (s.pkt n).pipe
  if s.mustPark pipe c key then
    if s.rd Fld.FLW_PARK_STATUS_OCCUPANCY pipe < s.parkLimit pipe c then s.parkIn n c key sk
    else s.notAdmitted n c key
  else (s.bump .FLW_HITS (pcItem pipe c)).deliver n c key sk

/-- A packet is sent to the host or discarded by a one-bit action, and counted. -/
def State.fragAct (s : State) (n reason act : Nat) : State :=
  if act = 1 then s.toHost n reason 0 .PRS_HOST_UNAVAIL else s.discard n

/-- CURD_LOOKUP (R256, R260, R262, R265, R296, R323 to R326, R642): a packet at the flow stage; `found` is what the ECC of the line or
tag it reads finds: nothing, a corrected error, or an uncorrectable one. -/
def execCurdLookup (n found : Nat) (s : State) : Host.Outcome State Fault Refusal :=
  let p := s.pkt n
  if (Sparse.find s.pkts n).isNone || p.stage != .flow || s.behind n then .next s
  else
    let lose := fun (c key : Nat) => s.readLine c key found
    let standby := (s.discard n).bump .FLT_STANDBY_DROP
    match s.flowWay p with
    | .stateless => .next (s.toPolicer n)
    | .off => .next ((s.bump .FLW_CLASS_OFF p.pipe).toPolicer n)
    | .noKey => .next ((s.bump .FLW_NO_KEY p.pipe).toPolicer n)
    | .natFrag c => .next ((s.bump .NAT_FRAG c).fragAct n 8 (s.cls Fld.FLW_SVC_CFG_FRAG_ACT c))
    | .natErr c => .next ((s.bump .NAT_ICMP_ERR c).toHost n 9 0 .PRS_HOST_UNAVAIL)
    | .record c key => .next (if s.standby then standby else (lose c key).seek n c key .record)
    | .upsFrag => .next (if s.standby then standby else (s.bump .UPS_FRAG p.pipe).fragAct n 10 (s.rd Fld.UPS_CFG_FRAG_ACT))
    | .gtpOther => .next (if s.standby then standby else (s.bump .UPS_GTP_OTHER p.pipe).toHost n 12 0 .PRS_HOST_UNAVAIL)
    | .echo => .next (if s.standby then standby else s.setPkt n { p with stage := .kept })
    | .ue c key => .next (if s.standby then standby else (lose c key).seek n c key .ue)
    | .head i d => .next (if s.standby then standby else (lose 0 i).seekHead n i d)

/-! ### Fetches and chains -/

/-- A record whose harbour read fails its ECC or CRC is cleared (Table 9.4). -/
def State.recordLost (s : State) (c key i : Nat) : State :=
  let r := s.stored c i
  let sl := s.recSlice c key
  let t := if recIs r c key then ((s.store c i (FlowRec.VALID.set r 0)).countRecord c key false).notifyEnd c key (lostRec r) 5 else s
  (t.bump .FLW_RECORD_LOST sl).raise Ev.FLW_RECORD_LOST .device sl

/-- RECORD_FETCH_RETURN (R263, R267, R268, Table 9.4, R346): the fetch of a PENDING way returns; `ok` says that the record
passed its ECC and CRC, `twin` is the head the twin sent in place of a lost one. -/
def execRecordFetchReturn (cls key : Nat) (ok : Bool) (twin : Option (BitVec 1024)) (s : State) :
    Host.Outcome State Fault Refusal :=
  match s.way cls key with
  | none => .next s
  | some w =>
    if w.state != .pending then .next s
    else if w.waits.isSome then .next (s.issueFetch w)
    else
      let r := s.stored cls w.idx
      if ok && s.harbourOk (recAddr cls w.idx) && !(cls == 0 && s.ups.lost.contains key) then
        if cls = 0 || recIs r cls key then .next (s.putWay { w with state := .clean, rec_ := r })
        else .next ((s.putWay { w with state := .absent }).endAbsent cls key)
      else if cls = 0 then
        if Sess.MIRRORED.on r then
          match twin with
          | some h =>
            let t := (s.store 0 key h).putWay { w with state := .clean, rec_ := h }
            .next { t with ups := { t.ups with lost := t.ups.lost.filter (fun x => x != key) } }
          | none => .next s
        else .next ((s.putWay { w with state := .clean, rec_ := r }).loseSession key)
      else .next (((s.putWay { w with state := .absent }).recordLost cls key w.idx).endAbsent cls key)

/-- A packet of a class may set its flow up (R289): the counter of the refusal otherwise. -/
def State.maySetUp (s : State) (p : Packet) (c : Nat) : Option Ctr :=
  let f := p.fields (s.cls Fld.FLW_CLASS_CFG_LEVEL c)
  let create := s.cls Fld.FLW_SVC_CFG_CREATE c
  let side := create == 1 || (create == 2 && isFront p.port && s.onP Fld.FLW_PORT_ZONE_INSIDE p.port)
  let syn := !s.clsOn Fld.FLW_SVC_CFG_SYN_ONLY c || f.proto != 6 || (f.l4 && f.tcp / 2 % 2 == 1 && f.tcp / 16 % 2 == 0)
  if isIn (s.role c) then some .NAT_NO_BINDING else if side && syn then none else some .SVC_NO_STATE

/-- The TCP state in which a packet sets its record up (R306). -/
def State.firstTcp (s : State) (p : Packet) (c : Nat) : Nat :=
  let f := p.fields (s.cls Fld.FLW_CLASS_CFG_LEVEL c)
  if s.clsOn Fld.FLW_SVC_CFG_TCP_TRACK c && f.proto == 6 then
    if f.l4 && f.tcp / 2 % 2 == 1 && f.tcp / 16 % 2 == 0 then 1 else 3
  else 0

/-- A packet at the head of a chain finds its record absent (R268, R289, R300): a setup enters the queue of the slice, or is
refused. -/
def State.setUp (s : State) (n c key : Nat) : State :=
  let p := s.pkt n
  match s.maySetUp p c with
  | some ctr => (s.bump ctr c).setupRefused n c
  | none =>
    let sl := s.recSlice c key
    let q := Sparse.get s.flw.setupQ sl []
    if 1024 ≤ q.length then ((s.bump .FLW_SETUP_FULL c).raiseMs Ev.FLW_SETUP_FULL).setupRefused n c
    else
      let (t, ok) := match s.way c key with
        | some w => (s.putWay { w with setup := true }, true)
        | none => s.takeWay n ⟨c, key, s.recIdx c key, .absent, 0, 0, none, true, 0⟩
      if ok then
        let u : Setup := ⟨n, c, key, p.port, s.ownSide p c, s.firstTcp p c, false⟩
        { t with flw := { t.flw with setupQ := Sparse.put t.flw.setupQ sl (q ++ [u]) [] } }
      else t

/-- CHAIN_RELEASE (R262, R264, R268, R276, R646): the head packet of a chain is released, when its record lets it go; `ok` is
false when its slot has an uncorrectable error. -/
def execChainRelease (pipe cls key : Nat) (ok : Bool) (s : State) : Host.Outcome State Fault Refusal :=
  match s.chain pipe cls key with
  | none => .next s
  | some ch =>
    match ch.pkts with
    | [] => .next s
    | n :: _ =>
      let sk := match (s.pkt n).park with | some a => a.seek | none => Seek.record
      if !ok then
        .next ((((s.unpark n).discard n).bump .FLW_PARK_ECC (s.recSlice cls key)).raise Ev.FLW_PARK_ECC .pipeline pipe)
      else if s.isLocked cls key then .next s
      else
        let absent := if sk == .ue then (s.unpark n).noSession n else s.setUp n cls key
        match s.way cls key with
        | none =>
          if (s.stalledOn cls key).any (fun e => e.1 == n) then .next s
          else .next (if s.conflict cls key then absent else s.miss n cls key)
        | some w =>
          if w.state == .pending then .next (if w.waits.isSome then s.issueFetch w else s)
          else if w.state == .absent then .next (if w.setup then s else absent)
          else if cls ≠ 0 ∧ (FlowRec.SVC_WAIT.on w.rec_ = true ∨ (FlowRec.STATE.get w.rec_ = 3 ∧ ch.before = 0)
              ∨ (FlowRec.MIRRORED.on w.rec_ = true ∧ s.awaitsTwin w.idx = true) ∨ s.mirrorHeld w.idx = true) then .next s
          else .next ((s.unpark n).deliver n cls key sk)

/-- PARK_TIMEOUT (R266): a packet parked for PARK_TIMEOUT µs is dropped. -/
def execParkTimeout (n : Nat) (s : State) : Host.Outcome State Fault Refusal :=
  let p := s.pkt n
  match p.park with
  | some a =>
    if a.since + s.rd Fld.FLW_PARK_TIME_PARK_TIMEOUT p.pipe * usClk ≤ s.now then
      .next ((((s.unpark n).discard n).bump .FLW_PARK_TIMEOUT (pcItem p.pipe a.cls)).raiseMs Ev.FLW_PARK_TIMEOUT .pipeline p.pipe)
    else .next s
  | none => .next s

/-- SET_STALL_RETRY (R261): a way of a set has been released, and the oldest miss that waits for one is retried. -/
def execSetStallRetry (slice set : Nat) (s : State) : Host.Outcome State Fault Refusal :=
  let k := slice * 6144 + set
  match Sparse.get s.flw.stalled k [] with
  | (n, _) :: rest =>
    let gone := { s with flw := { s.flw with stalled := Sparse.put s.flw.stalled k rest [] } }
    match (s.pkt n).park with
    | some a =>
      if (s.way a.cls a.key).isSome then .next gone
      else if s.conflict a.cls a.key then .next (s.setUp n a.cls a.key)
      else .next (s.miss n a.cls a.key)
    | none => .next gone
  | [] => .next s

/-! ### Setups and reseeds -/

/-- Take one setup token of a class (R290): the state, and no when there is none.  The level is kept in core clocks of one
setup each at RATE 1. -/
def State.takeToken (s : State) (c : Nat) : State × Bool :=
  let rate := s.rd Fld.FLW_SETUP_LIMIT_RATE 0 c
  if rate = 0 then (s, true)
  else
    let full := s.rd Fld.FLW_SETUP_LIMIT_BURST 0 c * msClk
    let (lv, at_) := Sparse.get s.flw.tokens c (full, s.now)
    let now_ := min full (lv + (s.now - at_) * rate)
    let ok := decide (msClk ≤ now_)
    ({ s with flw := { s.flw with tokens := Sparse.insert s.flw.tokens c (if ok then now_ - msClk else now_, s.now) } }, ok)

/-- A setup that has been refused: its way is no longer held for it, and its packet, while it waits, takes SETUP_ACT. -/
def State.refuseSetup (s : State) (u : Setup) : State :=
  let s1 := match s.way u.cls u.key with
    | some w => s.putWay { w with setup := false }
    | none => s
  (match (s1.pkt u.pkt).park with
   | some a => if a.cls = u.cls ∧ a.key = u.key then s1.setupRefused u.pkt u.cls else s1
   | none => s1).endAbsent u.cls u.key

/-- Write the record of a setup (R268 step 2, R288); that of an OUT role waits for its binding. -/
def State.finishSetup (s : State) (u : Setup) : State :=
  let (t, _) := s.install u.cls u.key (s.freshRec u.cls u.key u.port u.initSide u.tcp 0)
  if isOut (t.role u.cls) then { t with flw := { t.flw with binding := t.flw.binding ++ [(u.cls, u.key)] } } else t

/-- FLOW_SETUP (R268, R288, R290): a slice starts the oldest setup of its queue, at most 10 M per second; a slot that holds
another record sends it to a reseed. -/
def execFlowSetup (slice : Nat) (s : State) : Host.Outcome State Fault Refusal :=
  let q := Sparse.get s.flw.setupQ slice []
  match q.find? (fun u => !u.reseed) with
  | none => .next s
  | some u =>
    if s.now < Sparse.get s.flw.setupAt slice 0 ∨ s.isLocked u.cls u.key = true then .next s
    else
      let rest := q.erase u
      let s0 := { s with flw := { s.flw with setupAt := Sparse.insert s.flw.setupAt slice (s.now + 175) } }
      let s1 := { s0 with flw := { s0.flw with setupQ := Sparse.put s0.flw.setupQ slice rest [] } }
      if s.slotEmpty (s.recIdx u.cls u.key) then
        let (t, ok) := s1.takeToken u.cls
        if ok then .next (t.finishSetup u)
        else .next (((t.bump .SVC_RATE_LIMITED u.cls).raiseMs Ev.SVC_RATE_LIMITED .device u.cls).refuseSetup u)
      else if 16 ≤ (s.flw.locked.filter (fun (e : Nat × Bool) => groupSlice e.1 == slice)).length then .next s
      else
        let (t, ok) := s0.takeToken u.cls
        if ok then
          let v := { u with reseed := true }
          let t1 := { t with flw := { t.flw with setupQ := Sparse.put t.flw.setupQ slice (rest ++ [v]) [] } }
          .next (t1.setLocked (hashGroup (s.recHash u.cls u.key)) (some false))
        else
          let t1 := { t with flw := { t.flw with setupQ := Sparse.put t.flw.setupQ slice rest [] } }
          .next (((t1.bump .SVC_RATE_LIMITED u.cls).raiseMs Ev.SVC_RATE_LIMITED .device u.cls).refuseSetup u)

/-- GROUP_RESEED (R259, R268): a keeper finds a seed for a locked group and the key that waits for it, moves its records,
commits the seed and unlocks the group; without such a seed the setup is refused. -/
def execGroupReseed (g : Nat) (s : State) : Host.Outcome State Fault Refusal :=
  let sl := groupSlice g
  let q := Sparse.get s.flw.setupQ sl []
  match q.find? (fun u => u.reseed && hashGroup (s.recHash u.cls u.key) == g) with
  | none => .next s
  | some u =>
    let done := fun (t : State) =>
      ({ t with flw := { t.flw with setupQ := Sparse.put t.flw.setupQ sl ((Sparse.get t.flw.setupQ sl []).erase u) [] } }).setLocked g none
    match s.reseed g u.cls u.key with
    | (t, .waits) => .next t
    | (t, .failed) => .next ((done t).refuseSetup u)
    | (t, .done) => .next ((done t).finishSetup u)

/-! ### Write-backs and flushes (R270 to R272) -/

/-- The tag of a write-back at the harbour gate. -/
def wbTag (c i : Nat) : Nat := 2 ^ 41 + c * 2 ^ 32 + i

/-- A head that is written back is mirrored with its session (R345), and a record whose refresh was not appended with its write-back
(R644). -/
def State.mirrorHead (s : State) (c i : Nat) (r : BitVec 1024) : State :=
  if c = 0 then (if s.on Fld.UPS_CFG_MIRROR then s.mirrorChange 1 0 i 0 r false else s)
  else if Sparse.get s.flt.unsent i false then
    ({ s with flt := { s.flt with unsent := Sparse.erase s.flt.unsent i } }).mirrorChange 0 0 i 0 r false
  else s

/-- Write a record to its place in harbour memory with a fresh CRC; a retired pseudo-channel discards it (R567). -/
def State.writeBack (s : State) (c i : Nat) (r : BitVec 1024) : State :=
  let s0 := s.hbSend (recWho c) 1 2 true (recAddr c i) 128
  ((((if s.pcRetired (hbPc (recAddr c i)) then s0 else s0.store c i (sealRec r))).bump .FLW_WRITEBACKS (if c = 0 then groupSlice (hashGroup (s.recHash 0 i)) else groupSlice (i / 32))).mirrorHead c i r)

/-- WHEY_WRITEBACK (R267, R270, Table 9.4): the oldest record of a whey buffer is written back under its share; with an
uncorrectable error (`ok` false) it is lost. -/
def execWheyWriteback (slice : Nat) (ok : Bool) (s : State) : Host.Outcome State Fault Refusal :=
  match s.wheyOf slice with
  | [] => .next s
  | (c, key, i, r) :: rest =>
    if !ok then .next ((s.setWhey slice rest).raise Ev.FLW_CACHE_ECC .device slice (key % 2 ^ 32))
    else
      let (t, go) := s.charge 0 (recAct c) 128 (wbTag c i)
      if go then .next ((t.setWhey slice rest).writeBack c i r) else .next t


/-- WB_AGE_EXPIRY (R271, R272): a record DIRTY for WB_AGE_MS, or in a slice that is being flushed, is written back and
becomes CLEAN. -/
def execWbAgeExpiry (cls key : Nat) (s : State) : Host.Outcome State Fault Refusal :=
  match s.way cls key with
  | some w =>
    let due := decide (w.dirtyAt + s.rd Fld.FLW_WHEY_CFG_WB_AGE_MS * msClk ≤ s.now)
      || s.on Fld.FLW_SLICE_CTRL_FLUSH_BUSY (s.recSlice cls key)
    if w.state == .dirty && due && !w.uncommitted then
      let (t, go) := s.charge 0 (recAct cls) 128 (wbTag cls w.idx)
      if go then .next ((t.putWay { w with state := .clean }).writeBack cls w.idx w.rec_) else .next t
    else .next s
  | none => .next s

/-- A write of FLW_SLICE_CTRL: EN is not cleared while a flow stage is on (R280); FLUSH = 1, or clearing EN, starts a flush
(R272). -/
def State.sliceCtrlWrite (s : State) (who : Agent) (slice : Nat) (v : Word) : State :=
  let was := s.on Fld.FLW_SLICE_CTRL_EN slice
  let en := Fld.FLW_SLICE_CTRL_EN.onIn v
  s.busWrite who Reg.FLW_SLICE_CTRL slice 0 0 v (was && !en && (List.range 4).any (fun p => s.on Fld.FLW_CTRL_EN p)) (fun t =>
    let t1 := if en then t.wr Fld.FLW_SLICE_CTRL_QUIET 0 slice else t
    if Fld.FLW_SLICE_CTRL_FLUSH.onIn v || (was && !en) then t1.wr Fld.FLW_SLICE_CTRL_FLUSH_BUSY 1 slice else t1)

/-- SLICE_FLUSH (R272): a write of FLW_SLICE_CTRL with FLUSH = 1. -/
def execSliceFlush (who : Agent) (slice : Nat) (v : Word) (s : State) : Host.Outcome State Fault Refusal :=
  .next (s.sliceCtrlWrite who slice v)

/-- SLICE_FLUSH_DONE (R272, R280): nothing of the slice is left to write back. -/
def execSliceFlushDone (slice : Nat) (s : State) : Host.Outcome State Fault Refusal :=
  let left := s.flw.sets.any (fun (e : Nat × List Way) => e.1 / 6144 == slice && e.2.any (fun w => w.state == .dirty && !w.uncommitted))
  if s.on Fld.FLW_SLICE_CTRL_FLUSH_BUSY slice && !left && (s.wheyOf slice).isEmpty then
    let t := s.wr Fld.FLW_SLICE_CTRL_FLUSH_BUSY 0 slice
    .next (if t.on Fld.FLW_SLICE_CTRL_EN slice then t else t.wr Fld.FLW_SLICE_CTRL_QUIET 1 slice)
  else .next s

/-- SLICE_DISABLE (R280): a write of FLW_SLICE_CTRL with EN = 0. -/
def execSliceDisable (who : Agent) (slice : Nat) (v : Word) (s : State) : Host.Outcome State Fault Refusal :=
  .next (s.sliceCtrlWrite who slice v)

/-! ### Expiry and removal (R274 to R276, R304, R310) -/

/-- The age of a record (R274, R304). -/
def State.recAge (s : State) (c key : Nat) (r : BitVec 1024) : Nat :=
  let own := ageMs s.todMs (FlowRec.LAST_SEEN.get r)
  if isOut (s.role c) && s.clsOn Fld.FLW_SVC_CFG_INBOUND_REFRESH c && FlowRec.LINK_VALID.on r then
    let i := s.inOf c key r
    match s.getRec i.1 i.2 with
    | some q => min own (ageMs s.todMs (FlowRec.LAST_SEEN.get q))
    | none => own
  else own

/-- The walk reads the IN record of an OUT record as well (R304). -/
def State.readsIn (s : State) (c key : Nat) : Bool :=
  isOut (s.role c) && s.clsOn Fld.FLW_SVC_CFG_INBOUND_REFRESH c && (s.getRec c key).any (fun r => FlowRec.LINK_VALID.on r)

/-- The expiry walk leaves a record alone (R274, R304, R305, R325). -/
def State.walkSkips (s : State) (c key : Nat) (r : BitVec 1024) : Bool :=
  s.chained c key || FlowRec.SVC_WAIT.on r || FlowRec.STATE.get r == 3 || isIn (s.role c) || s.isUe c r
    || (s.role c == 6 && SubRec.BINDINGS.get r != 0) || (s.standby && FlowRec.MIRRORED.on r)
    || (match s.way c key with | some w => !w.live | none => false)

/-- The expiry walk looks at one record: at its cache copy where it is resident, and at the harbour copy, whose read may fail,
otherwise. -/
def State.walkRecord (s : State) (bad : Option Nat) (c key : Nat) : State :=
  match s.getRec c key with
  | none => s
  | some r =>
    let i := s.recIdx c key
    if s.walkSkips c key r then s
    else if (s.liveWay c key).isNone ∧ (s.wheyFind c key).isNone ∧ (bad = some (i % 32) ∨ s.harbourOk (recAddr c i) = false) then s.recordLost c key i
    else
      let closing := FlowRec.STATE.get r == 2
      let limit := (if closing then s.cls Fld.FLW_CLASS_TIME_CLOSE_S c else s.cls Fld.FLW_CLASS_TIME_IDLE_S c) * 1000
      if limit ≤ s.recAge c key r then s.startRemoval c key (if closing then 2 else 1) none
      else
        let act := s.rd Fld.FLW_ACTIVE_TIME_ACTIVE_S 0 c
        let due := (act != 0 && decide (act * 1000 ≤ ageMs s.todMs (FlowRec.EXP_TIME.get r))) || FlowRec.PKTS.get r == 2 ^ 40 - 1
        if s.ipfixOn c && due then
          let (t, ok) := s.ipfixQueue c r 2
          if ok then (t.modRec c key (fun x => exportedRec x s.todMs)).mirrorRec c key true else t
        else s

/-- EXPIRY_VISIT (R274, Table 9.4): the walk visits its next group, evenly over its period, charged 128 bytes of the keeper share for each
record; in which slot a record fails its check when it is read is a free value (log entry 3). -/
def execExpiryVisit (s : State) : Host.Outcome State Fault Refusal :=
  match s.flw.walkPos with
  | none => .next s
  | some g =>
    if s.now * 2097152 < s.flw.walkFrom * 2097152 + g * (s.rd Fld.FLW_EXPIRY_CFG_PERIOD_S * sClk) then .next s
    else
    let rs := s.groupRecords g
    let ins := rs.filter (fun (e : Nat × Nat) => s.readsIn e.1 e.2)
    let (t, go) := s.charge 0 actKeeper (128 * (rs.length + ins.length)) (2 ^ 43 + g)
    if go then
      let t0 := rs.foldl (fun (u : State) (e : Nat × Nat) => u.hbSend .keeper 2 2 false (recAddr e.1 (s.recIdx e.1 e.2)) 128) t.draw
      let u := rs.foldl (fun u e => u.walkRecord (Config.freeSlot t.fresh) e.1 e.2) t0
      if g + 1 < 2097152 then .next { u with flw := { u.flw with walkPos := some (g + 1) } }
      else if u.flw.walkDue then .next { u with flw := { u.flw with walkPos := some 0, walkDue := false, walkFrom := u.now } }
      else .next { u with flw := { u.flw with walkPos := none } }
    else .next t

/-- EXPIRY_PERIOD_START (R274): with WALK_EN a walk starts each PERIOD_S; one that finds the last walk running makes the next
start as soon as that finishes. -/
def execExpiryPeriodStart (s : State) : Host.Outcome State Fault Refusal :=
  if s.on Fld.FLW_EXPIRY_CFG_WALK_EN && decide (s.flw.walkAt ≤ s.now) then
    let t := { s with flw := { s.flw with walkAt := s.now + s.rd Fld.FLW_EXPIRY_CFG_PERIOD_S * sClk } }
    match s.flw.walkPos with
    | none => .next { t with flw := { t.flw with walkPos := some 0, walkDue := false, walkFrom := s.now } }
    | some _ => .next (({ t with flw := { t.flw with walkDue := true } }).raise Ev.FLW_EXPIRY_OVERRUN)
  else .next s

/-- REMOVAL_COMMIT (R276, R305, R314): a removal that waits for nothing any more commits. -/
def execRemovalCommit (cls key : Nat) (s : State) : Host.Outcome State Fault Refusal :=
  match s.flw.removals.find? (fun y => y.cls == cls && y.key == key) with
  | some x => if s.removalReady x then .next (s.commitRemoval x) else .next s
  | none => .next s

/-- FLOW_DELETE (R275, R305): remove a record; an IN or subscriber record, and a UE record, is not found. -/
def execFlowDelete (tag cls key : Nat) (s : State) : Host.Outcome State Fault Refusal :=
  if !s.mbxRuns tag opFlowDelete then .next s
  else if s.standby then .next (s.reply tag .busy 0 0 0 true)
  else
    match s.getRec cls key with
    | some r =>
      if cls = 0 ∨ isIn (s.role cls) = true ∨ s.role cls = 6 ∨ s.isUe cls r = true then .next (s.reply tag .notFound 0 0 0 true)
      else if s.flw.removals.any (fun y => y.cls == cls && y.key == key) then
        .next { s with flw := { s.flw with removals := s.flw.removals.map (fun y =>
          if y.cls = cls ∧ y.key = key ∧ y.tag = none then { y with tag := some tag } else y) } }
      else .next (s.startRemoval cls key 3 (some tag))
    | none => .next (s.reply tag .notFound 0 0 0 true)

/-- FLOW_READ (R309): the host reads a record. -/
def execFlowRead (tag cls key : Nat) (s : State) : Host.Outcome State Fault Refusal :=
  .next (s.mbxOp tag opFlowRead (fun t =>
    if t.standby then (t, ⟨.busy, 0, 0⟩)
    else match (if cls = 0 then none else t.getRec cls key) with
      | some r => (t, ⟨.ok, 0, r.toNat⟩)
      | none => (t, ⟨.notFound, 0, 0⟩)))

/-! ### Disable and seed restore -/

/-- Every curd slice is on (R280). -/
def State.slicesOn (s : State) : Bool := (List.range 4).all (fun k => s.on Fld.FLW_SLICE_CTRL_EN k)

/-- A write of FLW_CTRL (R279, R280). -/
def State.flwCtrlWrite (s : State) (who : Agent) (pipe : Nat) (v : Word) : State :=
  s.ctrlWrite who Reg.FLW_CTRL Fld.FLW_CTRL_EN Fld.FLW_CTRL_QUIET pipe v (100 * usClk) (s.on Fld.PRS_CTRL_EN pipe)
    (Fld.FLW_CTRL_EN.onIn v && !s.slicesOn) id

/-- FLW_DISABLE (R279): a write of FLW_CTRL with EN = 0. -/
def execFlwDisable (who : Agent) (pipe : Nat) (v : Word) (s : State) : Host.Outcome State Fault Refusal :=
  .next (s.flwCtrlWrite who pipe v)

/-- A group for which no seed is consistent with its records has them cleared (R273). -/
def State.clearGroup (s : State) (g : Nat) : State :=
  (s.groupRecords g).foldl (fun t e =>
    let u := match t.getRec e.1 e.2 with | some r => t.notifyEnd e.1 e.2 (lostRec r) 5 | none => t
    ((u.dropNew e.1 e.2).bump .FLW_ADOPT_FAIL (groupSlice g)).raise Ev.FLW_ADOPT_FAIL) s

/-- SEED_RESTORE (Table 9.4, R273): `how` 0 finds a seed's ECC failing and locks the group; 1 restores it from the shadow copy
and unlocks the group; 2 recovers it by search, or clears the records when there is none. -/
def execSeedRestore (g how : Nat) (s : State) : Host.Outcome State Fault Refusal :=
  match how with
  | 0 => .next ((s.setLocked g (some true)).raise Ev.FLW_SEED_ECC .device (groupSlice g) g)
  | 1 => if Sparse.find s.flw.locked g = some true then .next ((s.putSeed g (Sparse.get s.flw.seedCopy g 0)).setLocked g none) else .next s
  | _ =>
    if Sparse.find s.flw.locked g = some true then
      match s.searchSeed g with
      | some sd => .next ((s.putSeed g sd).setLocked g none)
      | none => .next ((s.clearGroup g).setLocked g none)
    else .next s

end Sys2Proof.Machine
end

