-- ==== Sys2Proof/Machine/MacOps.lean ====
section
/-! DEFINITION. What the MAC and the SecY do with a received frame (spec 03, R83 to R102; spec 04, R117 to R129): limits,
MACsec validation, MAC control frames, and the end status. -/
namespace Sys2Proof.Machine

open Sys2Proof.Config

/-! ### Limits (R85 to R87) -/

/-- Tags among the first two of a frame that get an allowance (R86). -/
def tagCount (b : List Byte) : Nat := if !isTpid (be16 b 12) then 0 else if !isTpid (be16 b 16) then 1 else 2
/-- A port's MAX for a frame (R86). -/
def State.maxFor (s : State) (port : Nat) (b : List Byte) : Nat :=
  let m := s.rdP Fld.PRT_MAC_CFG_MAX_LEN port
  min 16000 (if s.onP Fld.PRT_MAC_CFG_TAG_ALLOW port then m + 4 * tagCount b else m)
/-- The length at which a cut-through frame is cut (R525). -/
def State.cutLimit (s : State) (port : Nat) (b : List Byte) : Nat := min (s.maxFor port b) (s.rdP Fld.GTE_EXP_LEN_EXP_MAXLEN port)
/-- Bytes of SecTAG and ICV of a tagged frame (R121). -/
def tagGrowth (t : SecTag) : Nat := (if t.sc then 16 else 8) + 16
/-- Length of a frame on the wire, with FCS. -/
def wireLen (b : List Byte) (tag : Option SecTag) : Nat :=
  b.length + 4 + (match tag with | some t => tagGrowth t | none => 0)

/-! ### Secure associations -/

/-- The SecY of a port. -/
def State.secy (s : State) (port : Nat) : SecY := (s.port port).secy
/-- Replace a port's SecY. -/
def State.setSecy (s : State) (port : Nat) (y : SecY) : State :=
  (s.setPort port { s.port port with secy := y }).injectFire 10 port 0

/-- Show the transmit SA in use (Tables 4.7 and 4.8). -/
def State.showTxSa (s : State) (port : Nat) : State :=
  let an := s.rdP Fld.MSC_SA_STATUS_TX_AN port
  match Sparse.find (s.secy port).txSas an with
  | some pn =>
    ((s.wrP Fld.MSC_SA_STATUS_CP_OPERATIONAL port 1).wrP Fld.MSC_TX_NEXTPN_LO_NEXT_PN port (pn % 2 ^ 32)).wrP
      Fld.MSC_TX_NEXTPN_HI_NEXT_PN port (pn / 2 ^ 32)
  | none => s.wrP Fld.MSC_SA_STATUS_CP_OPERATIONAL port 0

/-- An uncorrectable error in the state of an SA (R136): the SA is not in use, and MKA installs a new one. -/
def State.saBad (s : State) (port : Nat) (tx : Bool) (sc an : Nat) : State :=
  let y := s.secy port
  let held := if tx then (Sparse.find y.txSas an).isSome
    else y.rx.any (fun c => c.idx == sc && (Sparse.find c.sas an).isSome)
  if held then
    let y1 := if tx then { y with txSas := Sparse.erase y.txSas an, rekeyDue := true }
      else { y with rekeyDue := true,
                    rx := y.rx.map (fun c => if c.idx = sc then { c with sas := Sparse.erase c.sas an } else c) }
    ((s.setSecy port y1).showTxSa port).raise Ev.MSC_SA_ECC .port port
  else s

/-! ### MACsec receive (R118, R124 to R129) -/

/-- The type field of EAPOL (R118). -/
def isEapol (b : List Byte) : Bool := be16 b 12 == 0x888E
/-- A MAC control frame: the type field at bytes 12 and 13 is 0x8808 (R47); behind a VLAN tag it is no such frame (log entry 94). -/
def isMacCtl (b : List Byte) : Bool := be16 b 12 == 0x8808
/-- An ebb frame (R65). -/
def isEbb (b : List Byte) : Bool :=
  beAt b 0 6 == 0x0180C200000E && be16 b 12 == 0x88B7 && beAt b 14 3 == 0x3A7440 && beAt b 17 2 == 1
/-- The receive secure channel a tag names: by its SCI, or the implicit one (R124). -/
def SecY.scFor (y : SecY) (t : SecTag) : Option RxSc :=
  if t.sc then y.rx.find? (fun c => c.sci == t.sci) else y.rx.find? (fun c => c.implicitSc)
/-- The lowest acceptable PN of an SA (R128). -/
def State.lowestPn (s : State) (port next : Nat) : Nat := max 1 (next - s.rdP Fld.MSC_REPLAY_WIN_WINDOW port)
/-- The PN of a tag: recovered from 32 bits with the lowest acceptable PN on an XPN suite (R128). -/
def State.fullPn (s : State) (port next pn : Nat) : Nat :=
  if s.isXpn port then
    let low := s.lowestPn port next
    let hi := low / 2 ^ 32
    if low % 2 ^ 32 ≥ 2 ^ 31 ∧ pn < 2 ^ 31 then (hi + 1) * 2 ^ 32 + pn else hi * 2 ^ 32 + pn
  else pn
/-- A frame without a SecTAG. -/
def SecFound.none : SecFound := ⟨.none, .none, false, false⟩
/-- What the SecY finds when a SecTAG arrives (R128, R129, R134): the SC and, while the controlled port is operational, the SA with the
full packet number; whether the number lies below the lowest acceptable one; whether it is that of a preempted frame of the same SA that
is still in reassembly. -/
def State.secFind (s : State) (port : Nat) (tag : Option SecTag) : SecFound :=
  match tag with
  | .none => SecFound.none
  | some t =>
    match (s.port port).secy.scFor t with
    | .none => SecFound.none
    | some c =>
      match (if s.onP Fld.MSC_SA_STATUS_CP_OPERATIONAL port then Sparse.find c.sas t.an else .none) with
      | .none => ⟨some c.idx, .none, false, false⟩
      | some next =>
        let pn := s.fullPn port next t.pn
        let dup := match (s.port port).rxp with
          | some f => f.sec.sc == some c.idx && f.sec.pn == some pn && (f.tag.map SecTag.an) == some t.an
          | .none => false
        ⟨some c.idx, some pn, decide (pn < s.lowestPn port next), dup⟩
/-- A tag is malformed (row 2 of Table 4.1); `n` is the length of the secured data. -/
def tagMalformed (t : SecTag) (n : Nat) : Bool :=
  t.v || (t.es && t.sc) || (t.sc && t.es) || decide (48 ≤ t.sl) || t.pn == 0
    || (if t.sl = 0 then decide (n < 48) else t.sl != n)
/-- The counter item of a receive SA. -/
def saItem (port sc an : Nat) : Nat := port * 32 + sc * 4 + an
/-- Count a rejection that raises EVT 5.4. -/
def State.secInvalid (s : State) (port : Nat) (c : Ctr) (item : Nat) : State :=
  (s.bump c item).raiseMs Ev.MSC_RX_INVALID .port port
/-- Replace a receive secure channel of a port. -/
def State.setSc (s : State) (port : Nat) (c : RxSc) : State :=
  let p := s.port port
  s.setPort port { p with secy := { p.secy with rx := p.secy.rx.map (fun x => if x.idx = c.idx then c else x) } }
/-- A frame of receive SC `k` whose ICV validates: the next PN of its SA, while that is in use, advances, and the frame is counted (rows
8 and 9). -/
def State.secValid (s : State) (port k : Nat) (t : SecTag) (pn n : Nat) (late : Bool) : State :=
  let s1 := match (s.port port).secy.rx.find? (fun c => c.idx == k) with
    | some c =>
      match Sparse.find c.sas t.an with
      | some next => if next ≤ pn then s.setSc port { c with sas := Sparse.insert c.sas t.an (pn + 1) } else s
      | none => s
    | none => s
  let s2 := s1.bump (if t.enc then .InOctetsDecrypted else .InOctetsValidated) (port * 8 + k) n
  s2.bump (if late then .InPktsDelayed else .InPktsOK) (saItem port k t.an)
/-- The outcome of Table 4.1 for a controlled frame: the state with its counters, and whether the frame is delivered. -/
def State.secVerdict (s : State) (port : Nat) (tag : Option SecTag) (x : SecFound) (icvOk : Bool) (n : Nat) : State × Bool :=
  let val := s.rdP Fld.MSC_PORT_CFG_VALIDATE port
  match tag with
  | none =>
    if val = 0 then (s, true)
    else if val = 2 then (s.bump .InPktsNoTag port, false) else (s.bump .InPktsUntagged port, true)
  | some t =>
    let item := saItem port (x.sc.getD 0) t.an
    if val = 0 then
      if t.enc then (s.secInvalid port .InPktsNotValid item, false) else (s.bump .InPktsUnchecked item, true)
    else if tagMalformed t n then (s.secInvalid port .InPktsBadTag port, false)
    else
      match x.sc with
      | none => (s.bump (if t.sc then .InPktsUnknownSCI else .InPktsNoSCI) port, val != 2)
      | some k =>
        match x.pn with
        | none => (s.bump (if val = 2 then .InPktsNotUsingSA else .InPktsUnusedSA) item, val != 2)
        | some pn =>
          if x.dup || (x.late && s.onP Fld.MSC_PORT_CFG_REPLAY_PROTECT port) then (s.secInvalid port .InPktsLate item, false)
          else if !icvOk then
            if t.enc || val == 2 then (s.secInvalid port .InPktsNotValid item, false)
            else (s.bump .InPktsInvalid item, true)
          else (s.secValid port k t pn n x.late, true)
/-- A frame never seen by the SecY: a MAC control frame, or an untagged EAPOL frame (R118). -/
def beside (tag : Option SecTag) (b : List Byte) : Bool := tag.isNone && (isMacCtl b || isEapol b)
/-- The SecY's verdict on a received frame: only controlled frames of a port with MACsec are judged (R118). -/
def State.secReceive (s : State) (port : Nat) (f : RxFrame) (icvOk : Bool) : State × Bool :=
  if !s.onP Fld.MSC_PORT_CFG_EN port || beside f.tag f.bytes then (s, true)
  else
    match f.sec.sc, f.sec.pn, s.readWord 10 port 0 0 with
    | some k, some _, (t, 2) =>
      (t.saBad port false k (f.tag.elim 0 SecTag.an)).secVerdict port f.tag { f.sec with pn := none } icvOk (f.bytes.length - 12)
    | some _, some _, (t, _) => t.secVerdict port f.tag f.sec icvOk (f.bytes.length - 12)
    | _, _, _ => s.secVerdict port f.tag f.sec icvOk (f.bytes.length - 12)

/-! ### MAC control frames (R98 to R102, R105) -/

/-- Count a bad control frame (R98). -/
def State.badControl (s : State) (port : Nat) : State :=
  (s.bump .RX_MACCTL_BAD port).raiseMs Ev.MACCTL_BAD .port port
/-- A pause time of `q` quanta starts or replaces the link pause hold; zero cancels it (R99, R102). -/
def State.takePause (s : State) (port q : Nat) : State :=
  if q = 0 then s.endPause port
  else
    let s1 := if running (s.port port).pauseUntil s.now then s else s.endPause port
    let p := s1.port port
    s1.setPort port { p with pauseUntil := some (s1.quantaEnd port q),
                             holdFrom := Sparse.insert p.holdFrom 8 (Sparse.get p.holdFrom 8 s1.now) }
/-- A PFC time for one priority (R100, R102), unless the storm guard ignores it (R105). -/
def State.takePfc (s : State) (port prio q : Nat) : State :=
  if running (Sparse.find (s.port port).recover prio) s.now then s
  else if q = 0 then s.endPfc port prio
  else
    let s1 := if running (Sparse.find (s.port port).pfcUntil prio) s.now then s else s.endPfc port prio
    let p := s1.port port
    s1.setPort port { p with pfcUntil := Sparse.insert p.pfcUntil prio (s1.quantaEnd port q),
                             holdFrom := Sparse.insert p.holdFrom prio (Sparse.get p.holdFrom prio s1.now) }
/-- A received MAC control frame with a good FCS (R98). -/
def State.macControl (s : State) (port : Nat) (b : List Byte) : State :=
  let da := beAt b 0 6
  let op := be16 b 14
  let mode := s.rdP Fld.PRT_PAUSE_CFG_MODE port
  let act := s.onP Fld.PRT_PAUSE_CFG_RX_EN port
  if b.length ≠ 60 || !(da == 0x0180C2000001 || da == s.portAddr port) then s.badControl port
  else if op = 1 ∧ mode = 1 then
    let s1 := s.bump .RX_PAUSE port
    if act then s1.takePause port (be16 b 16) else s1
  else if op = 0x0101 ∧ mode = 2 ∧ byteAt b 16 = 0 then
    let vec := byteAt b 17
    if vec = 0 then s.bump .RX_PFC_NONE port
    else
      let ps := (List.range 8).filter (fun i => vec / 2 ^ i % 2 == 1)
      let ignored := ps.any (fun i => running (Sparse.find (s.port port).recover i) s.now)
      let s1 := ps.foldl (fun t i => t.bump .RX_PFC (port * 8 + i)) s
      let s2 := if ignored then s1.bump .PFC_IGNORED port else s1
      if act then ps.foldl (fun t i => t.takePfc port i (be16 b (18 + 2 * i))) s2 else s2
  else s.badControl port

/-! ### The outcome of a received frame (Table 3.1) -/

/-- The rows of Table 3.1 that discard a frame by length and FCS, for a frame not aborted and not truncated: the row, its counter
and the event that its rise raises (Table 3.3). -/
def State.macReject (s : State) (port : Nat) (b : List Byte) (tag : Option SecTag) (fcsOk : Bool) : Option (Nat × Ctr × Source) :=
  let w := wireLen b tag
  let msec := s.onP Fld.MSC_PORT_CFG_EN port
  let beyond := if msec then decide (16032 < w ∨ s.maxFor port b < b.length + 4) else decide (s.maxFor port b < w)
  if w ≤ 63 then (if fcsOk then some (3, .RX_UNDERSIZE, Ev.RX_LEN_ERR) else some (4, .RX_FRAGMENT, Ev.RX_LEN_ERR))
  else if beyond then (if fcsOk then some (5, .RX_OVERSIZE, Ev.RX_LEN_ERR) else some (6, .RX_JABBER, Ev.RX_FCS_ERR))
  else if !fcsOk then some (7, .RX_FCS_ERR, Ev.RX_FCS_ERR)
  else none
/-- Count a good frame (row 11). -/
def State.countRxOk (s : State) (port : Nat) (b : List Byte) : State :=
  let da := beAt b 0 6
  let c : Ctr := if da = 2 ^ 48 - 1 then .RX_BCAST else if byteAt b 0 % 2 = 1 then .RX_MCAST else .RX_UCAST
  ((s.bump .RX_OK port).bump .RX_OCTETS_OK port (b.length + 4)).bump c port

/-- A preemptable frame fails reassembly (Table 3.3): counted, EVT 4.3. -/
def State.assyErr (s : State) (port : Nat) : State := (s.bump .RX_ASSY_ERR port).raise Ev.PREEMPT_ASSY_ERR .port port
/-- The end of a received frame: its one outcome of Table 3.1, and the end status of its packet with the row (R84, R89).  A frame that
the arbiter dropped whole takes the rows that discard it too, and none of rows 9 to 11 (log entry 24). -/
def State.frameOutcome (s : State) (port : Nat) (f : RxFrame) (fcsOk icvOk assyBad : Bool) : State :=
  let bad := fun (t : State) (row : Nat) =>
    match f.what with
    | .packet n => t.endPacket n row
    | _ => t
  if f.truncated then bad (s.bump .ARB_TRUNCATED port) 2
  else if assyBad then bad (s.assyErr port) 7
  else
    match s.macReject port f.bytes f.tag (fcsOk && !f.hurt) with
    | some (row, c, e) => bad ((s.bump c port).raiseMs e .port port) row
    | none =>
      match s.secReceive port f icvOk with
      | (s1, false) => bad s1 8
      | (s1, true) =>
        match f.what with
        | .packet n => (s1.countRxOk port f.bytes).endPacket n 0
        | .control =>
          if f.tag.isNone && isMacCtl f.bytes then s1.macControl port f.bytes
          else
            let p := s1.port port
            (s1.setPort port { p with ebb := { p.ebb with
              inbox := p.ebb.inbox ++ [BitVec.ofNat 128 (natOfBytes ((f.bytes.drop 19).take 16))] } }).bump .EBB_RX port
        | .lost => s1

/-- Bytes that arrive for an admitted frame enter its FIFO; the arbiter truncates a frame whose FIFO is full (R50). -/
def State.fifoArrive (s : State) (port : Nat) (f : RxFrame) (more : List Byte) : State × RxFrame :=
  match f.what with
  | .packet n =>
    let l := s.fifo (port / 24) (port % 24)
    let room := s.fifoSize port - fifoFill l
    let take := if f.truncated then [] else more.take room
    let cut := !f.truncated && decide (room < more.length)
    let s1 := (s.appendBytes n take).setFifo (port / 24) (port % 24)
      (fifoUpd l n (fun e => { e with got := e.got + take.length }))
    let g := { f with bytes := f.bytes ++ more, truncated := f.truncated || cut }
    if cut then ((s1.endPacket n 2).raise Ev.ARB_TRUNCATE .port port, g) else (s1, g)
  | _ => (s, { f with bytes := f.bytes ++ more })

end Sys2Proof.Machine
end

