-- ==== Sys2Proof/Machine/Macsec.lean ====
section
/-! DEFINITION. The commands of MACsec and of MKA (spec 04, R125 to R137), and the protection of a transmitted frame. -/
namespace Sys2Proof.Machine

open Sys2Proof.Config

/-- The usable CAKs of the port, with their slots, from the source KEY_SOURCE names (R130, Table 4.2): the newest association first, and
behind it one whose CAK is to be retired (R678). -/
def State.caks (s : State) (port : Nat) : List (Nat × CakSlot) :=
  let own := s.rind.keys.filter (fun (e : Nat × CakSlot) =>
    e.2.usable && e.2.ports.contains port && e.2.host == s.onP Fld.MSC_PORT_CFG_KEY_SOURCE port)
  (own.filter (fun e => !e.2.retiring)).take 1 ++ own.filter (fun e => e.2.retiring)
/-- The rind's ICK and KEK for a port (R131). -/
def CakSlot.ick (c : CakSlot) : BitVec 256 := mkaKey 0 c.cak c.ckn
/-- See `CakSlot.ick`. -/
def CakSlot.kek (c : CakSlot) : BitVec 256 := mkaKey 1 c.cak c.ckn
/-- The hello time in core clocks (R132, Table 4.5). -/
def State.mkaHello (s : State) (port : Nat) : Nat :=
  [2000, 1000, 500].getD (s.rdP Fld.MSC_MKA_CFG_HELLO port) 2000 * msClk
/-- Live peers. -/
def SecY.live (y : SecY) : List MkaPeer := y.peers.filter MkaPeer.live
/-- Lower key-server priority wins, ties by SCI (R132). -/
def prefers (p1 i1 p2 i2 : Nat) : Bool := decide (p1 < p2 ∨ (p1 = p2 ∧ i1 < i2))
/-- This device is key server among the live participants. -/
def State.isKeyServer (s : State) (port : Nat) : Bool :=
  (s.secy port).live.all (fun p =>
    prefers (s.rdP Fld.MSC_MKA_CFG_KS_PRIORITY port) (s.ownSci port) p.ksPrio p.sci.toNat)
/-- A peer is key server among the live participants. -/
def State.peerIsKeyServer (s : State) (port : Nat) (p : MkaPeer) : Bool :=
  !s.isKeyServer port && (s.secy port).live.all (fun q => q.sci == p.sci || prefers p.ksPrio p.sci.toNat q.ksPrio q.sci.toNat)
/-- Show LIVE_PEERS and KEY_SERVER (Table 4.7). -/
def State.showMka (s : State) (port : Nat) : State :=
  let n := (s.secy port).live.length
  (s.wrP Fld.MSC_SA_STATUS_LIVE_PEERS port n).wrP Fld.MSC_SA_STATUS_KEY_SERVER port (n != 0 && s.isKeyServer port).toNat
/-- Install the receive SA of an AN, with its SAK, in every receive SC; refused while that AN is still in use (R134 step 2). -/
def State.installSak (s : State) (port an slot : Nat) (sak : BitVec 256) : State :=
  let y := s.secy port
  if y.rx.any (fun c => (Sparse.find c.sas an).isSome) || (Sparse.find y.txSas an).isSome then s
  else s.setSecy port { y with rx := y.rx.map (fun c => { c with sas := Sparse.insert c.sas an 1 }), pending := some an, latest := some an,
                               saks := Sparse.insert y.saks an sak, cakAn := Sparse.insert y.cakAn an slot }
/-- The AN of the next SAK of a key server (R134 step 1): the first behind TX_AN that no SA uses; TX_AN itself before the first one. -/
def State.nextAn (s : State) (port : Nat) : Nat :=
  let y := s.secy port
  let at_ := s.rdP Fld.MSC_SA_STATUS_TX_AN port
  let used := fun (a : Nat) => y.rx.any (fun c => (Sparse.find c.sas a).isSome) || (Sparse.find y.txSas a).isSome
  if y.latest.isNone then at_ else (([1, 2, 3, 4].map (fun d => (at_ + d) % 4)).find? (fun a => !used a)).getD ((at_ + 1) % 4)
/-- A transmit SA's next packet number has been reached: at the threshold EVT 5.0 is raised and a new SAK is owed; at its end the SA
protects no more frames, and EVT 5.1 is raised (R135).  An XPN suite compares the upper half. -/
def State.pnReached (s : State) (port an pn : Nat) : State :=
  let y := s.secy port
  let xpn := s.isXpn port
  let top := if xpn then 2 ^ 64 - 1 else 0xFFFFFFFF
  let at_ := s.rdP Fld.MSC_PN_THRESH_THRESHOLD port * (if xpn then 2 ^ 32 else 1)
  let s1 := (s.setSecy port { y with txSas := if pn = top then Sparse.erase y.txSas an else Sparse.insert y.txSas an pn,
                                     rekeyDue := y.rekeyDue || pn == at_ }).showTxSa port
  let s2 := if pn = at_ then s1.raise Ev.MSC_PN_THRESHOLD .port port else s1
  if pn = top then s2.raise Ev.MSC_PN_EXHAUSTED .port port else s2

/-! ### MKPDUs (R131 to R134) -/

/-- What an MKPDU says, as its ICV covers it. -/
def mkpduBody (m : Mkpdu) : List Nat :=
  [m.len, m.sci.toNat, m.member, m.ksPrio, m.suite, m.offset, m.implicitSc.toNat, (match m.reports with | some a => a + 1 | none => 0)]
    ++ (match m.dist with | some d => [d.an + 1, d.suite, d.offset, d.wrapped.toNat] | none => [0])
/-- The rind finds the ICV good (R131). -/
def mkpduIcvOk (m : Mkpdu) (c : CakSlot) : Bool := m.icv == mkaIcv c.ick (mkpduBody m)
/-- The sender distributes no SAK for another suite or offset than the port's (R132). -/
def State.suiteOk (s : State) (port : Nat) (m : Mkpdu) : Bool :=
  match m.dist with
  | some d => d.suite == s.rdP Fld.MSC_PORT_CFG_CIPHER port && d.offset == s.rdP Fld.MSC_PORT_CFG_CONF_OFFSET port
  | none => true
/-- A good MKPDU of a peer (R125, R132, R133): the peer is live, with a receive SC, unless it distributes a SAK for another suite; the last
live peer lost raises EVT 5.2.  A peer new in the association of the CAK in `slot` is owed a SAK of it (R678). -/
def State.takePeer (s : State) (port slot : Nat) (m : Mkpdu) (was ok : Bool) : State :=
  let y := s.secy port
  let heard := ((y.peers.find? (fun p => p.sci == m.sci)).map MkaPeer.caks).getD []
  let peer : MkaPeer := { sci := m.sci, member := m.member, ksPrio := m.ksPrio, live := ok, lastAt := s.now, reported := m.reports,
                          caks := if heard.contains slot then heard else slot :: heard }
  let peers := y.peers.filter (fun p => p.sci != m.sci) ++ [peer]
  let idx := ((List.range 8).find? (fun i => y.rx.all (fun c => c.idx != i))).getD 0
  let known := y.rx.any (fun c => c.sci == m.sci)
  let rx := if !ok then y.rx.filter (fun c => c.sci != m.sci)
    else if known then y.rx else y.rx ++ [⟨idx, m.sci, m.implicitSc && y.rx.all (fun c => !c.implicitSc), []⟩]
  let s1 := (s.setSecy port { y with peers := peers, rx := rx, rekeyDue := y.rekeyDue || (ok && !(was && heard.contains slot)) }).showMka port
  if was && !ok && (s1.secy port).live.isEmpty then s1.raise Ev.MKA_PEER_LOST .port port else s1

/-- MKPDU_RECEIVE (R125, R131 to R134): the rind checks the ICV and unwraps a SAK; the keepers keep the peers, the SCs and the SAs. -/
def execMkpduReceive (port : Nat) (m : Mkpdu) (s : State) : Host.Outcome State Fault Refusal :=
  if !s.onP Fld.MSC_PORT_CFG_EN port then .next s
  else
    match s.caks port with
    | [] => .next (s.raiseMs Ev.MSC_KEY_MISSING .port port)
    | first :: others =>
      let cak := ((first :: others).find? (fun e => mkpduIcvOk m e.2)).getD first
      let y := s.secy port
      let n := if y.pduSec = s.now / sClk then y.pdus else 0
      if 16 ≤ n then .next (s.bump .MKPDU_RATE_DROP port)
      else
        let s1 := s.setSecy port { y with pduSec := s.now / sClk, pdus := n + 1 }
        let old := y.peers.find? (fun p => p.sci == m.sci)
        let stale := match old with | some p => decide (m.member ≤ p.member) | none => false
        if 1500 < m.len || !mkpduIcvOk m cak.2 || !m.paramsOk || stale then .next (s1.bump .MKPDU_BAD port)
        else
          let was := match old with | some p => p.live | none => false
          let ok := s.suiteOk port m
          if !was && ok && decide (8 ≤ y.live.length) then .next ((s1.bump .MKA_PEERS_EXCESS port).raise Ev.MKA_PEER_LIMIT .port port)
          else
            let s2 := s1.takePeer port cak.1 m was ok
            let server := (s2.secy port).peers.any (fun p => p.sci == m.sci && s2.peerIsKeyServer port p)
            match m.dist with
            | some d => .next (if ok && server then s2.installSak port (d.an % 4) cak.1 (unwrapSak cak.2.kek d.wrapped) else s2)
            | none => .next s2

/-- The MKPDU a port sends in the association of a CAK (R131, R132): its own suite and offset, the SAK it distributes there, and the
receipt of the latest one. -/
def State.ownMkpdu (s : State) (port slot : Nat) (c : CakSlot) : Mkpdu :=
  let y := s.secy port
  let suite := s.rdP Fld.MSC_PORT_CFG_CIPHER port
  let offset := s.rdP Fld.MSC_PORT_CFG_CONF_OFFSET port
  let of := y.dist.filter (fun a => Sparse.find y.cakAn a == some slot)
  let dist := of.map (fun a => SakDist.mk a suite offset (wrapSak c.kek (Sparse.get y.saks a 0)))
  let m : Mkpdu := { len := 0, paramsOk := true, sci := BitVec.ofNat 64 (s.ownSci port), member := y.member,
                     ksPrio := s.rdP Fld.MSC_MKA_CFG_KS_PRIORITY port, suite := suite, offset := offset,
                     implicitSc := !s.onP Fld.MSC_PORT_CFG_INCLUDE_SCI port, dist := dist, reports := y.latest, icv := 0 }
  { m with icv := mkaIcv c.ick (mkpduBody m) }

/-- The slot of the association in which the key server distributes a SAK: the newest in which every live peer has been heard (R678). -/
def State.distSlot (s : State) (port : Nat) (cs : List (Nat × CakSlot)) : Nat :=
  ((cs.map Prod.fst).find? (fun i => (s.secy port).live.all (fun p => p.caks.contains i))).getD ((cs.map Prod.fst).headD 0)
/-- MKA_HELLO_SEND (R131, R132, R134 step 1, R678): an MKPDU of each association is sent every hello time; the key server generates,
installs and distributes a SAK that it owes. -/
def execMkaHelloSend (port : Nat) (s : State) : Host.Outcome State Fault Refusal :=
  if !s.onP Fld.MSC_PORT_CFG_EN port || s.now < (s.secy port).helloAt then .next s
  else
    match s.caks port with
    | [] => .next (s.raiseMs Ev.MSC_KEY_MISSING .port port)
    | first :: others =>
      let y0 := s.secy port
      let s1 := s.setSecy port { y0 with helloAt := s.now + s.mkaHello port, member := y0.member + 1 }
      let y := s1.secy port
      let owes := s1.isKeyServer port && !y.live.isEmpty && y.pending.isNone && (y.rekeyDue || y.txSas.isEmpty)
        && s1.on Fld.RND_STATUS_RNG_OK
      let s2 := if owes then
          let t := (s1.installSak port (s1.nextAn port) (s1.distSlot port (first :: others)) (freeKey s1.fresh)).draw
          t.setSecy port { t.secy port with rekeyDue := (t.secy port).pending.isNone, dist := (t.secy port).pending }
        else s1
      .next (if s2.portUp port && s2.txDriven port then
        (first :: others).foldl (fun (t : State) e => t.emit (.mkpdu port (t.ownMkpdu port e.1 e.2))) s2 else s2)

/-- MKA_PEER_TIMEOUT (R133): no valid MKPDU within the life time of three hello times. -/
def execMkaPeerTimeout (port : Nat) (sci : BitVec 64) (s : State) : Host.Outcome State Fault Refusal :=
  let y := s.secy port
  match y.peers.find? (fun p => p.sci == sci && p.live) with
  | some p =>
    if p.lastAt + 3 * s.mkaHello port ≤ s.now then
      let peers := y.peers.map (fun q => if q.sci == sci then { q with live := false } else q)
      let s1 := (s.setSecy port { y with peers := peers, rx := y.rx.filter (fun c => c.sci != sci) }).showMka port
      .next (if (s1.secy port).live.isEmpty then s1.raise Ev.MKA_PEER_LOST .port port else s1)
    else .next s
  | none => .next s

/-- TX_SA_SWITCH (R134 steps 3 and 4): every live peer has reported receipt, and the transmit SC takes the new AN at a frame
boundary; the old receive SA lingers. -/
def execTxSaSwitch (port : Nat) (s : State) : Host.Outcome State Fault Refusal :=
  let y := s.secy port
  match y.pending with
  | some a =>
    let boundary := match (s.port port).tx with | some f => !f.begun | none => true
    if !y.live.isEmpty && y.live.all (fun p => p.reported == some a) && boundary then
      let old := s.rdP Fld.MSC_SA_STATUS_TX_AN port
      let until_ := s.now + s.rdP Fld.MSC_MKA_CFG_LINGER port * sClk
      let y1 := { y with txSas := [(a, 1)], pending := none, dist := none,
                         linger := if old == a then y.linger else y.linger.filter (fun e => e.1 != old) ++ [(old, until_)] }
      .next (((s.setSecy port y1).wrP Fld.MSC_SA_STATUS_TX_AN port a).pnReached port a 1)
    else .next s
  | none => .next s

/-- SA_LINGER_EXPIRY (R134 step 4): old receive SAs whose time has passed are retired. -/
def execSaLingerExpiry (port : Nat) (s : State) : Host.Outcome State Fault Refusal :=
  let y := s.secy port
  let gone := (y.linger.filter (fun e => decide (e.2 ≤ s.now))).map Prod.fst
  if gone.isEmpty then .next s
  else .next (s.setSecy port { y with linger := y.linger.filter (fun e => decide (s.now < e.2)),
                                      rx := y.rx.map (fun c => { c with sas := c.sas.keep (fun a => !gone.contains a) }) })

/-- SA_STATE_ECC (R136): an uncorrectable error in SA state. -/
def execSaStateEcc (port : Nat) (tx : Bool) (sc an : Nat) (s : State) : Host.Outcome State Fault Refusal := .next (s.saBad port tx sc an)

/-! ### Protection of a transmitted frame (R117, R118, R121, R126, R134, R135) -/

/-- The transmit SA in use gives a frame its packet number, and its next number advances; none when the controlled port is not
operational (R126). -/
def State.takePn (s : State) (port : Nat) : State × Option (Nat × Nat) :=
  let an := s.rdP Fld.MSC_SA_STATUS_TX_AN port
  let s := match s.readWord 10 port 0 0 with
    | (t, 2) => t.saBad port true 0 an
    | (t, _) => t
  match (if s.onP Fld.MSC_SA_STATUS_CP_OPERATIONAL port then Sparse.find (s.secy port).txSas an else none) with
  | none => (s.bump .TX_NOT_OPERATIONAL port, none)
  | some pn => (s.pnReached port an (pn + 1), some (an, pn))
/-- Count a protected frame for its SA; `n` bytes are secured (R138). -/
def State.countOut (s : State) (port an n : Nat) : State :=
  let item := port * 4 + an
  if s.onP Fld.MSC_PORT_CFG_CONF port then (s.bump .OutPktsEncrypted item).bump .OutOctetsEncrypted item n
  else (s.bump .OutPktsProtected item).bump .OutOctetsProtected item n
/-- Protect a frame: the bytes sent, or none when the controlled port is not operational (R126).  A MAC control frame and
the keepers' EAPOL pass in the clear. -/
def State.secProtect (s : State) (port : Nat) (b : List Byte) (eapol : Bool) : State × Option (List Byte) :=
  if !s.onP Fld.MSC_PORT_CFG_EN port || isMacCtl b || eapol then (s, some b)
  else
    match s.takePn port with
    | (t, none) => (t, none)
    | (t, some (an, pn)) => (t.countOut port an (b.length - 12), some (t.sealed port an pn b))

end Sys2Proof.Machine
end

