-- ==== Sys2Proof/Machine/EbbOps.lean ====
section
/-! DEFINITION. Lane ebb and low-power idle of a port (spec 02, R63 to R75): messages, requests, the agreed change of width, and when either
is in use. -/
namespace Sys2Proof.Machine

open Sys2Proof.Config

/-- The active transmit width of a port, log2. -/
def State.ebbWidth (s : State) (port : Nat) : Nat := log2Lanes (s.activeLanes port)
/-- Full width, log2. -/
def State.fullWidth (s : State) (port : Nat) : Nat := log2Lanes (typeLanes (s.portType port))
/-- The bytes of an ebb frame (R65). -/
def State.ebbBytes (s : State) (port kind seq target : Nat) : List Byte :=
  let msg : BitVec 128 := setFields 0 [(EbbMsg.VERSION, 1), (EbbMsg.TYPE, kind), (EbbMsg.SEQ, seq),
    (EbbMsg.CUR_WIDTH, s.ebbWidth port), (EbbMsg.TARGET_WIDTH, target),
    (EbbMsg.EBB_CAP, (s.onP Fld.PRT_MODE_EBB_EN port).toNat)]
  padFrame (bytesBE 6 0x0180C200000E ++ bytesBE 6 (s.portAddr port) ++ bytesBE 2 0x88B7 ++ bytesBE 3 0x3A7440
    ++ bytesBE 2 1 ++ bytesOfNat 16 msg.toNat)
/-- Send an ebb message: it passes the SecY like any other frame (R64). -/
def State.sendEbb (s : State) (port kind seq target : Nat) : State :=
  match s.secProtect port (s.ebbBytes port kind seq target) false with
  | (t, some w) => (t.sendBytes port w).bump .EBB_TX port
  | (t, none) => t
/-- Replace a port's ebb state. -/
def State.setEbb (s : State) (port : Nat) (e : Ebb) : State := s.setPort port { s.port port with ebb := e }
/-- Open a request of this device. -/
def State.openEbb (s : State) (port kind target : Nat) : State :=
  let e := (s.port port).ebb
  let seq := (e.seq + 1) % 65536
  (s.setEbb port { e with seq := seq, req := some ⟨kind, seq, target, s.now⟩ }).sendEbb port kind seq target
/-- A restore is under way: its request is open, or its change of width is agreed. -/
def State.restoring (s : State) (port : Nat) : Bool :=
  let e := (s.port port).ebb
  (match e.req with | some r => r.kind == 4 | none => false) || (match e.switchTo with | some w => w.target == s.fullWidth port | none => false)
/-- Start a restore to full width, or let it wait for the shed in progress (R69); one under way goes on. -/
def State.startRestore (s : State) (port : Nat) : State :=
  let e := (s.port port).ebb
  if s.restoring port then s
  else if e.req.isSome || e.switchTo.isSome then s.setEbb port { e with restoreDue := true }
  else (s.setEbb port { e with restoreDue := false }).openEbb port 4 (s.fullWidth port)
/-- SWITCH follows an acknowledged request once no frame is in transmission (Table 2.6). -/
def State.announceSwitch (s : State) (port : Nat) : State :=
  let p := s.port port
  let free := match p.tx with | some f => !f.begun | none => true
  match p.ebb.switchTo with
  | some w => if w.sent || !free then s else (s.setEbb port { p.ebb with switchTo := some { w with sent := true } }).sendEbb port 6 w.seq w.target
  | none => s
/-- An acknowledged request of this device becomes the agreed change of width, and SWITCH follows (R69, R70). -/
def State.agreeSwitch (s : State) (port : Nat) (r : EbbReq) : State :=
  (s.setEbb port { (s.port port).ebb with req := none, switchTo := some ⟨r.target, r.seq, false⟩ }).announceSwitch port
/-- EBB_ACTIVE, EEE_ACTIVE and low-power idle of an UP port follow its configuration (R63, R73, R75): what it may no longer use ends, and
a port that has shed lanes and may not ebb any more restores full width (log entry 96). -/
def State.refreshIdle (s : State) (port : Nat) : State :=
  if !s.portUp port || (s.bundleOf port).isSome then s
  else
    let s1 := if s.ebbAble port then s else s.wrP Fld.PRT_LINK_STATUS_EBB_ACTIVE port 0
    let s2 := s1.wrP Fld.PRT_LINK_STATUS_EEE_ACTIVE port (s1.lpiAble port).toNat
    let s3 := if s2.lpiAble port then s2 else s2.endLpi port
    if !s3.ebbAble port && decide (s3.ebbWidth port < s3.fullWidth port) then s3.startRestore port else s3
/-- Some queue of a port holds at least RESTORE_MARK cells (R68, R69). -/
def State.atRestoreMark (s : State) (port : Nat) : Bool :=
  (s.portQueues port).any (fun q =>
    decide (s.rdP Fld.PRT_EBB_CFG_RESTORE_MARK port ≤ (s.queue (port / 24) q).occupancy))


end Sys2Proof.Machine
end

