-- ==== Sys2Proof/Machine/Gates.lean ====
section
/-! DEFINITION. The commands of the gates, of preemption and of the express table (spec 18). -/
namespace Sys2Proof.Machine

open Sys2Proof.Config

/-! ### Preemption (R527) -/

/-- PREEMPT_VERIFY_SEND (R527): a verify mPacket every VERIFY_MS, up to 3 times. -/
def execPreemptVerifySend (port : Nat) (s : State) : Host.Outcome State Fault Refusal :=
  let g := s.gte port
  if s.portUp port && s.mergeOn port && !s.onP Fld.GTE_PORT_CFG_VERIFY_DIS port && !s.preemptActive port
      && decide (g.verifySent < 3 ∧ g.verifyAt ≤ s.now) then
    let t := s.setGte port { g with verifySent := g.verifySent + 1, verifyAt := s.now + s.rdP Fld.GTE_GUARD_VERIFY_MS port * msClk }
    .next (if t.txDriven port then t.emit (.verify port) else t)
  else .next s

/-- PREEMPT_VERIFY_RESPONSE (R527): a response makes preemption active. -/
def execPreemptVerifyResponse (port : Nat) (s : State) : Host.Outcome State Fault Refusal :=
  let g := s.gte port
  if s.portUp port && s.mergeOn port && decide (1 ≤ g.verifySent ∧ g.verifySent ≤ 3) then
    .next (s.wrP Fld.GTE_EXP_QSTAT_PREEMPT_ACTIVE port 1)
  else .next s

/-- PREEMPT_VERIFY_FAIL (R527): no response after the third verify. -/
def execPreemptVerifyFail (port : Nat) (s : State) : Host.Outcome State Fault Refusal :=
  let g := s.gte port
  if s.portUp port && s.mergeOn port && !s.preemptActive port && decide (g.verifySent = 3 ∧ g.verifyAt ≤ s.now) then
    .next (((s.setGte port { g with verifySent := 4 }).bump .PREEMPT_VERIFY_FAIL port).raise Ev.PREEMPT_VERIFY_FAIL .port port)
  else .next s

/-! ### The express table (R521) -/

/-- EXP_WRITE (R521): an express entry of a pipeline is written in one store access. -/
def execExpWrite (tag pipe idx : Nat) (e : BitVec 128) (s : State) : Host.Outcome State Fault Refusal :=
  let inPort := ExpEntry.IN_PORT.get e
  let bad := decide (2 ^ 91 ≤ e.toNat ∨ 95 < ExpEntry.OUT_PORT.get e)
    || (!ExpEntry.PORT_ANY.on e && decide (inPort / 24 ≠ pipe))
    || (ExpEntry.SET_VID.on e && ExpEntry.NEW_VID.get e == 4095)
  if !s.mbxRunsAt tag opExpWrite pipe then .next s
  else if bad then .next (s.reply tag .badRule 0 0 0 true)
  else
    let (t, ok) := s.chargeWrite tag (.expWrite tag pipe idx e) pipe actHost 1 [(7, idx)]
    if ok then
      let x := t.exm pipe
      .next ((t.setExm pipe { x with exps := Sparse.put x.exps idx e 0, faultyExp := Sparse.erase x.faultyExp idx }).touch pipe 7 idx |>.reply tag .ok 0 0 0 true)
    else .next t

/-! ### Gate control lists (R531 to R537) -/

/-- The port of the administrative window of an instance (R545). -/
def State.gclPort (s : State) (pipe : Nat) : Nat := 24 * pipe + s.rd Fld.GTE_GCL_SEL_PORT pipe

/-- GCL_WRITE (R532): a write of GTE_GCL_CMD with WRITE = 1: the staged entry enters the administrative bank.  The gate counts one access
of the host-access share (Table 20.2), and the write waits for none (R545: 64 clocks at most). -/
def execGclWrite (who : Agent) (pipe : Nat) (v : Word) (s : State) : Host.Outcome State Fault Refusal :=
  let port := s.gclPort pipe
  let g := s.gte port
  let lo := s.rd Fld.GTE_GCL_ENTRY_LO_ENTRY pipe
  let ns := s.rd Fld.GTE_GCL_ENTRY_HI_ENTRY pipe
  let bad := g.pending.isSome || decide (ns < 32 ∨ 1000000000 < ns ∨ 2 ^ 19 ≤ lo)
  .next (s.busWrite who Reg.GTE_GCL_CMD pipe 0 0 v bad (fun t =>
    let k := (!g.active).toNat * 128 + s.rd Fld.GTE_GCL_SEL_INDEX pipe
    (t.setGte port { g with bank := Sparse.put g.bank k (BitVec.ofNat 64 (lo + ns * 2 ^ 32)) 0, badEntry := Sparse.erase g.badEntry k }).admitOwn
      (pipe + 1) actHost 1))

/-- GCL_READ (R532): a write of GTE_GCL_CMD with READ = 1: an administrative entry is loaded into the staged registers. -/
def execGclRead (who : Agent) (pipe : Nat) (v : Word) (s : State) : Host.Outcome State Fault Refusal :=
  let g := s.gte (s.gclPort pipe)
  .next (s.busWrite who Reg.GTE_GCL_CMD pipe 0 0 v false (fun t =>
    let e := (Sparse.get g.bank ((!g.active).toNat * 128 + s.rd Fld.GTE_GCL_SEL_INDEX pipe) 0).toNat
    (t.wr Fld.GTE_GCL_ENTRY_LO_ENTRY (e % 2 ^ 32) pipe).wr Fld.GTE_GCL_ENTRY_HI_ENTRY (e / 2 ^ 32) pipe))

/-- GCL_COMMIT (R535): a write of GTE_GCL_CMD with COMMIT = 1 computes the change time and sets PENDING. -/
def execGclCommit (who : Agent) (pipe : Nat) (v : Word) (s : State) : Host.Outcome State Fault Refusal :=
  let port := s.gclPort pipe
  let g := s.gte port
  let len := s.rd Fld.GTE_ADMIN_LEN_LEN pipe
  let cyc := s.rd Fld.GTE_ADMIN_CYCLE_CYCLE_NS pipe
  let bad := !s.on Fld.LHT_STATUS_TIME_VALID || g.pending.isSome || (g.entries (!g.active) len).any (fun e => GateEntry.OP.get e == 3)
    || decide (len = 0 ∨ 128 < len ∨ cyc < 1000 ∨ 1000000000 < cyc)
  .next (s.busWrite who Reg.GTE_GCL_CMD pipe 0 0 v bad (fun t =>
    let sec := s.rd Fld.GTE_ADMIN_BASE_SEC_HI_SEC pipe * 2 ^ 32 + s.rd Fld.GTE_ADMIN_BASE_SEC_LO_SEC pipe
    let base := sec * todS + s.rd Fld.GTE_ADMIN_BASE_NS_NS pipe * todNs
    let c := changeTime base (cyc * todNs) s.tod
    t.setGte port { g with pending := some ⟨c, cyc, s.rd Fld.GTE_ADMIN_LEN_CYCLE_EXT_NS pipe, len⟩, changeAt := c }))

/-- GCL_CANCEL (R535): a write of GTE_GCL_CMD with CANCEL = 1. -/
def execGclCancel (who : Agent) (pipe : Nat) (v : Word) (s : State) : Host.Outcome State Fault Refusal :=
  let port := s.gclPort pipe
  .next (s.busWrite who Reg.GTE_GCL_CMD pipe 0 0 v false (fun t => t.setGte port { s.gte port with pending := none }))

/-- LIST_CHANGE (R535): at C the banks swap, PENDING clears, and EVT 21.0 is raised.  A C that a step has passed waits to be computed
again (R537). -/
def execListChange (port : Nat) (s : State) : Host.Outcome State Fault Refusal :=
  let g := s.gte port
  match g.pending with
  | some l =>
    if l.start ≤ s.tod ∧ g.redo = false then
      .next (((s.setGte port { g with oper := some l, pending := none, active := !g.active, cycleNo := none, entryNo := none }).bump
        .GTE_CFG_CHANGES port).raise Ev.GTE_LIST_CHANGE .port port)
    else .next s
  | none => .next s

/-- GATE_ENTRY_START (R533, R539): an entry comes into force: SET_AND_HOLD and SET_AND_RELEASE act on the merge hold, and an
open run of the express gate too short to admit a frame is counted. -/
def execGateEntryStart (port : Nat) (s : State) : Host.Outcome State Fault Refusal :=
  let g := s.gte port
  match s.gateMode port s.tod with
  | .list p =>
    if g.entryNo = some (p.k, p.cur.idx) then .next s
    else
      let op := GateEntry.OP.get p.cur.entry
      let hold := if op = 1 then s.preemptActive port else if op = 2 then false else g.merge
      let s1 := s.setGte port { g with entryNo := some (p.k, p.cur.idx), merge := hold }
      let begins := gateOpenIn p.cur.entry 16 && p.openFor 16 == some (p.pos - p.cur.lo)
      let lost := begins && (match p.openFor 16, p.closesIn 16 with
        | some a, some b => decide (a + b ≤ 2 * s.guardW port)
        | _, _ => false)
      .next (if lost then (s1.bump .GTE_WINDOW_LOST port).raiseSec Ev.GTE_WINDOW_LOST .port port else s1)
  | _ => .next s

/-- The next entry is SET_AND_HOLD and starts within a time: the next of the cycle or of the cycle after, or the first of the list that
takes over first (R533, R535). -/
def Gte.nextHold (g : Gte) (p : GatePos) (y : Nat) : Bool :=
  let next : Option (BitVec 64 × Nat) := match p.segs.find? (fun x => decide (p.pos < x.lo)) with
    | some x => some (x.entry, x.lo - p.pos)
    | none => if p.lastCycle then none else p.segs.head?.map (fun x => (x.entry, p.cyc - p.pos))
  let first : Option (BitVec 64 × Nat) := match g.pending, p.toChange with
    | some l, some c => ((g.entries (!g.active) l.len).head?).map (fun e => (e, c))
    | _, _ => none
  let soonest := match next, first with
    | some a, some b => if a.2 < b.2 then some a else some b
    | some a, none => some a
    | none, b => b
  soonest.any (fun (x : BitVec 64 × Nat) => GateEntry.OP.get x.1 == 1 && decide (x.2 ≤ y))

/-- MERGE_HOLD_ASSERT (R533): the next entry is SET_AND_HOLD and starts within Y byte times, rounded up to core clocks. -/
def execMergeHoldAssert (port : Nat) (s : State) : Host.Outcome State Fault Refusal :=
  match s.gateMode port s.tod with
  | .list p =>
    let y := bitClocks (s.holdBytes port * 8) (s.portUnits port) * todClk
    .next (if s.preemptActive port && (s.gte port).nextHold p y then s.setGte port { s.gte port with merge := true } else s)
  | _ => .next s

/-- CYCLE_START (R538): a new cycle of the operational list begins, and the port latches W. -/
def execCycleStart (port : Nat) (s : State) : Host.Outcome State Fault Refusal :=
  let g := s.gte port
  match s.gateMode port s.tod with
  | .list p =>
    if g.cycleNo = some p.k then .next s
    else
      let w := if s.onP Fld.GTE_PORT_CFG_TU_GATING port then min s.lht.coreTu (s.rdP Fld.GTE_GUARD_TU_CAP_NS port) else 0
      .next ((s.setGte port { g with cycleNo := some p.k }).wrP Fld.GTE_EXP_QSTAT_W_NS port w)
  | _ => .next s

/-- STEP_GATE_FALLBACK (R537): 1 µs after a counter step the gates follow their list again, and a pending change that the step found
passed, or less than 1 µs ahead, is computed again. -/
def execStepGateFallback (port : Nat) (s : State) : Host.Outcome State Fault Refusal :=
  let g := s.gte port
  match g.fallbackUntil with
  | some t =>
    if t ≤ s.now then
      let p := g.pending.map (fun (l : GateList) => if g.redo then { l with start := changeTime l.start (l.cycleNs * todNs) s.tod } else l)
      .next (s.setGte port { g with fallbackUntil := none, redo := false, pending := p, changeAt := (match p with | some l => l.start | none => g.changeAt) })
    else .next s
  | none => .next s

/-! ### Configuration (R530, R540) -/

/-- GTE_PORT_CFG_WRITE (R530, R540, R632). -/
def execGtePortCfgWrite (who : Agent) (port : Nat) (v : Word) (s : State) : Host.Outcome State Fault Refusal :=
  let changes := fun (f : Fld) => f.of v != s.rdP f port
  let bad := Fld.GTE_PORT_CFG_CM_PROFILE.of v == 3 || (Fld.GTE_PORT_CFG_CM_PROFILE.of v == 2 && !Fld.GTE_PORT_CFG_PREEMPT_EN.onIn v)
    || (s.onP Fld.PRT_MODE_EN port && (changes Fld.GTE_PORT_CFG_PREEMPT_EN || changes Fld.GTE_PORT_CFG_ADD_FRAG || changes Fld.GTE_PORT_CFG_CM_PROFILE))
    || ((s.bundleOf port).isSome && (Fld.GTE_PORT_CFG_GATE_EN.onIn v || Fld.GTE_PORT_CFG_PREEMPT_EN.onIn v))
  let expWas := s.onP Fld.GTE_PORT_CFG_EXP_EN port
  let gateWas := s.onP Fld.GTE_PORT_CFG_GATE_EN port
  .next (s.busWrite who Reg.GTE_PORT_CFG (port / 24) (port % 24) 0 v bad (fun t =>
    let g := t.gte port
    let g1 := if gateWas && !Fld.GTE_PORT_CFG_GATE_EN.onIn v then
        { g with pending := none, merge := false, fallbackUntil := none, redo := false, cycleNo := none, entryNo := none }
      else g
    let g2 := if expWas && !Fld.GTE_PORT_CFG_EXP_EN.onIn v then { g1 with drainUntil := some (t.now + 10 * usClk) }
      else if !expWas && Fld.GTE_PORT_CFG_EXP_EN.onIn v then { g1 with drainUntil := none } else g1
    (t.setGte port g2).refreshIdle port))

/-- EXPRESS_DISABLE_EXPIRY (R540): express frames still queued 10 µs after EXP_EN was cleared are discarded. -/
def execExpressDisableExpiry (port : Nat) (s : State) : Host.Outcome State Fault Refusal :=
  let g := s.gte port
  match g.drainUntil with
  | some t =>
    if t ≤ s.now then
      let n := g.queue.length
      let s1 := s.flushExpress port
      let s2 := s1.setGte port { s1.gte port with drainUntil := none }
      .next (if n = 0 then s2 else (s2.bump .EXP_DISCARD_DISABLE port n).raise Ev.EXP_DRAIN_DISCARD .port port)
    else .next s
  | none => .next s

end Sys2Proof.Machine
end

