-- ==== Sys2Proof/Machine/Harbour.lean ====
section
/-! DEFINITION. The commands of the harbour memory controllers (spec 19): serving and answering requests, refresh and temperature,
training, scrub, row repair, retirement, start-up and self-refresh. -/
namespace Sys2Proof.Machine

open Sys2Proof.Config

/-! ### Serving requests (R551 to R553) -/

/-- The window of a pseudo-channel: 64 requests; the others wait in the crossing queue. -/
def State.hbWin (s : State) (pc : Nat) : List HbReq := (Sparse.get s.hbc.wins pc []).take 64
/-- Requests waiting for a pseudo-channel. -/
def State.setHbWin (s : State) (pc : Nat) (l : List HbReq) : State := { s with hbc := { s.hbc with wins := Sparse.put s.hbc.wins pc l [] } }
/-- Class in which a request is served. -/
def HbReq.served (r : HbReq) : Nat := if r.promoted then 0 else r.cls
/-- Two requests touch the same bytes. -/
def HbReq.overlaps (a b : HbReq) : Bool := decide (a.addr < b.addr + b.len ∧ b.addr < a.addr + a.len)
/-- Request `a`, at place `i`, comes before request `b`, at place `j`: class, then arrival where one is promoted, else priority and
then arrival. -/
def hbBefore (a b : Nat × HbReq) : Bool :=
  if a.2.served ≠ b.2.served then decide (a.2.served < b.2.served)
  else if a.2.promoted || b.2.promoted || a.2.prio == b.2.prio then decide (a.1 < b.1)
  else decide (a.2.prio < b.2.prio)
/-- A request waits for an older one to the same bytes; a read takes its data from a waiting write and does not wait. -/
def hbBlocked (l : List (Nat × HbReq)) (x : Nat × HbReq) : Bool :=
  l.any (fun y => decide (y.1 < x.1) && y.2.overlaps x.2 && (x.2.write || !y.2.write))
/-- The first request that can be issued. -/
def hbFirst (l : List (Nat × HbReq)) : Option (Nat × HbReq) :=
  match l.filter (fun x => !hbBlocked l x) with
  | [] => none
  | x :: r => some (r.foldl (fun m y => if hbBefore y m then y else m) x)
/-- A request with an open row may pass the older ones of its class and priority, none more than 4 times. -/
def hbMayPass (l : List (Nat × HbReq)) (x first : Nat × HbReq) : Bool :=
  x.2.served == first.2.served && x.2.prio == first.2.prio && !hbBlocked l x
    && (l.filter (fun y => decide (y.1 < x.1) && y.2.served == x.2.served && y.2.prio == x.2.prio)).all
        (fun y => !y.2.overlaps x.2 && decide (y.2.passed < 4))

/-- A pseudo-channel pauses now (R557, R558), or repairs a row (R565). -/
def State.pcPauses (s : State) (pc : Nat) : Bool :=
  let p := Sparse.get s.hbc.pausing (pc / 32) (0, 0)
  p.1 == pc && decide (s.now < p.2)
/-- The row that a pseudo-channel repairs now. -/
def State.pcRepairs (s : State) (pc : Nat) : Option Nat :=
  match Sparse.find s.hbc.repairing pc with
  | some (row, t) => if s.now < t then some row else none
  | none => none
/-- Two rows of a pseudo-channel lie in one bank. -/
def sameBank (a b : Nat) : Bool := hbBank a == hbBank b
/-- The row of a request in its stack's own numbering. -/
def HbReq.row (r : HbReq) : Nat := hbRow (hbPc r.addr) (hbOffset r.addr) % 4194304
/-- A request waits: its pseudo-channel pauses, its bank is under repair, or it reached a stack that already enters self-refresh and
is no write-back of the curd flush (R557, R565, R570). -/
def State.hbHolds (s : State) (pc : Nat) (r : HbReq) : Bool :=
  s.pcPauses pc || (match s.pcRepairs pc with | some row => sameBank row r.row | none => false)
    || (match Sparse.find s.hbc.entering (pc / 32) with | some t => decide (t < r.at_) && !(r.cls == 1 && r.prio == 2) | none => false)

/-- HB_REQUEST_ISSUE (R551): a pseudo-channel serves the request at place `i` of its window: the first it can issue, or, its row
being open, one that passes older requests of its own class and priority. -/
def execHbRequestIssue (pc i : Nat) (s : State) : Host.Outcome State Fault Refusal :=
  let all := Sparse.get s.hbc.wins pc []
  let l := (List.range 64).zip (s.hbWin pc)
  if !s.on Fld.HBC_CTRL_EN (pc / 32) || s.on Fld.HBC_CTRL_SR_ACTIVE (pc / 32) then .next s
  else
    let free := l.filter (fun x => !s.hbHolds pc x.2)
    match free.find? (fun x => x.1 == i), hbFirst free with
    | some x, some f =>
      if x.1 = f.1 ∨ hbMayPass l x f = true then
        let mark := fun (y : Nat × HbReq) =>
          if y.1 < i ∧ s.hbHolds pc y.2 = false ∧ y.2.served = x.2.served ∧ y.2.prio = x.2.prio then { y.2 with passed := y.2.passed + 1 } else y.2
        let rest := (l.filter (fun y => y.1 != i)).map mark ++ all.drop 64
        let t := s.setHbWin pc rest
        .next { t with hbc := { t.hbc with busy := Sparse.insert t.hbc.busy pc (Sparse.get t.hbc.busy pc [] ++ [x.2]) } }
      else .next s
    | _, _ => .next s

/-- HB_AGE_PROMOTE (R552): a request that has waited AGE1 or AGE2 × 16 ns is served as class 0. -/
def execHbAgePromote (pc i : Nat) (s : State) : Host.Outcome State Fault Refusal :=
  let l := Sparse.get s.hbc.wins pc []
  match (l.drop i).head? with
  | some r =>
    let age := s.rd (if r.cls = 1 then Fld.HBC_ARB_CFG_AGE1 else Fld.HBC_ARB_CFG_AGE2) (pc / 32)
    if r.cls ≠ 0 ∧ r.promoted = false ∧ r.at_ + age * 28 ≤ s.now then
      .next ((s.setHbWin pc (l.take i ++ [{ r with promoted := true }] ++ l.drop (i + 1))).bump .HBC_PROMOTED pc)
    else .next s
  | none => .next s

/-! ### Answers and errors (R562, R564) -/

/-- Record the first fault of a stack. -/
def State.hbFault (s : State) (pc kind row : Nat) : State :=
  let st := pc / 32
  if s.on Fld.HBC_FAULT_INFO_VALID st then s
  else (((s.wr Fld.HBC_FAULT_INFO_PC pc st).wr Fld.HBC_FAULT_INFO_KIND kind st).wr Fld.HBC_FAULT_INFO_ROW row st).setW1c Fld.HBC_FAULT_INFO_VALID st
/-- Key of a row. -/
def rowKey (pc row : Nat) : Nat := pc * 4194304 + row
/-- Note an error of a row in its stack's table of 256 rows. -/
def State.noteRow (s : State) (pc row : Nat) (ue : Bool) : State :=
  let k := rowKey pc row
  let mine := s.hbc.rows.filter (fun (e : Nat × HbRow) => e.1 / 4194304 / 32 == pc / 32)
  match Sparse.find s.hbc.rows k with
  | some r => { s with hbc := { s.hbc with rows := Sparse.insert s.hbc.rows k { ce := r.ce + (!ue).toNat, ue := r.ue || ue } } }
  | none =>
    if mine.length < 256 then { s with hbc := { s.hbc with rows := Sparse.insert s.hbc.rows k { ce := (!ue).toNat, ue := ue } } } else s
/-- What the ECC of a burst finds (R561, R562). -/
def State.hbEcc (s : State) (pc : Nat) (e : HbEcc) : State :=
  match e with
  | .good => s
  | .onDie => s.bump .HBC_ONDIE_REPORTS pc
  | .corrected row => (((s.bump .HBC_CE pc).raiseSec Ev.HBC_CE .device (pc / 32) pc).hbFault pc 0 row).noteRow pc row false
  | .uncorrectable row =>
    let t := (((s.bump .HBC_UE pc).raise Ev.HBC_UE .device (pc / 32) pc).hbFault pc 1 row).noteRow pc row true
    { t with hbc := { t.hbc with ues := Sparse.insert t.hbc.ues pc ((row, t.now) :: (Sparse.get t.hbc.ues pc []).filter
        (fun x => decide (t.now < x.2 + sClk))) } }
/-- The request is carried out as a read-modify-write (R549). -/
def HbReq.rmw (r : HbReq) : Bool := r.write && (decide (r.len < 32) || r.addr % 32 != 0 || r.len % 32 != 0)
/-- QUIET of a stack's controller: no request held. -/
def State.hbQuiet (s : State) (st : Nat) : State :=
  let held := fun (m : Sparse (List HbReq)) => m.any (fun (e : Nat × List HbReq) => e.1 / 32 == st && !e.2.isEmpty)
  s.wrB Fld.HBC_CTRL_QUIET (!held s.hbc.wins && !held s.hbc.busy) st

/-- HB_REQUEST_COMPLETE (R562, R781): the oldest issued request of a pseudo-channel is answered; HB_DELAY holds it back. -/
def execHbRequestComplete (pc : Nat) (e : HbEcc) (s : State) : Host.Outcome State Fault Refusal :=
  match Sparse.get s.hbc.busy pc [] with
  | r :: rest =>
    if s.now * 4 < r.at_ * 4 + s.perturbAmount 0 pc * 7 then .next s
    else
    let t := { s with hbc := { s.hbc with busy := Sparse.put s.hbc.busy pc rest [] } }
    let u := t.bump (if r.rmw then .HBC_RMW else if r.write then .HBC_WRITES else .HBC_READS) pc
    .next ((u.hbEcc pc (if r.write && !r.rmw then e else u.hbFinds r.addr r.len e)).hbQuiet (pc / 32))
  | [] => .next s

/-! ### Refresh and temperature (R555, R586) -/

/-- BANK_REFRESH (R555): a bank is refreshed; no request waits for it. -/
def execBankRefresh (pc bank : Nat) (s : State) : Host.Outcome State Fault Refusal :=
  if s.on Fld.HBC_CTRL_SR_ACTIVE (pc / 32) then .next s
  else .next { s with hbc := { s.hbc with refreshed := Sparse.insert s.hbc.refreshed (pc * 64 + bank) s.now } }

/-- The refresh rate at a temperature from the rate before: a rate is lowered only 3 °C below the threshold that raised it. -/
def refreshRate (was : Nat) (t : Int) : Nat :=
  let up := if 95 < t then 2 else if 85 < t then 1 else 0
  if was ≤ up then up
  else if was = 2 ∧ 92 < t then 2
  else if 82 < t then 1
  else up
/-- The sum of the harbour shares in force, in basis points. -/
def State.hbShareSum (s : State) : Nat := (List.range 7).foldl (fun n a => n + (s.gate 0).share 0 a / 640) 0

/-- STACK_TEMP_READ (R555): every 1 ms; a rise of the rate with shares above the usable figure raises EVT 23.2 (R586). -/
def execStackTempRead (st : Nat) (temp : Int) (s : State) : Host.Outcome State Fault Refusal :=
  match Sparse.find s.hbc.tempAt st with
  | some t => if s.now < t + msClk then .next s else .next (go s)
  | none => .next (go s)
where
  go (s : State) : State :=
    let was := s.rd Fld.HBC_STATUS_REFRESH_RATE st
    let rate := refreshRate was temp
    let s0 := { s with hbc := { s.hbc with tempAt := Sparse.insert s.hbc.tempAt st s.now } }
    let s1 := (s0.wr Fld.HBC_STATUS_TEMP (fieldByte temp) st).wr Fld.HBC_STATUS_REFRESH_RATE rate st
    let s2 := if was < rate ∧ (if rate = 1 then 9750 else 9250) < s1.hbShareSum then s1.raise Ev.TTB_OVERCOMMIT .device st else s1
    if 105 < temp then s2.raise Ev.HBC_STACK_HOT .device st else s2
  /-- A temperature as TEMP holds it. -/
  fieldByte (t : Int) : Nat := (t % 256).toNat

/-! ### Training (R557 to R560) -/

/-- The tag of a maintenance request: kind 0 pause, 1 full retrain, 2 row repair, 3 scrub. -/
def maintTag (kind pc : Nat) : Nat := 2 ^ 48 + kind * 64 + pc
/-- TEMP of the stack of a pseudo-channel. -/
def State.stackTemp (s : State) (pc : Nat) : Int :=
  let v := s.rd Fld.HBC_STATUS_TEMP (pc / 32)
  if 128 ≤ v then (v : Int) - 256 else (v : Int)
/-- The pauses of a stack do not overlap: none runs now, and no row of the pseudo-channel is being repaired (R554). -/
def State.mayPause (s : State) (pc : Nat) : Bool :=
  s.on Fld.HBC_CTRL_EN (pc / 32) && !s.on Fld.HBC_CTRL_SR_ACTIVE (pc / 32) && !s.pcRetired pc
    && decide ((Sparse.get s.hbc.pausing (pc / 32) (0, 0)).2 ≤ s.now) && (s.pcRepairs pc).isNone

/-- RETRAIN_PAUSE (R557): every PERIOD_MS a pseudo-channel pauses for up to 250 ns, charged 8,000 bytes. -/
def execRetrainPause (pc : Nat) (s : State) : Host.Outcome State Fault Refusal :=
  let due := Sparse.get s.hbc.pauseAt pc 0 + s.rd Fld.HBC_RETRAIN_CFG_PERIOD_MS (pc / 32) * msClk
  if !s.mayPause pc || decide (s.now < due) then .next s
  else
    let (t, ok) := s.charge 0 actMaint 8000 (maintTag 0 pc)
    if !ok then .next t
    else
      let h := { t.hbc with pauseAt := Sparse.insert t.hbc.pauseAt pc t.now, pausing := Sparse.insert t.hbc.pausing (pc / 32) (pc, t.now + 438) }
      .next (({ t with hbc := h }).bump .HBC_RETRAINS (pc / 32))

/-- Retire a pseudo-channel (R567): requests to it are answered with poison, writes discarded, and the chunk free list is empty;
with PC_TAKEOVER in a pair the device hands over (R568). -/
def State.retirePc (s : State) (pc : Nat) : State :=
  let st := pc / 32
  let h := { s.hbc with wins := Sparse.erase s.hbc.wins pc, busy := Sparse.erase s.hbc.busy pc }
  let s1 := ({ s with hbc := h }).wr Fld.HBC_PC_RETIRED_MASK (s.rd Fld.HBC_PC_RETIRED_MASK st + 2 ^ (pc % 32)) st
  let s2 := (((s1.hbQuiet st).raise Ev.HBC_PC_RETIRED .device st pc).hbFault pc 4 0).setFreeChunks 0
  if s2.on Fld.HBC_FAULT_CFG_PC_TAKEOVER st && s2.rd Fld.FLT_PAIR_STATUS_ROLE == 1 then { s2 with flt := { s2.flt with handOver := true } } else s2

/-- FULL_RETRAIN (R558, R560): the stack's temperature has moved by DT since the last one; charged 32,000 bytes.  The third
failure in a row retires the pseudo-channel. -/
def execFullRetrain (pc : Nat) (ok : Bool) (s : State) : Host.Outcome State Fault Refusal :=
  let was := Sparse.get s.hbc.trainTemp pc 0
  let fails := Sparse.get s.hbc.trainFails pc 0
  let due := decide (s.rd Fld.HBC_RETRAIN_CFG_DT (pc / 32) ≤ (s.stackTemp pc - was).natAbs) || fails != 0
  if !s.mayPause pc || !due then .next s
  else
    let (t, go) := s.charge 0 actMaint 32000 (maintTag 1 pc)
    if !go then .next t
    else
      let h := { t.hbc with pauseAt := Sparse.insert t.hbc.pauseAt pc t.now, pausing := Sparse.insert t.hbc.pausing (pc / 32) (pc, t.now + usClk) }
      let u := ({ t with hbc := h }).bump .HBC_RETRAINS (pc / 32)
      if ok then
        .next { u with hbc := { u.hbc with trainTemp := Sparse.insert u.hbc.trainTemp pc (u.stackTemp pc), trainFails := Sparse.erase u.hbc.trainFails pc } }
      else
        let v := { u with hbc := { u.hbc with trainFails := Sparse.insert u.hbc.trainFails pc (fails + 1) } }
        .next (if 3 ≤ fails + 1 then (v.raise Ev.HBC_TRAIN_FAIL .device (pc / 32) pc).retirePc pc else v)

/-- MAINT_FORCE (R559): a pause, full retrain or row repair that has waited 1 ms for the maintenance share runs anyway. -/
def execMaintForce (kind pc : Nat) (s : State) : Host.Outcome State Fault Refusal :=
  let g := s.gate 0
  match g.waiting.find? (fun r => r.act == actMaint && r.tag == maintTag kind pc) with
  | some r =>
    if kind < 3 ∧ r.since + msClk ≤ s.now then
      let t := (s.setGate 0 { g with waiting := g.waiting.erase r, granted := g.granted ++ [(actMaint, r.tag)] }).forceMaint r.charge
      .next (t.bump .HBC_MAINT_FORCED (pc / 32))
    else .next s
  | none => .next s

/-- LANE_REPAIR (R560): a data lane of a pseudo-channel fails training: a spare replaces it, or the pseudo-channel is retired. -/
def execLaneRepair (pc : Nat) (spare : Bool) (s : State) : Host.Outcome State Fault Refusal :=
  if s.pcRetired pc then .next s
  else if spare then .next ((s.bump .HBC_LANE_REPAIRS (pc / 32)).raise Ev.HBC_LANE_REPAIRED .device (pc / 32) pc)
  else .next ((s.raise Ev.HBC_TRAIN_FAIL .device (pc / 32) pc).retirePc pc)

/-! ### Scrub, repair and retirement (R563 to R567) -/

/-- Bursts of a stack, and of a pseudo-channel. -/
def stackBursts : Nat := 805306368
/-- See `stackBursts`. -/
def pcBursts : Nat := 25165824
/-- The scrub skips a burst: its area is not filled yet (R569). -/
def State.scrubSkips (s : State) (st burst : Nat) : Bool :=
  let a := hbAddr (st * 32 + burst / pcBursts) (burst % pcBursts * 32)
  !s.on Fld.HBC_CTRL_FILL_DONE st && decide (0x300000000 ≤ a ∧ a ≤ 0xB7FFFFFFF)
/-- Advance the scrub by one burst; a new scrub period counts corrected errors from zero. -/
def State.scrubNext (s : State) (st : Nat) : State :=
  let p := Sparse.get s.hbc.scrubPos st 0 + 1
  let wrap := decide (stackBursts ≤ p)
  let rows := if wrap then s.hbc.rows.map (fun (e : Nat × HbRow) => if e.1 / 4194304 / 32 = st then (e.1, { e.2 with ce := 0 }) else e) else s.hbc.rows
  { s with hbc := { s.hbc with scrubPos := Sparse.insert s.hbc.scrubPos st (if wrap then 0 else p), scrubAt := Sparse.insert s.hbc.scrubAt st s.now, rows := rows } }

/-- SCRUB_READ (R563): the next burst of a stack is read, paced over the period; a corrected one is written back unless a newer
write has reached the controller. -/
def execScrubRead (st : Nat) (e : HbEcc) (newer : Bool) (s : State) : Host.Outcome State Fault Refusal :=
  let pace := s.rd Fld.HBC_SCRUB_CFG_PERIOD_H st * 3600 * sClk / stackBursts
  let burst := Sparse.get s.hbc.scrubPos st 0
  let pc := st * 32 + burst / pcBursts
  if !s.on Fld.HBC_SCRUB_CFG_EN st || !s.on Fld.HBC_CTRL_INIT_DONE st || s.on Fld.HBC_CTRL_SR_ACTIVE st
      || decide (s.now < Sparse.get s.hbc.scrubAt st 0 + pace) then .next s
  else if s.scrubSkips st burst || s.pcRetired pc then .next (s.scrubNext st)
  else
    let addr := hbAddr pc (burst % pcBursts * 32)
    let e := s.hbFinds addr 32 e
    let back := match e with | .corrected _ => !newer | _ => false
    let (t, ok) := s.charge 0 actMaint (if back then 64 else 32) (maintTag 3 pc)
    if !ok then .next t
    else
      let u := (t.bump .HBC_READS pc).hbEcc pc e
      .next ((if back then ((u.readPlant 5 pc (addr / 32)).1).bump .HBC_WRITES pc else u).scrubNext st)

/-- A row is to be repaired: it has reached CE_TH or had an uncorrectable burst, with AUTO_EN, or HB_REPAIR has named it. -/
def State.rowDue (s : State) (pc row : Nat) : Bool :=
  let k := rowKey pc row
  Sparse.get s.hbc.asked k false ||
    (s.on Fld.HBC_REPAIR_CFG_AUTO_EN (pc / 32) &&
      (match Sparse.find s.hbc.rows k with
       | some r => r.ue || decide (s.rd Fld.HBC_REPAIR_CFG_CE_TH (pc / 32) ≤ r.ce)
       | none => false))
/-- Rows of a stack on the repair list. -/
def State.listedRows (s : State) (st : Nat) : Nat := (s.hbc.repaired.filter (fun (e : Nat × Bool) => e.1 / 4194304 / 32 == st)).length

/-- ROW_REPAIR (R564 to R566): once the requests issued to its bank have completed, a row is replaced by a spare, which holds the bank for
up to 1 µs, or is left unrepaired when its bank has none. -/
def execRowRepair (pc row : Nat) (spare : Bool) (s : State) : Host.Outcome State Fault Refusal :=
  let st := pc / 32
  let k := rowKey pc row
  let issued := (Sparse.get s.hbc.busy pc []).any (fun r => sameBank row r.row)
  if !s.rowDue pc row || s.pcRetired pc || s.pcPauses pc || (s.pcRepairs pc).isSome || issued then .next s
  else
    let (t, ok) := s.charge 0 actMaint (2 * rowBytes) (maintTag 2 pc)
    if !ok then .next t
    else
      let repairing := if spare then Sparse.insert t.hbc.repairing pc (row, t.now + usClk) else t.hbc.repairing
      let h := { t.hbc with rows := Sparse.erase t.hbc.rows k, asked := Sparse.erase t.hbc.asked k, repairing := repairing }
      let u := { t with hbc := h }
      if spare then
        let v := { u with hbc := { u.hbc with repaired := Sparse.insert u.hbc.repaired k true } }
        let w := (v.wr Fld.HBC_REPAIR_STATUS_LISTED (min 255 (v.listedRows st)) st).bump .HBC_ROWS_REPAIRED st
        .next ((w.raise Ev.HBC_ROW_REPAIRED .device st row).hbFault pc 2 row)
      else
        let v := u.wr Fld.HBC_REPAIR_STATUS_UNREPAIRED (min 255 (u.rd Fld.HBC_REPAIR_STATUS_UNREPAIRED st + 1)) st
        .next ((v.raise Ev.HBC_ROW_UNREPAIRABLE .device st row).hbFault pc 3 row)

/-- HB_REPAIR (R564): the mailbox command names a row to be repaired. -/
def execHbRepair (tag pc row : Nat) (s : State) : Host.Outcome State Fault Refusal :=
  .next (s.mbxOp tag opHbRepair (fun t =>
    ({ t with hbc := { t.hbc with asked := Sparse.insert t.hbc.asked (rowKey pc row) true } }, ⟨.ok, 0, 0⟩)))

/-- PC_RETIRE (R567): more than PC_UE_LIMIT distinct rows with uncorrectable errors within 1 s, or (`parity`) 16 commands in a row
with a parity error. -/
def execPcRetire (pc : Nat) (parity : Bool) (s : State) : Host.Outcome State Fault Refusal :=
  let recent := (Sparse.get s.hbc.ues pc []).filter (fun x => decide (s.now < x.2 + sClk))
  let rows := (recent.map Prod.fst).eraseDups
  if s.pcRetired pc then .next s
  else .next (if parity || decide (s.rd Fld.HBC_FAULT_CFG_PC_UE_LIMIT (pc / 32) < rows.length) then s.retirePc pc else s)

/-! ### Start-up and self-refresh (R569 to R571) -/

/-- Every pseudo-channel of a stack has just been trained. -/
def State.trained (s : State) (st : Nat) : State :=
  let pcs := (List.range 32).map (fun i => st * 32 + i)
  let temps := pcs.foldl (fun (m : Sparse Int) pc => Sparse.insert m pc (s.stackTemp pc)) s.hbc.trainTemp
  let at_ := pcs.foldl (fun (m : Sparse Nat) pc => Sparse.insert m pc s.now) s.hbc.pauseAt
  let fails := s.hbc.trainFails.filter (fun (e : Nat × Nat) => e.1 / 32 != st)
  ({ s with hbc := { s.hbc with trainTemp := temps, pauseAt := at_, trainFails := fails } }).wr Fld.HBC_PC_RETIRED_MASK 0 st

/-- HB_INIT_FILL (R565, R569): in the harbour phase the listed repairs are made permanent, every pseudo-channel is trained, and the
flow, session, shadow and keeper areas are filled with zero data. -/
def execHbInitFill (s : State) : Host.Outcome State Fault Refusal :=
  if s.rst.phaseNext ≠ 5 ∨ s.rst.retained = true then .next s
  else
    let h := { s.hbc with repaired := [] }
    let f := { s.flw with area := [], gens := [], seeds := [], seedCopy := [], freeBlocks := [], portMap := [] }
    let s1 := { s with hbc := h, flw := f, ups := { s.ups with recs := [], bufs := [] }, rst := { s.rst with stash := none } }
    .next ((List.range 2).foldl (fun (t : State) st =>
      (((t.trained st).wr Fld.HBC_REPAIR_STATUS_LISTED 0 st).wr Fld.HBC_CTRL_SR_ACTIVE 0 st).wr Fld.HBC_CTRL_INIT_DONE 1 st) s1)

/-- HB_BACKGROUND_FILL_DONE (R569): the spill and capture areas of a stack are filled. -/
def execHbBackgroundFillDone (st : Nat) (s : State) : Host.Outcome State Fault Refusal :=
  .next (if s.on Fld.HBC_CTRL_INIT_DONE st then s.wr Fld.HBC_CTRL_FILL_DONE 1 st else s)

/-- A stack is to enter self-refresh: a retained warm reset is at its step 4, or its controller's block reset runs (R570, R572). -/
def State.srWanted (s : State) (st : Nat) : Bool :=
  (match s.rst.run with | some r => r.retain && r.held | none => false) || (Sparse.find s.rst.blocks (15 * 8 + st)).isSome
/-- A request stands in the windows of a stack that enters self-refresh since `t`: it reached them by then, or writes a record of the
curd flush back. -/
def hbAdmitted (t : Nat) (r : HbReq) : Bool := decide (r.at_ ≤ t) || (r.cls == 1 && r.prio == 2)
/-- Such requests of a stack that wait, or have been issued. -/
def hbHeld (m : Sparse (List HbReq)) (st t : Nat) : Bool := m.any (fun (e : Nat × List HbReq) => e.1 / 32 == st && e.2.any (hbAdmitted t))

/-- SELF_REFRESH_ENTER (R570): after the curd flush, and once every request of its windows has completed or SR_LIMIT_US has
passed, a stack enters self-refresh; what was not issued by then is discarded.  Requests that reached it later wait meanwhile. -/
def execSelfRefreshEnter (st : Nat) (s : State) : Host.Outcome State Fault Refusal :=
  if !s.srWanted st || s.on Fld.HBC_CTRL_SR_ACTIVE st then .next s
  else
    match Sparse.find s.hbc.entering st with
    | none => .next { s with hbc := { s.hbc with entering := Sparse.insert s.hbc.entering st s.now } }
    | some t =>
      let flushing := (List.range 4).any (fun k => s.on Fld.FLW_SLICE_CTRL_FLUSH_BUSY k)
      let waits := hbHeld s.hbc.wins st t || hbHeld s.hbc.busy st t || flushing
      let beyond := decide (t + s.rd Fld.HBC_SR_CFG_SR_LIMIT_US st * usClk ≤ s.now)
      if waits && !beyond then .next s
      else
        let cut := hbHeld s.hbc.wins st t
        let keep := (s.hbc.wins.map (fun (e : Nat × List HbReq) =>
          if e.1 / 32 = st then (e.1, e.2.filter (fun r => !hbAdmitted t r)) else e)).filter (fun (e : Nat × List HbReq) => !e.2.isEmpty)
        let done := s.hbc.busy.filter (fun (e : Nat × List HbReq) => e.1 / 32 != st)
        let h := { s.hbc with wins := keep, busy := done, entering := Sparse.erase s.hbc.entering st }
        let u := (({ s with hbc := h }).wr Fld.HBC_CTRL_SR_ACTIVE 1 st).hbQuiet st
        .next (if cut then (u.bump .HBC_SR_CUT st).raise Ev.HBC_SR_CUT .device st else u)

/-- SELF_REFRESH_EXIT (R565, R571): a stack leaves self-refresh, the listed repairs are made permanent, and it is trained.  A
pseudo-channel stays retired over a block reset (R567). -/
def execSelfRefreshExit (st : Nat) (s : State) : Host.Outcome State Fault Refusal :=
  let inPhase := decide (s.rst.phaseNext = 5) && s.rst.retained
  let block := (Sparse.find s.rst.blocks (15 * 8 + st)).isSome
  if !s.on Fld.HBC_CTRL_SR_ACTIVE st || !(inPhase || block) then .next s
  else
    let h := { s.hbc with repaired := s.hbc.repaired.filter (fun (e : Nat × Bool) => e.1 / 4194304 / 32 != st) }
    let t := ((({ s with hbc := h }).wr Fld.HBC_CTRL_SR_ACTIVE 0 st).wr Fld.HBC_REPAIR_STATUS_LISTED 0 st).wr Fld.HBC_CTRL_INIT_DONE 1 st
    .next (if block then ((t.trained st).wr Fld.HBC_PC_RETIRED_MASK (t.rd Fld.HBC_PC_RETIRED_MASK st) st).blockDone (15 * 8 + st) else t.trained st)

/-- A write of HBC_CTRL: EN is not cleared while a curd slice, BPM, session stage or capture ring is enabled (R572). -/
def State.hbcCtrlWrite (s : State) (who : Agent) (st : Nat) (v : Word) : State :=
  let used := (List.range 4).any (fun k => s.on Fld.FLW_SLICE_CTRL_EN k || s.on Fld.BPM_CTRL_EN k || s.on Fld.UPS_CTRL_EN k)
    || (List.range 16).any (fun r => s.on Fld.EDT_CAP_RING_CTRL_EN 0 r)
  let off := s.on Fld.HBC_CTRL_EN st && !Fld.HBC_CTRL_EN.onIn v
  s.busWrite who Reg.HBC_CTRL st 0 0 v (off && used) id

end Sys2Proof.Machine
end

