-- ==== Sys2Proof/Machine/Queues.lean ====
section
/-! DEFINITION. The commands of the queues, the crossbar, the resequencer and the replicator (spec 14). -/
namespace Sys2Proof.Machine

open Sys2Proof.Config

/-! ### The cell writer (R410 to R414, R419) -/

/-- Cells a packet with its 16-byte internal header occupies (R411). -/
def cellsOf (len : Nat) : Nat := (len + 16 + 255) / 256

/-- Steps 1 to 3 of R410 by the queue map of a pipeline: the queue of a packet at a port, and whether its tag mismatched. -/
def State.chooseQueue (s : State) (pipe slice j cls tag : Nat) : Nat × Bool :=
  let base := 16 * j + cls
  let to_ := fun (q : Nat) => (s.qmap pipe slice q).redirect.getD q
  let m := s.qmap pipe slice tag
  if s.on Fld.QUE_PORT_CFG_TAG_EN slice j && tag != 0 then
    if tag < s.queueCount && (m.en || m.redirect.isSome) && m.port == j then (to_ tag, false) else (to_ base, true)
  else (to_ base, false)

/-- The header of cell `i` of a packet (Table 14.2); the first cell goes to plane SEQ[0] and cells alternate (R413). -/
def cellHeader (mc : Bool) (src slice q seq i n : Nat) (endErr : Bool) (cls : Nat) : BitVec 64 :=
  setFields 0 [(CellHdr.KIND, 0), (CellHdr.MCAST, mc.toNat), (CellHdr.SRC_PIPE, src), (CellHdr.DST_SLICE, slice),
    (CellHdr.QUEUE, q), (CellHdr.SEQ, seq), (CellHdr.CELL_IDX, i), (CellHdr.LAST, (i + 1 == n).toNat),
    (CellHdr.END_ERR, (i + 1 == n && endErr).toNat), (CellHdr.CLASS, cls), (CellHdr.PLANE, (seq + i) % 2),
    (CellHdr.CELLS, n)]

/-- A cell's header as the word in which an injected error lies. -/
def cellWord (c : XCell) : Nat := c.hdr.toNat

/-- Credits in use from a pipeline to a slice (R414). -/
def State.creditsUsed (s : State) (src slice : Nat) : Nat := Sparse.get s.tm.credits (src * 4 + slice) 0

/-- Send a packet's cells on a stream: the next sequence number, one credit, and every cell to its plane. -/
def State.sendCells (s : State) (n : Nat) (mc : Bool) (slice q : Nat) : State :=
  let p := s.pkt n
  let src := p.pipe
  let stream := if mc then mcStream src slice else uniStream src slice q
  let seq := Sparse.get s.tm.txSeq stream 0
  let k := cellsOf p.frame.length
  let cells := (List.range k).map (fun i =>
    XCell.mk (cellHeader mc src slice q seq i k (p.status == some true) p.cls) n ((seq + i) % 2))
  let t := cells.foldl (fun (x : State) c => x.injectFire 8 c.plane (cellWord c)) s
  { t with tm := { s.tm with xbar := s.tm.xbar ++ cells,
                             txSeq := Sparse.put s.tm.txSeq stream ((seq + 1) % 65536) 0,
                             credits := Sparse.put s.tm.credits (src * 4 + slice) (s.creditsUsed src slice + 1) 0 } }

/-- The slices of a group's mask in a pipeline (R419). -/
def State.maskSlices (s : State) (pipe g : Nat) : List Nat :=
  (List.range 4).filter (fun k => Sparse.get s.tm.masks (pipe * 65536 + g) 0 / 2 ^ k % 2 == 1)

/-- A packet that came on a bundle port would leave by another one (R637). -/
def State.hopBack (s : State) (from_ to_ : Nat) : Bool := (s.bundleOf from_).isSome && (s.bundleOf to_).isSome
/-- It is discarded and counted for the bundle it came on. -/
def State.hopDrop (s : State) (n from_ : Nat) : State := (s.discard n).bump .FLT_HOP_DROP ((s.bundleOf from_).getD 0)

/-- A packet takes its queue or group, a sequence number and a credit for each slice, and its cells go to the planes.  Nothing is counted
for an errored one (R89). -/
def State.writeCells (s : State) (n : Nat) : State :=
  let p := s.pkt n
  let s0 := s.setPkt n { p with stage := .tm, prio := s.pfcPrio p.port p.cls }
  let count := fun (t : State) (c : Ctr) (i : Nat) => if p.status = some true then t else t.bump c i
  match p.dest with
  | .port e =>
    if 102 ≤ e then s.discard n
    else if s.hopBack p.port e then (if p.status = some true then s.discard n else s.hopDrop n p.port)
    else
      let slice := if e < 96 then e / 24 else p.pipe
      let j := idxOfPort e
      let (q, bad) := s.chooseQueue p.pipe slice j p.cls p.tag
      let note := fun (t : State) =>
        if bad && p.status != some true then (t.bump .QUE_TAG_MISMATCH e).raiseMs Ev.QUE_TAG_MISMATCH .port e else t
      if !(s.qmap p.pipe slice q).en then count (note (s.discard n)) .QUE_DISABLED_DROP (e * 16 + p.cls)
      else if 4096 ≤ s.creditsUsed p.pipe slice then s
      else note (s0.sendCells n false slice q)
  | .group g =>
    let sl := s.maskSlices p.pipe g
    if sl.isEmpty then count (s.discard n) .QUE_MC_EMPTY p.pipe
    else if sl.any (fun k => decide (4096 ≤ s.creditsUsed p.pipe k)) then s
    else sl.foldl (fun t k => t.sendCells n true k g) s0
  | _ => s.discard n

/-- CELL_WRITE (R24, R89, R410 to R414, R419): a packet whose last data has come is written to the planes, in order.  One that its errored
end status reached before is discarded and counted no more.  One that it reaches here, with the last cell, has its number already: that
cell carries END_ERR. -/
def execCellWrite (n : Nat) (s : State) : Host.Outcome State Fault Refusal :=
  let p := s.pkt n
  if (Sparse.find s.pkts n).isNone || p.stage != .cells || (p.status.isNone && (p.ended.isNone || p.copyOf.isSome)) || s.behindTo n then .next s
  else if p.status = some true then .next (s.discard n)
  else .next ((if p.status.isNone then s.settleEnd n else s).writeCells n)

/-- CREDIT_WAIT (R414): each clock in which a pipeline with no credit for a slice waits is counted. -/
def execCreditWait (pipe slice : Nat) (s : State) : Host.Outcome State Fault Refusal :=
  .next (if 4096 ≤ s.creditsUsed pipe slice then s.bump .QUE_CREDIT_WAIT (pipe * 4 + slice) else s)

/-! ### Arrival (R415 to R418) -/

/-- The complete item an assembled packet is. -/
def Asm.toItem (a : Asm) (kind : ItemKind) (src now : Nat) : HeldItem :=
  { slice := a.slice, stream := a.stream, src := src, seq := a.seq, kind := kind, pkt := a.pkt, queue := a.queue,
    mcast := a.mcast, cells := a.cells, chain := a.chain, since := now, cls := a.cls }

/-- Replace an assembly; one whose every cell has arrived is dropped from the list when it stands for a tombstone. -/
def State.putAsm (s : State) (a : Asm) : State :=
  let rest := s.tm.asms.filter (fun x => !(x.stream == a.stream && x.seq == a.seq))
  { s with tm := { s.tm with asms := if a.dropped && decide (a.cells ≤ a.arrived.length) then rest else rest ++ [a] } }

/-- Remove an assembly. -/
def State.delAsm (s : State) (a : Asm) : State :=
  { s with tm := { s.tm with asms := s.tm.asms.filter (fun x => !(x.stream == a.stream && x.seq == a.seq)) } }

/-- Why the first cell of a unicast packet is refused at its queue (R424, R430, R386): the counter and its item. -/
def State.refusal (s : State) (slice q cls : Nat) : Option (Ctr × Nat) :=
  let j := s.qPort slice q
  let port := portOfIdx slice j
  if s.qPortState slice j ≠ 0 then some (.QUE_DOWN_DROP, port * 16 + cls)
  else if !s.qEn slice q || !s.on Fld.QUE_CTRL_EN slice then some (.QUE_DISABLED_DROP, port * 16 + cls)
  else if s.rd Fld.BPM_DROP_LIMIT_DROP_LIMIT slice (s.qProf slice q) ≤ (s.queue slice q).occupancy then
    some (.BPM_LIMIT_DROP, slice * 32 + s.qProf slice q)
  else none

/-- Place an arrived cell in a buffer: the room left in the packet's last buffer, or a new one (R380, R381). -/
def State.placeCell (s : State) (a : Asm) (pick : Nat) : State × Option (List (Nat × Nat)) :=
  let fresh := match s.alloc a.slice reqPacket pick with
    | (t, some b) => (t, some (a.chain ++ [(b, 1)]))
    | (t, none) => (t, none)
  match a.chain.getLast? with
  | some (b, k) => if k < s.bufCells a.slice b then (s, some (a.chain.dropLast ++ [(b, k + 1)])) else fresh
  | none => fresh

/-- A cell of a packet arrives whose first cell has been admitted. -/
def State.takeCell (s : State) (a : Asm) (hdr : BitVec 64) (pick : Nat) : State :=
  let idx := CellHdr.CELL_IDX.get hdr
  let src := CellHdr.SRC_PIPE.get hdr
  let a1 := { a with arrived := idx :: a.arrived }
  if a.dropped then s.putAsm a1
  else if CellHdr.LAST.on hdr && CellHdr.END_ERR.on hdr then
    let s1 := ((s.freeChain a.slice reqPacket a.chain).forget a.pkt).putAsm
      { a1 with dropped := true, chain := [] }
    s1.sequence ({ a1 with chain := [] }.toItem .tombstone src s1.now) pick
  else
    match s.placeCell a pick with
    | (s1, none) => s1.dropAsm a1
    | (s1, some chain) =>
      let p := s1.pkt a.pkt
      let k := p.port * 8 + p.prio
      let s2 := if p.port < 96 then
          { s1.setPkt a.pkt { p with ingCells := p.ingCells + 1 } with
            tm := { s1.tm with ingress := addTo s1.tm.ingress k 1 } }
        else s1
      let a2 := { a1 with chain := chain }
      if a.cells ≤ a2.arrived.length && !a.broken then (s2.delAsm a2).sequence (a2.toItem .packet src s2.now) pick
      else s2.putAsm a2

/-- The oldest cell from a pipeline to a slice on a plane. -/
def State.oldestCell (s : State) (plane src dst : Nat) : Option XCell :=
  s.tm.xbar.find? (fun c => c.plane == plane && CellHdr.SRC_PIPE.get c.hdr == src && CellHdr.DST_SLICE.get c.hdr == dst)
/-- The ECC of the oldest cell passes: an error planted in its header decides, or what the command names (R418, R780). -/
def State.cellOk (s : State) (plane src dst : Nat) (ok : Bool) : State × Bool :=
  match s.oldestCell plane src dst with
  | some c =>
    let (t, f) := s.readWord 8 plane (cellWord c) (if ok then 0 else 2)
    (t, f != 2)
  | none => (s, ok)

/-- CELL_ARRIVE (R415, R418): the oldest cell from a pipeline on a plane reaches a slice.  A cell that fails ECC is
discarded, and its packet never completes; a stream whose NEXT fails ECC is resynchronised. -/
def execCellArrive (plane src dst : Nat) (ok nextOk : Bool) (pick : Nat) (s : State) :
    Host.Outcome State Fault Refusal :=
  if s.perturbs 1 plane then .next s
  else
  let (s, ok) := s.cellOk plane src dst ok
  match s.oldestCell plane src dst with
  | none => .next s
  | some c =>
    let s0 := { s with tm := { s.tm with xbar := s.tm.xbar.erase c } }
    let mc := CellHdr.MCAST.on c.hdr
    let q := CellHdr.QUEUE.get c.hdr
    let seq := CellHdr.SEQ.get c.hdr
    let stream := if mc then mcStream src dst else uniStream src dst q
    let s1 := if nextOk then s0 else
      (({ s0 with tm := { s0.tm with resync := Sparse.insert s0.tm.resync stream true } }).bump .QUE_RESYNC dst).raise
        Ev.QUE_STATE_ECC .pipeline dst
    let asm := s1.tm.asms.find? (fun a => a.stream == stream && a.seq == seq)
    if !ok then
      let s2 := s1.raise Ev.QUE_XBAR_CELL_ERR .pipeline dst
      match asm with
      | some a => .next (s2.putAsm { a with broken := true })
      | none => .next s2
    else
      let kind := CellHdr.KIND.get c.hdr
      let blank : Asm := { slice := dst, stream := stream, seq := seq, pkt := c.pkt, queue := q, mcast := mc,
                           cells := CellHdr.CELLS.get c.hdr, arrived := [], chain := [], firstAt := s1.now,
                           dropped := false, broken := false, endErr := false, cls := CellHdr.CLASS.get c.hdr }
      if kind = 1 then .next (s1.sequence (blank.toItem .tombstone src s1.now) pick)
      else if kind = 2 then .next (s1.sequence (blank.toItem .close src s1.now) pick)
      else
        match asm with
        | some a => .next (s1.takeCell a c.hdr pick)
        | none =>
          let d := (seq + 65536 - Sparse.get s1.tm.rxNext stream 0) % 65536
          if 4096 ≤ d && !Sparse.get s1.tm.resync stream false then
            if !CellHdr.LAST.on c.hdr then .next s1
            else
              let was := s1.tm.skipped.contains (stream, seq)
              let s2 := { s1 with tm := { s1.tm with skipped := s1.tm.skipped.erase (stream, seq) } }
              let s3 := if was then s2 else s2.creditBack src dst
              .next ((s3.bump .QUE_LATE_DROP dst).raiseMs Ev.QUE_LATE_DROP .pipeline dst)
          else if mc then .next (s1.takeCell blank c.hdr pick)
          else
            match s1.refusal dst q blank.cls with
            | some (ctr, k) =>
              .next ((s1.dropAsm { blank with arrived := [CellHdr.CELL_IDX.get c.hdr] }).bump ctr k)
            | none => .next (s1.takeCell blank c.hdr pick)

/-- TOMBSTONE_POST (R416): the oldest tombstone a slice owes is posted to its resequencer. -/
def execTombstonePost (slice pick : Nat) (s : State) : Host.Outcome State Fault Refusal :=
  match s.tm.tombs.find? (fun t => t.slice == slice) with
  | some t =>
    let s1 := { s with tm := { s.tm with tombs := s.tm.tombs.erase t } }
    .next (s1.sequence
      { slice := slice, stream := t.stream, src := t.src, seq := t.seq, kind := .tombstone, pkt := 0, queue := t.queue,
        mcast := t.mcast, cells := 0, chain := [], since := s.now, cls := 0 } pick)
  | none => .next s

/-- BACKSTOP_EXPIRY (R417): a missing number is skipped once an item held behind it, or NEXT's incomplete packet, is
BACKSTOP_US old. -/
def execBackstopExpiry (slice stream pick : Nat) (s : State) : Host.Outcome State Fault Refusal :=
  let lim := s.rd Fld.QUE_CFG_BACKSTOP_US slice * usClk
  let next := Sparse.get s.tm.rxNext stream 0
  let waited := s.tm.held.any (fun h => h.slice == slice && h.stream == stream && decide (h.since + lim ≤ s.now))
  let stuck := s.tm.asms.any (fun a => a.slice == slice && a.stream == stream && a.seq == next
    && decide (a.firstAt + lim ≤ s.now))
  .next (if waited || stuck then s.skipNext slice stream pick else s)

/-- INCOMPLETE_PACKET_EXPIRY (R417): an incomplete packet that is not NEXT is discarded once BACKSTOP_US old. -/
def execIncompletePacketExpiry (slice stream seq : Nat) (s : State) : Host.Outcome State Fault Refusal :=
  let lim := s.rd Fld.QUE_CFG_BACKSTOP_US slice * usClk
  match s.tm.asms.find? (fun a => a.slice == slice && a.stream == stream && a.seq == seq) with
  | some a =>
    if seq ≠ Sparse.get s.tm.rxNext stream 0 ∧ a.firstAt + lim ≤ s.now then
      let src := if a.mcast then stream % 4 else stream / 65536 % 4
      let s1 := (((s.freeChain slice reqPacket a.chain).forget a.pkt).delAsm a).creditBack src slice
      .next { s1 with tm := { s1.tm with skipped := s1.tm.skipped ++ [(stream, seq)] } }
    else .next s
  | none => .next s

/-! ### Replication (R419 to R422) -/

/-- A frame has an outer tag (TPID 0x8100 or 0x88A8). -/
def hasOuterTag (f : List Byte) : Bool :=
  let t := natOfBytes [f.getD 13 0, f.getD 12 0]
  t == 0x8100 || t == 0x88A8

/-- Place one copy of a multicast packet (R420, R421). -/
def State.placeCopy (s : State) (h : HeldItem) (e : BitVec 64) (pick : Nat) : State :=
  let j := CopyEntry.PORT_IDX.get e
  let port := portOfIdx h.slice j
  let named := if CopyEntry.QUEUE_EN.on e then CopyEntry.QUEUE.get e else 16 * j + h.cls
  let q := (s.queue h.slice named).redirect.getD named
  let from_ := (s.pkt h.pkt).port
  if s.hopBack from_ port then
    (s.freeChain h.slice reqReplicator h.chain).bump .FLT_HOP_DROP ((s.bundleOf from_).getD 0)
  else
  match s.refusal h.slice q h.cls with
  | some (ctr, k) =>
    (((s.freeChain h.slice reqReplicator h.chain).bump ctr k).bump .QUE_MC_PARTIAL port).raiseMs
      Ev.QUE_MC_PARTIAL .port port
  | none =>
    let vid := CopyEntry.VID.get e
    let tagged := hasOuterTag (s.pkt h.pkt).frame
    let s1 := if vid ≠ 0 ∧ ¬ tagged then s.bump .QUE_MC_VID_UNTAGGED port else s
    s1.enqueue h.slice q pick
      { pkt := h.pkt, slice := h.slice, queue := q, cells := h.cells, chain := h.chain, mcast := true,
        vid := if tagged then vid else 0, cls := h.cls, joinedAt := s1.now }

/-- REPLICATE (R420): the first packet of a slice's replicator input takes one hold for each entry of its group's list, and
every copy is placed before the next packet's. -/
def execReplicate (slice pick : Nat) (s : State) : Host.Outcome State Fault Refusal :=
  match Sparse.get s.tm.repl slice [] with
  | [] => .next s
  | h :: rest =>
    let s0 := { s with tm := { s.tm with repl := Sparse.put s.tm.repl slice rest [] } }
    let l := Sparse.get s0.tm.lists (slice * 65536 + h.queue) []
    if l.isEmpty then
      .next (((s0.freeChain slice reqPacket h.chain).forget h.pkt).bump .QUE_MC_EMPTY slice)
    else
      let mask := l.foldl (fun m e =>
        let j := CopyEntry.PORT_IDX.get e
        Nat.lor m (if j = 24 then 2 ^ reqHostDma else if j = 25 then 2 ^ reqKeeper else 0)) 0
      let s1 := s0.share slice reqReplicator l.length mask (h.chain.map Prod.fst)
      let s2 := l.foldl (fun t e => t.placeCopy h e pick) s1
      let gone := h.chain.all (fun b => BufState.STATE.get (s2.buf slice b.1) == 0)
      .next (if gone then s2.forget h.pkt else s2)

/-- An entry breaks Table 14.3. -/
def State.badCopy (s : State) (slice : Nat) (e : BitVec 64) (last : Bool) : Bool :=
  let j := CopyEntry.PORT_IDX.get e
  decide (25 < j) || CopyEntry.VID.get e == 4095 || decide (2 ^ 35 ≤ e.toNat) || CopyEntry.LAST.on e != last
    || (CopyEntry.QUEUE_EN.on e && (s.qPort slice (CopyEntry.QUEUE.get e) != j || decide (s.queueCount ≤ CopyEntry.QUEUE.get e)))

/-- Some entry of a list breaks Table 14.3. -/
def State.badList (s : State) (slice : Nat) : List (BitVec 64) → Bool
  | [] => false
  | [e] => s.badCopy slice e true
  | e :: r => s.badCopy slice e false || s.badList slice r

/-- Copy entries in use in a slice. -/
def State.copiesUsed (s : State) (slice : Nat) : Nat :=
  (s.tm.lists.filter (fun e => e.1 / 65536 == slice)).foldl (fun a e => a + e.2.length) 0

/-- One pipeline's step of MC_GROUP_WRITE (R422): before the first mask the lists of the slices the group keeps or gains become live, with
one pointer write each; after the last, those of the slices it loses are emptied. -/
def State.groupStep (s : State) (pipe group : Nat) (ls : List (List (BitVec 64))) : State :=
  let put := fun (m : Sparse (List (BitVec 64))) (k : Nat) => Sparse.put m (k * 65536 + group) (ls.getD k []) []
  let kept := (List.range 4).filter (fun k => !(ls.getD k []).isEmpty)
  let lost := (List.range 4).filter (fun k => (ls.getD k []).isEmpty)
  let l0 := if pipe = 0 then kept.foldl put s.tm.lists else s.tm.lists
  let l1 := if pipe = 3 then lost.foldl put l0 else l0
  let mask := kept.foldl (fun m k => m + 2 ^ k) 0
  { s with tm := { s.tm with lists := l1, masks := Sparse.put s.tm.masks (pipe * 65536 + group) mask 0 } }

/-- MC_GROUP_WRITE (R38, R419, R422): new lists are built in free entries and made live, and the masks are written to P0 to P3 in order. -/
def execMcGroupWrite (tag group : Nat) (l0 l1 l2 l3 : List (BitVec 64)) (s : State) :
    Host.Outcome State Fault Refusal :=
  let ls := [l0, l1, l2, l3]
  let check : Option MbxStatus :=
    if 4096 < l0.length + l1.length + l2.length + l3.length || (List.range 4).any (fun k => s.badList k (ls.getD k [])) then some .badRule
    else if (List.range 4).any (fun k => decide (262144 < s.copiesUsed k + (ls.getD k []).length)) then some .full
    else none
  .next (s.replicate tag opMcGroupWrite (.mcGroupWrite tag group l0 l1 l2 l3) allPipes actHost check
    (fun t p => ⟨t.groupStep p group ls, 0, none, none, false, []⟩))

/-! ### Queue configuration, disable and moves (R408, R409, R427 to R430) -/

/-- A move of the queue is in progress. -/
def State.moving (s : State) (slice q : Nat) : Bool :=
  s.tm.moves.any (fun m => m.slice == slice && (m.a == q || m.b == q))

/-- QUE_QCFG_WRITE (R407 to R409, R430): the configuration word of the queue in QUE_QSEL. -/
def execQueQcfgWrite (who : Agent) (slice : Nat) (v : Word) (s : State) : Host.Outcome State Fault Refusal :=
  let q := s.rd Fld.QUE_QSEL_QUEUE slice
  let old := s.qword slice q
  let place := Fld.QUE_QCFG_PORT_IDX.of v != Fld.QUE_QCFG_PORT_IDX.of old
    || Fld.QUE_QCFG_CLASS.of v != Fld.QUE_QCFG_CLASS.of old
  let en := Fld.QUE_QCFG_EN.onIn v
  let bad := (place && (decide (q < 416) || s.qEn slice q)) || (!en && s.qEn slice q && s.moving slice q)
  .next (s.busCheck who Reg.QUE_QCFG slice 0 0 v bad (fun t =>
    let u := t.queue slice q
    let t1 := t.setQword slice q v
    let t2 := if en then t1.setQueue slice q { u with redirect := none, draining := none }
      else if t.qEn slice q then t1.setQueue slice q { u with draining := some (t.now + t.rd Fld.QUE_CFG_DRAIN_MS slice * msClk) }
      else t1
    t2.sendMap slice q))

/-- QUEUE_DRAIN_EXPIRY (R430): what a disabled queue still holds after DRAIN_MS is released. -/
def execQueueDrainExpiry (slice q : Nat) (s : State) : Host.Outcome State Fault Refusal :=
  match (s.queue slice q).draining with
  | some d =>
    if d ≤ s.now then
      let t := s.flushQueue slice q .QUE_DISABLED_DROP
      .next (t.setQueue slice q { t.queue slice q with draining := none })
    else .next s
  | none => .next s

/-- Some front port of a pipeline has PRT_MODE.EN = 1. -/
def State.portsEnabled (s : State) (pipe : Nat) : Bool :=
  (List.range 24).any (fun j => s.onP Fld.PRT_MODE_EN (24 * pipe + j))

/-- QUE_DISABLE (R430): a write of QUE_CTRL with EN = 0; admission stops and every queue drains within DRAIN_MS. -/
def execQueDisable (who : Agent) (slice : Nat) (v : Word) (s : State) : Host.Outcome State Fault Refusal :=
  let was := s.on Fld.QUE_CTRL_EN slice
  let off := !Fld.QUE_CTRL_EN.onIn v
  .next (s.busWrite who Reg.QUE_CTRL slice 0 0 v (off && was && s.portsEnabled slice) (fun t =>
    if off && was then
      t.startDrain 24 slice (t.rd Fld.QUE_CFG_DRAIN_MS slice * msClk)
    else if off then t else (t.stopDrain 24 slice).wr Fld.QUE_CTRL_QUIET 0 slice))

/-- HOLD_DEADLINE_EXPIRY (R425): a port still not UP at its hold deadline is flushed. -/
def execHoldDeadlineExpiry (port : Nat) (s : State) : Host.Outcome State Fault Refusal :=
  match Sparse.find s.tm.holdUntil port with
  | some d =>
    if d ≤ s.now ∧ s.rd Fld.QUE_PORT_STATUS_STATE (port / 24) (port % 24) = 1 ∧ s.portUp port = false then
      .next ({ s with tm := { s.tm with holdUntil := Sparse.erase s.tm.holdUntil port } }.flushPort port)
    else .next s
  | none => .next s

/-- PORT_FLUSH_COMPLETE (R425): CLOSED, or OPEN when the port has entered UP meanwhile. -/
def execPortFlushComplete (port : Nat) (s : State) : Host.Outcome State Fault Refusal :=
  if s.rd Fld.QUE_PORT_STATUS_STATE (port / 24) (port % 24) = 2 then
    .next (s.wr Fld.QUE_PORT_STATUS_STATE (if s.portUp port then 0 else 3) (port / 24) (port % 24))
  else .next s

/-- The CLOSE of a pipeline on its stream to a queue: the stream's next number, one credit, a copy on each plane. -/
def State.sendClose (s : State) (src slice q : Nat) : State :=
  let stream := uniStream src slice q
  let seq := Sparse.get s.tm.txSeq stream 0
  let hdr := fun (pl : Nat) => setFields (0 : BitVec 64) [(CellHdr.KIND, 2), (CellHdr.SRC_PIPE, src),
    (CellHdr.DST_SLICE, slice), (CellHdr.QUEUE, q), (CellHdr.SEQ, seq), (CellHdr.LAST, 1), (CellHdr.PLANE, pl)]
  let cell := fun (pl : Nat) => XCell.mk (hdr pl) 0 pl
  let t := (s.injectFire 8 0 (cellWord (cell 0))).injectFire 8 1 (cellWord (cell 1))
  { t with tm := { s.tm with xbar := s.tm.xbar ++ [cell 0, cell 1],
                             txSeq := Sparse.put s.tm.txSeq stream ((seq + 1) % 65536) 0,
                             credits := Sparse.put s.tm.credits (src * 4 + slice) (s.creditsUsed src slice + 1) 0 } }

/-- Step 2 of a move in its next pipeline (R427): A's redirect is written there, and the pipeline sends a CLOSE, once it has a credit for
the slice.  The write to P0 commits the move and starts its drain limit (R428, R429). -/
def State.moveWrite (s : State) (m : Move) : State :=
  match m.left with
  | p :: rest =>
    if 4096 ≤ s.creditsUsed p m.slice then s
    else
      let q := s.queue m.slice m.a
      let s1 := if p = 0 then (s.setQueue m.slice m.a { q with redirect := some m.b }).setDone m.tag 1 else s
      let s2 := (s1.setQmap p m.slice m.a { s1.qmap p m.slice m.a with redirect := some m.b }).sendClose p m.slice m.a
      let due := if p = 0 then s.now + s.rd Fld.QUE_CFG_DRAIN_MS m.slice * msClk else m.deadline
      { s2 with tm := { s2.tm with moves := s2.tm.moves.map (fun x => if x = m then { m with left := rest, deadline := due } else x) } }
  | [] => s

/-- QUEUE_MOVE (R427): step 1, then step 2 in one pipeline at each execution; the reply follows step 4. -/
def execQueueMove (tag slice a b : Nat) (s : State) : Host.Outcome State Fault Refusal :=
  if s.mbxRuns tag opQueueMove then
    let ub := s.queue slice b
    match s.tm.moves.find? (fun m => m.tag == tag) with
    | some m => .next (s.moveWrite m)
    | none =>
      if s.moving slice a || s.moving slice b then .next (s.reply tag .busy 0 0 0 true)
      else if !s.qEn slice a || !s.qEn slice b || s.qPort slice a != s.qPort slice b || ub.occupancy != 0
          || !ub.items.isEmpty || ub.redirect.isSome then .next (s.reply tag .badRule 0 0 0 true)
      else
        let t := s.setQueue slice b { ub with wait := true }
        let m : Move := { slice := slice, a := a, b := b, left := allPipes, closed := [], deadline := 0, tag := tag }
        .next { t with tm := { t.tm with moves := t.tm.moves ++ [m] } }
  else .next s

/-- Step 4 of R427: A's EN and B's WAIT are cleared, B enters selection, and the reply reports COMPLETED (R429). -/
def State.finishMove (s : State) (m : Move) : State :=
  let s1 := s.setQword m.slice m.a (setBitsOf (s.qword m.slice m.a) 0 1 0)
  let s2 := s1.setQueue m.slice m.b { s1.queue m.slice m.b with wait := false }
  let s3 := (if s2.qBacklogged m.slice m.b then s2.newBacklog m.slice m.b (s.backlog m.slice) else s2).sendMap m.slice m.a
  ({ s3 with tm := { s3.tm with moves := s3.tm.moves.erase m } }).reply m.tag .completed 1 0 0 true

/-- QUEUE_MOVE_DONE (R427): every CLOSE has been promoted and A holds no packet, chunk or fetch. -/
def execQueueMoveDone (slice a : Nat) (s : State) : Host.Outcome State Fault Refusal :=
  match s.tm.moves.find? (fun m => m.slice == slice && m.a == a) with
  | some m =>
    let u := s.queue slice a
    if m.left = [] ∧ m.closed.length = 4 ∧ u.items = [] ∧ u.chunks = [] ∧ u.fetch = none then .next (s.finishMove m) else .next s
  | none => .next s

/-- MOVE_DRAIN_EXPIRY (R428): at DRAIN_MS the rest of A is flushed, streams whose CLOSE is missing are resynchronised, and
the move ends. -/
def execMoveDrainExpiry (slice a : Nat) (s : State) : Host.Outcome State Fault Refusal :=
  match s.tm.moves.find? (fun m => m.slice == slice && m.a == a) with
  | some m =>
    if m.left.head? ≠ some 0 ∧ m.deadline ≤ s.now then
      let left := !(s.queue slice a).items.isEmpty
      let s1 := s.flushQueue slice a .QUE_MOVE_FLUSH
      let s2 := if left then s1.raise Ev.QUE_MOVE_FLUSH .port (portOfIdx slice (s.qPort slice a)) else s1
      let missing := allPipes.filter (fun p => !m.closed.contains p)
      let rs := missing.foldl (fun r p => Sparse.insert r (uniStream p slice a) true) s2.tm.resync
      let s3 := { s2 with tm := { s2.tm with resync := rs } }
      .next (s3.finishMove m)
    else .next s
  | none => .next s

end Sys2Proof.Machine
end

