-- ==== Sys2Proof/Machine/Mac.lean ====
section
/-! DEFINITION. The commands of the MACs and of the ingress arbiter (spec 02, R47 to R51; spec 03). -/
namespace Sys2Proof.Machine

open Sys2Proof.Config

/-! ### Reception -/

/-- FRAME_START (R47 to R49, R57, R83, R110): a frame's first bytes arrive; it is admitted to the ingress FIFO, diverted,
dropped or ignored. -/
def execFrameStart (port : Nat) (start : StartSeq) (head : List Byte) (tag : Option SecTag) (s : State) :
    Host.Outcome State Fault Refusal :=
  let st := s.rdP Fld.PRT_LINK_STATUS_STATE port
  let pre := start == .smd
  let p := s.port port
  if st = 2 then .next (s.bump .RX_DISCARD_NOT_UP port)
  else if st ≠ 3 then .next s
  else if start == .bad || (pre && !s.onP Fld.GTE_PORT_CFG_PREEMPT_EN port) then .next (s.bump .RX_BAD_START port)
  else if (if pre then p.rxp.isSome else p.rx.isSome) then .next s
  else
    let tag := if s.onP Fld.MSC_PORT_CFG_EN port then tag else none
    let sec := s.secFind port tag
    let put := fun (t : State) (f : RxFrame) =>
      if pre then t.setPort port { t.port port with rxp := some f } else t.setPort port { t.port port with rx := some f }
    if (tag.isNone && isMacCtl head) || isEbb head then .next (put s ⟨.control, 0, head, false, tag, sec, false⟩)
    else
      let l := s.fifo (port / 24) (port % 24)
      let level := s.levelFor port head
      if s.levelLimit port level < fifoFill l then
        let c : Ctr := if level = 0 then .ARB_DROP_HIGH else if level = 1 then .ARB_DROP_MID else .ARB_DROP_LOW
        .next (put ((s.bump c port).raiseMs Ev.ARB_DROP .port port) ⟨.lost, level, head, false, tag, sec, false⟩)
      else
        let n := s.nextPkt
        let k := { Packet.init with port := port, pipe := port / 24, frame := if pre then head else [],
                                    ts := (s.tod : Int) - adjUnits (s.rdP Fld.PRT_TS_CFG_RX_ADJ port),
                                    uncontrolled := s.onP Fld.MSC_PORT_CFG_EN port && tag.isNone && isEapol head }
        let s1 := { s.setPkt n k with nextPkt := n + 1 }
        let f : RxFrame := ⟨.packet n, level, [], false, tag, sec, false⟩
        if pre then .next (put s1 { f with bytes := head })
        else
          let (s2, g) := (s1.setFifo (port / 24) (port % 24) (l ++ [⟨n, level, 0, 0, false⟩])).fifoArrive port f head
          .next (put s2 g)

/-- ARB_TRUNCATE (R50): more bytes of a frame in reception arrive than its FIFO has room for. -/
def execArbTruncate (port : Nat) (more : List Byte) (s : State) : Host.Outcome State Fault Refusal :=
  match (s.port port).rx with
  | some f =>
    if s.fifoSize port - fifoFill (s.fifo (port / 24) (port % 24)) < more.length then
      let (s1, g) := s.fifoArrive port f more
      .next (s1.setPort port { s1.port port with rx := some g })
    else .next s
  | none => .next s

/-- Count what a port's FEC reports; an uncorrectable codeword raises EVT 2.4, once per 1 ms interval (R81, Table 2.8). -/
def State.countFec (s : State) (port : Nat) (x : FecCount) : State :=
  let count := fun (t : State) (c : Ctr) (n : Nat) => if n = 0 then t else t.bump c port n
  let t := count (count (count s .FEC_CW_CORRECTED x.corrected) .FEC_CW_UNCORRECTED x.uncorrected) .FEC_SYMBOL_ERRS x.symbols
  if x.uncorrected = 0 then t else t.raiseMs Ev.FEC_UNCORRECTED .port port

/-- FRAME_END (R45, R84 to R90, R98, R114, R117, R127): the rest of a frame arrives with the findings on its FCS, its ICV, its reassembly
and its codewords; it gets one outcome of Table 3.1.  An uncorrectable codeword among its blocks makes its FCS bad.  The end of a
preemptable frame whose start is missing fails reassembly. -/
def execFrameEnd (port : Nat) (pre : Bool) (rest : List Byte) (fcsGood icvOk : Bool) (finds : FrameFinds) (s0 : State) :
    Host.Outcome State Fault Refusal :=
  let fcsOk := fcsGood && finds.fec.uncorrected == 0
  let s := s0.countFec port finds.fec
  let p := s.port port
  if pre then
    match p.rxp with
    | some f =>
      let s1 := s.setPort port { p with rxp := none }
      match f.what with
      | .packet n =>
        let whole := f.bytes ++ rest
        let l := s1.fifo (port / 24) (port % 24)
        let s2 := (s1.setPkt n { s1.pkt n with frame := [] }).setFifo (port / 24) (port % 24) (l ++ [⟨n, f.level, 0, 0, false⟩])
        let (s3, g) := s2.fifoArrive port { f with bytes := [] } whole
        .next (s3.frameOutcome port g fcsOk icvOk finds.assyBad)
      | _ => .next (s1.frameOutcome port { f with bytes := f.bytes ++ rest } fcsOk icvOk finds.assyBad)
    | none => .next (if s.rdP Fld.PRT_LINK_STATUS_STATE port = 3 ∧ s.onP Fld.GTE_PORT_CFG_PREEMPT_EN port = true then s.assyErr port else s)
  else
    match p.rx with
    | some f =>
      let (s1, g) := (s.setPort port { p with rx := none }).fifoArrive port f rest
      .next (s1.frameOutcome port g fcsOk icvOk false)
    | none => .next s

/-! ### The arbiter (R51, R823) -/

/-- The port of an arbiter index. -/
def arbPort (pipe j : Nat) : Nat := if j < 24 then 24 * pipe + j else if j = 24 then 96 + pipe else if j = 25 then 100 else 101
/-- The weight of an arbiter index in units of 2.5 Gbit/s (R51). -/
def State.arbWeight (s : State) (pipe j : Nat) : Nat :=
  if j < 24 then
    match s.bundleOf (24 * pipe + j) with
    | some b => s.bundleUnits b
    | none => typeUnits (s.portType (24 * pipe + j))
  else if j = 24 then s.rd Fld.PRT_PIPE_CFG_WGT_BACKWASH pipe
  else if j = 25 then s.rd Fld.PRT_PIPE_CFG_WGT_HOST pipe
  else s.rd Fld.PRT_PIPE_CFG_WGT_KEEPER pipe
/-- The frame at the head of an arbiter index may start: its first 256 bytes are in, or all of it (R51). -/
def State.arbReady (s : State) (pipe j : Nat) : Option FifoEnt :=
  match (s.fifo pipe j).head? with
  | some e => if !e.started && (decide (256 ≤ e.got) || (s.pkt e.pkt).ended.isSome) then some e else none
  | none => none
/-- Arbiter indices in ring order after position `at_`. -/
def ringFrom (at_ : Nat) : List Nat := (List.range 27).map (fun d => (at_ + 1 + d) % 27)
/-- The next start: HIGH heads in round robin first, then deficit round robin among the others.  The index chosen,
with the arbiter after the choice. -/
def State.arbPick (s : State) (pipe : Nat) : Option (Nat × Arb) :=
  let a := Sparse.get s.arbs pipe Arb.init
  let ready := (List.range 27).filter (fun j => (s.arbReady pipe j).isSome)
  let high := ready.filter (fun j => match s.arbReady pipe j with | some e => e.level == 0 | none => false)
  match (ringFrom a.rrAt).find? (fun j => high.contains j) with
  | some j => some (j, { a with rrAt := j })
  | none =>
    let d := fun j => Sparse.get a.deficit j (0 : Int)
    let q := fun j => (((drrQuantum + 1) * max 1 (s.arbWeight pipe j) : Nat) : Int)
    let rounds := fun j => if d j > 0 then 0 else (-(d j)) / q j + 1
    match ready with
    | [] => none
    | r0 :: rs =>
      let k := rs.foldl (fun m j => min m (rounds j)) (rounds r0)
      let def' := ready.foldl (fun m j => Sparse.put m j (d j + k * q j) 0) a.deficit
      match (a.drrAt :: ringFrom a.drrAt).find? (fun j => ready.contains j && decide (Sparse.get def' j (0 : Int) > 0)) with
      | some j => some (j, { a with drrAt := j, deficit := def' })
      | none => none
/-- Hand bytes of a started head to the pipeline, up to some bus words; answers the words left (R823). -/
def State.arbMove (s : State) (pipe j words : Nat) : State × Nat :=
  match s.fifo pipe j with
  | e :: r =>
    let ended := (s.pkt e.pkt).ended.isSome
    let have_ := e.got - e.sent
    let avail := if ended then have_ else have_ / 4 * 4
    let n := min avail (4 * words)
    let used := (n + 3) / 4
    let a := Sparse.get s.arbs pipe Arb.init
    let a1 := if e.level = 0 then a else { a with deficit := Sparse.put a.deficit j (Sparse.get a.deficit j 0 - (n : Int)) 0 }
    if ended && n == have_ then
      let a2 := { a1 with started := a1.started.erase j,
                          deficit := if r.isEmpty && decide (Sparse.get a1.deficit j 0 > 0) then Sparse.erase a1.deficit j
                            else a1.deficit }
      ({ s.setFifo pipe j r with arbs := Sparse.put s.arbs pipe a2 Arb.init }, words - used)
    else
      ({ s.setFifo pipe j ({ e with sent := e.sent + n } :: r) with arbs := Sparse.put s.arbs pipe a1 Arb.init }, words - used)
  | [] => (s, words)
/-- Packets of a pipeline between the head hand-off and the flow stage: its input holds 1,024 of them (R264, R827). -/
def State.flowInput (s : State) (pipe : Nat) : Nat :=
  (s.pkts.filter (fun (x : Nat × Packet) => x.2.pipe == pipe && x.2.copyOf.isNone
    && (x.2.stage == .parsing || x.2.stage == .parsed || x.2.stage == .flow))).length
/-- Packets that the parser of a pipeline holds: at most 64 (R141). -/
def State.parsingNow (s : State) (pipe : Nat) : Nat := (s.pkts.filter (fun (x : Nat × Packet) => x.2.pipe == pipe && x.2.stage == .parsing)).length
/-- Hand over a frame's start when its header and at least 4 bytes fit, the parser is on (R158) and has room (R141), and the flow stage's
input has room.  The packet is parsed under the registers as they stand now (R157). -/
def State.arbStart (s : State) (pipe words : Nat) : State × Nat :=
  if words < 5 || !s.on Fld.PRS_CTRL_EN pipe || decide (1024 ≤ s.flowInput pipe) || decide (64 ≤ s.parsingNow pipe) then (s, words)
  else
    match s.arbPick pipe with
    | none => (s, words)
    | some (j, a) =>
      match s.fifo pipe j with
      | e :: r =>
        let s0 := s.setFifo pipe j ({ e with started := true } :: r)
        let s1 := { s0 with arbs := Sparse.put s.arbs pipe { a with started := a.started ++ [j] } Arb.init }
        let s2 := s1.setPkt e.pkt { s1.pkt e.pkt with stage := .parsing, pcfg := s1.parseCfg pipe (s1.pkt e.pkt).port }
        let s3 := if j = 24 then s2.wr Fld.EDT_BW_STATUS_DEPTH (s2.rd Fld.EDT_BW_STATUS_DEPTH pipe - 1) pipe else s2
        s3.arbMove pipe j (words - 4)
      | [] => (s, words)

/-- HEAD_HANDOFF (R51, R823): one core clock of a pipeline's arbiter: frames already started move first, then up to two
starts, within 2,048 bus bits. -/
def execHeadHandoff (pipe : Nat) (s : State) : Host.Outcome State Fault Refusal :=
  let a := Sparse.get s.arbs pipe Arb.init
  let (s1, w1) := a.started.foldl (fun t j => t.1.arbMove pipe j t.2) (s, 64)
  let (s2, w2) := s1.arbStart pipe w1
  .next (s2.arbStart pipe w2).1

/-! ### Received holds and generated frames (R99 to R107) -/

/-- PAUSE_EXPIRY (R99): the link pause timer runs out and held classes become eligible. -/
def execPauseExpiry (port : Nat) (s : State) : Host.Outcome State Fault Refusal :=
  match (s.port port).pauseUntil with
  | some t => .next (if t ≤ s.now then s.endPause port else s)
  | none => .next s

/-- PFC_EXPIRY (R100): a priority's timer runs out. -/
def execPfcExpiry (port prio : Nat) (s : State) : Host.Outcome State Fault Refusal :=
  match Sparse.find (s.port port).pfcUntil prio with
  | some t => .next (if t ≤ s.now then s.endPfc port prio else s)
  | none => .next s

/-- PFC_STORM (R105): a class held by PFC without a break for STORM_LIMIT, the instant at which its hold ends included. -/
def execPfcStorm (port cls : Nat) (s : State) : Host.Outcome State Fault Refusal :=
  let p := s.port port
  let lim := s.rdP Fld.PRT_PFC_STORM_STORM_LIMIT port
  match (List.range 8).find? (fun i => s.pfcMaps port i cls && (Sparse.find p.pfcUntil i).isSome) with
  | some i =>
    let held := min s.now (Sparse.get p.pfcUntil i 0)
    if lim ≠ 0 && decide (Sparse.get p.holdFrom i s.now + lim * msClk ≤ held) && !Sparse.get p.stormed cls false then
      let s1 := ((s.bump .PFC_STORMS port).raise Ev.PFC_STORM .port port).setPort port
        { p with stormed := Sparse.insert p.stormed cls true }
      if s.onP Fld.PRT_PFC_STORM_STORM_ACT port then
        let s2 := s1.endPfc port i
        let q := s2.port port
        let until_ := s.now + s.rdP Fld.PRT_PFC_STORM_RECOVER port * msClk
        .next (s2.setPort port { q with recover := Sparse.insert q.recover i until_ })
      else .next s1
    else .next s
  | none => .next s

/-- PFC_RECOVER_EXPIRY (R105): the port acts on PFC again. -/
def execPfcRecoverExpiry (port prio : Nat) (s : State) : Host.Outcome State Fault Refusal :=
  let p := s.port port
  match Sparse.find p.recover prio with
  | some t => .next (if t ≤ s.now then s.setPort port { p with recover := Sparse.erase p.recover prio } else s)
  | none => .next s

/-- The ingress count XOFF compares (R397): of a priority, or the sum of the port's eight (8). -/
def State.xoffCount (s : State) (port prio : Nat) : Nat :=
  if prio = 8 then (List.range 8).foldl (fun a i => a + Sparse.get s.tm.ingress (port * 8 + i) 0) 0
  else Sparse.get s.tm.ingress (port * 8 + prio) 0

/-- XOFF (R397, R106, R824): the ingress count of a priority, or the port's sum, reaches XOFF_MARK × 16; the MAC keeps the state of each,
and a frame follows for the signals of its MODE.  The port's sum is counted under priority 0 (log entry 95). -/
def execXoff (port prio : Nat) (s : State) : Host.Outcome State Fault Refusal :=
  let mark := s.rdP Fld.BPM_PORT_XOFF_XOFF_MARK port
  let link := s.rdP Fld.PRT_PAUSE_CFG_MODE port == 1
  if mark ≠ 0 && decide (mark * 16 ≤ s.xoffCount port prio) && !s.xoffOn port prio then
    let s1 := s.setXoff port prio true
    let s2 := if link == (prio == 8) then s1.bump .BPM_XOFF_EVENTS (port * 8 + prio % 8) else s1
    .next (s2.genPause port prio (s.rdP Fld.PRT_PAUSE_CFG_QUANTA port))
  else .next s

/-- XON (R397, R106): the count falls to XON_MARK × 16 and one frame with time zero is due. -/
def execXon (port prio : Nat) (s : State) : Host.Outcome State Fault Refusal :=
  if s.xoffOn port prio && decide (s.xoffCount port prio ≤ s.rdP Fld.BPM_PORT_XOFF_XON_MARK port * 16) then
    .next ((s.setXoff port prio false).genPause port prio 0)
  else .next s

/-- PAUSE_REFRESH (R106): REFRESH_PCT % of the last sent pause time has passed while XOFF persists. -/
def execPauseRefresh (port prio : Nat) (s : State) : Host.Outcome State Fault Refusal :=
  match Sparse.find (s.port port).genSent prio with
  | some (t, q) =>
    let due := t + bitClocks (q * 512 * s.rdP Fld.PRT_PAUSE_CFG_REFRESH_PCT port / 100) (s.portUnits port)
    .next (if s.xoffOn port prio && decide (due ≤ s.now) then s.genPause port prio (s.rdP Fld.PRT_PAUSE_CFG_QUANTA port) else s)
  | none => .next s

/-- PAUSE_FRAME_SEND (R74, R107): a generated frame is sent at a frame boundary, ahead of every queued frame; not in low-power idle or
within the wake time behind it. -/
def execPauseFrameSend (port : Nat) (s : State) : Host.Outcome State Fault Refusal :=
  let p := s.port port
  .next (if s.portUp port && p.lpi.isNone && decide (p.wakeUntil ≤ s.now) && (match p.tx with | some f => !f.begun | none => true) then
      s.sendGenerated port
    else s)

end Sys2Proof.Machine
end

