-- ==== Sys2Proof/Machine/TxOps.lean ====
section
/-! DEFINITION. The transmit side of a port: which queues may send (spec 15, Table 15.3), the control credit (R439), the frame
a transmit MAC sends (spec 03, R95 to R97, R113), and fragments (spec 18, R528, R529). -/
namespace Sys2Proof.Machine

open Sys2Proof.Config

/-! ### Eligible queues (Table 15.3) -/

/-- Length with FCS, after padding, of the head frame of a queue. -/
def State.headWire (s : State) (slice q : Nat) : Nat :=
  match (s.queue slice q).items.head? with
  | some id => max 64 ((s.pkt (s.item id).pkt).frame.length + 4)
  | none => 0

/-- The head item of a queue lies whole in its cove part (R391). -/
def State.headInCove (s : State) (slice q : Nat) : Bool :=
  let u := s.queue slice q
  match u.items.head? with
  | some id => runCells (u.cove.filter (fun e => e.1 == id)) == (s.item id).cells
  | none => false

/-- The head frame of a queue of a port goes out preemptable (R113, R528): by its class, and no PTP event message does. -/
def State.headPreemptable (s : State) (slice q : Nat) : Bool :=
  s.preemptable (portOfIdx slice (s.qPort slice q)) (s.qClass slice q) &&
    (match (s.queue slice q).items.head? with
     | some id => (s.pkt (s.item id).pkt).ptpTx.isNone
     | none => true)

/-- A backlogged queue meets the conditions of Table 15.3 that concern itself. -/
def State.queueMaySend (s : State) (slice q : Nat) : Bool :=
  let j := s.qPort slice q
  let port := portOfIdx slice j
  let cls := s.qClass slice q
  (s.qEn slice q || (s.queue slice q).draining.isSome) && s.headInCove slice q && s.qPortState slice j == 0
    && (95 < port || (!s.classHeld port cls && s.gateAdmits port cls (s.frameWire port (s.headPreemptable slice q) (s.headWire slice q))
      && !((s.gte port).merge && s.headPreemptable slice q)))

/-- The backlogged queues of a port. -/
def State.portBacklog (s : State) (slice j : Nat) : List Nat := (s.backlog slice).filter (fun q => s.qPort slice q == j)

/-- Drop, at the heads of a port's queues, frames no open run can take (R539). -/
def State.dropTooLong (s : State) (slice j : Nat) : State :=
  let port := portOfIdx slice j
  if 95 < port then s
  else
    (s.portBacklog slice j).foldl (fun t q =>
      let cls := t.qClass slice q
      match (t.queue slice q).items.head? with
      | some id =>
        if t.gateTooLong port cls (t.frameWire port (t.headPreemptable slice q) (t.headWire slice q)) then
          ((t.dropItem slice q id).bump .GTE_TOO_LONG port).raiseMs Ev.GTE_TOO_LONG .port port
        else t
      | none => t) s

/-! ### The control credit (R439) -/

/-- Its cap: 16,384 bytes, in 1/256 byte. -/
def ctrlCap : Nat := 16384 * 256
/-- Current rate of a port index in units of 2.5 Gbit/s: ports 100 and 101 have the weight of their arbiter input. -/
def State.idxUnits (s : State) (slice j : Nat) : Nat :=
  if j < 24 then s.portUnits (24 * slice + j) else s.arbWeight slice (j + 1)
/-- The control credit of a port index now. -/
def State.ctrlCredit (s : State) (slice j : Nat) : Int :=
  let (c, at_) := Sparse.get s.sch.ctrl (slice * 32 + j) ((ctrlCap : Int), 0)
  let gain := (s.now - at_) * s.idxUnits slice j * s.rd Fld.SCH_PORT_CFG_CTRL_PCT slice j * 2560 / 5600
  min (ctrlCap : Int) (c + (gain : Nat))
/-- Charge the control credit. -/
def State.spendCtrl (s : State) (slice j len : Nat) : State :=
  let c := s.ctrlCredit slice j - ((len * 256 : Nat) : Int)
  { s with sch := { s.sch with ctrl := Sparse.insert s.sch.ctrl (slice * 32 + j) (c, s.now) } }

/-! ### The scheduler's choice (R438 to R443) -/

/-- Sources 3 and 4 of Table 15.2 among some queues that may send: the queue, its path in the tree, and whether it is served
at order 3. -/
def State.classChoice (s : State) (slice j : Nat) (qs : List Nat) : Option (Nat × List (Nat × Nat) × Bool) :=
  let ctl := if s.on Fld.SCH_PORT_CFG_CTRL_EN slice j && decide (0 ≤ s.ctrlCredit slice j) then
      qs.filter (fun q => s.qClass slice q == s.rd Fld.SCH_PORT_CFG_CTRL_CLASS slice j)
    else []
  match ctl with
  | q :: r => some (r.foldl min q, [], true)
  | [] => (s.choose slice qs 5 (0, j)).map (fun c => (c.1, c.2, false))

/-- Carry out a choice: the tree's times and credits, or the control credit, and the queue's counters; the item leaves its
queue. -/
def State.takeHead (s : State) (slice j : Nat) (all qs : List Nat) (c : Nat × List (Nat × Nat) × Bool) (id : Nat) : State :=
  let (q, path, ctl) := c
  let l := s.headLen slice q
  let parents := (all.flatMap (fun x => (s.queuePath slice x).drop 1)).eraseDups
  let s1 := parents.foldl (fun t p => t.noteEligible slice all qs p) s
  let s2 := if ctl then (s1.spendCtrl slice j l).bump .SCH_CTRL_PKTS (portOfIdx slice j) else s1.takeChoice slice path l
  let s3 := s2.unqueue slice q id
  let s4 := s3.setQueue slice q { s3.queue slice q with lastSent := s3.now, starved := false }
  (s4.bump .SCH_TX_PKTS (qKey slice q)).bump .SCH_TX_OCTETS (qKey slice q) ((s4.pkt (s4.item id).pkt).frame.length + 4)

/-- A frame taken by a transmit MAC. -/
def TxFrame.ofItem (it : QItem) (id cls q : Nat) : TxFrame :=
  { item := some id, pkt := it.pkt, cls := cls, slice := it.slice, queue := q, len := none, preempted := false, cutThrough := false,
    cells := 0, vid := if it.vid = 0 then none else some it.vid, startAt := 0, done := 0, wire := [], pmac := none, frags := 0, sa := none }

/-! ### The express queue (R519, R523, R526) -/

/-- Residence of a packet at its transmit decision passes the limit (R526). -/
def State.expired (s : State) (port n : Nat) : Bool :=
  let lim := s.rdP Fld.GTE_EXP_CFG_RES_LIMIT port
  lim != 0 && decide (((lim * 100 * todNs : Nat) : Int) < (s.ballTime port : Int) - (s.pkt n).ts)
/-- Drop the heads of an express queue that are past their residence limit; `n` bounds the loop. -/
def State.dropExpired (s : State) (port : Nat) : Nat → State
  | 0 => s
  | n + 1 =>
    match (s.gte port).queue with
    | e :: _ =>
      if s.expired port e.pkt then
        (((s.dropExpress port e).bump .EXP_DEADLINE_DROP port).raiseMs Ev.EXP_DEADLINE_DROP .port port).dropExpired port n
      else s
    | [] => s
/-- Length by which an express frame is fitted into its window: EXP_MAXLEN until it is known (R538). -/
def State.expLen (s : State) (port n : Nat) : Nat :=
  let p := s.pkt n
  if p.ended.isSome then max 64 (p.frame.length + 4) else s.rdP Fld.GTE_EXP_LEN_EXP_MAXLEN port
/-- The express queue's head may be sent (R518, R523, R531, R538). -/
def State.expressReady (s : State) (port : Nat) : Option ExpEnt :=
  match (s.gte port).queue with
  | e :: _ =>
    if (e.cut || (s.pkt e.pkt).status == some false) && !s.expressHeld port && s.qPortState (port / 24) (port % 24) == 0
      && s.gateAdmits port 16 (s.wireTime port (s.expLen port e.pkt)) then some e else none
  | [] => none
/-- The transmit MAC takes the express head. -/
def State.takeExpress (s : State) (port : Nat) (e : ExpEnt) : State :=
  let s1 := s.setExpQueue port ((s.gte port).queue.erase e)
  let s2 := s1.setPkt e.pkt { s1.pkt e.pkt with stage := .out }
  let f : TxFrame := { item := none, pkt := e.pkt, cls := 16, slice := port / 24, queue := 0, len := none, preempted := false,
                       cutThrough := e.cut, cells := e.cells, vid := e.vid, startAt := 0, done := 0, wire := [], pmac := none, frags := 0,
                       sa := none }
  s2.setPort port { s2.port port with tx := some f }

/-! ### Fragments (R528, R529) -/

/-- A frame in transmission can be preempted now: a fragment of the minimum size has gone and at least 64 bytes with mCRC are
left (R528, R529). -/
def State.canPreempt (s : State) (port : Nat) (f : TxFrame) : Bool :=
  f.pmac.isSome &&
    (match f.len with
     | some l => decide (s.minFragment port - 4 ≤ s.sentBytes port f ∧ f.done + s.sentBytes port f + 60 ≤ l)
     | none => false)
/-- The frame in transmission is preempted: the fragment that has left ends with its mCRC (R528). -/
def State.preempt (s : State) (port : Nat) (f : TxFrame) : State :=
  let sent := f.done + s.sentBytes port f
  let g := { f with preempted := true, done := sent, frags := f.frags + 1 }
  let s0 := s.putWire port f.delim ((f.wire.take sent).drop f.done ++ bytesOfNat 4 (mCrc (f.wire.take sent)).toNat)
  let t := (s0.setPort port { s0.port port with tx := none, txp := some g }).bump .PREEMPT_FRAGS_TX port
  if f.preempted then t else t.bump .PREEMPT_FRAMES port

/-! ### The frame as sent (R95 to R97, R113, R420, R522, R826) -/

/-- Count a frame sent (Table 3.4). -/
def State.countTx (s : State) (port : Nat) (b : List Byte) : State :=
  let c : Ctr := if beAt b 0 6 = 2 ^ 48 - 1 then .TX_BCAST else if byteAt b 0 % 2 = 1 then .TX_MCAST else .TX_UCAST
  ((s.bump .TX_OK port).bump .TX_OCTETS_OK port (max 64 (b.length + 4))).bump c port
/-- Drop the frame a transmit MAC has taken: it issues RELEASE_FREE (R383). -/
def State.dropTx (s : State) (port : Nat) (f : TxFrame) : State :=
  let t := s.releaseTx port f
  t.setPort port { t.port port with tx := none }
/-- The timestamp of a two-step event message returns to the keepers with its tag (R113). -/
def State.stampTx (s : State) (port : Nat) (f : TxFrame) : State :=
  match (s.pkt f.pkt).ptpTx with
  | some x =>
    if x.oneStep then s
    else
      let at_ := ((s.ballTime port : Int) + adjUnits (s.rdP Fld.PRT_TS_CFG_TX_ADJ port)).toNat
      let p := s.port port
      s.setPort port { p with txStamps := p.txStamps ++ [(x.tag, at_)] }
  | none => s
/-- The frame goes through the preemptable MAC (R113, R528): a queued frame of a preemptable class that is no PTP event message. -/
def State.usesPmac (s : State) (port : Nat) (f : TxFrame) : Bool :=
  f.item.isSome && s.preemptable port f.cls && (s.pkt f.pkt).ptpTx.isNone
/-- A host frame asks for the uncontrolled port (R119). -/
def State.uncontrolledRefused (s : State) (port : Nat) (f : TxFrame) (b : List Byte) : Bool :=
  s.onP Fld.MSC_PORT_CFG_EN port && isEapol b && (s.pkt f.pkt).port == 100
/-- A begun frame has its bytes `w`, to which the FCS is appended. -/
def State.beginTx (s : State) (port : Nat) (f : TxFrame) (w : List Byte) : State :=
  let s1 := s.stampTx port f
  let p := s1.port port
  let pm := s1.usesPmac port f
  let f1 := { f with len := some (w.length + 4), startAt := if f.startAt = 0 then max 1 s1.now else f.startAt,
                     wire := w ++ bytesOfNat 4 (crc32 w).toNat, pmac := if pm then some p.gte.frames else none }
  s1.setPort port { p with tx := some f1, txLog := (s1.now, (w.length + 24) * 8) :: p.txLog,
                           gte := { p.gte with frames := if pm then (p.gte.frames + 1) % 4 else p.gte.frames } }
/-- The transmit MAC starts the taken frame: its bytes, protected by the SecY, begin to leave. -/
def State.startTx (s : State) (port : Nat) (f : TxFrame) : State :=
  let (b, skipped) := s.txBytes port f
  let s1 := if skipped then s.bump .TX_CSUM_SKIPPED port else s
  if s1.uncontrolledRefused port f b then (s1.bump .TX_UNCONTROLLED_REFUSED port).dropTx port f
  else if s1.maxFor port b < b.length + 4 then ((s1.bump .TX_OVERSIZE_DROP port).raise Ev.TX_OVERSIZE .port port).dropTx port f
  else
    let s2 := if b.length < 60 then s1.bump .TX_PADDED port else s1
    match s2.secProtect port (padFrame b) (isEapol b && (s.pkt f.pkt).port == 101) with
    | (s3, none) => s3.dropTx port f
    | (s3, some w) => s3.beginTx port f w
/-- A frame being cut through, begun under an SA or in the clear, gets its last bytes: it is protected under that SA (R134). -/
def State.finishCut (s : State) (port : Nat) (f : TxFrame) : State :=
  let (b, skipped) := s.txBytes port f
  let s1 := if skipped then s.bump .TX_CSUM_SKIPPED port else s
  let s2 := if b.length < 60 then s1.bump .TX_PADDED port else s1
  let d := padFrame b
  match f.sa with
  | some (an, pn) => (s2.countOut port an (d.length - 12)).beginTx port { f with cutThrough := false } (s2.sealed port an pn d)
  | none => s2.beginTx port { f with cutThrough := false } d

end Sys2Proof.Machine
end

