-- ==== Sys2Proof/Machine/Transmit.lean ====
section
/-! DEFINITION. The commands of the transmit side: the next frame of a port (spec 15, R438 to R450), frames sent (spec 03, R95
to R97; spec 13, R383), and the express path (spec 18, R519 to R526). -/
namespace Sys2Proof.Machine

open Sys2Proof.Config

/-! ### The next frame of a port (R438) -/

/-- The receive ring that takes a reason code (R707). -/
def State.ringOf (s : State) (reason : Nat) : Nat :=
  let f := [Fld.HST_RX_MAP_RING0, Fld.HST_RX_MAP_RING1, Fld.HST_RX_MAP_RING2, Fld.HST_RX_MAP_RING3,
    Fld.HST_RX_MAP_RING4, Fld.HST_RX_MAP_RING5, Fld.HST_RX_MAP_RING6, Fld.HST_RX_MAP_RING7].getD (reason % 8) Fld.HST_RX_MAP_RING0
  s.rd f 0 (reason / 8)

/-- Some buffer of an item's chain is QUARANTINED, or is found so when it is read: the item is dropped at its dequeue (R398). -/
def State.chainLost (s : State) (it : QItem) : Bool :=
  let ids := it.chain.map Prod.fst
  ids.any (fun b => (s.readBufs it.slice ids).quarantined it.slice b)

/-- HOST_DMA or KEEPER takes the buffers of an item (R384): a chain that PACKET holds alone is handed over, a shared one is
already held.  No when the quota refuses it. -/
def State.takeChain (s : State) (it : QItem) (to_ : Nat) : State × Bool :=
  if it.mcast then (s, true) else s.handoff it.slice reqPacket to_ (it.chain.map Prod.fst)

/-- A decision for port 100 or 101 of a slice (R384, R438, R707): the head is handed to the staging of its ring, or to the
keepers; a packet of a disabled ring is discarded at dequeue.  While no ring may run, packets for port 100 wait (R706). -/
def State.specialDecision (s : State) (slice j : Nat) : State :=
  let all := s.portBacklog slice j
  let qs := all.filter (s.queueMaySend slice)
  match s.classChoice slice j qs with
  | none => s
  | some c =>
    match (s.queue slice c.1).items.head? with
    | none => s
    | some id =>
      let it := s.item id
      let p := s.pkt it.pkt
      let ring := s.ringOf p.reason
      if j = 24 && !s.on Fld.HST_CTRL_DMA_EN then s
      else if s.chainLost it then (s.takeHead slice j all qs c id).releaseItem id
      else if j = 24 && (!s.on Fld.HST_RX_CFG_EN 0 ring || s.on Fld.HST_RX_CFG_SOURCE 0 ring) then
        ((s.takeHead slice j all qs c id).releaseItem id).bump .HST_RX_NO_RING ring
      else
        match s.takeChain it (if j = 24 then reqHostDma else reqKeeper) with
        | (_, false) => s
        | (s1, true) =>
          let s2 := s1.takeHead slice j all qs c id
          let s3 := { s2 with tm := { s2.tm with items := Sparse.erase s2.tm.items id } }
          let bufs := (slice, it.chain.map Prod.fst)
          if j = 24 then
            let e : RxStaged := { pkt := it.pkt, len := p.frame.length, reason := p.reason, ingress := ParseRes.INGRESS_PORT.get p.parse,
                                  aux := p.aux, ts := (max 0 p.ts).toNat, done := 0, buf := bufs }
            ({ s3 with hst := { s3.hst with staged := Sparse.insert s3.hst.staged ring (Sparse.get s3.hst.staged ring [] ++ [e]) } }).wr
              Fld.HST_CTRL_QUIET 0
          else { s3 with kpr := { s3.kpr with inbox := s3.kpr.inbox ++ [(it.pkt, bufs)] } }

/-- Sources 3 and 4 of a front port, restricted to classes of the express MAC while a fragment waits. -/
def State.classDecision (s : State) (slice j : Nat) (expressOnly : Bool) : Option ((Nat × List (Nat × Nat) × Bool) × Nat × List Nat × List Nat) :=
  let all := s.portBacklog slice j
  let qs := all.filter (fun q => s.queueMaySend slice q && !(expressOnly && s.headPreemptable slice q))
  match s.classChoice slice j qs with
  | some c => ((s.queue slice c.1).items.head?).map (fun id => (c, id, all, qs))
  | none => none

/-- The transmit MAC takes a queued item; one whose chain holds a QUARANTINED buffer is dropped (R398). -/
def State.takeItem (s : State) (slice j : Nat) (d : (Nat × List (Nat × Nat) × Bool) × Nat × List Nat × List Nat) : State :=
  let (c, id, all, qs) := d
  let it := s.item id
  let port := 24 * slice + j
  let f := TxFrame.ofItem it id (s.qClass slice c.1) c.1
  let s1 := s.takeHead slice j all qs c id
  if s.chainLost it then s1.releaseItem id
  else
    let s2 := if it.mcast then s1 else s1.setPkt it.pkt { s1.pkt it.pkt with stage := .out }
    s2.setPort port { s2.port port with tx := some f }

/-- DATA segments of a bundle still wait to be sent: it takes no further packet (R628). -/
def State.dataWaits (s : State) (port : Nat) : Bool :=
  match s.bundleOf port with
  | some b => (Sparse.get s.flt.bundles b Bundle.init).segments.any (fun g => g.chan == .data)
  | none => false

/-- A frame taken for a port may not begin: a hold has caught it (R101), or a width change is agreed and not yet made (R70). -/
def State.txWaits (s : State) (port : Nat) (f : TxFrame) : Bool :=
  (s.port port).ebb.switchTo.isSome || (if f.item.isSome then s.classHeld port f.cls else s.expressHeld port)

/-- A decision for a front port (Table 15.2; R528, R529 for a frame in transmission or a fragment that waits).  A generated frame goes
ahead of every other at a frame boundary, and preempts none (R107); a taken frame that a hold has caught returns to its queue. -/
def State.portDecision (s : State) (slice j : Nat) : State :=
  let port := 24 * slice + j
  let s0 := (s.dropExpired port (s.gte port).queue.length).dropTooLong slice j
  let p := s0.port port
  if !s0.portUp port || p.lpi.isSome || decide (s0.now < p.wakeUntil) || p.ebb.switchTo.isSome then s0
  else
    match p.tx with
    | some f =>
      if !f.begun then (if s0.txWaits port f then (s0.setPort port { p with tx := none }).untake port f else s0)
      else if s0.canPreempt port f then
        match s0.expressReady port with
        | some e => if p.gen.isEmpty then (s0.preempt port f).takeExpress port e else (s0.preempt port f).sendGenerated port
        | none =>
          match s0.classDecision slice j true with
          | some d => if p.gen.isEmpty then (s0.preempt port f).takeItem slice j d else (s0.preempt port f).sendGenerated port
          | none => if p.gte.merge || !s0.gateOpen port f.cls (s0.ballTime port + s0.guardW port) then s0.preempt port f else s0
      else s0
    | none =>
      if !p.gen.isEmpty then s0.sendGenerated port
      else
        match s0.expressReady port with
        | some e => s0.takeExpress port e
        | none =>
          match (if s0.dataWaits port then none else s0.classDecision slice j p.txp.isSome) with
          | some d => s0.takeItem slice j d
          | none =>
            match p.txp with
            | some f =>
              if s0.gateOpen port f.cls (s0.ballTime port) && !p.gte.merge then
                s0.setPort port { p with tx := some { f with startAt := s0.now }, txp := none }
              else s0
            | none => s0

/-- SCHEDULE_DECISION (R438 to R443): the next frame of a port index of a slice. -/
def execScheduleDecision (slice j : Nat) (s : State) : Host.Outcome State Fault Refusal :=
  if !s.on Fld.SCH_CTRL_EN slice then .next s
  else
    let t := s.readElems slice ((s.portBacklog slice j).flatMap (fun q => s.queuePath slice q)).eraseDups
    .next (if j < 24 then t.portDecision slice j else t.specialDecision slice j)

/-- STARVE_EXPIRY (R450): a backlogged queue has sent nothing for STARVE_MS while its port is OPEN and its class is not held. -/
def execStarveExpiry (slice q : Nat) (s : State) : Host.Outcome State Fault Refusal :=
  let u := s.queue slice q
  let ms := s.rd Fld.SCH_CFG_STARVE_MS
  let j := s.qPort slice q
  let port := portOfIdx slice j
  let held := port < 96 && s.classHeld port (s.qClass slice q)
  let since := if port < 96 then max u.lastSent (s.heldUntil port (s.qClass slice q)) else u.lastSent
  if ms ≠ 0 ∧ s.qBacklogged slice q = true ∧ u.starved = false ∧ since + ms * msClk ≤ s.now ∧ s.qPortState slice j = 0 ∧ held = false then
    .next (((s.setQueue slice q { u with starved := true }).bump .SCH_STARVED (qKey slice q)).raise Ev.SCH_STARVE .port port)
  else .next s

/-! ### Frames sent (R96, R383) -/

/-- FRAME_TRANSMIT (R95 to R97, R101, R113, R126): the taken frame starts, unless a hold or a width change keeps it. -/
def execFrameTransmit (port : Nat) (s : State) : Host.Outcome State Fault Refusal :=
  match (s.port port).tx with
  | some f =>
    .next (if f.len.isSome || f.cutThrough || !s.portUp port || (s.bundleOf port).isSome || s.txWaits port f then s else s.startTx port f)
  | none => .next s

/-- TX_COMPLETE (R383): the last byte has left; the frame is counted (one cut under R525 only there) and its
buffers take RELEASE_FREE.  An agreed width change is then announced (Table 2.6). -/
def execTxComplete (port : Nat) (s : State) : Host.Outcome State Fault Refusal :=
  match (s.port port).tx with
  | some f =>
    match f.len with
    | some l =>
      let left := l - f.done
      if s.now < f.startAt + bitClocks ((left + 20) * 8) (s.portUnits port) then .next s
      else
        let s0 := s.putWire port f.delim (f.wire.drop f.done)
        let s1 := if f.cutThrough then s0
          else (if f.item.isNone then s0.bump .EXP_TX port else s0).countTx port (s0.pkt f.pkt).frame
        let s2 := s1.dropTx port f
        .next ((s2.setPort port { s2.port port with txEnd := s2.now }).announceSwitch port)
    | none => .next s
  | none => .next s

/-! ### The express path (R519 to R525) -/

/-- An express entry matches a packet (R522). -/
def expMatches (e : BitVec 128) (port vid da : Nat) : Bool :=
  ExpEntry.VALID.on e && (ExpEntry.PORT_ANY.on e || ExpEntry.IN_PORT.get e == port) && (ExpEntry.VID_ANY.on e || ExpEntry.VID.get e == vid)
    && (ExpEntry.DA_ANY.on e || ExpEntry.DA.get e == da)

/-- EXPRESS_LOOKUP (R522, R541): the lowest-numbered entry that matches gives the egress port; a miss, or a faulty entry there, takes
MISS_ACT. -/
def execExpressLookup (n : Nat) (s : State) : Host.Outcome State Fault Refusal :=
  let p := s.pkt n
  if p.stage != .express || p.dest != .none || (Sparse.find s.pkts n).isNone then .next s
  else
    let x := s.exm p.pipe
    let b := p.orig
    let vid := if isTpid (be16 b 12) then be16 b 14 % 4096 else 0
    let hit := if s.on Fld.GTE_CTRL_EN p.pipe then
        (x.exps.find? (fun e => expMatches e.2 p.port vid (beAt b 0 6))).filter (fun e => !Sparse.get x.faultyExp e.1 false)
      else none
    match hit with
    | some (_, e) =>
      .next (s.setPkt n { p with dest := .port (ExpEntry.OUT_PORT.get e), expVid := if ExpEntry.SET_VID.on e then some (ExpEntry.NEW_VID.get e) else none })
    | none =>
      let s1 := (s.bump .EXP_MISS p.pipe).raiseMs Ev.EXP_MISS .pipeline p.pipe
      .next (if s.on Fld.GTE_CTRL_MISS_ACT p.pipe then s1.setPkt n { p with express := false, stage := .parsed } else s1.discard n)

/-- The rate of the egress port lies at or below that of the ingress port (R523). -/
def State.rateFits (s : State) (inPort outPort : Nat) : Bool := isFront inPort && decide (s.portUnits outPort ≤ s.portUnits inPort)

/-- EXPRESS_ARRIVE (R24, R25, R519, R523): an express frame reaches its express queue, after the older ones of its port and destination and
with no wait for other cells: it is dropped, cut through, or stored. -/
def execExpressArrive (n : Nat) (s : State) : Host.Outcome State Fault Refusal :=
  let p := s.pkt n
  match p.stage, p.dest with
  | .express, .port e =>
    if (Sparse.find s.pkts n).isNone || s.behindTo n then .next s
    else
      let g := s.gte e
      let len := if p.ended.isSome then p.frame.length else s.rdP Fld.GTE_EXP_LEN_EXP_MAXLEN e - 4
      let cells := cellsOf len
      if s.hopBack p.port e then .next (s.hopDrop n p.port)
      else if !s.onP Fld.GTE_PORT_CFG_EXP_EN e then .next (((s.discard n).bump .EXP_NO_QUEUE e).raiseMs Ev.EXP_NO_QUEUE .port e)
      else if s.qPortState (e / 24) (e % 24) ≠ 0 then .next (s.discard n)
      else if s.rdP Fld.GTE_EXP_CFG_EXP_QLIM e ≤ g.queue.length then .next (((s.discard n).bump .EXP_QFULL e).raiseMs Ev.EXP_QFULL .port e)
      else if 3072 < s.rd Fld.GTE_STATUS_BUF_CELLS (e / 24) + cells then
        .next (((s.discard n).bump .EXP_BUF_FULL (e / 24)).raiseMs Ev.EXP_BUF_FULL .pipeline (e / 24))
      else
        let s1 := ((s.setPkt n { p with stage := .expq }).takeExpCells (e / 24) cells).bump .EXP_RX e
        let cut := s.rateFits p.port e && g.queue.all ExpEnt.cut && s.gateAdmits e 16 (s.wireTime e (s.expLen e n))
        .next ((s1.setExpQueue e (g.queue ++ [⟨n, cells, cut, p.expVid, s.now⟩])).bump (if cut then .EXP_CUT_THROUGH else .EXP_STORE_FWD) e)
  | _, _ => .next s

/-- CUT_THROUGH_START (R101, R523): a cut-through frame starts, under the SA then in use; one whose end status has arrived is sent
whole. -/
def execCutThroughStart (port : Nat) (s : State) : Host.Outcome State Fault Refusal :=
  match (s.port port).tx with
  | some f =>
    if !f.cutThrough || f.len.isSome || f.startAt ≠ 0 || !s.portUp port || (s.bundleOf port).isSome || s.txWaits port f then .next s
    else
      match (s.pkt f.pkt).status with
      | some false => .next (s.startTx port { f with cutThrough := false })
      | some true => .next (s.dropTx port f)
      | none =>
        let go := fun (t : State) (sa : Option (Nat × Nat)) =>
          t.setPort port { t.port port with tx := some { f with startAt := max 1 t.now, sa := sa } }
        if s.onP Fld.MSC_PORT_CFG_EN port then
          match s.takePn port with
          | (t, none) => .next (t.dropTx port f)
          | (t, some sa) => .next (go t (some sa))
        else .next (go s none)
  | none => .next s


/-- CUT_THROUGH_CUT (R525): a started cut-through frame whose end status is errored, or whose length passes its limit, ends
with the ones' complement of its FCS, and the SecY appends no ICV. -/
def execCutThroughCut (port : Nat) (s : State) : Host.Outcome State Fault Refusal :=
  match (s.port port).tx with
  | some f =>
    let p := s.pkt f.pkt
    let b := (s.txBytes port f).1
    let lim := s.cutLimit port b
    let long := decide (lim < b.length + 4)
    if !f.cutThrough || f.startAt = 0 || f.len.isSome || (s.bundleOf port).isSome || !(p.status == some true || long) then .next s
    else
      let data := if long then b.take (lim - 4) else b
      let w := match f.sa with
        | some (an, pn) => let o := s.sealed port an pn data; o.take (o.length - 16)
        | none => data
      let s1 := match f.sa with | some (an, _) => s.countOut port an (data.length - 12) | none => s
      let s2 := s1.setPort port { s1.port port with tx := some { f with len := some (w.length + 4), wire := w ++ bytesOfNat 4 (badFcs w).toNat } }
      .next ((s2.bump (if long then .EXP_CUT_TRUNC_LEN else .EXP_CUT_TRUNC_ERR) port).raiseMs Ev.EXP_CUT_TRUNC .port port)
  | none => .next s

end Sys2Proof.Machine
end

