-- ==== Sys2Proof/Machine/ClearOps.lean ====
section
/-! DEFINITION. What clearing a block does (spec 25, R735, R736; spec 26, R741; and the reset rule of each chapter): the work in flight
that a block reset or a drain limit discards, what a block reset clears, and what a domain that is switched off loses. -/
namespace Sys2Proof.Machine

open Sys2Proof.Config

/-! ### Registers and counters of a block -/

/-- The first address of each block's window, by its number (Table 29.1). -/
def blkBase (blk : Nat) : Nat :=
  [0x00000000, 0x00100000, 0x00200000, 0x00300000, 0x00400000, 0x00500000, 0x00600000, 0x00700000, 0x00800000, 0x00900000, 0x00A00000,
   0x01000000, 0x01100000, 0x01200000, 0x01300000, 0x02000000, 0x02100000, 0x02200000, 0x02300000, 0x02400000, 0x02500000, 0x02600000,
   0x02700000, 0x03000000, 0x03100000, 0x03200000, 0x04000000, 0x05000000, 0x05100000, 0x06000000, 0x07000000].getD blk 0
/-- An address of the register file lies at an offset range of a block instance. -/
def inBlock (blk inst lo hi key : Nat) : Bool :=
  let a := key % 0x100000000
  let b := blkBase blk + inst * 0x40000
  decide (b + lo ≤ a ∧ a < b + hi)
/-- Registers that satisfy a test take their reset values. -/
def State.clearRegs (s : State) (gone : Nat → Bool) : State :=
  { s with regs := s.regs.keep (fun k => !gone k), bad := s.bad.keep (fun k => !gone k) }
/-- Counters that satisfy a test return to zero. -/
def State.clearCtrs (s : State) (gone : Ctr → Nat → Bool) : State :=
  { s with ctrs := s.ctrs.keep (fun k =>
      match Ctr.ofIdx? (k / 0x100000000) with
      | some c => !gone c (k % 0x100000000)
      | none => true) }
/-- Every register and counter of a block instance takes its reset value (R741). -/
def State.clearBlock (s : State) (blk inst : Nat) : State :=
  (s.clearRegs (inBlock blk inst 0 0x40000)).clearCtrs (fun c i => c.home.1 == blk && c.instOf i == inst)

/-! ### Work in flight -/

/-- The packets a test names. -/
def State.packetsIn (s : State) (which : Packet → Bool) : List Nat :=
  (s.pkts.filter (fun (e : Nat × Packet) => which e.2)).map Prod.fst
/-- Discard packets, counting each. -/
def State.dropPackets (s : State) (ns : List Nat) (c : Ctr) (item : Nat) : State :=
  ns.foldl (fun (t : State) n => ((t.unpark n).discard n).bump c item) s
/-- The backwash queue of a pipeline, emptied. -/
def State.dropBackwash (s : State) (pipe : Nat) : State :=
  let ns := (s.fifo pipe 24).map FifoEnt.pkt
  ((s.setFifo pipe 24 []).wr Fld.EDT_BW_STATUS_DEPTH 0 pipe).dropPackets ns .EDT_DISCARD_DISABLE pipe
/-- Discard the work in flight of a block instance and count it in the block's disable counter (R735, R736): the blocks of Table 25.7
that hold packets or notifications. -/
def State.discardWork (s : State) (blk inst : Nat) : State :=
  let at_ := fun (st : PStage) => s.packetsIn (fun p => p.stage == st && p.pipe == inst)
  match blk with
  | 15 => s.dropPackets (at_ .parsing) .PRS_DISCARD_DISABLE inst
  | 16 => s.dropPackets (at_ .parsed) .RBK_DISCARD_DISABLE inst
  | 17 => s.dropPackets (at_ .parsed) .EXM_DISCARD_DISABLE inst
  | 18 => s.dropPackets (at_ .parsed) .LPM_DISCARD_DISABLE inst
  | 19 =>
    let n := (s.lrn inst).queue.length
    if n = 0 then s else (s.setLearnQueue inst []).bump .LRN_DISCARD_DISABLE inst n
  | 20 => s.dropPackets (s.packetsIn (fun p => p.pipe == inst && (p.park.elim false (fun a => a.cls != 0)))) .FLW_DISCARD_DISABLE inst
  | 21 => s.dropPackets (s.packetsIn (fun p => p.pipe == inst && (p.park.elim false (fun a => a.cls == 0)))) .UPS_DISCARD_DISABLE inst
  | 22 => (s.dropBackwash inst).dropPackets (at_ .edit) .EDT_DISCARD_DISABLE inst
  | _ => s
/-- The block instance holds work in flight. -/
def State.hasWork (s : State) (blk inst : Nat) : Bool :=
  let at_ := fun (st : PStage) => s.pkts.any (fun (e : Nat × Packet) => e.2.stage == st && e.2.pipe == inst)
  match blk with
  | 15 => at_ .parsing
  | 16 | 17 | 18 => at_ .parsed
  | 19 => !(s.lrn inst).queue.isEmpty
  | 20 => s.pkts.any (fun (e : Nat × Packet) => e.2.pipe == inst && (e.2.park.elim false (fun a => a.cls != 0)))
  | 21 => s.pkts.any (fun (e : Nat × Packet) => e.2.pipe == inst && (e.2.park.elim false (fun a => a.cls == 0)))
  | 22 => at_ .edit || !(s.fifo inst 24).isEmpty
  | _ => false

/-! ### Block resets (R735) -/

/-- Mailbox commands in flight of some opcodes that act on a pipeline are refused as ABORTED (R219), and what they changed in earlier
pipelines is undone (R210). -/
def State.abortOps (s : State) (pipe : Nat) (ops : List Nat) : State :=
  (s.kpr.inFlight.filter (fun c => (c.all || c.pipe == pipe) && ops.contains c.opcode && !s.replied c.tag)).foldl (fun (t : State) c =>
    let u := match c.change with | some h => (t.undoChange h).setChange c.tag (some { h with left := [], busy := [] }) | none => t
    u.reply c.tag .aborted c.done 0 0 true) s
/-- The rule stage (R191): both slot counts clear, and a DRAINING slot becomes FREE. -/
def State.resetRules (s : State) (pipe : Nat) : State :=
  let t := s.discardWork 16 pipe
  let u := { t with pkts := t.pkts.map (fun (e : Nat × Packet) => if e.2.pipe = pipe then (e.1, { e.2 with inSlot := none }) else e) }
  let v := (u.wr Fld.RBK_EPOCH_INFLIGHT_SLOT0_COUNT 0 pipe).wr Fld.RBK_EPOCH_INFLIGHT_SLOT1_COUNT 0 pipe
  (List.range 2).foldl (fun (x : State) k =>
    let f := if k = 0 then Fld.RBK_EPOCH_STATUS_SLOT0_STATE else Fld.RBK_EPOCH_STATUS_SLOT1_STATE
    if x.rd f pipe = 3 then x.freeSlot pipe k else x) v
/-- A curd slice (R280): every DIRTY record is written back, then every way ends; the seeds stay. -/
def State.resetSlice (s : State) (k : Nat) : State :=
  let mine := s.flw.sets.filter (fun (e : Nat × List Way) => e.1 / 6144 == k)
  let dirty := (mine.flatMap Prod.snd).filter (fun w => w.state == .dirty && !w.uncommitted)
  let s1 := (s.wheyOf k).foldl (fun (t : State) e => t.writeBack e.1 e.2.2.1 e.2.2.2) s
  let s2 := dirty.foldl (fun (t : State) w => t.writeBack w.cls w.idx w.rec_) s1
  { s2 with flw := { s2.flw with sets := s2.flw.sets.filter (fun (e : Nat × List Way) => e.1 / 6144 != k), whey := Sparse.erase s2.flw.whey k,
                                 setupQ := Sparse.erase s2.flw.setupQ k } }
/-- The gates of a pipeline (R542): express frames are discarded and counted, and each running list restarts. -/
def State.resetGates (s : State) (pipe : Nat) : State :=
  (List.range 24).foldl (fun (t : State) j =>
    let port := 24 * pipe + j
    let n := (t.gte port).queue.length
    let t1 := if n = 0 then t else (t.flushExpress port).bump .EXP_DISCARD_DISABLE port n
    let g := t1.gte port
    let oper := g.oper.map (fun l => { l with start := changeTime l.start (l.cycleNs * todNs) t1.tod })
    t1.setGte port { g with oper := oper, cycleNo := none, entryNo := none, merge := false }) s
/-- The buffer pools of a slice (R402): every buffer FREE, the slice's chunks returned, quarantine and USED cleared. -/
def State.resetBuffers (s : State) (k : Nat) : State :=
  let chunks := s.tm.chunks.filter (fun (e : Nat × Nat) => e.2 != k + 1)
  let freed := s.tm.chunks.length - chunks.length
  let s1 := { s with tm := { s.tm with bufs := s.tm.bufs.filter (fun (e : Nat × BitVec 32) => e.1 / 98304 != k), chunks := chunks } }
  let s2 := (List.range 8).foldl (fun (t : State) r => t.wr Fld.BPM_REQ_USED_USED 0 k r) s1
  let s3 := (List.range 3).foldl (fun (t : State) p => t.wr Fld.BPM_POOL_STATUS_FREE (t.poolCount k p) k p) s2
  ((s3.wr Fld.BPM_SPILL_STATUS_CHUNKS_USED 0 k).setFreeChunks (s3.rd Fld.BPM_CHUNK_STATUS_FREE_CHUNKS + freed)).bpmQuiet k
/-- The queue block of a slice (R430): every queued and held packet is released and counted, and every stream resynchronises. -/
def State.resetQueues (s : State) (k : Nat) : State :=
  let mine := (s.tm.queues.filter (fun (e : Nat × Queue) => e.1 / 65536 == k)).map (fun e => e.1 % 65536)
  let s1 := mine.foldl (fun (t : State) q => t.flushQueue k q .QUE_DISABLED_DROP) s
  let gone := s1.tm.held.filter (fun h => h.slice == k) ++ Sparse.get s1.tm.repl k []
  let s2 := gone.foldl (fun (t : State) h => (t.freeChain k reqPacket h.chain).forget h.pkt) s1
  let s3 := (s2.tm.asms.filter (fun a => a.slice == k)).foldl (fun (t : State) a =>
    (t.freeChain k reqPacket a.chain).forget a.pkt) s2
  let m := s3.tm
  let ofSlice := fun (st : Nat) => if 1048576 ≤ st then (st - 1048576) / 4 == k else st / 262144 == k
  let streams := ((m.txSeq.map Prod.fst) ++ (m.rxNext.map Prod.fst)).filter ofSlice
  let rs := streams.foldl (fun (r : Sparse Bool) st => Sparse.insert r st true) m.resync
  let cells := m.xbar.filter (fun c => CellHdr.DST_SLICE.get c.hdr != k)
  let t := { m with held := m.held.filter (fun h => h.slice != k), repl := Sparse.erase m.repl k, asms := m.asms.filter (fun a => a.slice != k),
                    tombs := m.tombs.filter (fun x => x.slice != k), xbar := cells, resync := rs,
                    credits := m.credits.filter (fun (e : Nat × Nat) => e.1 % 4 != k) }
  ({ s3 with tm := t }).wr Fld.QUE_RSQ_STATUS_HELD 0 k
/-- The scheduler of a slice (R459): every V, S and F is 0, every credit BURST, every control credit full. -/
def State.resetSched (s : State) (k : Nat) : State :=
  let one := fun (e : Nat × Elem) =>
    if e.1 / 65536 / 5 = k then (e.1, { e.2 with v := 0, s := 0, f := 0, credit := (e.2.burst : Int) * 256 }) else e
  { s with sch := { s.sch with elems := s.sch.elems.map one, ctrl := s.sch.ctrl.filter (fun (e : Nat × (Int × Nat)) => e.1 / 32 != k) } }
/-- The policers of a pipeline: every bucket full, configuration kept (R459). -/
def State.fillPolicers (s : State) (pipe : Nat) : State :=
  let one := fun (e : Nat × Policer) =>
    if e.1 / 8192 = pipe then (e.1, { e.2 with c := e.2.cbs * 1024, e := e.2.ebs * 1024, at_ := s.now }) else e
  { s with sch := { s.sch with pols := s.sch.pols.map one } }
/-- A tide gate (R590): its used, borrowed and peak counts are zero; shares, staged values, carry and waiting requests stay. -/
def State.resetGate (s : State) (g : Nat) : State :=
  let t := s.setGate g { s.gate g with spent := [], admitted := [], borrowed := [], spareUsed := 0 }
  if g = 0 then
    (List.range 7).foldl (fun (u : State) a =>
      ((u.wr Fld.TTB_HB_LAST_USED 0 0 a).wr Fld.TTB_HB_BORROWED_BYTES 0 0 a).wr Fld.TTB_HB_PEAK_PEAK 0 0 a) t
  else
    (List.range 5).foldl (fun (u : State) a =>
      (u.wr Fld.TTB_SRAM_LAST_USED 0 (g - 1) a).wr Fld.TTB_SRAM_LAST_BORROWED 0 (g - 1) a) t
/-- The MACsec block of a pipeline (R137): every SA of its ports is cleared, with the registers that show it, and MKA restarts under the
sealed policy, which stays (R123), so that a controlled port is not operational until a new SA is in use. -/
def State.resetMacsec (s : State) (pipe : Nat) : State :=
  ((List.range 24).foldl (fun (t : State) j => t.setSecy (24 * pipe + j) SecY.init) s).clearRegs (inBlock 13 pipe 0x800 0x40000)
/-- The block instance named by a bit of RST_BLOCK_P (Table 25.9), but for the harbour controllers. -/
def State.resetPipeBlock (s : State) (bit p : Nat) : State :=
  match bit with
  | 0 => s.discardWork 15 p
  | 1 => s.resetRules p
  | 2 => (s.discardWork 17 p).abortOps p [opEmInsert, opEmDelete, opEmModify, opEmHitRead]
  | 3 => (s.discardWork 18 p).abortOps p [opRouteAdd, opRouteDelete, opRouteModify]
  | 4 => s.discardWork 19 p
  | 5 => s.discardWork 20 p
  | 6 => s.resetSlice p
  | 7 => s.discardWork 21 p
  | 8 => s.discardWork 22 p
  | 9 => s.resetMacsec p
  | 10 => s.resetGates p
  | 11 => s.resetBuffers p
  | 12 => s.resetQueues p
  | 13 => s.resetSched p
  | 14 => s.resetGate (p + 1)
  | _ => s

/-! ### Power domains (R741) and memory self-test (R778) -/

/-- The block instances of a switchable domain, with the offsets of their registers (Table 26.1). -/
def domainBlocks (d : Nat) : List (Nat × Nat × Nat × Nat) :=
  if d < 24 then []
  else if d < 28 then [12, 14, 15, 17, 18, 19].map (fun b => (b, d - 24, 0, 0x40000))
  else if d < 32 then [(20, d - 28, 0, 0x8000), (21, d - 28, 0, 0x40000), (22, d - 28, 0, 0x40000)]
  else if d < 36 then [(13, d - 32, 0, 0x40000)]
  else if d < 40 then [(16, d - 36, 0, 0x40000)]
  else if d < 44 then [23, 24, 25].map (fun b => (b, d - 40, 0, 0x40000))
  else if d < 48 then [(20, d - 44, 0x8000, 0x40000)]
  else if d = 52 ∨ d = 53 then [(26, d - 52, 0, 0x40000)]
  else if d = 56 then [(7, 0, 0, 0x40000)]
  else if d = 59 then [(30, 0, 0, 0x40000)]
  else []
/-- A register of a lane lies in a lane quad: its four lanes, and the octet register in the even quad. -/
def inQuad (q key : Nat) : Bool :=
  match regAt (key % 0x100000000) with
  | some r => r.reg.blk == 11 && r.reg.domain r.inst r.i == q
  | none => false
/-- Every memory of a domain takes its reset contents: tables, seeds, queues and the state that no register holds. -/
def State.clearArrays (s : State) (d : Nat) : State :=
  let p := d % 4
  if d < 24 then
    if d % 2 = 0 then { s with clk := { s.clk with octetFam := Sparse.erase s.clk.octetFam (d / 2), octetSynce := Sparse.erase s.clk.octetSynce (d / 2) } } else s
  else if d < 28 then
    let s1 := (List.range 24).foldl (fun (t : State) j => t.setPort (24 * p + j) Port.init) s
    { s1 with exms := Sparse.erase s1.exms p, lrns := Sparse.erase s1.lrns p, arbs := Sparse.erase s1.arbs p,
              fifos := s1.fifos.filter (fun (e : Nat × List FifoEnt) => e.1 / 32 != p) }
  else if d < 32 then
    { s with flw := { s.flw with chains := s.flw.chains.filter (fun ch => ch.pipe != p) },
             edt := { s.edt with ident := Sparse.erase s.edt.ident p,
                                 mirrorCount := s.edt.mirrorCount.filter (fun (e : Nat × Nat) => e.1 / 8 != p) },
             sch := { s.sch with pols := s.sch.pols.filter (fun (e : Nat × Policer) => e.1 / 8192 != p) } }
  else if d < 36 then (List.range 24).foldl (fun (t : State) j => t.setSecy (24 * p + j) SecY.init) s
  else if d < 40 then { s with rbks := Sparse.erase s.rbks p }
  else if d < 44 then
    let m := s.tm
    let s1 := (s.resetQueues p).resetBuffers p
    { s1 with tm := { s1.tm with qcfg := m.qcfg.filter (fun (e : Nat × BitVec 32) => e.1 / 65536 != p),
                                 maps := m.maps.filter (fun (e : Nat × QMap) => e.1 / 65536 % 4 != p),
                                 mapQ := m.mapQ.filter (fun w => w.slice != p),
                                 queues := s1.tm.queues.filter (fun (e : Nat × Queue) => e.1 / 65536 != p),
                                 holdUntil := s1.tm.holdUntil.filter (fun (e : Nat × Nat) => e.1 / 24 != p),
                                 moves := s1.tm.moves.filter (fun x => x.slice != p) },
              sch := { s1.sch with elems := s1.sch.elems.filter (fun (e : Nat × Elem) => e.1 / 65536 / 5 != p),
                                   ctrl := s1.sch.ctrl.filter (fun (e : Nat × (Int × Nat)) => e.1 / 32 != p) } }
  else if d < 48 then
    { s with flw := { s.flw with seeds := s.flw.seeds.filter (fun (e : Nat × Nat) => groupSlice e.1 != p),
                                 sets := s.flw.sets.filter (fun (e : Nat × List Way) => e.1 / 6144 != p),
                                 whey := Sparse.erase s.flw.whey p, setupQ := Sparse.erase s.flw.setupQ p,
                                 stalled := s.flw.stalled.filter (fun (e : Nat × List (Nat × Bool)) => e.1 / 6144 != p) } }
  else if d = 48 ∨ d = 49 then { s with tm := { s.tm with xbar := s.tm.xbar.filter (fun c => c.plane != d - 48) } }
  else if d = 52 ∨ d = 53 then
    { s with hbc := { s.hbc with wins := s.hbc.wins.filter (fun (e : Nat × List HbReq) => e.1 / 32 != d - 52),
                                 busy := s.hbc.busy.filter (fun (e : Nat × List HbReq) => e.1 / 32 != d - 52) } }
  else if d = 54 ∨ d = 55 then
    { s with kpr := { s.kpr with engines := s.kpr.engines.filter (fun (e : Nat × Engine) => e.1 / 8 != d - 54) } }
  else if d = 56 then { s with hst := { Hst.init with inReset := s.hst.inReset } }
  else if d = 57 then { s with edt := { s.edt with capBuf := [], lost := [] } }
  else if d = 58 then (List.range 96).foldl (fun (t : State) port => t.flushExpress port) s
  else if d = 59 then
    let keep := s.flt
    { s with flt := { Flt.init with pairDigest := keep.pairDigest } }
  else s
/-- A domain holds nothing any more (R741): its registers, counters and memories are at their reset values. -/
def State.clearDomain (s : State) (d : Nat) : State :=
  let work := (domainBlocks d).foldl (fun (t : State) e => t.discardWork e.1 e.2.1) s
  let s1 := work.clearArrays d
  let s2 := s1.clearRegs (fun k => (domainBlocks d).any (fun e => inBlock e.1 e.2.1 e.2.2.1 e.2.2.2 k) || (decide (d < 24) && inQuad d k))
  let whole := (domainBlocks d).filter (fun e => e.2.2.1 == 0)
  s2.clearCtrs (fun c i => whole.any (fun e => c.home.1 == e.1 && c.home.2 != 0 && c.instOf i == e.2.1))

end Sys2Proof.Machine
end

