-- ==== Sys2Proof/Machine/ResetOps.lean ====
section
/-! DEFINITION. How a device reset starts and what it clears (spec 25, R720 to R727, R731, R734): the cause ring and counts, the
trigger, and the warm and cold clears. -/
namespace Sys2Proof.Machine

open Sys2Proof.Config

/-! ### The backup domain (R734) -/

/-- The source number of a cause in RST_SRC_COUNT (R734). -/
def sourceIndex (cause detail : Nat) : Nat :=
  if cause = 1 then 0 else if cause = 2 then 8 + detail else cause - 2
/-- Count a reset: RST_COUNT wraps, the count of its source saturates. -/
def State.countReset (s : State) (cause detail : Nat) : State :=
  let t := s.wr Fld.RST_COUNT_COUNT ((s.rd Fld.RST_COUNT_COUNT + 1) % 2 ^ 32)
  let i := sourceIndex cause detail
  let f := if i % 2 = 0 then Fld.RST_SRC_COUNT_COUNT_LO else Fld.RST_SRC_COUNT_COUNT_HI
  t.wr f (min 65535 (t.rd f 0 (i / 2) + 1)) 0 (i / 2)
/-- A cause ring entry (Table 25.6), with the counts already advanced. -/
def State.causeEntry (s : State) (cause detail : Nat) (warm retained : Bool) : BitVec 128 :=
  let tv := s.on Fld.LHT_STATUS_TIME_VALID
  setFields 0 [(CauseEntry.CAUSE, cause), (CauseEntry.DETAIL, detail), (CauseEntry.WARM, warm.toNat), (CauseEntry.TIME_VALID, tv.toNat),
    (CauseEntry.RETAINED, retained.toNat), (CauseEntry.LHT_KEPT, (warm && s.on Fld.LHT_KEEP_EN).toNat),
    (CauseEntry.PHASE, s.rd Fld.RST_STATUS_PHASE), (CauseEntry.COUNT, s.rd Fld.RST_COUNT_COUNT),
    (CauseEntry.SEC, if tv then s.todSec else 0), (CauseEntry.MS, if tv then s.todNsec / 1000000 else 0)]
/-- Step 1 of R726: the counts, and, except for POWER_ON, the ring entry. -/
def State.recordReset (s : State) (cause detail : Nat) (warm retained : Bool) : State :=
  let t := s.countReset cause detail
  if cause = 1 then t
  else
    let e := t.causeEntry cause detail warm retained
    let u := { t with backup := { t.backup with causes := (e :: t.backup.causes).take 16 } }
    u.wr Fld.RST_LAST_ENTRY (e.toNat % 2 ^ 32)

/-! ### Retention (R725) -/

/-- HBC_CTRL.RETAIN is 1 in both controllers. -/
def State.retainOn (s : State) : Bool := s.on Fld.HBC_CTRL_RETAIN 0 && s.on Fld.HBC_CTRL_RETAIN 1
/-- The cause allows harbour contents to be kept. -/
def causeRetains (cause detail : Nat) : Bool :=
  cause == 3 || cause == 4 || cause == 5 || cause == 6 || cause == 8 || (cause == 2 && (detail == 2 || detail == 3))
/-- A warm reset of this cause keeps harbour contents. -/
def State.retains (s : State) (cause detail : Nat) : Bool := s.retainOn && causeRetains cause detail && s.rst.adoptable

/-! ### What the clears keep (Table 25.2, Table 25.5) -/

/-- A register of the backup domain: RST_LAST, RST_COUNT, RST_SRC_COUNT, IMG_ATTEMPTS, IMG_PREFER and RND_TAMPER_COUNT. -/
def backupReg (k : Nat) : Bool :=
  (decide (0x100008 ≤ k ∧ k < 0x100030)) || k == 0x500004 || k == 0x500008 || k == 0x600314
/-- A register a warm reset keeps: those of SUP and of the rind, LHT_KEEP, the lighthouse when it is kept, DGN_CFG and HBC_FAULT_CFG
(R491, R575, R776). -/
def warmKeeps (lht : Bool) (k : Nat) : Bool :=
  backupReg k || [1, 2, 3, 5, 6].any (fun b => inBlock b 0 0 0x40000 k) || (lht && inBlock 27 0 0 0x40000 k)
    || k == Reg.LHT_KEEP.base || k == Reg.DGN_CFG.base || k == Reg.HBC_FAULT_CFG.addr 0 0 0 || k == Reg.HBC_FAULT_CFG.addr 1 0 0
/-- What the table-shadow area holds now (Table 8.4). -/
def State.stashNow (s : State) : Stash :=
  let ofEx := fun (e : Nat × Exm) =>
    (e.1, { e.2 with slots := e.2.slots.filter (fun (x : Nat × BitVec 512) => !emLearned x.2), hits := [], faulty := [], faultyRes := [],
                     faultyRoutes := [], faultyExp := [], exmHeld := false, lpmHeld := false })
  let ofRb := fun (e : Nat × Rbk) => (e.1, { Rbk.init with rows := e.2.rows, acts := e.2.acts })
  let shadowed := fun (k : Nat) =>
    (List.range 4).any (fun p => inBlock 17 p 0 0x40000 k || inBlock 18 p 0 0x40000 k || perSlotAddr p (k % 0x100000000))
  { regs := s.regs.keep shadowed, exms := s.exms.map ofEx, rbks := s.rbks.map ofRb,
    banks := (s.ports.map (fun (e : Nat × Port) => (e.1, e.2.gte.bank))).filter (fun (e : Nat × Sparse (BitVec 64)) => !e.2.isEmpty),
    tags := s.lrns.map (fun (e : Nat × Lrn) => (e.1, e.2.shadows)),
    second := (List.range 4).filter (fun p => s.curSlot p == 1) }

/-! ### The clears -/

/-- A reference after a reset of the clock block: it starts to qualify again if it is there. -/
def RefClk.again (r : RefClk) (now : Nat) : RefClk := { r with goodSince := if r.present then some now else none }
/-- Cold reset asserted (Table 25.2): everything but the backup domain, the fuses and the identity area takes its reset value.  A
thermal trip holds until PWRGOOD falls (R756). -/
def State.coldClear (s : State) : State :=
  let tripped := !s.pins.thermTripN
  let t := { State.reset with
    pending := s.pending, now := s.now, fresh := s.fresh, out := s.out, regs := s.regs.keep backupReg, backup := s.backup,
    pins := { s.pins with scanHold := false },
    rind := { Rind.init with fuse0 := s.rind.fuse0, fuse1 := s.rind.fuse1, fuse2 := s.rind.fuse2, ownerCert := s.rind.ownerCert,
                             virongCert := s.rind.virongCert },
    clk := { refA := s.clk.refA.again s.now, refB := s.clk.refB.again s.now, relocks := [], octetFam := [], octetSynce := [] },
    rst := { Rst.init with asserted := true, phaseAt := s.now } }
  if tripped then t.wr Fld.PWR_TEMP_TRIPPED 1 else t

/-- The rind reruns its boot ROM (Table 25.2): the key store is zeroised, and what only runs ends. -/
def Rind.rerun (r : Rind) : Rind :=
  { r with fusesRead := false, keys := [], op := none, winIn := [], winOut := [], challenge := none, runSince := none, recheckAt := none,
           patchCommit := none, blow := [] }
/-- Registers of the kept blocks that say what runs now. -/
def State.clearRuns (s : State) : State :=
  let f := [Fld.RST_STATUS_PHASE, Fld.RST_STATUS_TRIM_OK, Fld.RST_STATUS_ADOPTED, Fld.RST_BLOCK_BUSY_BUSY, Fld.RND_CMD_BUSY,
    Fld.RND_CMD_RESULT, Fld.RND_SVN_COMMIT_PENDING, Fld.RND_KEYS_CAK_USED, Fld.IMG_STATUS_STATE, Fld.IMG_FLASH_CMD_BUSY, Fld.PWR_STATUS_BUSY]
  f.foldl (fun (t : State) x => t.wr x 0) s
/-- Warm reset asserted (Table 25.2, Table 25.5), with harbour contents retained or not. -/
def State.warmClear (s : State) (retain : Bool) : State :=
  let lht := s.on Fld.LHT_KEEP_EN
  let keep := if lht then [2, 3, 4, 5, 6].foldl (fun (t : State) r => t.refGone r) s else s
  let lost := !retain && (s.on Fld.HBC_CTRL_RETAIN 0 || s.on Fld.HBC_CTRL_RETAIN 1)
  let rst := { Rst.init with
    asserted := true, phaseAt := s.now, cold := false, retained := retain, adoptable := retain,
    stateDigest := if retain then s.rst.stateDigest else none, retainLost := lost,
    stash := if retain then some (s.rst.stash.getD s.stashNow) else none }
  let t := { s.coldClear with
    regs := keep.regs.keep (warmKeeps lht), bad := keep.bad.keep (warmKeeps lht), tod := if lht then s.tod else 0,
    lht := if lht then keep.lht else Lht.init, rind := s.rind.rerun, rst := rst, pwr := { s.pwr with todo := [] }, clk := { s.clk with octetFam := [], octetSynce := [] },
    pins := s.pins, img := { Img.init with shadowDigest := if retain then s.img.shadowDigest else none },
    hbc := { Hbc.init with repaired := s.hbc.repaired },
    flw := if retain then { Flw.init with area := s.flw.area, gens := s.flw.gens, seedCopy := s.flw.seedCopy, freeBlocks := s.flw.freeBlocks, portMap := s.flw.portMap }
      else Flw.init,
    ups := if retain then { Ups.init with recs := s.ups.recs } else Ups.init }
  let u := (List.range 2).foldl (fun (x : State) st =>
    let y := (x.wr Fld.HBC_CTRL_RETAIN (s.rd Fld.HBC_CTRL_RETAIN st) st).wr Fld.HBC_REPAIR_STATUS_LISTED (s.rd Fld.HBC_REPAIR_STATUS_LISTED st) st
    if retain then y.wr Fld.HBC_CTRL_SR_ACTIVE 1 st else y) t
  u.clearRuns

/-- Release starts: the pins ask for no reset, and reset is asserted. -/
def State.startRelease (s : State) : State :=
  if s.rst.asserted && s.pins.resetN && s.pins.pwrgood && !s.pins.scanHold then
    { s with rst := { s.rst with asserted := false, phaseNext := 0, phaseAt := s.now } }
  else s

/-! ### Triggers (R720, R726, R727) -/

/-- A reset is triggered.  A cold one ends every step in progress and clears at once.  A warm one starts R726, stopping a release
or a switch of domains in progress (R746); during the steps of another it is recorded, and only lets the retention go when its cause does not allow it. -/
def State.trigger (s : State) (cause detail : Nat) (cold : Bool) : State :=
  if cold then (s.recordReset cause detail false false).coldClear.startRelease
  else
    match s.rst.run with
    | some r =>
      let keep := r.retain && causeRetains cause detail
      let t := s.recordReset cause detail true keep
      { t with rst := { t.rst with run := some { r with retain := keep } } }
    | none =>
      if s.rst.asserted then
        let keep := s.rst.retained && causeRetains cause detail
        let t := s.recordReset cause detail true keep
        let lost := t.rst.retainLost || (t.rst.retained && !keep)
        { t with rst := { t.rst with retained := keep, adoptable := t.rst.adoptable && keep, retainLost := lost } }
      else
        let keep := s.retains cause detail
        let t := (s.recordReset cause detail true keep).wr Fld.PWR_STATUS_BUSY 0
        let run : ResetRun := { cause := cause, detail := detail, cold := false, retain := keep, at_ := t.now, held := false }
        { t with rst := { t.rst with run := some run }, pwr := { t.pwr with todo := [] } }

end Sys2Proof.Machine
end

