-- ==== Sys2Proof/Machine/RindOps.lean ====
section
/-! DEFINITION. What the rind does (spec 23): fuses, the tamper log, the key store, image and debug checks, and the failure of an image
load attempt (spec 24, R690, R691). -/
namespace Sys2Proof.Machine

open Sys2Proof.Config

/-! ### Fuses (R658 to R661) -/

/-- Copies a record's bits as bytes, byte 0 first. -/
def bvBytes {n : Nat} (k : Nat) (w : BitVec n) : List Byte := bytesOfNat k w.toNat
/-- The bits that are 1 among the lowest `n` of a number. -/
def onesIn (n v : Nat) : List Nat := (List.range n).filter (fun i => v / 2 ^ i % 2 == 1)
/-- Blown bits of a version field: its count (R659). -/
def thermo (f : BitFld) (w : BitVec 2048) : Nat := (onesIn f.width (f.get w)).length
/-- IMAGE_SVN and PATCH_SVN. -/
def Rind.imageSvn (r : Rind) : Nat := thermo Fuse.IMAGE_SVN r.fuses
/-- See `Rind.imageSvn`. -/
def Rind.patchSvn (r : Rind) : Nat := thermo Fuse.PATCH_SVN r.fuses
/-- SET and REVOKED of an owner slot, and its hash. -/
def ownerSet (w : BitVec 2048) (slot : Nat) : Bool := (if slot = 0 then Fuse.OWNER0_SET else Fuse.OWNER1_SET).on w
/-- See `ownerSet`. -/
def ownerRevoked (w : BitVec 2048) (slot : Nat) : Bool := (if slot = 0 then Fuse.OWNER0_REVOKED else Fuse.OWNER1_REVOKED).on w
/-- See `ownerSet`. -/
def ownerHash (w : BitVec 2048) (slot : Nat) : Nat := (if slot = 0 then Fuse.OWNER_HASH0 else Fuse.OWNER_HASH1).get w
/-- A slot is usable (R660). -/
def ownerUsable (w : BitVec 2048) (slot : Nat) : Bool := ownerSet w slot && !ownerRevoked w slot
/-- At least one owner slot is usable. -/
def owned (w : BitVec 2048) : Bool := ownerUsable w 0 || ownerUsable w 1
/-- The usable slot whose hash a key has. -/
def slotOfKey (w : BitVec 2048) (hash : BitVec 384) : Option Nat :=
  (List.range 2).find? (fun k => ownerUsable w k && ownerHash w k == hash.toNat)
/-- The lowest bit of the fuse field that holds a bit (Table 23.1). -/
def fuseField (i : Nat) : Nat :=
  ([384, 768, 1152, 1408, 1472, 1504, 1505, 1506, 1507, 1508, 1509, 1510, 1511, 1512].filter (fun b => decide (b ≤ i))).foldl max 0
/-- RND_STATUS and RND_SVN follow the fuses. -/
def State.showFuses (s : State) : State :=
  let w := s.rind.fuses
  let st := (ownerUsable w 0).toNat + (ownerUsable w 1).toNat * 2
  (((s.wr Fld.RND_STATUS_OWNER_STATE st).wrB Fld.RND_STATUS_KWK_SET (Fuse.KWK_SET.on w)).wr Fld.RND_SVN_IMAGE_SVN s.rind.imageSvn).wr
    Fld.RND_SVN_PATCH_SVN s.rind.patchSvn

/-! ### The tamper log (R683) -/

/-- Write an entry: the newest first, at most 32. -/
def State.tamper (s : State) (kind detail : Nat) : State :=
  let tv := s.on Fld.LHT_STATUS_TIME_VALID
  let e : BitVec 128 := setFields 0 [(TamperEntry.KIND, kind), (TamperEntry.DETAIL, detail), (TamperEntry.TIME, if tv then s.tod96 else 0)]
  let t := { s with backup := { s.backup with tamper := (e :: s.backup.tamper).take 32 } }
  t.wr Fld.RND_TAMPER_COUNT_COUNT ((s.rd Fld.RND_TAMPER_COUNT_COUNT + 1) % 2 ^ 32)

/-! ### The key store (R676 to R679) -/

/-- CAK_USED follows the store. -/
def State.showKeys (s : State) : State := s.wr Fld.RND_KEYS_CAK_USED s.rind.keys.length
/-- The store is zeroised (R679): every slot is free, its generation kept; a port with KEY_SOURCE = 1 raises EVT 5.6. -/
def State.zeroise (s : State) : State :=
  let t := ({ s with rind := { s.rind with keys := [] } }).showKeys
  ((List.range 96).filter (fun p => s.onP Fld.MSC_PORT_CFG_KEY_SOURCE p)).foldl (fun (u : State) p => u.raise Ev.MSC_KEY_MISSING .port p) t
/-- Every SA key is zeroised (R682): no SA is in use, and every controlled port is not operational (R126). -/
def State.zeroiseSas (s : State) : State :=
  (List.range 96).foldl (fun (t : State) p =>
    let y := t.secy p
    (t.setSecy p { y with txSas := [], rx := y.rx.map (fun c => { c with sas := [] }), pending := none, linger := [], dist := none, latest := none, saks := [], cakAn := [] }).showTxSa p) s
/-- A free slot: the lowest. -/
def State.freeCak (s : State) : Option Nat := (List.range 512).find? (fun i => (Sparse.find s.rind.keys i).isNone)
/-- The handle of a slot: generation × 512 + slot. -/
def State.cakHandle (s : State) (i : Nat) : Nat := Sparse.get s.rind.keyGen i 0 * 512 + i
/-- Store a CAK. -/
def State.putCak (s : State) (i : Nat) (c : CakSlot) : State := ({ s with rind := { s.rind with keys := Sparse.insert s.rind.keys i c } }).showKeys
/-- Zeroise a slot and increment its generation, which wraps at 128. -/
def State.dropCak (s : State) (i : Nat) : State :=
  let g := (Sparse.get s.rind.keyGen i 0 + 1) % 128
  ({ s with rind := { s.rind with keys := Sparse.erase s.rind.keys i, keyGen := Sparse.put s.rind.keyGen i g 0 } }).showKeys
/-- An uncorrectable ECC error in a slot zeroises it and is raised for each port that the slot serves (R679). -/
def State.keyEcc (s : State) (i : Nat) : State :=
  let ports := (Sparse.find s.rind.keys i).elim [] CakSlot.ports
  let t := ({ s with rind := { s.rind with keys := Sparse.erase s.rind.keys i } }).showKeys
  ports.foldl (fun (u : State) p => u.raise Ev.RND_KEY_ECC .port p i) t
/-- Host CAKs of a port. -/
def State.hostCaks (s : State) (port : Nat) : List Nat :=
  (s.rind.keys.filter (fun (e : Nat × CakSlot) => e.2.host && e.2.ports.contains port)).map Prod.fst

/-! ### Image checks (R662, R699) -/

/-- Bytes from the start of a slot to the end of its manifest (R696). -/
def manifestLen (n : Nat) : Nat := 128 + 64 * n + 96
/-- The stride of the flash slots (R689). -/
def State.stride (s : State) : Nat := [32, 64, 128, 192].getD (s.rd Fld.IMG_NVM_STATUS_STRIDE) 32 * 1048576
/-- Sections ascend without overlap from an offset. -/
def sectionsRise : Nat → List Section → Bool
  | _, [] => true
  | b, x :: r => decide (b ≤ x.offset) && sectionsRise (x.offset + x.length) r
/-- A section's body length fits its entries (Table 24.4). -/
def lengthFits (x : Section) : Bool :=
  decide (8 ≤ x.length) && (x.kind != 1 || x.length % 8 == 0) && (x.kind != 2 || (decide (32 ≤ x.length) && x.length % 32 == 0))
    && (x.kind != 4 || x.length % 128 == 0)
/-- The manifest is refused as BAD_HEADER: it breaks R699, or a limit of Tables 24.2 and 24.3 (Table 24.1, cause 2). -/
def badHeader (stride slot : Nat) (m : Manifest) : Bool :=
  m.magic != 0x544F4C4E || m.format != 1 || m.reserved != 0 || decide (stride < m.imageLen) || m.sections.isEmpty
    || decide (256 < m.sections.length) || decide (64 < m.svn) || m.patch || m.sections.any (fun x => x.offset % 256 != 0)
    || !sectionsRise (manifestLen m.sections.length) m.sections
    || m.sections.any (fun x => decide (m.imageLen < x.offset + x.length) || x.kind == 0 || decide (6 < x.kind) || (x.late && x.kind != 1)
        || x.reserved != 0 || !lengthFits x || (slot == 2 && x.kind == 6))
    || !m.sections.any (fun x => x.kind == 2)
/-- The first check of Table 23.2 that a manifest fails, or 0 (R660, R662). -/
def Rind.refusal (r : Rind) (m : Manifest) : Nat :=
  let w := r.fuses
  let known := if owned w then (slotOfKey w m.signerHash).isSome else m.signerHash == virongRootHash
  let revoked := (List.range 2).any (fun k => ownerSet w k && ownerRevoked w k && ownerHash w k == m.signerHash.toNat)
  if !known then (if revoked then 2 else 1)
  else if !m.sigOk then 3
  else if m.svn < r.imageSvn then 4
  else 0
/-- A patch manifest is refused (R664). -/
def State.patchRefusal (s : State) (m : Manifest) : Nat :=
  let w := s.rind.fuses
  let known := if owned w then (slotOfKey w m.signerHash).isSome else m.signerHash == virongRootHash
  let revoked := (List.range 2).any (fun k => ownerSet w k && ownerRevoked w k && ownerHash w k == m.signerHash.toNat)
  if !known then (if revoked then 2 else 1)
  else if !m.sigOk then 3
  else if m.svn < s.rind.patchSvn ∨ m.ucodeVersion ≠ s.rd Fld.KPR_UCODE_VERSION then 4
  else 0
/-- A patch is refused: EVT 26.2, counted and logged (R664, R691). -/
def State.refusePatch (s : State) (code : Nat) : State :=
  ((s.bump .RND_PATCH_REJECTS).tamper 4 code).raise Ev.RND_PATCH_REJECT
/-- MEAS after a manifest digest has been added to it (R670). -/
def extendMeas (meas : BitVec 384) (digest : BitVec 384) : BitVec 384 := sha384 (bvBytes 48 meas ++ bvBytes 48 digest)

/-! ### The failure of an attempt (R690, R691) -/

/-- Blocks the loader writes that a failed attempt resets: every one but SUP, RST, PWR, CLK, EVT, IMG, RND, HBC and LHT, whose
state is no image's. -/
def resetOnFail (b : Nat) : Bool := !([0, 1, 2, 3, 4, 5, 6, 26, 27].contains b)
/-- The tables that TABLE commands have filled are empty again. -/
def State.clearTables (s : State) : State :=
  let ports := s.ports.map (fun (e : Nat × Port) => (e.1, { e.2 with gte := { Gte.init with queue := e.2.gte.queue } }))
  { s with rbks := [], exms := [], lrns := [], ports := ports, tm := { s.tm with masks := [], lists := [], qcfg := [], maps := [], mapQ := [] } }
/-- The blocks an attempt has written are reset, and disabled with it. -/
def State.resetWritten (s : State) (bs : List Nat) : State :=
  let t := (bs.filter resetOnFail).foldl (fun (u : State) b => (List.range 4).foldl (fun (x : State) i => x.clearBlock b i) u) s
  let u := if bs.contains 26 then (t.wr Fld.HBC_CTRL_EN 0 0).wr Fld.HBC_CTRL_EN 0 1 else t
  let v := if bs.contains 6 then (u.wr Fld.RND_RIGHTS_RIGHTS 0).wr Fld.RND_WR_BLOCKS_BLOCKS 0 else u
  if 8 ≤ v.rst.phaseNext then v.clearTables else v
/-- Record the cause of a failed attempt (R691). -/
def State.recordFail (s : State) (slot cause : Nat) : State :=
  (((s.wr Fld.IMG_STATUS_FAIL_REASON cause).wr Fld.IMG_STATUS_FAIL_SLOT slot).bump .IMG_FAILED slot).raise Ev.IMG_ATTEMPT_FAIL
/-- The software reset that the loader sends the flash between attempts and before it gives it up (R695): in the current mode, and again
in single-line mode. -/
def State.resetFlash (s : State) : State := (s.emit (.nvmReset (s.rd Fld.IMG_NVM_STATUS_MODE))).emit (.nvmReset 0)
/-- The attempt fails (R690): what it wrote is reset, the key store zeroised, the flash back in single-line mode, and release goes back
to the start of phase 6. -/
def State.failAttempt (s : State) (cause : Nat) : State :=
  match s.img.attempt with
  | none => s
  | some a =>
    let t := ((s.resetWritten (if 7 < s.rst.phaseNext then 29 :: a.written else a.written)).zeroise).recordFail a.slot cause
    let img := { t.img with attempt := none, failedAt := some t.now, tableFailed := false }
    let u := { t with img := img, rst := { t.rst with phaseNext := 6, phaseAt := t.now },
                      rind := { t.rind with blow := [] }, backup := { t.backup with openAttempt := Sparse.erase t.backup.openAttempt a.slot } }
    (u.resetFlash.wr Fld.IMG_NVM_STATUS_MODE 0).wr Fld.RST_STATUS_PHASE 5
/-- The rind refuses the image (R662, R691). -/
def State.refuseImage (s : State) (code : Nat) : State :=
  let slot := s.img.attempt.elim 0 Attempt.slot
  let t := ((s.wr Fld.RND_VERIFY_STATUS_REASON code).wr Fld.RND_VERIFY_STATUS_SLOT slot).bump .RND_IMAGE_REJECTS
  ((t.tamper 3 code).raise Ev.RND_IMAGE_REJECT).failAttempt 3
/-- The running attempt changes. -/
def State.setAttempt (s : State) (a : Attempt) : State := { s with img := { s.img with attempt := some a } }

end Sys2Proof.Machine
end

