-- ==== Sys2Proof/Machine/KeeperOps.lean ====
section
/-! DEFINITION. What the keeper cluster's commands share (spec 21, R594 to R609): the task table, hold sections, engine lock-ups,
task moves, cluster resets and patches. -/
namespace Sys2Proof.Machine

open Sys2Proof.Config

/-! ### Engines and tasks (R597 to R604) -/

/-- STATE of an engine: running, in reset, fenced, standby (Table 21.9). -/
def engRun : Nat := 0
/-- See `engRun`. -/
def engReset : Nat := 1
/-- See `engRun`. -/
def engFenced : Nat := 2
/-- See `engRun`. -/
def engStandby : Nat := 3
/-- An engine. -/
def State.engine (s : State) (e : Nat) : Engine := Sparse.get s.kpr.engines e Engine.init
/-- Replace an engine; IN_HOLD follows. -/
def State.setEngine (s : State) (e : Nat) (g : Engine) : State :=
  ({ s with kpr := { s.kpr with engines := Sparse.put s.kpr.engines e g Engine.init } }).wrB Fld.KPR_ENGINE_STATUS_IN_HOLD g.hold.isSome 0 e
/-- STATE of an engine. -/
def State.engState (s : State) (e : Nat) : Nat := s.rd Fld.KPR_ENGINE_STATUS_STATE 0 e
/-- The power domain of an engine (spec 21): KEEP0 or KEEP1. -/
def engDomain (e : Nat) : Nat := 54 + e / 8
/-- The engine of a task, and its generation. -/
def State.taskEngine (s : State) (t : Nat) : Nat := s.rd Fld.KPR_TASK_ENGINE 0 t
/-- See `State.taskEngine`. -/
def State.taskGen (s : State) (t : Nat) : Nat := s.rd Fld.KPR_TASK_GEN 0 t
/-- The tasks of Table 21.2. -/
def allTasks : List Nat := List.range 14
/-- The keepers run: KPR_CTRL.EN is 1 and no cluster reset is in progress. -/
def State.keepersRun (s : State) : Bool := s.on Fld.KPR_CTRL_EN && s.kpr.resetAt.isNone
/-- TASKS of every engine follows the task table. -/
def State.showTasks (s : State) : State :=
  (List.range 16).foldl (fun (t : State) e =>
    t.wr Fld.KPR_ENGINE_STATUS_TASKS (allTasks.filter (fun k => t.taskEngine k == e)).length 0 e) s
/-- Every task starts on its HOME engine, and the other engines are STANDBY (R602). -/
def State.startTasks (s : State) : State :=
  let t := allTasks.foldl (fun (x : State) k => (x.wr Fld.KPR_TASK_ENGINE (x.rd Fld.KPR_TASK_HOME 0 k) 0 k).wr Fld.KPR_TASK_RUNNING 1 0 k) s
  let used := fun (e : Nat) => allTasks.any (fun k => t.rd Fld.KPR_TASK_HOME 0 k == e)
  let u := (List.range 16).foldl (fun (x : State) e =>
    x.wr Fld.KPR_ENGINE_STATUS_STATE (if used e then engRun else engStandby) 0 e) t
  let p : Sparse Nat := allTasks.map (fun k => (k, s.now))
  ({ u with kpr := { u.kpr with progress := p, wdtFrom := some s.now, beatAt := s.now } }).showTasks

/-! ### Lock-ups (R605) -/

/-- A task has to move (R604); one that waits already keeps its place. -/
def State.askMove (s : State) (task : Nat) (tag : Option Nat) : State :=
  if s.kpr.moves.any (fun m => m.1 == task && m.2.2 == tag) then s
  else { s with kpr := { s.kpr with moves := s.kpr.moves ++ [(task, s.now, tag)] } }
/-- An engine locks up (R605): its hold is discarded whole, it is reset alone, and its tasks have to move; the third time within 1 s it
is FENCED. -/
def State.lockUp (s : State) (e : Nat) : State :=
  let g := s.engine e
  let third : Bool := match (g.lockups.drop 1).head? with | some t => decide (s.now < t + sClk) | none => false
  let g' : Engine := { Engine.init with lockups := (s.now :: g.lockups).take 2, resetAt := if third then none else some s.now }
  let t := ((s.setEngine e g').wr Fld.KPR_ENGINE_STATUS_STATE (if third then engFenced else engReset) 0 e).wr Fld.KPR_ENGINE_STATUS_LOCKUPS
    (min 255 (s.rd Fld.KPR_ENGINE_STATUS_LOCKUPS 0 e + 1)) 0 e
  let u := (t.bump .KPR_LOCKUPS e).raise Ev.KPR_ENGINE_LOCKUP .engine e
  (allTasks.filter (fun k => u.taskEngine k == e)).foldl (fun (x : State) k => (x.wr Fld.KPR_TASK_RUNNING 0 0 k).askMove k none) u
/-- A hold overruns (R601). -/
def State.overrun (s : State) (e : Nat) : State := (s.bump .KPR_HOLD_OVERRUNS e).lockUp e

/-! ### Instructions (R597 to R601) -/

/-- An engine waits for the restore of the control-store word it has fetched (R595). -/
def State.fetchWaits (s : State) (e : Nat) : Bool :=
  match (s.engine e).fetch with
  | some w => (Sparse.find s.kpr.csBad w).isSome
  | none => false
/-- An engine executes an instruction of a task: it runs, nothing has stopped it, the task is on it, and the engine switches task only
at a YIELD or a WAIT. -/
def State.mayExecute (s : State) (e task : Nat) : Bool :=
  let g := s.engine e
  s.keepersRun && !s.perturbs 2 e && s.domainUp (engDomain e) && s.engState e == engRun && !g.stopped && !s.fetchWaits e && s.on Fld.KPR_TASK_RUNNING 0 task
    && s.taskEngine task == e && (g.cur.isNone || g.cur == some task)
/-- Changes of a task reach the commit port (R600). -/
def State.submit (s : State) (task : Nat) (cs : List KChange) : State :=
  if cs.isEmpty then s
  else
    let c : Commit := { task := task, gen := s.taskGen task, changes := cs, since := s.now }
    { s with kpr := { s.kpr with commitQ := s.kpr.commitQ ++ [c] } }
/-- Whether an instruction writes its engine's data memory is the microcode's, and open; an injection armed for that memory takes the
first that does (R780). -/
def State.dataWrite (s : State) (e : Nat) : State :=
  if s.on Fld.DGN_INJ_CFG_ARM && s.rd Fld.DGN_INJ_CFG_TARGET == 7 && freeBool s.fresh then s.draw.injectFire 7 e 0 else s
/-- What the check of an instruction's data-memory word finds; whether it reads a word in which an error was planted is open (R596,
R780). -/
def State.dataRead (s : State) (e named : Nat) : State × Nat :=
  if (Sparse.find s.dgn.planted (plantKey 7 e 0)).isNone then (s, named)
  else if freeBool s.fresh then s.draw.readWord 7 e 0 named else (s.draw, named)
/-- An engine executes an instruction word with its visible changes: inside a hold they are staged, and the 513th instruction or the
33rd change overruns (R599, R601); outside, each goes to the commit port when the instruction completes, and the results that have
returned are sampled (R598).  Then the control operation takes effect. -/
def State.execute (s : State) (e task : Nat) (cs : List KChange) (f : State → State) : State :=
  if s.mayExecute e task then
    let g := s.engine e
    let s := s.dataWrite e
    match g.hold with
    | some n =>
      if 512 ≤ n ∨ 32 < g.staged.length + cs.length then s.overrun e
      else f (s.setEngine e { g with cur := some task, hold := some (n + 1), staged := g.staged ++ cs })
    | none =>
      let t := { s with kpr := { s.kpr with results := s.kpr.results.filter (fun k => k != task) } }
      f ((t.setEngine e { g with cur := some task }).submit task cs)
  else s
/-- A task records progress (R605). -/
def State.progressed (s : State) (task : Nat) : State :=
  { s with kpr := { s.kpr with progress := Sparse.insert s.kpr.progress task s.now } }
/-- An engine reaches a YIELD or a WAIT: it may switch task; at a YIELD with no hold open it stops for a patch that waits (R609). -/
def State.letGo (s : State) (e task : Nat) (yields : Bool) : State :=
  let t := s.progressed task
  let g := t.engine e
  t.setEngine e { g with cur := none, stopped := g.stopped || (yields && t.kpr.patch.isSome && g.hold.isNone) }

/-! ### Moves (R604) -/

/-- An engine that may take a task: its domain is on, and it has the state asked for. -/
def State.engineIs (s : State) (st e : Nat) : Bool := s.domainUp (engDomain e) && s.engState e == st
/-- The target of a move (R604): the first of the list that is available, and not the engine the task leaves while that runs. -/
def State.moveTarget (s : State) (task : Nat) : Option Nat :=
  let old := s.taskEngine task
  let alt := s.rd Fld.KPR_TASK_ALT 0 task
  let near := (List.range 16).filter (fun e => e / 8 == old / 8)
  let far := (List.range 16).filter (fun e => e / 8 != old / 8)
  match (near ++ far).find? (s.engineIs engStandby) with
  | some e => some e
  | none =>
    if s.engineIs engRun alt && alt != old then some alt else (List.range 16).find? (fun e => s.engineIs engRun e && e != old)
/-- Move a task to an engine: the generation advances, an open hold of the task is discarded, and the target starts it. -/
def State.moveTask (s : State) (task e : Nat) : State :=
  let old := s.taskEngine task
  let g := s.engine old
  let t := if g.cur = some task then s.setEngine old { g with cur := none, hold := none, staged := [] } else s
  let u := ((t.wr Fld.KPR_TASK_GEN ((s.taskGen task + 1) % 256) 0 task).wr Fld.KPR_TASK_ENGINE e 0 task).wr Fld.KPR_TASK_RUNNING 1 0 task
  let v := (u.wr Fld.KPR_ENGINE_STATUS_STATE engRun 0 e).showTasks
  let k := { v.kpr with movedAt := Sparse.insert v.kpr.movedAt task s.now, results := v.kpr.results.filter (fun x => x != task) }
  let w := { v with kpr := k, ptp := if task = 6 then { v.ptp with moved := true } else v.ptp }
  ((w.progressed task).bump .KPR_MOVES task).raise Ev.KPR_TASK_MOVED .engine e task

/-! ### The cluster (R606, R607) -/

/-- What the changes of a RELEASE charge (R579): bytes of the harbour tide, and accesses of each pipeline's table-SRAM tide, as gate,
activity and charge. -/
def commitCharges (cs : List KChange) : List (Nat × Nat × Nat) :=
  let hb := cs.foldl (fun a c => match c with | .harbour addr len => a + hbWriteCharge addr len | _ => a) 0
  let tab := fun (p : Nat) => cs.foldl (fun a c => match c with | .table q n => if q = p then a + n else a | _ => a) 0
  ((0, actKeeper, hb) :: (allPipes.map (fun p => (p + 1, actHost, tab p)))).filter (fun e => e.2.2 != 0)
/-- The requester of a RELEASE at the gates. -/
def Commit.tag (c : Commit) : Nat := 0x300000000 + c.since * 16 + c.task
/-- A RELEASE is discarded: what it asks of the gates is withdrawn. -/
def State.dropCommit (s : State) (c : Commit) : State :=
  (commitCharges c.changes).foldl (fun t e => t.unask e.1 e.2.1 c.tag) s

/-- A cluster reset begins (R606): every engine, every data memory and the commit port are cleared, and every generation advances;
what the rest of the device holds stays. -/
def State.resetCluster (s : State) : State :=
  let t := (List.range 16).foldl (fun (x : State) e =>
    ((x.wr Fld.KPR_ENGINE_STATUS_STATE engReset 0 e).wr Fld.KPR_ENGINE_STATUS_IN_HOLD 0 0 e).wr Fld.KPR_ENGINE_STATUS_LOCKUPS 0 0 e) s
  let t0 := s.kpr.commitQ.foldl (fun (x : State) c => x.dropCommit c) t
  let u := allTasks.foldl (fun (x : State) k => (x.wr Fld.KPR_TASK_GEN ((x.taskGen k + 1) % 256) 0 k).wr Fld.KPR_TASK_RUNNING 0 0 k) t0
  { u with kpr := { u.kpr with engines := [], commitQ := [], lastCommit := s.now, results := [], progress := [],
                               moves := u.kpr.moves.filter (fun m => m.2.2.isSome), resetAt := some s.now } }
/-- Cluster lock-ups of the last 10 s, at most 2 (RECENT). -/
def State.recentLocks (s : State) : Nat := min 2 (s.kpr.locks.filter (fun t => decide (s.now < t + 10 * sClk))).length
/-- The cluster locks up (R606, R607). -/
def State.clusterLock (s : State) : State :=
  let third : Bool := match (s.kpr.locks.drop 1).head? with | some t => decide (s.now < t + 10 * sClk) | none => false
  let t := ({ s with kpr := { s.kpr with locks := (s.now :: s.kpr.locks).take 2 } }).bump .KPR_CLUSTER_LOCKUPS
  if third then (t.raise Ev.KPR_ESCALATE).trigger 8 0 false else (t.raise Ev.KPR_CLUSTER_LOCKUP).resetCluster

/-! ### Patches (R608, R609) -/

/-- Every running engine has stopped; one that locked up or is reset counts as stopped. -/
def State.allStopped (s : State) : Bool := (List.range 16).all (fun e => s.engState e != engRun || (s.engine e).stopped)
/-- The engines resume, and no patch waits. -/
def State.resume (s : State) : State :=
  (List.range 16).foldl (fun (t : State) e => if (t.engine e).stopped then t.setEngine e { t.engine e with stopped := false } else t)
    { s with kpr := { s.kpr with patch := none } }
/-- A patch's words are written to the store and to its harbour copy; the measurement takes its manifest, and PATCH_LEVEL advances
(R609, R664, R666, R670). -/
def State.applyPatch (s : State) (words : List (Nat × BitVec 256)) (digest : BitVec 384) (svn : Option Nat) : State :=
  let store := words.foldl (fun (m : Sparse (BitVec 256)) w => Sparse.insert m w.1 w.2) s.kpr.patched
  let commit := match svn with | some v => some (v, s.now) | none => s.rind.patchCommit
  let t := { s.injectFire 6 0 ((words.head?.getD (0, 0)).1) with kpr := { s.kpr with patched := store }, rind := { s.rind with meas := extendMeas s.rind.meas digest, patchCommit := commit } }
  t.wr Fld.KPR_UCODE_PATCH_LEVEL ((s.rd Fld.KPR_UCODE_PATCH_LEVEL + 1) % 256)
/-- A patch of 1 to 4,096 words that lie in the store (R608). -/
def patchFits (words : List (Nat × BitVec 256)) : Bool :=
  !words.isEmpty && decide (words.length ≤ 4096) && words.all (fun w => decide (w.1 < 65536))
/-- A patch ends without a word written (R609, R610). -/
def State.dropPatch (s : State) (tag : Nat) : State := s.resume.reply tag .aborted 0 0 0 true

end Sys2Proof.Machine
end

