-- ==== Sys2Proof/Machine/Causes.lean ====
section
/-! DEFINITION. EVENT_RAISE (spec 27, R761), and what an error does whose only command it is: the crossing queues of R36 and the ECC of the
buffer pool manager (R398). -/
namespace Sys2Proof.Machine

open Sys2Proof.Config

/-- The frames in reception on a port have lost data (R36, EVT 2.2): their MAC discards them. -/
def State.hurtRx (s : State) (port : Nat) : State :=
  let p := s.port port
  let hurt := fun (f : RxFrame) => { f with hurt := true }
  s.setPort port { p with rx := p.rx.map hurt, rxp := p.rxp.map hurt }

/-- The crossing queue of an engine fails (R36, EVT 24.11): the changes of its tasks on their way to the commit port and the results on
their way to its tasks are lost. -/
def State.loseEngineQueue (s : State) (e : Nat) : State :=
  { s with kpr := { s.kpr with commitQ := s.kpr.commitQ.filter (fun (c : Commit) => s.taskEngine c.task != e),
                               results := s.kpr.results.filter (fun t => s.taskEngine t != e) } }

/-- The crossing queue of a pseudo-channel fails (R36, EVT 22.7): the requests it holds, those beyond the window's 64, are lost. -/
def State.loseRequests (s : State) (pc : Nat) : State :=
  { s with hbc := { s.hbc with wins := Sparse.put s.hbc.wins pc ((Sparse.get s.hbc.wins pc []).take 64) [] } }

/-- What the error behind a source does beside its event; `inst` and `detail` name the place: a port, an engine, a pseudo-channel, or a
slice with a buffer or, with bit 22, a chunk (log entry 108). -/
def State.cause (s : State) (e : Source) (inst detail : Nat) : State :=
  if e = Ev.LANE_QUEUE_ERR then s.hurtRx inst
  else if e = Ev.KPR_QUEUE_ERR then s.loseEngineQueue inst
  else if e = Ev.HBC_REQ_ERR then s.loseRequests detail
  else if e = Ev.RND_KEY_ECC then s.keyEcc detail
  else if e = Ev.BPM_STATE_ECC ∧ detail / 2 ^ 22 % 2 = 1 then s.loseChunk (detail % 2 ^ 21)
  else s

/-- EVENT_RAISE (R36, R398, R760, R761): a source is raised with what its error does; a reserved one never is. -/
def execEventRaise (group index : Nat) (scope : Scope) (inst detail : Nat) (s : State) : Host.Outcome State Fault Refusal :=
  match source? group index with
  | some e =>
    if e = Ev.BPM_STATE_ECC ∧ detail / 2 ^ 22 % 2 = 0 ∧ (s.poolOf inst (detail % 2 ^ 22)).isSome = true then
      .next (s.quarantine inst (detail % 2 ^ 22))
    else if e = Ev.RND_KEY_ECC then .next (s.cause e inst detail)
    else .next ((s.cause e inst detail).raise e scope inst detail)
  | none => .next s

end Sys2Proof.Machine
end

