-- ==== Sys2Proof/Machine/Image.lean ====
section
/-! DEFINITION. The image loader's commands (spec 24, R689 to R702): attempts, flash reads, their failures, and the host's flash
operations. -/
namespace Sys2Proof.Machine

open Sys2Proof.Config

/-- The attempt count of a slot (R692). -/
def cntFld (slot : Nat) : Fld := [Fld.IMG_ATTEMPTS_CNT_A, Fld.IMG_ATTEMPTS_CNT_B, Fld.IMG_ATTEMPTS_CNT_G].getD slot Fld.IMG_ATTEMPTS_CNT_G
/-- The slots in the order of R692: the preferred one, the other of A and B, golden. -/
def State.slotOrder (s : State) : List Nat := let p := s.rd Fld.IMG_PREFER_SLOT; [p, 1 - p, 2]
/-- The slot the next attempt takes. -/
def State.nextSlot (s : State) : Option Nat := s.slotOrder.find? (fun k => decide (s.rd (cntFld k) < 3))
/-- The device is in phase 6 of a release, where the image is loaded (R728). -/
def State.inLoadPhase (s : State) : Bool := s.rst.phaseNext == 6 && s.rst.run.isNone && !s.rst.asserted

/-- An attempt on a slot starts (R690, R692, R694); `xspi` says that the flash's SFDP tables hold an xSPI profile 1.0. -/
def State.startAttempt (s : State) (slot : Nat) (xspi : Bool) : State :=
  let s1 := if Sparse.get s.backup.openAttempt slot false then s.recordFail slot 7 else s
  let other := slot != s.rd Fld.IMG_PREFER_SLOT
  let s2 := s1.wr (cntFld slot) (s1.rd (cntFld slot) + 1)
  let s3 := { s2 with backup := { s2.backup with openAttempt := Sparse.put s2.backup.openAttempt slot true false } }
  let s4 := ((s3.wr Fld.IMG_STATUS_STATE 1).wr Fld.IMG_STATUS_SLOT slot).wrB Fld.IMG_STATUS_FALLBACK other
  let s5 := s4.wr Fld.IMG_NVM_STATUS_MODE 0
  let mode := if s.pins.strapHeld.toNat / 4 % 2 = 1 ∧ xspi = true then 2 else 1
  let s6 := if other then s5.raise Ev.IMG_FALLBACK else s5
  s6.setAttempt { slot := slot, startedAt := s.now, manifest := none, sectionsPassed := 0, provisioned := false, written := [], readFails := 0,
                  enter := some mode }

/-- ATTEMPT_START (R692, R693): the loader chooses a slot, counts the attempt and starts it; with every count at 3 it enters
NO_IMAGE. -/
def execAttemptStart (xspi : Bool) (s : State) : Host.Outcome State Fault Refusal :=
  if s.inLoadPhase && s.img.attempt.isNone && s.img.noImageSince.isNone then
    match s.nextSlot with
    | some k => .next (s.startAttempt k xspi)
    | none =>
      let t := { s with img := { s.img with noImageSince := some s.now } }
      .next ((t.wr Fld.IMG_STATUS_STATE 3).raise Ev.IMG_NO_IMAGE)
  else .next s

/-- NO_IMAGE_RETRY (R693): after 60 s in NO_IMAGE the counts are cleared and the loader starts again. -/
def execNoImageRetry (s : State) : Host.Outcome State Fault Refusal :=
  match s.img.noImageSince with
  | some t =>
    if t + 60 * sClk ≤ s.now then
      let u := (List.range 3).foldl (fun (x : State) k => x.wr (cntFld k) 0) s
      .next ({ u with img := { u.img with noImageSince := none } }.wr Fld.IMG_STATUS_STATE 1)
    else .next s
  | none => .next s

/-- A flash read of the running attempt has failed (R695): the fourth in a row ends it. -/
def State.readFailed (s : State) : State :=
  match s.img.attempt with
  | none => s
  | some a =>
    if 3 ≤ a.readFails then (s.raise Ev.IMG_NVM_TIMEOUT).failAttempt 1
    else s.setAttempt { a with readFails := a.readFails + 1 }
/-- A read of the running attempt has completed; the first reads the SFDP tables, and the loader enters the mode they allow (R694). -/
def State.readPassed (s : State) : State :=
  match s.img.attempt with
  | some a =>
    let t := s.setAttempt { a with readFails := 0, enter := none }
    match a.enter with
    | some m => t.wr Fld.IMG_NVM_STATUS_MODE m
    | none => t
  | none => s
/-- FLASH_READ (R694, R695): a read of at most 4 KiB completes, or lacks NVM_DS edges and is repeated. -/
def execFlashRead (bytes : Nat) (ok : Bool) (s : State) : Host.Outcome State Fault Refusal :=
  if 4096 < bytes then .next s else if ok then .next s.readPassed else .next s.readFailed
/-- FLASH_READ_TIMEOUT (R695): a read has not completed within 100 µs. -/
def execFlashReadTimeout (s : State) : Host.Outcome State Fault Refusal := .next s.readFailed

/-- ATTEMPT_FAIL (R690, Table 24.1): the running attempt fails at a cause other than a reset. -/
def execAttemptFail (cause : Nat) (s : State) : Host.Outcome State Fault Refusal :=
  .next (if cause = 7 then s else s.failAttempt cause)
/-- PHASE_TIMEOUT (R690): the Transmitter enable phase has not been reached 10 s after the attempt's first read. -/
def execPhaseTimeout (s : State) : Host.Outcome State Fault Refusal :=
  match s.img.attempt with
  | some a => .next (if a.startedAt + 10 * sClk ≤ s.now ∧ s.rst.phaseNext < 9 then s.failAttempt 8 else s)
  | none => .next s

/-! ### Host access to the flash (R702) -/

/-- Bytes a flash operation covers. -/
def flashLen (op : Nat) : Nat := if op = 2 then 65536 else 256
/-- A write of GO with an operation is rejected (R702). -/
def State.flashRefused (s : State) (op : Nat) : Bool :=
  let a := s.rd Fld.IMG_FLASH_ADDR_ADDR
  let n := flashLen op
  let st := s.stride
  let touches := fun (k : Nat) => decide (a < (k + 1) * st ∧ k * st < a + n)
  s.on Fld.IMG_FLASH_CMD_BUSY || (op == 1 && a % 256 != 0) || (op == 2 && a % 65536 != 0) || decide (3 * st < a + n)
    || (s.rd Fld.IMG_STATUS_STATE == 2 && touches (s.rd Fld.IMG_STATUS_SLOT)) || (s.on Fld.IMG_CFG_GOLDEN_WP && touches 2)
    || s.img.attempt.isSome
/-- A write of IMG_FLASH_CMD with GO = 1 and an operation. -/
def State.flashGo (s : State) (who : Agent) (op : Nat) : State :=
  s.busWrite who Reg.IMG_FLASH_CMD 0 0 0 (BitVec.ofNat 32 (4 + op)) (s.flashRefused op) (fun t =>
    let words := (List.range 64).map (fun w => t.rdReg Reg.IMG_FLASH_DATA 0 w 0)
    let f : FlashOp := { op := op, addr := t.rd Fld.IMG_FLASH_ADDR_ADDR, at_ := t.now, data := words }
    ({ t with img := { t.img with flashOp := some f } }).wr Fld.IMG_FLASH_CMD_BUSY 1)

/-- FLASH_OP_READ (R702): the host starts a read of 256 bytes. -/
def execFlashOpRead (who : Agent) (s : State) : Host.Outcome State Fault Refusal := .next (s.flashGo who 0)
/-- FLASH_OP_PROGRAM (R702): the host starts the programming of 256 bytes. -/
def execFlashOpProgram (who : Agent) (s : State) : Host.Outcome State Fault Refusal := .next (s.flashGo who 1)
/-- FLASH_OP_ERASE (R702): the host starts an erase of 64 KiB. -/
def execFlashOpErase (who : Agent) (s : State) : Host.Outcome State Fault Refusal := .next (s.flashGo who 2)

/-- A flash operation ends with a RESULT. -/
def State.flashEnd (s : State) (result : Nat) : State :=
  let t := { s with img := { s.img with flashOp := none } }
  (t.wr Fld.IMG_FLASH_CMD_BUSY 0).wr Fld.IMG_FLASH_CMD_RESULT result

/-- FLASH_OP_DONE (R702): the operation has ended; `data` is what a read returns, or what the programmed page reads back. An erase of
the first 64 KiB of slot A or B clears that slot's count (R693). -/
def execFlashOpDone (data : List Word) (s : State) : Host.Outcome State Fault Refusal :=
  match s.img.flashOp with
  | some f =>
    if f.op = 0 then
      .next ((List.range 64).foldl (fun (t : State) w => t.wr Fld.IMG_FLASH_DATA_DATA (data.getD w 0).toNat 0 w) (s.flashEnd 0))
    else if f.op = 1 then
      if data = f.data then .next (s.flashEnd 0) else .next ((s.flashEnd 3).raise Ev.IMG_FLASH_ERR)
    else
      let t := s.flashEnd 0
      .next (if f.addr = 0 then t.wr Fld.IMG_ATTEMPTS_CNT_A 0 else if f.addr = s.stride then t.wr Fld.IMG_ATTEMPTS_CNT_B 0 else t)
  | none => .next s
/-- FLASH_OP_TIMEOUT (R702): a program has not ended within 5 ms, or an erase within 3 s. -/
def execFlashOpTimeout (s : State) : Host.Outcome State Fault Refusal :=
  match s.img.flashOp with
  | some f =>
    let limit := if f.op = 2 then 3 * sClk else 5 * msClk
    .next (if f.op ≠ 0 ∧ f.at_ + limit ≤ s.now then (s.flashEnd 2).raise Ev.IMG_FLASH_ERR else s)
  | none => .next s

end Sys2Proof.Machine
end

