-- ==== Sys2Proof/Machine/HstOps.lean ====
section
/-! DEFINITION. The PCIe endpoint's rings and reset (spec 24, R703 to R712): ring fields, staging, vectors, and the reset of the HST
block. -/
namespace Sys2Proof.Machine

open Sys2Proof.Config

/-- A record of 128 bits with one of its words replaced. -/
def setBitsOf128 (x : BitVec 128) (word : Nat) (w : Word) : BitVec 128 :=
  let n := x.toNat
  BitVec.ofNat 128 (n - n / 2 ^ (32 * word) % 2 ^ 32 * 2 ^ (32 * word) + w.toNat * 2 ^ (32 * word))

/-! ### Ring fields (Table 24.9) -/

/-- EN of a ring. -/
def ringEn (tx : Bool) : Fld := if tx then Fld.HST_TX_CFG_EN else Fld.HST_RX_CFG_EN
/-- SIZE of a ring. -/
def ringSize (tx : Bool) : Fld := if tx then Fld.HST_TX_CFG_SIZE else Fld.HST_RX_CFG_SIZE
/-- STOPPED of a ring. -/
def ringStopped (tx : Bool) : Fld := if tx then Fld.HST_TX_CFG_STOPPED else Fld.HST_RX_CFG_STOPPED
/-- VEC of a ring. -/
def ringVec (tx : Bool) : Fld := if tx then Fld.HST_TX_CFG_VEC else Fld.HST_RX_CFG_VEC
/-- COALESCE_US of a ring. -/
def ringCoalesce (tx : Bool) : Fld := if tx then Fld.HST_TX_CFG_COALESCE_US else Fld.HST_RX_CFG_COALESCE_US
/-- HEAD of a ring. -/
def ringHead (tx : Bool) : Fld := if tx then Fld.HST_TX_HEAD_HEAD else Fld.HST_RX_HEAD_HEAD
/-- The item of a ring in counters and vectors: transmit rings follow the receive rings. -/
def ringItem (tx : Bool) (k : Nat) : Nat := if tx then 16 + k else k
/-- TAIL of a ring (Table 24.10). -/
def State.ringTail (s : State) (tx : Bool) (k : Nat) : Nat := Sparse.get (if tx then s.hst.txTail else s.hst.rxTail) k 0
/-- The host address of the entry at HEAD (R710). -/
def State.ringPlace (s : State) (tx : Bool) (k : Nat) : Nat :=
  let lo := if tx then Fld.HST_TX_BASE_LO_BASE_LO else Fld.HST_RX_BASE_LO_BASE_LO
  let hi := if tx then Fld.HST_TX_BASE_HI_BASE_HI else Fld.HST_RX_BASE_HI_BASE_HI
  s.rd lo 0 k + s.rd hi 0 k * 2 ^ 32 + 32 * (s.rd (ringHead tx) 0 k % 2 ^ s.rd (ringSize tx) 0 k)
/-- What is staged for a receive ring. -/
def State.staging (s : State) (k : Nat) : List RxStaged := Sparse.get s.hst.staged k []
/-- A packet is in progress on a receive ring: some of it has been written (R710). -/
def State.inProgress (s : State) (k : Nat) : Bool := ((s.staging k).head?).elim false (fun e => e.done != 0)
/-- A ring runs, or completes the packet in progress after its EN was cleared (R710), and holds a posted descriptor. -/
def State.ringReady (s : State) (tx : Bool) (k : Nat) : Bool :=
  (s.on (ringEn tx) 0 k || (!tx && s.inProgress k)) && s.on Fld.HST_CTRL_DMA_EN && s.on Fld.HST_PCIE_STATUS_LINK_UP && !s.on (ringStopped tx) 0 k
    && s.ringTail tx k != s.rd (ringHead tx) 0 k

/-! ### BAR2 (R793, Table 24.10) -/

/-- The word at an offset of BAR2; one outside its registers reads 0. -/
def State.bar2Word (s : State) (a : Nat) : Word :=
  if a < 0x40 then BitVec.ofNat 32 (Sparse.get s.hst.rxTail (a / 4) 0)
  else if a < 0x80 then BitVec.ofNat 32 (Sparse.get s.hst.txTail (a / 4 - 16) 0)
  else if 0x1000 ≤ a ∧ a < 0x1400 then
    BitVec.ofNat 32 ((Sparse.get s.hst.msixTable (a / 16 - 0x100) msixReset).toNat / 2 ^ (32 * (a / 4 % 4)))
  else if 0x2000 ≤ a ∧ a < 0x2008 then BitVec.ofNat 32 (s.hst.pba.toNat / 2 ^ (32 * (a / 4 % 2)))
  else 0
/-- A write of a word of an MSI-X table entry; one that unmasks the vector sends what is pending for it. -/
def State.msixWrite (s : State) (vec word : Nat) (w : Word) : State :=
  let e := setBitsOf128 (Sparse.get s.hst.msixTable vec msixReset) word w
  let t := { s with hst := { s.hst with msixTable := Sparse.put s.hst.msixTable vec e msixReset } }
  if !t.vecMasked vec && t.hst.pba.getLsbD vec then
    ({ t with hst := { t.hst with pba := t.hst.pba &&& ~~~ BitVec.ofNat 64 (2 ^ vec) } }).sendVec vec
  else t
/-- The host posts descriptors on a ring (R710). -/
def State.tailWrite (s : State) (tx : Bool) (ring tail : Nat) : State :=
  let posted := (tail + 2 ^ 32 - s.rd (ringHead tx) 0 ring) % 2 ^ 32
  if !s.on (ringEn tx) 0 ring || decide (2 ^ s.rd (ringSize tx) 0 ring < posted) then s.rejectWrite
  else if tx then { s with hst := { s.hst with txTail := Sparse.put s.hst.txTail ring tail 0 } }
  else { s with hst := { s.hst with rxTail := Sparse.put s.hst.rxTail ring tail 0 } }
/-- A host write of a word of BAR2: outside its registers it is discarded with EVT 28.0 (R793). -/
def State.bar2Write (s : State) (a : Nat) (w : Word) : State :=
  if a < 0x40 then s.tailWrite false (a / 4) w.toNat
  else if a < 0x80 then s.tailWrite true (a / 4 - 16) w.toNat
  else if 0x1000 ≤ a ∧ a < 0x1400 then s.msixWrite (a / 16 - 0x100) (a / 4 % 4) w
  else if 0x2000 ≤ a ∧ a < 0x2008 then s
  else s.rejectWrite

/-! ### Completions and vectors (R711) -/

/-- Send a ring's vector: no completion of it stays unreported. -/
def State.ringVector (s : State) (tx : Bool) (k : Nat) : State :=
  let i := ringItem tx k
  let t := { s with hst := { s.hst with lastVec := Sparse.insert s.hst.lastVec i s.now, oldest := Sparse.erase s.hst.oldest i } }
  t.sendVec (t.rd (ringVec tx) 0 k)
/-- A completion is written over the descriptor at HEAD, and HEAD advances. -/
def State.complete (s : State) (tx : Bool) (k : Nat) (entry : BitVec 256) : State :=
  let t := (s.emit (.hostWrite (s.ringPlace tx k) entry.toNat)).wr (ringHead tx) ((s.rd (ringHead tx) 0 k + 1) % 2 ^ 32) 0 k
  if t.rd (ringCoalesce tx) 0 k = 0 then t.ringVector tx k
  else if (Sparse.find t.hst.oldest (ringItem tx k)).isSome then t
  else { t with hst := { t.hst with oldest := Sparse.insert t.hst.oldest (ringItem tx k) t.now } }
/-- A ring stops (R712). -/
def State.stopRing (s : State) (tx : Bool) (k : Nat) (e : Source) : State :=
  ((s.wr (ringStopped tx) 1 0 k).bump .HST_DMA_ERR (ringItem tx k)).raise e .port 100 (ringItem tx k)

/-! ### Staging (R707, R710) -/

/-- QUIET reads 1 while no packet is staged. -/
def State.hstQuiet (s : State) : State := s.wrB Fld.HST_CTRL_QUIET (s.hst.staged.all (fun (e : Nat × List RxStaged) => e.2.isEmpty))
/-- Replace what is staged for a receive ring. -/
def State.setStaging (s : State) (k : Nat) (l : List RxStaged) : State :=
  ({ s with hst := { s.hst with staged := Sparse.put s.hst.staged k l [] } }).hstQuiet
/-- HOST_DMA gives up a staged packet (R383). -/
def State.unstage (s : State) (e : RxStaged) : State := s.releaseCopy e.buf.1 reqHostDma e.pkt e.buf.2
/-- The packets staged for a ring are discarded and counted, and their buffers return. -/
def State.dropStaging (s : State) (k : Nat) : State :=
  ((s.staging k).foldl (fun (t : State) e => (t.unstage e).bump .HST_RX_DISCARD k) s).setStaging k []
/-- The same for a write that clears EN, which leaves the packet in progress to complete (R710). -/
def State.dropWaiting (s : State) (k : Nat) : State :=
  let n := (s.inProgress k).toNat
  let waiting := (s.staging k).drop n
  (waiting.foldl (fun (t : State) e => (t.unstage e).bump .HST_RX_DISCARD k) s).setStaging k ((s.staging k).take n)


/-! ### The reset of the HST block (R706, R735, R801) -/

/-- The HST block alone is reset: staged packets are discarded, and every register returns to reset, but for the link status while
the link stays up.  The mailbox stops. -/
def State.resetHst (s : State) (linkLost : Bool) : State :=
  let t := (List.range 16).foldl (fun (u : State) k => u.dropStaging k) s
  let u := { t with hst := { Hst.init with inReset := t.hst.inReset } }
  (u.clearRegs (fun k => inBlock 7 0 0 0x40000 k && (linkLost || k != Reg.HST_PCIE_STATUS.base))).mbxStop
/-- The endpoint may leave reset (R703, R728, R801). -/
def State.pcieMayRun (s : State) : Bool :=
  s.pins.perstN && decide (6 ≤ s.rd Fld.RST_STATUS_PHASE) && !Fuse.PCIE_DIS.on s.rind.fuses

end Sys2Proof.Machine
end

