-- ==== Sys2Proof/Machine/Host.lean ====
section
/-! DEFINITION. The commands of the PCIe endpoint, its DMA rings and the management serial port (spec 24, R703 to R717; spec 30,
R801). -/
namespace Sys2Proof.Machine

open Sys2Proof.Config

/-! ### The endpoint -/

/-- FUNCTION_LEVEL_RESET (R706): a function-level reset, or a loss of the PCIe link, resets the HST block alone; PCIE_REFCLK may be
lost, and the link with it (R749). -/
def execFunctionLevelReset (cause : FlrCause) (s : State) : Host.Outcome State Fault Refusal :=
  let t := if cause = .clkLost then s.wr Fld.CLK_STATUS_PCIE_LOCK 0 else s
  .next (t.resetHst (decide (cause ≠ .asked)))
/-- PCIE_LINK_UP (R703): the PCIe PLL is locked, and the link trains. -/
def execPcieLinkUp (speed width : Nat) (s : State) : Host.Outcome State Fault Refusal :=
  if s.hst.inReset then .next s
  else
    let t := s.wr Fld.CLK_STATUS_PCIE_LOCK 1
    .next (((t.wr Fld.HST_PCIE_STATUS_SPEED speed).wr Fld.HST_PCIE_STATUS_WIDTH width).wr Fld.HST_PCIE_STATUS_LINK_UP 1)
/-- A filter on the on-die oscillator has seen a low of some core clocks: below 0.9 µs it is ignored, from 1 µs it counts, and between
the two the manual leaves it open (R721, R801). -/
def State.lowSeen (s : State) (lowClk : Nat) : Bool :=
  decide (usClk ≤ lowClk) || (decide (1575 < lowClk) && freeBool s.fresh)
/-- PERST_ASSERT (R801): PCIE_PERST_N held low for 1 µs or longer resets the HST block as a loss of link does; with fuse PCIE_DIS it has
no effect. -/
def execPerstAssert (lowClk : Nat) (s : State) : Host.Outcome State Fault Refusal :=
  let t := s.draw
  if s.lowSeen lowClk && !Fuse.PCIE_DIS.on s.rind.fuses then
    let u := { t with pins := { t.pins with perstN := false }, hst := { t.hst with inReset := true } }
    .next (u.resetHst true)
  else .next t
/-- PERST_RELEASE (R801): the endpoint leaves reset no earlier than the end of phase 6. -/
def execPerstRelease (s : State) : Host.Outcome State Fault Refusal :=
  let t := { s with pins := { s.pins with perstN := true } }
  .next { t with hst := { t.hst with inReset := t.hst.inReset && !t.pcieMayRun } }
/-- BAR0_READ_TIMEOUT (R704): a block has not answered a BAR0 read within 10 µs. -/
def execBar0ReadTimeout (s : State) : Host.Outcome State Fault Refusal :=
  .next (((s.emit (.read 0xFFFFFFFF)).bump .HST_REG_TIMEOUT).raise Ev.HST_REG_TIMEOUT)

/-! ### Receive rings (R707, R708) -/

/-- ADDR and BUF_LEN of a receive descriptor. -/
def rxLen (d : BitVec 256) : Nat := d.toNat / 2 ^ 64 % 2 ^ 15
/-- A receive descriptor breaks a limit of R708. -/
def badRxDesc (d : BitVec 256) : Bool :=
  d.toNat % 64 != 0 || decide (rxLen d < 256 ∨ 16384 < rxLen d) || rxLen d % 64 != 0 || decide (2 ^ 79 ≤ d.toNat)
/-- The staged packet at the front of a ring fills one buffer; at its last one HOST_DMA gives it up. -/
def State.deliverPacket (s : State) (k : Nat) (e : RxStaged) (rest : List RxStaged) (d : BitVec 256) : State :=
  let frame := (s.pkt e.pkt).frame
  let n := min (rxLen d) (frame.length - e.done)
  let last := decide (frame.length ≤ e.done + n)
  let c : BitVec 256 := setFields 0 [(RxDone.LEN, n), (RxDone.FIRST, (e.done == 0).toNat), (RxDone.LAST, last.toNat), (RxDone.DONE, 1),
    (RxDone.REASON, e.reason), (RxDone.INGRESS_PORT, e.ingress), (RxDone.AUX, if e.reason = 3 then e.aux else 0), (RxDone.TS, e.ts),
    (RxDone.PKT_LEN, frame.length)]
  let t := (s.emit (.hostWrite (d.toNat % 2 ^ 64) (natOfBytes ((frame.drop e.done).take n)))).complete false k c
  if last then ((t.setStaging k rest).unstage e).bump .HST_RX_PKTS k
  else t.setStaging k ({ e with done := e.done + n } :: rest)
/-- The oldest record of a capture ring goes to a receive ring that reads it (R370); one longer than the buffer is lost. -/
def State.deliverRecord (s : State) (k : Nat) (d : BitVec 256) : State :=
  let r := s.rd Fld.HST_RX_CFG_CAP_RING 0 k
  let rd := s.rd Fld.EDT_CAP_RD_RD 0 r
  if s.on Fld.EDT_CAP_RING_CTRL_READER 0 r = false ∨ s.ringFill r = 0 ∨ s.ringCap r = 0 then s
  else
    let n := 64 + s.capBytes r
    let taken := s.wr Fld.EDT_CAP_RD_RD ((rd + 1) % 2 ^ 32) 0 r
    if rxLen d < n then (taken.bump .CAP_LOST r).bump .HST_RX_TOO_SMALL k
    else
      let (t, ok) := s.charge 0 actKeeper n (2 ^ 45 + k)
      if !ok then t
      else
        let (desc, data) := Sparse.get s.edt.ring (r * 2 ^ 32 + rd % s.ringCap r) (0, [])
        let c : BitVec 256 := setFields 0 [(RxDone.LEN, n), (RxDone.FIRST, 1), (RxDone.LAST, 1), (RxDone.DONE, 1), (RxDone.REASON, 0),
          (RxDone.INGRESS_PORT, CapDesc.INGRESS_PORT.get desc),
          (RxDone.TS, CapDesc.TS_SEC.get desc * 2 ^ 48 + CapDesc.TS_NS.get desc * 2 ^ 16 + CapDesc.TS_SUBNS.get desc),
          (RxDone.PKT_LEN, CapDesc.DATA_LEN.get desc)]
        let u := t.wr Fld.EDT_CAP_RD_RD ((rd + 1) % 2 ^ 32) 0 r
        ((u.emit (.hostWrite (d.toNat % 2 ^ 64) (desc.toNat + natOfBytes data * 2 ^ 512))).complete false k c).bump .HST_RX_PKTS k
/-- RX_RING_DELIVER (R707, R708): the descriptor at HEAD of a receive ring takes the next buffer of its staged packet, or a capture
record; a descriptor that breaks a limit stops the ring. -/
def execRxRingDeliver (ring : Nat) (desc : BitVec 256) (s : State) : Host.Outcome State Fault Refusal :=
  if !s.ringReady false ring then .next s
  else if badRxDesc desc then .next (s.stopRing false ring Ev.HST_DESC_BAD)
  else if s.on Fld.HST_RX_CFG_SOURCE 0 ring then .next (s.deliverRecord ring desc)
  else
    match s.staging ring with
    | e :: rest => .next (s.deliverPacket ring e rest desc)
    | [] => .next s

/-! ### Transmit rings (R709) -/

/-- A transmit descriptor is refused (R709). -/
def badTxDesc (d : BitVec 256) : Bool :=
  let len := TxDesc.LEN.get d
  d.toNat / 2 ^ 110 % 2 ^ 18 != 0 || d.toNat / 2 ^ 131 != 0 || decide (len < 14 ∨ 15996 < len)
    || (TxDesc.DIRECT.on d && decide (95 < TxDesc.PORT.get d))
    || (TxDesc.CSUM.on d && decide (len < TxDesc.L3_OFF.get d ∨ len < TxDesc.L4_OFF.get d))
/-- The packet of an accepted descriptor: from port 100, its frame whole. -/
def State.hostPkt (s : State) (d : BitVec 256) (bytes : List Byte) : Packet :=
  let req := if TxDesc.CSUM.on d then some (TxDesc.L3_OFF.get d, TxDesc.L4_OFF.get d, TxDesc.L4_TCP.on d) else none
  { Packet.init with port := 100, ended := some false, frame := bytes, orig := bytes, len := bytes.length, grows := false,
                     ts := (s.tod : Int), csum := req }
/-- DIRECT = 0: it enters the arbiter of its pipeline as port 100. -/
def State.hostArrive (s : State) (d : BitVec 256) (bytes : List Byte) : State :=
  let n := s.nextPkt
  let pipe := TxDesc.PIPE.get d
  let t := { s.setPkt n { s.hostPkt d bytes with pipe := pipe } with nextPkt := n + 1 }
  t.arbOffer pipe 25 n
/-- DIRECT = 1: it goes to base queue CLASS of PORT, unless the queue does not admit it.  The second component says that it was
admitted. -/
def State.hostDirect (s : State) (d : BitVec 256) (bytes : List Byte) : State × Bool :=
  let port := TxDesc.PORT.get d
  let cls := TxDesc.CLASS.get d
  match s.refusal (port / 24) (16 * (port % 24) + cls) cls with
  | some (c, i) => (s.bump c i, false)
  | none =>
    let n := s.nextPkt
    let p := { s.hostPkt d bytes with stage := .cells, pipe := port / 24, cls := cls, dest := .port port, status := some false, void := true }
    ({ s.setPkt n p with nextPkt := n + 1 }, true)
/-- TX_DESCRIPTOR (R709): the descriptor at HEAD of a transmit ring; `bytes` is the frame at ADDR. -/
def execTxDescriptor (ring : Nat) (desc : BitVec 256) (bytes : List Byte) (s : State) : Host.Outcome State Fault Refusal :=
  if !s.ringReady true ring then .next s
  else
    let done := fun (st : Nat) => setFields desc [(TxDesc.DONE, 1), (TxDesc.STATUS, st)]
    if badTxDesc desc then
      .next (((s.complete true ring (done 1)).bump .HST_TX_BAD_DESC (16 + ring)).raiseMs Ev.HST_DESC_BAD .port 100 (16 + ring))
    else if bytes.length ≠ TxDesc.LEN.get desc then .next s
    else if TxDesc.DIRECT.on desc then
      match s.hostDirect desc bytes with
      | (t, true) => .next ((t.complete true ring (done 0)).bump .HST_TX_PKTS (16 + ring))
      | (t, false) => .next (t.complete true ring (done 2))
    else .next (((s.hostArrive desc bytes).complete true ring (done 0)).bump .HST_TX_PKTS (16 + ring))

/-! ### Ring control (R710 to R712) -/

/-- RING_TAIL_WRITE (R12, R710, R793): a host write of BAR2, at a byte offset with its byte enables: a ring's TAIL posts descriptors. -/
def execRingTailWrite (a : Nat) (w : Word) (be : Nat) (s : State) : Host.Outcome State Fault Refusal :=
  .next (if be = 15 then s.bar2Write a w else s.rejectWrite)
/-- A write of a ring's configuration word (R710, R712): rejected while EN = 1 unless it clears EN or changes nothing; EN = 1 clears
STOPPED, and clearing EN discards what is staged. -/
def State.ringCfgWrite (s : State) (who : Agent) (tx : Bool) (ring : Nat) (v : Word) : State :=
  let r := if tx then Reg.HST_TX_CFG else Reg.HST_RX_CFG
  let was := s.on (ringEn tx) 0 ring
  let to_ := (ringEn tx).onIn v
  let old := s.rdReg r 0 ring 0
  let changes := r.stored old v != old
  s.busWrite who r 0 ring 0 v (was && to_ && changes) (fun t =>
    if to_ then t.wr (ringStopped tx) 0 0 ring else if was && !tx then t.dropWaiting ring else t)
/-- RING_DISABLE (R710): a write that clears EN of a ring. -/
def execRingDisable (who : Agent) (tx : Bool) (ring : Nat) (v : Word) (s : State) : Host.Outcome State Fault Refusal :=
  .next (s.ringCfgWrite who tx ring v)
/-- RING_VECTOR_COALESCE (R711): the vector of a ring with unreported completions is sent, no sooner than COALESCE_US after its previous
one. -/
def execRingVectorCoalesce (tx : Bool) (ring : Nat) (s : State) : Host.Outcome State Fault Refusal :=
  let i := ringItem tx ring
  let due := match Sparse.find s.hst.lastVec i with
    | some t => decide (t + s.rd (ringCoalesce tx) 0 ring * usClk ≤ s.now)
    | none => true
  if (Sparse.find s.hst.oldest i).isSome && due && s.on Fld.HST_PCIE_STATUS_LINK_UP then .next (s.ringVector tx ring) else .next s
/-- DMA_TIMEOUT (R712): a descriptor fetch, data read or write of a ring has failed, or not completed within 1 ms. -/
def execDmaTimeout (tx : Bool) (ring : Nat) (s : State) : Host.Outcome State Fault Refusal :=
  .next (if s.on (ringEn tx) 0 ring then s.stopRing tx ring Ev.HST_DMA_ERR else s)

/-! ### The management serial port (R713 to R715) -/

/-- One bit of a CRC-8 with polynomial 0x07. -/
def crc8Step (c : Nat) : Nat := if c / 128 % 2 = 1 then Nat.xor (c * 2 % 256) 7 else c * 2 % 256
/-- A CRC-8 with polynomial 0x07 over bytes, from 0. -/
def crc8 (l : List Byte) : Nat := l.foldl (fun c b => (List.range 8).foldl (fun x _ => crc8Step x) (Nat.xor c b.toNat)) 0
/-- The word at an index of Table 24.7. -/
def State.mgsWord (s : State) (i : Nat) : Option Nat :=
  let r := fun (x : Reg) (k : Nat) => some (s.rdReg x 0 k 0).toNat
  match i with
  | 0x000 => r Reg.SUP_ID 0
  | 0x001 => r Reg.IMG_STATUS 0
  | 0x002 => r Reg.IMG_ATTEMPTS 0
  | 0x003 => r Reg.RST_LAST 0
  | 0x004 => r Reg.RST_COUNT 0
  | 0x005 => r Reg.PWR_STATE 0
  | 0x006 => r Reg.PWR_STATE 1
  | 0x007 => r Reg.CLK_STATUS 0
  | 0x008 => r Reg.PWR_TEMP 0
  | 0x009 => some (s.evtSummary 0 32)
  | 0x00A => some (s.evtSummary 32 8)
  | 0x00B => r Reg.LHT_STATUS 0
  | 0x00C => r Reg.LHT_TU 0
  | 0x00D => r Reg.LHT_HOLD_TIME 0
  | 0x00E => r Reg.RND_STATUS 0
  | 0x00F => r Reg.RND_SVN 0
  | 0x010 => r Reg.HST_PCIE_STATUS 0
  | _ =>
    if 0x100 ≤ i ∧ i < 0x140 then some (((s.backup.causes[(i - 0x100) / 4]?).getD 0).toNat / 2 ^ (32 * (i % 4)) % 2 ^ 32)
    else none
/-- The port answers from the end of phase 1 of a cold start on, and through every warm reset (R714). -/
def State.mgsAnswers (s : State) : Bool := !s.rst.cold || decide (2 ≤ s.rst.phaseNext)
/-- MGS_TRANSACTION (R713, R714): a read of `count` + 1 words from `index`; the host may read one byte past the PEC, and
may write a third byte, which is NACKed. -/
def execMgsTransaction (count index : Nat) (tail : MgsTail) (s : State) : Host.Outcome State Fault Refusal :=
  if !s.mgsAnswers then .next s
  else
    let words := (List.range (count + 1)).map (fun j => (s.mgsWord (index + j)).getD 0xFFFFFFFF)
    let data := words.flatMap (fun w => bytesBE 4 w)
    let addr := 0x5C + s.pins.strapHeld.toNat / 8 % 2
    let sent := bytesBE 1 (addr * 2) ++ bytesBE 2 (count * 4096 + index) ++ bytesBE 1 (addr * 2 + 1) ++ data
    let pec := bytesBE 1 (crc8 sent)
    let s := if tail.third then s.emit .mgsNack else s
    let t := (s.emit (.mgs (data ++ pec ++ (if tail.extra then [0xFF] else [])))).bump .MGS_TRANSACTIONS
    .next (if (s.mgsWord index).isNone then (t.bump .MGS_BAD_INDEX).raiseSec Ev.MGS_BAD_INDEX else t)
/-- MGS_BUS_TIMEOUT (R715): SCL low, or a pause, for 25 ms. -/
def execMgsBusTimeout (s : State) : Host.Outcome State Fault Refusal := .next ((s.bump .MGS_TIMEOUTS).raise Ev.MGS_TIMEOUT)

end Sys2Proof.Machine
end

