-- ==== Sys2Proof/Machine/Lighthouse.lean ====
section
/-! DEFINITION. The commands of the lighthouse (spec 16): its control register and time commands, edges and measurements of the
references, the timers of its states, the model and the temperature, and the PPS and ToD outputs. -/
namespace Sys2Proof.Machine

open Sys2Proof.Config

/-- Seconds in core clocks. -/
def secsClk (n : Nat) : Nat := n * sClk
/-- A number of core clocks has passed since an instant. -/
def State.since (s : State) (t : Option Nat) (clk : Nat) : Bool :=
  match t with
  | some t => decide (t + clk ≤ s.now)
  | none => false

/-! ### Control and the time registers -/

/-- LHT_CTRL_WRITE (Table 16.9): both selections follow; without RADIO_EN the radio DPLL is not locked. -/
def execLhtCtrlWrite (who : Agent) (v : Word) (s : State) : Host.Outcome State Fault Refusal :=
  .next (s.busWrite who Reg.LHT_CTRL 0 0 0 v false (fun t =>
    (if t.on Fld.LHT_CTRL_RADIO_EN then t else t.wr Fld.LHT_STATUS_RADIO_LOCKED 0).reselect))

/-- Capture the time of day in the four time registers (R465). -/
def State.snapTime (s : State) : State :=
  (((s.wr Fld.LHT_TOD_SEC_HI_SEC (s.todSec / 2 ^ 32)).wr Fld.LHT_TOD_SEC_LO_SEC (s.todSec % 2 ^ 32)).wr
    Fld.LHT_TOD_NS_NS s.todNsec).wr Fld.LHT_TOD_SUBNS_SUBNS s.todSub
/-- The time the four registers hold (R466). -/
def State.stagedTime (s : State) : Nat :=
  (s.rd Fld.LHT_TOD_SEC_HI_SEC * 2 ^ 32 + s.rd Fld.LHT_TOD_SEC_LO_SEC) * todS + s.rd Fld.LHT_TOD_NS_NS * todNs
    + s.rd Fld.LHT_TOD_SUBNS_SUBNS * 7

/-- TOD_SNAP (R465): a write of LHT_TOD_CMD with SNAP. -/
def execTodSnap (who : Agent) (v : Word) (s : State) : Host.Outcome State Fault Refusal :=
  .next (s.busWrite who Reg.LHT_TOD_CMD 0 0 0 v false (fun t => if Fld.LHT_TOD_CMD_SNAP.onIn v then t.snapTime else t))

/-- TOD_SET (R466): a write of LHT_TOD_CMD with SET, accepted in FREE-RUN with no time reference selected and the LHT right
granted. -/
def execTodSet (who : Agent) (v : Word) (s : State) : Host.Outcome State Fault Refusal :=
  let set := Fld.LHT_TOD_CMD_SET.onIn v
  let ok := s.timeState == 0 && s.rd Fld.LHT_STATUS_TIME_REF == 15 && s.hasRight Reg.LHT_TOD_CMD
  .next (s.busWrite who Reg.LHT_TOD_CMD 0 0 0 v (set && !ok) (fun t =>
    if set then (t.stepTime t.stagedTime).wr Fld.LHT_STATUS_TIME_VALID 1 else t))

/-! ### References -/

/-- The edge of PPS input `r` in units: its timestamp less ADJ_PS (R490), with what a perturbation adds (Table 28.2). -/
def State.ppsStamp (s : State) (r : Nat) : Int :=
  (s.tod : Int) - psUnits (signedOf 32 (s.rd Fld.LHT_PPS_IN_ADJ_ADJ_PS 0 r)) + ((s.perturbAmount 3 r * todNs : Nat) : Int)
/-- The offset of an edge from the second it names: the label's, or the nearest one (R469). -/
def State.edgeOffset (s : State) (r : Nat) (ts : Int) : Int :=
  match s.lht.labelSec with
  | some sec => if s.labelled r then ts - (((sec + 1) * todS : Nat) : Int) else secOff ts
  | none => secOff ts
/-- An edge passed its checks: the monitor and the label follow, and the selected reference gives the time DPLL a sample. -/
def State.acceptEdge (s : State) (r : Nat) (ts off : Int) : State :=
  let x := s.ref r
  let filt := match x.offset with
    | some o => dpllFilter (s.rd Fld.LHT_TIME_CFG_BW) o (secOff off)
    | none => secOff off
  let s1 := s.refGood r
  let s2 := (s1.setRef r { s1.ref r with lastTs := some ts, lastAt := some s.now }).showOffset r filt
  let use := decide (s2.rd Fld.LHT_STATUS_TIME_REF = r) && s2.servesTime r && s2.timeState != 0
  let s3 := if s2.labelled r then { s2 with lht := { s2.lht with labelSec := s2.lht.labelSec.map (· + 1) } } else s2
  if use then s3.timeSample off else s3

/-- PPS_IN_EDGE (R468, R469, R490): a pulse of `widthNs` began with an edge on a PPS input. -/
def execPpsInEdge (r : Nat) (rising : Bool) (widthNs : Nat) (s : State) : Host.Outcome State Fault Refusal :=
  let falling := s.on (if r = 0 then Fld.LHT_PPS_IN_CFG_EDGE0 else Fld.LHT_PPS_IN_CFG_EDGE1)
  if 2 ≤ r ∨ widthNs < 50 ∨ rising = falling then .next s
  else
    let ts := s.ppsStamp r
    let x := s.ref r
    let off := s.edgeOffset r ts
    let inWindow := match x.lastTs with
      | some l => decide ((ts - l - ((todS : Nat) : Int)).natAbs ≤ 10000 * todNs)
      | none => true
    let near := match x.offset with
      | some o => decide (((secOff (off - o)).natAbs : Int) ≤ s.jumpOf r)
      | none => true
    let t := s.wr Fld.LHT_REF_STATUS_PRESENT 1 0 r
    if !inWindow then .next ((t.wr Fld.LHT_REF_STATUS_FREQ_FAULT 1 0 r).refDiscard r 0)
    else if !near then .next (t.refDiscard r 3)
    else .next (s.acceptEdge r ts off)

/-- FREQ_GATE_MEASURE (R468): the frequency of FREQ_IN or of a SyncE clock over a 1 s gate deviates by `ppb`. -/
def execFreqGateMeasure (r : Nat) (ppb : Int) (s : State) : Host.Outcome State Fault Refusal :=
  if r < 2 ∨ 5 < r then .next s
  else if 4 ≤ r ∧ s.rd Fld.LHT_SYNCE_SRC_EN 0 (r - 4) ≠ 1 then .next s
  else
    let t := s.setRef r { s.ref r with lastAt := some s.now }
    let dev := ppb + ((s.perturbAmount 3 r : Nat) : Int)
    if dev.natAbs ≤ s.rd Fld.LHT_REF_FREQ_WIN 0 r * 100 then .next (t.refGood r)
    else .next ((t.wr Fld.LHT_REF_STATUS_PRESENT 1 0 r).refFails r Fld.LHT_REF_STATUS_FREQ_FAULT)

/-- REF_QUALIFY (R468): a reference that has passed every check for QUAL_S becomes QUALIFIED, and the DPLLs select. -/
def execRefQualify (r : Nat) (s : State) : Host.Outcome State Fault Refusal :=
  let x := s.ref r
  if r < 7 && !s.on Fld.LHT_REF_STATUS_QUALIFIED 0 r && s.since x.goodSince (secsClk (s.rd Fld.LHT_REF_CFG_QUAL_S 0 r)) then
    let t := (s.wr Fld.LHT_REF_STATUS_QUALIFIED 1 0 r).setRef r { x with qualSince := some s.now }
    .next (t.reselect.ptpServo r)
  else .next s

/-- A SyncE reference meets its loss condition: its port is not UP, a lane of it has lost lock, or its quality level is
unusable. -/
def State.synceLost (s : State) (k : Nat) : Bool :=
  let port := s.rd Fld.LHT_SYNCE_SRC_PORT 0 k
  let ql := s.rd Fld.PTP_SYNCE_QL_CURRENT 0 (4 + k)
  s.rd Fld.LHT_SYNCE_SRC_EN 0 k != 1 || !s.portUp port || (s.rd Fld.PTP_CTRL_ESMC_EN == 1 && (ql == 0 || ql == 15))

/-- REF_LOSS (R468): a reference meets the loss condition of Table 16.2; `lock` says that a lane of its port lost CDR lock. -/
def execRefLoss (r : Nat) (lock : Bool) (s : State) : Host.Outcome State Fault Refusal :=
  let x := s.ref r
  let lost := if r < 2 then s.since x.lastAt (11 * sClk / 10 + 1)
    else if r < 4 then x.lastAt.isSome
    else if r < 6 then x.lastAt.isSome && (lock || s.synceLost (r - 4))
    else r == 6 && (s.since x.lastAt (secsClk (s.rd Fld.LHT_PTP_CFG_LOSS_S) + 1) || (x.lastAt.isSome && s.ptpSlave.isNone))
  .next (if lost then s.refGone r else s)

/-- WTR_EXPIRY (R471): with REVERTIVE, a DPLL moves back to the reference of lowest PRIO among those that have stayed QUALIFIED
for WTR_S. -/
def execWtrExpiry (synce : Bool) (s : State) : Host.Outcome State Fault Refusal :=
  let cands := if synce then s.synceCands else s.timeCands
  let sel := s.rd (if synce then Fld.LHT_STATUS_SYNCE_REF else Fld.LHT_STATUS_TIME_REF)
  let ripe := cands.filter (fun r => s.since (s.ref r).qualSince (secsClk (s.rd Fld.LHT_WTR_WTR_S))
    && decide (s.rd Fld.LHT_REF_CFG_PRIO 0 r < s.rd Fld.LHT_REF_CFG_PRIO 0 sel))
  if s.on Fld.LHT_CTRL_REVERTIVE && sel != 15 then
    match s.bestRef ripe with
    | some r =>
      if synce then .next (((s.wr Fld.LHT_STATUS_SYNCE_REF r).bump .LHT_SWITCHES).raise Ev.LHT_REF_SWITCH .device 0 (r + 16))
      else
        let t := s.takeTimeRef r
        .next { t with lht := { t.lht with lockFrom := none } }
    | none => .next s
  else .next s

/-! ### Time-of-day labels (R470) -/

/-- TOD_MESSAGE_RECEIVE (R470): a message on TOD_RX, with its seconds and whether its checksum is good. -/
def execTodMessageReceive (sec : Nat) (csumOk : Bool) (s : State) : Host.Outcome State Fault Refusal :=
  let r := s.rd Fld.LHT_TOD_CFG_RX_PPS
  if !s.on Fld.LHT_TOD_CFG_RX_EN then .next s
  else
    let inTime := match (s.ref r).lastAt with
      | some t => decide (t + msClk ≤ s.now ∧ s.now ≤ t + 900 * msClk)
      | none => false
    let follows := match s.lht.todPrev with
      | some p => decide (sec = p + 1)
      | none => true
    if csumOk && inTime && follows then
      .next { s with lht := { s.lht with todPrev := some sec, todRun := s.lht.todRun + 1, labelAt := some s.now, labelSec := some sec } }
    else .next ((s.bump .LHT_TOD_BAD).raiseSec Ev.LHT_TOD_BAD)

/-- TOD_LABEL_LOSS (R470): three seconds without a valid label. -/
def execTodLabelLoss (s : State) : Host.Outcome State Fault Refusal :=
  if s.since s.lht.labelAt (3 * sClk) then
    let t := { s with lht := { s.lht with todPrev := none, todRun := 0, labelAt := none, labelSec := none } }
    .next t.reselect
  else .next s

/-! ### States and the uncertainty -/

/-- TIME_LOCK (R477): the filtered error has stayed within LOCK_NS for LOCK_S seconds. -/
def execTimeLock (s : State) : Host.Outcome State Fault Refusal :=
  if s.timeState == 1 && s.since s.lht.lockFrom (secsClk (s.rd Fld.LHT_TIME_CFG_LOCK_S)) then .next (s.setTimeState 2) else .next s

/-- SYNCE_LOCK (R474): the SyncE DPLL, acquiring, has locked to its reference. -/
def execSynceLock (s : State) : Host.Outcome State Fault Refusal :=
  if s.rd Fld.LHT_STATUS_SYNCE_STATE = 1 ∧ s.rd Fld.LHT_STATUS_SYNCE_REF ≠ 15 then .next (s.setSynceState 2) else .next s

/-- RADIO_LOCK (R474): the radio DPLL has locked to the TIME clock, and its clock runs from the next whole second. -/
def execRadioLock (s : State) : Host.Outcome State Fault Refusal :=
  if s.on Fld.LHT_CTRL_RADIO_EN && s.rd Fld.LHT_RADIO_CFG_RADIO_HZ != 0 && !s.on Fld.LHT_STATUS_RADIO_LOCKED then
    .next ((s.wr Fld.LHT_STATUS_RADIO_LOCKED 1).alignRadio s.tod)
  else .next s

/-- What one interval of HOLDOVER adds (R482, R485): the temperature integral and the time shown and counted. -/
def State.holdInterval (s : State) (clk : Nat) : State :=
  let d := if s.on Fld.LHT_STATUS_TEMP_FAULT then 100 * s.rd Fld.LHT_MODEL_CFG_FAULT_DT else (s.temp - s.lht.tE).natAbs
  let secs := (s.now - s.lht.holdAt) / sClk
  let s1 := { s with lht := { s.lht with theta := s.lht.theta + d * clk } }
  (s1.bump .LHT_HOLDOVER_S 0 (secs - s.rd Fld.LHT_HOLD_TIME_SECONDS)).wr Fld.LHT_HOLD_TIME_SECONDS secs
/-- TU_RECOMPUTE (R482): every 1 ms; a TU above FREERUN_TU_US ends HOLDOVER (R477), and time learned in LOCKED at 100 ns or less
counts (R480). -/
def execTuRecompute (s : State) : Host.Outcome State Fault Refusal :=
  let clk := s.now - s.lht.tuAt
  if clk < msClk then .next s
  else
    let s1 := { s with lht := { s.lht with tuAt := s.now } }
    let s2 := if s1.timeState = 3 then s1.holdInterval clk else s1
    let s3 := s2.wr Fld.LHT_TU_TU s2.tuNow
    let tu := s3.rd Fld.LHT_TU_TU
    let learns := s3.timeState == 2 && decide (tu ≤ 100) && !s3.on Fld.LHT_STATUS_TEMP_FAULT && !s3.on Fld.LHT_STATUS_OSC_FALLBACK
    if s3.timeState = 3 ∧ s3.rd Fld.LHT_HOLD_CFG_FREERUN_TU_US * 1000 < tu then .next (s3.setTimeState 0)
    else if learns then .next { s3 with lht := { s3.lht with learnClk := s3.lht.learnClk + clk } }
    else .next s3

/-- TIME_REALIGN (R465, R478, R483): every 1 µs the counter has slewed at SLEW × 100 ppb at most, and CORE takes the state and TU
that go with the time. -/
def execTimeRealign (s : State) : Host.Outcome State Fault Refusal :=
  let clk := s.now - s.lht.realignAt
  if clk < usClk then .next s
  else
    let most : Int := ((clk * todClk * s.rd Fld.LHT_TIME_CFG_SLEW / 10000000 : Nat) : Int)
    let d := max (-most) (min most s.lht.slew)
    .next { s with
      tod := ((s.tod : Int) + d).toNat
      lht := { s.lht with slew := s.lht.slew - d, realignAt := s.now, coreValid := s.timeValid, coreTu := s.rd Fld.LHT_TU_TU } }

/-- A fit of the model (R480), in the units of Table 16.5; the uncertainties are three standard errors. -/
def State.takeFit (s : State) (y0 d k tl uf ud ut : Nat) : State :=
  let s1 := ((s.wr Fld.LHT_MODEL_Y0_Y0 y0).wr Fld.LHT_MODEL_D_D d).wr Fld.LHT_MODEL_KT_K k
  let s2 := ((s1.wr Fld.LHT_MODEL_KT_T_L tl).wr Fld.LHT_MODEL_U0_U_F (max 100 uf)).wr Fld.LHT_MODEL_U0_U_D (max 50 ud)
  (s2.wr Fld.LHT_MODEL_U1_U_T (max 10 ut)).wr Fld.LHT_MODEL_U1_LEARN_H (min 65535 (s.rd Fld.LHT_MODEL_U1_LEARN_H + 1))
/-- MODEL_FIT (R480, R481): a whole hour has been learned; the fit comes into force and is stored; `stored` says that the write
succeeded. -/
def execModelFit (y0 d k tl uf ud ut : Nat) (stored : Bool) (s : State) : Host.Outcome State Fault Refusal :=
  if s.lht.learnClk < 3600 * sClk then .next s
  else
    let t := s.takeFit y0 d k tl uf ud ut
    let u := { t with lht := { t.lht with learnClk := t.lht.learnClk - 3600 * sClk, modelGood := true } }
    .next (u.showModel.storeModel stored)

/-! ### Temperature and oscillator (R485, R486) -/

/-- TEMP_SAMPLE (R485): every 100 ms the converter reads OSC_TEMP, here in mV. -/
def execTempSample (mv : Nat) (s : State) : Host.Outcome State Fault Refusal :=
  let t := signedOf 16 (s.rd Fld.LHT_TEMP_CFG_OFFSET) + ((mv * s.rd Fld.LHT_TEMP_CFG_GAIN / 100 : Nat) : Int)
  let jump := match s.lht.reading with
    | some p => decide (200 < (t - p).natAbs)
    | none => false
  let s1 := { s with lht := { s.lht with reading := some t, tempAt := some s.now } }
  if t < -5500 ∨ 12500 < t ∨ jump = true then
    .next ((({ s1 with lht := { s1.lht with tempGood := none } }).wr Fld.LHT_STATUS_TEMP_FAULT 1).raise Ev.LHT_TEMP_FAULT)
  else
    let s2 := { s1 with lht := { s1.lht with tempGood := some (s1.lht.tempGood.getD s1.now) } }
    .next (if s2.on Fld.LHT_STATUS_TEMP_FAULT then s2 else s2.wr Fld.LHT_TEMP_TEMP (fieldOf 16 t))

/-- TEMP_FAULT_CLEAR (R485): after 10 s of good readings. -/
def execTempFaultClear (s : State) : Host.Outcome State Fault Refusal :=
  if s.on Fld.LHT_STATUS_TEMP_FAULT && s.since s.lht.tempGood (10 * sClk) then
    let t := s.wr Fld.LHT_STATUS_TEMP_FAULT 0
    .next (match t.lht.reading with | some x => t.wr Fld.LHT_TEMP_TEMP (fieldOf 16 x) | none => t)
  else .next s

/-- OSC_LOSS (R486): OSC_IN has shown no edge for 1 µs, and the oscillator has moved to REFCLK. -/
def execOscLoss (s : State) : Host.Outcome State Fault Refusal :=
  if s.on Fld.LHT_STATUS_OSC_FALLBACK then .next s
  else
    let s1 := ((s.wr Fld.LHT_STATUS_OSC_FALLBACK 1).raise Ev.LHT_OSC_LOST).showModel
    let s2 := if s1.timeState = 3 then s1.setTimeState 0 else s1
    .next (if s2.rd Fld.LHT_STATUS_SYNCE_STATE = 3 then s2.setSynceState 0 else s2)

/-- OSC_RECOVER (R486): OSC_IN has run within ±10 ppm for 10 s; the model returns. -/
def execOscRecover (s : State) : Host.Outcome State Fault Refusal := .next (s.wr Fld.LHT_STATUS_OSC_FALLBACK 0).showModel

/-! ### Outputs (R487 to R489) -/

/-- The second whose edge, moved by ADJ_PS, lies in the last core clock, when there is one. -/
def State.ppsSecond (s : State) (n : Nat) : Option Nat :=
  let x := (s.tod : Int) - psUnits (signedOf 32 (s.rd Fld.LHT_PPS_OUT_ADJ_ADJ_PS 0 n))
  if x % ((todS : Nat) : Int) < ((todClk : Nat) : Int) ∧ 0 ≤ x then some (x.toNat / todS) else none
/-- An output may emit the edge of a second (R488). -/
def State.ppsMay (s : State) (n sec : Nat) : Bool :=
  s.rd Fld.LHT_PPS_OUT_CFG_EN 0 n == 1 && s.rd Fld.LHT_PPS_OUT_CFG_MODE 0 n == 0 && s.timeValid && s.timeState != 0
    && decide (s.lht.ppsFrom ≤ sec * todS) && Sparse.find s.lht.ppsLast n != some sec

/-- A rising edge of the radio clock on an output in RADIO mode (R474, R487, R488): once per cycle, high for half of it. -/
def State.radioOut (s : State) (n : Nat) : State :=
  match s.radioEdge with
  | some k =>
    if s.rd Fld.LHT_PPS_OUT_CFG_EN 0 n = 1 ∧ s.timeValid = true ∧ s.timeState ≠ 0 ∧ s.lht.ppsFrom ≤ s.tod
        ∧ Sparse.find s.lht.ppsLast (n + 3) ≠ some k then
      let high := Sparse.insert s.lht.ppsHigh n (s.now + sClk / (2 * s.rd Fld.LHT_RADIO_CFG_RADIO_HZ))
      ({ s with lht := { s.lht with ppsHigh := high, ppsLast := Sparse.insert s.lht.ppsLast (n + 3) k } }).emit (.time (n + 3) k)
    else s
  | none => s

/-- PPS_OUT_EDGE (R474, R487, R488): the counter passes a whole second plus ADJ_PS, or in RADIO mode the radio clock rises; with TX_EN the
time message of PPS_OUT0 is due TX_DELAY_MS later (R489). -/
def execPpsOutEdge (n : Nat) (s : State) : Host.Outcome State Fault Refusal :=
  if n < 2 ∧ s.rd Fld.LHT_PPS_OUT_CFG_MODE 0 n = 1 then .next (s.radioOut n) else
  match s.ppsSecond n with
  | some sec =>
    if n < 2 && s.ppsMay n sec then
      let high := Sparse.insert s.lht.ppsHigh n (s.now + s.rd Fld.LHT_PPS_OUT_CFG_WIDTH_US 0 n * usClk)
      let due := if n = 0 && s.on Fld.LHT_TOD_CFG_TX_EN then some (s.now + s.rd Fld.LHT_TOD_CFG_TX_DELAY_MS * msClk, sec) else s.lht.todTx
      .next (({ s with lht := { s.lht with ppsHigh := high, ppsLast := Sparse.insert s.lht.ppsLast n sec, todTx := due } }).emit (.time n sec))
    else .next s
  | none => .next s

/-- PPS_PULSE_END (R487): WIDTH_US after its edge a pulse ends. -/
def execPpsPulseEnd (n : Nat) (s : State) : Host.Outcome State Fault Refusal :=
  if s.since (Sparse.find s.lht.ppsHigh n) 0 then .next { s with lht := { s.lht with ppsHigh := Sparse.erase s.lht.ppsHigh n } }
  else .next s

/-- TOD_TRANSMIT (R489): the message carries the edge's time, LHT_UTC and the clock class. -/
def execTodTransmit (s : State) : Host.Outcome State Fault Refusal :=
  match s.lht.todTx with
  | some (at_, sec) =>
    if at_ ≤ s.now then
      let t := { s with lht := { s.lht with todTx := none } }
      let msg := sec + (t.rdReg Reg.LHT_UTC 0 0 0).toNat * 2 ^ 48 + t.rd Fld.PTP_STATUS_CLOCK_CLASS * 2 ^ 80
        + t.rd Fld.PTP_STATUS_CLOCK_ACCURACY * 2 ^ 88
      .next (if t.on Fld.LHT_TOD_CFG_TX_EN then t.emit (.time 2 msg) else t)
    else .next s
  | none => .next s

end Sys2Proof.Machine
end

