-- ==== Sys2Proof/Machine/FltOps.lean ====
section
/-! DEFINITION. What the Fleit control does (spec 22): bundles and their frames, heartbeats, lane sparing, and the roles and
mirror queue of a pair. -/
namespace Sys2Proof.Machine

open Sys2Proof.Config

/-! ### Bundles (R623 to R626) -/

/-- The bundle. -/
def State.bundle (s : State) (b : Nat) : Bundle := Sparse.get s.flt.bundles b Bundle.init
/-- Replace it. -/
def State.setBundle (s : State) (b : Nat) (x : Bundle) : State := { s with flt := { s.flt with bundles := Sparse.put s.flt.bundles b x Bundle.init } }
/-- STATE of a bundle (Table 22.1). -/
def State.bundleState (s : State) (b : Nat) : Nat := s.rd Fld.FLT_BUNDLE_STATUS_STATE 0 b
/-- The logical port of a bundle: its first lane (R624). -/
def State.bundlePort (s : State) (b : Nat) : Nat := s.rd Fld.FLT_BUNDLE_CFG_FIRST_LANE 0 b
/-- The lanes of a bundle. -/
def State.bundleLanes (s : State) (b : Nat) : List Nat :=
  (List.range (s.rd Fld.FLT_BUNDLE_CFG_LANES 0 b)).map (fun i => s.bundlePort b + i)
/-- The bundle that holds a lane. -/
def State.bundleOfLane (s : State) (lane : Nat) : Option Nat := (List.range 4).find? (fun b => (s.bundleLanes b).contains lane)
/-- The device is one of a pair, or a member of a stack (FLT_SYS_CFG.MODE). -/
def State.inPair (s : State) : Bool := s.rd Fld.FLT_SYS_CFG_MODE == 1
/-- See `State.inPair`. -/
def State.inStack (s : State) : Bool := s.rd Fld.FLT_SYS_CFG_MODE == 2
/-- The bundles of the pair link (R640). -/
def State.pairLinks (s : State) : List Nat := (List.range 4).filter (fun b => s.inPair && s.on Fld.FLT_BUNDLE_CFG_PAIR_LINK 0 b)
/-- A number modulo 2^32 lies at or after another (R643). -/
def after32 (a b : Nat) : Bool := decide ((a + 2 ^ 32 - b) % 2 ^ 32 < 2 ^ 31)

/-- The mirror queue, with FLT_MIRROR_STATUS.FILL. -/
def State.setMirrorQ (s : State) (l : List MirrorUpd) : State := ({ s with flt := { s.flt with mirrorQ := l } }).wr Fld.FLT_MIRROR_STATUS_FILL l.length
/-- The stack as this device hears it (R636, R639): the device that serves as master, and the peers heard. -/
def State.showStack (s : State) : State :=
  let up := (List.range 4).filter (fun b => s.inStack && s.bundleState b == 3)
  let role := fun (r : Nat) =>
    (if s.rd Fld.FLT_SYS_CFG_STACK_ROLE = r then [s.rd Fld.FLT_SYS_CFG_DEV_ID] else [])
      ++ (up.filter (fun b => Heartbeat.STACK_ROLE.get (s.bundle b).peerHb == r)).map (fun b => s.rd Fld.FLT_BUNDLE_STATUS_PEER_DEV 0 b)
  let master := ((if s.inStack then role 1 else []) ++ (if s.inStack then role 2 else [])).head?
  let heard := up.foldl (fun a b => a ||| 2 ^ s.rd Fld.FLT_BUNDLE_STATUS_PEER_DEV 0 b) 0
  ((s.wr Fld.FLT_STACK_STATUS_MASTER (master.getD 0)).wrB Fld.FLT_STACK_STATUS_MASTER_VALID master.isSome).wr Fld.FLT_STACK_STATUS_HEARD heard

/-- Give back the buffer that stages a MIRROR or CONTROL frame. -/
def State.freeStage (s : State) (b : Nat) (k : KeptFrame) : State :=
  match k.buf with
  | some id => s.releaseFree (s.bundlePort b / 24) reqFleit [id]
  | none => s
/-- Release what a segment holds: the buffers of the packet that it ends (R630). -/
def State.freeSegment (s : State) (b : Nat) (g : Segment) : State :=
  match g.tx with
  | some f => s.releaseTx (s.bundlePort b) f
  | none => s
/-- A packet in reception ends errored. -/
def State.endReception (s : State) (r : Option Nat) : State :=
  match r with
  | some n => s.endPacket n 7
  | none => s
/-- The time source chosen for reference 6 (R638): in a stack the master, else the backup; in a pair the twin. -/
def State.linkSource (s : State) : Option Nat :=
  let up := fun (b : Nat) => s.bundleState b == 3 && !Heartbeat.LINK_TIMED.on (s.bundle b).peerHb
  if s.inStack then
    match (List.range 4).find? (fun b => up b && Heartbeat.STACK_ROLE.get (s.bundle b).peerHb == 1) with
    | some b => some b
    | none => (List.range 4).find? (fun b => up b && Heartbeat.STACK_ROLE.get (s.bundle b).peerHb == 2)
  else s.pairLinks.find? up

/-- The rest of a frame that a bundle port has begun to cut into segments is dropped. -/
def State.dropCut (s : State) (port : Nat) : State :=
  match (s.port port).tx with
  | some f => if f.done = 0 then s else (s.setPort port { s.port port with tx := none }).releaseTx port f
  | none => s
/-- A bundle goes DOWN (R625): what it holds is discarded and its buffers return, counted when the bundle is closed; its queues are held
as those of a port that goes down; updates the twin has not accepted are sent again on another bundle (R645). -/
def State.bundleDown (s : State) (b : Nat) (count : Bool) : State :=
  let x := s.bundle b
  let was := s.bundleState b
  let port := s.bundlePort b
  if was = 0 then s.setBundle b { x with closing := none }
  else
    let held := x.unacked.map KeptFrame.seg ++ x.segments
    let s1 := x.unacked.foldl (fun (t : State) k => t.freeStage b k) s
    let s2 := held.foldl (fun (t : State) g => t.freeSegment b g) s1
    let s3 := if count && !held.isEmpty then s2.bump .FLT_DISCARD_DISABLE b held.length else s2
    let s4 := (s3.endReception x.rxData).endReception x.rxExpress
    let s5 := s4.setBundle b { Bundle.init with enteredAt := s4.now, peerHb := x.peerHb, lastHb := x.lastHb, peer := x.peer }
    let next := (s5.flt.mirrorQ.head?.map MirrorUpd.mseq).getD s5.flt.mirrorNext
    let s6 := if s.pairLinks.contains b then { s5 with flt := { s5.flt with mirrorNext := next } } else s5
    let s7 := (((s6.wr Fld.FLT_BUNDLE_STATUS_STATE 0 0 b).wr Fld.FLT_BUNDLE_STATUS_SPARE_USED 0 0 b).wr
      Fld.FLT_BUNDLE_STATUS_ACTIVE_LANES 0 0 b).raise Ev.FLT_BUNDLE_DOWN .port port
    let s8 := if was = 3 && s.on Fld.FLT_BUNDLE_CFG_DATA_EN 0 b then ((s7.dropCut port).abortTx port).holdPort port else s7
    let s9 := if s8.on Fld.FLT_SYS_CFG_TIME_FROM_LINK && s8.flt.timeSource == some b && s8.linkSource.isNone then s8.refGone 6 else s8
    s9.showStack
/-- A bundle enters TRAINING. -/
def State.trainBundle (s : State) (b : Nat) : State :=
  (s.setBundle b { Bundle.init with enteredAt := s.now }).wr Fld.FLT_BUNDLE_STATUS_STATE 1 0 b
/-- A CONTROL message waits to be sent: 0 HELLO, 1 SPARE_REQ, 2 SPARE_ACK, 3 CLOSE. -/
def Bundle.queueControl (x : Bundle) (kind lane : Nat) : Bundle :=
  let g : Segment := { chan := .control, first := true, last := true, endErr := false, cls := 0, payload := [], ctl := some (kind, lane), tx := none }
  { x with segments := x.segments ++ [g] }
/-- Credits granted at bundle UP (R631). -/
def creditsAtUp : Sparse Nat := [(0, 2048), (1, 256), (2, 1024), (3, 64)]
/-- The peer of a HELLO may be joined (R626). -/
def State.peerOk (s : State) (h : Hello) : Bool :=
  h.hasCert && h.certSigOk && (slotOfKey s.rind.fuses h.issuerHash).isSome && h.nonceSigOk && h.mode == s.rd Fld.FLT_SYS_CFG_MODE
    && (!s.inStack || h.devId != s.rd Fld.FLT_SYS_CFG_DEV_ID) && (!s.inPair || h.digest == s.flt.pairDigest)
/-- A bundle goes UP; a HELLO that still waits is sent there. -/
def State.bundleUp (s : State) (b : Nat) (h : Hello) : State :=
  let x := { Bundle.init with enteredAt := s.now, credits := creditsAtUp, lastHb := some s.now, hbAt := s.now, peer := some h, heard := true,
                              segments := (s.bundle b).segments }
  let s1 := (s.setBundle b x).wr Fld.FLT_BUNDLE_STATUS_STATE 3 0 b
  let s2 := s1.wr Fld.FLT_BUNDLE_STATUS_PEER_DEV (h.devId % 4) 0 b
  let s3 := { s2 with flt := { s2.flt with firstUp := some (s2.flt.firstUp.getD s2.now) } }
  let s4 := s3.raise Ev.FLT_BUNDLE_UP .port (s.bundlePort b)
  (if s.on Fld.FLT_BUNDLE_CFG_DATA_EN 0 b then s4.openPort (s.bundlePort b) else s4).showStack

/-! ### Acknowledgement and credit (R630, R631) -/

/-- A frame number lies before another, modulo 2^24. -/
def before24 (a b : Nat) : Bool := decide (0 < (b + 2 ^ 24 - a) % 2 ^ 24 ∧ (b + 2 ^ 24 - a) % 2 ^ 24 ≤ 2 ^ 23)
/-- The peer expects a frame: every earlier one is acknowledged, and its buffers are released. -/
def State.ackTo (s : State) (b seq : Nat) : State :=
  let x := s.bundle b
  let done := x.unacked.filter (fun k => before24 k.fseq seq)
  if done.isEmpty then s
  else
    let left := x.unacked.filter (fun k => !before24 k.fseq seq)
    let from_ := match x.resendFrom with
      | some q => if left.isEmpty then none else if before24 q seq then some seq else some q
      | none => none
    let s1 := s.setBundle b { x with unacked := left, progressAt := s.now, resends := 0, resendFrom := from_ }
    done.foldl (fun (t : State) k => (t.freeStage b k).freeSegment b k.seg) s1
/-- Credits return for a channel. -/
def State.addCredit (s : State) (b ch n : Nat) : State :=
  let x := s.bundle b
  if n = 0 then s
  else s.setBundle b { x with credits := Sparse.put x.credits ch (Sparse.get x.credits ch 0 + n) 0, waitSince := Sparse.erase x.waitSince ch,
                              stalled := Sparse.erase x.stalled ch }
/-- A channel owes the peer a credit. -/
def State.oweCredit (s : State) (b ch : Nat) : State :=
  let x := s.bundle b
  s.setBundle b { x with owed := Sparse.insert x.owed ch (Sparse.get x.owed ch 0 + 1) }
/-- Frames are sent again from a number; the fourth resend in a row without progress takes the bundle DOWN. -/
def State.resendFrom (s : State) (b seq : Nat) : State :=
  let x := s.bundle b
  if x.unacked.isEmpty then s
  else if 4 ≤ x.resends + 1 then (s.bundleDown b false).raise Ev.FLT_REPLAY_FAIL .port (s.bundlePort b)
  else s.setBundle b { x with resends := x.resends + 1, progressAt := s.now, resendFrom := some seq }

/-! ### Sending (R627, R628, R632, R633) -/

/-- Bytes of a mirror update (Table 22.6). -/
def mirrorBytes (u : MirrorUpd) : List Byte :=
  let h : BitVec 128 := setFields 0 [(MirrorHdr.MSEQ, u.mseq), (MirrorHdr.KIND, u.kind), (MirrorHdr.RESYNC, u.resync.toNat), (MirrorHdr.BLOCK, u.block),
    (MirrorHdr.INDEX, u.index), (MirrorHdr.SEED, u.seed), (MirrorHdr.FENCE_SEQ, u.fenceSeq)]
  bytesOfNat 16 h.toNat ++ (if u.kind < 2 then bytesOfNat 128 u.body.toNat else [])
/-- The next mirror update to send, as a segment, on a pair-link bundle. -/
def State.mirrorSegment (s : State) (b : Nat) : Option Segment :=
  if s.pairLinks.contains b then
    (s.flt.mirrorQ.find? (fun u => u.mseq == s.flt.mirrorNext)).map (fun u =>
      { chan := .mirror, first := true, last := true, endErr := false, cls := 0, payload := mirrorBytes u, ctl := none, tx := none })
  else none
/-- The generation a frame carries: 0 in a stack. -/
def State.sentGen (s : State) : Nat := if s.inPair then s.rd Fld.FLT_PAIR_STATUS_PAIR_GEN else 0
/-- The HELLO that this device sends (R626): its owner certificate and signature, which verify, its mode, device ID and pair digest, with
its priority and identity (R640). -/
def State.ownHello (s : State) : Hello :=
  { hasCert := s.rind.ownerCert.isSome, issuerHash := (s.rind.ownerCert.map (fun c => sha384 (bytesOfNat 96 (Cert.ISSUER_PUB.get c)))).getD 0,
    certSigOk := true, nonceSigOk := true, mode := s.rd Fld.FLT_SYS_CFG_MODE, devId := s.rd Fld.FLT_SYS_CFG_DEV_ID, digest := s.flt.pairDigest,
    prio := s.rd Fld.FLT_SYS_CFG_PAIR_PRIO, identity := serial.toNat }
/-- A frame leaves on a bundle, with the credits owed for one channel. -/
def State.sendFleit (s : State) (b ty fseq : Nat) (nak : Bool) (g : Segment) : State :=
  let x := s.bundle b
  let (ch, n) := match x.owed with | [] => (0, 0) | (c, k) :: _ => (c, min 255 k)
  let hdr : BitVec 128 := setFields 0 [(FleitHdr.TYPE, ty), (FleitHdr.FIRST, (g.first && ty < 4).toNat), (FleitHdr.LAST, (g.last && ty < 4).toNat),
    (FleitHdr.END_ERR, g.endErr.toNat), (FleitHdr.NAK, nak.toNat), (FleitHdr.LEN, g.payload.length), (FleitHdr.CLASS, g.cls), (FleitHdr.FSEQ, fseq),
    (FleitHdr.ACK_SEQ, x.rxFseq), (FleitHdr.CREDITS, n), (FleitHdr.CREDIT_CH, ch), (FleitHdr.SRC_DEV, s.rd Fld.FLT_SYS_CFG_DEV_ID),
    (FleitHdr.DST_DEV, s.rd Fld.FLT_BUNDLE_STATUS_PEER_DEV 0 b), (FleitHdr.PAIR_GEN, s.sentGen)]
  let amount := s.perturbAmount 4 b
  let bad := decide (freeNat s.fresh % 1000000 < amount)
  let s := if amount = 0 then s else s.draw
  let s1 := s.setBundle b { x with owed := if n = 0 then x.owed else Sparse.put x.owed ch (Sparse.get x.owed ch 0 - n) 0 }
  let crc := if bad then ~~~ fleitCrc hdr g.payload else fleitCrc hdr g.payload
  let s2 := if s.txDriven (s.bundlePort b) then
      match g.ctl with
      | some (0, _) => (s1.emit (.fleit b hdr g.payload crc)).emit (.hello b s.ownHello)
      | some (kind, lane) => (s1.emit (.fleit b hdr g.payload crc)).emit (.control b kind lane)
      | none => s1.emit (.fleit b hdr g.payload crc)
    else s1
  s2.bump .FLT_TX_FRAMES b
/-- A segment without payload. -/
def emptySegment : Segment := { chan := .control, first := false, last := false, endErr := false, cls := 0, payload := [], ctl := none, tx := none }
/-- YIELD goes out once the FENCE update before it has been sent (R648). -/
def State.yieldNow (s : State) : Bool :=
  s.flt.yielding && s.flt.mirrorWait.all (fun u => u.kind != 3)
    && s.flt.mirrorQ.all (fun u => u.kind != 3 || !after32 u.mseq s.flt.mirrorNext)
/-- This device takes its time from a Fleit link (R638). -/
def State.linkTimed (s : State) : Bool := s.on Fld.FLT_SYS_CFG_TIME_FROM_LINK && s.rd Fld.LHT_STATUS_TIME_REF == 6
/-- The heartbeat a bundle sends (Table 22.3). -/
def State.heartbeat (s : State) (b : Nat) : BitVec 384 :=
  let x := s.bundle b
  let role := if s.inPair then s.rd Fld.FLT_PAIR_STATUS_ROLE else 0
  let prev := match x.departs.find? (fun e => e.1 == (x.hbSeq + 255) % 256) with | some e => time96 e.2 | none => 0
  let (rxSeq, rxAt) := match x.arrived with | some e => (e.1, time96 e.2) | none => (0, 0)
  setFields 0 [(Heartbeat.YIELD, s.yieldNow.toNat), (Heartbeat.FORWARDING, (role == 1 || s.inStack).toNat),
    (Heartbeat.TIME_VALID, s.timeValid.toNat), (Heartbeat.LINK_TIMED, s.linkTimed.toNat), (Heartbeat.ROLE, role),
    (Heartbeat.STACK_ROLE, if s.inStack then s.rd Fld.FLT_SYS_CFG_STACK_ROLE else 0), (Heartbeat.HB_SEQ, x.hbSeq), (Heartbeat.RX_SEQ, rxSeq),
    (Heartbeat.T_TX_PREV, prev), (Heartbeat.T_RX_PEER, rxAt),
    (Heartbeat.TU, min 0xFFFFFFFF (s.rd Fld.LHT_TU_TU + if s.linkTimed then 5 else 0)), (Heartbeat.MSEQ_ACCEPTED, s.flt.accepted.getD 0)]
/-- A heartbeat leaves. -/
def State.sendHeartbeat (s : State) (b : Nat) : State :=
  let s1 := s.sendFleit b 4 0 false { emptySegment with payload := bytesOfNat 48 (s.heartbeat b).toNat }
  let x := s1.bundle b
  s1.setBundle b { x with hbDue := false, hbSeq := (x.hbSeq + 1) % 256, departs := ((x.hbSeq, s1.tod) :: x.departs).take 16 }
/-- Cut bytes into segments of at most 256; `n` bounds their number. -/
def segmentsOf (chan : Chan) (cls : Nat) (endErr : Bool) (f : TxFrame) : Nat → Bool → List Byte → List Segment
  | 0, _, _ => []
  | n + 1, first, b =>
    let last := decide (b.length ≤ 256)
    let g : Segment := { chan := chan, first := first, last := last, endErr := endErr && last, cls := cls, payload := b.take 256, ctl := none,
                         tx := if last then some f else none }
    if last then [g] else g :: segmentsOf chan cls endErr f n false (b.drop 256)
/-- The prefix of a packet (R632): its receive timestamp, and the device and port of its original ingress. -/
def State.bundlePrefix (s : State) (p : Packet) : List Byte :=
  bytesOfNat 12 (time96 (max 0 p.ts).toNat) ++ bytesOfNat 1 (s.rd Fld.FLT_SYS_CFG_DEV_ID) ++ bytesOfNat 1 p.port ++ bytesOfNat 2 0
/-- A packet's bytes fill whole words of 4: 1 to 4 bytes follow its last, the last of which says how many (log entry 116). -/
def padWords (b : List Byte) : List Byte :=
  let n := 4 - b.length % 4
  b ++ List.replicate (n - 1) 0 ++ [BitVec.ofNat 8 n]
/-- An express frame being cut through whose end status is not known hands over the whole segments that have arrived (R637). -/
def State.cutSome (s : State) (b : Nat) (f : TxFrame) (bytes : List Byte) : State :=
  let port := s.bundlePort b
  let x := s.bundle b
  let n := (bytes.length - 1) / 256 * 256
  if n = 0 then s
  else
    let gs := (segmentsOf .express 0 false f (n / 256) (f.done == 0) (bytes.take n)).map (fun g => { g with last := false, tx := none })
    let f1 := { f with done := f.done + n, startAt := max 1 s.now }
    (s.setPort port { s.port port with tx := some f1 }).setBundle b { x with segments := x.segments ++ gs }
/-- The rest of a packet taken for a bundle port is cut into segments.  A cut-through frame that ends errored, or passes its limit, ends
there with END_ERR and is counted (R525). -/
def State.cutRest (s : State) (b : Nat) (f : TxFrame) (long : Bool) (bytes : List Byte) : State :=
  let port := s.bundlePort b
  let x := s.bundle b
  let exp := f.item.isNone
  let err := (s.pkt f.pkt).status == some true || long
  let padded := padWords bytes
  let gs := segmentsOf (if exp then .express else .data) (if exp then 0 else f.cls) err f (padded.length / 256 + 1) (f.done == 0) padded
  let t := s.setPort port { s.port port with tx := none, txEnd := s.now }
  let u := t.setBundle b { x with segments := x.segments ++ gs }
  if exp && err then (u.bump (if long then .EXP_CUT_TRUNC_LEN else .EXP_CUT_TRUNC_ERR) port).raiseMs Ev.EXP_CUT_TRUNC .port port
  else if exp then u.bump .EXP_TX port
  else u
/-- The packet taken for a bundle port is cut into segments (R628, R632): once its end status is known, or as it arrives when it is cut
through (R637).  One found errored before its first segment is discarded (R525). -/
def State.cutPacket (s : State) (b : Nat) : State :=
  let port := s.bundlePort b
  let x := s.bundle b
  match (s.port port).tx with
  | some f =>
    let p := s.pkt f.pkt
    let chan : Chan := if f.item.isSome then .data else .express
    if !s.on Fld.FLT_BUNDLE_CFG_DATA_EN 0 b || f.len.isSome || (p.status.isNone && !f.cutThrough)
        || (f.done == 0 && x.segments.any (fun g => g.chan == chan)) || x.closing.isSome then s
    else if f.cutThrough && f.done == 0 && p.status == some true then (s.setPort port { s.port port with tx := none }).releaseTx port f
    else
      let body := (s.txBytes port f).1
      let lim := s.cutLimit port body
      let long := f.cutThrough && decide (lim < body.length + 4)
      let bytes := (s.bundlePrefix p ++ (if long then body.take (lim - 4) else body)).drop f.done
      if p.status.isNone && !long then s.cutSome b f bytes else s.cutRest b f long bytes
  | none => s

/-! ### The pair (R640 to R652) -/

/-- ROLE and STATE of a pair device; a change of state raises EVT 25.6. -/
def State.setPair (s : State) (role st : Nat) : State :=
  let t := s.wr Fld.FLT_PAIR_STATUS_ROLE role
  if s.rd Fld.FLT_PAIR_STATUS_STATE = st then t else (t.wr Fld.FLT_PAIR_STATUS_STATE st).raise Ev.FLT_PAIR_STATE .system
/-- The mirror queue and everything that waits for it end; packets and replies wait for nothing any more. -/
def State.clearMirror (s : State) : State :=
  let t := s.setMirrorQ []
  let next := (t.rd Fld.FLT_MSEQ_TX_MSEQ + 1) % 2 ^ 32
  ({ t with flt := { t.flt with mirrorWait := [], headWaits := false, mirrorNext := next, unsent := [], resync := none, syncEnd := none } }).payReplies
/-- PAIR_GEN after the next one (R649): 65,535 wraps to 1. -/
def nextGen (g : Nat) : Nat := if g = 65535 then 1 else g + 1
/-- The device becomes SECONDARY in SYNC. -/
def State.becomeSecondary (s : State) : State :=
  let t := s.clearMirror.setPair 2 1
  { t with flt := { t.flt with applyQ := [], rxUpdates := [], accepted := none, fenceSeq := none, rejoinFilled := false, twinLost := false, yielding := false } }
/-- The pool state that a NAT record implies (Table 10.8): an OUT record's port and a subscriber record's blocks, taken or returned. -/
def State.poolUse (t : State) (q : BitVec 1024) (used : Bool) : State :=
  let c := FlowRec.CLASS.get q
  if isOut (t.role c) && FlowRec.LINK_VALID.on q then
    let k := t.cls Fld.FLW_SVC_CFG_POOL c
    let b := FlowRec.NAT_BLOCK.get q
    t.markPort k b (FlowRec.NAT_PORT.get q - (t.blockAt k b).2) used
  else if t.role c = 6 then
    let k := t.subPool c
    let bs := (List.range (SubRec.BLOCKS.get q)).map (fun j => (SubRec.BLOCK j).get q)
    let rest := (t.poolFreeList k).filter (fun x => !bs.contains x)
    t.setPoolFreeList k (if used then rest else rest ++ bs)
  else t
/-- Give a slot of the flow area a mirrored record, with the pool state it implies and the count of its slice. -/
def State.adoptRecord (s : State) (i : Nat) (r : BitVec 1024) : State :=
  let old := s.stored 1 i
  let was := FlowRec.VALID.on old
  let is := FlowRec.VALID.on r
  let s1 := if was then s.poolUse old false else s
  let s2 := if is then s1.poolUse r true else s1
  let sl := groupSlice (i / 32)
  let n := s2.rd Fld.FLW_SLICE_RECORDS_RECORDS sl
  let s3 := s2.wr Fld.FLW_SLICE_RECORDS_RECORDS (n + is.toNat - was.toNat) sl
  s3.store 1 i (sealRec r)
/-- Give a session one of its blocks. -/
def State.adoptBlock (s : State) (i block : Nat) (body : BitVec 1024) : State :=
  let r := s.session i
  let f : BitFld := ⟨1024 * block, 1024⟩
  let was := Sess.VALID.on r
  let t := s.setSession i (f.set r body.toNat)
  let is := Sess.VALID.on (t.session i)
  if was = is then t else t.countSession is
/-- Apply an update (R645). -/
def State.applyUpdate (s : State) (u : MirrorUpd) : State :=
  match u.kind with
  | 0 => s.adoptRecord u.index u.body
  | 1 => s.adoptBlock u.index u.block u.body
  | 2 => s.moveGroup u.index u.seed
  | _ => s
/-- What the twin reports as accepted leaves the mirror queue; what waited for it goes on (R345, R646). -/
def State.twinAccepted (s : State) (m : Nat) : State :=
  let acc := s.rd Fld.FLT_MSEQ_ACC_MSEQ
  if s.rd Fld.FLT_PAIR_STATUS_ROLE = 1 ∧ m ≠ acc ∧ after32 m acc = true ∧ after32 (s.rd Fld.FLT_MSEQ_TX_MSEQ) m = true then
    let t := s.setMirrorQ (s.flt.mirrorQ.filter (fun u => !after32 m u.mseq))
    let next := if after32 m t.flt.mirrorNext then (m + 1) % 2 ^ 32 else t.flt.mirrorNext
    (({ t with flt := { t.flt with mirrorNext := next } }).wr Fld.FLT_MSEQ_ACC_MSEQ m).payReplies
  else s
/-- The updates of a pair are put in the queue (R643). -/
def State.enqueueUpdate (s : State) (u : MirrorUpd) : State :=
  let m := (s.rd Fld.FLT_MSEQ_TX_MSEQ + 1) % 2 ^ 32
  let v := { u with mseq := m, fenceSeq := if u.kind = 3 then s.rd Fld.FLT_MSEQ_TX_MSEQ else u.fenceSeq }
  let t := ((s.setMirrorQ (s.flt.mirrorQ ++ [v])).wr Fld.FLT_MSEQ_TX_MSEQ m).bump .FLT_MIRROR_UPDATES
  let t1 := if u.kind = 4 then { t with flt := { t.flt with syncEnd := some m } } else t
  if u.resync && u.kind < 3 then t1.bump .FLT_RESYNC_COPIES else t1

/-- A block reset of FLEITCTL (R654): every bundle goes DOWN, the queues empty, and a PRIMARY in PROTECTED falls to SYNC. -/
def State.resetFleit (s : State) : State :=
  let s1 := (List.range 4).foldl (fun (t : State) b => t.bundleDown b false) s
  let role := s1.rd Fld.FLT_PAIR_STATUS_ROLE
  let st := s1.rd Fld.FLT_PAIR_STATUS_STATE
  let s2 := s1.clearMirror
  let s3 := { s2 with flt := { s2.flt with applyQ := [], rxUpdates := [] } }
  if role = 1 ∧ st ≠ 0 then
    let s4 := s3.setPair 1 1
    { s4 with flt := { s4.flt with resync := some 0 } }
  else s3

/-! ### Receiving (R629 to R633, R650) -/

/-- A frame with a good CRC breaks a rule of the protocol (R629). -/
def State.frameBad (s : State) (b : Nat) (hdr : BitVec 128) (payload : List Byte) : Bool :=
  let ty := FleitHdr.TYPE.get hdr
  let len := FleitHdr.LEN.get hdr
  let bits := natOfBytes payload
  ty == 0 || decide (7 ≤ ty) || decide (256 < len) || len % 4 != 0 || (ty == 4 && len != 48)
    || hdr.toNat / 2 ^ 21 % 8 != 0 || hdr.toNat / 2 ^ 102 != 0
    || (ty == 4 && (bits / 2 ^ 24 % 256 != 0 || bits / 2 ^ 288 != 0))
    || (ty == 3 && (bits / 2 ^ 112 % 65536 != 0 || decide (5 ≤ bits / 2 ^ 32 % 8)))
    || (s.bundleState b == 3 && (FleitHdr.SRC_DEV.get hdr != s.rd Fld.FLT_BUNDLE_STATUS_PEER_DEV 0 b
          || FleitHdr.DST_DEV.get hdr != s.rd Fld.FLT_SYS_CFG_DEV_ID))
/-- A generation lies below this device's (R650). -/
def State.staleGen (s : State) (g : Nat) : Bool :=
  s.inPair && g != 0 && decide (32768 ≤ (g + 65536 - s.rd Fld.FLT_PAIR_STATUS_PAIR_GEN) % 65536)
/-- The mirror update of a payload. -/
def updateOf (payload : List Byte) : MirrorUpd :=
  let v := natOfBytes payload
  let h : BitVec 128 := BitVec.ofNat 128 v
  { mseq := MirrorHdr.MSEQ.get h, kind := MirrorHdr.KIND.get h, resync := MirrorHdr.RESYNC.on h, block := MirrorHdr.BLOCK.get h,
    index := MirrorHdr.INDEX.get h, seed := MirrorHdr.SEED.get h, fenceSeq := MirrorHdr.FENCE_SEQ.get h, body := BitVec.ofNat 1024 (v / 2 ^ 128),
    refresh := false }
/-- The padding at the end of a packet's last segment, as its last byte gives it: 0 when that is none of 1 to 4. -/
def padOf (b : List Byte) : Nat :=
  let n := ((b.getLast?).getD 0).toNat
  if n ≤ 4 ∧ n ≤ b.length then n else 0
/-- A segment of a packet arrives: it enters the pipeline with INGRESS_PORT the bundle's port (R632). -/
def State.rxSegment (s : State) (b : Nat) (express : Bool) (hdr : BitVec 128) (payload : List Byte) : State :=
  let port := s.bundlePort b
  let x := s.bundle b
  let cur := if express then x.rxExpress else x.rxData
  let put := fun (t : State) (c : Option Nat) =>
    let y := t.bundle b
    t.setBundle b (if express then { y with rxExpress := c } else { y with rxData := c })
  let (s1, now_, bytes) :=
    if FleitHdr.FIRST.on hdr then
      let t := s.endReception cur
      let n := t.nextPkt
      let data := payload.drop 16
      let last := FleitHdr.LAST.on hdr
      let head := if last then data.take (data.length - padOf data) else data
      let k := { Packet.init with port := port, pipe := port / 24, ts := ((unitsOf96 (natOfBytes (payload.take 12)) : Nat) : Int) }
      let t1 := { t.setPkt n k with nextPkt := n + 1 }
      let t2 := t1.setFifo (port / 24) (port % 24) (t1.fifo (port / 24) (port % 24) ++ [⟨n, t1.levelFor port head, 0, 0, false⟩])
      (t2, some n, data)
    else (s, cur, payload)
  match now_ with
  | none => s1
  | some n =>
    let last := FleitHdr.LAST.on hdr
    let take := if last then bytes.take (bytes.length - padOf bytes) else bytes
    let l := s1.fifo (port / 24) (port % 24)
    let s2 := (s1.appendBytes n take).setFifo (port / 24) (port % 24) (fifoUpd l n (fun e => { e with got := e.got + take.length }))
    if last then put (s2.endPacket n (if FleitHdr.END_ERR.on hdr || padOf bytes == 0 then 7 else 0)) none
    else put s2 (some n)
/-- A heartbeat arrives (R633, R638): its exchange of times is summed, and what it reports takes effect. -/
def State.heartbeatIn (s : State) (b : Nat) (hb : BitVec 384) : State :=
  let x := s.bundle b
  let seq := Heartbeat.HB_SEQ.get hb
  let theirs : Option Int := match x.arrived with
    | some (q, t2) => if q = (seq + 255) % 256 ∧ Heartbeat.T_TX_PREV.get hb ≠ 0 then some ((t2 : Int) - (unitsOf96 (Heartbeat.T_TX_PREV.get hb) : Int)) else none
    | none => none
  let ours : Option Int := match x.departs.find? (fun e => e.1 == Heartbeat.RX_SEQ.get hb) with
    | some (_, t3) => if Heartbeat.T_RX_PEER.get hb ≠ 0 then some ((unitsOf96 (Heartbeat.T_RX_PEER.get hb) : Int) - (t3 : Int)) else none
    | none => none
  let (sum, n) := match theirs, ours with
    | some d, some o => (x.sampleSum + (d - o), x.sampleCount + 1)
    | _, _ => (x.sampleSum, x.sampleCount)
  let s1 := s.setBundle b { x with lastHb := some s.now, peerHb := hb, arrived := some (seq, s.tod), sampleSum := sum, sampleCount := n }
  let s2 := if s1.pairLinks.contains b then s1.twinAccepted (Heartbeat.MSEQ_ACCEPTED.get hb) else s1
  s2.showStack
/-- What an accepted frame does, by its TYPE. -/
def State.takeFrame (s : State) (b : Nat) (hdr : BitVec 128) (payload : List Byte) : State :=
  let s1 := (s.ackTo b (FleitHdr.ACK_SEQ.get hdr)).addCredit b (FleitHdr.CREDIT_CH.get hdr) (FleitHdr.CREDITS.get hdr)
  match FleitHdr.TYPE.get hdr with
  | 1 => (if s.on Fld.FLT_BUNDLE_CFG_DATA_EN 0 b then s1.rxSegment b false hdr payload else s1).oweCredit b 0
  | 2 => (if s.on Fld.FLT_BUNDLE_CFG_DATA_EN 0 b then s1.rxSegment b true hdr payload else s1).oweCredit b 1
  | 3 =>
    if s1.rd Fld.FLT_PAIR_STATUS_ROLE = 2 then { s1 with flt := { s1.flt with rxUpdates := s1.flt.rxUpdates ++ [(b, updateOf payload)] } }
    else s1.oweCredit b 2
  | 4 => s1.heartbeatIn b (BitVec.ofNat 384 (natOfBytes payload))
  | 5 => s1.oweCredit b 3
  | _ => if FleitHdr.NAK.on hdr then s1.resendFrom b (FleitHdr.ACK_SEQ.get hdr) else s1
/-- A frame of a bundle arrives. -/
def State.frameIn (s : State) (b : Nat) (hdr : BitVec 128) (payload : List Byte) (crcOk : Bool) : State :=
  let x := s.bundle b
  let ty := FleitHdr.TYPE.get hdr
  let numbered := ty != 4 && ty != 6
  if !crcOk then (s.bump .FLT_CRC_ERR b).setBundle b { x with nakDue := true }
  else if s.frameBad b hdr payload then
    ((s.bundleDown b false).bump .FLT_BAD_FRAME b).raise Ev.FLT_BAD_FRAME .port (s.bundlePort b)
  else if numbered && FleitHdr.FSEQ.get hdr != x.rxFseq then (s.bump .FLT_CRC_ERR b).setBundle b { x with nakDue := true }
  else
    let s1 := s.bump .FLT_RX_FRAMES b
    let s2 := if numbered then s1.setBundle b { x with rxFseq := (x.rxFseq + 1) % 2 ^ 24, ackDue := true } else s1
    if s2.staleGen (FleitHdr.PAIR_GEN.get hdr) then
      ((s2.bump .FLT_STALE_FRAMES).raiseMs Ev.FLT_STALE_FRAME .system).becomeSecondary
    else s2.takeFrame b hdr payload

end Sys2Proof.Machine
end

