-- ==== Sys2Proof/Machine/ImageRules.lean ====
section
/-! DEFINITION. The images the loader refuses beside R10 (Table 24.1, cause 4): the rules of the chapters that say so, over the registers
the image has written. -/
namespace Sys2Proof.Machine

open Sys2Proof.Config

/-- Two ranges of numbers, each from a base with a length, share one. -/
def overlap (a n b m : Nat) : Bool := decide (a < b + m ∧ b < a + n ∧ 0 < n ∧ 0 < m)
/-- Some two different items below `n` satisfy a test. -/
def anyPair (n : Nat) (f : Nat → Nat → Bool) : Bool := (List.range n).any (fun i => (List.range i).any (fun j => f i j))

/-- Width settings of a pipeline's banks break a group (R164, Table 6.1). -/
def State.widthsBad (s : State) (p : Nat) : Bool :=
  (List.range 32).any (fun b =>
    let w := s.rd Fld.RBK_BANK_CFG_WIDTH p b
    let n := 2 ^ w
    (List.range n).any (fun i => s.rd Fld.RBK_BANK_CFG_WIDTH p (b / n * n + i) != w))
/-- First unit above the sections of a pipeline: where its result regions begin (R197). -/
def State.regionStart (s : State) (p : Nat) : Nat :=
  312 - (s.rd Fld.EXM_REGION_CFG_NH_UNITS p + s.rd Fld.EXM_REGION_CFG_TPL_UNITS p + s.rd Fld.EXM_REGION_CFG_LB_UNITS p)
/-- Result regions break R197. -/
def State.regionsBad (s : State) (p : Nat) : Bool :=
  decide (32 < s.rd Fld.EXM_REGION_CFG_NH_UNITS p) || decide (16 < s.rd Fld.EXM_REGION_CFG_TPL_UNITS p)
    || decide (64 < s.rd Fld.EXM_REGION_CFG_LB_UNITS p) || s.rdReg Reg.EXM_REGION_CFG p 0 0 != s.rdReg Reg.EXM_REGION_CFG 0 0 0
/-- Sections of a pipeline break R200, R212 or R223. -/
def State.sectionsBad (s : State) (p : Nat) : Bool :=
  let base := fun (c : Nat) => s.rd Fld.EXM_SECT_CFG_BASE_UNIT p c
  let size := fun (c : Nat) => s.rd Fld.EXM_SECT_CFG_SIZE_UNITS p c
  let fmt := fun (c : Nat) => s.rd Fld.EXM_SECT_CFG_KEY_FMT p c
  let wide := fun (c : Nat) => s.on Fld.EXM_SECT_CFG_WIDE p c
  let one := fun (c : Nat) => (size c != 0 && (decide (s.regionStart p < base c + size c) || (wide c && base c % 2 == 1)))
    || decide (7 ≤ fmt c) || (wide c != decide (4 ≤ fmt c)) || (s.on Fld.EXM_SECT_CFG_LEARNED_SECT p c && fmt c != 0)
  (List.range 16).any one || anyPair 16 (fun i j => overlap (base i) (size i) (base j) (size j))
    || decide (8192 < (List.range 16).foldl (fun a c => a + s.rd Fld.EXM_SECT_LIM_OVF_QUOTA p c) 0)
/-- A flow class breaks Table 9.3, Table 10.1, R285 or R304. -/
def State.classBad (s : State) (c : Nat) : Bool :=
  let role := s.cls Fld.FLW_SVC_CFG_ROLE c
  let fmt := s.cls Fld.FLW_CLASS_CFG_KEY_FMT c
  let sym := s.clsOn Fld.FLW_CLASS_CFG_SYMMETRIC c
  let nat := decide (2 ≤ role ∧ role ≤ 6)
  let out := role == 2 || role == 4
  let fmtBad := match role with
    | 1 => decide (1 < fmt) | 2 => fmt != 0 | 3 => fmt != 0 | 4 => fmt != 1 | 5 => fmt != 0 | 6 => decide (fmt < 2) | _ => false
  let link := s.cls Fld.FLW_SVC_CFG_ROLE (s.cls Fld.FLW_SVC_CFG_LINK_CLASS c)
  let sub := s.cls Fld.FLW_SVC_CFG_ROLE (s.cls Fld.FLW_SVC_CFG_SUB_CLASS c)
  role == 7 || s.cls Fld.FLW_CLASS_ADM_MISS_ACT c == 3 || s.cls Fld.FLW_CLASS_ADM_SETUP_ACT c == 3 || fmtBad
    || (nat && (sym || !s.clsOn Fld.FLW_CLASS_CFG_MIRROR c)) || (out && (link != role + 1 || sub != 6))
    || (s.clsOn Fld.FLW_SVC_CFG_TCP_TRACK c && (role != 1 || !sym))
    || ((role == 3 || role == 5 || role == 6) && s.cls Fld.FLW_SVC_CFG_CREATE c != 0)
    || (out && decide (s.cls Fld.FLW_CLASS_TIME_IDLE_S c < 120))
/-- A downlink class of the session stage breaks R325; class 0 is none. -/
def State.dlClassBad (s : State) (c fmt : Nat) : Bool :=
  c != 0 && (!s.clsOn Fld.FLW_CLASS_CFG_EN c || s.cls Fld.FLW_SVC_CFG_ROLE c != 0 || s.cls Fld.FLW_SVC_CFG_CREATE c != 0
    || s.cls Fld.FLW_CLASS_CFG_KEY_FMT c != fmt || s.clsOn Fld.FLW_CLASS_CFG_SYMMETRIC c || s.clsOn Fld.FLW_SVC_CFG_EXPORT c
    || s.clsOn Fld.FLW_CLASS_CFG_MIRROR c != s.on Fld.UPS_CFG_MIRROR)
/-- Capture rings overlap, or one ends beyond the area (R368). -/
def State.capRingsBad (s : State) : Bool :=
  let base := fun (r : Nat) => s.rd Fld.EDT_CAP_RING_CFG_BASE 0 r * 1048576
  let len := fun (r : Nat) => s.rd Fld.EDT_CAP_RING_CFG_COUNT_K 0 r * 1024 * (64 + s.capBytes r)
  (List.range 16).any (fun r => len r != 0 && decide (2048 * 1048576 < base r + len r))
    || anyPair 16 (fun i j => overlap (base i) (len i) (base j) (len j))
/-- The PTP domain lies outside the range of the profile (R495, Table 17.2). -/
def State.domainBad (s : State) : Bool :=
  let d := s.rd Fld.PTP_CLK_CFG_DOMAIN
  let lo := if s.on Fld.PTP_CLK_CFG_PROFILE then 44 else 24
  s.rd Fld.PTP_CLK_CFG_TYPE != 0 && !decide (lo ≤ d ∧ d < lo + 20)
/-- A bundle breaks R623. -/
def State.bundleBad (s : State) (b : Nat) : Bool :=
  let first := s.bundlePort b
  let lanes := s.bundleLanes b
  let last := first + lanes.length - 1
  !lanes.isEmpty && (first / 24 != last / 24 || lanes.any (fun l => (s.laneOwner l).isSome)
    || (List.range b).any (fun o => lanes.any (fun l => (s.bundleLanes o).contains l))
    || lanes.any (fun l => rateFamily (s.rdL Fld.LNE_CTRL_RATE l) != s.rd Fld.LNE_OCTET_CTRL_FAMILY (l / 24) (l / 8 % 3)))
/-- The system settings break R636, R638 or R640. -/
def State.systemBad (s : State) : Bool :=
  (s.inStack && s.rd Fld.FLT_SYS_CFG_STACK_ROLE == 3) || (s.on Fld.FLT_SYS_CFG_TIME_FROM_LINK && s.rd Fld.PTP_CLK_CFG_TYPE != 0)
    || (s.inPair && decide (s.pairLinks.length < 2))
/-- A SecY with a 32-bit packet number suite protects a port above 100GbE (R122). -/
def State.suiteBad (s : State) (p : Nat) : Bool :=
  s.onP Fld.MSC_PORT_CFG_EN p && decide (s.rdP Fld.MSC_PORT_CFG_CIPHER p < 2) && decide (7 ≤ s.portType p)
/-- The loader refuses the image (R690, cause 4). -/
def State.imageRefused (s : State) : Bool :=
  (List.range 4).any (fun p => s.widthsBad p || s.regionsBad p || s.sectionsBad p
      || decide (95232 < 32768 + 8 * s.rd Fld.BPM_POOL_CFG_N2K p + 64 * s.rd Fld.BPM_POOL_CFG_N16K p))
    || (List.range 16).any (fun c => c != 0 && s.classBad c)
    || (List.range 4).any (fun k => decide (65536 < s.rd Fld.FLW_NAT_POOL_CFG_ADDR_COUNT 0 k * s.poolK k))
    || s.dlClassBad (s.rd Fld.UPS_CFG_DL4_CLASS) 2 || s.dlClassBad (s.rd Fld.UPS_CFG_DL6_CLASS) 3
    || s.capRingsBad || s.domainBad || (List.range 4).any s.bundleBad || s.systemBad || (List.range 96).any s.suiteBad

/-! ### The digest over sealed fields (R626, R732) -/

/-- The value of a register's SEAL fields, in place. -/
def Reg.sealedPart (r : Reg) (w : Word) : Nat :=
  (r.fields.filter (fun f => f.access == .seal)).foldl (fun a f => a + bitsOf w f.lo f.width * 2 ^ f.lo) 0
/-- Every item of a register. -/
def Reg.items (r : Reg) : List (Nat × Nat × Nat) :=
  (List.range r.insts).flatMap (fun n => (List.range r.n1).flatMap (fun i => (List.range r.n2).map (fun k => (n, i, k))))
/-- The digest of R626: SHA-384 over every SEAL field of the FLW, UPS and FLT blocks but DEV_ID and PAIR_PRIO, four bytes a register in
the order of the register map. -/
def State.sealDigest (s : State) : BitVec 384 :=
  let word := fun (r : Reg) (e : Nat × Nat × Nat) =>
    let w := s.rdReg r e.1 e.2.1 e.2.2
    r.sealedPart (if r.base = Reg.FLT_SYS_CFG.base then setBitsOf (setBitsOf w 2 2 0) 6 4 0 else w)
  let regs := allRegs.filter (fun r => [20, 21, 30].contains r.blk && r.fields.any (fun f => f.access == .seal))
  sha384 (regs.flatMap (fun r => r.items.flatMap (fun e => bytesOfNat 4 (word r e))))

end Sys2Proof.Machine
end

