-- ==== Sys2Proof/Machine/Keepers.lean ====
section
/-! DEFINITION. The commands of the keeper cluster (spec 21): the control operations, lock-ups, task moves, cluster resets, the
control store and patches.  The commit port is in `Commit`. -/
namespace Sys2Proof.Machine

open Sys2Proof.Config

/-! ### Control operations (Table 21.1) -/

/-- KEEPER_NOP (R596, R597): an instruction with no control operation; `found` is what the check of its data-memory word finds: nothing,
a corrected error, or an uncorrectable one, which is a lock-up. -/
def execKeeperNop (e task : Nat) (changes : List KChange) (found : Nat) (s : State) : Host.Outcome State Fault Refusal :=
  let (s, found) := if s.mayExecute e task then s.dataRead e found else (s, found)
  if found = 2 && s.mayExecute e task then .next ((s.raise Ev.KPR_DM_ECC .engine e).lockUp e)
  else .next (s.execute e task changes (fun t => if found = 1 then t.bump .KPR_DM_CE e else t))
/-- KEEPER_HOLD (R599, R601): a hold section opens; one inside a hold overruns. -/
def execKeeperHold (e task : Nat) (changes : List KChange) (s : State) : Host.Outcome State Fault Refusal :=
  .next (if s.mayExecute e task && (s.engine e).hold.isSome then s.overrun e
    else s.execute e task changes (fun t => t.setEngine e { t.engine e with hold := some 0, staged := [] }))
/-- KEEPER_RELEASE (R600): the hold closes, and its staged changes pass to the commit port. -/
def execKeeperRelease (e task : Nat) (changes : List KChange) (s : State) : Host.Outcome State Fault Refusal :=
  .next (s.execute e task changes (fun t =>
    let g := t.engine e
    (t.setEngine e { g with hold := none, staged := [] }).submit task g.staged))
/-- KEEPER_YIELD (R598, R605, R609). -/
def execKeeperYield (e task : Nat) (changes : List KChange) (s : State) : Host.Outcome State Fault Refusal :=
  .next (s.execute e task changes (fun t => t.letGo e task true))
/-- KEEPER_WAIT (R598, R605). -/
def execKeeperWait (e task : Nat) (changes : List KChange) (s : State) : Host.Outcome State Fault Refusal :=
  .next (s.execute e task changes (fun t => t.letGo e task false))
/-- KEEPER_BEAT (R605, R606): a BEAT of the EVENTS task is the heartbeat to the supervisor. -/
def execKeeperBeat (e task : Nat) (changes : List KChange) (s : State) : Host.Outcome State Fault Refusal :=
  .next (s.execute e task changes (fun t =>
    let u := t.progressed task
    if task = 0 then { u with kpr := { u.kpr with beatAt := u.now, wdtFrom := none } } else u))
/-- ILLEGAL_INSTRUCTION (R597): any other code locks up the engine. -/
def execIllegalInstruction (e _code : Nat) (s : State) : Host.Outcome State Fault Refusal :=
  .next (if s.keepersRun && s.engineIs engRun e then s.lockUp e else s)
/-- HOLD_OVERRUN (R601): with a hold open, a 513th instruction (0), a 33rd change (1) or a HOLD (2) comes. -/
def execHoldOverrun (e why : Nat) (s : State) : Host.Outcome State Fault Refusal :=
  let g := s.engine e
  let due : Bool := match g.hold with
    | some n => if why = 0 then decide (512 ≤ n) else if why = 1 then decide (32 ≤ g.staged.length) else true
    | none => false
  .next (if due && s.keepersRun && s.engineIs engRun e then s.overrun e else s)
/-- KEEPER_RESULT_ARRIVE (R598, R603): a result with a stale generation is discarded whole; a good one waits to be sampled. -/
def execKeeperResultArrive (task gen : Nat) (s : State) : Host.Outcome State Fault Refusal :=
  if gen = s.taskGen task then .next { s with kpr := { s.kpr with results := s.kpr.results ++ [task] } }
  else .next ((s.bump .KPR_STALE_RESULTS task).raiseMs Ev.KPR_STALE_RESULT .engine (s.taskEngine task) task)

/-! ### Lock-ups and moves (R604, R605) -/

/-- ENGINE_WATCHDOG_EXPIRY (R605): the task has input waiting, and has executed no YIELD, WAIT or BEAT for ENGINE_US. -/
def execEngineWatchdogExpiry (task : Nat) (s : State) : Host.Outcome State Fault Refusal :=
  let e := s.taskEngine task
  let due := decide (Sparse.get s.kpr.progress task 0 + s.rd Fld.KPR_WDT_CFG_ENGINE_US * usClk ≤ s.now)
  .next (if due && s.keepersRun && s.on Fld.KPR_TASK_RUNNING 0 task && s.engineIs engRun e && !(s.engine e).stopped then s.lockUp e else s)
/-- ENGINE_RESET_DONE (R605): within 5 µs the engine rejoins as STANDBY. -/
def execEngineResetDone (e : Nat) (s : State) : Host.Outcome State Fault Refusal :=
  let g := s.engine e
  if g.resetAt.isSome && s.engState e == engReset then
    .next ((s.setEngine e { g with resetAt := none }).wr Fld.KPR_ENGINE_STATUS_STATE engStandby 0 e)
  else .next s
/-- TASK_MOVE_RUN (R603, R604): a task that has to move does, at most once in 100 µs. -/
def execTaskMoveRun (task : Nat) (s : State) : Host.Outcome State Fault Refusal :=
  let mine := s.kpr.moves.filter (fun m => m.1 == task)
  let rested : Bool := match Sparse.find s.kpr.movedAt task with | some t => decide (t + 100 * usClk ≤ s.now) | none => true
  match mine.isEmpty, s.moveTarget task with
  | false, some e =>
    if rested && s.keepersRun then
      let t := { s with kpr := { s.kpr with moves := s.kpr.moves.filter (fun m => m.1 != task) } }
      .next (mine.foldl (fun (x : State) m => match m.2.2 with | some tag => x.reply tag .ok 0 0 0 true | none => x) (t.moveTask task e))
    else .next s
  | _, _ => .next s
/-- TASK_MOVE (R604): the command names a task, which has to move. -/
def execTaskMove (tag task : Nat) (s : State) : Host.Outcome State Fault Refusal :=
  .next (if s.mbxRuns tag opTaskMove then s.askMove task (some tag) else s)

/-! ### The cluster (R606, R607) -/

/-- CLUSTER_LOCKUP (R606): the heartbeat has been missing for CLUSTER_MS (0), a task has to move and no engine can take it (1), or RELEASEs
wait and the commit port has committed nothing for 1 ms (2). -/
def execClusterLockup (why : Nat) (s : State) : Host.Outcome State Fault Refusal :=
  let k := s.kpr
  let due : Bool := match why with
    | 0 => k.wdtFrom.isNone && decide (k.beatAt + s.rd Fld.KPR_WDT_CFG_CLUSTER_MS * msClk ≤ s.now)
    | 1 => k.moves.any (fun m => (s.moveTarget m.1).isNone && !s.engineIs engRun (s.taskEngine m.1))
    | _ => match k.commitQ with
      | c :: _ => decide (max c.since k.lastCommit + msClk ≤ s.now)
      | [] => false
  .next (if due && s.keepersRun then s.clusterLock else s)
/-- CLUSTER_RESET_DONE (R602, R606, R607): every task resumes on its HOME engine, and the supervisor watchdog waits for the heartbeat. -/
def execClusterResetDone (s : State) : Host.Outcome State Fault Refusal :=
  match s.kpr.resetAt with
  | some _ => .next (({ s with kpr := { s.kpr with resetAt := none } }).startTasks.blockDone (16 * 8))
  | none => .next s
/-- SUPERVISOR_WATCHDOG_EXPIRY (R607, R720): no heartbeat within WDT_MS of a cluster reset, or for WDT_MS while EN is 1. -/
def execSupervisorWatchdogExpiry (s : State) : Host.Outcome State Fault Refusal :=
  let limit := s.rd Fld.KPR_WDT_CFG_WDT_MS * msClk
  if !s.on Fld.KPR_CTRL_EN || s.rst.run.isSome then .next s
  else
    match s.kpr.wdtFrom with
    | some t => .next (if t + limit ≤ s.now then s.trigger 4 0 false else s)
    | none => .next (if s.kpr.beatAt + limit ≤ s.now then s.trigger 4 1 false else s)

/-! ### The control store (R594, R595) -/

/-- Core clocks between two words of the walker: 65,536 words in 10 ms. -/
def csStep : Nat := 267
/-- CONTROL_STORE_WALK (R595): the walker, or an engine's fetch of a word, finds it good, corrected or uncorrectable; an engine that has
fetched an uncorrectable word waits for its restore. -/
def execControlStoreWalk (fetched : Option (Nat × Nat)) (found : Nat) (s : State) : Host.Outcome State Fault Refusal :=
  let k := s.kpr
  if fetched.isNone && decide (s.now < k.csAt + csStep) then .next s
  else
    let w := (fetched.map Prod.snd).getD k.csPos
    let (s, found) := s.readWord 6 0 w found
    let t := if fetched.isSome then s else { s with kpr := { k with csPos := (k.csPos + 1) % 65536, csAt := s.now } }
    if found = 1 then .next (t.bump .KPR_CS_CE)
    else if found = 2 then
      let u := match fetched with | some (e, _) => t.setEngine e { t.engine e with fetch := some w } | none => t
      .next (({ u with kpr := { u.kpr with csBad := Sparse.insert u.kpr.csBad w s.now } }).raise Ev.KPR_CS_ECC .device 0 w)
    else .next t
/-- CONTROL_STORE_RESTORE (R595): the word comes from its harbour copy; a copy whose group fails its CRC is a warm reset. -/
def execControlStoreRestore (word : Nat) (crcOk : Bool) (s : State) : Host.Outcome State Fault Refusal :=
  if (Sparse.find s.kpr.csBad word).isNone then .next s
  else if crcOk then .next { s with kpr := { s.kpr with csBad := Sparse.erase s.kpr.csBad word } }
  else .next (s.trigger 8 1 false)

/-! ### Patches (R608, R609) -/

/-- PATCH_LOAD (R608, R609, R664): the rind checks the manifest; a patch that passes waits for the quiet point. -/
def execPatchLoad (tag : Nat) (m : Manifest) (words : List (Nat × BitVec 256)) (s : State) : Host.Outcome State Fault Refusal :=
  if !s.mbxRuns tag opPatchLoad || s.kpr.patch.isSome then .next s
  else
    let code := s.patchRefusal m
    if code ≠ 0 then .next ((s.refusePatch code).reply tag .badRule 0 0 0 true)
    else if !m.patch || !patchFits words then .next (s.reply tag .badRule 0 0 0 true)
    else
      let p : Patch := { tag := tag, words := words, digest := m.digest, svn := if m.commit then some m.svn else none, since := s.now }
      .next { s with kpr := { s.kpr with patch := some p } }
/-- PATCH_QUIET_POINT (R609): every engine has stopped; the words are written and PATCH_LEVEL is updated. -/
def execPatchQuietPoint (s : State) : Host.Outcome State Fault Refusal :=
  match s.kpr.patch with
  | some p =>
    if s.allStopped then
      let u := (s.applyPatch p.words p.digest p.svn).resume
      .next ((u.raise Ev.KPR_PATCH_APPLIED).reply p.tag .completed 1 0 0 true)
    else .next s
  | none => .next s
/-- PATCH_QUIET_EXPIRY (R609): not every engine has stopped within QUIET_LIMIT_US. -/
def execPatchQuietExpiry (s : State) : Host.Outcome State Fault Refusal :=
  match s.kpr.patch with
  | some p =>
    if s.allStopped || decide (s.now < p.since + s.rd Fld.KPR_PATCH_CFG_QUIET_LIMIT_US * usClk) then .next s
    else .next ((s.raise Ev.KPR_PATCH_FAIL).dropPatch p.tag)
  | none => .next s

end Sys2Proof.Machine
end

