-- ==== Sys2Proof/Machine/Reset.lean ====
section
/-! DEFINITION. The commands of reset (spec 25; spec 30, R799 to R802; spec 31, R809): triggers, the steps of a warm reset, the release
phases, adoption, and block resets. -/
namespace Sys2Proof.Machine

open Sys2Proof.Config

/-! ### Triggers (R720 to R722, R809) -/

/-- POWER_ON (R720, R721): PWRGOOD low for some core clocks; from 1 µs on, the device is held in cold reset. -/
def execPowerOn (lowClk : Nat) (s : State) : Host.Outcome State Fault Refusal :=
  if !s.pins.pwrgood then .next s
  else
    let t := s.draw
    if s.lowSeen lowClk then
      .next (({ t with pins := { t.pins with pwrgood := false, thermTripN := true } }.wr Fld.PWR_TEMP_TRIPPED 0).trigger 1 0 true)
    else .next t
/-- PWRGOOD_RISE (R721, R728): release starts. -/
def execPwrgoodRise (s : State) : Host.Outcome State Fault Refusal :=
  .next { s with pins := { s.pins with pwrgood := true } }.startRelease
/-- BROWN_OUT (R721, R809): rails below their thresholds for some core clocks; 2 µs or longer is one reset, cold if any of them asks for a
cold one, with the lowest rail as its detail. -/
def execBrownOut (rails : List Nat) (lowClk : Nat) (s : State) : Host.Outcome State Fault Refusal :=
  if lowClk < 2 * usClk ∨ s.pins.pwrgood = false then .next s
  else
    match (List.range 7).find? (fun r => rails.contains r) with
    | some r => .next (s.trigger 2 r ([0, 1, 6].any (fun x => rails.contains x)))
    | none => .next s
/-- RESET_N_ASSERT (R721): RESET_N low for some core clocks; from 1 µs on, a warm reset, until it rises.  It ends the hold of a boundary
scan (R779). -/
def execResetNAssert (lowClk : Nat) (s : State) : Host.Outcome State Fault Refusal :=
  if !s.pins.resetN then .next s
  else
    let t := s.draw
    if s.lowSeen lowClk then
      let u := { t with pins := { t.pins with resetN := false, scanHold := false } }.wr Fld.DGN_STATUS_SCAN_HOLD 0
      .next (if u.pins.pwrgood then u.trigger 3 0 false else u)
    else .next t
/-- RESET_N_RELEASE (R721): release starts at the rising edge. -/
def execResetNRelease (s : State) : Host.Outcome State Fault Refusal :=
  .next { s with pins := { s.pins with resetN := true } }.startRelease
/-- SOFTWARE_RESET (R722): a write of RST_CMD. -/
def execSoftwareReset (who : Agent) (v : Word) (s : State) : Host.Outcome State Fault Refusal :=
  let warm := Fld.RST_CMD_WARM.onIn v
  .next (s.busCheck who Reg.RST_CMD 0 0 0 v (warm && Fld.RST_CMD_KEY.of v != 0x74) (fun t =>
    if warm then t.trigger 5 (if who = .host then 0 else 1) false else t))
/-- DBG_RESET (R720): the TAP instruction, while debug is open with scope bit 0. -/
def execDbgReset (s : State) : Host.Outcome State Fault Refusal :=
  .next (if s.on Fld.RND_STATUS_DEBUG_OPEN && s.rind.gateScope % 2 == 1 then s.trigger 6 0 false else s)

/-! ### The steps of a warm reset (R726) -/

/-- RESET_TAKE_HOLD (R726 steps 2 to 4, R732): once FENCE and YIELD have had their 3 µs, the transmitters go idle, and a reset that retains
starts the curd flush; the keepers record the state digest unless they are wedged. -/
def execResetTakeHold (wedged : Bool) (s : State) : Host.Outcome State Fault Refusal :=
  match s.rst.run with
  | some r =>
    let waits := s.inPair && (r.cause == 4 || r.cause == 5 || r.cause == 8) && decide (s.now < r.at_ + 3 * usClk)
    if r.held || waits then .next s
    else
      let t := (List.range 96).foldl (fun (x : State) p => x.abortTx p) s
      let u := if r.retain then (List.range 4).foldl (fun (x : State) k => x.wr Fld.FLW_SLICE_CTRL_FLUSH_BUSY 1 k) t else t
      let d := if wedged then u.rst.stateDigest else some u.sealDigest
      .next { u with rst := { u.rst with run := some { r with held := true }, stateDigest := d } }
  | none => .next s
/-- RESET_ASSERT (R726 step 5): reset is asserted once the harbour stacks of a reset that retains are in self-refresh. -/
def execResetAssert (s : State) : Host.Outcome State Fault Refusal :=
  match s.rst.run with
  | some r =>
    if r.held && (!r.retain || (s.on Fld.HBC_CTRL_SR_ACTIVE 0 && s.on Fld.HBC_CTRL_SR_ACTIVE 1)) then
      .next (s.warmClear r.retain).startRelease
    else .next s
  | none => .next s

/-! ### Trim (R729) -/

/-- The trim regions: lane quads 0 to 23, the core 24, the harbour PHYs 25 and 26. -/
def trimRegions : List Nat := List.range 27
/-- A region's trim is loaded, or the quad is given up. -/
def State.trimDone (s : State) (region : Nat) : Bool :=
  Sparse.get s.rst.trimLoaded region false || Sparse.get s.rst.badQuads region false
/-- The quad at the head of the domains that switch is being powered up (R79). -/
def State.quadRising (s : State) (region : Nat) : Bool :=
  match s.pwr.todo with
  | (d, true) :: _ => d == region && decide (region < 24)
  | _ => false
/-- TRIM_LOAD (R79, R729): a region's trim is loaded and checked; it is loaded again at most twice. -/
def execTrimLoad (region : Nat) (crcOk : Bool) (s : State) : Host.Outcome State Fault Refusal :=
  let inPhase := decide (s.rst.phaseNext = 2) && s.rst.run.isNone && !s.rst.asserted && s.rst.trimFailedAt.isNone
  if !(inPhase || s.quadRising region) || s.trimDone region then .next s
  else if crcOk then
    .next { s with rst := { s.rst with trimLoaded := Sparse.insert s.rst.trimLoaded region true, trimTries := Sparse.erase s.rst.trimTries region } }
  else
    let n := Sparse.get s.rst.trimTries region 0 + 1
    if n < 3 then .next { s with rst := { s.rst with trimTries := Sparse.insert s.rst.trimTries region n } }
    else if region < 24 then
      let t := { s with rst := { s.rst with badQuads := Sparse.insert s.rst.badQuads region true, trimTries := Sparse.erase s.rst.trimTries region } }
      .next (t.raise Ev.RST_TRIM_FAIL .lane (4 * region))
    else .next ({ s with rst := { s.rst with trimFailedAt := some s.now } }.raise Ev.RST_TRIM_FAIL .device 0 region)
/-- TRIM_RETRY (R729): 1 s after the core or a harbour PHY failed, the whole trim is loaded again. -/
def execTrimRetry (s : State) : Host.Outcome State Fault Refusal :=
  match s.rst.trimFailedAt with
  | some t =>
    if t + sClk ≤ s.now then .next { s with rst := { s.rst with trimFailedAt := none, trimLoaded := [], trimTries := [], badQuads := [] } }
    else .next s
  | none => .next s

/-! ### Release (R728) -/

/-- A release phase ends: PHASE reports it, and the next one begins. -/
def State.phaseDone (s : State) : State :=
  let n := s.rst.phaseNext
  ({ s with rst := { s.rst with phaseNext := n + 1, phaseAt := s.now } }).wr Fld.RST_STATUS_PHASE n
/-- A reference the PLLs can lock to in phase 3: one that is present, or, once both have been lost, one that has qualified (R752). -/
def State.clkUsable (s : State) (b : Nat) : Bool :=
  if s.on Fld.CLK_STATUS_ONDIE then s.on (if b = 0 then Fld.CLK_STATUS_A_QUAL else Fld.CLK_STATUS_B_QUAL)
  else if b = 0 then s.clk.refA.present else s.clk.refB.present
/-- Phase 3: the PLLs lock to a reference, the preferred one first (R751). -/
def State.lockPlls (s : State) : State :=
  let prefer := s.rd Fld.CLK_CTRL_PREFER
  ((s.wr Fld.CLK_STATUS_SELECTED (if s.clkUsable prefer then prefer else 1 - prefer)).wr Fld.CLK_STATUS_LOCK (2 ^ 6 - 1)).wr Fld.CLK_STATUS_ONDIE 0
/-- Every domain is powered (R724). -/
def State.powerAll (s : State) : State :=
  let one := fun (t : State) (k : Nat) => (t.wr Fld.PWR_STATE_STATE (2 ^ 32 - 1) 0 k).wr Fld.PWR_REQ_REQ (2 ^ 32 - 1) 0 k
  let t := one (one s 0) 1
  ({ t with pwr := { t.pwr with todo := [] } }).wr Fld.PWR_STATUS_BUSY 0
/-- The image of the running attempt has been read and verified whole (R700 steps 1 to 3). -/
def State.imageRead (s : State) : Bool :=
  match s.img.attempt with
  | some a => (match a.manifest with | some m => a.sectionsPassed == m.sections.length && a.provisioned && s.rind.blow.isEmpty | none => false)
  | none => false
/-- Phase 7: the keepers start under the image's microcode, with its patches; one that is refused changes nothing (R608, R700 step 4). -/
def State.startKeepers (s : State) (m : Manifest) (patches : List (Manifest × List (Nat × BitVec 256))) : State :=
  let t := s.wr Fld.KPR_UCODE_VERSION m.ucodeVersion
  let u := patches.foldl (fun (x : State) e =>
    let code := x.patchRefusal e.1
    if code ≠ 0 then x.refusePatch code
    else if patchFits e.2 then x.applyPatch e.2 e.1.digest (if e.1.commit then some e.1.svn else none)
    else x) t
  ((u.wr Fld.KPR_CTRL_EN 1).wr Fld.KPR_CTRL_QUIET 0).startTasks
/-- Phase 9: the attempt is complete (R692, R700 step 6). -/
def State.finishStart (s : State) (slot : Nat) : State :=
  let t := ((s.wr (cntFld slot) 0).wr Fld.IMG_STATUS_STATE 2).raise Ev.RST_DONE
  let u := { t with img := { t.img with attempt := none, shadowDigest := some t.rind.imageDigest }, rind := { t.rind with runSince := some t.now },
                    backup := { t.backup with openAttempt := Sparse.erase t.backup.openAttempt slot } }
  let v := u.resetFlash
  if v.rst.retainLost then ({ v with rst := { v.rst with retainLost := false } }).raise Ev.RST_RETAIN_LOST else v
/-- RELEASE_PHASE_COMPLETE (R728, Table 25.3): the running phase ends when what it does is done; `patches` are the PATCH sections that phase
7 applies. -/
def execReleasePhaseComplete (patches : List (Manifest × List (Nat × BitVec 256))) (s : State) : Host.Outcome State Fault Refusal :=
  if s.rst.run.isSome || s.rst.asserted then .next s
  else
    match s.rst.phaseNext with
    | 0 =>
      let t := { s with pins := { s.pins with strapHeld := s.pins.strap } }
      .next (t.wr Fld.IMG_NVM_STATUS_STRIDE (t.pins.strap.toNat % 4)).phaseDone
    | 1 => .next (if s.rind.fusesRead then s.phaseDone else s)
    | 2 =>
      if trimRegions.all s.trimDone && s.pins.thermTripN then .next (s.powerAll.wrB Fld.RST_STATUS_TRIM_OK s.rst.badQuads.isEmpty).phaseDone
      else .next s
    | 3 =>
      if s.clkUsable 0 || s.clkUsable 1 then
        let t := s.lockPlls.phaseDone
        .next (if !t.rst.cold && t.on Fld.LHT_KEEP_EN then { t with rst := { t.rst with phaseNext := 5 } } else t)
      else .next s
    | 4 => .next (s.readModel s.rst.cold).phaseDone
    | 5 =>
      if s.on Fld.HBC_CTRL_INIT_DONE 0 && s.on Fld.HBC_CTRL_INIT_DONE 1 && !s.on Fld.HBC_CTRL_SR_ACTIVE 0 && !s.on Fld.HBC_CTRL_SR_ACTIVE 1 then
        .next { s with rst := { s.rst with adoptable := true } }.phaseDone
      else .next s
    | 6 =>
      if !s.imageRead then .next s
      else if s.imageRefused then .next (s.failAttempt 4)
      else
        let ms := (s.now - s.rst.phaseAt) / msClk
        let t := (s.wr Fld.IMG_LOAD_MS_MS (min 65535 ms)).phaseDone
        .next { t with hst := { t.hst with inReset := t.hst.inReset && !t.pcieMayRun } }
    | 7 =>
      match s.img.attempt.bind Attempt.manifest with
      | some m => if patches.length = (m.sections.filter (fun x => x.kind == 3)).length then .next (s.startKeepers m patches).phaseDone else .next s
      | none => .next s
    | 8 =>
      if s.img.tableFailed then .next (s.failAttempt 5)
      else if s.rst.retained && !s.rst.adopted then .next s
      else if s.imageRefused then .next (s.failAttempt 4)
      else
        let d := s.sealDigest
        let t := { s with flt := { s.flt with pairDigest := d }, rst := { s.rst with stateDigest := some d } }
        .next (t.wrB Fld.RST_STATUS_ADOPTED s.rst.retained).phaseDone
    | 9 =>
      match s.img.attempt with
      | some a => .next (s.finishStart a.slot).phaseDone
      | none => .next s
    | _ => .next s

/-! ### Adoption (R733) -/

/-- The numbers under which what fails its check at adoption is named beside the shadowed tables 0 to 6: blocks of the copy of the seed
array, flow records by index, sessions by index, and pools. -/
def seedTable : Nat := 7
/-- See `seedTable`. -/
def recordTable : Nat := 8
/-- See `seedTable`. -/
def sessionTable : Nat := 9
/-- See `seedTable`. -/
def poolTable : Nat := 10
/-- There is such a table, block, record, session or pool. -/
def findExists (e : Nat × Nat) : Bool :=
  decide ((e.1 < 4 ∧ e.2 < seedTable) ∨ (e.1 < 32768 ∧ e.2 = seedTable) ∨ (e.1 < 67108864 ∧ e.2 = recordTable)
    ∨ (e.1 < 4194304 ∧ e.2 = sessionTable) ∨ (e.1 < 64 ∧ e.2 = poolTable))
/-- What fails its check when the retained state is adopted: a free value (log entry 3). -/
def State.adoptFinds (s : State) : List (Nat × Nat) := (Config.freeFinds s.fresh).filter findExists

/-- The flow, session and keeper areas are zero-filled (R571, R733). -/
def State.zeroAreas (s : State) : State :=
  { s with flw := { s.flw with area := [], gens := [], seeds := [], seedCopy := [], freeBlocks := [], portMap := [] }, ups := { s.ups with recs := [] },
           rst := { s.rst with stash := none } }
/-- The seeds of every slice are loaded from the keepers' copy; those of a block of 64 groups that fails its CRC are recovered by search,
and a group without a seed has its records cleared (R273). -/
def State.adoptSeeds (s : State) (failed : List (Nat × Nat)) : State :=
  let t := allPipes.foldl (fun (t : State) k => t.loadSeeds k) s
  let bad := (failed.filter (fun e => e.2 == seedTable)).flatMap (fun e => (List.range 64).map (fun j => 64 * e.1 + j))
  bad.foldl (fun (u : State) g =>
    match u.searchSeed g with
    | some sd => u.putSeed g sd
    | none => u.clearGroup g) t
/-- The flow records that pass their checks are adopted, the others cleared and counted (R273). -/
def State.adoptRecords (s : State) (failed : List (Nat × Nat)) : State :=
  let good := fun (i : Nat) (r : BitVec 1024) =>
    !failed.contains (i, recordTable) && sealRec r == r && FlowRec.KEY_HASH.get r == s.recHash (FlowRec.CLASS.get r) (FlowRec.KEY.get r)
  let step := fun (t : State) (e : Nat × BitVec 1024) =>
    if !FlowRec.VALID.on e.2 then t
    else if good e.1 e.2 then t.wr Fld.FLW_SLICE_RECORDS_RECORDS (t.rd Fld.FLW_SLICE_RECORDS_RECORDS (groupSlice (e.1 / 32)) + 1) (groupSlice (e.1 / 32))
    else
      let u := t.notifyEnd (FlowRec.CLASS.get e.2) (FlowRec.KEY.get e.2) (lostRec e.2) 5
      ((u.store 1 e.1 (FlowRec.VALID.set e.2 0)).bump .FLW_ADOPT_FAIL (groupSlice (e.1 / 32))).raise Ev.FLW_ADOPT_FAIL
  s.flw.area.foldl step s
/-- The sessions that pass are adopted without their buffered packets; one that fails is deleted, or waits for the twin's block when it is
mirrored (R346). -/
def State.adoptSessions (s : State) (failed : List (Nat × Nat)) : State :=
  let good := fun (i : Nat) (r : BitVec 4096) => !failed.contains (i, sessionTable) && [0, 1, 2, 3].all (fun b => sealBlock r b == r)
  let idle := fun (r : BitVec 4096) => Sess.BUF_TRANSIT.set (Sess.BUF_PKTS.set (Sess.BUFFERING.set r 0) 0) 0
  let step := fun (t : State) (e : Nat × BitVec 4096) =>
    if !Sess.VALID.on e.2 then t
    else if good e.1 e.2 then (t.setSession e.1 (sealBlock (idle e.2) 0)).countSession true
    else if Sess.MIRRORED.on e.2 then
      let u := (t.setSession e.1 (sealBlock (idle e.2) 0)).countSession true
      { u with ups := { u.ups with lost := u.ups.lost ++ [e.1] } }.raise Ev.UPS_ADOPT_FAIL .device e.1
    else ((t.countSession true).loseSession e.1).raise Ev.UPS_ADOPT_FAIL .device e.1
  s.ups.recs.foldl step s
/-- The pools that pass are adopted as retained; one that fails is rebuilt from the adopted records: a block that no subscriber record
names is free (R733). -/
def State.adoptPools (s : State) (failed : List (Nat × Nat)) : State :=
  let bad := fun (k : Nat) => failed.contains (k, poolTable)
  let flw := { s.flw with freeBlocks := s.flw.freeBlocks.keep (fun k => !bad k), portMap := s.flw.portMap.keep (fun k => !bad (k / 65536)) }
  let poolOf := fun (c : Nat) => if s.role c = 6 then s.subPool c else s.cls Fld.FLW_SVC_CFG_POOL c
  let take := fun (t : State) (e : Nat × BitVec 1024) =>
    if FlowRec.VALID.on e.2 && bad (poolOf (FlowRec.CLASS.get e.2)) then t.poolUse e.2 true else t
  s.flw.area.foldl take { s with flw := flw }
/-- The rule set of a pipeline's shadows is taken as that of slot 0. -/
def slotZero (second : Bool) (r : Rbk) : Rbk :=
  if second then { r with rows := r.rows.map (fun (e : Nat × BitVec 322) => (e.1, setMember (setMember e.2 0 (rowMember e.2 1)) 1 false)) } else r
/-- A key of the register file as the shadows give it back: per-slot registers of slot 1 become slot 0's where slot 1 was current. -/
def stashKey (second : List Nat) (k : Nat) : Nat :=
  let a := k % 0x100000000
  if (List.range 4).any (fun p => second.contains p && perSlotAddr p a) then (if k = a then a + 0x100000000 else a) else k
/-- The shadowed table of a block kind: 0 exact-match, 1 routes, 2 rules, 3 registers, 4 next hops, templates, groups and edit profiles, 5
express entries, 6 gate lists. -/
def tableOf (kind : Nat) : Nat := [0, 0, 1, 2, 2, 3, 4, 5, 6, 3].getD kind 3
/-- The stores of a pipeline as the shadows give them, but for the tables that failed their CRC, which the image has given. -/
def Exm.adopt (x y : Exm) (ok : Nat → Bool) : Exm :=
  let a := if ok 0 then { x with slots := y.slots } else x
  let b := if ok 1 then { a with routes := y.routes } else a
  let c := if ok 4 then { b with nhs := y.nhs, tpls := y.tpls, groups := y.groups, edits := y.edits } else b
  if ok 5 then { c with exps := y.exps } else c
/-- The tables are loaded from the shadows (R248), each whose blocks all have the CRC of their tags; the shadows of the others, which the
image has loaded, are rebuilt, and follow them. -/
def State.loadShadows (s : State) (x : Stash) (failed : List (Nat × Nat)) : State :=
  let ok := fun (p t : Nat) => !failed.contains (p, t)
  let kept := x.regs.filter (fun (e : Nat × Word) => ok (e.1 % 0x100000 / 0x40000) 3)
  let regs := kept.foldl (fun (m : Sparse Word) e => Sparse.insert m (stashKey x.second e.1) e.2) s.regs
  let rules := fun (t : State) (e : Nat × Rbk) => if ok e.1 2 then t.setRbk e.1 (slotZero (x.second.contains e.1) e.2) else t
  let stores := fun (t : State) (e : Nat × Exm) => t.setExm e.1 ((t.exm e.1).adopt e.2 (ok e.1))
  let banks := fun (t : State) (e : Nat × Sparse (BitVec 64)) => if ok (e.1 / 24) 6 then t.setGte e.1 { t.gte e.1 with bank := e.2 } else t
  let tags := fun (t : State) (e : Nat × Sparse ShadowTag) =>
    t.setLrn e.1 { t.lrn e.1 with shadows := e.2.keep (fun k => ok e.1 (tableOf (k / 2 ^ 24))) }
  x.tags.foldl tags (x.banks.foldl banks (x.exms.foldl stores (x.rbks.foldl rules { s with regs := regs })))
/-- STATE_ADOPT (R248, R273, R571, R733): in phase 8 of a retained warm reset the digests are compared, and the retained state is adopted
or zero-filled; `adoptFinds` names the tables, by pipeline and number, with a shadow block that fails its CRC, and the rest as
`seedTable` says. -/
def execStateAdopt (s : State) : Host.Outcome State Fault Refusal :=
  if s.rst.phaseNext ≠ 8 ∨ s.rst.retained = false ∨ s.rst.adopted = true ∨ s.rst.run.isSome = true then .next s
  else if s.rst.stateDigest ≠ some s.sealDigest then
    let t := s.zeroAreas
    .next ({ t with rst := { t.rst with retained := false, adopted := true } }.raise Ev.RST_RETAIN_LOST)
  else
    let failed := s.adoptFinds
    let t := (((s.draw.adoptSeeds failed).adoptRecords failed).adoptSessions failed).adoptPools failed
    let tables := failed.filter (fun e => decide (e.2 < seedTable))
    let u := match t.rst.stash with
      | some x =>
        let same := decide (t.img.shadowDigest = some t.rind.imageDigest)
        let y := if same then t.loadShadows x tables else t
        (allPipes.filter (fun p => !same || tables.any (fun e => e.1 == p))).foldl (fun (z : State) p => z.raise Ev.SHD_ADOPT_FAIL .pipeline p) y
      | none => t
    .next { u with rst := { u.rst with adopted := true, stash := none } }

/-! ### Block resets (R735) -/

/-- The power domain of the block a bit of RST_BLOCK_P names (Table 26.1). -/
def blockDomain (bit p : Nat) : Nat :=
  ([24, 36, 24, 24, 24, 28, 44, 28, 28, 32, 24, 40, 40, 40, 60, 52].getD bit 60) + (if bit = 14 then 0 else p)
/-- The bits set in a written word. -/
def bitsIn (n v : Nat) : List Nat := (List.range n).filter (fun i => v / 2 ^ i % 2 == 1)
/-- Block instances go into reset: their keys join the list, and BUSY reads 1. -/
def State.holdBlocks (s : State) (keys : List Nat) : State :=
  let b := keys.foldl (fun (m : Sparse Nat) k => Sparse.insert m k s.now) s.rst.blocks
  ({ s with rst := { s.rst with blocks := b } }).wrB Fld.RST_BLOCK_BUSY_BUSY (!b.isEmpty)
/-- BLOCK_RESET_PIPELINE (R735): a write of RST_BLOCK_P.  The flow stage, the session stage and the editor reset in one write fill the
policers of the pipeline (R459). -/
def execBlockResetPipeline (who : Agent) (p : Nat) (v : Word) (s : State) : Host.Outcome State Fault Refusal :=
  let bits := bitsIn 16 v.toNat
  let extra := s.on Fld.RST_BLOCK_BUSY_BUSY || bits.any (fun b => !s.domainUp (blockDomain b p)) || (bits.contains 15 && decide (2 ≤ p))
  .next (s.busCheck who Reg.RST_BLOCK_P 0 p 0 v extra (fun t =>
    let u := bits.foldl (fun (x : State) b => x.resetPipeBlock b p) t
    let w := if [5, 7, 8].all (fun b => bits.contains b) then u.fillPolicers p else u
    w.holdBlocks (bits.map (fun b => b * 8 + p))))
/-- PTP as a block reset leaves it (R735): its registers and state return to reset. -/
def State.resetPtp (s : State) : State := ({ s with ptp := Ptp.init }).clearRegs (inBlock 28 0 0 0x40000)
/-- BLOCK_RESET_DEVICE (R735): a write of RST_BLOCK_DEV. -/
def execBlockResetDevice (who : Agent) (v : Word) (s : State) : Host.Outcome State Fault Refusal :=
  let bits := bitsIn 5 v.toNat
  let dom := fun (b : Nat) => [60, 59, 56, 60, 60].getD b 60
  let down := bits.any (fun b => !s.domainUp (dom b)) || (bits.contains 0 && !s.domainUp 54 && !s.domainUp 55)
  .next (s.busCheck who Reg.RST_BLOCK_DEV 0 0 0 v (s.on Fld.RST_BLOCK_BUSY_BUSY || down) (fun t =>
    let one := fun (x : State) (b : Nat) =>
      if b = 0 then x.resetCluster else if b = 1 then x.resetFleit else if b = 2 then x.resetHst false
      else if b = 3 then x.resetPtp else x.resetGate 0
    (bits.foldl one t).holdBlocks (bits.map (fun b => 16 * 8 + b))))
/-- BLOCK_RESET_DONE (R735): a block reset completes; a harbour controller's ends with its self-refresh (R572), the keeper cluster's with
R606. -/
def execBlockResetDone (key : Nat) (s : State) : Host.Outcome State Fault Refusal :=
  let slow := key / 8 == 15 || key == 16 * 8
  .next (if (Sparse.find s.rst.blocks key).isSome && !slow then s.blockDone key else s)

/-! ### The backup supply (R802) -/

/-- VBK_RETENTION_LOSS (R802, R812): with the other rails off, VBK falls below its retention voltage, and the backup domain loses what it
holds. -/
def execVbkRetentionLoss (s : State) : Host.Outcome State Fault Refusal :=
  .next (if s.pins.pwrgood then s else ({ s with backup := Backup.init }).clearRegs backupReg)

end Sys2Proof.Machine
end

