-- ==== Sys2Proof/Machine/Power.lean ====
section
/-! DEFINITION. The commands of power domains, clocks and temperature (spec 26). -/
namespace Sys2Proof.Machine

open Sys2Proof.Config

/-! ### Domains and dependencies (R740 to R744) -/

/-- The domains a domain requires (Table 26.2). -/
def requires (d : Nat) : List Nat :=
  let p := d % 4
  if d < 24 then (if d % 2 = 1 then [d - 1] else []) ++ [24 + d / 6]
  else if d < 28 then [28 + p, 40 + p, 48, 49]
  else if d < 32 then [40 + p]
  else if d < 40 then [24 + p]
  else if d < 48 ∨ d = 57 then [52, 53]
  else if d = 52 ∨ d = 53 then [d - 2]
  else if d = 58 ∨ d = 59 then [48, 49]
  else []
/-- The switchable domains. -/
def switchable : List Nat := List.range 60
/-- The condition of its chapter forbids that a domain goes down (R78, R137, R191, R219, R280, R402, R459, R540, R572, R619, R654,
or a self-test runs on it, R778). -/
def State.downForbidden (s : State) (d : Nat) : Bool :=
  let p := d % 4
  if s.testing d then true
  else if d < 24 then (List.range 4).any (fun j => s.rdL Fld.LNE_CTRL_MODE (4 * d + j) != 0)
  else if d < 28 then s.on Fld.EXM_CTRL_EN p || s.on Fld.LPM_CTRL_EN p
  else if d < 32 then false
  else if d < 36 then (List.range 24).any (fun j => s.onP Fld.MSC_PORT_CFG_EN (24 * p + j))
  else if d < 40 then s.on Fld.RBK_CTRL_EN p
  else if d < 44 then s.on Fld.BPM_CTRL_EN p || s.on Fld.SCH_CTRL_EN p
  else if d < 48 then s.on Fld.FLW_SLICE_CTRL_EN p
  else if 50 ≤ d ∧ d < 54 then s.on Fld.HBC_CTRL_EN (d % 2)
  else if d = 54 ∨ d = 55 then allTasks.any (fun t => engDomain (s.taskEngine t) == d)
  else if d = 58 then (List.range 96).any (fun q => s.onP Fld.GTE_PORT_CFG_EXP_EN q)
  else if d = 59 then (List.range 4).any (fun b => s.on Fld.FLT_BUNDLE_CFG_EN 0 b)
  else false
/-- The state a write of PWR_REQ[k] asks of a domain: the other word's domains stay as they are, and domains 60 to 63 stay on. -/
def State.asked (s : State) (k : Nat) (v : Word) (d : Nat) : Bool :=
  if d / 32 = k then decide (60 ≤ d) || v.toNat / 2 ^ (d % 32) % 2 == 1 else s.domainUp d
/-- What a target state breaks, by domain: 0 it comes up while one it requires is down, 1 it goes down while one that requires it is on,
2 a block in it is enabled. -/
def State.offence (s : State) (want : Nat → Bool) (d : Nat) : Option Nat :=
  if want d && !s.domainUp d && (requires d).any (fun r => !want r) then some 0
  else if !want d && s.domainUp d && switchable.any (fun e => want e && (requires e).contains d) then some 1
  else if !want d && s.domainUp d && s.downForbidden d then some 2
  else none
/-- PWR_STATUS takes a record unless it holds one. -/
def State.pwrRecord (s : State) (d reason : Nat) : State :=
  if s.on Fld.PWR_STATUS_VALID then s
  else ((s.wr Fld.PWR_STATUS_DOMAIN d).wr Fld.PWR_STATUS_REASON reason).setW1c Fld.PWR_STATUS_VALID
/-- Domains in an order in which each comes when `ready` says that none of those left has to come first; ties ascend. -/
def orderBy : Nat → (Nat → List Nat → Bool) → List Nat → List Nat
  | 0, _, _ => []
  | n + 1, ready, l =>
    match l.find? (fun d => ready d l) with
    | some d => d :: orderBy n ready (l.erase d)
    | none => []
/-- The order of R744: those that go down, each before the domains it requires; then those that come up, each after. -/
def State.switchOrder (s : State) (want : Nat → Bool) : List (Nat × Bool) :=
  let down := switchable.filter (fun d => s.domainUp d && !want d)
  let up := switchable.filter (fun d => !s.domainUp d && want d)
  let lastUser := fun (d : Nat) (l : List Nat) => l.all (fun e => !(requires e).contains d)
  let hasAll := fun (d : Nat) (l : List Nat) => (requires d).all (fun r => !l.contains r)
  (orderBy 60 lastUser down).map (fun d => (d, false)) ++ (orderBy 60 hasAll up).map (fun d => (d, true))
/-- BUSY follows the domains still to switch, and the next one starts. -/
def State.nextSwitch (s : State) (l : List (Nat × Bool)) : State :=
  ({ s with pwr := { s.pwr with todo := l, switchAt := s.now } }).wrB Fld.PWR_STATUS_BUSY (!l.isEmpty)
/-- PWR_REQ_WRITE (R743, R744): the write is checked against its final state, and accepted or refused whole. -/
def execPwrReqWrite (who : Agent) (k : Nat) (v : Word) (s : State) : Host.Outcome State Fault Refusal :=
  let w : Word := if k = 1 then v ||| 0xF0000000 else v
  .next (s.busCheck who Reg.PWR_REQ 0 k 0 v (s.on Fld.PWR_STATUS_BUSY || s.on Fld.PWR_TEMP_TRIPPED) (fun t =>
    let want := t.asked k v
    match switchable.findSome? (fun d => (t.offence want d).map (fun r => (d, r))) with
    | some (d, r) => ((t.bump .PWR_REFUSALS).pwrRecord d r).raise Ev.PWR_REFUSED .device 0 d
    | none => (t.wrReg Reg.PWR_REQ 0 k 0 w).nextSwitch (t.switchOrder want)))

/-! ### Switching (R745, R746) -/

/-- PWR_STATE of a domain. -/
def State.setDomain (s : State) (d : Nat) (up : Bool) : State :=
  let w := s.rd Fld.PWR_STATE_STATE 0 (d / 32)
  let bit := 2 ^ (d % 32)
  s.wr Fld.PWR_STATE_STATE (if up then Nat.lor w bit else w - Nat.land w bit) 0 (d / 32)
/-- A domain goes down and holds nothing (R741); a lane quad will load its trim again (R79). -/
def State.domainOff (s : State) (d : Nat) : State :=
  let t := (s.clearDomain d).setDomain d false
  { t with rst := { t.rst with trimLoaded := if d < 24 then Sparse.erase t.rst.trimLoaded d else t.rst.trimLoaded,
                               badQuads := if d < 24 then Sparse.erase t.rst.badQuads d else t.rst.badQuads } }
/-- DOMAIN_DOWN_DONE (R745). -/
def execDomainDownDone (s : State) : Host.Outcome State Fault Refusal :=
  match s.pwr.todo with
  | (d, false) :: rest => .next ((s.domainOff d).nextSwitch rest)
  | _ => .next s
/-- The engines of a domain that has come up are STANDBY (R602). -/
def State.engineDomainUp (s : State) (d : Nat) : State :=
  if d = 54 ∨ d = 55 then
    (List.range 8).foldl (fun (t : State) i => t.wr Fld.KPR_ENGINE_STATUS_STATE engStandby 0 (8 * (d - 54) + i)) s
  else if 44 ≤ d ∧ d < 48 then s.loadSeeds (d - 44)
  else s
/-- DOMAIN_UP_DONE (R745): the switches have closed, the monitor reports good, and a lane quad has loaded its trim. -/
def execDomainUpDone (s : State) : Host.Outcome State Fault Refusal :=
  match s.pwr.todo with
  | (d, true) :: rest =>
    if s.now < s.pwr.switchAt + 20 * usClk ∨ (d < 24 ∧ s.trimDone d = false) then .next s
    else .next (((s.setDomain d true).engineDomainUp d).nextSwitch rest)
  | _ => .next s
/-- The domains of a list that do not require one that has failed, itself or through others. -/
def withoutUsers : List Nat → List (Nat × Bool) → List (Nat × Bool)
  | _, [] => []
  | bad, (d, up) :: rest =>
    if (requires d).any (fun r => bad.contains r) then withoutUsers (d :: bad) rest else (d, up) :: withoutUsers bad rest
/-- DOMAIN_POWER_FAIL (R745): 50 µs after the last stage the monitor has not reported good; the domain, and those of the write that
require it, stay down. -/
def execDomainPowerFail (s : State) : Host.Outcome State Fault Refusal :=
  match s.pwr.todo with
  | (d, true) :: rest =>
    if s.now < s.pwr.switchAt + 70 * usClk then .next s
    else
      let t := (s.pwrRecord d 3).raise Ev.PWR_DOMAIN_FAIL (if d < 24 then .octet else .device) (if d < 24 then d / 2 else 0) d
      .next (t.nextSwitch (withoutUsers [d] rest))
  | _ => .next s

/-! ### Reference clocks and PLLs (R749 to R753) -/

/-- A reference clock input: 0 REFCLK_A, 1 REFCLK_B. -/
def State.clkRef (s : State) (b : Nat) : RefClk := if b = 0 then s.clk.refA else s.clk.refB
/-- Replace it. -/
def State.setClkRef (s : State) (b : Nat) (r : RefClk) : State :=
  { s with clk := if b = 0 then { s.clk with refA := r } else { s.clk with refB := r } }
/-- Its QUAL bit. -/
def qualFld (b : Nat) : Fld := if b = 0 then Fld.CLK_STATUS_A_QUAL else Fld.CLK_STATUS_B_QUAL
/-- A reference is lost (R750). -/
def State.loseRef (s : State) (b : Nat) : State :=
  (((s.setClkRef b ⟨false, some s.now⟩).wr (qualFld b) 0).bump .CLK_REF_LOSSES).raise Ev.CLK_REF_LOST .device 0 b
/-- A check of R750 fails: no edge for 50 ns, or a frequency further than 200 ppm from 156.25 MHz, in parts per thousand million. -/
def refFails (gapNs : Nat) (ppb : Int) : Bool := decide (50 ≤ gapNs) || decide (200000 < ppb.natAbs)
/-- REFCLK_LOSS (R750): the longest gap between edges of a reference, and its frequency measured over 1 ms; a reference already lost starts
its qualification again. -/
def execRefclkLoss (disturb : RefDisturb) (s : State) : Host.Outcome State Fault Refusal :=
  if !refFails disturb.gapNs disturb.ppb then .next s
  else if (s.clkRef disturb.b.toNat).present then .next (s.loseRef disturb.b.toNat)
  else .next (s.setClkRef disturb.b.toNat ⟨false, some s.now⟩)
/-- REFCLK_QUALIFY (R750): the reference has passed both checks for QUAL_MS. -/
def execRefclkQualify (b : Bool) (s : State) : Host.Outcome State Fault Refusal :=
  match (s.clkRef b.toNat).goodSince with
  | some t =>
    if t + s.rd Fld.CLK_REF_CFG_QUAL_MS * msClk ≤ s.now then .next ((s.setClkRef b.toNat ⟨true, some t⟩).wr (qualFld b.toNat) 1) else .next s
  | none => .next s
/-- The PLLs have locked in this start. -/
def State.clocked (s : State) : Bool := decide (3 ≤ s.rd Fld.RST_STATUS_PHASE) && !s.on Fld.CLK_STATUS_ONDIE
/-- REFCLK_SWITCH (R751): the selected reference is lost and the other is QUALIFIED, or the selection reverts to the preferred one. -/
def execRefclkSwitch (s : State) : Host.Outcome State Fault Refusal :=
  let b := s.rd Fld.CLK_STATUS_SELECTED
  let other := 1 - b
  let reverts := s.on Fld.CLK_CTRL_REVERTIVE && s.rd Fld.CLK_CTRL_PREFER == other
  if s.clocked && s.on (qualFld other) && (!(s.clkRef b).present || reverts) then
    .next (((s.wr Fld.CLK_STATUS_SELECTED other).bump .CLK_SWITCHES).raise Ev.CLK_SWITCH .device 0 other)
  else .next s
/-- CLOCK_LOSS (R752): the selected reference is lost while the other is not QUALIFIED. -/
def execClockLoss (s : State) : Host.Outcome State Fault Refusal :=
  let b := s.rd Fld.CLK_STATUS_SELECTED
  if s.clocked && !(s.clkRef b).present && !s.on (qualFld (1 - b)) then
    .next (((s.wr Fld.CLK_STATUS_ONDIE 1).wr Fld.CLK_STATUS_LOCK 0).trigger 7 0 false)
  else .next s
/-- PLL_UNLOCK (R753): a REFCLK PLL (a LOCK bit) has lost lock while its reference is QUALIFIED; `relocked` says whether it relocks within
200 µs.  The second failure in a row marks the reference lost. -/
def execPllUnlock (pll : Nat) (relocked : Bool) (s : State) : Host.Outcome State Fault Refusal :=
  let b := s.rd Fld.CLK_STATUS_SELECTED
  if !s.on (qualFld b) then .next s
  else
    let n := Sparse.get s.clk.relocks pll 0
    let t := if n = 0 then s.raise Ev.CLK_PLL_UNLOCK .device 0 pll else s
    let w := t.rd Fld.CLK_STATUS_LOCK
    let off := w - Nat.land w (2 ^ pll)
    let count := fun (x : State) (k : Nat) => { x with clk := { x.clk with relocks := Sparse.put x.clk.relocks pll k 0 } }
    if relocked then .next ((count t 0).wr Fld.CLK_STATUS_LOCK (Nat.lor w (2 ^ pll)))
    else if n = 0 then .next ((count t 1).wr Fld.CLK_STATUS_LOCK off)
    else .next (((count t 0).wr Fld.CLK_STATUS_LOCK off).loseRef b)

/-! ### Power figures (R757) -/

/-- Full power of a domain in mW (Table 26.5): the lane quads have none of their own, and the always-on domains are counted as one. -/
def domainFull (d : Nat) : Nat :=
  if d < 24 then 0 else if d < 28 then 18000 else if d < 32 then 16000 else if d < 36 then 7000 else if d < 40 then 10000
  else if d < 44 then 12000 else if d < 48 then 5000 else if d < 50 then 8000 else if d < 52 then 9000 else if d < 54 then 3000
  else if d < 56 then 4000 else if d = 58 then 3000 else if d < 60 then 2000 else 0
/-- Power in nW of something of a full power in mW at a utilisation in thousandths: P × (0.55 + 0.45 × u). -/
def powerAt (mw u : Nat) : Nat := mw * (550000 + 450 * u)
/-- What the powered domains, both harbour stacks and the always-on domains draw, in nW; `u` is the utilisation of each domain, and of the
stacks at 64. -/
def domainsPower (up : Nat → Bool) (u : Nat → Nat) : Nat :=
  (switchable.filter up).foldl (fun a d => a + powerAt (domainFull d) (u d)) (powerAt 24000 (u 64) + 1600000000)
/-- Full power of a lane in mW at a rate, as LNE_CTRL.RATE codes it. -/
def laneFull (rate : Nat) : Nat := [250, 350, 550, 800, 1150].getD rate 0
/-- What a lane of a powered quad draws, in nW: 0.05 W while OFF, 30 % of its figure while shed or in low-power idle. -/
def State.lanePower (s : State) (lane : Nat) : Nat :=
  let full := laneFull (s.rdL Fld.LNE_STATUS_RATE lane) * 1000000
  if s.rdL Fld.LNE_CTRL_MODE lane = 0 then 50000000
  else if s.rdL Fld.LNE_STATUS_EBBED lane = 1 ∨ s.rdL Fld.LNE_STATUS_LPI lane = 1 then full * 3 / 10
  else full
/-- The power of the device in nW (R757). -/
def State.power (s : State) (u : Nat → Nat) : Nat :=
  ((List.range 96).filter (fun l => s.domainUp (l / 4))).foldl (fun a l => a + s.lanePower l) (domainsPower s.domainUp u)

/-! ### Temperature (R754 to R756) -/

/-- A junction sensor before its first sample. -/
def Sensor.init : Sensor := ⟨0, false, false, none⟩
/-- A sensor. -/
def State.sensor (s : State) (i : Nat) : Sensor := Sparse.get s.pwr.sensors i Sensor.init
/-- Replace it; FAULTS follows. -/
def State.setSensor (s : State) (i : Nat) (x : Sensor) : State :=
  let t := { s with pwr := { s.pwr with sensors := Sparse.insert s.pwr.sensors i x } }
  t.wr Fld.PWR_SENSOR_FAULT_FAULTS ((List.range 16).foldl (fun a j => if (t.sensor j).excluded then a + 2 ^ j else a) 0)
/-- One sensor's new reading (R754). -/
def State.sampleOne (s : State) (i : Nat) (r : Int) : State :=
  let x := s.sensor i
  let bad := decide (r < -55 ∨ 150 < r) || (x.sampled && decide (10 < (r - x.reading).natAbs))
  let since := if !x.excluded || bad then none else some (x.validSince.getD s.now)
  let t := s.setSensor i { reading := r, sampled := true, excluded := x.excluded || bad, validSince := since }
  if bad && !x.excluded then t.raise Ev.THERM_SENSOR_FAULT .device 0 i else t
/-- The highest reading of the sensors not excluded, and the sensor that gives it. -/
def State.hottest (s : State) : Option (Int × Nat) :=
  (List.range 16).foldl (fun (a : Option (Int × Nat)) i =>
    let x := s.sensor i
    if x.excluded || !x.sampled then a
    else match a with
      | some (m, j) => if m < x.reading then some (x.reading, i) else some (m, j)
      | none => some (x.reading, i)) none
/-- A temperature threshold: reached, its flag sets; 5 °C below, it clears.  The second component says that it has set. -/
def State.threshold (s : State) (temp : Int) (limit : Nat) (flag : Fld) : State × Bool :=
  if (limit : Int) ≤ temp ∧ s.on flag = false then (s.wr flag 1, true)
  else if temp ≤ (limit : Int) - 5 ∧ s.on flag = true then (s.wr flag 0, false)
  else (s, false)
/-- JUNCTION_SAMPLE (R754, R755): the sixteen sensors are sampled every 1 ms. -/
def execJunctionSample (readings : List Int) (s : State) : Host.Outcome State Fault Refusal :=
  let early := s.pwr.sampledAt.elim false (fun t => decide (s.now < t + msClk))
  if early then .next s
  else
    let t := readings.zipIdx.foldl (fun (x : State) e => x.sampleOne e.2 e.1) { s with pwr := { s.pwr with sampledAt := some s.now } }
    match t.hottest with
    | none => .next t
    | some (m, i) =>
      let u := (t.wr Fld.PWR_TEMP_TEMP (m % 256).toNat).wr Fld.PWR_TEMP_SENSOR i
      let (v, warn) := u.threshold m (u.rd Fld.PWR_THERM_CFG_WARN_C) Fld.PWR_TEMP_WARN
      let (w, hot) := v.threshold m (v.rd Fld.PWR_THERM_CFG_HOT_C) Fld.PWR_TEMP_HOT
      let y := if warn then w.raise Ev.THERM_WARN else w
      .next (if hot then (y.bump .THERM_HOT_ENTRIES).raise Ev.THERM_HOT else y)
/-- SENSOR_REJOIN (R754): an excluded sensor rejoins after 1 s of valid readings. -/
def execSensorRejoin (i : Nat) (s : State) : Host.Outcome State Fault Refusal :=
  let x := s.sensor i
  match x.validSince with
  | some t => .next (if x.excluded ∧ t + sClk ≤ s.now then s.setSensor i { x with excluded := false, validSince := none } else s)
  | none => .next s
/-- A cause of R756 holds. -/
def State.tripDue (s : State) : Bool :=
  let hot := s.hottest.elim false (fun e => decide (125 ≤ e.1))
  hot || decide (115 ≤ s.stackTemp 0) || decide (115 ≤ s.stackTemp 32)
    || decide (8 < ((List.range 16).filter (fun i => (s.sensor i).excluded)).length)
/-- THERMAL_TRIP (R746, R756): THERM_TRIP_N goes low, every transmitter is squelched, and every switchable domain is fenced. -/
def execThermalTrip (s : State) : Host.Outcome State Fault Refusal :=
  if s.on Fld.PWR_TEMP_TRIPPED || !s.tripDue then .next s
  else
    let t := ({ s with pins := { s.pins with thermTripN := false } }).wr Fld.PWR_TEMP_TRIPPED 1
    let u := switchable.foldl (fun (x : State) d => if x.domainUp d then x.domainOff d else x) t
    .next ((u.nextSwitch []).raise Ev.THERM_TRIP)

end Sys2Proof.Machine
end

