-- ==== Sys2Proof/Machine/Diag.lean ====
section
/-! DEFINITION. The commands of diagnostics (spec 28): loopbacks, memory self-test, boundary scan, error injection and perturbation. -/
namespace Sys2Proof.Machine

open Sys2Proof.Config

/-- A test is permitted: the bit of DGN_CFG.PERMIT (R776). -/
def State.permitted (s : State) (bit : Nat) : Bool := s.rd Fld.DGN_CFG_PERMIT / 2 ^ bit % 2 == 1

/-! ### Loopbacks (R777) -/

/-- A write of DGN_PORT_LOOP of a port. -/
def State.portLoopWrite (s : State) (who : Agent) (port : Nat) (v : Word) : State :=
  let m := Fld.DGN_PORT_LOOP_MODE.of v
  let was := s.rd Fld.DGN_PORT_LOOP_MODE 0 port
  let fleit := s.rdL Fld.LNE_CTRL_MODE port == 2 || (s.portLanes port).any (fun l => s.rdL Fld.LNE_CTRL_MODE l == 2)
  s.busWrite who Reg.DGN_PORT_LOOP 0 port 0 v (s.onP Fld.PRT_MODE_EN port || fleit || (m != 0 && !s.permitted 0)) (fun t =>
    let u := t.wrB Fld.DGN_STATUS_LOOP_ACTIVE ((List.range 96).any (fun q => t.rd Fld.DGN_PORT_LOOP_MODE 0 q != 0))
    if was = 0 ∧ m ≠ 0 then u.raise Ev.DGN_LOOPBACK_ACTIVE .device 0 port else u)
/-- LOOPBACK_SET (R777). -/
def execLoopbackSet (who : Agent) (port : Nat) (v : Word) (s : State) : Host.Outcome State Fault Refusal :=
  .next (s.portLoopWrite who port v)

/-! ### Memory self-test (R778) -/

/-- A block of a domain has EN = 1. -/
def State.domainEnabled (s : State) (d : Nat) : Bool :=
  let p := d % 4
  if d < 24 then false
  else if d < 28 then
    s.on Fld.PRS_CTRL_EN p || s.on Fld.EXM_CTRL_EN p || s.on Fld.LPM_CTRL_EN p || s.on Fld.LRN_CTRL_EN p || s.on Fld.GTE_CTRL_EN p
      || (List.range 24).any (fun j => s.onP Fld.PRT_MODE_EN (24 * p + j))
  else if d < 32 then s.on Fld.FLW_CTRL_EN p || s.on Fld.UPS_CTRL_EN p || s.on Fld.EDT_CTRL_EN p
  else if d < 36 then (List.range 24).any (fun j => s.onP Fld.MSC_PORT_CFG_EN (24 * p + j))
  else if d < 40 then s.on Fld.RBK_CTRL_EN p
  else if d < 44 then s.on Fld.BPM_CTRL_EN p || s.on Fld.QUE_CTRL_EN p || s.on Fld.SCH_CTRL_EN p
  else if d < 48 then s.on Fld.FLW_SLICE_CTRL_EN p
  else if 50 ≤ d ∧ d < 54 then s.on Fld.HBC_CTRL_EN (d % 2)
  else if d = 54 ∨ d = 55 then s.on Fld.KPR_CTRL_EN
  else if d = 56 then s.on Fld.HST_CTRL_DMA_EN
  else if d = 57 then (List.range 16).any (fun k => s.on Fld.EDT_CAP_RING_CTRL_EN 0 k)
  else if d = 58 then (List.range 96).any (fun q => s.onP Fld.GTE_PORT_CFG_EXP_EN q)
  else if d = 59 then s.on Fld.FLT_CTRL_EN
  else false
/-- A write of DGN_BIST_CTRL; GO starts the test. -/
def State.bistWrite (s : State) (who : Agent) (v : Word) : State :=
  let d := Fld.DGN_BIST_CTRL_DOMAIN.of v
  let go := Fld.DGN_BIST_CTRL_GO.onIn v
  let bad := go && (!s.permitted 1 || !s.domainUp d || s.domainEnabled d || s.on Fld.DGN_STATUS_BIST_BUSY)
  s.busWrite who Reg.DGN_BIST_CTRL 0 0 0 v bad (fun t =>
    if go then
      (({ t with dgn := { t.dgn with bist := some (d, t.now) } }).wr Fld.DGN_STATUS_BIST_BUSY 1).bump .DGN_BIST_RUNS
    else t)
/-- BIST_GO (R778). -/
def execBistGo (who : Agent) (v : Word) (s : State) : Host.Outcome State Fault Refusal := .next (s.bistWrite who v)
/-- Status registers of one block instance take their reset values. -/
def State.clearStatus (s : State) (rs : List Reg) (inst : Nat) : State :=
  s.clearRegs (fun k => rs.any (fun r => (r.item? k).elim false (fun (n, _, _) => n == inst)))
/-- BIST_DONE (R778): every array of the domain is at its reset contents, and the registers that count entries follow; `fails` arrays
have failed. -/
def execBistDone (fails : Nat) (s : State) : Host.Outcome State Fault Refusal :=
  match s.dgn.bist with
  | none => .next s
  | some (d, _) =>
    let counts := if d < 28 then [Reg.EXM_OVF_STATUS, Reg.EXM_SECT_STATUS, Reg.LPM_STATUS, Reg.LPM_ROUTES4, Reg.LPM_ROUTES6,
        Reg.LRN_PORT_STATUS, Reg.LRN_QUEUE_STATUS]
      else if 44 ≤ d ∧ d < 48 then [Reg.FLW_SLICE_STATUS] else []
    let t := (({ s with dgn := { s.dgn with bist := none } }).clearArrays d).clearStatus counts (d % 4)
    let u := (((t.wr Fld.DGN_BIST_STATUS_RESULT (if fails = 0 then 1 else 2)).wr Fld.DGN_BIST_STATUS_DOMAIN d).wr
      Fld.DGN_BIST_STATUS_FAILS fails).wr Fld.DGN_STATUS_BIST_BUSY 0
    .next (if fails = 0 then u
      else if d < 48 then u.raise Ev.DGN_BIST_FAIL .pipeline (d % 4) d else u.raise Ev.DGN_BIST_FAIL .device 0 d)

/-! ### Boundary scan (R779) -/

/-- EXTEST_LOAD (R779): warm reset is asserted to every region it clears, and the boundary register drives the pins until RESET_N
falls. -/
def execExtestLoad (s : State) : Host.Outcome State Fault Refusal :=
  let t := s.warmClear false
  .next (({ t with pins := { t.pins with scanHold := true } }).wr Fld.DGN_STATUS_SCAN_HOLD 1)

/-! ### Error injection (R780) -/

/-- Instances of an injection target (Table 28.1); a reserved code has none. -/
def injInstances (target : Nat) : Nat := [4, 4, 4, 4, 4, 64, 1, 16, 2, 4, 96, 4].getD target 0
/-- A write of DGN_INJ_CFG. -/
def State.injWrite (s : State) (who : Agent) (v : Word) : State :=
  let arm := Fld.DGN_INJ_CFG_ARM.onIn v
  let was := s.on Fld.DGN_INJ_CFG_ARM
  let bad := arm && ((!was && !s.permitted 2)
    || decide (injInstances (Fld.DGN_INJ_CFG_TARGET.of v) ≤ Fld.DGN_INJ_CFG_INSTANCE.of v))
  s.busWrite who Reg.DGN_INJ_CFG 0 0 0 v bad (fun t =>
    let u := t.wrB Fld.DGN_STATUS_INJ_ARMED arm
    if arm && !was then
      ({ u with dgn := { u.dgn with armedAt := some u.now, lastInject := none } }).raise Ev.DGN_INJECT_ACTIVE
    else u)
/-- INJECT_ARM (R780). -/
def execInjectArm (who : Agent) (v : Word) (s : State) : Host.Outcome State Fault Refusal := .next (s.injWrite who v)
/-- INJECT_EXPIRY (R780): no target write within 1 s of the arming. -/
def execInjectExpiry (s : State) : Host.Outcome State Fault Refusal :=
  match s.dgn.armedAt with
  | some t =>
    .next (if s.on Fld.DGN_INJ_CFG_ARM && s.dgn.lastInject.isNone && decide (t + sClk ≤ s.now) then
        ((s.wr Fld.DGN_INJ_CFG_ARM 0).wr Fld.DGN_STATUS_INJ_ARMED 0).bump .DGN_INJ_EXPIRED
      else s)
  | none => .next s

/-! ### Perturbation (R781, R782) -/

/-- The requester perturbation's buffers are charged to (R782). -/
def reqPerturb : Nat := 6
/-- The highest TARGET of a point, and the range of its AMOUNT where it has one (Table 28.2). -/
def pertLimits (point : Nat) : Nat × Option (Nat × Nat) :=
  [(64, some (1, 10000)), (1, none), (15, none), (6, some (1, 100000)), (3, some (1, 1000000)), (3, some (1, 95232))].getD point (0, none)
/-- A value is over a point's upper limit. -/
def pertOver (point amount : Nat) : Bool := (pertLimits point).2.elim false (fun r => decide (r.2 < amount))
/-- Take up to `n` free P256 buffers of a slice, from the lowest. -/
def State.takeBufs (s : State) (slice : Nat) : Nat → State × List Nat
  | 0 => (s, [])
  | n + 1 =>
    match s.freeBuffer slice 0 0 with
    | some id =>
      let e : BitVec 32 := setFields 0 [(BufState.STATE, 1), (BufState.OWNER, reqPerturb), (BufState.HOLDERS, 2 ^ reqPerturb), (BufState.REFCNT, 1)]
      let t := ((s.setBuf slice id e).addUsed slice reqPerturb 1).wr Fld.BPM_POOL_STATUS_FREE (s.poolFree slice 0 - 1) slice 0
      let (u, ids) := (t.wr Fld.BPM_CTRL_QUIET 0 slice).takeBufs slice n
      (u, id :: ids)
    | none => (s, [])
/-- PERTURB_ACTIVE follows the slots. -/
def State.showPert (s : State) : State :=
  s.wrB Fld.DGN_STATUS_PERTURB_ACTIVE (s.on Fld.DGN_PERT_CTRL_EN 0 0 || s.on Fld.DGN_PERT_CTRL_EN 0 1)
/-- A slot starts to act, or ceases: at BPM_HOLD it takes the buffers it does not hold yet, and keeps them until it stops (R782). -/
def State.pertAct (s : State) (slot : Nat) (on : Bool) : State :=
  let t := { s with dgn := { s.dgn with pertActs := Sparse.insert s.dgn.pertActs slot on } }
  if on && t.rd Fld.DGN_PERT_CFG_POINT 0 slot == 5 then
    let slice := t.rd Fld.DGN_PERT_CFG_TARGET 0 slot
    let have_ := (Sparse.get t.dgn.heldBufs slot (slice, [])).2
    let (u, ids) := t.takeBufs slice (t.rd Fld.DGN_PERT_CFG_AMOUNT 0 slot - have_.length)
    { u with dgn := { u.dgn with heldBufs := Sparse.insert u.dgn.heldBufs slot (slice, have_ ++ ids) } }
  else t
/-- A slot stops: EN reads 0, and the buffers it holds return to their pool. -/
def State.pertStop (s : State) (slot : Nat) : State :=
  let (slice, all) := Sparse.get s.dgn.heldBufs slot (0, [])
  let ids := all.filter (fun id => BufState.STATE.get (s.buf slice id) == 1 && BufState.OWNER.get (s.buf slice id) == reqPerturb)
  let t := ids.foldl (fun (x : State) id => x.free1 slice id) (s.wr Fld.DGN_PERT_CTRL_EN 0 0 slot)
  ({ t with dgn := { t.dgn with pertAt := Sparse.erase t.dgn.pertAt slot, pertActs := Sparse.erase t.dgn.pertActs slot,
                                heldBufs := Sparse.erase t.dgn.heldBufs slot } }).showPert
/-- A start is rejected (R776, R781). -/
def State.pertBad (s : State) (slot : Nat) : Bool :=
  let point := s.rd Fld.DGN_PERT_CFG_POINT 0 slot
  let amount := s.rd Fld.DGN_PERT_CFG_AMOUNT 0 slot
  let lim := pertLimits point
  !s.permitted 3 || decide (lim.1 < s.rd Fld.DGN_PERT_CFG_TARGET 0 slot)
    || lim.2.elim false (fun r => decide (amount < r.1 ∨ r.2 < amount))
    || (s.on Fld.DGN_PERT_CTRL_EN 0 (1 - slot) && s.rd Fld.DGN_PERT_CFG_POINT 0 (1 - slot) == point)
    || s.rd Fld.DGN_PERT_TIME_DURATION_MS 0 slot == 0
/-- A write of DGN_PERT_CTRL of a slot: setting EN starts it, clearing EN stops it. -/
def State.pertWrite (s : State) (who : Agent) (slot : Nat) (v : Word) : State :=
  let en := Fld.DGN_PERT_CTRL_EN.onIn v
  let was := s.on Fld.DGN_PERT_CTRL_EN 0 slot
  s.busWrite who Reg.DGN_PERT_CTRL 0 slot 0 v (en && !was && s.pertBad slot) (fun t =>
    if en && !was then
      let u := { t with dgn := { t.dgn with pertAt := Sparse.insert t.dgn.pertAt slot t.now } }
      (((u.showPert).bump .DGN_PERT_RUNS).raise Ev.DGN_PERTURB_ACTIVE .device 0 slot).pertAct slot true
    else if was && !en then t.pertStop slot
    else t)
/-- A write of DGN_PERT_CFG of a slot: a value above the point's limit is rejected (R784). -/
def State.pertCfgWrite (s : State) (who : Agent) (slot : Nat) (v : Word) : State :=
  s.busWrite who Reg.DGN_PERT_CFG 0 slot 0 v (pertOver (Fld.DGN_PERT_CFG_POINT.of v) (Fld.DGN_PERT_CFG_AMOUNT.of v)) id
/-- PERTURB_START (R781). -/
def execPerturbStart (who : Agent) (slot : Nat) (v : Word) (s : State) : Host.Outcome State Fault Refusal := .next (s.pertWrite who slot v)
/-- PERTURB_DUTY_TOGGLE (R781): within each PERIOD_US the slot acts for the first DUTY_PCT %; with PERIOD_US 0 it acts without a break. -/
def execPerturbDutyToggle (slot : Nat) (s : State) : Host.Outcome State Fault Refusal :=
  match Sparse.find s.dgn.pertAt slot with
  | some t =>
    let period := s.rd Fld.DGN_PERT_TIME_PERIOD_US 0 slot * usClk
    let acts := decide (period = 0 ∨ (s.now - t) % period * 100 < period * s.rd Fld.DGN_PERT_CTRL_DUTY_PCT 0 slot)
    .next (if acts == Sparse.get s.dgn.pertActs slot true then s else s.pertAct slot acts)
  | none => .next s
/-- PERTURB_END (R781): DURATION_MS has passed. -/
def execPerturbEnd (slot : Nat) (s : State) : Host.Outcome State Fault Refusal :=
  match Sparse.find s.dgn.pertAt slot with
  | some t => .next (if t + s.rd Fld.DGN_PERT_TIME_DURATION_MS 0 slot * msClk ≤ s.now then s.pertStop slot else s)
  | none => .next s

end Sys2Proof.Machine
end

