-- ==== Sys2Proof/Machine/Pair.lean ====
section
/-! DEFINITION. The commands of Fleit links, pairs and stacks (spec 22). -/
namespace Sys2Proof.Machine

open Sys2Proof.Config

/-! ### Bundles (R625, R626, R654) -/

/-- BUNDLE_ENABLE (R625, R46): EN is set, and training starts; a rate that would bring its pipeline above 1,400 units rejects the
write. -/
def execBundleEnable (who : Agent) (b : Nat) (v : Word) (s : State) : Host.Outcome State Fault Refusal :=
  let p := s.bundlePort b / 24
  let was := s.on Fld.FLT_BUNDLE_CFG_EN 0 b
  let sum := s.rd Fld.PRT_PIPE_STATUS_RATE_SUM p
  let beyond := !was && !s.on Fld.PRT_PIPE_CFG_OVERSUB p && decide (1400 < sum + s.bundleUnits b)
  .next (s.busWrite who Reg.FLT_BUNDLE_CFG 0 b 0 v beyond (fun t =>
    if was || !t.on Fld.FLT_BUNDLE_CFG_EN 0 b then t
    else
      let u := t.wr Fld.PRT_PIPE_STATUS_RATE_SUM (sum + t.bundleUnits b) p
      if u.on Fld.FLT_CTRL_EN && u.rd Fld.FLT_BUNDLE_CFG_LANES 0 b != 0 && u.bundleState b == 0 then u.trainBundle b else u))

/-- BUNDLE_TRAINED (R625, R634): every lane is locked and the bundle is deskewed; it enters AUTH and sends a HELLO. -/
def execBundleTrained (b : Nat) (s : State) : Host.Outcome State Fault Refusal :=
  if s.bundleState b ≠ 1 then .next s
  else
    let n := s.rd Fld.FLT_BUNDLE_CFG_LANES 0 b
    let x := { Bundle.init with enteredAt := s.now, hbAt := s.now }.queueControl 0 0
    .next ((((s.setBundle b x).wr Fld.FLT_BUNDLE_STATUS_STATE 2 0 b).wr Fld.FLT_BUNDLE_STATUS_ACTIVE_LANES (n - 1) 0 b).wr
      Fld.FLT_BUNDLE_STATUS_SPARE_LANE (s.bundlePort b + (n - 1)) 0 b)

/-- HELLO_RECEIVE (R626): the peer's HELLO is verified; the bundle goes UP, or stays in AUTH and EVT 25.5 is raised once. -/
def execHelloReceive (b : Nat) (h : Hello) (s : State) : Host.Outcome State Fault Refusal :=
  if s.bundleState b ≠ 2 then .next s
  else if s.peerOk h then .next (s.bundleUp b h)
  else
    let x := s.bundle b
    let t := s.setBundle b { x with heard := true, refused := true, retryAt := s.now + 100 * msClk }
    .next (if x.refused then t else t.raise Ev.FLT_PEER_REFUSED .port (s.bundlePort b))

/-- AUTH_RETRY (R626): 100 ms after a refusal the HELLO is sent again. -/
def execAuthRetry (b : Nat) (s : State) : Host.Outcome State Fault Refusal :=
  let x := s.bundle b
  if s.bundleState b = 2 ∧ x.refused = true ∧ x.retryAt ≤ s.now then
    .next (s.setBundle b ({ x with retryAt := s.now + 100 * msClk }.queueControl 0 0))
  else .next s

/-- AUTH_TIMEOUT (R626): 1 s in AUTH without a HELLO of the peer. -/
def execAuthTimeout (b : Nat) (s : State) : Host.Outcome State Fault Refusal :=
  let x := s.bundle b
  if s.bundleState b = 2 ∧ x.heard = false ∧ x.enteredAt + sClk ≤ s.now then .next (s.bundleDown b false) else .next s

/-- BUNDLE_RETRAIN_TIMER (Table 22.1): 1 ms after entering DOWN an enabled bundle trains again. -/
def execBundleRetrainTimer (b : Nat) (s : State) : Host.Outcome State Fault Refusal :=
  if s.bundleState b = 0 ∧ s.on Fld.FLT_BUNDLE_CFG_EN 0 b = true ∧ s.on Fld.FLT_CTRL_EN = true ∧ s.rd Fld.FLT_BUNDLE_CFG_LANES 0 b ≠ 0
      ∧ (s.bundle b).enteredAt + msClk ≤ s.now then .next (s.trainBundle b)
  else .next s

/-- BUNDLE_DISABLE (R654): EN is cleared: an UP bundle sends CLOSE and gets 100 µs for what is unacknowledged. -/
def execBundleDisable (who : Agent) (b : Nat) (v : Word) (s : State) : Host.Outcome State Fault Refusal :=
  let was := s.on Fld.FLT_BUNDLE_CFG_EN 0 b
  let p := s.bundlePort b / 24
  .next (s.busWrite who Reg.FLT_BUNDLE_CFG 0 b 0 v false (fun t =>
    if !was || t.on Fld.FLT_BUNDLE_CFG_EN 0 b then t
    else
      let u := t.wr Fld.PRT_PIPE_STATUS_RATE_SUM (t.rd Fld.PRT_PIPE_STATUS_RATE_SUM p - t.bundleUnits b) p
      if u.bundleState b = 3 then u.setBundle b ({ u.bundle b with closing := some (u.now + 100 * usClk) }.queueControl 3 0)
      else u.bundleDown b true))

/-- BUNDLE_CLOSE_EXPIRY (R654): everything is acknowledged, or 100 µs have passed: the bundle goes DOWN and discards the rest. -/
def execBundleCloseExpiry (b : Nat) (s : State) : Host.Outcome State Fault Refusal :=
  let x := s.bundle b
  match x.closing with
  | some t =>
    if t ≤ s.now ∨ (x.unacked = [] ∧ x.segments.all (fun g => g.chan != .control) = true) then .next (s.bundleDown b true) else .next s
  | none => .next s

/-! ### Frames (R627 to R631) -/

/-- A channel of an UP bundle has a frame to send. -/
def State.waiting (s : State) (b : Nat) (ch : Chan) : Option Segment :=
  let x := s.bundle b
  if x.closing.isSome && ch != .control then none
  else if ch = .mirror then s.mirrorSegment b
  else x.segments.find? (fun g => g.chan == ch)
/-- TYPE of a channel's frames. -/
def chanType : Chan → Nat
  | .data => 1 | .express => 2 | .mirror => 3 | .control => 5
/-- Send the first frame of a channel: it takes a credit and is kept until it is acknowledged; MIRROR and CONTROL frames are staged in a
buffer of requester FLEIT, and wait while they get none. -/
def State.sendFrom (s : State) (b pick : Nat) (ch : Chan) (g : Segment) : State :=
  let slice := s.bundlePort b / 24
  let (s0, buf, go) := if ch = .mirror ∨ ch = .control then
      match s.alloc slice reqFleit pick with
      | (t, some id) => (t, some id, true)
      | (t, none) => (t, none, false)
    else (s, none, true)
  if !go then s0
  else
    let x := s0.bundle b
    let fseq := x.txFseq
    let kept : KeptFrame := { fseq := fseq, seg := g, buf := buf }
    let y := { x with segments := if ch = .mirror then x.segments else x.segments.erase g, txFseq := (fseq + 1) % 2 ^ 24, unacked := x.unacked ++ [kept],
                      progressAt := if x.unacked.isEmpty then s.now else x.progressAt,
                      credits := Sparse.put x.credits ch.code (Sparse.get x.credits ch.code 0 - 1) 0 }
    let s1 := (s0.setBundle b y).sendFleit b (chanType ch) fseq false g
    if ch = .mirror then { s1 with flt := { s1.flt with mirrorNext := (s1.flt.mirrorNext + 1) % 2 ^ 32 } } else s1
/-- Send a kept frame again. -/
def State.sendAgain (s : State) (b seq : Nat) : State :=
  let x := s.bundle b
  match x.unacked.find? (fun k => k.fseq == seq) with
  | some k =>
    let next := (seq + 1) % 2 ^ 24
    let t := s.setBundle b { x with resendFrom := if x.unacked.any (fun k => k.fseq == next) then some next else none }
    (t.sendFleit b (chanType k.seg.chan) seq false k.seg).bump .FLT_RESENDS b
  | none => s.setBundle b { x with resendFrom := none }

/-- FLEIT_FRAME_SEND (R628, R630, R631): the next frame of a bundle; `pick` is where the search for a staging buffer starts. -/
def execFleitFrameSend (b pick : Nat) (s : State) : Host.Outcome State Fault Refusal :=
  match s.bundleState b with
  | 2 =>
    let x := s.bundle b
    if x.hbDue then .next (s.sendHeartbeat b)
    else
      match x.segments with
      | g :: r => .next ((s.setBundle b { x with segments := r }).sendFleit b 5 0 false g)
      | [] => .next s
  | 3 =>
    let s0 := s.cutPacket b
    let x := s0.bundle b
    if x.hbDue then .next (s0.sendHeartbeat b)
    else if x.ackDue || x.nakDue then
      .next ((s0.setBundle b { x with ackDue := false, nakDue := false }).sendFleit b 6 0 x.nakDue emptySegment)
    else
      match x.resendFrom with
      | some q => .next (s0.sendAgain b q)
      | none =>
        let has := ([Chan.control, .express, .mirror, .data]).filterMap (fun ch => (s0.waiting b ch).map (fun g => (ch, g)))
        let blocked := has.filter (fun e => Sparse.get x.credits e.1.code 0 == 0)
        let s1 := s0.setBundle b { x with waitSince := blocked.foldl (fun m e => if (Sparse.find m e.1.code).isSome then m else Sparse.insert m e.1.code s.now) x.waitSince }
        if 16384 ≤ x.unacked.length then .next s1
        else
          match has.find? (fun e => Sparse.get x.credits e.1.code 0 != 0) with
          | some (ch, g) => .next (s1.sendFrom b pick ch g)
          | none => .next s1
  | _ => .next s

/-- FLEIT_FRAME_RECEIVE (R627, R629 to R633, R650): a frame with its CRC is checked, taken in FSEQ order, refused by a NAK, or takes the
bundle down; in AUTH only heartbeats are taken. -/
def execFleitFrameReceive (b : Nat) (hdr : BitVec 128) (payload : List Byte) (crc : Word) (s : State) : Host.Outcome State Fault Refusal :=
  let good := crc == fleitCrc hdr payload && payload.length == FleitHdr.LEN.get hdr
  match s.bundleState b with
  | 3 => .next (s.frameIn b hdr payload good)
  | 2 =>
    if good && s.frameBad b hdr payload then
      .next (((s.bundleDown b false).bump .FLT_BAD_FRAME b).raise Ev.FLT_BAD_FRAME .port (s.bundlePort b))
    else if !good then .next (s.bump .FLT_CRC_ERR b)
    else if FleitHdr.TYPE.get hdr = 4 then .next ((s.bump .FLT_RX_FRAMES b).heartbeatIn b (BitVec.ofNat 384 (natOfBytes payload)))
    else .next s
  | _ => .next s

/-- NAK_RECEIVE (R630): the sender sends again from ACK_SEQ. -/
def execNakReceive (b ackSeq : Nat) (s : State) : Host.Outcome State Fault Refusal :=
  if s.bundleState b = 3 then .next ((s.ackTo b ackSeq).resendFrom b ackSeq) else .next s

/-- REPLAY_TIMEOUT (R630): 10 µs without acknowledgement progress. -/
def execReplayTimeout (b : Nat) (s : State) : Host.Outcome State Fault Refusal :=
  let x := s.bundle b
  match x.unacked with
  | k :: _ => if s.bundleState b = 3 ∧ x.progressAt + 10 * usClk ≤ s.now then .next (s.resendFrom b k.fseq) else .next s
  | [] => .next s

/-- FLEIT_ACK_RECEIVE (R630, R631): frames are acknowledged, their buffers released, and credits return. -/
def execFleitAckReceive (b ackSeq : Nat) (ch : Chan) (credits : Nat) (s : State) : Host.Outcome State Fault Refusal :=
  if s.bundleState b = 3 then .next ((s.ackTo b ackSeq).addCredit b ch.code credits) else .next s

/-- CREDIT_STALL (R631): a channel has waited 1 ms for credit while heartbeats arrive. -/
def execCreditStall (b : Nat) (ch : Chan) (s : State) : Host.Outcome State Fault Refusal :=
  let x := s.bundle b
  let hears := match x.lastHb with | some t => decide (s.now < t + s.rd Fld.FLT_SYS_CFG_DETECT_US * usClk) | none => false
  match Sparse.find x.waitSince ch.code with
  | some t =>
    if s.bundleState b = 3 ∧ t + msClk ≤ s.now ∧ hears = true ∧ Sparse.get x.stalled ch.code false = false then
      .next ((s.setBundle b { x with stalled := Sparse.insert x.stalled ch.code true }).raise Ev.FLT_CREDIT_STALL .port (s.bundlePort b))
    else .next s
  | none => .next s

/-! ### Heartbeats (R633) -/

/-- HEARTBEAT_SEND (R633): once per µs a heartbeat is due. -/
def execHeartbeatSend (b : Nat) (s : State) : Host.Outcome State Fault Refusal :=
  let x := s.bundle b
  if (s.bundleState b = 2 ∨ s.bundleState b = 3) ∧ x.hbAt + usClk ≤ s.now then .next (s.setBundle b { x with hbDue := true, hbAt := s.now }) else .next s

/-- HEARTBEAT_LOSS (R633): no valid heartbeat for DETECT_US. -/
def execHeartbeatLoss (b : Nat) (s : State) : Host.Outcome State Fault Refusal :=
  match (s.bundle b).lastHb with
  | some t => if s.bundleState b = 3 ∧ t + s.rd Fld.FLT_SYS_CFG_DETECT_US * usClk ≤ s.now then .next (s.bundleDown b false) else .next s
  | none => .next s

/-! ### Lane sparing (R634, R635) -/

/-- A receiving lane of an UP bundle fails: with a lane already failed the bundle goes DOWN; else the peer is asked to use the spare. -/
def State.fleitLaneFail (s : State) (b lane : Nat) : State :=
  let x := s.bundle b
  if s.bundleState b ≠ 3 ∨ (s.bundleLanes b).contains lane = false then s
  else if (Sparse.find x.failedLanes lane).isSome then s.setBundle b { x with failedLanes := Sparse.insert x.failedLanes lane s.now }
  else if !x.failedLanes.isEmpty then s.bundleDown b false
  else
    let y := { x with failedLanes := Sparse.insert x.failedLanes lane s.now }
    let t := ((s.setBundle b y).bump .FLT_SPARES b).raise Ev.FLT_LANE_SPARED .lane lane
    if lane = s.rd Fld.FLT_BUNDLE_STATUS_SPARE_LANE 0 b then t
    else t.setBundle b ({ y with nakDue := true, spareWait := some lane }.queueControl 1 lane)
/-- FLEIT_LANE_FAIL (R634, R635). -/
def execFleitLaneFail (b lane : Nat) (s : State) : Host.Outcome State Fault Refusal := .next (s.fleitLaneFail b lane)

/-- SPARE_REQ_RECEIVE (R634): the sender moves the lane's stripe to the spare. -/
def execSpareReqReceive (b lane : Nat) (s : State) : Host.Outcome State Fault Refusal :=
  if s.bundleState b = 3 ∧ (s.bundleLanes b).contains lane = true then .next (s.setBundle b { s.bundle b with txMoved := some lane }) else .next s

/-- SPARE_ACK (R634): the marker has arrived on the spare, which joins the stripe. -/
def execSpareAck (b : Nat) (s : State) : Host.Outcome State Fault Refusal :=
  let x := s.bundle b
  match x.spareWait with
  | some lane =>
    if s.bundleState b = 3 then .next ((s.setBundle b ({ x with spareWait := none }.queueControl 2 lane)).wr Fld.FLT_BUNDLE_STATUS_SPARE_USED 1 0 b)
    else .next s
  | none => .next s

/-- SPARE_RETURN (R635): a failed lane clean for 100 ms becomes the new spare. -/
def execSpareReturn (b lane : Nat) (s : State) : Host.Outcome State Fault Refusal :=
  let x := s.bundle b
  match Sparse.find x.failedLanes lane with
  | some t =>
    if s.bundleState b = 3 ∧ t + 100 * msClk ≤ s.now then
      .next (((s.setBundle b { x with failedLanes := Sparse.erase x.failedLanes lane }).wr Fld.FLT_BUNDLE_STATUS_SPARE_LANE lane 0 b).wr
        Fld.FLT_BUNDLE_STATUS_SPARE_USED 0 0 b)
    else .next s
  | none => .next s

/-! ### Stacks (R636, R638, R639) -/

/-- LINK_TIME_SAMPLE (R638): 1,024 exchanges with the chosen source give one sample of reference 6. -/
def execLinkTimeSample (b : Nat) (s : State) : Host.Outcome State Fault Refusal :=
  let x := s.bundle b
  if s.on Fld.FLT_SYS_CFG_TIME_FROM_LINK = false ∨ s.linkSource ≠ some b ∨ x.sampleCount < 1024 then .next s
  else
    let asym := psUnits (signedOf 32 (s.rd Fld.FLT_BUNDLE_TIME_ASYM_PS 0 b))
    let off := x.sampleSum / (x.sampleCount : Int) / 2 - asym
    let s1 := s.setBundle b { x with sampleSum := 0, sampleCount := 0 }
    let s2 := if s1.flt.timeSource.isSome ∧ s1.flt.timeSource ≠ some b then s1.bump .FLT_TIME_SOURCE_CHANGES else s1
    let s3 := { s2 with flt := { s2.flt with timeSource := some b, linkTu := Heartbeat.TU.get x.peerHb } }
    .next (s3.phaseSample6 off)

/-- STACK_MASTER_CHECK (R636): two masters, or none for 1 s after the first bundle is UP. -/
def execStackMasterCheck (s : State) : Host.Outcome State Fault Refusal :=
  if !s.inStack then .next s
  else
    let t := s.showStack
    let own := if t.rd Fld.FLT_SYS_CFG_STACK_ROLE = 1 then [t.rd Fld.FLT_SYS_CFG_DEV_ID] else []
    let heard := ((List.range 4).filter (fun b => t.bundleState b == 3 && Heartbeat.STACK_ROLE.get (t.bundle b).peerHb == 1)).map
      (fun b => t.rd Fld.FLT_BUNDLE_STATUS_PEER_DEV 0 b)
    let masters := (own ++ heard).eraseDups
    let late := match t.flt.firstUp with | some a => decide (a + sClk ≤ t.now) | none => false
    let bad := decide (2 ≤ masters.length) || (masters.isEmpty && late)
    let u := { t with flt := { t.flt with masterBad := bad } }
    .next (if bad && !t.flt.masterBad then u.raise Ev.FLT_STACK_MASTER else u)

/-! ### Pairs (R640 to R652) -/

/-- A pair-link bundle that is UP and whose peer does not yield. -/
def State.twinLink (s : State) : Option Nat := s.pairLinks.find? (fun b => s.bundleState b == 3 && !Heartbeat.YIELD.on (s.bundle b).peerHb)

/-- PAIR_ELECTION (R640, R651, R652): with the pair link UP, a device without a role takes one, and a PRIMARY that is ALONE starts to fill
its twin. -/
def execPairElection (s : State) : Host.Outcome State Fault Refusal :=
  match s.twinLink with
  | none => .next s
  | some b =>
    let x := s.bundle b
    let role := s.rd Fld.FLT_PAIR_STATUS_ROLE
    let theirs := Heartbeat.ROLE.get x.peerHb
    let fill := fun (t : State) =>
      let u := (t.clearMirror).setPair 1 1
      { u with flt := { u.flt with resync := some 0, twinLost := false } }
    if s.rd Fld.FLT_PAIR_STATUS_STATE ≠ 0 then .next s
    else if role = 1 then .next (if theirs = 1 then s else fill s)
    else if theirs = 1 then .next s.becomeSecondary
    else
      match x.peer with
      | some h =>
        let own := s.rd Fld.FLT_SYS_CFG_PAIR_PRIO
        let first := decide (own < h.prio) || (own == h.prio && decide (serial.toNat < h.identity))
        .next (if theirs == 2 || first then fill s else s.becomeSecondary)
      | none => .next s

/-- MIRROR_APPEND (R643, R644): the oldest change waiting is appended to the mirror queue, merges into a waiting update of its record, is
left to the record's write-back, or waits for room. -/
def execMirrorAppend (s : State) : Host.Outcome State Fault Refusal :=
  match s.flt.mirrorWait with
  | [] => .next s
  | u :: rest =>
    let s0 := { s with flt := { s.flt with mirrorWait := rest, headWaits := false } }
    let q := s.flt.mirrorQ
    let newest := q.reverse.find? (fun w => w.kind == 0 && w.index == u.index && after32 w.mseq s.flt.mirrorNext)
    if s.rd Fld.FLT_PAIR_STATUS_ROLE ≠ 1 ∨ s.rd Fld.FLT_PAIR_STATUS_STATE = 0 then .next s0.payReplies
    else if u.refresh && u.kind == 0 then
      match newest with
      | some w => .next ((s0.setMirrorQ (q.map (fun y => if y.mseq = w.mseq then { y with body := u.body } else y))).bump .FLT_MIRROR_MERGED)
      | none =>
        if q.length < s.rd Fld.FLT_PAIR_CFG_REFRESH_MARK then .next (s0.enqueueUpdate u)
        else .next { s0 with flt := { s0.flt with unsent := Sparse.insert s0.flt.unsent u.index true } }
    else if 4096 ≤ q.length then
      let t := { s with flt := { s.flt with headWaits := true } }
      .next ((if s.flt.headWaits then t else t.bump .FLT_MIRROR_WAIT).raiseMs Ev.FLT_MIRROR_FULL)
    else .next (s0.enqueueUpdate u)

/-- MIRROR_ACCEPT (R645): the SECONDARY takes the update that is next in MSEQ order into its apply queue, or discards a duplicate. -/
def execMirrorAccept (s : State) : Host.Outcome State Fault Refusal :=
  if s.rd Fld.FLT_PAIR_STATUS_ROLE ≠ 2 then .next s
  else
    let isNext := fun (u : MirrorUpd) => match s.flt.accepted with | some a => u.mseq == (a + 1) % 2 ^ 32 | none => true
    let isOld := fun (u : MirrorUpd) => match s.flt.accepted with | some a => after32 a u.mseq | none => false
    let without := fun (e : Nat × MirrorUpd) => { s with flt := { s.flt with rxUpdates := s.flt.rxUpdates.erase e } }
    match s.flt.rxUpdates.find? (fun e => isNext e.2) with
    | some e =>
      let t := without e
      let fence := if e.2.kind = 3 then some e.2.fenceSeq else t.flt.fenceSeq
      let sync := if e.2.kind = 4 then some e.2.mseq else t.flt.syncEnd
      .next { t with flt := { t.flt with accepted := some e.2.mseq, applyQ := t.flt.applyQ ++ [e], fenceSeq := fence, syncEnd := sync } }
    | none =>
      match s.flt.rxUpdates.find? (fun e => isOld e.2) with
      | some e => .next (((without e).oweCredit e.1 2).bump .FLT_MIRROR_DUP)
      | none => .next s

/-- The harbour activity and bytes an update is charged (R645). -/
def updateCharge (u : MirrorUpd) : Nat × Nat :=
  match u.kind with
  | 0 => (actFlow, 128)
  | 1 => (actSession, 128)
  | 2 => (actKeeper, 2 * 32 * 128)
  | _ => (actKeeper, 0)
/-- The tag of mirror writes and of resync reads at the harbour gate. -/
def mirrorTag (m : Nat) : Nat := 2 ^ 43 + m

/-- MIRROR_APPLY (R645): the oldest accepted update is applied, once its share admits the write. -/
def execMirrorApply (s : State) : Host.Outcome State Fault Refusal :=
  match s.flt.applyQ with
  | [] => .next s
  | (b, u) :: rest =>
    let (act, n) := updateCharge u
    let (t, ok) := s.charge 0 act n (mirrorTag u.mseq)
    if ok then .next ((({ t with flt := { t.flt with applyQ := rest } }).applyUpdate u).oweCredit b 2) else .next t

/-- The twin is lost (R647): YIELD on a pair-link bundle, or none of them hears it for DETECT_US. -/
def State.twinGone (s : State) : Bool :=
  let silent := fun (b : Nat) =>
    match (s.bundle b).lastHb with
    | some t => decide (t + s.rd Fld.FLT_SYS_CFG_DETECT_US * usClk ≤ s.now)
    | none => true
  s.pairLinks.any (fun b => s.bundleState b == 3 && Heartbeat.YIELD.on (s.bundle b).peerHb) || s.pairLinks.all silent

/-- TWIN_LOST (R647, R649): a SECONDARY in PROTECTED is to take over; a PRIMARY goes on ALONE under the next generation; a SECONDARY
in SYNC stays one (R652), and its next fill begins anew. -/
def execTwinLost (s : State) : Host.Outcome State Fault Refusal :=
  let st := s.rd Fld.FLT_PAIR_STATUS_STATE
  let role := s.rd Fld.FLT_PAIR_STATUS_ROLE
  if !s.inPair || st == 0 || !s.twinGone then .next s
  else if role = 1 then
    .next ((s.wr Fld.FLT_PAIR_STATUS_PAIR_GEN (nextGen (s.rd Fld.FLT_PAIR_STATUS_PAIR_GEN))).setPair 1 0).clearMirror
  else if role = 2 ∧ st = 2 then .next { s with flt := { s.flt with twinLost := true } }
  else .next { s with flt := { s.flt with applyQ := [], rxUpdates := [], accepted := none, fenceSeq := none, syncEnd := none, rejoinFilled := false } }

/-- A reset for a software, watchdog or lock-up cause is in its first steps (R648). -/
def State.yieldReset (s : State) : Bool :=
  match s.rst.run with
  | some r => !r.held && (r.cause == 4 || r.cause == 5 || r.cause == 8)
  | none => false
/-- YIELD_SEND (R648): a failing device mirrors a FENCE and yields. -/
def execYieldSend (s : State) : Host.Outcome State Fault Refusal :=
  if s.inPair && !s.flt.yielding && (s.flt.handOver || s.yieldReset) && s.rd Fld.FLT_PAIR_STATUS_ROLE != 0 then
    let t := if s.rd Fld.FLT_PAIR_STATUS_ROLE = 1 then s.mirrorChange 3 0 0 0 0 false else s
    .next { t with flt := { t.flt with yielding := true, handOver := false } }
  else .next s

/-- TAKEOVER (R649): the SECONDARY fences, discards what lies beyond, applies the rest and becomes PRIMARY, ALONE. -/
def execTakeover (s : State) : Host.Outcome State Fault Refusal :=
  if s.flt.twinLost = false ∨ s.rd Fld.FLT_PAIR_STATUS_ROLE ≠ 2 then .next s
  else
    let f := s.flt.fenceSeq.getD (s.flt.accepted.getD 0)
    let s1 := (s.wr Fld.FLT_FENCE_MSEQ f).wr Fld.FLT_PAIR_STATUS_PAIR_GEN (nextGen (s.rd Fld.FLT_PAIR_STATUS_PAIR_GEN))
    let due := s1.flt.applyQ.filter (fun e => after32 f e.2.mseq)
    let s2 := due.foldl (fun (t : State) e => t.applyUpdate e.2) { s1 with flt := { s1.flt with applyQ := [], rxUpdates := [] } }
    let s3 := { s2 with flt := { s2.flt with twinLost := false, accepted := none, fenceSeq := none, syncEnd := none } }
    .next (((s3.setPair 1 0).bump .FLT_TAKEOVERS).raise Ev.FLT_TAKEOVER .system)

/-- REJOIN_FILL (R651): a device that joins zero-fills its record areas. -/
def execRejoinFill (s : State) : Host.Outcome State Fault Refusal :=
  if s.rd Fld.FLT_PAIR_STATUS_ROLE = 2 ∧ s.rd Fld.FLT_PAIR_STATUS_STATE = 1 ∧ s.flt.rejoinFilled = false then
    let flw := { s.flw with area := [], gens := [], seeds := [], seedCopy := [], sets := [], whey := [], freeBlocks := [], portMap := [], setupQ := [], removals := [], binding := [] }
    let t := { s with flw := flw, ups := { s.ups with recs := [], settles := [] }, flt := { s.flt with rejoinFilled := true } }
    let u := (List.range 4).foldl (fun (x : State) k =>
      (x.wr Fld.FLW_SLICE_RECORDS_RECORDS 0 k).wr Fld.FLW_SLICE_STATUS_WHEY_FILL 0 k) t
    .next (u.wr Fld.UPS_STATUS_SESSIONS 0)
  else .next s

/-! ### The resync walk (R652) -/

/-- Number of groups, and of record indices (R254, R257). -/
def groupCount : Nat := 2097152
/-- See `groupCount`. -/
def recordCount : Nat := 67108864
/-- The smallest number of a list at or above a bound. -/
def leastFrom (l : List Nat) (k : Nat) : Option Nat :=
  (l.filter (fun i => decide (k ≤ i))).foldl (fun m i => match m with | some a => some (min a i) | none => some i) none
/-- Records of the flow area that the walk copies: VALID, of a mirrored class, with their contents as they stand. -/
def State.mirroredRecords (s : State) : List (Nat × BitVec 1024) :=
  let cached := s.flw.sets.flatMap (fun e => (e.2.filter (fun w => w.cls != 0 && w.live)).map (fun w => (w.idx, w.rec_)))
  let whey := s.flw.whey.flatMap (fun e => (e.2.filter (fun x => x.1 != 0)).map (fun x => (x.2.2.1, x.2.2.2)))
  let near := cached ++ whey
  let far := s.flw.area.filter (fun e => near.all (fun x => x.1 != e.1))
  (near ++ far).filter (fun e => FlowRec.VALID.on e.2 && FlowRec.MIRRORED.on e.2)
/-- Append a resync copy. -/
def State.resyncCopy (s : State) (kind block index seed : Nat) (body : BitVec 1024) : State :=
  let u : MirrorUpd := { mseq := 0, kind := kind, resync := true, block := block, index := index, seed := seed, fenceSeq := 0, body := body, refresh := false }
  { s with flt := { s.flt with mirrorWait := s.flt.mirrorWait ++ [u] } }
/-- What the walk copies next at or after a place: the place, and the update's kind, block, index, seed and contents. -/
def State.resyncItem (s : State) (k : Nat) : Option (Nat × Nat × Nat × Nat × Nat × BitVec 1024) :=
  if k < groupCount then some (k, 2, 0, k, s.seed k, 0)
  else
    let recs := s.mirroredRecords
    match leastFrom (recs.map Prod.fst) (k - groupCount) with
    | some i => some (groupCount + i, 0, 0, i, 0, ((recs.find? (fun e => e.1 == i)).map Prod.snd).getD 0)
    | none =>
      if !s.on Fld.UPS_CFG_MIRROR then none
      else
        let base := groupCount + recordCount
        let valid := (s.ups.recs.map Prod.fst).filter (fun i => Sess.VALID.on (s.head i))
        match leastFrom (valid.flatMap (fun i => [4 * i, 4 * i + 1, 4 * i + 2, 4 * i + 3])) (k - base) with
        | some j => some (base + j, 1, j % 4, j / 4, 0, BitVec.ofNat 1024 ((s.sess (j / 4)).toNat / 2 ^ (1024 * (j % 4))))
        | none => none

/-- RESYNC_WALK (R652): the PRIMARY copies its next seed, record or session block to the mirror queue; after the last one it appends
SYNC_END. -/
def execResyncWalk (s : State) : Host.Outcome State Fault Refusal :=
  match s.flt.resync with
  | none => .next s
  | some k =>
    if s.rd Fld.FLT_PAIR_STATUS_ROLE ≠ 1 ∨ s.rd Fld.FLT_PAIR_STATUS_STATE ≠ 1 then .next s
    else
      match s.resyncItem k with
      | some (at_, kind, block, index, seed, body) =>
        let (t, ok) := s.charge 0 actKeeper (if kind = 2 then 0 else 128) (mirrorTag 0x100000000)
        if ok then .next ({ t with flt := { t.flt with resync := some (at_ + 1) } }.resyncCopy kind block index seed body) else .next t
      | none => .next ({ s with flt := { s.flt with resync := none } }.resyncCopy 4 0 0 0 0)

/-- SYNC_END_ACCEPT (R652): the twin has accepted SYNC_END, and the pair becomes PROTECTED. -/
def execSyncEndAccept (s : State) : Host.Outcome State Fault Refusal :=
  let role := s.rd Fld.FLT_PAIR_STATUS_ROLE
  match s.flt.syncEnd with
  | some m =>
    let done := if role = 2 then s.flt.rejoinFilled else after32 (s.rd Fld.FLT_MSEQ_ACC_MSEQ) m
    if s.rd Fld.FLT_PAIR_STATUS_STATE = 1 ∧ done = true then
      .next (({ s with flt := { s.flt with syncEnd := none } }.setPair role 2).raise Ev.FLT_SYNC_DONE .system)
    else .next s
  | none => .next s

end Sys2Proof.Machine
end

