-- ==== Sys2Proof/Machine/Ports.lean ====
section
/-! DEFINITION. The commands of the ports' links, lane ebb, low-power idle, PRBS and QUIET_N (spec 02, R39 to R80). -/
namespace Sys2Proof.Machine

open Sys2Proof.Config

/-! ### PRT_MODE (R42 to R46, R52) -/

/-- The lanes a port of type `t` takes from lane `port` on. -/
def lanesOf (port t : Nat) : List Nat := (List.range (typeLanes t)).map (fun i => port + i)

/-- The conditions that reject a PRT_MODE write beside the ranges of its fields (R43, R44, R46, R78, R122). -/
def State.modeBad (s : State) (port : Nat) (v : Word) : Bool :=
  let t := Fld.PRT_MODE_TYPE.of v
  let en := Fld.PRT_MODE_EN.onIn v
  let was := s.onP Fld.PRT_MODE_EN port
  let changes := t != s.portType port || Fld.PRT_MODE_FEC.of v != s.rdP Fld.PRT_MODE_FEC port
    || Fld.PRT_MODE_AN_EN.of v != s.rdP Fld.PRT_MODE_AN_EN port
  let n := typeLanes t
  let ls := lanesOf port t
  (was && changes) || (s.bundleOf port).isSome
    || (en && t == 0)
    || !fecOk t (Fld.PRT_MODE_FEC.of v)
    || (t != 0 &&
        (port % n != 0
          || ls.any (fun l => s.rdL Fld.LNE_CTRL_MODE l == 2 || (match s.laneOwner l with | some q => q != port | none => false))
          || s.rd Fld.LNE_OCTET_CTRL_FAMILY (port / 24) (port / 8 % 3) != rateFamily (typeLaneRate t)
          || (decide (7 ≤ t) && s.onP Fld.MSC_PORT_CFG_EN port && !s.isXpn port)
          || ls.any (fun l => !s.quadReady l)))
    || (en && !was && !s.on Fld.PRT_PIPE_CFG_OVERSUB (port / 24)
        && decide (1400 < s.rd Fld.PRT_PIPE_STATUS_RATE_SUM (port / 24) + typeUnits t))

/-- The status bits of the fault conditions present. -/
def State.showFaults (s : State) (port : Nat) : State :=
  let f := (s.port port).faults
  ((s.wrP Fld.PRT_LINK_STATUS_LOCAL_FAULT port (f.contains 0).toNat).wrP Fld.PRT_LINK_STATUS_REMOTE_FAULT port
    (f.contains 1).toNat).wrP Fld.PRT_LINK_STATUS_HI_BER port (f.contains 2).toNat
/-- No fault condition stands any more. -/
def State.noFaults (s : State) (port : Nat) : State :=
  (s.setPort port { s.port port with faults := [], faultSince := none }).showFaults port
/-- EN is cleared (R52, R57, R425): the port stops whatever it was doing, its queues flush at once, and the frames already in its ingress
FIFO have 10 µs to be handed to the pipeline. -/
def State.disablePort (s : State) (port : Nat) : State :=
  let s1 := ((if s.portUp port then s.leaveUp port else s).enterLink port 0).noFaults port
  let s2 := if s1.rd Fld.QUE_PORT_STATUS_STATE (port / 24) (port % 24) = 2 then s1 else s1.flushPort port
  if (s2.fifo (port / 24) (port % 24)).isEmpty then s2
  else s2.setPort port { s2.port port with drainUntil := some (s2.now + 10 * usClk), drainPkt := s2.nextPkt }
/-- What an accepted PRT_MODE write does beside storing its word: lanes change hands, and the port is enabled or disabled
(R42, R46, R52, R57, R61). -/
def State.modeEffect (s : State) (port : Nat) (old v : Word) : State :=
  let t0 := Fld.PRT_MODE_TYPE.of old
  let t := Fld.PRT_MODE_TYPE.of v
  let s1 := if t0 = t then s
    else
      let freed := (lanesOf port t0).filter (fun l => !(lanesOf port t).contains l)
      let s2 := (s.wrLanes freed Fld.LNE_CTRL_MODE 0).wrLanes (lanesOf port t) Fld.LNE_CTRL_MODE 1
      s2.wrLanes (lanesOf port t) Fld.LNE_STATUS_RATE (typeLaneRate t)
  let sum := s1.rd Fld.PRT_PIPE_STATUS_RATE_SUM (port / 24)
  let was := Fld.PRT_MODE_EN.onIn old
  let en := Fld.PRT_MODE_EN.onIn v
  if !was && en then
    ((s1.wr Fld.PRT_PIPE_STATUS_RATE_SUM (sum + typeUnits t) (port / 24)).wrLanes (lanesOf port t) Fld.LNE_STATUS_PRBS_LOCK 0).enterTraining port
  else if was && !en then
    (s1.wr Fld.PRT_PIPE_STATUS_RATE_SUM (sum - typeUnits t0) (port / 24)).disablePort port
  else s1.refreshIdle port

/-- PRT_MODE_WRITE (R43): configures, enables or disables a port. -/
def execPrtModeWrite (who : Agent) (port : Nat) (v : Word) (s : State) : Host.Outcome State Fault Refusal :=
  let old := s.rdReg Reg.PRT_MODE (port / 24) (port % 24) 0
  .next (s.busWrite who Reg.PRT_MODE (port / 24) (port % 24) 0 v (s.modeBad port v) (fun t => t.modeEffect port old v))

/-- PORT_RESET (R821): a PRT_MODE write with PORT_RESET set; the port's PCS, FEC and ebb state are cleared and an UP port
goes down at once. -/
def execPortReset (who : Agent) (port : Nat) (v : Word) (s : State) : Host.Outcome State Fault Refusal :=
  let old := s.rdReg Reg.PRT_MODE (port / 24) (port % 24) 0
  .next (s.busWrite who Reg.PRT_MODE (port / 24) (port % 24) 0 v (s.modeBad port v) (fun t =>
    let t1 := (t.modeEffect port old v).dropLink port
    let t2 := t1.setPort port { t1.port port with ebb := Ebb.init, pcsUp := false }
    if t2.onP Fld.PRT_MODE_EN port && t2.rdP Fld.PRT_LINK_STATUS_STATE port == 1 then t2.enterTraining port else t2))

/-- PORT_DISABLE_DRAIN_EXPIRY (R52): frames that the disable found in the ingress FIFO and that are still there 10 µs after it are discarded;
frames of a later enable are not. -/
def execPortDisableDrainExpiry (port : Nat) (s : State) : Host.Outcome State Fault Refusal :=
  match (s.port port).drainUntil with
  | some t =>
    if t ≤ s.now then
      let s1 := s.setPort port { s.port port with drainUntil := none }
      .next (s1.dropFifo port .RX_DISCARD_DISABLE (fun n => decide (n < (s.port port).drainPkt)))
    else .next s
  | none => .next s

/-! ### Auto-negotiation and training (R53 to R56) -/

/-- A port in TRAINING runs auto-negotiation or training. -/
def State.negotiating (s : State) (port : Nat) : Bool :=
  s.rdP Fld.PRT_LINK_STATUS_STATE port == 1 && s.onP Fld.PRT_MODE_AN_EN port && !(s.port port).trained

/-- A failed attempt (R55): counted, EVT 3.2 once at the limit, and negotiation restarts. -/
def State.attemptFails (s : State) (port : Nat) : State :=
  let p := s.port port
  let lim := s.rdP Fld.PRT_LINK_CFG_AN_RETRY_LIMIT port
  let n := p.anFails + 1
  let hit := lim != 0 && decide (lim ≤ n) && !p.anRaised
  let s1 := (s.bump .AN_FAIL port).setPort port { p with anFails := n, anStart := s.now, anRaised := p.anRaised || hit }
  if hit then s1.raise Ev.AN_FAIL_LIMIT .port port else s1

/-- AN_PAGE_RECEIVE (R53, R56, R75): a page with a reserved bit set or that forms no valid message is ignored and counted.  A valid one names
the port types the partner advertises, and the attempt fails when this port's own is not among them: there is no fallback. -/
def execAnPageReceive (port : Nat) (valid : Bool) (page : AnPage) (s : State) : Host.Outcome State Fault Refusal :=
  if !s.negotiating port then .next s
  else if !valid then .next (s.bump .AN_BAD_PAGE port)
  else if !page.types.contains (s.portType port) then .next (s.attemptFails port)
  else .next (s.setPort port { s.port port with eee := page.eee && s.onP Fld.PRT_MODE_EEE_EN port })

/-- AN_TRAINING_COMPLETE (R53, R822). -/
def execAnTrainingComplete (port : Nat) (s : State) : Host.Outcome State Fault Refusal :=
  .next (if s.negotiating port then s.setPort port { s.port port with trained := true } else s)

/-- AN_ATTEMPT_FAIL (R53, R55). -/
def execAnAttemptFail (port : Nat) (s : State) : Host.Outcome State Fault Refusal :=
  .next (if s.negotiating port then s.attemptFails port else s)

/-- LT_TIMEOUT in core clocks: × 100 ms, or 500 ms, 3 s or 6 s by lane rate when 0 (Table 2.16). -/
def State.ltTimeout (s : State) (port : Nat) : Nat :=
  let c := s.rdP Fld.PRT_LINK_CFG_LT_TIMEOUT port
  let r := typeLaneRate (s.portType port)
  if c ≠ 0 then c * 100 * msClk
  else if r < 2 then 500 * msClk else if r < 4 then 3000 * msClk else 6000 * msClk

/-- LT_TIMEOUT (R55): training has not completed in time.  The time runs from the start of the attempt, so that the page exchange counts
(DESIGN CHOICE, log entry 97: R55 names no start). -/
def execLtTimeout (port : Nat) (s : State) : Host.Outcome State Fault Refusal :=
  .next (if s.negotiating port && decide ((s.port port).anStart + s.ltTimeout port ≤ s.now) then s.attemptFails port else s)

/-! ### Link state (R57 to R61) -/

/-- PCS_LINK_UP (R777, R822): a TRAINING port that is not in the far loopback, whose starting point has passed and whose PLL runs its family,
enters CHECKING; PCS link up means that no fault condition stands (Table 2.4). -/
def execPcsLinkUp (port : Nat) (s : State) : Host.Outcome State Fault Refusal :=
  let t := s.portType port
  let ready := s.rdP Fld.PRT_LINK_STATUS_STATE port == 1 && s.rd Fld.DGN_PORT_LOOP_MODE 0 port != 3 && s.pllReady port (rateFamily (typeLaneRate t))
    && (!s.onP Fld.PRT_MODE_AN_EN port || (s.port port).trained)
  if ready then
    let ls := s.portLanes port
    let s1 := (((s.enterLink port 2).wrLanes ls Fld.LNE_STATUS_SIG_DET 1).wrLanes ls Fld.LNE_STATUS_CDR_LOCK 1).wrLanes ls
      Fld.LNE_STATUS_BLOCK_LOCK 1
    let s2 := ls.foldl (fun u l => (u.wrL Fld.LNE_STATUS_SNR l (freeNat u.fresh % 256)).draw) s1
    .next ((s2.setPort port { s2.port port with pcsUp := true }).noFaults port)
  else .next s

/-- PCS_LINK_LOST (R58): CHECKING returns to TRAINING. -/
def execPcsLinkLost (port : Nat) (s : State) : Host.Outcome State Fault Refusal :=
  .next (if s.rdP Fld.PRT_LINK_STATUS_STATE port = 2 then s.enterTraining port else s)

/-- UP_DEBOUNCE_EXPIRY (R58): PCS link up has held for UP_DEBOUNCE × 10 µs; 0 means the next clock. -/
def execUpDebounceExpiry (port : Nat) (s : State) : Host.Outcome State Fault Refusal :=
  let d := max 1 (s.rdP Fld.PRT_LINK_CFG_UP_DEBOUNCE port * 10 * usClk)
  .next (if s.rdP Fld.PRT_LINK_STATUS_STATE port = 2 ∧ (s.port port).since + d ≤ s.now then s.enterUp port else s)

/-- LINK_FAULT (R58, R59): a fault condition appears.  CHECKING loses PCS link up by it; an UP port goes down at once with DOWN_DELAY 0.
DOWN_DELAY runs from the first of overlapping conditions (DESIGN CHOICE, log entry 98). -/
def execLinkFault (port fault : Nat) (s : State) : Host.Outcome State Fault Refusal :=
  if s.rdP Fld.PRT_LINK_STATUS_STATE port = 0 then .next s
  else
    let p := s.port port
    let since := match p.faultSince with | some t => t | none => s.now
    let p1 := { p with faults := if p.faults.contains fault then p.faults else fault :: p.faults, faultSince := some since }
    let s1 := (s.setPort port p1).showFaults port
    if s1.rdP Fld.PRT_LINK_STATUS_STATE port = 2 then .next (s1.enterTraining port)
    else if s1.portUp port && s1.rdP Fld.PRT_LINK_CFG_DOWN_DELAY port == 0 then .next (s1.linkDown port) else .next s1

/-- A fault of an UP port has persisted for DOWN_DELAY µs: the link is declared down (R59). -/
def State.downIfDue (s : State) (port : Nat) : State :=
  match (s.port port).faultSince with
  | some t => if s.portUp port && decide (t + s.rdP Fld.PRT_LINK_CFG_DOWN_DELAY port * usClk ≤ s.now) then s.linkDown port else s
  | none => s
/-- LINK_FAULT_CLEAR (R59): a condition clears; with none left a link-down that is not due yet is abandoned.  DOWN_DELAY runs over
overlapping conditions as over one (DESIGN CHOICE, log entry 98: R59 speaks of one condition). -/
def execLinkFaultClear (port fault : Nat) (s : State) : Host.Outcome State Fault Refusal :=
  let s1 := s.downIfDue port
  let p := s1.port port
  let rest := p.faults.filter (fun f => f != fault)
  let p1 := { p with faults := rest, faultSince := if rest.isEmpty then none else p.faultSince }
  .next ((s1.setPort port p1).showFaults port)
/-- DOWN_DELAY_EXPIRY (R59): a fault has persisted for DOWN_DELAY µs. -/
def execDownDelayExpiry (port : Nat) (s : State) : Host.Outcome State Fault Refusal := .next (s.downIfDue port)

/-! ### Lane ebb (R63 to R73) -/

/-- EBB_HELLO_TIMER (R64): a HELLO every 1 ms, up to 10; on a port with MACsec the first one waits for its channel. -/
def execEbbHelloTimer (port : Nat) (s : State) : Host.Outcome State Fault Refusal :=
  let e := (s.port port).ebb
  let ready := !s.onP Fld.MSC_PORT_CFG_EN port || s.onP Fld.MSC_SA_STATUS_CP_OPERATIONAL port
  if s.portUp port && s.onP Fld.PRT_MODE_EBB_EN port && !s.ebbInhibited port && ready && e.helloLeft != 0 && !e.heard
      && decide (e.helloAt ≤ s.now) then
    let seq := (e.seq + 1) % 65536
    let from_ := match e.helloFrom with | some t => some t | none => some s.now
    .next ((s.setEbb port { e with seq := seq, helloLeft := e.helloLeft - 1, helloAt := s.now + msClk,
                                   helloFrom := from_ }).sendEbb port 1 seq (s.ebbWidth port))
  else .next s

/-- A received ebb message is bad (R66). -/
def State.ebbBad (s : State) (port : Nat) (m : BitVec 128) : Bool :=
  let kind := EbbMsg.TYPE.get m
  let cur := EbbMsg.CUR_WIDTH.get m
  let tgt := EbbMsg.TARGET_WIDTH.get m
  let e := (s.port port).ebb
  let own := fun (k : Nat) => match e.req with | some r => (k == 0 || r.kind == k) && r.seq == EbbMsg.SEQ.get m | none => false
  let peer := match e.peerReq with | some r => r.seq == EbbMsg.SEQ.get m | none => false
  EbbMsg.VERSION.get m != 1 || kind == 0 || decide (7 < kind) || m.toNat / 2 ^ 37 != 0
    || decide (s.fullWidth port < tgt)
    || (kind == 2 && tgt + 1 != cur) || (kind == 4 && tgt != s.fullWidth port)
    || (kind == 3 && !own 2) || (kind == 5 && !own 4) || (kind == 7 && !own 0) || (kind == 6 && !peer)

/-- An ebb message acts (R64 to R69).  A HELLO puts lane ebb in use when it carries EBB_CAP (DESIGN CHOICE, log entry 91: R63 asks only that
the partner has identified itself). -/
def State.ebbAct (s : State) (port : Nat) (m : BitVec 128) : State :=
  let e := (s.port port).ebb
  let seq := EbbMsg.SEQ.get m
  let tgt := EbbMsg.TARGET_WIDTH.get m
  match EbbMsg.TYPE.get m with
  | 1 =>
    let cap := EbbMsg.EBB_CAP.on m
    let inTime := match e.helloFrom with | some t => decide (s.now ≤ t + 10 * msClk) | none => true
    let s1 := (s.setEbb port { e with heard := e.heard || cap }).wrP Fld.PRT_LINK_STATUS_PARTNER_DALZIA port 1
    if cap && inTime && s.ebbAble port then
      (s1.wrP Fld.PRT_LINK_STATUS_EBB_ACTIVE port 1).refreshIdle port
    else s1
  | 2 =>
    if s.onP Fld.PRT_LINK_STATUS_EBB_ACTIVE port then
      (s.setEbb port { e with peerReq := some ⟨2, seq, tgt, s.now⟩ }).sendEbb port 3 seq tgt
    else s.sendEbb port 7 seq tgt
  | 3 => match e.req with | some r => s.agreeSwitch port r | none => s
  | 4 =>
    if s.onP Fld.PRT_LINK_STATUS_EBB_ACTIVE port then s.setEbb port { e with peerReq := some ⟨4, seq, tgt, s.now⟩ }
    else s.sendEbb port 7 seq tgt
  | 5 => match e.req with | some r => s.agreeSwitch port r | none => s
  | 6 =>
    match e.peerReq with
    | some r => s.setEbb port { e with peerReq := none, peerSwitch := some r.target }
    | none => s
  | _ => s.setEbb port { e with req := none }

/-- EBB_FRAME_RECEIVE (R66): the oldest received ebb message is discarded as bad, or acted on. -/
def execEbbFrameReceive (port : Nat) (s : State) : Host.Outcome State Fault Refusal :=
  let e := (s.port port).ebb
  match e.inbox with
  | [] => .next s
  | m :: r =>
    let s1 := s.setEbb port { e with inbox := r }
    if s1.ebbBad port m then .next ((s1.bump .EBB_BAD_MSG port).raise Ev.EBB_BAD_MSG .port port)
    else .next (s1.ebbAct port m)

/-- EBB_SHED (R67, R68): one step down, when the transmit rate over WINDOW stayed below SHED_PCT of the narrower rate. -/
def execEbbShed (port : Nat) (s : State) : Host.Outcome State Fault Refusal :=
  let p := s.port port
  let e := p.ebb
  let w := s.ebbWidth port
  let win := 2 ^ s.rdP Fld.PRT_EBB_CFG_WINDOW port * 100 * usClk
  let sent := (p.txLog.filter (fun x => decide (s.now < x.1 + win))).foldl (fun a x => a + x.2) 0
  let narrow := typeUnits (s.portType port) * 2 ^ (w - 1) / max 1 (typeLanes (s.portType port))
  let quiet := decide (sent * 700 < s.rdP Fld.PRT_EBB_CFG_SHED_PCT port * narrow * 10 * win)
  let held := match e.lastRestore with
    | some t => decide (s.now < t + 2 ^ s.rdP Fld.PRT_EBB_CFG_HOLDOFF port * msClk)
    | none => false
  if s.portUp port && s.onP Fld.PRT_LINK_STATUS_EBB_ACTIVE port && e.req.isNone && e.switchTo.isNone
      && decide (s.rdP Fld.PRT_EBB_CFG_MIN_WIDTH port < w) && decide (p.since + win ≤ s.now) && quiet && !held
      && !s.atRestoreMark port then
    .next (s.openEbb port 2 (w - 1))
  else .next s

/-- EBB_RESTORE_TRIGGER (R69): a queue at RESTORE_MARK starts a restore to full width. -/
def execEbbRestoreTrigger (port : Nat) (s : State) : Host.Outcome State Fault Refusal :=
  .next (if s.portUp port && decide (s.ebbWidth port < s.fullWidth port) && s.atRestoreMark port then s.startRestore port else s)

/-- EBB_REQUEST_TIMEOUT (R66): a request without acknowledgement in 100 µs is abandoned; a waiting restore runs. -/
def execEbbRequestTimeout (port : Nat) (s : State) : Host.Outcome State Fault Refusal :=
  let e := (s.port port).ebb
  match e.req with
  | some r =>
    if r.at_ + 100 * usClk ≤ s.now then
      let s1 := s.setEbb port { e with req := none }
      .next (if e.restoreDue then s1.startRestore port else s1)
    else .next s
  | none => .next s

/-- EBB_WAKE_TIMEOUT (R71): no WAKE_READY within 50 µs of WAKE_REQ: the port goes down and retrains at full width. -/
def execEbbWakeTimeout (port : Nat) (s : State) : Host.Outcome State Fault Refusal :=
  match (s.port port).ebb.req with
  | some r =>
    .next (if r.kind = 4 ∧ r.at_ + 50 * usClk ≤ s.now then (s.dropLink port).raise Ev.EBB_RESTORE_FAIL .port port else s)
  | none => .next s

/-- CDR_LOCK_REGAINED (R69, Table 2.6): after a WAKE_REQ the receivers have regained lock, and WAKE_READY is sent. -/
def execCdrLockRegained (port : Nat) (s : State) : Host.Outcome State Fault Refusal :=
  match (s.port port).ebb.peerReq with
  | some r =>
    if r.kind = 4 then
      .next ((s.wrLanes (s.portLanes port) Fld.LNE_STATUS_CDR_LOCK 1).sendEbb port 5 r.seq r.target)
    else .next s
  | none => .next s

/-- EBB_WIDTH_SWITCH (R67, R69): at the next alignment marker after SWITCH each announced width takes effect; a width not yet announced
waits. -/
def execEbbWidthSwitch (port : Nat) (s : State) : Host.Outcome State Fault Refusal :=
  let e := (s.port port).ebb
  let s1 := match e.peerSwitch with
    | some w => s.setEbb port { e with peerSwitch := none, rxWidth := w }
    | none => s
  match e.switchTo with
  | some sw =>
    if !sw.sent then .next s1
    else
    let w := sw.target
    let up := decide (s.ebbWidth port < w)
    let e1 := (s1.port port).ebb
    let s2 := (s1.setEbb port { e1 with switchTo := none, lastRestore := if up then some s.now else e1.lastRestore }).wrP
      Fld.PRT_LINK_STATUS_ACTIVE_LANES port (2 ^ w)
    let s3 := (s.portLanes port).foldl (fun t l => t.wrL Fld.LNE_STATUS_EBBED l (decide (2 ^ w ≤ l - port)).toNat) s2
    let s4 := s3.bump (if up then .EBB_RESTORES else .EBB_SHEDS) port
    .next (if e.restoreDue then s4.startRestore port else s4)
  | none => .next s1

/-! ### Low-power idle (R74, R75) -/

/-- A frame of a port waits to be sent. -/
def State.portHasFrame (s : State) (port : Nat) : Bool :=
  let p := s.port port
  !p.gen.isEmpty || !p.gte.queue.isEmpty
    || (s.portQueues port).any (fun q => !(s.queue (port / 24) q).items.isEmpty)

/-- LPI_ENTRY (R74, R75): the transmit queues have been empty for IDLE_ENTRY µs.  With `lpi.rx` it is the partner's low-power-idle signalling that
starts: idle, counted where the port's own low-power idle is not active. -/
def execLpiEntry (lpi : LpiAt) (s : State) : Host.Outcome State Fault Refusal :=
  let port := lpi.port
  let p := s.port port
  if lpi.rx then .next (if s.portUp port && !s.onP Fld.PRT_LINK_STATUS_EEE_ACTIVE port then s.bump .LPI_UNEXPECTED port else s)
  else if s.portUp port && s.lpiAble port && p.lpi.isNone && p.tx.isNone && !s.portHasFrame port
      && decide (max p.txEnd p.wakeUntil + s.rdP Fld.PRT_EEE_CFG_IDLE_ENTRY port * usClk ≤ s.now) then
    .next (((s.setPort port { p with lpi := some s.now }).wrLanes (s.portLanes port) Fld.LNE_STATUS_LPI 1).bump .LPI_ENTRIES port)
  else .next s

/-- LPI_EXIT (R74): a frame to send ends low-power idle; the port waits the larger of TW and the 802.3 default. -/
def execLpiExit (port : Nat) (s : State) : Host.Outcome State Fault Refusal :=
  let p := s.port port
  match p.lpi with
  | some _ =>
    if s.portHasFrame port then
      let wake := max (s.rdP Fld.PRT_EEE_CFG_TW port * usClk) (lpiWake (s.portType port))
      .next ((s.setPort port { p with wakeUntil := s.now + wake }).endLpi port)
    else .next s
  | none => .next s

/-! ### PRBS and QUIET_N (R62, R76, R77, R800) -/

/-- A lane may generate or check PRBS: it is OFF or its port is DISABLED (R76). -/
def State.prbsIdle (s : State) (lane : Nat) : Bool :=
  let mode := s.rdL Fld.LNE_CTRL_MODE lane
  mode == 0 || (mode == 1 && (match s.laneOwner lane with | some p => s.rdP Fld.PRT_LINK_STATUS_STATE p == 0 | none => true))
/-- A PRBS enable is not allowed: the lane is neither OFF nor of a DISABLED port, its pattern does not fit its rate, or its quad is not
usable (R76, R78, R79).  An OFF lane has the rate of LNE_CTRL, and a pattern is checked only with an enable (DESIGN CHOICE, log entry 99). -/
def State.prbsBad (s : State) (lane : Nat) (v : Word) : Bool :=
  let on := Fld.LNE_PRBS_CTRL_TX_EN.onIn v || Fld.LNE_PRBS_CTRL_RX_EN.onIn v
  let rate := match s.laneOwner lane with
    | some p => typeLaneRate (s.portType p)
    | none => s.rdL Fld.LNE_CTRL_RATE lane
  let pat := Fld.LNE_PRBS_CTRL_PATTERN.of v
  on && (!s.prbsIdle lane || !s.quadReady lane || (decide (1 ≤ pat ∧ pat ≤ 5) && rateFamily rate == 1) || (decide (6 ≤ pat) && rateFamily rate == 0))

/-- A write of LNE_PRBS_CTRL: ERR_CLEAR clears the errors, and a checker that is off holds no lock (R76, R77). -/
def State.prbsWrite (s : State) (who : Agent) (lane : Nat) (v : Word) : State :=
  s.busWrite who Reg.LNE_PRBS_CTRL (lane / 24) (lane % 24) 0 v (s.prbsBad lane v) (fun t =>
    let u := if Fld.LNE_PRBS_CTRL_ERR_CLEAR.onIn v then t.wrL Fld.LNE_PRBS_ERRS_ERRORS lane 0 else t
    if Fld.LNE_PRBS_CTRL_RX_EN.onIn v then u else u.wrL Fld.LNE_STATUS_PRBS_LOCK lane 0)
/-- PRBS_ERR_CLEAR (R77): an LNE_PRBS_CTRL write with ERR_CLEAR. -/
def execPrbsErrClear (who : Agent) (lane : Nat) (v : Word) (s : State) : Host.Outcome State Fault Refusal := .next (s.prbsWrite who lane v)

/-- PRBS_ERROR (R77): the checker reports its lock and some bit errors; the first since the last clear raises EVT 2.3. -/
def execPrbsError (lane : Nat) (locked : Bool) (n : Nat) (s : State) : Host.Outcome State Fault Refusal :=
  if s.rdL Fld.LNE_PRBS_CTRL_RX_EN lane = 0 || s.rdL Fld.LNE_PRBS_CTRL_PATTERN lane == 0 || !s.prbsIdle lane then .next s
  else
    let s1 := s.wrL Fld.LNE_STATUS_PRBS_LOCK lane locked.toNat
    if !locked || n == 0 then .next s1
    else
      let e := s1.rdL Fld.LNE_PRBS_ERRS_ERRORS lane
      let s2 := s1.wrL Fld.LNE_PRBS_ERRS_ERRORS lane (min 0xFFFFFFFF (e + n))
      .next (if e = 0 then s2.raise Ev.PRBS_ERR .lane lane else s2)

/-- QUIET_N_FALL (R35, R800): a low of 10 ns or longer squelches every transmitter; below 5 ns it is ignored; between the
two it may do either, which is a free value. -/
def execQuietNFall (ns : Nat) (s : State) : Host.Outcome State Fault Refusal :=
  if ns < 5 then .next s
  else
    let acts := if 10 ≤ ns then true else freeBool s.fresh
    let s1 := if 10 ≤ ns then s else s.draw
    .next (if acts then { s1 with pins := { s1.pins with quietN := false, quietSeen := false } } else s1)

/-- What a lane's transmitter puts out (Table 2.4, R41, R53, R62, R67, R74, R76, R822): electrical idle, a PRBS pattern, auto-negotiation
that advertises one type and EEE with training, idles, Remote Fault, low-power idle, the port's frames, or a bundle's words. -/
def State.laneOut (s : State) (lane : Nat) : LaneOut :=
  let prbs := if s.onL Fld.LNE_PRBS_CTRL_TX_EN lane && s.rdL Fld.LNE_PRBS_CTRL_PATTERN lane != 0 then .prbs (s.rdL Fld.LNE_PRBS_CTRL_PATTERN lane)
    else LaneOut.electricalIdle
  match s.rdL Fld.LNE_CTRL_MODE lane, s.laneOwner lane with
  | 0, _ => if s.txOn then prbs else .electricalIdle
  | 2, _ => if s.txOn then .fleit else .electricalIdle
  | _, none => .electricalIdle
  | _, some p =>
    let t := s.portType p
    if !s.txOn then .electricalIdle
    else if s.rdP Fld.PRT_LINK_STATUS_STATE p = 0 then prbs
    else if !s.pllReady p (rateFamily (typeLaneRate t)) then .electricalIdle
    else if s.portUp p then
      if s.activeLanes p ≤ lane - p then .electricalIdle else if (s.port p).lpi.isSome then .lowPowerIdle else .frames
    else if s.negotiating p then .negotiation t (s.onP Fld.PRT_MODE_EEE_EN p)
    else if s.rdP Fld.PRT_LINK_STATUS_STATE p = 1 && (s.port p).faults.contains 0 then .remoteFault
    else .idles
/-- QUIET_N_RISE (R62): each transmitter resumes the output of its port's current state. -/
def execQuietNRise (s : State) : Host.Outcome State Fault Refusal :=
  .next { s with pins := { s.pins with quietN := true, quietSeen := true } }

end Sys2Proof.Machine
end

