-- ==== Sys2Proof/Machine/Lanes.lean ====
section
/-! DEFINITION. The commands of lanes and octets (spec 02, R39 to R42, R59, R80, R821). -/
namespace Sys2Proof.Machine

open Sys2Proof.Config

/-- A lane fails: a Fleit lane under R634, a lane of a port takes it down (R59, R821). -/
def State.laneFails (s : State) (lane : Nat) : State :=
  if s.rdL Fld.LNE_CTRL_MODE lane = 2 then
    match s.bundleOfLane lane with
    | some b => s.fleitLaneFail b lane
    | none => s
  else
    match s.laneOwner lane with
    | some p => s.dropLink p
    | none => s
/-- EVT 2.0 of a lane: contained at its port, or at the lane in a bundle (Table 2.8). -/
def State.raiseLos (s : State) (lane : Nat) : State :=
  if s.rdL Fld.LNE_CTRL_MODE lane = 2 then s.raise Ev.LANE_LOS .lane lane else s.raise Ev.LANE_LOS .port ((s.laneOwner lane).getD lane) lane
/-- A lane's PCS and CDR are reset: neither holds lock, and a lane that is not OFF loses the lock it had with EVT 2.0 (R80). -/
def State.resetLane (s : State) (lane : Nat) : State :=
  let lost := s.onL Fld.LNE_STATUS_CDR_LOCK lane && s.rdL Fld.LNE_CTRL_MODE lane != 0
  let t := (s.wrL Fld.LNE_STATUS_CDR_LOCK lane 0).wrL Fld.LNE_STATUS_BLOCK_LOCK lane 0
  (if lost then t.raiseLos lane else t).laneFails lane
/-- The bundle whose rate a lane's RATE gives: an enabled one that starts at it. -/
def State.rateBundle (s : State) (lane : Nat) : Option Nat :=
  (List.range 4).find? (fun b => s.on Fld.FLT_BUNDLE_CFG_EN 0 b && s.bundlePort b == lane && s.rd Fld.FLT_BUNDLE_CFG_LANES 0 b != 0)
/-- What a lane's rate code adds to its pipeline's sum through a bundle (R46, R624). -/
def State.laneUnits (s : State) (lane rate : Nat) : Nat :=
  match s.rateBundle lane with
  | some b => (s.rd Fld.FLT_BUNDLE_CFG_LANES 0 b - 1) * [4, 10, 20, 40, 80].getD rate 0
  | none => 0
/-- The conditions that reject an LNE_CTRL write (R40, R42, R46, R78, R79). -/
def State.laneBad (s : State) (lane : Nat) (v : Word) : Bool :=
  let m := Fld.LNE_CTRL_MODE.of v
  let was := s.rdL Fld.LNE_CTRL_MODE lane
  let rate := Fld.LNE_CTRL_RATE.of v
  let sum := s.rd Fld.PRT_PIPE_STATUS_RATE_SUM (lane / 24) - s.laneUnits lane (s.rdL Fld.LNE_CTRL_RATE lane) + s.laneUnits lane rate
  (m != was && ((s.laneOwner lane).isSome || m == 1))
    || Sparse.get s.rst.badQuads (lane / 4) false
    || (m == 2 && (!s.quadReady lane || rateFamily rate != s.rd Fld.LNE_OCTET_CTRL_FAMILY (lane / 24) (lane / 8 % 3)))
    || (rate != s.rdL Fld.LNE_CTRL_RATE lane && !s.on Fld.PRT_PIPE_CFG_OVERSUB (lane / 24) && decide (1400 < sum))
/-- A write of LNE_CTRL of a lane. -/
def State.laneWrite (s : State) (who : Agent) (lane : Nat) (v : Word) : State :=
  let old := s.rdReg Reg.LNE_CTRL (lane / 24) (lane % 24) 0
  s.busWrite who Reg.LNE_CTRL (lane / 24) (lane % 24) 0 v (s.laneBad lane v) (fun t =>
    let m := Fld.LNE_CTRL_MODE.of v
    let sum := t.rd Fld.PRT_PIPE_STATUS_RATE_SUM (lane / 24)
    let units := sum - t.laneUnits lane (Fld.LNE_CTRL_RATE.of old) + t.laneUnits lane (Fld.LNE_CTRL_RATE.of v)
    let t1 := if t.laneUnits lane 0 = 0 then t else t.wr Fld.PRT_PIPE_STATUS_RATE_SUM units (lane / 24)
    let t2 := if m = 2 then (t1.wrL Fld.LNE_STATUS_RATE lane (Fld.LNE_CTRL_RATE.of v)).wrL Fld.LNE_STATUS_PRBS_LOCK lane 0 else t1
    let gone := Fld.LNE_CTRL_MODE.of old == 2 && m != 2
    let t3 := if gone then (match t2.bundleOfLane lane with | some b => t2.fleitLaneFail b lane | none => t2) else t2
    if Fld.LNE_CTRL_LANE_RESET.onIn v then t3.resetLane lane else t3)
/-- LANE_RESET (R821): an LNE_CTRL write with LANE_RESET. -/
def execLaneReset (who : Agent) (lane : Nat) (v : Word) (s : State) : Host.Outcome State Fault Refusal := .next (s.laneWrite who lane v)

/-- The lanes of an octet. -/
def octetLanes (octet : Nat) : List Nat := (List.range 8).map (fun j => 8 * octet + j)
/-- A write of LNE_OCTET_CTRL of an octet: FAMILY changes only while every lane is OFF; OCTET_RESET resets the PLL, which will relock to
FAMILY, and the lanes. -/
def State.octetWrite (s : State) (who : Agent) (octet : Nat) (v : Word) : State :=
  let i := octet / 3
  let j := octet % 3
  let changes := Fld.LNE_OCTET_CTRL_FAMILY.of v != s.rd Fld.LNE_OCTET_CTRL_FAMILY i j
  let busy := (octetLanes octet).any (fun l => s.rdL Fld.LNE_CTRL_MODE l != 0)
  s.busWrite who Reg.LNE_OCTET_CTRL i j 0 v (changes && busy) (fun t =>
    if Fld.LNE_OCTET_CTRL_OCTET_RESET.onIn v then
      let bit := decide (t.rd Fld.LHT_SYNCE_OCTETS_MASK / 2 ^ octet % 2 = 1)
      let clk := { t.clk with octetFam := Sparse.insert t.clk.octetFam octet (Fld.LNE_OCTET_CTRL_FAMILY.of v),
                              octetSynce := Sparse.put t.clk.octetSynce octet bit false }
      let u := ({ t with clk := clk }).wr Fld.LNE_OCTET_CTRL_PLL_LOCK 0 i j
      (octetLanes octet).foldl (fun (x : State) l => x.resetLane l) u
    else t)
/-- OCTET_RESET (R41). -/
def execOctetReset (who : Agent) (octet : Nat) (v : Word) (s : State) : Host.Outcome State Fault Refusal := .next (s.octetWrite who octet v)
/-- OCTET_PLL_RELOCK (R41, R79): the PLL, in the octet's lower quad, runs the family of the last octet reset, and the octet's enabled ports train again. -/
def execOctetPllRelock (octet : Nat) (s : State) : Host.Outcome State Fault Refusal :=
  let i := octet / 3
  let j := octet % 3
  if s.on Fld.LNE_OCTET_CTRL_PLL_LOCK i j || !s.quadReady (8 * octet) then .next s
  else
    let fam := Sparse.get s.clk.octetFam octet (s.rd Fld.LNE_OCTET_CTRL_PLL_FAMILY i j)
    let t := { s with clk := { s.clk with octetFam := Sparse.erase s.clk.octetFam octet } }
    let u := (t.wr Fld.LNE_OCTET_CTRL_PLL_LOCK 1 i j).wr Fld.LNE_OCTET_CTRL_PLL_FAMILY fam i j
    .next ((octetLanes octet).foldl (fun (x : State) p =>
      if x.onP Fld.PRT_MODE_EN p && x.rdP Fld.PRT_LINK_STATUS_STATE p == 1 then x.enterTraining p else x) u)
/-- OCTET_PLL_UNLOCK (R41, R80): the octet's ports go down with their lanes. -/
def execOctetPllUnlock (octet : Nat) (s : State) : Host.Outcome State Fault Refusal :=
  let i := octet / 3
  let j := octet % 3
  if s.on Fld.LNE_OCTET_CTRL_PLL_LOCK i j then
    let t := (s.wr Fld.LNE_OCTET_CTRL_PLL_LOCK 0 i j).raise Ev.OCTET_PLL_UNLOCK .octet octet
    .next ((octetLanes octet).foldl (fun (x : State) l => x.resetLane l) t)
  else .next s
/-- LANE_LOS (R59, R60, R80): a lane that is not OFF loses CDR lock, with its signal or without. -/
def execLaneLos (lane : Nat) (signal : Bool) (s : State) : Host.Outcome State Fault Refusal :=
  let m := s.rdL Fld.LNE_CTRL_MODE lane
  if m = 0 then .next s
  else
    let t := (if signal then s.wrL Fld.LNE_STATUS_SIG_DET lane 0 else s).wrL Fld.LNE_STATUS_CDR_LOCK lane 0
    .next ((t.raiseLos lane).laneFails lane)

end Sys2Proof.Machine
end

