-- ==== Sys2Proof/Machine/Mailbox.lean ====
section
/-! DEFINITION. The host mailbox (spec 21, R610 to R618): fetching, ordering, aborting and answering commands, counter reads and
notifications. -/
namespace Sys2Proof.Machine

open Sys2Proof.Config

/-! ### Opcodes, rights and serial domains (Table 21.4) -/

/-- The bit of RND_RIGHTS an opcode needs (Table 21.4, Table 23.7): none for COUNTER_READ, BUF_READ and ABORT. -/
def rightOf (op : Nat) : Option Nat :=
  if op = opTaskMove ∨ op = opPatchLoad then some 7
  else if op = opKeyWrite then some 0
  else if 0x10 ≤ op ∧ op ≤ 0x13 then some 3
  else if 0x18 ≤ op ∧ op ≤ 0x1A then some 9
  else if 0x20 ≤ op ∧ op ≤ 0x23 then some 12
  else if op = opLrnFlush then some 10
  else if 0x30 ≤ op ∧ op ≤ 0x35 then some 4
  else if 0x38 ≤ op ∧ op ≤ 0x3C then some 14
  else if 0x40 ≤ op ∧ op ≤ 0x42 then some 2
  else if op = opMcGroupWrite ∨ op = opQueueMove then some 11
  else if op = opExpWrite then some 5
  else if op = opHbRepair then some 6
  else none
/-- An opcode of Table 21.4. -/
def knownOp (op : Nat) : Bool := op == opCounterRead || op == opBufRead || op == opAbort || (rightOf op).isSome
/-- The serial domains of a command (Table 21.4): a class, and the pipeline, port, record, group, session, slice or stack in it.  A change
that acts on P0 to P3 is in the domain of each. -/
def serialKeys (op pipe : Nat) (all : Bool) (dom : Nat) : List (Nat × Nat) :=
  let pipes := fun (k : Nat) => if all then [(k, 0), (k, 1), (k, 2), (k, 3)] else [(k, pipe)]
  if op = opTaskMove ∨ op = opPatchLoad ∨ (0x40 ≤ op ∧ op ≤ 0x42) then [(1, 0)]
  else if op = opKeyWrite then [(2, dom)]
  else if 0x10 ≤ op ∧ op ≤ 0x13 then pipes 3
  else if 0x18 ≤ op ∧ op ≤ 0x1A then pipes 4
  else if 0x20 ≤ op ∧ op ≤ 0x23 then [(5, pipe)]
  else if op = opLrnFlush then [(6, pipe)]
  else if 0x30 ≤ op ∧ op ≤ 0x31 then [(7, dom)]
  else if 0x32 ≤ op ∧ op ≤ 0x35 then [(8, dom)]
  else if 0x38 ≤ op ∧ op ≤ 0x3C then [(9, dom)]
  else if op = opMcGroupWrite then [(10, dom)]
  else if op = opQueueMove then [(11, pipe)]
  else if op = opExpWrite then [(12, pipe)]
  else if op = opHbRepair then [(13, dom)]
  else []
/-- The serial domains of a command in flight. -/
def MbxCmd.keys (c : MbxCmd) : List (Nat × Nat) := serialKeys c.opcode c.pipe c.all c.domain

/-! ### Fetching (R611 to R615) -/

/-- Entries of a mailbox ring. -/
def State.cmdSize (s : State) : Nat := 2 ^ s.rd Fld.KPR_MBX_CMD_SIZE_LOG2
/-- See `State.cmdSize`. -/
def State.rplSize (s : State) : Nat := 2 ^ s.rd Fld.KPR_MBX_RPL_SIZE_LOG2
/-- Commands posted and not fetched. -/
def State.cmdWaiting (s : State) : Nat := (s.rd Fld.KPR_MBX_CMD_TAIL_COUNT + 2 ^ 32 - s.rd Fld.KPR_MBX_CMD_HEAD_COUNT) % 2 ^ 32
/-- Free entries of the reply ring. -/
def State.rplFree (s : State) : Nat :=
  s.rplSize - (s.rd Fld.KPR_MBX_RPL_TAIL_COUNT + 2 ^ 32 - s.rd Fld.KPR_MBX_RPL_HEAD_COUNT) % 2 ^ 32
/-- IN_FLIGHT follows the commands in flight. -/
def State.showFlight (s : State) : State := s.wr Fld.KPR_CLUSTER_STATUS_IN_FLIGHT s.kpr.inFlight.length

/-- MBX_CMD_TAIL_WRITE (R611): the host posts commands; more than the ring holds is rejected. -/
def execMbxCmdTailWrite (who : Agent) (v : Word) (s : State) : Host.Outcome State Fault Refusal :=
  let beyond := decide (s.cmdSize < (v.toNat + 2 ^ 32 - s.rd Fld.KPR_MBX_CMD_HEAD_COUNT) % 2 ^ 32)
  .next (s.busWrite who Reg.KPR_MBX_CMD_TAIL 0 0 0 v beyond id)

/-- The conditions of R611 hold: the mailbox is enabled and not stopped, fewer than 64 commands are in flight, and the reply ring has an
entry for each of them, for each reply that waits beside them, and for one more. -/
def State.mayFetch (s : State) (entries : Nat) : Bool :=
  s.keepersRun && s.on Fld.HST_PCIE_STATUS_LINK_UP && s.on Fld.KPR_MBX_CTRL_EN && !s.on Fld.KPR_MBX_CTRL_STOPPED
    && decide (s.kpr.inFlight.length < 64)
    && decide (s.kpr.inFlight.length + (s.kpr.replies.filter (fun r => !r.final)).length + 1 ≤ s.rplFree)
    && s.cmdWaiting != 0 && decide (entries ≤ s.cmdWaiting)
/-- A command is refused as it is fetched: it never is in flight. -/
def State.refuseCmd (s : State) (h : MbxHeader) (st : MbxStatus) : State :=
  let r : Reply := { tag := h.tag, opcode := h.opcode, status := st.code, done := 0, detail := 0, data := 0, irq := h.irq, final := false }
  ({ s with kpr := { s.kpr with replies := s.kpr.replies ++ [r] } }).bump .KPR_MBX_REFUSED
/-- The checks of R613, of the rights (R672), and of R642, on a fetched command: the refusal, if one applies. -/
def State.cmdRefusal (s : State) (h : MbxHeader) : Option MbxStatus :=
  if h.resv || !knownOp h.opcode || h.entries == 0 || decide (8 < h.entries) || (s.mbx h.tag).isSome
      || (h.resultAddr == 0 && returnsData h.opcode) then some .badCmd
  else
    match rightOf h.opcode with
    | some b =>
      if s.rd Fld.RND_RIGHTS_RIGHTS / 2 ^ b % 2 = 0 then some .noRight
      else if (b = 4 ∨ b = 14) ∧ s.standby = true then some .busy
      else none
    | none => none
/-- A command acts on P0 to P3: one that says so, and a change of a configured section, which its header's domain names, or of a route,
whatever its PIPE (R210, R216). -/
def State.actsOnAll (s : State) (h : MbxHeader) : Bool :=
  h.all || decide (0x18 ≤ h.opcode ∧ h.opcode ≤ 0x1A)
    || (decide (0x10 ≤ h.opcode ∧ h.opcode ≤ 0x13) && !s.on Fld.EXM_SECT_CFG_LEARNED_SECT h.pipe h.dom)
/-- MBX_FETCH (R611 to R613): the command at CMD_HEAD is fetched and checked. -/
def execMbxFetch (h : MbxHeader) (s : State) : Host.Outcome State Fault Refusal :=
  let n := if h.entries = 0 ∨ 8 < h.entries then 1 else h.entries
  if !s.mayFetch n then .next s
  else
    let t := (s.wr Fld.KPR_MBX_CMD_HEAD_COUNT ((s.rd Fld.KPR_MBX_CMD_HEAD_COUNT + n) % 2 ^ 32)).bump .KPR_MBX_COMMANDS
    match s.cmdRefusal h with
    | some .badCmd => .next ((t.refuseCmd h .badCmd).raiseMs Ev.KPR_MBX_BAD_CMD)
    | some .noRight => .next ((t.refuseCmd h .noRight).violation 2 0 h.opcode)
    | some st => .next (t.refuseCmd h st)
    | none =>
      let c : MbxCmd := { tag := h.tag, opcode := h.opcode, irq := h.irq, pipe := h.pipe, all := s.actsOnAll h, timeoutMs := h.timeoutMs,
                          resultAddr := h.resultAddr, domain := h.dom, fetchedAt := s.now, started := false, done := 0, answered := false, change := none }
      .next (({ t with kpr := { t.kpr with inFlight := t.kpr.inFlight ++ [c] } }).showFlight)

/-- Its TIMEOUT_MS has passed before it started (R615). -/
def MbxCmd.late (c : MbxCmd) (now : Nat) : Bool := c.timeoutMs != 0 && decide (c.fetchedAt + c.timeoutMs * msClk < now)
/-- MBX_COMMAND_START (R613 to R615): every earlier command of its domain has sent its final reply, or is a BEGIN that has replied OK. -/
def execMbxCommandStart (tag : Nat) (s : State) : Host.Outcome State Fault Refusal :=
  match s.mbx tag with
  | some c =>
    let earlier := s.kpr.inFlight.takeWhile (fun x => x.tag != tag)
    let blocked := earlier.any (fun x => !(x.opcode == opBegin && x.answered) && x.keys.any (fun k => c.keys.contains k))
    if c.started || s.replied tag || c.late s.now || blocked || !s.keepersRun then .next s
    else
      let go := fun (x : MbxCmd) => if x.tag = tag then { x with started := true } else x
      .next { s with kpr := { s.kpr with inFlight := s.kpr.inFlight.map go } }
  | none => .next s
/-- MBX_COMMAND_TIMEOUT (R615). -/
def execMbxCommandTimeout (tag : Nat) (s : State) : Host.Outcome State Fault Refusal :=
  match s.mbx tag with
  | some c =>
    if !c.started && !s.replied tag && c.late s.now then .next ((s.bump .KPR_MBX_REFUSED).reply tag .timeout 0 0 0 true) else .next s
  | none => .next s

/-! ### Replies (R616, R617) -/

/-- The entry of a reply (Table 21.5). -/
def Reply.entry (r : Reply) : BitVec 256 :=
  setFields 0 [(ReplyEntry.TAG, r.tag), (ReplyEntry.OPCODE, r.opcode), (ReplyEntry.STATUS, r.status), (ReplyEntry.DONE, r.done),
    (ReplyEntry.DETAIL, r.detail), (ReplyEntry.DATA, r.data)]
/-- MBX_REPLY_WRITE (R614, R616, R617): the oldest reply is written, unless the mailbox has stopped. -/
def execMbxReplyWrite (s : State) : Host.Outcome State Fault Refusal :=
  match s.kpr.replies with
  | r :: rest =>
    if s.on Fld.KPR_MBX_CTRL_STOPPED || !s.on Fld.HST_PCIE_STATUS_LINK_UP || s.rplFree == 0 then .next s
    else
      let n := s.rd Fld.KPR_MBX_RPL_TAIL_COUNT
      let addr := s.ringBase Fld.KPR_MBX_RPL_BASE_LO_ADDR Fld.KPR_MBX_RPL_BASE_HI_ADDR + 32 * (n % s.rplSize)
      let left := if r.final then s.kpr.inFlight.filter (fun c => c.tag != r.tag) else s.kpr.inFlight
      let t := ({ s with kpr := { s.kpr with replies := rest, inFlight := left } }).emit (.hostWrite addr r.entry.toNat)
      let u := (t.wr Fld.KPR_MBX_RPL_TAIL_COUNT ((n + 1) % 2 ^ 32)).showFlight
      .next (if r.irq then u.sendVec (u.rd Fld.KPR_MBX_CTRL_VEC_REPLY) else u)
  | [] => .next s
/-- MBX_DMA_TIMEOUT (R617): a transfer has not completed within 1 ms. -/
def execMbxDmaTimeout (s : State) : Host.Outcome State Fault Refusal := .next s.mbxStop
/-- A write of KPR_MBX_CTRL (R617): one with EN = 1 clears STOPPED. -/
def State.mbxCtrlWrite (s : State) (who : Agent) (v : Word) : State :=
  s.busWrite who Reg.KPR_MBX_CTRL 0 0 0 v false (fun t => if Fld.KPR_MBX_CTRL_EN.onIn v then t.wr Fld.KPR_MBX_CTRL_STOPPED 0 else t)
/-- MBX_ENABLE (R617): a write of KPR_MBX_CTRL with EN = 1. -/
def execMbxEnable (who : Agent) (v : Word) (s : State) : Host.Outcome State Fault Refusal := .next (s.mbxCtrlWrite who v)

/-! ### Abort (R610) -/

/-- An abort of a QUEUE_MOVE before the write that commits its element (R429): nothing is committed yet, and B's WAIT is cleared. -/
def State.abortMove (s : State) (tag : Nat) : State :=
  match s.tm.moves.find? (fun m => m.tag == tag) with
  | some m =>
    if s.doneOf tag = 0 then
      let t := s.setQueue m.slice m.b { s.queue m.slice m.b with wait := false }
      ({ t with tm := { t.tm with moves := t.tm.moves.erase m } }).reply tag .aborted 0 0 0 true
    else s
  | none => s
/-- Stop a command (R610): one that has not started is ABORTED; a bulk one stops at its next element boundary; another runs on. -/
def State.stopCmd (s : State) (c : MbxCmd) : State :=
  if s.replied c.tag then s
  else if !c.started then s.reply c.tag .aborted 0 0 0 true
  else if c.opcode = opBegin then s.abortRules c.pipe c.tag
  else if c.opcode = opPatchLoad then
    (if s.kpr.patch.elim false (fun p => p.tag == c.tag) then s.dropPatch c.tag else s.reply c.tag .aborted 0 0 0 true)
  else if c.opcode = opQueueMove then s.abortMove c.tag
  else if c.opcode = opLrnFlush then (s.endFlush c.pipe c.tag).reply c.tag .aborted c.done 0 0 true
  else s
/-- ABORT (R610): OK when a command with that TAG is in flight, NOT_FOUND otherwise. -/
def execAbort (tag target : Nat) (s : State) : Host.Outcome State Fault Refusal :=
  .next (s.mbxOp tag opAbort (fun t =>
    match t.mbx target with
    | some c => (t.stopCmd c, ⟨.ok, 0, 0⟩)
    | none => (t, ⟨.notFound, 0, 0⟩)))

/-! ### Counters (R613, R81) -/

/-- A counter as a mailbox command reads it: of the pipeline or instance it names, of all four with ALL, or of the device. -/
def State.counterRead (s : State) (pipe : Nat) (all : Bool) (c : Ctr) (i : Nat) : Nat :=
  let n := c.home.2
  if n = 0 then s.ctr c i
  else if all then s.ctr c i + s.ctr c (n + i) + s.ctr c (2 * n + i) + s.ctr c (3 * n + i)
  else s.ctr c (pipe * n + i)
/-- Bring the counters that grow with time up to date before they are read: the time frames have been held (Table 3.4). -/
def State.countNow (s : State) (names : List (Ctr × Nat)) : State :=
  if names.any (fun e => e.1 == .TX_HELD_NS) then (List.range 96).foldl (fun (t : State) p => t.countHolds p) s else s
/-- COUNTER_READ (R613): up to 16 counters, each value whole. -/
def execCounterRead (tag : Nat) (names : List (Ctr × Nat)) (s : State) : Host.Outcome State Fault Refusal :=
  .next (s.mbxOp tag opCounterRead (fun t0 =>
    let t := t0.countNow names
    let c := t.mbx tag
    let vs := names.map (fun (e : Ctr × Nat) => t.counterRead (c.elim 0 MbxCmd.pipe) (c.elim false MbxCmd.all) e.1 e.2)
    (t, ⟨.ok, 0, vs.foldr (fun v a => v + a * 2 ^ 64) 0⟩)))

/-! ### Notifications (R618) -/

/-- A notification that finds the ring full is dropped and counted, or held (R237, R305, R334, R337). -/
def State.noRoom (s : State) (n : Note) : State :=
  if n.hold then
    (({ s with ups := { s.ups with held := s.ups.held ++ [(n.kind, n.payload)] } }).bump .UPS_REPORT_DELAYED).raiseMs Ev.UPS_REPORT_DELAYED
  else if n.kind = 1 then (s.bump .LRN_NOTIFY_DROP n.src).raise Ev.LRN_NOTIFY_DROP .pipeline n.src
  else s.bump .NAT_NOTIFY_DROP n.src
/-- NOTIFICATION_WRITE (R618): the oldest notification is written to the ring. -/
def execNotificationWrite (s : State) : Host.Outcome State Fault Refusal :=
  match s.kpr.notes with
  | n :: rest =>
    let t := { s with kpr := { s.kpr with notes := rest } }
    if !s.on Fld.HST_PCIE_STATUS_LINK_UP then .next s
    else if s.ntfFull || (n.hold && !s.ups.held.isEmpty) then .next (t.noRoom n)
    else .next (t.writeNote n.kind n.payload)
  | [] => .next s

end Sys2Proof.Machine
end

