-- ==== Sys2Proof/Machine/PtpOps.lean ====
section
/-! DEFINITION. PTP messages and datasets (spec 17, R496, R500, R504 to R509): reading and checking a received message, building
one, the foreign masters, grants and the derived quality.  The layouts of messages and TLVs are IEEE 1588-2019's, which the manual
names and does not repeat (log entry 60). -/
namespace Sys2Proof.Machine

open Sys2Proof.Config

/-! ### Packets handed to the keepers -/

/-- Take a packet from the keepers' inbox: its buffers return and it leaves the device (R384). -/
def State.takeInbox (s : State) (n : Nat) : Option (State × Packet) :=
  match s.kpr.inbox.find? (fun e => e.1 == n) with
  | some (_, slice, bufs) =>
    let t := { s with kpr := { s.kpr with inbox := s.kpr.inbox.filter (fun e => e.1 != n) } }
    some (t.releaseCopy slice reqKeeper n bufs, s.pkt n)
  | none => none

/-! ### Received messages -/

/-- The profile is G.8275.2. -/
def State.ptpUnicast (s : State) : Bool := s.on Fld.PTP_CLK_CFG_PROFILE
/-- The bytes of the PTP message in a trapped packet, and the sender's IP address (0 for transports 0 and 1). -/
def State.ptpBytes (s : State) (p : Packet) : List Byte × Nat :=
  if s.rd Fld.PTP_PORT_CFG_TRANSPORT 0 p.port < 2 then (p.orig.drop 14, 0)
  else let f := p.fields 0; (p.orig.drop (f.l4Off + 8), f.sip)
/-- messageType. -/
def ptpType (m : List Byte) : Nat := byteAt m 0 % 16
/-- sourcePortIdentity. -/
def ptpSender (m : List Byte) : Nat := beAt m 20 10
/-- correctionField. -/
def ptpCf (m : List Byte) : Nat := beAt m 8 8
/-- sequenceId. -/
def ptpSeq (m : List Byte) : Nat := be16 m 30
/-- The timestamp at byte 34, in units of the time of day. -/
def ptpTime (m : List Byte) : Int := ((beAt m 34 6 * todS + beAt m 40 4 * todNs : Nat) : Int)
/-- The fixed length of a message of a type, or 0 for a type not supported. -/
def ptpFixed (typ : Nat) (unicast : Bool) : Nat :=
  if typ = 0 ∨ typ = 1 ∨ typ = 8 then 44 else if typ = 9 then 54 else if typ = 11 then 64
  else if typ = 12 ∧ unicast = true then 44 else 0
/-- The TLVs from an offset to the end: type, and value bytes; none when one does not fit. -/
def ptpTlvs (m : List Byte) (end_ : Nat) : Nat → Nat → Option (List (Nat × List Byte))
  | 0, _ => some []
  | n + 1, off =>
    if off = end_ then some []
    else if end_ < off + 4 ∨ end_ < off + 4 + be16 m (off + 2) then none
    else (ptpTlvs m end_ n (off + 4 + be16 m (off + 2))).map (fun l => (be16 m off, (m.drop (off + 4)).take (be16 m (off + 2))) :: l)
/-- Bytes of the value of a unicast negotiation TLV, or none for another type: REQUEST, GRANT, CANCEL, ACKNOWLEDGE CANCEL. -/
def sigTlvLen (t : Nat) : Option Nat := if t = 4 then some 6 else if t = 5 then some 8 else if t = 6 ∨ t = 7 then some 2 else none

/-- The reasons of Table 17.4, in its order without the domain check. -/
inductive PtpBad where
  | version | type | length | flags | loop_ | timestamp | correction | announce | unmatched | tlv
  deriving DecidableEq, Repr
/-- Place of a reason in PTP_RX_BAD. -/
def PtpBad.code : PtpBad → Nat
  | .version => 0 | .type => 1 | .length => 2 | .flags => 3 | .loop_ => 4 | .timestamp => 5 | .correction => 6 | .announce => 7
  | .unmatched => 8 | .tlv => 9
/-- What the checks find. -/
inductive PtpCheck where
  | good | otherDomain
  | bad (r : PtpBad)
  deriving DecidableEq, Repr

/-- The port identity of a port of this clock. -/
def State.portIdentity (s : State) (port : Nat) : Nat := s.clockId * 65536 + port + 1
/-- Check 10: a Follow_Up matches an open Sync, a Delay_Resp an open Delay_Req of the port, at most 1 s old. -/
def State.ptpMatched (s : State) (port : Nat) (m : List Byte) : Bool :=
  let x := s.ptpPort port
  if ptpType m = 8 then x.openSync.any (fun e => e.1 == ptpSeq m && e.2.1 == ptpSender m && decide (s.now ≤ e.2.2.2.2 + sClk))
  else if ptpType m = 9 then
    beAt m 44 10 == s.portIdentity port && x.openDelay.any (fun e => e.1 == ptpSeq m && decide (s.now ≤ e.2.2 + sClk))
  else true
/-- The checks of Table 17.4, in order (R504). -/
def State.ptpCheck (s : State) (port : Nat) (m : List Byte) : PtpCheck :=
  let typ := ptpType m
  let fixed := ptpFixed typ s.ptpUnicast
  let len := be16 m 2
  let tlvs := ptpTlvs m len m.length fixed
  let gm := beAt m 53 8
  if byteAt m 0 / 16 ≠ 0 ∨ byteAt m 1 % 16 ≠ 2 ∨ 1 < byteAt m 1 / 16 then .bad .version
  else if fixed = 0 then .bad .type
  else if len < fixed ∨ m.length < len then .bad .length
  else if byteAt m 4 ≠ s.rd Fld.PTP_CLK_CFG_DOMAIN then .otherDomain
  else if (byteAt m 6 / 4 % 2 == 1) ≠ s.ptpUnicast then .bad .flags
  else if ptpSender m / 65536 = s.clockId then .bad .loop_
  else if typ ≠ 12 ∧ 999999999 < beAt m 40 4 then .bad .timestamp
  else if 2 ^ 48 ≤ ptpCf m then .bad .correction
  else if typ = 11 ∧ (255 ≤ be16 m 61 ∨ byteAt m 48 = 255 ∨ gm = 0 ∨ gm = 2 ^ 64 - 1) then .bad .announce
  else if !s.ptpMatched port m then .bad .unmatched
  else
    match tlvs with
    | none => .bad .tlv
    | some l => if typ = 12 ∧ l.any (fun e => sigTlvLen e.1 != some e.2.length) = true then .bad .tlv else .good

/-! ### Sending (R500) -/

/-- A 10-byte timestamp. -/
def ptpStamp (t : Nat) : List Byte := bytesBE 6 (t / todS) ++ bytesBE 4 (t % todS / todNs)
/-- logMessageInterval of a rate of 2^code per second; 0x7F in unicast. -/
def State.logRate (s : State) (code : Nat) : Nat := if s.ptpUnicast then 0x7F else (256 - code) % 256
/-- The common header and a body. -/
def State.ptpMessage (s : State) (port typ flags cf seq ctl log : Nat) (body : List Byte) : List Byte :=
  [BitVec.ofNat 8 typ, 0x12] ++ bytesBE 2 (34 + body.length) ++ bytesBE 1 (s.rd Fld.PTP_CLK_CFG_DOMAIN) ++ bytesBE 1 0
    ++ bytesBE 2 (flags + if s.ptpUnicast then 0x0400 else 0) ++ bytesBE 8 cf ++ bytesBE 4 0 ++ bytesBE 8 s.clockId
    ++ bytesBE 2 (port + 1) ++ bytesBE 2 seq ++ bytesBE 1 ctl ++ bytesBE 1 log ++ body
/-- A complete frame of the keepers goes to a front port's cell writer in a class. -/
def State.keeperFrame (s : State) (port : Nat) (b : List Byte) (tx : Option PtpTx) : State :=
  let p := { Packet.init with stage := .cells, port := 101, pipe := port / 24, ts := ((s.tod / todNs * todNs : Nat) : Int), ended := some false,
                              status := some false, frame := b, orig := b, len := b.length, cls := s.rd Fld.PTP_TRAP_TX_CLASS,
                              dest := .port port, grows := false, ptpTx := tx }
  { s.setPkt s.nextPkt p with nextPkt := s.nextPkt + 1 }
/-- The local address of a port for transports 2 and 3. -/
def State.ptpAddr (s : State) (port : Nat) : Nat :=
  let w := fun k => (s.rdReg Reg.PTP_PORT_ADDR 0 port k).toNat
  if s.rd Fld.PTP_PORT_CFG_TRANSPORT 0 port = 2 then w 0 else w 0 + w 1 * 2 ^ 32 + w 2 * 2 ^ 64 + w 3 * 2 ^ 96
/-- Send a message from a port to an address, counted; Sync and Delay_Req are event messages, timestamped as they leave. -/
def State.ptpSend (s : State) (port addr typ seq : Nat) (m : List Byte) : State :=
  let tr := s.rd Fld.PTP_PORT_CFG_TRANSPORT 0 port
  let v6 := tr == 3
  let udp := if typ ≤ 1 then 319 else 320
  let b := if tr < 2 then bytesBE 6 (if tr = 0 then 0x011B19000000 else 0x0180C200000E) ++ bytesBE 6 (s.portAddr port) ++ bytesBE 2 0x88F7 ++ m
    else udpFrame s.fresh v6 (s.ptpAddr port) addr udp udp m
  let off := if tr < 2 then 14 else if v6 then 62 else 42
  let one := typ == 0 && !s.on Fld.PTP_PORT_CFG_TWO_STEP 0 port
  let tx : Option PtpTx := if typ ≤ 1 then some ⟨one, typ * 65536 + seq, off, if tr < 2 then none else some (off - 2)⟩ else none
  (({ s with fresh := if tr < 2 then s.fresh else s.fresh + 15 }).keeperFrame port b tx).bump .PTP_TX_MSGS (port * 16 + typ)
/-- Take the next sequence number of a type. -/
def State.nextSeq (s : State) (port typ : Nat) : State × Nat :=
  let x := s.ptpPort port
  let n := Sparse.get x.seq typ 0
  (s.setPtpPort port { x with seq := Sparse.put x.seq typ ((n + 1) % 65536) 0 }, n)
/-- The point of a schedule after now. -/
def State.nextDue (s : State) (at_ clk : Nat) : Nat := if s.now < at_ then at_ else at_ + clk * ((s.now - at_) / clk + 1)

/-- Body and flags of an Announce: the most recent derivation, with LHT_UTC (R509); the traceability flags and the time source,
which the manual does not state, are free. -/
def State.announceBody (s : State) : List Byte × Nat :=
  let d := s.ptp.adv
  let flags := s.rd Fld.LHT_UTC_LEAP61 + 2 * s.rd Fld.LHT_UTC_LEAP59 + 4 * s.rd Fld.LHT_UTC_VALID + 8 + 16 * (freeNat s.fresh % 4)
  (ptpStamp s.tod ++ bytesBE 2 (s.rd Fld.LHT_UTC_OFFSET) ++ [0, 128] ++ bytesBE 1 d.gmClass ++ bytesBE 1 d.gmAcc ++ bytesBE 2 d.gmVar
    ++ bytesBE 1 d.prio2 ++ bytesBE 8 d.gmId ++ bytesBE 2 d.steps ++ freeBytes (s.fresh + 1) 1, flags)
/-- Send an Announce. -/
def State.sendAnnounce (s : State) (port addr : Nat) : State :=
  let (s1, seq) := s.nextSeq port 11
  let (body, flags) := s1.announceBody
  ({ s1 with fresh := s1.fresh + 2 }).ptpSend port addr 11 seq
    (s1.ptpMessage port 11 flags 0 seq 5 (s1.logRate (s1.rd Fld.PTP_PORT_CFG_ANN_RATE 0 port)) body)
/-- Send a Sync: a two-step one owes its Follow_Up. -/
def State.sendSync (s : State) (port addr : Nat) : State :=
  let (s1, seq) := s.nextSeq port 0
  let two := s1.on Fld.PTP_PORT_CFG_TWO_STEP 0 port
  let x := s1.ptpPort port
  let s2 := if two then s1.setPtpPort port { x with syncSent := x.syncSent ++ [(seq, addr, s1.now)] } else s1
  s2.ptpSend port addr 0 seq (s2.ptpMessage port 0 (if two then 0x0200 else 0) 0 seq 0
    (s2.logRate (s2.rd Fld.PTP_PORT_CFG_SYNC_RATE 0 port)) (ptpStamp s2.tod))
/-- Send the Follow_Up of a Sync that left at a time. -/
def State.sendFollowUp (s : State) (port addr seq at_ : Nat) : State :=
  s.ptpSend port addr 8 seq (s.ptpMessage port 8 0 (at_ % todNs / 7) seq 2 (s.logRate (s.rd Fld.PTP_PORT_CFG_SYNC_RATE 0 port)) (ptpStamp at_))
/-- Send a Delay_Req. -/
def State.sendDelayReq (s : State) (port addr : Nat) : State :=
  let (s1, seq) := s.nextSeq port 1
  let x := s1.ptpPort port
  let s2 := s1.setPtpPort port { x with openDelay := x.openDelay ++ [(seq, none, s1.now)] }
  s2.ptpSend port addr 1 seq (s2.ptpMessage port 1 0 0 seq 1 0x7F (ptpStamp s2.tod))
/-- Answer a Delay_Req. -/
def State.sendDelayResp (s : State) (port : Nat) (d : DelayDue) : State :=
  let cf := (d.cf + 2 ^ 64 - d.ts % todNs / 7) % 2 ^ 64
  s.ptpSend port d.addr 9 d.seq (s.ptpMessage port 9 0 cf d.seq 3 (s.logRate (s.rd Fld.PTP_PORT_CFG_DELAY_RATE 0 port))
    (ptpStamp d.ts ++ bytesBE 10 d.src))
/-- Send a unicast negotiation TLV. -/
def State.sendSig (s : State) (port : Nat) (t : SigTlv) : State :=
  let (s1, seq) := s.nextSeq port 12
  let val := if t.tlv = 4 then bytesBE 1 (t.typ * 16) ++ bytesBE 1 t.log ++ bytesBE 4 t.secs
    else if t.tlv = 5 then bytesBE 1 (t.typ * 16) ++ bytesBE 1 t.log ++ bytesBE 4 t.secs ++ [0, 1]
    else bytesBE 1 (t.typ * 16) ++ [0]
  s1.ptpSend port t.addr 12 seq (s1.ptpMessage port 12 0 0 seq 5 0x7F (bytesBE 10 (2 ^ 80 - 1) ++ bytesBE 2 t.tlv ++ bytesBE 2 val.length ++ val))

/-! ### Grants (R508) -/

/-- Grants the device holds. -/
def State.deviceGrants (s : State) : Nat := s.ptp.ports.foldl (fun a e => a + e.2.grants.length) 0
/-- Replace a port's grants, with GRANTS. -/
def State.setGrants (s : State) (port : Nat) (l : List Grant) : State :=
  (s.setPtpPort port { s.ptpPort port with grants := l }).wr Fld.PTP_PORT_STATUS_GRANTS l.length 0 port
/-- Queue a unicast negotiation TLV. -/
def State.sigOut (s : State) (port : Nat) (t : SigTlv) : State :=
  let x := s.ptpPort port
  s.setPtpPort port { x with sigDue := x.sigDue ++ [t] }
/-- The configured rate code of a message type on a port. -/
def State.rateOf (s : State) (port typ : Nat) : Nat :=
  if typ = 11 then s.rd Fld.PTP_PORT_CFG_ANN_RATE 0 port else if typ = 0 then s.rd Fld.PTP_PORT_CFG_SYNC_RATE 0 port
  else s.rd Fld.PTP_PORT_CFG_DELAY_RATE 0 port
/-- The rate code of a signed logInterMessagePeriod byte: one below 1 per second counts as 1. -/
def rateCode (log : Nat) : Nat := if log = 0 ∨ log < 128 then 0 else 256 - log
/-- A request of a master port (R508): granted, or answered with a duration of 0. -/
def State.request (s : State) (port addr typ log secs : Nat) : State :=
  let x := s.ptpPort port
  let rest := x.grants.filter (fun g => !(g.addr == addr && g.typ == typ))
  let renewed := x.grants.length - rest.length
  let ok := s.ptpState port == 6 && (typ == 11 || typ == 0 || typ == 9) && decide (rateCode log ≤ s.rateOf port typ)
    && decide (10 ≤ secs ∧ secs ≤ 1000) && decide (rest.length < 64) && decide (s.deviceGrants - renewed < 512)
  if ok then
    let d := min secs 300
    (s.setGrants port (rest ++ [⟨typ, addr, rateCode log, d, s.now, s.now⟩])).sigOut port ⟨5, addr, typ, log, d⟩
  else ((s.bump .PTP_GRANT_REFUSED port).raiseSec Ev.PTP_GRANT_REFUSED .port port).sigOut port ⟨5, addr, typ, log, 0⟩
/-- One TLV of a Signaling message. -/
def State.takeTlv (s : State) (port addr : Nat) (e : Nat × List Byte) : State :=
  let typ := byteAt e.2 0 / 16
  let x := s.ptpPort port
  if e.1 = 4 then s.request port addr typ (byteAt e.2 1) (beAt e.2 2 4)
  else if e.1 = 5 then
    let rest := x.held.filter (fun g => !(g.addr == addr && g.typ == typ))
    let d := beAt e.2 2 4
    s.setPtpPort port { x with held := if d = 0 then rest else rest ++ [⟨typ, addr, rateCode (byteAt e.2 1), d, s.now, s.now⟩] }
  else if e.1 = 6 then
    let s1 := s.setGrants port (x.grants.filter (fun g => !(g.addr == addr && g.typ == typ)))
    let y := s1.ptpPort port
    (s1.setPtpPort port { y with held := y.held.filter (fun g => !(g.addr == addr && g.typ == typ)) }).sigOut port ⟨7, addr, typ, 0, 0⟩
  else s

/-! ### What an accepted message does -/

/-- An Announce: its sender is, or becomes, a foreign master of the port, and the BMCA runs. -/
def State.takeAnnounce (s : State) (port addr : Nat) (m : List Byte) : State :=
  let d : PtpDs := { gmClass := byteAt m 48, gmAcc := byteAt m 49, gmVar := be16 m 50, prio2 := byteAt m 52, gmId := beAt m 53 8,
                     steps := be16 m 61, sender := ptpSender m }
  let x := s.ptpPort port
  let old := (x.foreign.find? (fun f => f.ds.sender == d.sender)).map Foreign.seen
  let f : Foreign := { ds := d, addr := addr, seen := s.now :: (old.getD []).take 1 }
  (s.setPtpPort port { x with foreign := x.foreign.filter (fun f => f.ds.sender != d.sender) ++ [f] }).runBmca
/-- A message of the parent on the slave port. -/
def State.fromParent (s : State) (port : Nat) (m : List Byte) : Bool :=
  (s.ptpState port == 8 || s.ptpState port == 9) && (s.ptp.parent.map (fun e => e.1.sender)) == some (ptpSender m)
/-- A Sync: a two-step one is open until its Follow_Up comes. -/
def State.takeSync (s : State) (port : Nat) (t2 : Int) (m : List Byte) : State :=
  let x := s.ptpPort port
  if byteAt m 6 / 2 % 2 = 1 then
    let live := x.openSync.filter (fun e => decide (s.now ≤ e.2.2.2.2 + sClk))
    s.setPtpPort port { x with openSync := live ++ [(ptpSeq m, ptpSender m, t2, ptpCf m, s.now)] }
  else s.setPtpPort port { x with sample := some (t2 - ptpTime m - ((ptpCf m * 7 : Nat) : Int)) }
/-- A Follow_Up completes its Sync. -/
def State.takeFollowUp (s : State) (port : Nat) (m : List Byte) : State :=
  let x := s.ptpPort port
  match x.openSync.find? (fun e => e.1 == ptpSeq m && e.2.1 == ptpSender m) with
  | some (q, src, t2, cf, at_) =>
    s.setPtpPort port { x with openSync := x.openSync.filter (fun e => e != (q, src, t2, cf, at_)),
                               sample := some (t2 - ptpTime m - (((cf + ptpCf m) * 7 : Nat) : Int)) }
  | none => s
/-- A Delay_Resp completes its Delay_Req once its departure time has returned. -/
def State.takeDelayResp (s : State) (port : Nat) (m : List Byte) : State :=
  let x := s.ptpPort port
  let y := s.port port
  let tag := 65536 + ptpSeq m
  match y.txStamps.find? (fun e => e.1 == tag) with
  | some (_, t3) =>
    let s1 := s.setPort port { y with txStamps := y.txStamps.filter (fun e => e.1 != tag) }
    s1.setPtpPort port { x with openDelay := x.openDelay.filter (fun e => e.1 != ptpSeq m),
                                delay := some (ptpTime m - (t3 : Int) - ((ptpCf m * 7 : Nat) : Int)) }
  | none => s
/-- A Delay_Req to a master port, under unicast from a holder of a grant. -/
def State.takeDelayReq (s : State) (port addr : Nat) (ts : Int) (m : List Byte) : State :=
  let x := s.ptpPort port
  let may := !s.ptpUnicast || x.grants.any (fun g => g.typ == 9 && g.addr == addr)
  if s.ptpState port = 6 ∧ may = true then
    s.setPtpPort port { x with respDue := x.respDue ++ [⟨ptpSender m, ptpSeq m, ptpCf m, ts.toNat, addr⟩] }
  else s
/-- An accepted message. -/
def State.takeMessage (s : State) (port addr : Nat) (ts : Int) (m : List Byte) : State :=
  match ptpType m with
  | 0 => if s.fromParent port m then s.takeSync port ts m else s
  | 1 => s.takeDelayReq port addr ts m
  | 8 => if s.fromParent port m then s.takeFollowUp port m else s
  | 9 => s.takeDelayResp port m
  | 11 => s.takeAnnounce port addr m
  | _ => ((ptpTlvs m (be16 m 2) m.length 44).getD []).foldl (fun (t : State) (e : Nat × List Byte) => t.takeTlv port addr e) s

/-! ### The derived quality (R509) -/

/-- Code of Table 17.6. -/
def accuracyCode (tu : Nat) : Nat :=
  if tu = 0xFFFFFFFF then 0xFE else if tu ≤ 25 then 0x20 else if tu ≤ 100 then 0x21 else if tu ≤ 250 then 0x22 else if tu ≤ 1000 then 0x23
  else if tu ≤ 2500 then 0x24 else if tu ≤ 10000 then 0x25 else if tu ≤ 25000 then 0x26 else if tu ≤ 100000 then 0x27 else 0x2F
/-- clockClass of rows 2 to 5 of Table 17.5. -/
def State.ownClass (s : State) : Nat :=
  let gm := s.rd Fld.PTP_CLK_CFG_TYPE == 1
  let tu := s.rd Fld.LHT_TU_TU
  let ref := s.rd Fld.LHT_STATUS_TIME_REF
  if s.rd Fld.PTP_CLK_CFG_TYPE = 3 then 255
  else if tu = 0xFFFFFFFF then 248
  else if s.timeState = 2 ∧ ref ≤ 1 ∧ s.on Fld.PTP_CLK_CFG_PPS_PRTC = true then 6
  else if tu ≤ s.rd Fld.PTP_CLASS_CFG_SPEC_NS then (if gm then 7 else 135)
  else if gm then s.rd Fld.PTP_CLASS_CFG_OOS_CLASS else 165
/-- The clock's own dataset. -/
def State.deriveOwn (s : State) : PtpDs :=
  let c := s.ownClass
  { gmClass := c, gmAcc := accuracyCode (s.rd Fld.LHT_TU_TU), gmVar := if c = 6 then 0x4E5D else 0xFFFF,
    prio2 := s.rd Fld.PTP_CLK_CFG_PRIORITY2, gmId := s.clockId, steps := 0, sender := s.clockId * 65536 }
/-- What is advertised: the parent's grandmaster while a T-BC is SLAVE to it, else the own dataset. -/
def State.deriveAdv (s : State) : PtpDs :=
  let slave := (List.range 96).any (fun p => s.ptpState p == 9)
  match s.ptp.parent with
  | some (d, _) =>
    if s.rd Fld.PTP_CLK_CFG_TYPE = 2 ∧ s.rd Fld.LHT_STATUS_TIME_REF = 6 ∧ slave = true then { d with steps := d.steps + 1 } else s.ptp.own
  | none => s.ptp.own
/-- Advertise a dataset: PTP_STATUS shows it, and a change of clockClass is counted with EVT 20.2. -/
def State.advertise (s : State) (d : PtpDs) : State :=
  let was := s.rd Fld.PTP_STATUS_CLOCK_CLASS
  let s1 := ({ s with ptp := { s.ptp with adv := d } }).wr Fld.PTP_STATUS_CLOCK_CLASS d.gmClass
  let s2 := (s1.wr Fld.PTP_STATUS_CLOCK_ACCURACY d.gmAcc).wr Fld.PTP_STATUS_STEPS_REMOVED d.steps
  if was = d.gmClass then s2 else (s2.bump .PTP_CLASS_CHANGES).raise Ev.PTP_CLASS_CHANGE .device 0 d.gmClass

end Sys2Proof.Machine
end

