-- ==== Sys2Proof/Machine/PtpService.lean ====
section
/-! DEFINITION. The commands of the PTP service (spec 17): messages received and sent, timeouts, grants, the phase sample, the
derived quality, and its start and stop. -/
namespace Sys2Proof.Machine

open Sys2Proof.Config

/-- PTP_MESSAGE_RECEIVE (R504): the keepers take a trapped packet and check it; an accepted message acts. -/
def execPtpMessageReceive (n : Nat) (s : State) : Host.Outcome State Fault Refusal :=
  match s.takeInbox n with
  | none => .next s
  | some (s1, p) =>
    let (m, addr) := s1.ptpBytes p
    if !s1.ptpActive p.port || !s1.on Fld.PTP_CTRL_EN then .next s1
    else
      match s1.ptpCheck p.port m with
      | .otherDomain => .next (s1.bump .PTP_RX_OTHER_DOMAIN p.port)
      | .bad r => .next ((s1.bump .PTP_RX_BAD (p.port * 16 + r.code)).raiseSec Ev.PTP_RX_BAD .port p.port r.code)
      | .good => .next ((s1.bump .PTP_RX_MSGS (p.port * 16 + ptpType m)).takeMessage p.port addr p.ts m)

/-- The best foreign master a port has had, whenever its last Announce came. -/
def State.bestEver (s : State) (p : Nat) : Option Foreign :=
  match (s.ptpPort p).foreign.filter (fun f => decide (2 ≤ f.seen.length)) with
  | [] => none
  | f :: l => some (l.foldl (fun m e => if rankLess (s.rankAt p e.ds) (s.rankAt p m.ds) then e else m) f)

/-- ANNOUNCE_TIMEOUT (R502): the receipt timeout of a port's best foreign master, or of a LISTENING port that has none, has
passed. -/
def execAnnounceTimeout (port : Nat) (s : State) : Host.Outcome State Fault Refusal :=
  let t := s.rd Fld.PTP_PORT_CFG_ANN_TIMEOUT 0 port * s.annClk port
  let x := s.ptpPort port
  if !s.ptpActive port then .next s
  else
    match s.bestEver port with
    | some f =>
      if f.seen.headD 0 + t < s.now then
        let s1 := s.setPtpPort port { x with foreign := x.foreign.filter (fun g => g.ds.sender != f.ds.sender) }
        .next (((s1.bump .PTP_ANN_TIMEOUTS port).raise Ev.PTP_ANNOUNCE_TIMEOUT .port port).runBmca)
      else .next s
    | none => .next (if s.ptpState port = 4 ∧ x.since + t < s.now then s.runBmca else s)

/-- A periodic message of a master port is sent: to everyone, or under the first grant for which it is due. -/
def State.sendPeriodic (s : State) (port typ : Nat) : State :=
  let x := s.ptpPort port
  let send := fun (t : State) (addr : Nat) => if typ = 11 then t.sendAnnounce port addr else t.sendSync port addr
  let owed := x.owed.contains typ
  let y := { x with owed := x.owed.filter (fun t => t != typ) }
  if s.ptpUnicast then
    match x.grants.find? (fun g => g.typ == typ && (owed || decide (g.next ≤ s.now))) with
    | some g =>
      let g2 := { g with next := s.nextDue g.next (rateClk g.rate) }
      send (s.setPtpPort port { y with grants := x.grants.map (fun h => if h = g then g2 else h) }) g.addr
    | none => s
  else
    let at_ := Sparse.get x.due typ 0
    if owed || decide (at_ ≤ s.now) then send (s.setPtpPort port { y with due := Sparse.insert x.due typ (s.nextDue at_ (rateClk (s.rateOf port typ))) }) 0
    else s
/-- The Follow_Up whose timestamp has returned is sent. -/
def State.sendFollowUps (s : State) (port : Nat) : State :=
  let x := s.ptpPort port
  let y := s.port port
  match x.syncSent.filterMap (fun (e : Nat × Nat × Nat) => (y.txStamps.find? (fun t => t.1 == e.1)).map (fun t => (e, t.2))) with
  | (e, at_) :: _ =>
    let s1 := s.setPort port { y with txStamps := y.txStamps.filter (fun t => t.1 != e.1) }
    (s1.setPtpPort port { x with syncSent := x.syncSent.filter (fun f => f != e), missing := 0 }).sendFollowUp port e.2.1 e.1 at_
  | [] => s
/-- A Delay_Req that is due is sent to the parent; under unicast its Delay_Resp has been granted. -/
def State.sendDelayDue (s : State) (port : Nat) : State :=
  let x := s.ptpPort port
  let at_ := Sparse.get x.due 1 0
  let addr := match s.ptp.parent with
    | some (d, _) => ((x.foreign.find? (fun f => f.ds.sender == d.sender)).map Foreign.addr).getD 0
    | none => 0
  let may := !s.ptpUnicast || x.held.any (fun g => g.typ == 9 && g.addr == addr)
  if at_ ≤ s.now ∧ may = true then
    (s.setPtpPort port { x with due := Sparse.insert x.due 1 (s.nextDue at_ (rateClk (s.rateOf port 1))) }).sendDelayReq port addr
  else s

/-- PTP_MESSAGE_SEND (R500, R501): a port sends a message of a type when one is due. -/
def execPtpMessageSend (port typ : Nat) (s : State) : Host.Outcome State Fault Refusal :=
  let x := s.ptpPort port
  let st := s.ptpState port
  if !s.on Fld.PTP_CTRL_EN || !s.ptpActive port || (s.ptp.moved && typ != 12) then .next s
  else if (typ = 11 ∨ typ = 0) ∧ st = 6 then .next (s.sendPeriodic port typ)
  else if typ = 8 ∧ st = 6 then .next (s.sendFollowUps port)
  else if typ = 9 ∧ st = 6 then
    .next (match x.respDue with | d :: r => (s.setPtpPort port { x with respDue := r }).sendDelayResp port d | [] => s)
  else if typ = 1 ∧ (st = 8 ∨ st = 9) then .next (s.sendDelayDue port)
  else if typ = 12 ∧ s.ptpUnicast = true then
    .next (match x.sigDue with | t :: r => (s.setPtpPort port { x with sigDue := r }).sendSig port t | [] => s)
  else .next s

/-- TX_TS_MISSING (R500, R501): no timestamp has returned within 4 ms of a two-step Sync; the third in a row makes the port
FAULTY. -/
def execTxTsMissing (port : Nat) (s : State) : Host.Outcome State Fault Refusal :=
  let x := s.ptpPort port
  match x.syncSent with
  | (q, _, at_) :: r =>
    if at_ + 4 * msClk ≤ s.now ∧ (s.port port).txStamps.all (fun t => t.1 != q) = true then
      let s1 := ((s.setPtpPort port { x with syncSent := r, missing := x.missing + 1 }).bump .PTP_TX_TS_MISSING port).raise
        Ev.PTP_TX_TS_MISSING .port port
      .next (if 3 ≤ x.missing + 1 then s1.enterPtp port 2 else s1)
    else .next s
  | [] => .next s

/-- FAULTY_EXIT (R501): 10 s after it became FAULTY a port starts again. -/
def execFaultyExit (port : Nat) (s : State) : Host.Outcome State Fault Refusal :=
  .next (if s.ptpState port = 2 ∧ (s.ptpPort port).since + 10 * sClk ≤ s.now then s.enterPtp port 1 else s)

/-- PTP_PHASE_SAMPLE (R506, R468): the last Sync and delay measurement of the slave port make a phase sample; one outside the range
is refused, and one more than JUMP from the prediction is discarded. -/
def execPtpPhaseSample (port : Nat) (s : State) : Host.Outcome State Fault Refusal :=
  let x := s.ptpPort port
  match x.sample, x.delay with
  | some ms, some sm =>
    if s.ptpState port ≠ 8 ∧ s.ptpState port ≠ 9 then .next s
    else
      let path := (ms + sm) / 2
      let s1 := s.setPtpPort port { x with sample := none }
      if path < 0 ∨ ((s.rd Fld.PTP_CLK_CFG_PATH_MAX_US * 1000 * todNs : Nat) : Int) < path then .next (s1.bump .PTP_SAMPLE_REFUSED)
      else
        let filt := match x.path with
          | some o => pathFilter o path
          | none => path
        let asym := psUnits (signedOf 32 (s.rd Fld.PTP_PORT_ASYM_ASYM_PS 0 port))
        let off := (ms - sm) / 2 - asym + ((s.perturbAmount 3 6 * todNs : Nat) : Int)
        let s2 := ((s1.setPtpPort port { x with sample := none, path := some filt }).wr Fld.PTP_PORT_STATUS_MEAN_PATH
          (min (2 ^ 21 - 1) (filt.toNat / todNs)) 0 port).bump .PTP_SAMPLES
        .next (s2.phaseSample6 off)
  | _, _ => .next s

/-! ### Grants (R508) -/

/-- An entry of the unicast master table is enabled for a port. -/
def State.umtMine (s : State) (port k : Nat) : Bool := s.rd Fld.PTP_UMT_CFG_EN 0 k == 1 && s.rd Fld.PTP_UMT_CFG_PORT 0 k == port
/-- GRANT_RENEW (R508): a slave port requests a message type from the enabled entries of the unicast master table, in entry order, and
again when 80 % of a grant's duration has passed; the duration it asks for, which the manual does not state, is free. -/
def execGrantRenew (port k typ : Nat) (s : State) : Host.Outcome State Fault Refusal :=
  let x := s.ptpPort port
  let w := fun i => (s.rdReg Reg.PTP_UMT_ADDR 0 k i).toNat
  let addr := if s.rd Fld.PTP_PORT_CFG_TRANSPORT 0 port = 2 then w 0 else w 0 + w 1 * 2 ^ 32 + w 2 * 2 ^ 64 + w 3 * 2 ^ 96
  let mine := s.umtMine port k && (List.range k).all (fun j => !s.umtMine port j || x.asked.contains (typ, j))
  let st := s.ptpState port
  let due := match x.held.find? (fun g => g.addr == addr && g.typ == typ) with
    | some g => decide (g.at_ + g.secs * sClk * 4 / 5 ≤ s.now)
    | none => true
  let waits := x.sigDue.any (fun t => t.tlv == 4 && t.addr == addr && t.typ == typ)
  if s.ptpUnicast && mine && due && !waits && 4 ≤ st && st != 6 && !s.on Fld.PTP_PORT_CFG_MASTER_ONLY 0 port
      && (typ == 11 || typ == 0 || typ == 9) then
    let t := s.draw.setPtpPort port { x with asked := if x.asked.contains (typ, k) then x.asked else (typ, k) :: x.asked }
    .next (t.sigOut port ⟨4, addr, typ, (256 - s.rateOf port typ) % 256, 10 + freeNat s.fresh % 991⟩)
  else .next s

/-- GRANT_EXPIRY (R508): grants given and held end with their duration. -/
def execGrantExpiry (port : Nat) (s : State) : Host.Outcome State Fault Refusal :=
  let live := fun (g : Grant) => decide (s.now < g.at_ + g.secs * sClk)
  let s1 := s.setGrants port ((s.ptpPort port).grants.filter live)
  let x := s1.ptpPort port
  .next (s1.setPtpPort port { x with held := x.held.filter live })

/-! ### Quality, start and stop -/

/-- QUALITY_DERIVE (R509): every 125 ms the own dataset is derived, the BMCA runs when it changed, and the advertised one follows;
ports that are INITIALIZING leave it. -/
def execQualityDerive (s : State) : Host.Outcome State Fault Refusal :=
  if !s.on Fld.PTP_CTRL_EN || s.rd Fld.PTP_CLK_CFG_TYPE == 0 || decide (s.now < s.ptp.ownAt + 125 * msClk) then .next s
  else
    let d := s.deriveOwn
    let first := if s.rd Fld.PTP_CLK_CFG_TYPE = 1 then 6 else 4
    let s1 := { s with ptp := { s.ptp with own := d, ownAt := s.now } }
    let s2 := (List.range 96).foldl (fun (t : State) p => if t.ptpState p = 1 then t.enterPtp p first else t) s1
    let s3 := if d = s.ptp.own then s2 else s2.runBmca
    .next (s3.advertise s3.deriveAdv)

/-- PTP_TASK_RESUME (R503): after a move each master port owes one Announce and one Sync at once, and then keeps its schedule. -/
def execPtpTaskResume (s : State) : Host.Outcome State Fault Refusal :=
  if !s.ptp.moved then .next s
  else
    let later := fun (port : Nat) (x : PtpPort) =>
      let due := x.due.map (fun (e : Nat × Nat) => (e.1, s.nextDue e.2 (rateClk (s.rateOf port e.1))))
      let grants := x.grants.map (fun (g : Grant) => { g with next := s.nextDue g.next (rateClk g.rate) })
      { x with due := due, grants := grants, owed := [11, 0] }
    let s1 := { s with ptp := { s.ptp with moved := false } }
    .next ((List.range 96).foldl (fun (t : State) p => if t.ptpState p = 6 then t.setPtpPort p (later p (t.ptpPort p)) else t) s1)

/-- An accepted write of PTP_CTRL: every port follows. -/
def State.ptpFollowAll (s : State) : State := (List.range 96).foldl (fun (t : State) p => t.ptpFollow p) s
/-- PTP_DISABLE: a write of PTP_CTRL with EN = 0 moves every port to DISABLED at once, and its grants end. -/
def execPtpDisable (who : Agent) (v : Word) (s : State) : Host.Outcome State Fault Refusal :=
  .next (s.busWrite who Reg.PTP_CTRL 0 0 0 v false State.ptpFollowAll)

end Sys2Proof.Machine
end

