-- ==== Sys2Proof/Machine/RegRead.lean ====
section
/-! DEFINITION. Reading a register (spec 00, R7, R9; spec 29, R787, R790): what the map holds, the windows whose value lies outside the
register file, and the clear on read. -/
namespace Sys2Proof.Machine

open Sys2Proof.Config

/-- An entry of an array, or an instance, that the map does not have: it reads 0 and rejects writes (R253 to R350, R375, R494, R622). -/
def RegItem.absent (it : RegItem) : Bool :=
  let b := it.reg.base
  let is := fun (rs : List Reg) => rs.any (fun r => r.base == b)
  (it.i == 7 && is [Reg.LHT_REF_CFG, Reg.LHT_REF_FREQ, Reg.LHT_REF_STATUS])
    || (decide (14 ≤ it.i) && is [Reg.KPR_TASK])
    || (it.i == 0 && is [Reg.FLW_CLASS_CFG, Reg.FLW_CLASS_ADM, Reg.FLW_CLASS_TIME, Reg.FLW_SVC_CFG, Reg.FLW_SETUP_LIMIT, Reg.FLW_ACTIVE_TIME,
          Reg.EDT_MIRROR_CFG, Reg.EDT_MIRROR_RATE, Reg.EDT_MIRROR_NH])
    || (it.inst != 0 && ((it.reg.blk == 21 && !is [Reg.UPS_CTRL, Reg.UPS_PROF])
          || is [Reg.EDT_CAP_RING_CFG, Reg.EDT_CAP_RING_CTRL, Reg.EDT_CAP_WR, Reg.EDT_CAP_RD]))
/-- The item of the map at a bus address. -/
def itemAt (addr : Nat) : Option RegItem := (regAt addr).filter (fun it => !it.absent)

/-- Word `k` of a record. -/
def wordOf (x k : Nat) : Nat := x / 2 ^ (32 * k) % 2 ^ 32
/-- QUE_QSTATUS of a queue (Table 14.6). -/
def State.queueStatus (s : State) (slice q : Nat) : Word :=
  let u := s.queue slice q
  let held := s.qPortState slice (s.qPort slice q) != 0
  setBitsOf (setBitsOf (setBitsOf (setBitsOf (BitVec.ofNat 32 (min u.occupancy (2 ^ 28 - 1))) 28 1 u.spilling.toNat) 29 1 u.wait.toNat)
    30 1 held.toNat) 31 1 u.draining.isSome.toNat
/-- GTE_OPER_STATUS of a port (Table 18.6). -/
def State.operStatus (s : State) (port : Nat) : Word :=
  let g := s.gte port
  setBitsOf (setBitsOf (setBitsOf (BitVec.ofNat 32 g.pending.isSome.toNat) 1 1 g.active.toNat) 2 8 (g.oper.elim 0 GateList.len))
    16 16 (g.changeAt / todS / 2 ^ 32)
/-- A window whose value lies outside the register file: what it reads now. -/
def State.derived (s : State) (it : RegItem) : Option Word :=
  let is := fun (r : Reg) => r.base == it.reg.base
  let w := fun (n : Nat) => some (BitVec.ofNat 32 n)
  let q := s.rd Fld.QUE_QSEL_QUEUE it.inst
  let port := s.gclPort it.inst
  match it.reg.blk with
  | 1 => if is Reg.RST_RING_ENTRY then w (wordOf ((s.backup.causes[s.rd Fld.RST_RING_SEL_INDEX]?).getD 0).toNat it.i) else none
  | 4 =>
    if is Reg.EVT_SUMMARY_LO then w (s.evtSummary 0 32)
    else if is Reg.EVT_SUMMARY_HI then w (s.evtSummary 32 8)
    else if is Reg.EVT_LOG_ENTRY then w (wordOf (Sparse.get s.evt.log (s.rd Fld.EVT_LOG_RD_COUNT % 512) 0).toNat it.i)
    else none
  | 6 =>
    if is Reg.RND_WINDOW then some (Sparse.get s.rind.winOut it.i 0)
    else if is Reg.RND_TAMPER_ENTRY then w (wordOf ((s.backup.tamper[s.rd Fld.RND_TAMPER_SEL_INDEX]?).getD 0).toNat it.i)
    else none
  | 14 =>
    if is Reg.GTE_OPER_STATUS then some (s.operStatus port)
    else if is Reg.GTE_CHANGE_SEC_LO then w ((s.gte port).changeAt / todS)
    else if is Reg.GTE_CHANGE_NS then w ((s.gte port).changeAt % todS / todNs)
    else none
  | 23 =>
    if is Reg.BPM_CTRL then
      some (setBitsOf (s.rdReg it.reg it.inst 0 0) 2 1 (decide (s.now < Sparse.get s.tm.sweepUntil it.inst 0)).toNat)
    else none
  | 24 =>
    if is Reg.QUE_QCFG then some (s.qword it.inst q)
    else if is Reg.QUE_QSTATUS then some (s.queueStatus it.inst q)
    else if is Reg.QUE_QPKTS then w (s.queue it.inst q).items.length
    else if is Reg.QUE_QREDIR then w ((s.queue it.inst q).redirect.elim 0 (fun t => t + 65536))
    else none
  | 29 => if is Reg.KPR_CLUSTER_STATUS then some (setBitsOf (s.rdReg it.reg 0 0 0) 0 2 s.recentLocks) else none
  | _ => none
/-- A word as a reader sees it: write-only fields read 0 (Table 0.2). -/
def Reg.shown (r : Reg) (w : Word) : Word :=
  r.fields.foldl (fun x f => if f.access == .wo || f.access == .reserved then setBitsOf x f.lo f.width 0 else x) w
/-- What a read of an address returns: 0 where no register lies, and for a domain that is off (R741, R787). -/
def State.regRead (s : State) (addr : Nat) : Word :=
  match itemAt (addr / 4 * 4) with
  | none => 0
  | some it =>
    if !s.domainUp (it.reg.domain it.inst it.i) then 0
    else
      match s.derived it with
      | some w => w
      | none => it.reg.shown (s.rdReg it.reg it.inst it.i it.k (if it.reg.perSlot then s.rd Fld.RBK_VIEW_SLOT it.inst else 0))
/-- Hardware has updated an RC field of an item in this clock: the word before, and the update (R788). -/
def State.rcNow (s : State) (it : RegItem) : Option (Word × Nat) :=
  match Sparse.find s.evt.rcAt (it.reg.key it.inst it.i it.k) with
  | some (t, w, v) => if t = s.now then some (w, v) else none
  | none => none
/-- What a reader of the register bus is given: all 32 bits as they stood at one clock, which is before an update of an RC field in the
clock of the read (R788). -/
def State.busRead (s : State) (addr : Nat) : Word :=
  match (itemAt (addr / 4 * 4)).filter (fun it => s.domainUp (it.reg.domain it.inst it.i)) with
  | some it => ((s.rcNow it).map Prod.fst).getD (s.regRead addr)
  | none => s.regRead addr
/-- A read by the host or a keeper clears the RC fields of a register (R7, R9), but for an update of the same clock (R788); one by the
host without the block's right clears nothing (R673). -/
def State.clearOnRead (s : State) (who : Agent) (addr : Nat) : State :=
  match itemAt (addr / 4 * 4) with
  | none => s
  | some it =>
    let rc := it.reg.fields.filter (fun f => f.access == .rc)
    if rc.isEmpty || who = .loader || !s.domainUp (it.reg.domain it.inst it.i) || (who = .host && !s.hasRight it.reg) then s
    else
      let kept := ((s.rcNow it).map Prod.snd).getD 0
      let t := s.wrReg it.reg it.inst it.i it.k (rc.foldl (fun w f => setBitsOf w f.lo f.width kept) (s.rdReg it.reg it.inst it.i it.k))
      { t with evt := { t.evt with rcAt := Sparse.erase t.evt.rcAt (it.reg.key it.inst it.i it.k) } }

end Sys2Proof.Machine
end

