-- ==== Sys2Proof/Machine/Synce.lean ====
section
/-! DEFINITION. SyncE quality messages (spec 17, R510 to R514). -/
namespace Sys2Proof.Machine

open Sys2Proof.Config

/-- SSM and enhanced code of a quality level (Table 17.7). -/
def qlCodes : List (Nat × Nat × Nat) :=
  [(1, 0x2, 0x21), (2, 0x2, 0x20), (3, 0x2, 0x23), (4, 0x2, 0xFF), (5, 0x4, 0xFF), (6, 0x8, 0xFF), (7, 0xB, 0x22), (8, 0xB, 0xFF), (15, 0xF, 0xFF)]
/-- The quality level of a pair of codes. -/
def qlOf (ssm ext : Nat) : Option Nat := (qlCodes.find? (fun e => e.2.1 == ssm && e.2.2 == ext)).map Prod.fst
/-- Rank of a level: lower is better; 0, none known, comes last. -/
def qlOrder (q : Nat) : Nat := if q = 0 then 16 else q
/-- The quality level of a received ESMC frame, or none when R511 discards it.  The layout is G.8264's (log entry 60). -/
def esmcQl (b : List Byte) : Option Nat :=
  let ext := decide (32 ≤ b.length) && byteAt b 28 != 0
  if beAt b 15 3 ≠ 0x0019A7 ∨ be16 b 18 ≠ 1 ∨ byteAt b 20 / 16 ≠ 1 then none
  else if b.length < 28 ∨ byteAt b 24 ≠ 1 ∨ be16 b 25 ≠ 4 then none
  else if ext then (if byteAt b 28 = 2 ∧ be16 b 29 = 20 then qlOf (byteAt b 27 % 16) (byteAt b 31) else none)
  else qlOf (byteAt b 27 % 16) 0xFF

/-- ESMC of a port. -/
def State.esmc (s : State) (p : Nat) : Esmc := Sparse.get s.ptp.esmc p Esmc.init
/-- Replace it. -/
def State.setEsmc (s : State) (p : Nat) (x : Esmc) : State := { s with ptp := { s.ptp with esmc := Sparse.put s.ptp.esmc p x Esmc.init } }
/-- The quality level of a reference (R512). -/
def State.refQl (s : State) (r : Nat) : Nat :=
  if r < 4 then s.rd Fld.PTP_SYNCE_QL_ASSUMED 0 r
  else if s.rd Fld.LHT_SYNCE_SRC_EN 0 (r - 4) = 1 then (s.esmc (s.rd Fld.LHT_SYNCE_SRC_PORT 0 (r - 4))).ql else 0
/-- CURRENT of a reference follows: a change raises EVT 20.7, and an unusable level disqualifies a SyncE reference. -/
def State.syncQl1 (s : State) (r : Nat) : State :=
  let q := s.refQl r
  if s.rd Fld.PTP_SYNCE_QL_CURRENT 0 r = q then s
  else
    let t := (s.wr Fld.PTP_SYNCE_QL_CURRENT q 0 r).raise Ev.SYNCE_QL_CHANGE .port r q
    if 4 ≤ r ∧ (q = 0 ∨ q = 15) ∧ t.on Fld.LHT_REF_STATUS_PRESENT 0 r = true then t.refGone r else t
/-- The quality levels of all references, and then the selection (R513). -/
def State.syncQl (s : State) : State := ((List.range 6).foldl (fun (t : State) r => t.syncQl1 r) s).reselSynce

/-- ESMC_RECEIVE (R511, R512): a better or equal level acts at once, a worse one after HOLDOFF. -/
def execEsmcReceive (n : Nat) (s : State) : Host.Outcome State Fault Refusal :=
  match s.takeInbox n with
  | none => .next s
  | some (s1, p) =>
    if !s1.on Fld.PTP_CTRL_ESMC_EN then .next s1
    else
      match esmcQl p.orig with
      | none => .next ((s1.bump .ESMC_BAD p.port).raiseSec Ev.ESMC_BAD .port p.port)
      | some q =>
        let x := s1.esmc p.port
        let hold := s1.now + s1.rd Fld.PTP_SYNCE_CFG_HOLDOFF * 10 * msClk
        let y := if qlOrder q ≤ qlOrder x.ql then { x with ql := q, worse := none, at_ := some s1.now }
          else { x with worse := some (q, (x.worse.map Prod.snd).getD hold), at_ := some s1.now }
        .next ((s1.bump .ESMC_RX p.port).setEsmc p.port y).syncQl

/-- ESMC_TIMEOUT (R512): 5 s without an accepted frame. -/
def execEsmcTimeout (port : Nat) (s : State) : Host.Outcome State Fault Refusal :=
  let x := s.esmc port
  match x.at_ with
  | some t =>
    if t + 5 * sClk ≤ s.now then
      let s1 := (s.setEsmc port { x with ql := 0, worse := none, at_ := none }).bump .ESMC_TIMEOUTS port
      .next (s1.raise Ev.ESMC_TIMEOUT .port port).syncQl
    else .next s
  | none => .next s

/-- QL_HOLDOFF_EXPIRY (R512): a worse level has waited HOLDOFF × 10 ms. -/
def execQlHoldoffExpiry (port : Nat) (s : State) : Host.Outcome State Fault Refusal :=
  let x := s.esmc port
  match x.worse with
  | some (q, t) => .next (if t ≤ s.now then (s.setEsmc port { x with ql := q, worse := none }).syncQl else s)
  | none => .next s

/-- The quality level a port sends (R514). -/
def State.sentQl (s : State) (port : Nat) : Nat :=
  let r := s.rd Fld.LHT_STATUS_SYNCE_REF
  if (r = 4 ∨ r = 5) ∧ s.rd Fld.LHT_SYNCE_SRC_PORT 0 (r - 4) = port then 15
  else if s.rd Fld.LHT_STATUS_SYNCE_STATE = 2 ∧ r < 6 then s.rd Fld.PTP_SYNCE_QL_CURRENT 0 r
  else s.rd Fld.PTP_SYNCE_CFG_EEC_QL
/-- Send an ESMC PDU: an event PDU, or an information PDU.  Bytes the manual does not state are free: the clock fields of the
enhanced TLV, and both codes when the selected reference has no valid level. -/
def State.sendEsmc (s : State) (port : Nat) (event : Bool) : State :=
  let q := s.sentQl port
  let (ssm, ext) := match qlCodes.find? (fun e => e.1 == q) with
    | some (_, a, b) => (a, b)
    | none => (freeNat s.fresh % 16, freeNat (s.fresh + 1) % 256)
  let b := bytesBE 6 0x0180C2000002 ++ bytesBE 6 (s.portAddr port) ++ bytesBE 2 0x8809 ++ [0x0A] ++ bytesBE 3 0x0019A7 ++ bytesBE 2 1
    ++ bytesBE 1 (0x10 + if event then 8 else 0) ++ bytesBE 3 0 ++ [1] ++ bytesBE 2 4 ++ bytesBE 1 ssm
    ++ [2] ++ bytesBE 2 20 ++ bytesBE 1 ext ++ freeBytes (s.fresh + 2) 16
  let t := ({ s with fresh := s.fresh + 18 }).keeperFrame port b none
  (t.setEsmc port { t.esmc port with sent := q }).bump .ESMC_TX port
/-- ESMC runs on a port. -/
def State.esmcOn (s : State) (port : Nat) : Bool :=
  s.on Fld.PTP_CTRL_ESMC_EN && s.on Fld.PTP_PORT_CFG_SYNCE_EN 0 port && s.portUp port

/-- ESMC_INFO_SEND (R514): an information PDU once per second. -/
def execEsmcInfoSend (port : Nat) (s : State) : Host.Outcome State Fault Refusal :=
  let x := s.esmc port
  if s.esmcOn port && decide (x.infoAt ≤ s.now) then .next ((s.setEsmc port { x with infoAt := s.nextDue x.infoAt sClk }).sendEsmc port false)
  else .next s

/-- ESMC_EVENT_SEND (R514): an event PDU when the level sent has changed. -/
def execEsmcEventSend (port : Nat) (s : State) : Host.Outcome State Fault Refusal :=
  if s.esmcOn port && s.sentQl port != (s.esmc port).sent then .next (s.sendEsmc port true) else .next s

end Sys2Proof.Machine
end

