-- ==== Sys2Proof/Machine/RegRules.lean ====
section
/-! DEFINITION. Register writes that need no command of their own (spec 00, R10; the register tables of every chapter): the conditions of each
register beside the ranges of its fields, and what an accepted write does beside storing its word. -/
namespace Sys2Proof.Machine

open Sys2Proof.Config

/-! ### Conditions (R10) -/

/-- The port of an item of a per-port array of PRT, MSC or GTE. -/
def RegItem.port (it : RegItem) : Nat := 24 * it.inst + it.i
/-- The register of an item. -/
def RegItem.isReg (it : RegItem) (r : Reg) : Bool := r.base == it.reg.base

/-- A profile of a rule-set slot breaks R170. -/
def State.profBad (s : State) (p slot prof : Nat) : Bool :=
  let w := s.rdReg Reg.RBK_PROF_CTRL p prof 0 slot
  let mask := fun (k : Nat) => (s.rdReg Reg.RBK_PROF_BANKS p prof k slot).toNat
  let on := fun (k : Nat) => bitsOf w (8 * k) 1 == 1
  let width := fun (k : Nat) => bitsOf w (8 * k + 1) 2 - 1
  let has := fun (k b : Nat) => mask k / 2 ^ b % 2 == 1
  let bankBad := fun (k b : Nat) =>
    has k b && (s.bankWidth p b != width k
      || (List.range (groupSize (s.bankWidth p b))).any (fun i => !has k (s.groupBank p b + i))
      || (on k && s.on Fld.RBK_BANK_CFG_SLEEP p b) || (List.range k).any (fun j => has j b))
  (List.range 4).any (fun k => (on k && mask k == 0) || (List.range 32).any (fun b => bankBad k b))
/-- A bank lies in the mask of an enabled lookup of a slot that is not FREE (R172). -/
def State.bankUsed (s : State) (p b : Nat) : Bool :=
  (List.range 2).any (fun slot =>
    let st := s.rd (if slot = 0 then Fld.RBK_EPOCH_STATUS_SLOT0_STATE else Fld.RBK_EPOCH_STATUS_SLOT1_STATE) p
    st != 0 && (List.range 64).any (fun prof => (List.range 4).any (fun k =>
      bitsOf (s.rdReg Reg.RBK_PROF_CTRL p prof 0 slot) (8 * k) 1 == 1
        && (s.rdReg Reg.RBK_PROF_BANKS p prof k slot).toNat / 2 ^ b % 2 == 1)))
/-- The rule stage: a per-slot register is written in the open slot only (R180), within R170, R172 and R174. -/
def State.rbkRegBad (s : State) (it : RegItem) (v : Word) : Bool :=
  let slot := s.writeSlot it.reg it.inst
  let new := s.wrReg it.reg it.inst it.i it.k v slot
  (it.reg.perSlot && (s.openSlot it.inst).isNone)
    || ((it.isReg Reg.RBK_PROF_CTRL || it.isReg Reg.RBK_PROF_BANKS) && new.profBad it.inst slot it.i)
    || ((it.isReg Reg.RBK_MISS_ACT_LO || it.isReg Reg.RBK_MISS_ACT_HI)
        && !actionOk ((new.rdReg Reg.RBK_MISS_ACT_HI it.inst it.i it.k slot) ++ (new.rdReg Reg.RBK_MISS_ACT_LO it.inst it.i it.k slot)))
    || (it.isReg Reg.RBK_BANK_CFG && Fld.RBK_BANK_CFG_SLEEP.onIn v && s.bankUsed it.inst it.i)
/-- One class in two priorities of PRT_PFC_MAP (R109). -/
def State.pfcMapBad (s : State) (it : RegItem) (v : Word) : Bool :=
  let new := s.wrReg it.reg it.inst it.i it.k v
  let m := fun (q : Nat) => bitsOf (new.rdReg Reg.PRT_PFC_MAP it.inst it.i (q / 2)) (16 * (q % 2)) 16
  (List.range 8).any (fun a => (List.range a).any (fun b => Nat.land (m a) (m b) != 0))
/-- Ports and MACs: Table 2.18, R46, R67, R74, R108, R109 and R632.  MIN_WIDTH 0 is taken on a port of one lane and of TYPE 0, which cannot ebb
(DESIGN CHOICE, log entry 100). -/
def State.prtRegBad (s : State) (it : RegItem) (v : Word) : Bool :=
  let p := it.port
  if it.isReg Reg.PRT_ARB_CFG then
    decide (Fld.PRT_ARB_CFG_MID_LIMIT.of v < Fld.PRT_ARB_CFG_LOW_LIMIT.of v ∨ Fld.PRT_ARB_CFG_HIGH_LIMIT.of v < Fld.PRT_ARB_CFG_MID_LIMIT.of v
      ∨ Fld.PRT_ARB_CFG_HIGH_PCP.of v < Fld.PRT_ARB_CFG_MID_PCP.of v)
  else if it.isReg Reg.PRT_EBB_CFG then
    let w := Fld.PRT_EBB_CFG_MIN_WIDTH.of v
    w != 0 && decide ((s.portLanes p).length ≤ 2 ^ w)
  else if it.isReg Reg.PRT_EEE_CFG then decide (1000 < Fld.PRT_EEE_CFG_TW.of v)
  else if it.isReg Reg.PRT_PIPE_CFG then !Fld.PRT_PIPE_CFG_OVERSUB.onIn v && decide (1400 < s.rd Fld.PRT_PIPE_STATUS_RATE_SUM it.inst)
  else if it.isReg Reg.PRT_PAUSE_CFG then
    (s.bundleOf p).isSome
      || (Fld.PRT_PAUSE_CFG_MODE.of v == 0 && (Fld.PRT_PAUSE_CFG_RX_EN.onIn v || Fld.PRT_PAUSE_CFG_TX_EN.onIn v))
  else if it.isReg Reg.PRT_PFC_MAP then s.pfcMapBad it v
  else if it.isReg Reg.PRT_MAC_ADDR_HI then v.toNat / 2 ^ 8 % 2 == 1
  else false
/-- The parser: two of its UDP ports are equal, or one is a PTP port (Table 5.9). -/
def State.prsPortsBad (s : State) (it : RegItem) (v : Word) : Bool :=
  if it.isReg Reg.PRS_UDP_PORTS || it.isReg Reg.PRS_TUN_CFG then
    let new := s.wrReg it.reg it.inst it.i it.k v
    let ps := ([Fld.PRS_UDP_PORTS_VXLAN_PORT, Fld.PRS_UDP_PORTS_GTPU_PORT, Fld.PRS_TUN_CFG_ECPRI_PORT].map (fun f => new.rd f it.inst)).filter
      (fun q => q != 0)
    ps.contains 319 || ps.contains 320 || !decide ps.Nodup
  else false
/-- The table stage: R195, R205 and Table 7.6. -/
def State.exmRegBad (s : State) (it : RegItem) (v : Word) : Bool :=
  let p := it.inst
  if it.isReg Reg.EXM_SECT_LIM then
    let new := s.wrReg it.reg p it.i 0 v
    decide (8192 < (List.range 16).foldl (fun a c => a + new.rd Fld.EXM_SECT_LIM_OVF_QUOTA p c) 0)
  else if it.isReg Reg.EXM_SECT_MISS then !s.resultOk v
  else if it.isReg Reg.EXM_PROF then
    let one := fun (lo : Nat) =>
      let c := bitsOf v (lo + 2) 4
      (bitsOf v lo 1 == 1 && s.rd Fld.EXM_SECT_CFG_SIZE_UNITS p c == 0) || (bitsOf v (lo + 6) 1 == 1 && s.rd Fld.EXM_SECT_CFG_KEY_FMT p c != 0)
    one 0 || one 8
  else false
/-- The lighthouse: R487, Table 16.9. -/
def State.lhtRegBad (s : State) (it : RegItem) (v : Word) : Bool :=
  if it.isReg Reg.LHT_UTC then Fld.LHT_UTC_LEAP61.onIn v && Fld.LHT_UTC_LEAP59.onIn v
  else if it.isReg Reg.LHT_PPS_OUT_CFG then Fld.LHT_PPS_OUT_CFG_MODE.onIn v && s.rd Fld.LHT_RADIO_CFG_RADIO_HZ == 0
  else false
/-- PTP: R496, R517 and R512. -/
def State.ptpRegBad (s : State) (it : RegItem) (v : Word) : Bool :=
  let ql := fun (q : Nat) => decide (9 ≤ q ∧ q ≤ 14)
  if it.isReg Reg.PTP_PORT_CFG then
    let old := s.rdReg Reg.PTP_PORT_CFG 0 it.i 0
    let rates := Fld.PTP_PORT_CFG_SYNC_RATE.of v == 4 && Fld.PTP_PORT_CFG_DELAY_RATE.of v == 4 && Fld.PTP_PORT_CFG_ANN_RATE.of v == 3
    let tr := Fld.PTP_PORT_CFG_TRANSPORT.of v
    (s.on Fld.PTP_PORT_CFG_EN 0 it.i && v.toNat / 2 != old.toNat / 2)
      || (if s.on Fld.PTP_CLK_CFG_PROFILE then decide (tr < 2) else decide (2 ≤ tr) || !rates)
  else if it.isReg Reg.PTP_PORT_ASYM || it.isReg Reg.PTP_PORT_ADDR then s.on Fld.PTP_PORT_CFG_EN 0 it.i
  else if it.isReg Reg.PTP_SYNCE_QL then ql (Fld.PTP_SYNCE_QL_ASSUMED.of v)
  else if it.isReg Reg.PTP_SYNCE_CFG then ql (Fld.PTP_SYNCE_CFG_EEC_QL.of v)
  else false
/-- The keepers and the mailbox: R611, R617 and R618. -/
def State.kprRegBad (s : State) (it : RegItem) (v : Word) : Bool :=
  let ahead := fun (top : Fld) => (s.rd top + 2 ^ 32 - v.toNat) % 2 ^ 32
  let rings := [Reg.KPR_MBX_CMD_BASE_LO, Reg.KPR_MBX_CMD_BASE_HI, Reg.KPR_MBX_CMD_SIZE, Reg.KPR_MBX_RPL_BASE_LO, Reg.KPR_MBX_RPL_BASE_HI,
    Reg.KPR_MBX_RPL_SIZE, Reg.KPR_MBX_NTF_BASE_LO, Reg.KPR_MBX_NTF_BASE_HI, Reg.KPR_MBX_NTF_SIZE]
  (rings.any it.isReg && s.on Fld.KPR_MBX_CTRL_EN)
    || (it.isReg Reg.KPR_MBX_RPL_HEAD && decide (s.rplSize < ahead Fld.KPR_MBX_RPL_TAIL_COUNT))
    || (it.isReg Reg.KPR_MBX_NTF_RD && decide (2 ^ s.rd Fld.KPR_MBX_NTF_SIZE_LOG2 < ahead Fld.KPR_MBX_NTF_WR_COUNT))
/-- The conditions of a register's own table and rules, beside the ranges of its fields, that reject a write. -/
def State.regBad (s : State) (it : RegItem) (v : Word) : Bool :=
  let clears := fun (f : Fld) => s.on f it.inst && !f.onIn v
  match it.reg.blk with
  | 2 => it.isReg Reg.PWR_THERM_CFG && decide (Fld.PWR_THERM_CFG_HOT_C.of v ≤ Fld.PWR_THERM_CFG_WARN_C.of v)
  | 7 =>
    ((it.isReg Reg.HST_RX_BASE_LO || it.isReg Reg.HST_RX_BASE_HI) && s.on Fld.HST_RX_CFG_EN 0 it.i)
      || ((it.isReg Reg.HST_TX_BASE_LO || it.isReg Reg.HST_TX_BASE_HI) && s.on Fld.HST_TX_CFG_EN 0 it.i)
  | 10 =>
    (it.isReg Reg.TTB_HB_SHARE && s.on Fld.TTB_CTRL_BUSY 0) || (it.isReg Reg.TTB_SRAM_SHARE && s.on Fld.TTB_CTRL_BUSY it.inst)
  | 12 => s.prtRegBad it v
  | 13 =>
    s.onP Fld.PRT_MODE_EN it.port
      || (it.isReg Reg.MSC_PORT_CFG && Fld.MSC_PORT_CFG_EN.onIn v && decide (Fld.MSC_PORT_CFG_CIPHER.of v < 2) && decide (7 ≤ s.portType it.port))
  | 15 => s.prsPortsBad it v
  | 16 => s.rbkRegBad it v
  | 17 => s.exmRegBad it v
  | 19 =>
    it.isReg Reg.LRN_PROF && Fld.LRN_PROF_PROBE_EN.onIn v && !s.on Fld.EXM_SECT_CFG_LEARNED_SECT it.inst (Fld.LRN_PROF_PROBE_SECT.of v)
  | 20 =>
    (it.isReg Reg.FLW_PARK_CFG && decide (Fld.FLW_PARK_CFG_LIMIT1.of v < Fld.FLW_PARK_CFG_LIMIT0.of v
        ∨ Fld.FLW_PARK_CFG_LIMIT2.of v < Fld.FLW_PARK_CFG_LIMIT1.of v))
      || (it.isReg Reg.FLW_CLASS_TIME && isOut (s.role it.i) && decide (Fld.FLW_CLASS_TIME_IDLE_S.of v < 120))
  | 22 => it.isReg Reg.EDT_SMAC_HI && v.toNat / 2 ^ 8 % 2 == 1
  | 23 =>
    (it.isReg Reg.BPM_CTRL && clears Fld.BPM_CTRL_EN && s.on Fld.QUE_CTRL_EN it.inst)
      || (it.isReg Reg.BPM_FETCH_MARK && decide (s.rd Fld.BPM_TIDE_MARK_TIDE_MARK it.inst it.i < Fld.BPM_FETCH_MARK_FETCH_MARK.of v))
      || (it.isReg Reg.BPM_PORT_XOFF && Fld.BPM_PORT_XOFF_XOFF_MARK.of v != 0
          && decide (Fld.BPM_PORT_XOFF_XOFF_MARK.of v ≤ Fld.BPM_PORT_XOFF_XON_MARK.of v))
  | 24 => it.isReg Reg.QUE_QSEL && decide (s.queueCount ≤ v.toNat)
  | 25 => it.isReg Reg.SCH_CTRL && clears Fld.SCH_CTRL_EN && s.on Fld.QUE_CTRL_EN it.inst
  | 26 => it.isReg Reg.HBC_ARB_CFG && decide (Fld.HBC_ARB_CFG_AGE2.of v < Fld.HBC_ARB_CFG_AGE1.of v)
  | 27 => s.lhtRegBad it v
  | 28 => s.ptpRegBad it v
  | 29 => s.kprRegBad it v
  | _ => false

/-! ### Effects -/

/-- A write of PRT_PAUSE_CFG: a new MODE cancels the running timers and what waits to be sent (R108); without TX_EN nothing waits; a new MODE
or a set TX_EN sends a frame for the XOFF in force (R824). -/
def State.pauseCfgEffect (s : State) (port : Nat) (old v : Word) : State :=
  let changed := fun (f : Fld) => f.of v != f.of old
  let mode := changed Fld.PRT_PAUSE_CFG_MODE
  let s1 := if mode then s.cancelHolds port else s
  let s2 := if mode || !Fld.PRT_PAUSE_CFG_TX_EN.onIn v then s1.setPort port { s1.port port with gen := [], genSent := [] } else s1
  if mode || changed Fld.PRT_PAUSE_CFG_TX_EN then s2.genForXoff port else s2
/-- What an accepted write does beside storing its word; `old` is the word before. -/
def State.regEffect (s : State) (it : RegItem) (old v : Word) : State :=
  let changed := fun (f : Fld) => f.of v != f.of old
  if it.isReg Reg.PRT_PAUSE_CFG then s.pauseCfgEffect it.port old v
  else if it.reg.perSlot then
    let x := s.rbk it.inst
    s.setRbk it.inst { x with badCfg := Sparse.erase x.badCfg (it.reg.key it.inst it.i it.k (s.writeSlot it.reg it.inst)) }
  else if it.isReg Reg.LRN_SWEEP_CLASS then
    let l := s.lrn it.inst
    s.setLrn it.inst { l with classFrom := Sparse.put l.classFrom it.i (s.rd Fld.LRN_SWEEP_STATUS_PASS it.inst) 0 }
  else if it.isReg Reg.FLW_IPFIX_CFG then
    if changed Fld.FLW_IPFIX_CFG_EN && Fld.FLW_IPFIX_CFG_EN.onIn v then { s with flw := { s.flw with templateAt := [] } } else s
  else if it.isReg Reg.EDT_MIRROR_CFG then
    { s with edt := { s.edt with mirrorCount := Sparse.erase s.edt.mirrorCount (it.inst * 8 + it.i) } }
  else if it.isReg Reg.LHT_SYNCE_SRC then
    (if changed Fld.LHT_SYNCE_SRC_EN && !Fld.LHT_SYNCE_SRC_EN.onIn v then s.refGone (4 + it.i) else s).syncQl
  else if it.isReg Reg.LHT_REF_CFG || it.isReg Reg.PTP_SYNCE_CFG then s.reselect
  else if it.isReg Reg.LHT_MODEL_CFG then s.showModel
  else if it.isReg Reg.PTP_SYNCE_QL then s.syncQl
  else if it.isReg Reg.PTP_PORT_CFG then s.ptpFollow it.i
  else s

/-- The selectors of R790, which the keepers do not write. -/
def RegItem.selector (it : RegItem) : Bool :=
  [Reg.QUE_QSEL, Reg.SCH_ESEL, Reg.SCH_POL_SEL, Reg.GTE_GCL_SEL, Reg.RBK_VIEW, Reg.RST_RING_SEL, Reg.RND_TAMPER_SEL, Reg.EVT_LOG_RD].any it.isReg
/-- A write to a register without a command of its own (R10). -/
def State.plainWrite (s : State) (who : Agent) (it : RegItem) (v : Word) : State :=
  -- BORROW of MAINT and SCRUB is RO 0 (Table 20.4).
  let w := if it.isReg Reg.TTB_HB_SHARE && it.i == 6 then setBitsOf v 14 1 0
    else if it.isReg Reg.TTB_SRAM_SHARE && it.i == 4 then setBitsOf v 9 1 0 else v
  let old := s.rdReg it.reg it.inst it.i it.k (s.writeSlot it.reg it.inst)
  s.busWrite who it.reg it.inst it.i it.k w ((who == .keeper && it.selector) || s.regBad it w) (fun t => t.regEffect it old w)

end Sys2Proof.Machine
end

