-- ==== Sys2Proof/Machine/Rind.lean ====
section
/-! DEFINITION. The commands of the rind (spec 23): fuses, provisioning, image verification, versions, certificates, attestation, the
debug gate, the random generator, sensors and the key store. -/
namespace Sys2Proof.Machine

open Sys2Proof.Config

/-! ### Fuses (R658, R659, R661) -/

/-- FUSE_READ (R658): in phase 1 the fuse array is read by majority vote; each bit whose copies disagree is logged and raises EVT 26.9. -/
def execFuseRead (s : State) : Host.Outcome State Fault Refusal :=
  if s.rst.phaseNext ≠ 1 ∨ s.rst.asserted = true ∨ s.rst.run.isSome = true then .next s
  else
    let r := s.rind
    let vote := (r.fuse0 &&& r.fuse1) ||| (r.fuse0 &&& r.fuse2) ||| (r.fuse1 &&& r.fuse2)
    let odd := (r.fuse0 ^^^ r.fuse1) ||| (r.fuse0 ^^^ r.fuse2)
    let t := ({ s with rind := { r with fuses := vote, fusesRead := true } }).showFuses
    .next ((onesIn 2048 odd.toNat).foldl (fun (u : State) i => (u.tamper 6 (fuseField i / 8)).raise Ev.RND_FUSE_ERR) t)

/-- FUSE_BLOW (R659): the next bit of the fields being programmed is blown in every copy and read back. -/
def execFuseBlow (s : State) : Host.Outcome State Fault Refusal :=
  match s.rind.blow with
  | [] => .next s
  | i :: rest =>
    let b : BitVec 2048 := BitVec.ofNat 2048 (2 ^ i)
    let r := s.rind
    .next ({ s with rind := { r with fuse0 := r.fuse0 ||| b, fuse1 := r.fuse1 ||| b, fuse2 := r.fuse2 ||| b, fuses := r.fuses ||| b, blow := rest } }).showFuses

/-- The bits to blow for a field of a value: those of the value not blown yet, and then the SET bit. -/
def fieldBits (w : BitVec 2048) (f set : BitFld) (v : Nat) : List Nat :=
  (onesIn f.width v).filterMap (fun i => if w.getLsbD (f.lo + i) then none else some (f.lo + i)) ++ [set.lo]
/-- A field not complete yet can take a value: no bit is blown that the value has at 0 (R659). -/
def fieldFits (w : BitVec 2048) (f set : BitFld) (v : Nat) : Bool := !set.on w && Nat.lor (f.get w) v == v
/-- The bits a provisioning request blows, or none when it is refused (R661). -/
def provisionBits (w : BitVec 2048) (signer : BitVec 384) : Provision → Option (List Nat)
  | .ownerHash slot h =>
    let f := if slot = 0 then Fuse.OWNER_HASH0 else Fuse.OWNER_HASH1
    let st := if slot = 0 then Fuse.OWNER0_SET else Fuse.OWNER1_SET
    if slot < 2 ∧ fieldFits w f st h.toNat = true then some (fieldBits w f st h.toNat) else none
  | .debugHash h => if fieldFits w Fuse.DEBUG_HASH Fuse.DEBUG_SET h.toNat then some (fieldBits w Fuse.DEBUG_HASH Fuse.DEBUG_SET h.toNat) else none
  | .virongDebugDis => some [Fuse.VIRONG_DEBUG_DIS.lo]
  | .revoke slot =>
    if slot < 2 ∧ ownerUsable w (1 - slot) = true ∧ ownerHash w slot ≠ signer.toNat then
      some [(if slot = 0 then Fuse.OWNER0_REVOKED else Fuse.OWNER1_REVOKED).lo]
    else none
  | .kwk tagOk k => if tagOk && fieldFits w Fuse.KWK Fuse.KWK_SET k.toNat then some (fieldBits w Fuse.KWK Fuse.KWK_SET k.toNat) else none
/-- The bits of several requests in order, each judged on the fuses the earlier ones leave. -/
def provisionAll (signer : BitVec 384) : BitVec 2048 → List Provision → Option (List Nat)
  | _, [] => some []
  | w, p :: r =>
    match provisionBits w signer p with
    | none => none
    | some bits => (provisionAll signer (bits.foldl (fun (x : BitVec 2048) i => x ||| BitVec.ofNat 2048 (2 ^ i)) w) r).map (fun l => bits ++ l)
/-- A wrapped KWK fails its GCM tag. -/
def kwkBad : Provision → Bool
  | .kwk tagOk _ => !tagOk
  | _ => false
/-- The key store marks the CAKs of the image usable (R700). -/
def State.useImageCaks (s : State) : State :=
  let one := fun (e : Nat × CakSlot) => (e.1, { e.2 with usable := true })
  { s with rind := { s.rind with keys := s.rind.keys.map one } }

/-- PROVISION_APPLY (R661, R700 step 3): after the last digest has passed, the requests of the image's provisioning sections are taken
or refused, and the new CAKs become usable. -/
def execProvisionApply (ps : List Provision) (s : State) : Host.Outcome State Fault Refusal :=
  match s.img.attempt with
  | some a =>
    match a.manifest with
    | some m =>
      if a.provisioned || a.sectionsPassed != m.sections.length then .next s
      else if ps.any kwkBad then .next (s.refuseImage 6)
      else
        match provisionAll m.signerHash s.rind.fuses ps with
        | none => .next (s.refuseImage 7)
        | some bits =>
          let t := s.setAttempt { a with provisioned := true }
          .next ({ t with rind := { t.rind with blow := bits } }).useImageCaks
    | none => .next s
  | none => .next s

/-! ### Image verification (R662, R663) -/

/-- MANIFEST_VERIFY (R662, R696 to R699): the manifest of the slot being loaded is checked before any section is read. -/
def execManifestVerify (m : Manifest) (s : State) : Host.Outcome State Fault Refusal :=
  match s.img.attempt with
  | some a =>
    if a.manifest.isSome then .next s
    else if badHeader s.stride a.slot m then .next (s.failAttempt 2)
    else
      let code := s.rind.refusal m
      if code ≠ 0 then .next (s.refuseImage code) else .next (s.setAttempt { a with manifest := some m })
  | none => .next s

/-- The image is accepted (R670): measurement, digest, version and signer. -/
def State.acceptImage (s : State) (m : Manifest) : State :=
  let r := s.rind
  let w := r.fuses
  let t := { s with rind := { r with meas := extendMeas romDigest m.digest, imageDigest := m.digest, virongSigned := !owned w,
                                     ownerSlot := (slotOfKey w m.signerHash).getD 0, imageCommit := m.commit } }
  t.wr Fld.RND_SVN_LOADED_SVN m.svn
/-- Store the CAKs of a key section, not usable yet; no when the store is full. -/
def State.storeCaks (s : State) : List (WrappedCak × List Nat) → Option State
  | [] => some s
  | (k, ports) :: r =>
    match s.freeCak with
    | none => none
    | some i => (s.putCak i { cak := k.key, ckn := k.ckn, bytes := k.bytes, ports := ports, host := false, usable := false, retiring := false }).storeCaks r

/-- SECTION_HASH (R663): the rind has hashed the next section; a wrong digest, or a key section whose tag fails, refuses the image.
`keys` are the CAKs of a key section with the ports each names. -/
def execSectionHash (digest : BitVec 384) (tagOk : Bool) (keys : List (WrappedCak × List Nat)) (s : State) : Host.Outcome State Fault Refusal :=
  match s.img.attempt with
  | some a =>
    match a.manifest with
    | some m =>
      match m.sections[a.sectionsPassed]? with
      | none => .next s
      | some x =>
        if x.digest ≠ digest then .next (s.refuseImage 5)
        else if (x.kind == 6 && !tagOk) || (x.kind == 5 && (!tagOk || !Fuse.KWK_SET.on s.rind.fuses)) then .next (s.refuseImage 6)
        else
          match s.storeCaks (if x.kind = 5 then keys else []) with
          | none => .next (s.failAttempt 4)
          | some t =>
            let last := a.sectionsPassed + 1 == m.sections.length
            let asks := m.sections.any (fun y => y.kind == 6)
            let u := t.setAttempt { a with sectionsPassed := a.sectionsPassed + 1, provisioned := last && !asks }
            let v := if last then u.acceptImage m else u
            .next (if last && !asks then v.useImageCaks else v)
    | none => .next s
  | none => .next s

/-! ### Versions (R665, R666) -/

/-- 600 s. -/
def commitClk : Nat := 600 * sClk
/-- The golden slot's manifest verifies and carries a version at least as high as the image's. -/
def State.goldenAllows (s : State) (g : Manifest) : Bool :=
  !badHeader s.stride 2 g && s.rind.refusal g == 0 && decide (s.rd Fld.RND_SVN_LOADED_SVN ≤ g.svn)
/-- The check of the golden slot: the version is committed, or the commit waits. -/
def State.commitSvn (s : State) (g : Manifest) : State :=
  let v := s.rd Fld.RND_SVN_LOADED_SVN
  let n := s.rind.imageSvn
  if s.goldenAllows g then
    let bits := (List.range (min 64 v - n)).map (fun i => Fuse.IMAGE_SVN.lo + n + i)
    let t := { s with rind := { s.rind with blow := s.rind.blow ++ bits, recheckAt := none, runSince := none } }
    ((t.wr Fld.RND_SVN_COMMIT_PENDING 0).tamper 9 v).raise Ev.RND_SVN_COMMIT .device 0 v
  else
    let t := { s with rind := { s.rind with recheckAt := some s.now } }
    (t.wr Fld.RND_SVN_COMMIT_PENDING 1).raise Ev.RND_SVN_DEFERRED
/-- SVN_COMMIT_DUE (R665): 600 s after the Transmitter enable phase with no warm reset, an image of slot A or B with COMMIT set and a
higher version is committed if the golden slot allows it. -/
def execSvnCommitDue (golden : Manifest) (s : State) : Host.Outcome State Fault Refusal :=
  match s.rind.runSince with
  | some t =>
    if t + commitClk ≤ s.now ∧ s.rind.imageCommit = true ∧ s.rind.recheckAt.isNone = true ∧ s.rd Fld.IMG_STATUS_SLOT < 2
        ∧ s.rind.imageSvn < s.rd Fld.RND_SVN_LOADED_SVN then .next (s.commitSvn golden)
    else .next s
  | none => .next s
/-- SVN_RECHECK (R665): a pending commit checks the golden slot again every 600 s. -/
def execSvnRecheck (golden : Manifest) (s : State) : Host.Outcome State Fault Refusal :=
  match s.rind.recheckAt with
  | some t => .next (if t + commitClk ≤ s.now then s.commitSvn golden else s)
  | none => .next s
/-- PATCH_SVN_COMMIT (R666): a patch with COMMIT in force for 600 s advances PATCH_SVN. -/
def execPatchSvnCommit (s : State) : Host.Outcome State Fault Refusal :=
  match s.rind.patchCommit with
  | some (v, t) =>
    if t + commitClk ≤ s.now then
      let n := s.rind.patchSvn
      let bits := (List.range (min 32 v - n)).map (fun i => Fuse.PATCH_SVN.lo + n + i)
      let u := { s with rind := { s.rind with blow := s.rind.blow ++ bits, patchCommit := none } }
      .next (if bits.isEmpty then u else (u.tamper 9 v).raise Ev.RND_SVN_COMMIT .device 0 v)
    else .next s
  | none => .next s

/-! ### RND_CMD (R668, R671, R681, R682) -/

/-- A write of RND_CMD with one command bit: rejected while BUSY = 1 (R671). -/
def State.rndCmd (s : State) (who : Agent) (bit : Nat) (f : State → State) : State :=
  s.busCheck who Reg.RND_CMD 0 0 0 (BitVec.ofNat 32 (2 ^ bit)) (s.on Fld.RND_CMD_BUSY) f
/-- RESULT: 1 OK, 2 refused. -/
def State.rndResult (s : State) (ok : Bool) : State := s.wr Fld.RND_CMD_RESULT (if ok then 1 else 2)
/-- The words of a record, as RND_WINDOW returns them. -/
def winWords {n : Nat} (k : Nat) (w : BitVec n) : Sparse Word :=
  ((List.range k).map (fun i => (i, BitVec.ofNat 32 (w.toNat / 2 ^ (32 * i))))).filter (fun (e : Nat × Word) => e.2 != 0)
/-- The number the staged words of RND_WINDOW spell. -/
def State.winNat (s : State) (k : Nat) : Nat :=
  (List.range k).foldl (fun a i => a + (Sparse.get s.rind.winIn i 0).toNat * 2 ^ (32 * i)) 0

/-- CERT_INSTALL (R668): the owner certificate in RND_WINDOW is installed once.  `issuerHash` is the SHA-384 of its ISSUER_PUB, and
`sigOk` says that SIG verifies. -/
def execCertInstall (who : Agent) (issuerHash : BitVec 384) (sigOk : Bool) (s : State) : Host.Outcome State Fault Refusal :=
  .next (s.rndCmd who 3 (fun t =>
    let c : BitVec 3168 := BitVec.ofNat 3168 (t.winNat 99)
    let ok := Cert.KIND.get c == 2 && Cert.ID_PUB.get c == identityPub.toNat && Cert.TRANSPORT_PUB.get c == transportPub.toNat
      && (slotOfKey t.rind.fuses issuerHash).isSome && sigOk && t.rind.ownerCert.isNone
    (if ok then { t with rind := { t.rind with ownerCert := some c } } else t).rndResult ok))

/-- The report of Table 23.4 at this instant. -/
def State.attestReport (s : State) : BitVec 2816 :=
  let r := s.rind
  let nonce := (List.range 8).foldl (fun a i => a + s.rd Fld.RND_NONCE_NONCE 0 i * 2 ^ (32 * i)) 0
  let tv := s.on Fld.LHT_STATUS_TIME_VALID
  let w : BitVec 2816 := setFields 0 [(Report.NONCE, nonce), (Report.ID_DIGEST, (sha384 (bvBytes 96 identityPub)).toNat),
    (Report.IMAGE_DIGEST, r.imageDigest.toNat), (Report.MEAS, r.meas.toNat), (Report.IMAGE_SVN, r.imageSvn), (Report.PATCH_SVN, r.patchSvn),
    (Report.SLOT, s.rd Fld.IMG_STATUS_SLOT), (Report.LOADED_SVN, s.rd Fld.RND_SVN_LOADED_SVN), (Report.VIRONG_SIGNED, r.virongSigned.toNat),
    (Report.OWNER_SLOT, r.ownerSlot), (Report.DEBUG_SEEN, r.debugSeen.toNat), (Report.DEBUG_VIRONG, r.debugVirong.toNat),
    (Report.KWK_SET, (Fuse.KWK_SET.on r.fuses).toNat), (Report.PATCH_LEVEL, s.rd Fld.KPR_UCODE_PATCH_LEVEL),
    (Report.ROM_VERSION, romVersion.toNat), (Report.TAMPER_COUNT, s.rd Fld.RND_TAMPER_COUNT_COUNT), (Report.RESET_COUNT, s.rd Fld.RST_COUNT_COUNT),
    (Report.TIME, s.tod96), (Report.TIME_VALID, tv.toNat)]
  let d := sha384 (bytesOfNat 256 (w.toNat % 2 ^ 2048))
  setFields w [(Report.SIG_R, (signR d).toNat), (Report.SIG_S, (signS d).toNat)]
/-- A report of this instant is being made (R671). -/
def State.startReport (t : State) : State :=
  let u := { t with rind := { t.rind with op := some { kind := 0, at_ := t.now, report := t.attestReport } } }
  (u.wr Fld.RND_CMD_BUSY 1).wr Fld.RND_CMD_RESULT 0
/-- ATTEST (R671): the report is of the instant at which the write is accepted. -/
def execAttest (who : Agent) (s : State) : Host.Outcome State Fault Refusal := .next (s.rndCmd who 0 State.startReport)
/-- ATTEST_REPORT_DONE (R671): the report is complete in RND_WINDOW. -/
def execAttestReportDone (s : State) : Host.Outcome State Fault Refusal :=
  match s.rind.op with
  | some o =>
    let t := { s with rind := { s.rind with op := none, winOut := winWords 88 o.report } }
    .next ((t.wr Fld.RND_CMD_BUSY 0).rndResult true)
  | none => .next s

/-- A challenge: 32 random bytes, SERIAL, IMAGE_SVN and the ROM version; refused while the generator has failed (R680, R681). -/
def State.makeChallenge (t : State) : State :=
  if t.on Fld.RND_STATUS_RNG_OK then
    let tail := challengeTail t.rind.imageSvn romVersion
    let c : BitVec 512 := BitVec.ofNat 512 (freeNat t.fresh % 2 ^ 256 + serial.toNat * 2 ^ 256 + tail.toNat * 2 ^ 320)
    let u := { t.draw with rind := { t.rind with challenge := some { bits := c, at_ := t.now }, winOut := winWords 16 c } }
    u.rndResult true
  else t.rndResult false
/-- DEBUG_CHALLENGE (R680, R681). -/
def execDebugChallenge (who : Agent) (s : State) : Host.Outcome State Fault Refusal := .next (s.rndCmd who 1 State.makeChallenge)
/-- CHALLENGE_EXPIRY (R681): a challenge is valid for 60 s. -/
def execChallengeExpiry (s : State) : Host.Outcome State Fault Refusal :=
  match s.rind.challenge with
  | some c => .next (if c.at_ + 60 * sClk ≤ s.now then { s with rind := { s.rind with challenge := none } } else s)
  | none => .next s
/-- The kind of key that signed an acceptable response: 1 owner, 2 Virong. -/
def State.debugKey (s : State) (keyHash : BitVec 384) : Option Nat :=
  let w := s.rind.fuses
  if Fuse.DEBUG_SET.on w && Fuse.DEBUG_HASH.get w == keyHash.toNat then some 1
  else if !Fuse.VIRONG_DEBUG_DIS.on w && keyHash == virongDebugHash then some 2
  else none
/-- A refused response: logged, EVT 26.4; the third since the last cold reset locks. -/
def State.debugFail (s : State) : State :=
  let n := s.rind.debugFails + 1
  let t := { s with rind := { s.rind with debugFails := n } }
  let u := (((t.bump .RND_DEBUG_FAILS).tamper 2 (t.rd Fld.RND_DBG_SCOPE_SCOPE)).raise Ev.RND_DEBUG_AUTH_FAIL).rndResult false
  if n = 3 then (u.wr Fld.RND_STATUS_DEBUG_LOCKED 1).tamper 7 0 else u
/-- DEBUG_RESPONSE (R681, R682): `keyHash` is the SHA-384 of the signer's key, and `sigOk` says that its signature over the challenge
and the scope verifies. -/
def execDebugResponse (who : Agent) (keyHash : BitVec 384) (sigOk : Bool) (s : State) : Host.Outcome State Fault Refusal :=
  .next (s.rndCmd who 2 (fun t =>
    let scope := t.rd Fld.RND_DBG_SCOPE_SCOPE
    let live := t.rind.challenge.elim false (fun c => decide (t.now < c.at_ + 60 * sClk))
    let u := { t with rind := { t.rind with challenge := none } }
    match t.debugKey keyHash with
    | some k =>
      if !live || !sigOk || t.on Fld.RND_STATUS_DEBUG_LOCKED || (k == 1 && decide (4 ≤ scope)) then u.debugFail
      else
        let a := (u.zeroise.zeroiseSas).tamper 1 scope
        let b := { a with rind := { a.rind with debugSeen := true, debugVirong := k == 2, gateScope := scope } }
        (((b.wr Fld.RND_STATUS_DEBUG_OPEN 1).wr Fld.RND_STATUS_DEBUG_KIND k).raise Ev.RND_DEBUG_OPEN).rndResult true
    | none => u.debugFail))

/-! ### The random generator and the sensors (R680, R684) -/

/-- RNG_HEALTH_FAIL (R680): generation stops. -/
def execRngHealthFail (s : State) : Host.Outcome State Fault Refusal :=
  .next (((s.wr Fld.RND_STATUS_RNG_OK 0).tamper 8 0).raise Ev.RND_RNG_FAIL)
/-- RNG_HEALTH_PASS (R680): a test window passes, and generation resumes. -/
def execRngHealthPass (s : State) : Host.Outcome State Fault Refusal := .next (s.wr Fld.RND_STATUS_RNG_OK 1)
/-- GLITCH_TRIP (R684, R690): the operation in progress is aborted and the key store zeroised; an attempt in progress fails. -/
def execGlitchTrip (sensor : Nat) (s : State) : Host.Outcome State Fault Refusal :=
  let t := if s.rind.op.isSome then ({ s with rind := { s.rind with op := none } }).wr Fld.RND_CMD_BUSY 0 else s
  .next (((t.zeroise.tamper 5 sensor).raise Ev.RND_TAMPER).failAttempt 6)

/-! ### Keys (R677, R678) -/

/-- KEY_WRITE (R677, R678): a wrapped CAK for a port; the older host CAK of the port is to be retired. -/
def execKeyWrite (tag : Nat) (key : WrappedCak) (s : State) : Host.Outcome State Fault Refusal :=
  if !s.mbxRuns tag opKeyWrite then .next s
  else
    let p := key.port
    let old := s.hostCaks p
    let len := if s.rdP Fld.MSC_PORT_CFG_CIPHER p % 2 = 0 then 16 else 32
    if !s.onP Fld.MSC_PORT_CFG_KEY_SOURCE p then .next ((s.violation 3 0 opKeyWrite).reply tag .noRight 0 0 0 true)
    else if key.bytes ≠ len then .next (s.reply tag .badRule 0 0 0 true)
    else if !key.tagOk || !Fuse.KWK_SET.on s.rind.fuses then .next (s.reply tag .badKey 0 0 0 true)
    else if 2 ≤ old.length then .next (s.reply tag .busy 0 0 0 true)
    else
      match s.freeCak with
      | none => .next (s.reply tag .full 0 0 0 true)
      | some i =>
        let mark := fun (e : Nat × CakSlot) => if old.contains e.1 then (e.1, { e.2 with retiring := true }) else e
        let t := { s with rind := { s.rind with keys := s.rind.keys.map mark } }
        let u := t.putCak i { cak := key.key, ckn := key.ckn, bytes := key.bytes, ports := [p], host := true, usable := true, retiring := false }
        .next ((u.bump .RND_KEY_WRITES).reply tag .ok 0 0 (u.cakHandle i) true)
/-- The transmit SA in use of a port is of the association of a CAK that is not to be retired. -/
def State.newSaUsed (s : State) (port : Nat) : Bool :=
  let y := s.secy port
  let an := s.rdP Fld.MSC_SA_STATUS_TX_AN port
  (Sparse.find y.txSas an).isSome &&
    (Sparse.find y.cakAn an).elim false (fun i => (Sparse.find s.rind.keys i).elim false (fun c => !c.retiring))
/-- The SAs of an old CAK are zeroised with it (R678). -/
def State.dropAssociation (s : State) (port i : Nat) : State :=
  let y := s.secy port
  let stays := fun (a : Nat) => Sparse.find y.cakAn a != some i
  let y1 := { y with txSas := y.txSas.keep stays, rx := y.rx.map (fun c => { c with sas := c.sas.keep stays }), saks := y.saks.keep stays,
                     cakAn := y.cakAn.keep stays, linger := y.linger.filter (fun e => stays e.1) }
  ((s.setSecy port y1).showTxSa port).dropCak i
/-- CAK_RETIRE (R678): once the association of the new CAK of a port has its first SA in use, the old CAK, with its ICK, KEK and SAs, is
zeroised. -/
def execCakRetire (port : Nat) (s : State) : Host.Outcome State Fault Refusal :=
  let old := (s.hostCaks port).filter (fun i => (Sparse.find s.rind.keys i).elim false CakSlot.retiring)
  .next (if s.newSaUsed port then old.foldl (fun (t : State) i => t.dropAssociation port i) s else s)

end Sys2Proof.Machine
end

