-- ==== Sys2Proof/Machine/Scheduler.lean ====
section
/-! DEFINITION. The commands of the scheduler's element window, the shapers and the policers (spec 15). -/
namespace Sys2Proof.Machine

open Sys2Proof.Config

/-- The element the window selects: level and index (R449). -/
def State.selected (s : State) (slice : Nat) : Nat × Nat :=
  (s.rd Fld.SCH_ESEL_LEVEL slice, s.rd Fld.SCH_ESEL_INDEX slice)

/-- The listed elements of a slice whose parent is the given one. -/
def State.children (s : State) (slice : Nat) (p : Nat × Nat) : List (Nat × Nat) :=
  (s.sch.elems.filter (fun e => e.1 / 65536 / 5 == slice && e.1 / 65536 % 5 != 0
    && e.2.parentLevel == p.1 && e.2.parent == p.2)).map (fun e => (e.1 / 65536 % 5, e.1 % 65536))

/-- An element is enabled: a node by its EN, a queue by QUE_QCFG.EN (R437). -/
def State.elemEnabled (s : State) (slice : Nat) (c : Nat × Nat) : Bool :=
  if c.1 = 4 then s.qEn slice c.2 else if c.1 = 0 then true else (s.elem slice c.1 c.2).en

/-- The checks of R436 on a write of the staged configuration. -/
def State.elemWriteBad (s : State) (slice : Nat) : Bool :=
  let (level, idx) := s.selected slice
  let old := s.elem slice level idx
  let en := s.on Fld.SCH_ECFG_EN slice
  let pl := s.rd Fld.SCH_ECFG_PARENT_LEVEL slice
  let pi := s.rd Fld.SCH_ECFG_PARENT slice
  let newPort := ((s.pathUp slice 5 pl pi).getLast?.map Prod.snd).getD 26
  let kids := s.children slice (level, idx)
  decide (s.levelCount level ≤ idx) ||
    (level != 0 &&
      (decide (level ≤ pl) || decide (s.levelCount pl ≤ pi)
        || (pl != 0 && !(s.elem slice pl pi).en)
        || (level == 4 && newPort != s.qPort slice idx)
        || (level != 4 && !kids.isEmpty && newPort != ((s.pathUp slice 5 level idx).getLast?.map Prod.snd).getD 26)
        || ((pl != old.parentLevel || pi != old.parent) && s.elemBacklogged slice level idx)
        || (level != 4 && !en && old.en && kids.any (fun c => s.elemEnabled slice c))))

/-- Apply the staged configuration to the selected element (R449, R447, R448). -/
def State.elemApply (s : State) (slice : Nat) : State :=
  let (level, idx) := s.selected slice
  let old := s.elem slice level idx
  let rate := s.rd Fld.SCH_ERATE_RATE slice
  let burst := s.rd Fld.SCH_EBURST_BURST slice
  let shape := s.on Fld.SCH_EWEIGHT_SHAPE_EN slice
  let fill := s.on Fld.SCH_EWEIGHT_FILL slice
  let full := s.rd Fld.SCH_CFG_MODE == 1
  let changed := rate != old.rate || burst != old.burst || shape != old.shapeEn
  let credit := if full || !changed then old.credit else if fill then ((burst * 256 : Nat) : Int) else 0
  s.setElem slice level idx
    { old with
      en := if level = 0 ∨ level = 4 then old.en else s.on Fld.SCH_ECFG_EN slice,
      parentLevel := if level = 0 then 0 else s.rd Fld.SCH_ECFG_PARENT_LEVEL slice,
      parent := if level = 0 then 0 else s.rd Fld.SCH_ECFG_PARENT slice,
      prio := s.rd Fld.SCH_ECFG_PRIO slice, weight := s.rd Fld.SCH_EWEIGHT_WEIGHT slice, shapeEn := shape,
      rate := rate, burst := burst, credit := credit,
      refillAt := if full || !changed then old.refillAt else s.now,
      fillDue := if full && shape && !old.shapeEn then true else old.fillDue }

/-- SCH_ELEMENT_WRITE (R449): a write of SCH_ECMD with WRITE = 1; the checks of R436 reject it whole. -/
def execSchElementWrite (who : Agent) (slice : Nat) (v : Word) (s : State) : Host.Outcome State Fault Refusal :=
  .next (s.busWrite who Reg.SCH_ECMD slice 0 0 v (s.elemWriteBad slice) (fun t => t.elemApply slice))

/-- A signed number as a field of `w` bits. -/
def signedField (x : Int) (w : Nat) : Nat := (x % (2 ^ w : Nat)).toNat

/-- Load an element's configuration and state into the window (R449). -/
def State.elemLoad (s : State) (slice : Nat) : State :=
  let (level, idx) := s.selected slice
  let e := s.elem slice level idx
  let bl := s.elemBacklogged slice level idx
  let el := (s.choose slice (s.backlog slice) 5 (level, idx)).isSome
  let vt := if level = 4 then
      (if s.qBacklogged slice idx then (e.s + e.cost (s.headLen slice idx)) % 2 ^ 32 else e.f)
    else e.v
  let s1 := (((s.wrB Fld.SCH_ECFG_EN (s.elemEnabled slice (level, idx)) slice).wr Fld.SCH_ECFG_PARENT_LEVEL e.parentLevel
    slice).wr Fld.SCH_ECFG_PARENT e.parent slice).wr Fld.SCH_ECFG_PRIO e.prio slice
  let s2 := (((s1.wr Fld.SCH_EWEIGHT_WEIGHT e.weight slice).wrB Fld.SCH_EWEIGHT_SHAPE_EN e.shapeEn slice).wr
    Fld.SCH_ERATE_RATE e.rate slice).wr Fld.SCH_EBURST_BURST e.burst slice
  (((s2.wr Fld.SCH_ESTATUS_CREDIT (signedField (s.creditNow e / 256) 25) slice).wrB Fld.SCH_ESTATUS_ELIGIBLE el slice).wrB
    Fld.SCH_ESTATUS_BACKLOGGED bl slice).wr Fld.SCH_EVTIME_VTIME vt slice

/-- SCH_ELEMENT_READ (R449): a write of SCH_ECMD with READ = 1. -/
def execSchElementRead (who : Agent) (slice : Nat) (v : Word) (s : State) : Host.Outcome State Fault Refusal :=
  .next (s.busWrite who Reg.SCH_ECMD slice 0 0 v false (fun t => (t.readElems slice [t.selected slice]).elemLoad slice))

/-- One element's refill (R446, R448). -/
def Elem.refill (e : Elem) (now : Nat) : Elem :=
  let cap : Int := ((e.burst * 256 : Nat) : Int)
  if e.fillDue then { e with credit := cap, fillDue := false, refillAt := now }
  else { e with credit := min cap (e.credit + (shaperGain e.rate 2048 : Nat)), refillAt := now }

/-- SHAPER_REFILL (R446): in full mode a slice refills every shaped element once every 2,048 core clocks. -/
def execShaperRefill (slice : Nat) (s : State) : Host.Outcome State Fault Refusal :=
  if s.rd Fld.SCH_CFG_MODE = 1 ∧ Sparse.get s.sch.refill slice 0 + 2048 ≤ s.now then
    let s1 := { s with sch := { s.sch with refill := Sparse.insert s.sch.refill slice s.now } }
    .next (s.sch.elems.foldl (fun t e =>
      if e.1 / 65536 / 5 = slice ∧ e.2.effShaped = true then
        t.setElem slice (e.1 / 65536 % 5) (e.1 % 65536) (e.2.refill s.now)
      else t) s1)
  else .next s

/-- The metered length of a packet (R452). -/
def State.meteredLen (s : State) (p : Packet) : Nat :=
  if p.ended.isSome && decide (p.orig.length + 4 ≤ 256) then p.orig.length + 4
  else if ParseRes.OUTER_L3_IDX.get p.parse ≠ 15 then ParseRes.IP_END.get p.parse + 4
  else if p.port < 96 then s.maxFor p.port p.orig
  else 16000

/-- POLICER_DECISION (R451 to R455): the colour is decided and tokens are reserved when the head reaches the policer, in the order in
which packets came there; the colour's action takes effect. -/
def execPolicerDecision (n : Nat) (s : State) : Host.Outcome State Fault Refusal :=
  let p := s.pkt n
  let ahead := s.pkts.any (fun (e : Nat × Packet) => e.2.stage == .policer && e.2.pipe == p.pipe && decide (e.2.polAt < p.polAt))
  if (Sparse.find s.pkts n).isNone || p.stage != .policer || ahead then .next s
  else
    match p.policer with
    | none => .next (s.setPkt n { p with stage := .edit })
    | some i =>
      let x := (s.pol p.pipe i).refill s.now
      let m := s.meteredLen p
      let (col, y) := x.decide m
      let act := if x.mode = 0 then 0
        else if col = 0 then Fld.SCH_POL_CFG_GREEN_ACT.of x.cfg
        else if col = 1 then Fld.SCH_POL_CFG_YELLOW_ACT.of x.cfg else Fld.SCH_POL_CFG_RED_ACT.of x.cfg
      let val := if col = 0 then Fld.SCH_POL_CFG_GREEN_VAL.of x.cfg
        else if col = 1 then Fld.SCH_POL_CFG_YELLOW_VAL.of x.cfg else Fld.SCH_POL_CFG_RED_VAL.of x.cfg
      let p1 := { p with stage := .edit, colour := some (col, m) }
      let p2 := if act = 1 then { p1 with polDscp := some val } else if act = 2 then { p1 with cls := val } else p1
      let s1 := (s.setPol p.pipe i y).setPkt n p2
      if act = 3 then
        .next ((s1.setPkt n { p2 with polDrop := true }).discard n)
      else .next s1

/-- The staged policer configuration is refused (R455, R456). -/
def State.polWriteBad (s : State) (p : Nat) : Bool :=
  let m := s.rd Fld.SCH_POL_CFG_MODE p
  let cls := fun (a v : Fld) => s.rd a p == 2 && decide (15 < s.rd v p)
  (m == 2 && decide (s.rd Fld.SCH_POL_PIR_PIR p < s.rd Fld.SCH_POL_CIR_CIR p))
    || (m != 0 && decide (s.rd Fld.SCH_POL_CBS_CBS p < 64))
    || (m == 2 && decide (s.rd Fld.SCH_POL_EBS_EBS p < 64))
    || cls Fld.SCH_POL_CFG_GREEN_ACT Fld.SCH_POL_CFG_GREEN_VAL
    || cls Fld.SCH_POL_CFG_YELLOW_ACT Fld.SCH_POL_CFG_YELLOW_VAL
    || cls Fld.SCH_POL_CFG_RED_ACT Fld.SCH_POL_CFG_RED_VAL

/-- POLICER_WRITE (R456): a write of SCH_POL_CMD with WRITE = 1; FILL fills the buckets, else they are clamped. -/
def execPolicerWrite (who : Agent) (p : Nat) (v : Word) (s : State) : Host.Outcome State Fault Refusal :=
  .next (s.busWrite who Reg.SCH_POL_CMD p 0 0 v (s.polWriteBad p) (fun t =>
    let i := t.rd Fld.SCH_POL_SEL_INDEX p
    let old := (t.pol p i).refill t.now
    let cbs := t.rd Fld.SCH_POL_CBS_CBS p
    let ebs := t.rd Fld.SCH_POL_EBS_EBS p
    let fill := t.on Fld.SCH_POL_CFG_FILL p
    t.setPol p i
      { old with
        cfg := t.rdReg Reg.SCH_POL_CFG p 0 0, cir := t.rd Fld.SCH_POL_CIR_CIR p, pir := t.rd Fld.SCH_POL_PIR_PIR p,
        cbs := cbs, ebs := ebs, c := if fill then cbs * 1024 else min (cbs * 1024) old.c,
        e := if fill then ebs * 1024 else min (ebs * 1024) old.e }))

/-- POLICER_READ (R456): a write of SCH_POL_CMD with READ = 1 loads configuration and buckets. -/
def execPolicerRead (who : Agent) (p : Nat) (v : Word) (s : State) : Host.Outcome State Fault Refusal :=
  .next (s.busWrite who Reg.SCH_POL_CMD p 0 0 v false (fun t =>
    let x := t.pol p (t.rd Fld.SCH_POL_SEL_INDEX p)
    ((((((t.wrReg Reg.SCH_POL_CFG p 0 0 x.cfg).wr Fld.SCH_POL_CIR_CIR x.cir p).wr Fld.SCH_POL_PIR_PIR x.pir p).wr
      Fld.SCH_POL_CBS_CBS x.cbs p).wr Fld.SCH_POL_EBS_EBS x.ebs p).wr Fld.SCH_POL_TC_TC (x.c / 1024) p).wr
        Fld.SCH_POL_TP_TP (x.e / 1024) p))

/-- SCH_STATE_ECC_FIX (R457): an error in the state of an element, or in a policer's buckets: one that the ECC corrects is counted;
at an uncorrectable one the element takes S := V of its parent and C := 0, or the buckets are set full. -/
def execSchStateEccFix (slice : Nat) (policer : Bool) (level : Nat) (site : EccAt) (s : State) :
    Host.Outcome State Fault Refusal :=
  if site.corrected then .next (s.bump .SCH_ECC_CORRECTED slice)
  else if policer then
    let x := s.pol slice site.idx
    .next ((s.setPol slice site.idx { x with c := x.cbs * 1024, e := x.ebs * 1024 }).raise Ev.POL_STATE_ECC .pipeline slice)
  else .next (s.elemFix slice level site.idx)

end Sys2Proof.Machine
end

