-- ==== Sys2Proof/Machine/Sessions.lean ====
section
/-! DEFINITION. The commands of the session stage (spec 11): the outcome of a packet, the session operations of the mailbox,
usage, buffering and replay, and the GTP-U messages the keepers send. -/
namespace Sys2Proof.Machine

open Sys2Proof.Config

/-! ### The outcome of a packet (R328 to R331) -/

/-- The QFI of the first PDU session container in a GTP-U header at an offset (type 0x85): the low six bits of its second
content byte (TS 38.415). -/
def qfiAt (b : List Byte) : Nat → Nat → Nat → Option Nat
  | 0, _, _ => none
  | n + 1, off, t =>
    if t = 0 then none
    else
      let len := byteAt b off * 4
      if t = 0x85 then some (byteAt b (off + 2) % 64)
      else if len = 0 then none
      else qfiAt b n (off + len) (byteAt b (off + len - 1))
/-- The QFI of an uplink packet. -/
def Packet.qfi (p : Packet) : Option Nat :=
  match p.gtpu with
  | some o => if byteAt p.parsed o / 4 % 2 = 1 then qfiAt p.parsed 4 (o + 12) (byteAt p.parsed (o + 11)) else none
  | none => none
/-- The level of the user IP header: inner for uplink, outer for downlink. -/
def userLevel (downlink : Bool) : Nat := if downlink then 0 else 1
/-- Octets of a packet (R329): its user IP datagram. -/
def Packet.userOctets (p : Packet) (downlink : Bool) : Nat :=
  let i := if downlink then ParseRes.OUTER_L3_IDX.get p.parse else ParseRes.INNER_L3_IDX.get p.parse
  if i = 15 then 0
  else
    let (c, o) := prHdr p.parse i
    if c = 9 then be16 p.parsed (o + 2) else 40 + be16 p.parsed (o + 4)

/-- A PDR matches (R329). -/
def pdrMatches (w : BitVec 64) (p : Packet) (downlink : Bool) : Bool :=
  let f := p.fields (userLevel downlink)
  let port := if downlink then f.src else f.dst
  Pdr.EN.on w && Pdr.DIR.on w == downlink
    && (!Pdr.QFI_EN.on w || p.qfi == some (Pdr.QFI.get w))
    && (!Pdr.PROTO_EN.on w || (f.l3 != 0 && f.proto == Pdr.PROTO.get w))
    && (!Pdr.PORT_EN.on w || (f.l4 && decide (Pdr.PORT_LO.get w ≤ port) && decide (port ≤ Pdr.PORT_HI.get w)))

/-- Time of day in microseconds modulo 2^24. -/
def State.todUs (s : State) : Nat := (s.todSec * 1000000 + s.todNsec / 1000) % 2 ^ 24

/-- The rate of a QER in kbit/s. -/
def qerRate (q : BitVec 64) : Nat := Qer.MBR_M.get q * 2 ^ Qer.MBR_E.get q
/-- Refill a QER (R331): `last` is LAST_UL_MS or LAST_DL_MS. -/
def State.refillQer (s : State) (q : BitVec 64) (last : Nat) : BitVec 64 :=
  let full := Qer.BURST_KIB.get q * 1024
  let us := (s.todUs + 2 ^ 24 - Qer.STAMP.get q) % 2 ^ 24
  let lv := if 16000 ≤ ageMs s.todMs last then full else min full (Qer.TOKENS.get q + us * qerRate q / 8000)
  setFields q [(Qer.TOKENS, lv), (Qer.STAMP, s.todUs)]

/-- An uplink packet may not use the session its TEID names (Table 11.4 row 1). -/
def State.badTeid (s : State) (h : BitVec 1024) (teid k : Nat) : Bool :=
  teid / 2 ^ 26 != s.rd Fld.UPS_TEID_CFG_PREFIX || !Sess.VALID.on h || Sess.TEID_GEN.get h != teid / 2 ^ 22 % 16
    || Sess.N3_IDX.get h != k

/-- A URR of the packet stops it (row 6). -/
def urrStops (w : BitVec 64) (n : Nat) : Bool :=
  Urr.EN.on w && (Urr.QUOTA_HIT.on w || (Urr.QUOTA_END.on w && decide (Urr.LEFT.get w < n)))

/-- Request a settle of the URRs that stop a packet: TRIG is set and the request enters the usage queue once. -/
def State.trigUrrs (s : State) (i : Nat) (us : List Nat) : State :=
  us.foldl (fun t u =>
    let w := urrOf (t.head i) u
    if Urr.TRIG.on w then t
    else (t.modHead i (fun h => (Sess.URR u).set h (Urr.TRIG.set w 1).toNat)).askSettle i u) s

/-- Rows 5 to 8: `pdr` has matched, and its FAR is neither DROP nor, for a new downlink packet, BUFF. -/
def State.sessForward (s : State) (n : Nat) (u : SessUse) (pdr far : BitVec 64) : State :=
  let p := s.pkt n
  let h := s.head u.idx
  let dir := u.downlink.toNat
  let q := qerOf h dir
  let oct := p.userOctets u.downlink
  let useQer := Pdr.QER_EN.on pdr
  let stops := (List.range 4).filter (fun i => Nat.testBit (Pdr.URRS.get pdr) i && urrStops (urrOf h i) oct)
  let gone := fun (t : State) (c : Ctr) => (t.discard n).bump c p.pipe
  if useQer && !Qer.GATE.on q then gone s .UPS_GATE_DROP
  else if !stops.isEmpty then gone (s.trigUrrs u.idx stops) .UPS_QUOTA_DROP
  else
    let mbr := useQer && Qer.MBR_EN.on q
    let q' := s.refillQer q ((lastFld dir).get h)
    let t := if mbr then s.modHead u.idx (fun x => (qerFld dir).set x q'.toNat) else s
    if mbr && decide (Qer.TOKENS.get q' < oct) then gone t .UPS_MBR_DROP
    else
      let dest := if !Far.ENCAP.on far && Far.ROUTE.on far then Dest.none else .nextHop (Far.NH.get far)
      let use : SessUse := { u with far := far, octets := oct, urrs := Pdr.URRS.get pdr, charge := mbr }
      (t.setPkt n { p with sess := some use, dest := dest }).toPolicer n

/-- Row 4: the packet is decided BUFF (R336): it joins the keepers' buffer queue, or is dropped when that is full. -/
def State.sessBuffer (s : State) (n : Nat) (u : SessUse) (i : Nat) (far : BitVec 64) : State :=
  let p := s.pkt n
  let s1 := (s.modHead u.idx (fun h => Sess.BUFFERING.set h 1)).bump .UPS_BUFFERED p.pipe
  if 8192 ≤ s.ups.bufQ.length then
    ((s1.discard n).bump .UPS_BUF_DROP_FULL).raiseMs Ev.UPS_BUF_FULL .pipeline p.pipe
  else
    let s2 := s1.modHead u.idx (fun h => Sess.BUF_TRANSIT.set h (Sess.BUF_TRANSIT.get h + 1))
    let item : BufItem := ⟨n, u.idx, Far.NOCP.on far, (Sess.PDR_ID i).get (s.sess u.idx), Far.QFI.get far⟩
    let s3 := { s2 with ups := { s2.ups with bufQ := s2.ups.bufQ ++ [item] } }
    s3.setPkt n { p with stage := .buffered, sess := none }

/-- The session stage has decided a packet of a session in this clock (R338). -/
def State.decideSess (s : State) (i : Nat) : State :=
  { s with ups := { s.ups with decidedAt := s.now, decided := if s.ups.decidedAt = s.now then i :: s.ups.decided else [i] } }

/-- An Error Indication is owed for a packet (R341). -/
def State.oweErrInd (s : State) (p : Packet) (teid : Nat) : State :=
  if s.on Fld.UPS_CFG_ERRIND_EN then
    let f := p.fields 0
    { s with ups := { s.ups with answers := s.ups.answers ++ [⟨f.l3 == 10, f.dip, f.sip, teid⟩] } }
  else s

/-- SESSION_STAGE (R328 to R331, R336, R341): a packet with its head takes the first row of Table 11.4 that applies. -/
def execSessionStage (n : Nat) (s : State) : Host.Outcome State Fault Refusal :=
  let p := s.pkt n
  if (Sparse.find s.pkts n).isNone || p.stage != .session then .next s
  else
    match p.sess with
    | none => .next (s.toPolicer n)
    | some u =>
      let s := s.decideSess u.idx
      let h := s.head u.idx
      let teid := match p.gtpu with | some o => beAt p.parsed (o + 4) 4 | none => 0
      if !u.downlink && s.badTeid h teid ((s.n3Of p).getD 4) then
        .next ((((s.discard n).bump .UPS_BAD_TEID p.pipe).raiseMs Ev.UPS_BAD_TEID .port p.port).oweErrInd p teid)
      else
        match (List.range 4).find? (fun i => pdrMatches (pdrOf h i) p u.downlink) with
        | none => .next ((s.discard n).bump .UPS_NO_PDR p.pipe)
        | some i =>
          let pdr := pdrOf h i
          let far := farOf h (Pdr.FAR.get pdr)
          if Far.ACTION.get far = 0 then .next ((s.discard n).bump .UPS_FAR_DROP p.pipe)
          else if u.downlink && p.replay.isNone && (Sess.BUFFERING.on h || Far.ACTION.get far == 2) then
            .next (s.sessBuffer n u i far)
          else .next (s.sessForward n u pdr far)

/-! ### Session operations (R339, R343 to R345) -/

/-- A QER that SESSION_CREATE and SESSION_MODIFY refuse (R331, R344). -/
def qerBad (q : BitVec 64) : Bool :=
  Qer.BURST_KIB.get q == 0
    || (Qer.MBR_EN.on q && (Qer.MBR_M.get q == 0 || decide (16000 * qerRate q < Qer.BURST_KIB.get q * 8192)))
/-- A next hop a FAR may not name (R344, R351). -/
def State.farNhBad (s : State) (f : BitVec 64) : Bool :=
  let h := s.nhAt 0 (Far.NH.get f)
  decide (s.nhCap ≤ Far.NH.get f)
    || (Far.ENCAP.on f && !(NextHop.TYPE.get h == 1 && NextHop.ENCAP_EN.on h
          && tplGtpu (Sparse.get (s.exm 0).tpls (NextHop.TEMPLATE.get h) 0)))
/-- Bits of a record that no operation sets (Tables 11.1 and 11.3). -/
def sessReserved : List BitFld :=
  [⟨3, 1⟩, ⟨10, 6⟩, ⟨1258, 6⟩, ⟨1648, 368⟩, ⟨2912, 128⟩, ⟨3100, 4⟩, ⟨3165, 3⟩, ⟨3360, 704⟩]
/-- A record that SESSION_CREATE and SESSION_MODIFY refuse as BAD_RULE (R344). -/
def State.sessBad (s : State) (r : BitVec 4096) : Bool :=
  let pdrs := (List.range 4).map (pdrOf r)
  let fars := (List.range 4).map (farOf r)
  sessReserved.any (fun f => f.get r != 0)
    || pdrs.any (fun w => Pdr.RESERVED.get w != 0 || decide (Pdr.PORT_HI.get w < Pdr.PORT_LO.get w))
    || fars.any (fun f => Far.RESERVED.get f != 0 || Far.ACTION.get f == 3 || s.farNhBad f)
    || pdrs.any (fun w => Pdr.EN.on w && (if Pdr.DIR.on w then Pdr.QFI_EN.on w
          else Far.ACTION.get (farOf r (Pdr.FAR.get w)) == 2))
    || qerBad (qerOf r 0) || qerBad (qerOf r 1)
    || !s.on Fld.UPS_N3_CFG_EN 0 (Sess.N3_IDX.get r)
    || !(Sess.UE_V4_VALID.on r || Sess.UE_V6_VALID.on r)
    || Sess.BUF_TIME_S.get r == 0 || decide (3600 < Sess.BUF_TIME_S.get r)

/-- The local TEID of a session (R322). -/
def State.teidOf (s : State) (i : Nat) : Nat :=
  s.rd Fld.UPS_TEID_CFG_PREFIX * 2 ^ 26 + Sess.TEID_GEN.get (s.head i) * 2 ^ 22 + i

/-- A session as SESSION_CREATE writes it: the fields the device keeps start afresh. -/
def State.freshSess (s : State) (i : Nat) (body : BitVec 4096) : BitVec 4096 :=
  let old := s.head i
  let full := fun (q : BitVec 64) => setFields q [(Qer.TOKENS, Qer.BURST_KIB.get q * 1024), (Qer.STAMP, s.todUs)]
  let r0 := setFields body [(Sess.VALID, 1), (Sess.BUFFERING, 0), (Sess.MIRRORED, s.rd Fld.UPS_CFG_MIRROR),
    (Sess.TEID_GEN, Sess.TEID_GEN.get old + 1), (Sess.BUF_TRANSIT, 0), (Sess.LAST_UL_MS, 0), (Sess.LAST_DL_MS, 0),
    (Sess.QER0, (full (qerOf body 0)).toNat), (Sess.QER1, (full (qerOf body 1)).toNat), (Sess.BUF_HEAD, 0), (Sess.BUF_TAIL, 0),
    (Sess.BUF_PKTS, 0), (Sess.NOTIFIED, 0), (Sess.REPLAY, 0)]
  (List.range 4).foldl (fun r u =>
    let r1 := setFields r [(Sess.TOTAL u, 0), (Sess.SINCE u, 0), (Sess.PERIOD_START u, s.todSec)]
    let (l, byQuota) := urrLoad r1 u
    setFields r1 [(Sess.LOADED u, l), (Sess.URR u, (setFields (urrOf body u)
      [(Urr.LEFT, l), (Urr.TRIG, 0), (Urr.QUOTA_END, byQuota.toNat), (Urr.QUOTA_HIT, 0), (Urr.OVER, 0)]).toNat)]) r0

/-- Set the UE records of a session up, IPv4 before IPv6: how it ends, with the status of a refusal. -/
def State.setUes (i : Nat) : List (Nat × Nat) → State → State × SetupEnd × MbxStatus
  | [], s => (s, .done, .ok)
  | (c, k) :: r, s =>
    if (s.getRec c k).isSome then (s, .refused, .ueConflict)
    else
      match s.keeperSetup c k with
      | (t, .waits) => (t, .waits, .ok)
      | (t, .refused) => (t, .refused, .full)
      | (t, .done) =>
        ((t.modRec c k (fun q => setFields q [(FlowRec.LINK, i), (FlowRec.LINK_VALID, 1)])).mirrorRec c k false).setUes i r

/-- Take the UE records of a session back that a failed SESSION_CREATE has set up. -/
def State.undoUes (s : State) (i : Nat) (keys : List (Nat × Nat)) : State :=
  keys.foldl (fun t k =>
    match t.getRec k.1 k.2 with
    | some r => if FlowRec.LINK_VALID.on r ∧ FlowRec.LINK.get r = i then t.commitRemoval ⟨k.1, k.2, 3, none⟩ else t
    | none => t) s

/-- The tag of a session operation at the harbour gate. -/
def sessTag (i : Nat) : Nat := 2 ^ 45 + i

/-- SESSION_CREATE (R321, R322, R343 to R345). -/
def execSessionCreate (tag idx : Nat) (body : BitVec 4096) (s : State) : Host.Outcome State Fault Refusal :=
  if !s.mbxRuns tag opSessionCreate then .next s
  else if s.standby then .next (s.reply tag .busy 0 0 0 true)
  else if Sess.REPLAY.on (s.sess idx) then .next s
  else if Sess.VALID.on (s.head idx) then .next (s.reply tag .exists_ 0 0 0 true)
  else if s.sessBad body then .next (s.reply tag .badRule 0 0 0 true)
  else
    let (s0, ok) := s.charge 0 actSession 512 (sessTag idx)
    if !ok then .next s0
    else
      let s1 := ((s0.hbSend .session 1 4 true (recAddr 0 idx) 512).putSess idx (s0.freshSess idx body)).countSession true
      let keys := s1.ueKeys (s1.sess idx)
      match s1.setUes idx keys with
      | (t, .waits, _) => .next { s with gates := t.gates }
      | (t, .done, _) => .next (t.sessReply idx tag .ok (t.teidOf idx) 0)
      | (t, .refused, st) =>
        let u := ((t.undoUes idx keys).modSess idx (fun r => Sess.VALID.set r 0)).countSession false
        .next (u.sessReply idx tag st 0 0)

/-- Fields of a record that SESSION_MODIFY takes from the host; the others stay. -/
def modified (old new : BitVec 4096) : BitVec 4096 :=
  let qer := fun (f : BitFld) (k : Nat) => (f, (setFields (qerOf new k)
    [(Qer.TOKENS, Qer.TOKENS.get (qerOf old k)), (Qer.STAMP, Qer.STAMP.get (qerOf old k))]).toNat)
  let take := fun (f : BitFld) => (f, f.get new)
  let each := fun (f : Nat → BitFld) (n : Nat) => (List.range n).map (fun i => take (f i))
  setFields old ([take Sess.N3_IDX, qer Sess.QER0 0, qer Sess.QER1 1, take Sess.CP_SEID, take Sess.UP_SEID, take Sess.BUF_LIMIT,
      take Sess.BUF_TIME_S] ++ each Sess.PDR 4 ++ each Sess.FAR 4 ++ each Sess.PDR_ID 4 ++ each Sess.FAR_ID 4 ++ each Sess.QER_ID 2
      ++ each Sess.URR_ID 4 ++ each Sess.VOL_THRESH 4 ++ each Sess.QUOTA 4 ++ each Sess.TIME_THRESH 4
      ++ (List.range 4).map (fun u => (Sess.URR u, (Urr.EN.set (urrOf old u) (Urr.EN.get (urrOf new u))).toNat)))

/-- What a URR counts towards changes. -/
def urrChanges (old new : BitVec 4096) (u : Nat) : Bool :=
  (Sess.VOL_THRESH u).get old != (Sess.VOL_THRESH u).get new || (Sess.QUOTA u).get old != (Sess.QUOTA u).get new
    || (Sess.TIME_THRESH u).get old != (Sess.TIME_THRESH u).get new
/-- Some downlink PDR in use names a FAR. -/
def downFar (r : BitVec 4096) (f : Nat) : Bool :=
  (List.range 4).any (fun i => Pdr.EN.on (pdrOf r i) && Pdr.DIR.on (pdrOf r i) && Pdr.FAR.get (pdrOf r i) == f)

/-- Start what a modified session calls for: End Markers (R342), and the replay of its buffer (R338). -/
def State.afterModify (s : State) (i : Nat) (old new : BitVec 4096) (clearNotified : Bool) (endMarker : Nat) : State :=
  let fo := farOf old
  let fn := farOf new
  let due := s.now + (s.rd Fld.FLW_PARK_TIME_PARK_TIMEOUT 0 + s.rd Fld.UPS_EM_CFG_EM_DELAY) * usClk
  let markers := (List.range 4).filter (fun f => Nat.testBit endMarker f && downFar old f && Far.ENCAP.on (fo f)
    && (Far.NH.get (fo f) != Far.NH.get (fn f) || Far.PEER_TEID.get (fo f) != Far.PEER_TEID.get (fn f)))
  let owed := markers.map (fun f => EndMarker.mk i (Far.NH.get (fo f)) (Far.PEER_TEID.get (fo f)) due)
  let s1 := { s with ups := { s.ups with markers := s.ups.markers ++ owed } }
  let leaves := (List.range 4).any (fun f => Far.ACTION.get (fo f) == 2 && Far.ACTION.get (fn f) != 2)
  let s2 := if clearNotified || leaves then s1.modSess i (fun r => Sess.NOTIFIED.set r 0) else s1
  let replays := (List.range 4).any (fun f => (downFar old f || downFar new f) && Far.ACTION.get (fo f) == 2 && Far.ACTION.get (fn f) == 1)
  if replays && (!(s2.sessBuf i).isEmpty || Sess.BUF_TRANSIT.get (s2.head i) != 0) then s2.modSess i (fun r => Sess.REPLAY.set r 1) else s2

/-- SESSION_MODIFY (R338, R339, R342 to R345): `endMarker` holds SEND_END_MARKER of each FAR. -/
def execSessionModify (tag idx : Nat) (body : BitVec 4096) (clearNotified : Bool) (endMarker : Nat) (s : State) :
    Host.Outcome State Fault Refusal :=
  let old := s.sess idx
  let ue := fun (f : BitFld) => f.get old != f.get body
  if !s.mbxRuns tag opSessionModify then .next s
  else if s.standby then .next (s.reply tag .busy 0 0 0 true)
  else if !Sess.VALID.on old then .next (s.reply tag .notFound 0 0 0 true)
  else if Sess.REPLAY.on old then .next s
  else if s.sessBad body || [Sess.UE_IPV4, Sess.UE_IPV6_PFX, Sess.UE_V4_VALID, Sess.UE_V6_VALID, Sess.VRF].any ue then
    .next (s.reply tag .badRule 0 0 0 true)
  else
    let (s0, ok) := s.charge 0 actSession 384 (sessTag idx)
    if !ok then .next s0
    else
      let changed := (List.range 4).filter (fun u => urrChanges old body u && Urr.EN.on (urrOf old u))
      let s1 := changed.foldl (fun t u => t.settle1 idx u) (s0.hbSend .session 1 4 true (recAddr 0 idx + 128) 384)
      let was := s1.sess idx
      let new := modified was body
      let started := (List.range 4).filter (fun u => !Urr.EN.on (urrOf old u) && Urr.EN.on (urrOf new u))
      let s2 := s1.putSess idx new
      let s3 := changed.foldl (fun t u => if Urr.EN.on (urrOf new u) then State.settled idx u (t.settle2 idx u) else t) s2
      let s4 := started.foldl (fun t u =>
        (t.modSess idx (fun r => setFields r [(Sess.PERIOD_START u, t.todSec), (Sess.LOADED u, Urr.LEFT.get (urrOf r u))])).settleNow idx u) s3
      .next ((s4.afterModify idx was new clearNotified endMarker).sessReply idx tag .ok 0 0)

/-- SESSION_DELETE (R276, R339, R343): the UE records go first, as soon as no chain waits on them; then the session. -/
def execSessionDelete (tag idx : Nat) (s : State) : Host.Outcome State Fault Refusal :=
  let h := s.head idx
  if !s.mbxRuns tag opSessionDelete then .next s
  else if s.standby then .next (s.reply tag .busy 0 0 0 true)
  else if !Sess.VALID.on h then .next (s.reply tag .notFound 0 0 0 true)
  else if Sess.REPLAY.on (s.sess idx) then .next s
  else
    let t := s.dropUes idx
    if t.uesGone idx then .next ((t.dropSession idx).sessReply idx tag .ok 0 0) else .next t

/-- An operation on a session that exists and that no replay holds up. -/
def State.sessRun (s : State) (tag op idx : Nat) (f : State → State × Nat) : State :=
  if !s.mbxRuns tag op then s
  else if s.standby then s.reply tag .busy 0 0 0 true
  else if !Sess.VALID.on (s.head idx) then s.reply tag .notFound 0 0 0 true
  else if Sess.REPLAY.on (s.sess idx) then s
  else
    let (t, d) := f s
    t.sessReply idx tag .ok 0 d

/-- SESSION_READ (R339, R343): all four blocks, with every URR settled. -/
def execSessionRead (tag idx : Nat) (s : State) : Host.Outcome State Fault Refusal :=
  .next (s.sessRun tag opSessionRead idx (fun t =>
    let u := (List.range 4).foldl (fun (x : State) k => x.settleNow idx k) t
    (u, (u.sess idx).toNat)))

/-- URR_QUERY (R334, R339, R343): the named URRs are settled and reported. -/
def execUrrQuery (tag idx mask : Nat) (s : State) : Host.Outcome State Fault Refusal :=
  .next (s.sessRun tag opUrrQuery idx (fun t =>
    ((List.range 4).foldl (fun (x : State) k =>
      if Nat.testBit mask k && Urr.EN.on (urrOf (x.head idx) k) then (x.settleNow idx k).report idx k .query else x) t, 0)))

/-! ### Usage and reports (R332 to R334) -/

/-- USAGE_SETTLE (R333): a keeper makes the next step of a settle that waits; a load that OVER has reached already starts it
again. -/
def execUsageSettle (idx u : Nat) (s : State) : Host.Outcome State Fault Refusal :=
  let set := fun (t : State) (l : List (Nat × Nat × Bool)) => { t with ups := { t.ups with settles := l } }
  match s.ups.settles.find? (fun e => e.1 == idx && e.2.1 == u) with
  | none => .next s
  | some e =>
    let rest := s.ups.settles.filter (fun x => x != e)
    if !(Sess.VALID.on (s.head idx) && Urr.EN.on (urrOf (s.head idx) u)) then .next (set s rest)
    else
      let (t0, ok) := s.charge 0 actSession 128 (2 ^ 47 + 4 * idx + u)
      if !ok then .next t0
      else
        let t := t0.hbSend .session 1 4 true (recAddr 0 idx + 384) 128
        let put := fun (x : State) (b : Bool) => set x (x.ups.settles.map (fun y => if y = e then (idx, u, b) else y))
        if e.2.2 then
          let (t1, done) := t.settle2 idx u
          .next (if done then set t1 (t1.ups.settles.filter (fun x => x != e)) else put t1 false)
        else .next (put (t.settle1 idx u) true)

/-- TIME_THRESHOLD_EXPIRY (R334): the period of a URR has reached TIME_THRESH. -/
def execTimeThresholdExpiry (idx u : Nat) (s : State) : Host.Outcome State Fault Refusal :=
  let r := s.sess idx
  let th := (Sess.TIME_THRESH u).get r
  if Sess.VALID.on r && Urr.EN.on (urrOf r u) && th != 0
      && decide (th ≤ (s.todSec % 2 ^ 32 + 2 ^ 32 - (Sess.PERIOD_START u).get r) % 2 ^ 32) then
    .next ((s.settleNow idx u).report idx u .time)
  else .next s

/-- The payload of a held usage report, with its volume brought up to now (R334). -/
def State.freshReport (s : State) (payload : Nat) : State × Nat :=
  let i := payload % 2 ^ 32
  let r := s.sess i
  match (List.range 4).find? (fun u => (Sess.URR_ID u).get r == payload / 2 ^ 32 % 2 ^ 32 && Urr.EN.on (urrOf r u)) with
  | some u =>
    if !Sess.VALID.on r then (s, payload)
    else
      let trig := payload / 2 ^ 64 % 256
      let restarts := trig == Trig.volume.code || trig == Trig.time.code
      let since := (Sess.SINCE u).get r
      let vol := if restarts then payload / 2 ^ 120 % 2 ^ 40 + since else since
      let t := if restarts then s.modSess i (fun x => (Sess.SINCE u).set x 0) else s
      let lo := payload % 2 ^ 72
      (t, lo + (Sess.TOTAL u).get r * 2 ^ 72 + vol % 2 ^ 40 * 2 ^ 120 + payload / 2 ^ 160 * 2 ^ 160)
  | none => (s, payload)

/-- REPORT_RING_SPACE (R334, R337): the oldest held report or notification is sent once the ring has space. -/
def execReportRingSpace (s : State) : Host.Outcome State Fault Refusal :=
  match s.ups.held with
  | (kind, payload) :: rest =>
    if s.ntfFull then .next s
    else
      let t := { s with ups := { s.ups with held := rest } }
      let (u, x) := if kind = 4 then t.freshReport payload else (t, payload)
      .next (u.writeNote kind x)
  | [] => .next s

/-! ### Buffering and replay (R335 to R338) -/

/-- BUFFER_ENQUEUE (R336, R337): a keeper acts on the oldest packet of the buffer queue, once its end status has arrived. -/
def execBufferEnqueue (s : State) : Host.Outcome State Fault Refusal :=
  match s.ups.bufQ with
  | [] => .next s
  | b :: rest =>
    let p := s.pkt b.pkt
    match p.status with
    | none => .next s
    | some bad =>
      let take := fun (x : State) =>
        ({ x with ups := { x.ups with bufQ := rest } }).modHead b.session (fun h => Sess.BUF_TRANSIT.set h (Sess.BUF_TRANSIT.get h - 1))
      let r := s.sess b.session
      let units := s.bufUnits b.pkt
      let gone := (take s).forget b.pkt
      if bad || !Sess.VALID.on r then .next gone
      else if Sess.BUF_LIMIT.get r < (s.sessBuf b.session).length + 1 then .next (gone.bump .UPS_BUF_DROP_LIMIT)
      else if s.rd Fld.UPS_BUF_CFG_SIZE_MIB * 512 < s.rd Fld.UPS_BUF_STATUS_UNITS_USED + units then
        .next ((gone.bump .UPS_BUF_DROP_FULL).raiseMs Ev.UPS_BUF_FULL .pipeline p.pipe)
      else
        let (u, ok) := s.charge 0 actSession (hbWriteCharge 0 (p.orig.length + 36)) (2 ^ 46 + b.pkt)
        if !ok then .next u
        else
          let w := (take u).setSessBuf b.session (u.sessBuf b.session ++ [(b.pkt, s.now)])
          if b.notify && !Sess.NOTIFIED.on r then
            .next ((w.modSess b.session (fun x => Sess.NOTIFIED.set x 1)).notify 5 (b.session + b.pdrId * 2 ^ 32 + b.qfi * 2 ^ 48) true)
          else .next w

/-- BUFFER_EXPIRY (R336): buffered packets older than BUF_TIME_S are discarded. -/
def execBufferExpiry (idx : Nat) (s : State) : Host.Outcome State Fault Refusal :=
  let limit := Sess.BUF_TIME_S.get (s.sess idx) * sClk
  let (old, keep) := (s.sessBuf idx).partition (fun e => decide (e.2 + limit < s.now))
  if old.isEmpty then .next s
  else
    let t := s.setSessBuf idx keep
    .next ((old.foldl (fun u e => u.forget e.1) t).bump .UPS_BUF_EXPIRED 0 old.length)

/-- REPLAY_SEND (R327, R338): the oldest buffered packet of a session in replay leaves through keeper port 101 of the pipeline it
came through, at most 2 M packets per second. -/
def execReplaySend (idx : Nat) (s : State) : Host.Outcome State Fault Refusal :=
  match s.sessBuf idx with
  | (n, _) :: rest =>
    let at_ := (Sparse.get s.ups.bufs idx ⟨[], 0⟩).nextAt
    if !Sess.REPLAY.on (s.sess idx) || decide (s.now < at_) then .next s
    else
      let p := s.pkt n
      let (t, ok) := s.charge 0 actSession (p.orig.length + 36) (2 ^ 46 + n)
      if !ok then .next t
      else
        let u := (t.setSessBuf idx rest).forget n
        let v := if rest.isEmpty then u
          else { u with ups := { u.ups with bufs := Sparse.insert u.ups.bufs idx ⟨rest, s.now + 875⟩ } }
        .next (v.keeperPacket p.pipe { Packet.init with frame := p.orig, replay := some idx })
  | [] => .next s

/-- REPLAY_END (R338): with nothing buffered and nothing on the way to the buffer, BUFFERING and REPLAY are cleared
together, unless a packet of the session was decided in the same clock. -/
def execReplayEnd (idx : Nat) (s : State) : Host.Outcome State Fault Refusal :=
  let r := s.sess idx
  if (Sess.REPLAY.on r || Sess.BUFFERING.on r) && (s.sessBuf idx).isEmpty && Sess.BUF_TRANSIT.get r == 0
      && !(s.ups.decidedAt == s.now && s.ups.decided.contains idx) then
    .next (s.modSess idx (fun x => setFields x [(Sess.BUFFERING, 0), (Sess.REPLAY, 0)]))
  else .next s

/-! ### GTP-U messages (R340 to R342) -/

/-- Take one of this second's answers of a kind: the state, and no when all are taken. -/
def State.takeAnswer (s : State) (kind limit : Nat) : State × Bool :=
  let sec := s.now / sClk
  let (at_, used) := Sparse.get s.ups.rate kind (sec, 0)
  let n := if at_ = sec then used else 0
  if n < limit then ({ s with ups := { s.ups with rate := Sparse.insert s.ups.rate kind (sec, n + 1) } }, true) else (s, false)

/-- ECHO_REQUEST (R340): a keeper answers an Echo Request, or discards it beyond the rate. -/
def execEchoRequest (n : Nat) (s : State) : Host.Outcome State Fault Refusal :=
  let p := s.pkt n
  if (Sparse.find s.pkts n).isNone || p.stage != .kept || p.status != some false then .next s
  else
    match s.takeAnswer 0 (s.rd Fld.UPS_RATE_CFG_ECHO_RATE), p.gtpu with
    | (t, true), some o =>
      let f := p.fields 0
      let body := bytesBE 1 0x32 ++ bytesBE 1 2 ++ bytesBE 2 6 ++ bytesBE 4 0 ++ bytesBE 2 (be16 p.parsed (o + 8)) ++ bytesBE 2 0
        ++ bytesBE 1 14 ++ bytesBE 1 0
      .next ((t.forget n).keeperUdp (f.l3 == 10) f.dip f.sip f.dst f.src body)
    | (_, _), _ => .next ((s.forget n).bump .UPS_ECHO_DROP)

/-- ERROR_INDICATION_SEND (R341): the oldest Error Indication that is owed is sent, or dropped beyond the rate. -/
def execErrorIndicationSend (s : State) : Host.Outcome State Fault Refusal :=
  match s.ups.answers with
  | a :: rest =>
    let s0 := { s with ups := { s.ups with answers := rest } }
    match s0.takeAnswer 1 (s.rd Fld.UPS_RATE_CFG_ERRIND_RATE) with
    | (t, true) =>
      let ab := if a.v6 then 16 else 4
      let body := bytesBE 1 0x32 ++ bytesBE 1 26 ++ bytesBE 2 (12 + ab) ++ bytesBE 4 0 ++ bytesBE 4 0
        ++ bytesBE 1 16 ++ bytesBE 4 a.teid ++ bytesBE 1 133 ++ bytesBE 2 ab ++ bytesBE ab a.n3
      let port := s.rd Fld.PRS_UDP_PORTS_GTPU_PORT 0
      .next (t.keeperUdp a.v6 a.n3 a.peer port port body)
    | (t, false) => .next (t.bump .UPS_ERRIND_DROP)
  | [] => .next s

/-- END_MARKER_SEND (R342): an End Marker that is due is sent to the old next hop, in class EM_CLASS. -/
def execEndMarkerSend (s : State) : Host.Outcome State Fault Refusal :=
  match s.ups.markers.find? (fun m => decide (m.due ≤ s.now)) with
  | none => .next s
  | some m =>
    let h := s.nhAt 0 m.nh
    let t := Sparse.get (s.exm 0).tpls (NextHop.TEMPLATE.get h) 0
    let s1 := { s with ups := { s.ups with markers := s.ups.markers.erase m } }
    let e0 : Ed := { b := [], h := [], grew := 0, ttl := false, expired := false, skips := 0 }
    let gtp := fun (n : Nat) => gtpuHdr 254 m.teid 0 n
    let ident := Sparse.get s.edt.ident 0 0
    let smac := NextHop.SMAC_IDX.get h
    let e := (e0.encap (Tpl.L2_PAYLOAD.set t 0) gtp 0 ident 0).setMacs (NextHop.DMAC.get h)
      (s.rd Fld.EDT_SMAC_HI_ADDR 0 smac * 2 ^ 32 + s.rd Fld.EDT_SMAC_LO_ADDR 0 smac)
    let s2 := { s1 with edt := { s1.edt with ident := Sparse.put s1.edt.ident 0 ((ident + 1) % 65536) 0 } }
    if NextHop.TYPE.get h = 1 ∧ tplGtpu t = true then
      let p := { Packet.init with stage := .cells, port := 101, ts := (s.tod : Int), ended := some false, status := some false, frame := e.b,
                                  orig := e.b, len := e.b.length, cls := s.rd Fld.UPS_CFG_EM_CLASS, dest := .port (NextHop.PORT.get h),
                                  grows := false }
      .next { s2.setPkt s2.nextPkt p with nextPkt := s2.nextPkt + 1 }
    else .next s2

/-! ### Disable (R280, R347) -/

/-- A write of UPS_CTRL. -/
def State.upsCtrlWrite (s : State) (who : Agent) (pipe : Nat) (v : Word) : State :=
  s.ctrlWrite who Reg.UPS_CTRL Fld.UPS_CTRL_EN Fld.UPS_CTRL_QUIET pipe v (100 * usClk) (s.on Fld.PRS_CTRL_EN pipe)
    (Fld.UPS_CTRL_EN.onIn v && !s.slicesOn) id

/-- UPS_DISABLE (R347): a write of UPS_CTRL with EN = 0. -/
def execUpsDisable (who : Agent) (pipe : Nat) (v : Word) (s : State) : Host.Outcome State Fault Refusal :=
  .next (s.upsCtrlWrite who pipe v)

end Sys2Proof.Machine
end

