-- ==== Sys2Proof/Machine/Tide.lean ====
section
/-! DEFINITION. The commands of the tide table (spec 20). -/
namespace Sys2Proof.Machine

open Sys2Proof.Config

/-- The LAST, BORROWED and PEAK registers at the end of a tide (Table 20.4). -/
def State.tideReport (s : State) (g : Nat) : State :=
  let t := s.gate g
  (List.range (tideActs g)).foldl (fun u a =>
    let used := Sparse.get t.admitted a 0
    let bor := Sparse.get t.borrowed a 0
    if g = 0 then
      ((u.wr Fld.TTB_HB_LAST_USED used 0 a).wr Fld.TTB_HB_BORROWED_BYTES bor 0 a).peak Fld.TTB_HB_PEAK_PEAK used 0 a
    else (u.wr Fld.TTB_SRAM_LAST_USED used (gateInst g) a).wr Fld.TTB_SRAM_LAST_BORROWED bor (gateInst g) a) s

/-- The staged share words of a gate. -/
def State.staged (s : State) (g : Nat) : Sparse Word :=
  (List.range (tideActs g)).foldl (fun m a =>
    Sparse.put m a (if g = 0 then s.rdReg Reg.TTB_HB_SHARE 0 a 0 else s.rdReg Reg.TTB_SRAM_SHARE (gateInst g) a 0)
      (shareReset g a)) []

/-- TIDE_BOUNDARY (R580, R584, R587): the counts return to zero, MAINT starts at its carry up to its share, staged
shares whose APPLY was written come into force, and BUSY clears once every tide of the instance has applied them. -/
def execTideBoundary (g : Nat) (s : State) : Host.Outcome State Fault Refusal :=
  let t := s.gate g
  if t.startAt + tidePeriod g ≤ s.now then
    let s1 := s.tideReport g
    let s2 := (List.range (tideActs g)).foldl (fun u a =>
      if t.idle a then u else u.bump .TTB_WAIT_TIDES (g * 8 + a)) s1
    let t1 := { t with startAt := t.startAt + tidePeriod g, spent := [], admitted := [], borrowed := [],
                       spareUsed := 0, force := if t.applyDue then s.staged g else t.force, applyDue := false }
    let s3 := s2.setGate g t1
    let s4 := if g = 0 then
        let carry := s3.rd Fld.TTB_HB_CARRY_BYTES
        let part := min carry (t1.share 0 actMaint)
        (s3.setGate 0 { t1 with spent := Sparse.put [] actMaint part 0 }).wr Fld.TTB_HB_CARRY_BYTES (carry - part)
      else s3
    let other := if g = 0 then 1 else 0
    let done := t.applyDue && (g ≥ 2 || !(s4.gate other).applyDue)
    .next (if done then s4.wr Fld.TTB_CTRL_BUSY 0 (gateInst g) else s4)
  else .next s

/-- Raise EVT 23.0 for an activity, once per 1 ms interval (R591). -/
def State.starve (s : State) (g act : Nat) : State :=
  let (s1, first) := s.firstInMs (Ev.TTB_STARVE.key * 128 + (g * 8 + act))
  if first then
    (s1.raise Ev.TTB_STARVE (if g = 0 then .device else .pipeline) (gateInst g)).bump .TTB_STARVES (g * 8 + act)
  else s1

/-- TIDE_ADMIT (R580 to R582): the oldest waiting request of an activity is admitted from its share or borrows. -/
def execTideAdmit (g act : Nat) (s : State) : Host.Outcome State Fault Refusal :=
  let t := s.gate g
  match t.waiting.find? (fun r => r.act == act) with
  | none => .next s
  | some r =>
    let grant := fun (u : State) =>
      let v := u.gate g
      let u1 := u.setGate g { v with waiting := v.waiting.erase r, granted := v.granted ++ [(act, r.tag)] }
      if r.since + u.rd Fld.TTB_CFG_STARVE_US (gateInst g) * usClk = u.now then
        u1.starve g act
      else u1
    match t.test g act r.charge with
    | .own => .next (grant (s.admitOwn g act r.charge))
    | .borrow l => .next (grant (s.admitLent g act r.charge l))
    | .waits => .next s

/-- The staged shares of an instance may be applied (R587). -/
def State.applyOk (s : State) (inst : Nat) : Bool :=
  let sum := (List.range 5).foldl (fun n a => n + s.rd Fld.TTB_SRAM_SHARE_ACCESSES inst a) 0
  let hb := (List.range 7).foldl (fun n a => n + s.rd Fld.TTB_HB_SHARE_BP 0 a) 0
  decide (sum ≤ 256) && decide (16 ≤ s.rd Fld.TTB_SRAM_SHARE_ACCESSES inst 4)
    && (inst != 0 || (decide (hb ≤ 10000) && decide (100 ≤ s.rd Fld.TTB_HB_SHARE_BP 0 6)))

/-- TIDE_APPLY (R587): a write of TTB_CTRL; with APPLY it checks the staged shares and puts them in force at the next
boundary of each tide of the instance. -/
def execTideApply (who : Agent) (inst : Nat) (v : Word) (s : State) : Host.Outcome State Fault Refusal :=
  let go := Fld.TTB_CTRL_APPLY.onIn v
  .next (s.busWrite who Reg.TTB_CTRL inst 0 0 v (go && !s.applyOk inst) (fun t =>
    if go then
      let u := (t.wr Fld.TTB_CTRL_BUSY 1 inst).setGate (inst + 1) { t.gate (inst + 1) with applyDue := true }
      if inst = 0 then u.setGate 0 { u.gate 0 with applyDue := true } else u
    else t))

/-- TIDE_STARVE (R591): the oldest request of an activity has waited STARVE_US. -/
def execTideStarve (g act : Nat) (s : State) : Host.Outcome State Fault Refusal :=
  match (s.gate g).waiting.find? (fun r => r.act == act) with
  | some r =>
    if r.since + s.rd Fld.TTB_CFG_STARVE_US (gateInst g) * usClk ≤ s.now then
      .next (s.starve g act)
    else .next s
  | none => .next s

/-- TTB_PARITY_CHECK (R589), every 1 µs: a failed tide counter returns to zero for the rest of its tide, a failed share
register acts at its reset value until it is restored. -/
def execTtbParityCheck (g act : Nat) (counter register : Bool) (s : State) : Host.Outcome State Fault Refusal :=
  let t := s.gate g
  let t1 := if counter then { t with spent := Sparse.erase t.spent act } else t
  let t2 := if register then { t1 with badShare := Sparse.insert t1.badShare act true } else t1
  if counter || register then
    .next ((s.setGate g t2).raise Ev.TTB_CFG_PARITY (if g = 0 then .device else .pipeline) (gateInst g))
  else .next s

end Sys2Proof.Machine
end

