-- ==== Sys2Proof/Machine/RegWrite.lean ====
section
/-! DEFINITION. The register bus (spec 00, R10 to R12; spec 29, R786 to R791): every register write finds its block, one that has a command of its
own acts as that command, and the rest follow R10; the loader's writes (spec 24, R700); and the drains of disabled blocks (spec 25, R736). -/
namespace Sys2Proof.Machine

open Sys2Proof.Config

/-! ### Writes that act as a command -/

/-- The state an outcome answers. -/
def stateOf (s : State) : Host.Outcome State Fault Refusal → State
  | .next t => t
  | _ => s
/-- A write of KPR_CTRL (R619): EN is not cleared while a parser is on; setting it starts the tasks (R602). -/
def State.kprCtrlWrite (s : State) (who : Agent) (v : Word) : State :=
  s.ctrlWrite who Reg.KPR_CTRL Fld.KPR_CTRL_EN Fld.KPR_CTRL_QUIET 0 v 0 ((List.range 4).any (fun p => s.on Fld.PRS_CTRL_EN p)) false
    State.startTasks
/-- A write of FLT_CTRL: setting EN trains the enabled bundles; clearing it closes them (R654). -/
def State.fltCtrlWrite (s : State) (who : Agent) (v : Word) : State :=
  let was := s.on Fld.FLT_CTRL_EN
  let live := fun (t : State) (b : Nat) => t.on Fld.FLT_BUNDLE_CFG_EN 0 b && t.rd Fld.FLT_BUNDLE_CFG_LANES 0 b != 0
  let t := s.ctrlWrite who Reg.FLT_CTRL Fld.FLT_CTRL_EN Fld.FLT_CTRL_QUIET 0 v (100 * usClk) false false (fun t =>
    (List.range 4).foldl (fun (u : State) b => if live u b && u.bundleState b == 0 then u.trainBundle b else u) t)
  if was && !t.on Fld.FLT_CTRL_EN then
    (List.range 4).foldl (fun (u : State) b =>
      if u.bundleState b = 3 then u.setBundle b ({ u.bundle b with closing := some (u.now + 100 * usClk) }.queueControl 3 0)
      else u.bundleDown b true) t
  else t

/-- A write of RND_CMD (R668, R671, R681): a report or a challenge starts; what a certificate or a response does is its own command's. -/
def State.rndCmdWrite (s : State) (who : Agent) (v : Word) : State :=
  s.busCheck who Reg.RND_CMD 0 0 0 v (s.on Fld.RND_CMD_BUSY) (fun t =>
    if Fld.RND_CMD_ATTEST.onIn v then t.startReport else if Fld.RND_CMD_DEBUG_CHALLENGE.onIn v then t.makeChallenge else t)
/-- A write of GTE_GCL_CMD (R532, R535); with several bits set, the lowest acts. -/
def State.gclWrite (s : State) (who : Agent) (pipe : Nat) (v : Word) : State :=
  stateOf s (if Fld.GTE_GCL_CMD_WRITE.onIn v then execGclWrite who pipe v s
    else if Fld.GTE_GCL_CMD_READ.onIn v then execGclRead who pipe v s
    else if Fld.GTE_GCL_CMD_COMMIT.onIn v then execGclCommit who pipe v s
    else if Fld.GTE_GCL_CMD_CANCEL.onIn v then execGclCancel who pipe v s
    else .next (s.busWrite who Reg.GTE_GCL_CMD pipe 0 0 v false id))
/-- A write of SCH_ECMD or SCH_POL_CMD (R449, R456); with both bits set, WRITE acts. -/
def State.schCmdWrite (s : State) (who : Agent) (it : RegItem) (v : Word) : State :=
  let n := it.inst
  stateOf s (if it.isReg Reg.SCH_ECMD then
      (if Fld.SCH_ECMD_WRITE.onIn v then execSchElementWrite who n v s
       else if Fld.SCH_ECMD_READ.onIn v then execSchElementRead who n v s
       else .next (s.busWrite who Reg.SCH_ECMD n 0 0 v false id))
    else if Fld.SCH_POL_CMD_WRITE.onIn v then execPolicerWrite who n v s
    else if Fld.SCH_POL_CMD_READ.onIn v then execPolicerRead who n v s
    else .next (s.busWrite who Reg.SCH_POL_CMD n 0 0 v false id))
/-- The writes of the supervisor's blocks (SUP to DGN) that act as a command. -/
def State.supWrite (s : State) (who : Agent) (it : RegItem) (v : Word) : Option State :=
  let is := it.isReg
  let run := fun (o : Host.Outcome State Fault Refusal) => some (stateOf s o)
  match it.reg.blk with
  | 1 =>
    if is Reg.RST_CMD then run (execSoftwareReset who v s)
    else if is Reg.RST_BLOCK_P then run (execBlockResetPipeline who it.i v s)
    else if is Reg.RST_BLOCK_DEV then run (execBlockResetDevice who v s)
    else none
  | 2 => if is Reg.PWR_REQ then run (execPwrReqWrite who it.i v s) else none
  | 4 =>
    if is Reg.EVT_STATUS then run (execEvtStatusClear who it.i v s)
    else if is Reg.EVT_PIN_EN then run (execEvtRouteWrite who .pin it.i v s)
    else if is Reg.EVT_MSIX_EN then run (execEvtRouteWrite who .msix it.i v s)
    else if is Reg.EVT_KPR_EN then run (execEvtRouteWrite who .kpr it.i v s)
    else if is Reg.EVT_LOG_EN then run (execEvtRouteWrite who .log it.i v s)
    else if is Reg.EVT_LOG_RD && who != .keeper then run (execLogRdWrite who v s)
    else none
  | 5 =>
    let op := Fld.IMG_FLASH_CMD_OP.of v
    if is Reg.IMG_FLASH_CMD && Fld.IMG_FLASH_CMD_GO.onIn v && decide (v.toNat < 64 ∧ op < 3) then some (s.flashGo who op) else none
  | 6 =>
    if is Reg.RND_CMD then some (s.rndCmdWrite who v)
    else if is Reg.RND_WINDOW then
      some (s.busCheck who it.reg 0 it.i 0 v false (fun t => { t with rind := { t.rind with winIn := Sparse.put t.rind.winIn it.i v 0 } }))
    else none
  | 7 =>
    if is Reg.HST_RX_CFG then some (s.ringCfgWrite who false it.i v)
    else if is Reg.HST_TX_CFG then some (s.ringCfgWrite who true it.i v)
    else none
  | 9 =>
    if is Reg.DGN_BIST_CTRL then some (s.bistWrite who v)
    else if is Reg.DGN_INJ_CFG then some (s.injWrite who v)
    else if is Reg.DGN_PERT_CFG then some (s.pertCfgWrite who it.i v)
    else if is Reg.DGN_PERT_CTRL then some (s.pertWrite who it.i v)
    else if is Reg.DGN_PORT_LOOP then some (s.portLoopWrite who it.i v)
    else none
  | 10 => if is Reg.TTB_CTRL then run (execTideApply who it.inst v s) else none
  | _ => none
/-- The writes of the port and pipeline blocks (LNE to EDT) that act as a command. -/
def State.pipeWrite (s : State) (who : Agent) (it : RegItem) (v : Word) : Option State :=
  let is := it.isReg
  let run := fun (o : Host.Outcome State Fault Refusal) => some (stateOf s o)
  let p := it.inst
  match it.reg.blk with
  | 11 =>
    if is Reg.LNE_CTRL then some (s.laneWrite who it.port v)
    else if is Reg.LNE_OCTET_CTRL then some (s.octetWrite who (3 * p + it.i) v)
    else if is Reg.LNE_PRBS_CTRL then some (s.prbsWrite who it.port v)
    else none
  | 12 =>
    if is Reg.PRT_MODE then
      run (if Fld.PRT_MODE_PORT_RESET.onIn v then execPortReset who it.port v s else execPrtModeWrite who it.port v s)
    else none
  | 14 =>
    if is Reg.GTE_GCL_CMD then some (s.gclWrite who p v)
    else if is Reg.GTE_PORT_CFG then run (execGtePortCfgWrite who it.port v s)
    else none
  | 15 => if is Reg.PRS_CTRL then some (s.prsCtrlWrite who p v) else none
  | 16 => if is Reg.RBK_CTRL then some (s.rbkCtrlWrite who p v) else none
  | 17 => if is Reg.EXM_CTRL then some (s.exmCtrlWrite who p v) else none
  | 18 => if is Reg.LPM_CTRL then some (s.lpmCtrlWrite who p v) else none
  | 19 => if is Reg.LRN_CTRL then some (s.lrnCtrlWrite who p v) else none
  | 20 =>
    if is Reg.FLW_CTRL then some (s.flwCtrlWrite who p v)
    else if is Reg.FLW_SLICE_CTRL then some (s.sliceCtrlWrite who p v)
    else none
  | 21 => if is Reg.UPS_CTRL then some (s.upsCtrlWrite who p v) else none
  | 22 =>
    if is Reg.EDT_CTRL then some (s.edtCtrlWrite who p v)
    else if is Reg.EDT_CAP_RD then some (s.capRdWrite who it.i v)
    else if is Reg.EDT_CAP_RING_CTRL then run (execCapRingDisable who it.i v s)
    else none
  | _ => none
/-- The writes of the other blocks (BPM to FLT) that act as a command. -/
def State.coreWrite (s : State) (who : Agent) (it : RegItem) (v : Word) : Option State :=
  let is := it.isReg
  let run := fun (o : Host.Outcome State Fault Refusal) => some (stateOf s o)
  match it.reg.blk with
  | 24 =>
    if is Reg.QUE_QCFG then run (execQueQcfgWrite who it.inst v s)
    else if is Reg.QUE_CTRL then run (execQueDisable who it.inst v s)
    else none
  | 25 => if is Reg.SCH_ECMD || is Reg.SCH_POL_CMD then some (s.schCmdWrite who it v) else none
  | 26 => if is Reg.HBC_CTRL then some (s.hbcCtrlWrite who it.inst v) else none
  | 27 =>
    if is Reg.LHT_CTRL then run (execLhtCtrlWrite who v s)
    else if is Reg.LHT_TOD_CMD then run (if Fld.LHT_TOD_CMD_SET.onIn v then execTodSet who v s else execTodSnap who v s)
    else none
  | 28 => if is Reg.PTP_CTRL then run (execPtpDisable who v s) else none
  | 29 =>
    if is Reg.KPR_CTRL then some (s.kprCtrlWrite who v)
    else if is Reg.KPR_MBX_CTRL then some (s.mbxCtrlWrite who v)
    else if is Reg.KPR_MBX_CMD_TAIL then run (execMbxCmdTailWrite who v s)
    else none
  | 30 =>
    if is Reg.FLT_CTRL then some (s.fltCtrlWrite who v)
    else if is Reg.FLT_BUNDLE_CFG then
      run (if Fld.FLT_BUNDLE_CFG_EN.onIn v then execBundleEnable who it.i v s else execBundleDisable who it.i v s)
    else none
  | _ => none

/-! ### The bus -/

/-- The block whose 1 MiB window holds an address (R786, Table 29.1). -/
def blkAt (addr : Nat) : Option Nat := (List.range 31).find? (fun b => decide (blkBase b ≤ addr ∧ addr < blkBase b + 0x100000))
/-- A write where no register lies (R787): rejected under R10, after the block right (R672). -/
def State.nowhereWrite (s : State) (who : Agent) (addr : Nat) : State :=
  match blkAt addr with
  | some b => if who = .host ∧ s.rd Fld.RND_WR_BLOCKS_BLOCKS / 2 ^ b % 2 = 0 then s.violation 0 addr 0 else s.rejectWrite
  | none => s.rejectWrite
/-- A write of a 32-bit word to an address, with its byte enables (R12, R788). -/
def State.busAccess (s : State) (who : Agent) (addr : Nat) (v : Word) (be : Nat) : State :=
  match itemAt addr with
  | none => s.nowhereWrite who addr
  | some it =>
    if be ≠ 15 then s.busCheck who it.reg it.inst it.i it.k v true id
    else
      match s.supWrite who it v with
      | some t => t
      | none =>
        match s.pipeWrite who it v with
        | some t => t
        | none =>
          match s.coreWrite who it v with
          | some t => t
          | none => s.plainWrite who it v

/-! ### The image loader's writes (R700) -/

/-- Fields named EN, by block: only a REG entry with LATE = 1 may set one. -/
def enFields : List Fld :=
  [Fld.PRT_MODE_EN, Fld.MSC_PORT_CFG_EN, Fld.GTE_CTRL_EN, Fld.PRS_CTRL_EN, Fld.RBK_CTRL_EN, Fld.EXM_CTRL_EN, Fld.LPM_CTRL_EN,
   Fld.LRN_CTRL_EN, Fld.FLW_CTRL_EN, Fld.FLW_CLASS_CFG_EN, Fld.FLW_SLICE_CTRL_EN, Fld.FLW_IPFIX_CFG_EN, Fld.FLW_IPFIX_COLL_EN,
   Fld.UPS_CTRL_EN, Fld.UPS_N3_CFG_EN, Fld.EDT_CTRL_EN, Fld.EDT_MIRROR_CFG_EN, Fld.EDT_CAP_RING_CTRL_EN, Fld.BPM_CTRL_EN, Fld.QUE_QCFG_EN,
   Fld.QUE_CTRL_EN, Fld.SCH_CTRL_EN, Fld.SCH_ECFG_EN, Fld.LHT_KEEP_EN, Fld.LHT_SYNCE_SRC_EN, Fld.LHT_PPS_OUT_CFG_EN, Fld.PTP_CTRL_EN,
   Fld.PTP_PORT_CFG_EN, Fld.PTP_UMT_CFG_EN, Fld.HBC_CTRL_EN, Fld.HBC_SCRUB_CFG_EN, Fld.KPR_CTRL_EN, Fld.KPR_MBX_CTRL_EN, Fld.FLT_CTRL_EN,
   Fld.FLT_BUNDLE_CFG_EN, Fld.HST_RX_CFG_EN, Fld.HST_TX_CFG_EN, Fld.DGN_PERT_CTRL_EN]
/-- The block of an item is enabled: EN of its CTRL register. -/
def State.blockOn (s : State) (it : RegItem) : Bool :=
  let ctrl := [Fld.GTE_CTRL_EN, Fld.PRS_CTRL_EN, Fld.RBK_CTRL_EN, Fld.EXM_CTRL_EN, Fld.LPM_CTRL_EN, Fld.LRN_CTRL_EN, Fld.FLW_CTRL_EN,
    Fld.UPS_CTRL_EN, Fld.EDT_CTRL_EN, Fld.BPM_CTRL_EN, Fld.QUE_CTRL_EN, Fld.SCH_CTRL_EN, Fld.HBC_CTRL_EN, Fld.PTP_CTRL_EN, Fld.KPR_CTRL_EN,
    Fld.FLT_CTRL_EN]
  ctrl.any (fun f => f.reg.blk == it.reg.blk && s.on f it.inst)
/-- A REG entry of the image: written in the attempt; one that R10 would reject, or an early one that sets an EN bit or writes to an
enabled block, fails the attempt with cause 4 (R690, R700). -/
def State.loaderWrite (s : State) (addr : Nat) (v : Word) : State :=
  match s.img.attempt with
  | none => s
  | some a =>
    match itemAt addr with
    | none => s.failAttempt 4
    | some it =>
      let early := decide (s.rst.phaseNext < 8)
      let sets := enFields.any (fun f => it.isReg f.reg && f.onIn v)
      let b := it.reg.blk
      let marked := s.setAttempt { a with written := if a.written.contains b then a.written else b :: a.written }
      let t := marked.busAccess .loader addr v 15
      if (early && (sets || s.blockOn it)) || t.ctr .HST_WRITE_REJECTED != s.ctr .HST_WRITE_REJECTED then s.failAttempt 4 else t

/-- REGISTER_WRITE (R10, R12): a write of a word to any address of the register map. -/
def State.regWrite (s : State) (who : Agent) (addr : Nat) (v : Word) (be : Nat) : State :=
  if who = .loader then s.loaderWrite addr v else s.busAccess who addr v be
/-- REGISTER_WRITE (R10 to R12, R786 to R790). -/
def execRegisterWrite (who : Agent) (addr : Nat) (v : Word) (be : Nat) (s : State) : Host.Outcome State Fault Refusal :=
  .next (s.regWrite who addr v be)

/-! ### Drains (R736) -/

/-- QUIET of the blocks of Table 25.7 that drain. -/
def quietFld : Nat → Option Fld
  | 15 => some Fld.PRS_CTRL_QUIET | 16 => some Fld.RBK_CTRL_QUIET | 17 => some Fld.EXM_CTRL_QUIET | 18 => some Fld.LPM_CTRL_QUIET
  | 19 => some Fld.LRN_CTRL_QUIET | 20 => some Fld.FLW_CTRL_QUIET | 21 => some Fld.UPS_CTRL_QUIET | 22 => some Fld.EDT_CTRL_QUIET
  | 24 => some Fld.QUE_CTRL_QUIET | 29 => some Fld.KPR_CTRL_QUIET | 30 => some Fld.FLT_CTRL_QUIET
  | _ => none
/-- The event of work discarded at a block's drain limit. -/
def drainEvent : Nat → Option Source
  | 15 => some Ev.PRS_DRAIN_DISCARD | 16 => some Ev.RBK_DRAIN_DISCARD | 17 => some Ev.EXM_DRAIN_DISCARD | 18 => some Ev.LPM_DRAIN_DISCARD
  | 19 => some Ev.LRN_DRAIN_DISCARD | 20 => some Ev.FLW_DRAIN_DISCARD | 21 => some Ev.UPS_DRAIN_DISCARD | 22 => some Ev.EDT_DRAIN_DISCARD
  | 24 => some Ev.QUE_DRAIN_DISCARD
  | _ => none
/-- Queues of a slice that hold packets. -/
def State.fullQueues (s : State) (slice : Nat) : List Nat :=
  (s.tm.queues.filter (fun (e : Nat × Queue) => e.1 / 65536 == slice && !e.2.items.isEmpty)).map (fun e => e.1 % 65536)
/-- A block instance that drains still holds work. -/
def State.busyBlock (s : State) (blk inst : Nat) : Bool :=
  match blk with
  | 24 => !(s.fullQueues inst).isEmpty
  | 29 => !s.kpr.commitQ.isEmpty
  | 30 => (List.range 4).any (fun b => !(s.bundle b).unacked.isEmpty || !(s.bundle b).segments.isEmpty)
  | _ => s.hasWork blk inst
/-- What a block instance still holds is discarded and counted. -/
def State.discardRest (s : State) (blk inst : Nat) : State :=
  match blk with
  | 24 => (s.fullQueues inst).foldl (fun (t : State) q => t.flushQueue inst q .QUE_DISABLED_DROP) s
  | 30 => (List.range 4).foldl (fun (t : State) b => t.bundleDown b true) s
  | _ => s.discardWork blk inst
/-- The block reports QUIET. -/
def State.reportQuiet (s : State) (blk inst : Nat) : State :=
  match quietFld blk with
  | some f => (s.stopDrain blk inst).wr f 1 inst
  | none => s.stopDrain blk inst
/-- STAGE_QUIET (R736): a disabled block has finished its in-flight work. -/
def execStageQuiet (blk inst : Nat) (s : State) : Host.Outcome State Fault Refusal :=
  .next (if s.draining blk inst && !s.busyBlock blk inst then s.reportQuiet blk inst else s)
/-- DRAIN_LIMIT_EXPIRY (R736, Table 25.7): at its drain limit a block discards what it still holds; the keepers have none. -/
def execDrainLimitExpiry (blk inst : Nat) (s : State) : Host.Outcome State Fault Refusal :=
  if s.drainOver blk inst && blk != 29 then
    let busy := s.busyBlock blk inst
    let t := (if busy then s.discardRest blk inst else s).reportQuiet blk inst
    match drainEvent blk with
    | some e => .next (if busy then t.raise e .pipeline inst else t)
    | none => .next t
  else .next s

end Sys2Proof.Machine
end

