-- ==== Sys2Proof/Machine/CommitPort.lean ====
section
/-! DEFINITION. The commit port of the keeper cluster (spec 21, R600, R603). -/
namespace Sys2Proof.Machine

open Sys2Proof.Config


/-- Make one visible change (R599). -/
def State.applyChange (s : State) : KChange → State
  | .reg addr v => s.busAccess .keeper addr v 15
  | .harbour addr len => s.hbSend .keeper 2 2 true addr len
  | .table _ _ => s
  | .frame pipe bytes => s.keeperPacket pipe { Packet.init with frame := bytes, orig := bytes }
  | .note kind payload => s.notify kind payload (decide (4 ≤ kind))
  | .other => s
/-- COMMIT_PORT_APPLY (R600, R603): the oldest RELEASE is discarded whole when its generation is stale; else, once the tides have admitted
every change, all of them become visible in order. -/
def execCommitPortApply (s : State) : Host.Outcome State Fault Refusal :=
  match s.kpr.commitQ with
  | [] => .next s
  | c :: rest =>
    let popped := { s with kpr := { s.kpr with commitQ := rest } }
    if !s.keepersRun then .next s
    else if c.gen ≠ s.taskGen c.task then
      .next (((popped.dropCommit c).bump .KPR_STALE_RESULTS c.task).raiseMs Ev.KPR_STALE_RESULT .engine (s.taskEngine c.task) c.task)
    else
      match s.chargeAll (commitCharges c.changes) c.tag with
      | (t, false) => .next t
      | (t, true) =>
        let u := c.changes.foldl State.applyChange { t with kpr := { t.kpr with commitQ := rest } }
        .next { u with kpr := { u.kpr with lastCommit := u.now } }

end Sys2Proof.Machine
end

