-- ==== Sys2Proof/Machine/EndStatus.lean ====
section
/-! DEFINITION. The end status of a packet (spec 03, R89, R90; spec 18, R523, R525): what it does where the packet stands. -/
namespace Sys2Proof.Machine

open Sys2Proof.Config

/-- The end status reaches an express frame in its queue: an errored one is discarded (R89), a stored one becomes eligible
(R523), and its length is known. -/
def State.endQueued (s : State) (n : Nat) (bad : Bool) : State :=
  let t := s.settleEnd n
  let p := t.pkt n
  match p.dest with
  | .port e =>
    match (t.gte e).queue.find? (fun x => x.pkt == n) with
    | some x =>
      if bad then t.dropExpress e x
      else
        let cells := min x.cells (cellsOf p.frame.length)
        (t.setExpQueue e ((t.gte e).queue.map (fun y => if y.pkt = n then { y with cells := cells } else y))).freeExpCells (e / 24) (x.cells - cells)
    | none => t
  | _ => t

/-- The end status reaches an express frame taken by a transmit MAC: before output starts an errored one is discarded; one
being cut through ends with its FCS when its status is good, and is left to be cut otherwise (R525). -/
def State.endTaken (s : State) (n : Nat) (bad : Bool) : State :=
  let t := s.settleEnd n
  match (t.pkt n).dest with
  | .port e =>
    match (t.port e).tx with
    | some f =>
      if f.pkt ≠ n then t
      else if f.startAt = 0 then (if bad then t.dropTx e f else t)
      else if bad || f.len.isSome || decide (t.cutLimit e (t.txBytes e f).1 < (t.txBytes e f).1.length + 4) then t
      else t.finishCut e f
    | none => t
  | _ => t

/-- END_STATUS_COMMIT (R89, R90, R94): a packet's end status reaches it.  A good one commits its effects; an errored one
discards it.  Before its decisions are complete a good status waits with the packet, with the checksum results that came with it (R149). -/
def execEndStatusCommit (n : Nat) (s : State) : Host.Outcome State Fault Refusal :=
  match Sparse.find s.pkts n with
  | none => .next s
  | some p =>
    if p.ended.isNone || p.copyOf.isSome || p.status.isSome then .next s
    else
      let bad := s.endBad p
      match p.stage with
      | .fifo | .parsing => .next s
      | .parsed | .express | .flow | .service | .session | .policer | .edit =>
        .next (if bad then (s.settleEnd n).forget n else s.setPkt n { p with parse := withCsums p.parse (s.endCsums p).1 (s.endCsums p).2 })
      | .parked => .next (if bad then ((s.settleEnd n).unpark n).forget n else s)
      | .kept => .next (if bad then (s.settleEnd n).forget n else s.settleEnd n)
      | .dead => .next ((s.settleEnd n).forget n)
      | .expq => .next (s.endQueued n bad)
      | .out => .next (s.endTaken n bad)
      | .buffered | .cells | .capture | .tm => .next (s.settleEnd n)

end Sys2Proof.Machine
end

