-- ==== Sys2Proof/Machine/HostWindow.lean ====
section
/-! DEFINITION. What the host reads over PCIe: registers through BAR0 (spec 00, R9; spec 24, R704), and harbour memory through its window
(spec 12, R370; spec 23, R675). -/
namespace Sys2Proof.Machine

open Sys2Proof.Config

/-- Where the host's window to harbour memory begins among the addresses of RC_READ; harbour address A lies at `windowBase` + A.  The manual
gives the window no place (log entry 109). -/
def windowBase : Nat := 2 ^ 36
/-- The window reaches a harbour address: the capture area with the CAP right, the keeper work area with the KPR right (R675). -/
def State.windowReaches (s : State) (a : Nat) : Bool :=
  let right := fun (b : Nat) => s.rd Fld.RND_RIGHTS_RIGHTS / 2 ^ b % 2 == 1
  (decide (0xB00000000 ≤ a ∧ a ≤ 0xB7FFFFFFF) && right 1) || (decide (0xB80000000 ≤ a ∧ a ≤ 0xBFFFFFFFF) && right 7)
/-- The bytes of the capture record that lies at an address, from that address on (R368). -/
def State.captureBytes (s : State) (a : Nat) : List Byte :=
  let ring := (List.range 16).find? (fun r =>
    let lo := 0xB00000000 + s.rd Fld.EDT_CAP_RING_CFG_BASE 0 r * 1048576
    decide (lo ≤ a ∧ a < lo + s.ringCap r * (64 + s.capBytes r)))
  match ring with
  | some r =>
    let off := a - (0xB00000000 + s.rd Fld.EDT_CAP_RING_CFG_BASE 0 r * 1048576)
    match Sparse.find s.edt.ring (r * 2 ^ 32 + off / (64 + s.capBytes r)) with
    | some (d, data) => (bytesOfNat 64 d.toNat ++ data).drop (off % (64 + s.capBytes r))
    | none => []
  | none => []
/-- The word at an address of harbour memory as the window shows it; a free value where the model holds no bytes there. -/
def State.windowWord (s : State) (a : Nat) : Word :=
  match s.captureBytes a with
  | b0 :: b1 :: b2 :: b3 :: _ => BitVec.ofNat 32 (b0.toNat + b1.toNat * 2 ^ 8 + b2.toNat * 2 ^ 16 + b3.toNat * 2 ^ 24)
  | _ => freeWord s.fresh
/-- A read of four bytes through the window, charged to the keeper work share (Table 1.7, R370): what the host reads where the window does
not reach is a free value.  No path writes through the window. -/
def State.windowRead (s : State) (a : Nat) : State :=
  if s.windowReaches a then
    let (t, ok) := s.charge 0 actKeeper 4 (2 ^ 47 + a)
    if ok then ((t.hbSend .hostWindow 2 2 false a 4).emit (.read (t.windowWord a))).draw else t
  else (s.emit (.read (freeWord s.fresh))).draw

/-- Where BAR2 begins among the addresses of RC_READ (log entry 109). -/
def bar2Base : Nat := 2 ^ 37
/-- RC_READ (R9, R675, R704, R793): the host, through BAR0, its harbour window or BAR2, or a keeper reads a register; the word leaves the
device. -/
def execRcRead (who : Agent) (addr : Nat) (s : State) : Host.Outcome State Fault Refusal :=
  if addr < windowBase then .next ((s.emit (.read (s.busRead addr))).clearOnRead who addr)
  else if who ≠ .host then .next s
  else if addr < bar2Base then .next (s.windowRead (addr - windowBase))
  else .next (s.emit (.read (s.bar2Word (addr - bar2Base))))

end Sys2Proof.Machine
end

