-- ==== Sys2Proof/Machine/Lookup.lean ====
section
/-! DEFINITION. Merging a packet's lookups (spec 06, R169 to R183; spec 07, R201 to R206, R215, R830; spec 08, R226, R227;
spec 17, R497 to R499). -/
namespace Sys2Proof.Machine

open Sys2Proof.Config

/-! ### The rule stage -/

/-- The slot a packet searches: CURRENT on a first pass, the slot of its stamp on a second (R178, R830); none for a
straggler. -/
def State.slotFor (s : State) (p : Packet) : Option Nat :=
  if p.pass = 0 then some (s.curSlot p.pipe)
  else match p.stamp with
    | none => some (s.curSlot p.pipe)
    | some e => (List.range 2).find? (fun k => s.epoch p.pipe k == e)

/-- The profile of a packet in a slot, and its PORT_CLASS (Tables 6.3, 6.8). -/
def State.profileOf (s : State) (p : Packet) (slot : Nat) : Nat × Nat :=
  let j := p.port % 24
  if p.port = 100 then (s.rd Fld.RBK_SPECIAL_PROF_HOST p.pipe 0 0 slot, 0)
  else if p.port = 101 then (s.rd Fld.RBK_SPECIAL_PROF_KEEPER p.pipe 0 0 slot, 0)
  else
    let i3 := ParseRes.OUTER_L3_IDX.get p.parse
    let c3 := if i3 = 15 then 0 else (prHdr p.parse i3).1
    let f := if p.pass = 1 then Fld.RBK_PORT_PROF_PASS2
      else if ParseRes.TUNNEL_IDX.get p.parse ≠ 15 then Fld.RBK_PORT_PROF_TUNNEL
      else if c3 = 9 then Fld.RBK_PORT_PROF_IPV4
      else if c3 = 10 then Fld.RBK_PORT_PROF_IPV6
      else Fld.RBK_PORT_PROF_NONIP
    (s.rd f p.pipe j 0 slot, s.rd Fld.RBK_PORT_PROF_PORT_CLASS p.pipe j 0 slot)

/-- The key of the register that gives a packet its profile. -/
def profReg (p : Packet) (slot : Nat) : Nat :=
  if p.port = 100 ∨ p.port = 101 then Reg.RBK_SPECIAL_PROF.key p.pipe 0 0 slot
  else Reg.RBK_PORT_PROF.key p.pipe (p.port % 24) 0 slot

/-- The miss action of a lookup (R174). -/
def State.missAct (s : State) (pipe slot prof k : Nat) : BitVec 64 :=
  BitVec.ofNat 64 (s.rd Fld.RBK_MISS_ACT_LO_ACT pipe prof k slot + s.rd Fld.RBK_MISS_ACT_HI_ACT pipe prof k slot * 2 ^ 32)

/-- What one lookup of the rule stage yields. -/
inductive LkEnd where
  | off
  | hit (rule : Nat)
  | miss
  | fault
  deriving DecidableEq, Repr

/-- One lookup of a profile (R170, R173, R188, R189). -/
def State.ruleLookup (s : State) (p : Packet) (slot prof cls k : Nat) : LkEnd :=
  let ctrl := s.rdReg Reg.RBK_PROF_CTRL p.pipe prof 0 slot
  let x := s.rbk p.pipe
  let badKey := fun (key : Nat) => Sparse.get x.badCfg key false
  if badKey (Reg.RBK_PROF_CTRL.key p.pipe prof 0 slot) then .fault
  else if bitsOf ctrl (8 * k) 1 = 0 then .off
  else if badKey (Reg.RBK_PROF_BANKS.key p.pipe prof k slot) then .fault
  else
    let fmt := bitsOf ctrl (8 * k + 1) 2
    let mask := s.rd Fld.RBK_PROF_BANKS_MASK p.pipe prof k slot
    if s.on Fld.RBK_CTRL_FAULT_ACT p.pipe && x.maskFaulty mask then .fault
    else
      let key := (p.ruleKey fmt (bitsOf ctrl (8 * k + 3) 1) prof cls).toNat
      match s.firstMatch p.pipe slot mask (groupSize (fmt - 1)) key with
      | some r => .hit r
      | none =>
        if badKey (Reg.RBK_MISS_ACT_LO.key p.pipe prof k slot) || badKey (Reg.RBK_MISS_ACT_HI.key p.pipe prof k slot) then .fault
        else .miss

/-- Count what a lookup did (Table 6.12). -/
def State.countLookup (s : State) (pipe slot prof k : Nat) (e : LkEnd) : State :=
  let searched := match e with | .hit _ => true | .miss => true | _ => false
  let mask := s.rd Fld.RBK_PROF_BANKS_MASK pipe prof k slot
  let s1 := if searched then
      (List.range 32).foldl (fun t b => if mask / 2 ^ b % 2 = 1 then t.bump .RBK_BANK_SEARCHES (pipe * 32 + b) else t) s
    else s
  match e with
  | .hit r => s1.bump .RBK_RULE_PKTS (pipe * 65536 + r)
  | .miss => s1.bump .RBK_MISS (pipe * 256 + prof * 4 + k)
  | _ => s1

/-- Merge the applied actions of the lookups, lowest lookup first (R175). -/
def mergeActs (acts : List (BitVec 64)) : BitVec 64 :=
  let first := fun (set : BitVec 64 → Bool) (fs : List BitFld) (w : BitVec 64) =>
    match acts.find? set with
    | some a => setFields w (fs.map (fun f => (f, f.get a)))
    | none => w
  let w1 := first (fun a => ActWord.VERDICT.get a != 0) [ActWord.VERDICT, ActWord.DEST] 0
  let w2 := first ActWord.CLASS_SET.on [ActWord.CLASS, ActWord.CLASS_SET] w1
  let w3 := first ActWord.DSCP_SET.on [ActWord.DSCP, ActWord.DSCP_SET] w2
  let w4 := first ActWord.POLICER_SET.on [ActWord.POLICER, ActWord.POLICER_SET] w3
  let w5 := first ActWord.FLOW_SET.on [ActWord.FLOW_CLASS, ActWord.FLOW_SET] w4
  let w6 := first ActWord.EDIT_SET.on [ActWord.EDIT_PROFILE, ActWord.EDIT_SET] w5
  let w7 := first (fun a => ActWord.MIRROR.get a != 0) [ActWord.MIRROR] w6
  if acts.any ActWord.NO_LEARN.on then ActWord.NO_LEARN.set w7 1 else w7

/-- What the rule stage delivers. -/
structure RuleEnd where
  /-- Profile chosen; none when the stage is off. -/
  profile : Option Nat
  act : BitVec 64
  /-- Rule that decided the verdict; none when a miss action did. -/
  ruler : Option Nat
  won : List Nat
  rule0 : Option Nat
  fault : Bool
  straggler : Bool
  deriving DecidableEq, Repr

/-- Nothing decided. -/
def RuleEnd.unset : RuleEnd := ⟨none, 0, none, [], none, false, false⟩

/-- The rule stage on a packet (R169 to R178, R830): its counters, its stamp and its in-flight count. -/
def State.ruleStage (s : State) (n : Nat) : State × RuleEnd :=
  let p := s.pkt n
  if !s.on Fld.RBK_CTRL_EN p.pipe then (s, RuleEnd.unset)
  else
    match s.slotFor p with
    | none => (s, { RuleEnd.unset with straggler := true })
    | some slot =>
      let (prof, cls) := s.profileOf p slot
      let s := (List.range 4).foldl (fun (t : State) k => t.readRows p.pipe (t.rd Fld.RBK_PROF_BANKS_MASK p.pipe prof k slot)) s
      let s1 := if p.pass = 0 then
          (s.setPkt n { p with stamp := some (s.epoch p.pipe slot), inSlot := some slot }).setInFlight p.pipe slot (s.inFlight p.pipe slot + 1)
        else s
      if Sparse.get (s.rbk p.pipe).badCfg (profReg p slot) false then
        if s.on Fld.RBK_CTRL_FAULT_ACT p.pipe then (s1, { RuleEnd.unset with fault := true }) else (s1, RuleEnd.unset)
      else
        let ends := (List.range 4).map (fun k => (k, s.ruleLookup p slot prof cls k))
        let s2 := ends.foldl (fun t e => t.countLookup p.pipe slot prof e.1 e.2) s1
        let acts := ends.filterMap (fun e =>
          match e.2 with
          | .hit r => some (some r, Sparse.get (s.rbk p.pipe).acts r 0)
          | .miss => some (none, s.missAct p.pipe slot prof e.1)
          | _ => none)
        let won := acts.filterMap Prod.fst
        (s2, { profile := some prof, act := mergeActs (acts.map Prod.snd),
               ruler := match acts.find? (fun a => ActWord.VERDICT.get a.2 != 0) with | some (r, _) => r | none => none,
               won := won,
               rule0 := match ends with | (_, .hit r) :: _ => some r | _ => none,
               fault := s.on Fld.RBK_CTRL_FAULT_ACT p.pipe && ends.any (fun e => e.2 == .fault), straggler := false })

/-! ### The exact-match and route stages -/

/-- What an exact-match lookup yields: nothing, a hit with its result word and META, or a miss of a section. -/
inductive EmLk where
  | off
  | hit (word : BitVec 32) (meta_ : BitVec 128)
  | miss (sect : Nat)
  | fault
  deriving DecidableEq, Repr

/-- One exact-match lookup (R201 to R204, R217). -/
def State.emLookup (s : State) (p : Packet) (sect level : Nat) (sa : Bool) : State × EmLk :=
  let pipe := p.pipe
  if !s.sectOn pipe sect then (s, .off)
  else
    match p.emKey (s.rd Fld.EXM_SECT_CFG_KEY_FMT pipe sect) level (s.vrfOf p) sa with
    | none => (s.bump .EXM_SKIP (pipe * 16 + sect), .miss sect)
    | some key =>
      let (b0, b1) := s.candidates pipe sect key
      let s := s.readPlaces pipe (bucketPlaces sect b0 ++ bucketPlaces sect b1 ++ (s.exm pipe).ovf sect)
      let s1 := s.bump .EXM_LOOKUPS (pipe * 16 + sect)
      if s.on Fld.EXM_SECT_LIM_FAULT_ACT pipe sect && s.emFaulty pipe sect key then (s1, .fault)
      else
        match s.emFind pipe sect key with
        | some k =>
          let wide := s.sectWide pipe sect
          let e := (s.exm pipe).at k
          ((s1.bump .EXM_HITS (pipe * 16 + sect)).hit pipe k, .hit (emResult wide e) (BitVec.ofNat 128 (emMetaOf wide e)))
        | none => (s1, .miss sect)

/-- What the route stage yields: a route lookup's end, or nothing. -/
def State.routeStage (s : State) (p : Packet) (prof : Option Nat) : State × Option RouteEnd :=
  match prof with
  | none => (s, none)
  | some n =>
    if !s.on Fld.LPM_CTRL_EN p.pipe || !s.on Fld.EXM_PROF_LPM_EN p.pipe n then (s, none)
    else
      let f := p.fields (s.rd Fld.EXM_PROF_LPM_LEVEL p.pipe n)
      if f.l3 = 0 then (s, none)
      else
        let vrf := s.vrfOf p
        let s := s.readRoutes p.pipe vrf
        (s.bump .LPM_LOOKUPS (p.pipe * 256 + vrf), some (s.routeLookup p.pipe vrf (f.l3 == 10) f.dip))

/-- A destination the lookups give, with the result word that decides it and the META of the entry it came from; the
route miss action gives none of these. -/
inductive Decider where
  | none
  | word (w : BitVec 32) (meta_ : Option (BitVec 128))
  | routeMiss
  deriving DecidableEq, Repr

/-- The first source of step 1 of R206 that gives a destination. -/
def State.decider (s : State) (pipe : Nat) (lk0 lk1 : EmLk) (route : Option RouteEnd) : Decider :=
  let ofHit := fun (e : EmLk) => match e with
    | .hit w m => if ResWord.KIND.get w = 0 then [] else [Decider.word w (some m)]
    | _ => []
  let ofMiss := fun (e : EmLk) => match e with
    | .miss c =>
      let w := BitVec.ofNat 32 (s.rd Fld.EXM_SECT_MISS_RESULT pipe c)
      if ResWord.KIND.get w = 0 then [] else [Decider.word w none]
    | _ => []
  let ofRoute := match route with
    | some (.hit w) => if ResWord.KIND.get w = 0 then [] else [Decider.word w none]
    | _ => []
  let last := match route with | some .miss => [Decider.routeMiss] | _ => []
  match ofHit lk0 ++ ofHit lk1 ++ ofRoute ++ ofMiss lk0 ++ ofMiss lk1 ++ last with
  | d :: _ => d
  | [] => .none

/-- The destination a result word names. -/
def wordDest (w : BitVec 32) : Dest :=
  let t := ResWord.TARGET.get w
  match ResWord.KIND.get w with
  | 1 => .port t
  | 2 => .nextHop t
  | 3 => .group t
  | _ => .none

/-! ### The learn probe (R226, R227) -/

/-- What a probe finds: nothing, a miss, or an entry. -/
def State.probe (s : State) (p : Packet) (prof : Option Nat) : State × Option (Nat × Option (BitVec 512)) :=
  match prof with
  | none => (s, none)
  | some n =>
    if s.on Fld.EXM_CTRL_EN p.pipe && s.on Fld.LRN_PROF_PROBE_EN p.pipe n then
      let c := s.rd Fld.LRN_PROF_PROBE_SECT p.pipe n
      if s.sectOn p.pipe c then
        match s.emFind p.pipe c (l2Key p.vid p.sa) with
        | some k => (s.hit p.pipe k, some (c, some ((s.exm p.pipe).at k)))
        | none => (s, some (c, none))
      else (s, none)
    else (s, none)

/-- The notification a probe raises (R227, R229), with what it counts; `gone` says that the packet is discarded or sent to
the host before step 4. -/
def State.learnNote (s : State) (p : Packet) (gone : Bool) (found : Option (Nat × Option (BitVec 512))) : State × Option (BitVec 128) :=
  match found with
  | none => (s, none)
  | some (c, e) =>
    if !s.on Fld.LRN_CTRL_EN p.pipe || !s.on Fld.LRN_SECT_CFG_LEARN_EN p.pipe c || !isFront p.port
        || !s.on Fld.LRN_PORT_CFG_LEARN_EN p.pipe (p.port % 24) || ActWord.NO_LEARN.on p.act then (s, none)
    else if p.sa = 0 ∨ p.sa / 2 ^ 40 % 2 = 1 then (s.bump .LRN_BAD_SA p.port, none)
    else if gone then (s, none)
    else
      let note := fun (kind : Nat) => setFields (0 : BitVec 128) [(LearnNote.KEY, l2Key p.vid p.sa), (LearnNote.SECTION, c),
        (LearnNote.PORT, p.port), (LearnNote.KIND, kind), (LearnNote.PASS, p.pass)]
      match e with
      | none => (s, some (note 0))
      | some w =>
        if ResWord.TARGET.get (emResult (s.sectWide p.pipe c) w) = p.port then (s, none)
        else if emStatic w then (s.bump .LRN_STATIC_CONFLICT p.port, none)
        else (s, some (note 1))

/-! ### The PTP and ESMC trap (R497 to R499) -/

/-- The destination addresses of transports 0 and 1. -/
def ptpMac (transport : Nat) : Nat := if transport = 0 then 0x011B19000000 else 0x0180C200000E

/-- The packet meets the condition of the port's PTP transport (R497). -/
def State.isPtp (s : State) (p : Packet) : Bool :=
  let tr := s.rd Fld.PTP_PORT_CFG_TRANSPORT 0 p.port
  if tr < 2 then
    ParseRes.VLAN_COUNT.get p.parse == 0 && be16 p.parsed 12 == 0x88F7 && p.da == ptpMac tr
  else
    let f := p.fields 0
    let word := fun k => (s.rdReg Reg.PTP_PORT_ADDR 0 p.port k).toNat
    let addr := if tr = 2 then word 0 else word 0 + word 1 * 2 ^ 32 + word 2 * 2 ^ 64 + word 3 * 2 ^ 96
    f.l3 == (if tr = 2 then 9 else 10) && f.dip == addr && f.l4Code == 18 && (f.dst == 319 || f.dst == 320)

/-- The packet is an ESMC frame (R497). -/
def isEsmc (p : Packet) : Bool :=
  ParseRes.VLAN_COUNT.get p.parse == 0 && p.da == 0x0180C2000002 && be16 p.parsed 12 == 0x8809 && byteAt p.window 14 == 0x0A

/-- Take one token of a trap bucket of a rate per second (R499): tokens are kept in parts of a core clock. -/
def trapTake (b : Option (Nat × Nat)) (rate now : Nat) : Option (Nat × Nat) :=
  let (level, at_) := b.getD (rate * sClk, now)
  let l := min (rate * sClk) (level + (now - at_) * rate)
  if sClk ≤ l then some (l - sClk, now) else none

/-- What the trap does with a packet. -/
inductive TrapEnd where
  | no
  | trapped
  | notEnabled
  deriving DecidableEq, Repr

/-- The trap on a first-pass packet of a front port (R497, R498). -/
def State.trapOf (s : State) (p : Packet) : TrapEnd :=
  if p.pass ≠ 0 ∨ !isFront p.port then .no
  else if s.isPtp p then
    if s.on Fld.PTP_PORT_CFG_EN 0 p.port then .trapped
    else if s.rd Fld.PTP_PORT_CFG_TRANSPORT 0 p.port = 1 then .notEnabled else .no
  else if s.on Fld.PTP_PORT_CFG_SYNCE_EN 0 p.port && isEsmc p then .trapped
  else .no

/-- A trapped frame goes to keeper port 101, or is discarded for want of a token (R498, R499). -/
def State.trap (s : State) (n : Nat) : State :=
  let p := s.pkt n
  let rate := fun (t : State) => ((t.discard n).bump .PTP_RX_RATE_DROP p.port)
  match trapTake (Sparse.find s.ptp.traps p.port) 16384 s.now, trapTake (Sparse.find s.ptp.traps 96) 262144 s.now with
  | some a, some b =>
    let t := { s with ptp := { s.ptp with traps := Sparse.insert (Sparse.insert s.ptp.traps p.port a) 96 b } }
    let u := t.leaveSlot n
    let q := u.pkt n
    let act := setFields q.act [(ActWord.VERDICT, 0), (ActWord.DEST, 0), (ActWord.POLICER, 0),
      (ActWord.POLICER_SET, 0), (ActWord.FLOW_CLASS, 0), (ActWord.FLOW_SET, 0)]
    u.atPolicer n { q with dest := .port 101, cls := s.rd Fld.PTP_TRAP_CLASS, tag := 0, policer := none, act := act }
  | _, _ => rate s

/-! ### The merge (R206) -/

/-- The packet has been looked up: what the rules and the tables gave is attached to it. -/
def State.attach (s : State) (n : Nat) (r : RuleEnd) (d : Decider) (meta_ : BitVec 128) : State :=
  let p := s.pkt n
  let cls := if ActWord.CLASS_SET.on r.act then ActWord.CLASS.get r.act
    else match d with
      | .word w _ => if ResWord.CLASS_SET.on w then ResWord.CLASS.get w else 0
      | _ => 0
  s.setPkt n { p with profile := r.profile, act := r.act, won := r.won, rule0 := r.rule0, cls := cls, emMeta := meta_,
                      policer := if ActWord.POLICER_SET.on r.act then some (ActWord.POLICER.get r.act) else none }

/-- The verdict, the deciding word and the destination act on a packet (R206 steps 1 to 5); the second component says that
the packet does not go on to step 4. -/
def State.settle (s : State) (n : Nat) (r : RuleEnd) (d : Decider) : State × Bool :=
  let p := s.pkt n
  let v := ActWord.VERDICT.get r.act
  let go := fun (t : State) (dest : Dest) (tag : Nat) => (t.setPkt n { t.pkt n with dest := dest, tag := tag, stage := .flow }, false)
  let aux := fun (t : State) => match r.ruler with | some i => (t, i) | none => (t.draw, freeNat t.fresh % 65536)
  if v = 2 then ((s.discard n).bump .RBK_DROP p.port, true)
  else if v = 3 then
    let (t, a) := aux s
    ((t.bump .RBK_TO_HOST p.port).toHost n 3 a .RBK_HOST_UNAVAIL, true)
  else
    let s1 := if v = 4 then
        let (t, a) := aux s
        (t.bump .RBK_COPY p.port).copyToHost n 3 a .RBK_HOST_UNAVAIL
      else s
    if v = 5 then go s1 (.port (ActWord.DEST.get r.act)) 0
    else if v = 6 then go s1 .none 0
    else
      match d with
      | .none => ((s1.discard n).bump .EXM_NO_DEST p.port, true)
      | .routeMiss =>
        if s.on Fld.LPM_CTRL_MISS_ACT p.pipe then (s1.toHost n 5 0 .PRS_HOST_UNAVAIL, true)
        else ((s1.discard n).bump .LPM_NO_ROUTE (p.pipe * 256 + s.vrfOf p), true)
      | .word w m =>
        if ResWord.DROP.on w then ((s1.discard n).bump .EXM_RESULT_DROP p.port, true)
        else if ResWord.TO_HOST.on w then ((s1.bump .EXM_RESULT_HOST p.port).toHost n 4 0 .PRS_HOST_UNAVAIL, true)
        else go s1 (wordDest w) (match m with | some b => b.toNat % 65536 | none => 0)

/-- The packet's second-pass lookup has completed (R181). -/
def State.lookupDone (s : State) (n : Nat) : State := if (s.pkt n).pass = 1 then s.leaveSlot n else s

/-- Look a packet up and merge the results; a PTP or ESMC frame is trapped here, whatever they are. -/
def State.lookup (s : State) (n : Nat) : State :=
  let p := s.pkt n
  let (s1, r) := s.ruleStage n
  if r.straggler then (s1.discard n).bump .RBK_EPOCH_STRAGGLERS p.pipe
  else
    let em := fun (t : State) (en level sect sa : Fld) => match r.profile with
      | some i => if t.on Fld.EXM_CTRL_EN p.pipe && t.on en p.pipe i then
          t.emLookup p (t.rd sect p.pipe i) (t.rd level p.pipe i) (t.on sa p.pipe i) else (t, EmLk.off)
      | none => (t, .off)
    let (s2, lk0) := em s1 Fld.EXM_PROF_LK0_EN Fld.EXM_PROF_LK0_LEVEL Fld.EXM_PROF_LK0_SECT Fld.EXM_PROF_LK0_SA
    let (s3, lk1) := em s2 Fld.EXM_PROF_LK1_EN Fld.EXM_PROF_LK1_LEVEL Fld.EXM_PROF_LK1_SECT Fld.EXM_PROF_LK1_SA
    let (s4, route) := s3.routeStage p r.profile
    let (s5, found) := s4.probe p r.profile
    let s6 := s5.lookupDone n
    let trap := s.trapOf p
    let d := s6.decider p.pipe lk0 lk1 route
    let s7 := s6.attach n r d (match d with | .word _ (some m) => m | _ => 0)
    if trap = .notEnabled then (s7.discard n).bump .PTP_RX_NOT_EN p.port
    else if trap = .trapped then (s7.mirrorCopy n 0 p.parse 0).trap n
    else if r.fault then (s7.discard n).bump .RBK_FAULT_DROP p.pipe
    else if lk0 = .fault ∨ lk1 = .fault then (s7.discard n).bump .EXM_FAULT_DROP p.pipe
    else if route = some .fault then (s7.discard n).bump .LPM_FAULT_DROP p.pipe
    else
      let q := s7.pkt n
      let s8 := s7.setPkt n { q with dest := match d with | .word w _ => wordDest w | _ => .none }
      let s9 := s8.mirrorCopy n 0 p.parse 0
      let (s10, gone) := s9.settle n r d
      let (s11, note) := s10.learnNote q gone found
      match note with
      | some w => s11.setPkt n { s11.pkt n with note := some w }
      | none => s11

/-- LOOKUP_MERGE (R24, R118, R206): the lookups of a parsed packet are delivered and merged, in order.  An EAPOL frame of the uncontrolled
port goes to the keepers instead, in class 0 (DESIGN CHOICE, log entry 102: R118 names no class). -/
def execLookupMerge (n : Nat) (s : State) : Host.Outcome State Fault Refusal :=
  let p := s.pkt n
  if p.stage != .parsed || (Sparse.find s.pkts n).isNone || s.behind n then .next s
  else if p.uncontrolled then .next (s.atPolicer n { p with dest := .port 101 })
  else .next (s.lookup n)

end Sys2Proof.Machine
end

