-- ==== Sys2Proof/Machine/Services.lean ====
section
/-! DEFINITION. The commands of the flow services (spec 10): what they do to a delivered record's packet, completing a NAT
binding, IPFIX messages, and load-balance members. -/
namespace Sys2Proof.Machine

open Sys2Proof.Config

/-! ### The service step (R292, R301 to R303, R306, R307) -/

/-- The row of Table 10.5 that applies to a packet: the next state, and whether its lifetime is CLOSE_S; none when the packet
is invalid.  `init` says that the initiator sent it, `other` that the first FIN came from the other side. -/
def tcpStep (st flags : Nat) (init other : Bool) : Option (Nat × Bool) :=
  let fin := Nat.testBit flags 0
  let syn := Nat.testBit flags 1
  let rst := Nat.testBit flags 2
  let ack := Nat.testBit flags 4
  if rst then some (6, true)
  else if st = 1 ∧ syn ∧ init then some (1, true)
  else if st = 1 ∧ syn ∧ ack ∧ !init then some (2, true)
  else if st = 2 ∧ ack ∧ !syn ∧ init then some (3, false)
  else if st = 2 ∧ syn ∧ ack ∧ !init then some (2, true)
  else if st = 3 ∧ fin then some (4, false)
  else if st = 4 ∧ fin ∧ other then some (5, true)
  else if (st = 3 ∨ st = 4) ∧ !syn then some (st, false)
  else if (st = 5 ∨ st = 6) ∧ syn ∧ !ack ∧ init then some (1, true)
  else if (st = 5 ∨ st = 6) ∧ !syn then some (st, true)
  else none

/-- The stateful filter (R306, R307): the state, and no when the packet has been discarded. -/
def State.filterTcp (s : State) (n : Nat) (u : FlowUse) (r : BitVec 1024) : State × Bool :=
  let p := s.pkt n
  let f := p.fields (s.cls Fld.FLW_CLASS_CFG_LEVEL u.cls)
  if !s.clsOn Fld.FLW_SVC_CFG_TCP_TRACK u.cls || f.proto != 6 then (s, true)
  else
    let st := FlowRec.TCP_STATE.get r
    let init := s.ownSide p u.cls == FlowRec.INIT_SIDE.on r
    let other := Sparse.find s.flw.finSide (finKey u.cls u.key) == some (!init)
    match tcpStep st f.tcp init other with
    | some (nx, close) =>
      (s.setPkt n { p with flow := some { u with tcp := some (nx, if close then 2 else 1), fin := if st = 3 ∧ nx = 4 then some init else none } },
        true)
    | none =>
      let t := (s.bump .FLT_TCP_INVALID u.cls).raiseMs Ev.FLT_TCP_INVALID .device u.cls
      if s.clsOn Fld.FLW_SVC_CFG_INVALID_ACT u.cls then (t, true) else (t.discard n, false)

/-- The prefix of a NAT64 pool (R302). -/
def State.nat64Prefix (s : State) (k : Nat) : Nat :=
  let w := fun j => (s.rdReg Reg.FLW_NAT64_PFX 0 k j).toNat
  w 0 * 2 ^ 64 + w 1 * 2 ^ 32 + w 2

/-- The NAT service (R301 to R303): the rewrite the editor makes, or a hairpin; no when the packet has been discarded. -/
def State.natServe (s : State) (n : Nat) (u : FlowUse) (r : BitVec 1024) : State × Bool :=
  let p := s.pkt n
  let role := s.role u.cls
  let lv := s.cls Fld.FLW_CLASS_CFG_LEVEL u.cls
  let k := s.cls Fld.FLW_SVC_CFG_POOL u.cls
  let f := p.fields lv
  let rw := fun (t : State) => t.setPkt n { t.pkt n with
    nat := some ⟨role, lv, FlowRec.NAT_ADDR.get r, FlowRec.NAT_PORT.get r, FlowRec.NAT_INSIDE6.get r, s.nat64Prefix k⟩ }
  if isIn role then (rw s, true)
  else if isOut role then
    if role = 4 ∧ f.dip / 2 ^ 32 ≠ s.nat64Prefix k then ((s.discard n).bump .NAT64_PREFIX_MISS u.cls, false)
    else
      let dst := f.dip % 2 ^ 32
      let base := s.rd Fld.FLW_NAT_POOL_ADDR_BASE 0 k
      if base ≤ dst ∧ dst < base + s.rd Fld.FLW_NAT_POOL_CFG_ADDR_COUNT 0 k then
        if p.pass = 1 then
          (((s.discard n).bump .NAT_HAIRPIN_DROP p.pipe).raiseMs Ev.NAT_HAIRPIN_DROP .pipeline p.pipe, false)
        else
          let t := rw s
          (t.setPkt n { t.pkt n with hairpin := true, dest := .none }, true)
      else (rw s, true)
  else (s, true)

/-- FLOW_SERVICE_ACT (R284, R292, R301 to R303, R306 to R309): the services act on a packet whose record has been delivered. -/
def execFlowServiceAct (n : Nat) (s : State) : Host.Outcome State Fault Refusal :=
  let p := s.pkt n
  if (Sparse.find s.pkts n).isNone || p.stage != .service then .next s
  else
    match p.flow with
    | none => .next (s.toPolicer n)
    | some u =>
      match s.getRec u.cls u.key with
      | none => .next ((s.setPkt n { p with flow := none }).toPolicer n)
      | some r =>
        match s.filterTcp n u r with
        | (t, false) => .next t
        | (t, true) =>
          match t.natServe n u r with
          | (t1, false) => .next t1
          | (t1, true) => .next (t1.toPolicer n)

/-! ### Bindings (R298, R299) -/

/-- A free port of a subscriber's blocks, searched from CURSOR: its offset over the blocks in order. -/
def State.freePort (s : State) (k : Nat) (r : BitVec 1024) : Option Nat :=
  let sz := s.poolS k
  let total := SubRec.BLOCKS.get r * sz
  let at_ := SubRec.CURSOR.get r
  ((List.range total).find? (fun d =>
    let o := (at_ + d) % total
    !s.portUsed k ((SubRec.BLOCK (o / sz)).get r) (o % sz))).map (fun d => (at_ + d) % total)

/-- A binding is refused (R299): its OUT record is removed, and every packet that waits on it takes SETUP_ACT. -/
def State.refuseBinding (s : State) (c key : Nat) : State :=
  let waiting := (s.flw.chains.filter (fun ch => ch.cls == c && ch.key == key)).flatMap Chain.pkts
  let t := waiting.foldl (fun u n => u.setupRefused n c) s
  let t1 := match t.way c key with
    | some w => if FlowRec.MIRRORED.on w.rec_ && s.rd Fld.FLT_PAIR_STATUS_STATE == 2 then t.mirrorChange 0 0 w.idx 0 (FlowRec.VALID.set w.rec_ 0) false else t
    | none => t
  { t1.dropNew c key with flw := { (t1.dropNew c key).flw with binding := s.flw.binding.erase (c, key) } }

/-- Steps 2 and 3 of R298: the port a subscriber gives, with a new block when no port is free: block and offset in it. -/
def State.takePort (s : State) (k sc sk : Nat) (r : BitVec 1024) : State × Option (Nat × Nat) :=
  let sz := s.poolS k
  let give := fun (t : State) (q : BitVec 1024) (o : Nat) =>
    (t.modRec sc sk (fun _ => SubRec.CURSOR.set q (o + 1)), some ((SubRec.BLOCK (o / sz)).get q, o % sz))
  match s.freePort k r with
  | some o => give s r o
  | none =>
    let nb := SubRec.BLOCKS.get r
    if s.rd Fld.FLW_NAT_POOL_CFG_MAX_BLOCKS 0 k ≤ nb then
      ((s.bump .NAT_PORTS_EXHAUSTED k).raiseMs Ev.NAT_PORTS_EXHAUSTED .device k, none)
    else
      match s.poolFreeList k with
      | b :: rest =>
        let t := (s.setPoolFreeList k rest).natNotify k b sk 0
        give t (setFields r [(SubRec.BLOCKS, nb + 1), (SubRec.BLOCK nb, b)]) (nb * sz)
      | [] => ((s.bump .NAT_POOL_EXHAUSTED k).raiseMs Ev.NAT_POOL_EXHAUSTED .device k, none)

/-- Steps 4 to 6 of R298, once subscriber and IN record stand. -/
def State.bind (s : State) (c key k b off : Nat) : State :=
  let sub := s.subOf c key
  let (addr0, port0) := s.blockAt k b
  let port := port0 + off
  let v6 := s.role c == 4
  let (_, inside, _, iport) := outParts v6 key
  let ik := s.inKey c key addr0 port
  let lc := s.cls Fld.FLW_SVC_CFG_LINK_CLASS c
  let s1 := (s.markPort k b off true).modRec sub.1 sub.2 (fun q =>
    FlowRec.SVC_WAIT.set (SubRec.BINDINGS.set q (SubRec.BINDINGS.get q + 1)) 0)
  let s2 := s1.modRec lc ik (fun q => setFields q [(FlowRec.NAT_ADDR, if v6 then 0 else inside), (FlowRec.NAT_PORT, iport),
    (FlowRec.NAT_BLOCK, b), (FlowRec.NAT_INSIDE6, if v6 then inside else 0), (FlowRec.LINK, s.recIdx c key), (FlowRec.LINK_VALID, 1)])
  let s3 := s2.modRec c key (fun q => setFields q [(FlowRec.NAT_ADDR, addr0), (FlowRec.NAT_PORT, port), (FlowRec.NAT_BLOCK, b),
    (FlowRec.LINK, s.recIdx lc ik), (FlowRec.LINK_VALID, 1), (FlowRec.SVC_WAIT, 0)])
  let s4 := ((s3.mirrorRec sub.1 sub.2 false).mirrorRec lc ik false).mirrorRec c key false
  ({ s4 with flw := { s4.flw with binding := s4.flw.binding.erase (c, key) } }).bump .NAT_BINDINGS_SET k

/-- The subscriber record is held with SVC_WAIT while the steps of a binding that has not completed yet go on (R298 step 1), and no
longer. -/
def State.holdSub (s : State) (sub : Nat × Nat) (b : Bool) : State :=
  match s.getRec sub.1 sub.2 with
  | some q => if FlowRec.SVC_WAIT.on q = b then s else s.modRec sub.1 sub.2 (fun x => FlowRec.SVC_WAIT.set x b.toNat)
  | none => s

/-- BINDING_COMPLETE (R298, R299): a keeper completes the binding of an OUT record. -/
def execBindingComplete (cls key : Nat) (s : State) : Host.Outcome State Fault Refusal :=
  if !s.flw.binding.contains (cls, key) then .next s
  else
    match s.getRec cls key with
    | none => .next { s with flw := { s.flw with binding := s.flw.binding.erase (cls, key) } }
    | some _ =>
      let k := s.cls Fld.FLW_SVC_CFG_POOL cls
      let sub := s.subOf cls key
      let (s1, e) := match s.getRec sub.1 sub.2 with
        | some _ => (s, SetupEnd.done)
        | none => s.keeperSetup sub.1 sub.2
      match e with
      | .waits => .next s1
      | .refused => .next ((s1.holdSub sub false).refuseBinding cls key)
      | .done =>
        match s1.getRec sub.1 sub.2 with
        | none => .next s1
        | some r =>
          match s1.takePort k sub.1 sub.2 r with
          | (s2, none) => .next ((s2.holdSub sub false).refuseBinding cls key)
          | (s2, some (b, off)) =>
            let (addr, port0) := s2.blockAt k b
            match s2.keeperSetup (s2.cls Fld.FLW_SVC_CFG_LINK_CLASS cls) (s2.inKey cls key addr (port0 + off)) with
            | (s3, .done) => .next (s3.bind cls key k b off)
            | (s3, .refused) => .next ((s3.holdSub sub false).refuseBinding cls key)
            | (_, .waits) => .next (s1.holdSub sub true)

/-! ### IPFIX messages (R312, R313) -/

/-- The elements of a template (Table 10.6): identifier and length. -/
def ipfixElems (id : Nat) : List (Nat × Nat) :=
  let addr := if id = 256 ∨ id = 258 then [(8, 4), (12, 4)] else [(27, 16), (28, 16)]
  addr ++ [(7, 2), (11, 2), (4, 1), (6, 2), (10, 4), (14, 4), (2, 8), (1, 8), (152, 8), (153, 8), (136, 1), (234, 4)]
    ++ (if id = 258 then [(225, 4), (227, 2)] else if id = 259 then [(225, 4), (226, 4), (227, 2)] else [])

/-- The template set of the four templates. -/
def ipfixTemplates : List Byte :=
  [256, 257, 258, 259].flatMap (fun id =>
    let es := ipfixElems id
    bytesBE 2 id ++ bytesBE 2 es.length ++ es.flatMap (fun e => bytesBE 2 e.1 ++ bytesBE 2 e.2))

/-- Send one message with one set to a collector. -/
def State.ipfixSend (s : State) (k setId : Nat) (body : List Byte) : State :=
  let len := 16 + 4 + body.length
  let hdr := bytesBE 2 10 ++ bytesBE 2 len ++ bytesBE 4 s.todSec ++ bytesBE 4 s.flw.ipfixSeq ++ bytesBE 4 (s.rd Fld.FLW_IPFIX_DOMAIN_DOMAIN_ID)
  let addr := fun (r : Reg) (i : Nat) (idx2 : Bool) =>
    (List.range 4).foldl (fun a w => a + (if idx2 then s.rdReg r 0 i w else s.rdReg r 0 w 0).toNat * 2 ^ (32 * w)) 0
  let v6 := s.on Fld.FLW_IPFIX_COLL_V6 0 k
  let cut := fun (a : Nat) => if v6 then a else a % 2 ^ 32
  (s.keeperUdp v6 (cut (addr Reg.FLW_IPFIX_SRC 0 false)) (cut (addr Reg.FLW_IPFIX_COLL_ADDR k true)) 4739
    (s.rd Fld.FLW_IPFIX_COLL_UDP_PORT 0 k) (hdr ++ bytesBE 2 setId ++ bytesBE 2 (4 + body.length) ++ body)).bump .IPFIX_MESSAGES k

/-- IPFIX_EXPORT_SEND (R312): a message of the oldest data records queued for a collector that share a template, up to
MSG_LEN. -/
def execIpfixExportSend (coll : Nat) (s : State) : Host.Outcome State Fault Refusal :=
  match s.flw.ipfix.find? (fun r => r.coll == coll) with
  | none => .next s
  | some r0 =>
    if (Sparse.find s.flw.templateAt coll).isNone then .next s
    else
      let per := r0.bytes.length
      let room := (s.rd Fld.FLW_IPFIX_CFG_MSG_LEN - 20) / max 1 per
      let mine := (s.flw.ipfix.filter (fun r => r.coll == coll && r.tpl == r0.tpl)).take room
      let rest := mine.foldl (fun (l : List IpfixRec) r => l.erase r) s.flw.ipfix
      let t := s.ipfixSend coll r0.tpl (mine.flatMap IpfixRec.bytes)
      let u := { t with flw := { t.flw with ipfix := rest, ipfixSeq := (t.flw.ipfixSeq + mine.length) % 2 ^ 32 } }
      .next ((u.bump .IPFIX_RECORDS coll mine.length).ipfixFill)

/-- IPFIX_TEMPLATE_SEND (R312): the templates are sent to a collector after EN is set and then every TEMPLATE_S. -/
def execIpfixTemplateSend (coll : Nat) (s : State) : Host.Outcome State Fault Refusal :=
  let due := match Sparse.find s.flw.templateAt coll with
    | some t => decide (t + s.rd Fld.FLW_IPFIX_CFG_TEMPLATE_S * sClk ≤ s.now)
    | none => true
  if s.on Fld.FLW_IPFIX_CFG_EN && s.on Fld.FLW_IPFIX_COLL_EN 0 coll && due then
    let t := s.ipfixSend coll 2 ipfixTemplates
    .next { t with flw := { t.flw with templateAt := Sparse.insert t.flw.templateAt coll s.now } }
  else .next s

/-! ### Load-balance members (R291, R293) -/

/-- ACTIVE members of a group. -/
def LbGroup.active (g : LbGroup) : List Nat := (g.members.filter (fun e => e.2.state == 1)).map Prod.fst
/-- Buckets a slot holds, lowest first. -/
def LbGroup.held (g : LbGroup) (k : Nat) : List Nat := (g.buckets.filter (fun e => e.2 == k)).map Prod.fst
/-- The excess of a member: its buckets less its share. -/
def LbGroup.excess (g : LbGroup) (k : Nat) : Int :=
  let total := g.active.foldl (fun a m => a + (g.at m).weight) 0
  ((g.held k).length : Int) - ((256 * (g.at k).weight / max 1 total : Nat) : Int)
/-- The member of a list with the smallest value, the lowest slot on a tie. -/
def leastBy (f : Nat → Int) : List Nat → Option Nat
  | [] => none
  | k :: r => match leastBy f r with | some j => if f j < f k then some j else some k | none => some k
/-- Give a bucket to a slot. -/
def LbGroup.give (g : LbGroup) (b k : Nat) : LbGroup := { g with buckets := Sparse.insert g.buckets b k }

/-- Empty a slot's buckets one at a time (R293 move steps 1 and 2); `n` bounds the moves. -/
def LbGroup.drainSlot (slot : Nat) : Nat → LbGroup → LbGroup
  | 0, g => g
  | n + 1, g =>
    match g.held slot with
    | [] => g
    | b :: _ =>
      match leastBy g.excess (g.active.filter (· != slot)) with
      | some k => (g.give b k).drainSlot slot n
      | none => { g with buckets := g.buckets.filter (fun e => e.2 != slot) }

/-- Rebalance after a SET (R293 move steps 1 and 3): buckets that name no member are taken first, by ascending number. -/
def LbGroup.rebalance : Nat → LbGroup → LbGroup
  | 0, g => g
  | n + 1, g =>
    match leastBy g.excess g.active with
    | none => g
    | some to_ =>
      match (List.range 256).find? (fun b => (Sparse.find g.buckets b).isNone) with
      | some b => (g.give b to_).rebalance n
      | none =>
        let done := g.active.all (fun k => decide (0 ≤ g.excess k ∧ g.excess k ≤ 1))
        if done then g
        else
          match leastBy (fun k => - g.excess k) g.active with
          | some from_ =>
            match (g.held from_).getLast? with
            | some b => (g.give b to_).rebalance n
            | none => g
          | none => g

/-- Write a group in a pipeline (R291); a rewritten block is no longer faulty (R197). -/
def State.setLbGroup (s : State) (p gi : Nat) (g : LbGroup) : State :=
  let x := s.exm p
  let k := 2 * 65536 + gi
  (s.setExm p { x with groups := Sparse.put x.groups gi g LbGroup.init, faultyRes := Sparse.erase x.faultyRes k }).touch p shRes k

/-- A member operation: BUSY while standby, refused as BAD_RULE beyond the region, or when `f` refuses it; otherwise the group's new block is written to
P0 to P3 in order (R38), its four accesses of 128 bytes charged in each (R197; log entry 88). -/
def State.lbOp (s : State) (tag op : Nat) (i : Instr) (pipes : List Nat) (gi : Nat) (f : LbGroup → Option LbGroup) : State :=
  let new := f (s.lbGroup 0 gi)
  let check := if s.standby then some MbxStatus.busy else if s.lbCap ≤ gi || new.isNone then some .badRule else none
  s.replicate tag op i pipes actHost check (fun t p =>
    let g := if p = 0 then new.getD (t.lbGroup 0 gi) else t.lbGroup 0 gi
    ⟨t.setLbGroup p gi g, 4, none, none, false, [(shRes, 2 * 65536 + gi)]⟩)

/-- LB_MEMBER_SET (R293, R352): activate a member or change its weight. -/
def execLbMemberSet (tag group slot nh weight : Nat) (s : State) : Host.Outcome State Fault Refusal :=
  .next (s.lbOp tag opLbMemberSet (.lbMemberSet tag group slot nh weight) allPipes group (fun g =>
    let m := g.at slot
    let ok := decide (1 ≤ weight ∧ weight ≤ 255 ∧ slot < 64) && NextHop.TYPE.get (s.nhAt 0 nh) == 1 && decide (nh < s.nhCap)
    if !ok || m.state == 2 || (m.state == 1 && m.nh != nh) then none
    else some (({ g with members := Sparse.insert g.members slot { m with state := 1, nh := nh, weight := weight } }).rebalance 512)))

/-- LB_MEMBER_DRAIN (R293): no new flow reaches the member; pinned flows stay. -/
def execLbMemberDrain (tag group slot : Nat) (s : State) : Host.Outcome State Fault Refusal :=
  .next (s.lbOp tag opLbMemberDrain (.lbMemberDrain tag group slot) allPipes group (fun g =>
    let m := g.at slot
    if m.state = 1 then
      some (({ g with members := Sparse.insert g.members slot { m with state := 2 } }).drainSlot slot 256)
    else none))

/-- LB_MEMBER_REMOVE (R293): the member's buckets go first, in every pipeline; then it becomes EMPTY with the next generation, in P0 to P3
again. -/
def execLbMemberRemove (tag group slot : Nat) (s : State) : Host.Outcome State Fault Refusal :=
  .next (s.lbOp tag opLbMemberRemove (.lbMemberRemove tag group slot) (allPipes ++ allPipes) group (fun g =>
    let m := g.at slot
    let gone : LbGroup := { g with members := Sparse.insert g.members slot ⟨0, 0, 0, (m.gen + 1) % 256⟩ }
    if m.state = 0 then none
    else if (g.held slot).isEmpty then some gone
    else some { g with buckets := (gone.drainSlot slot 256).buckets }))

/-- LB_GROUP_STATUS (R291): the state and the bucket count of each member slot, 16 bits a slot: [1:0] state, [10:2] buckets. -/
def execLbGroupStatus (tag group : Nat) (s : State) : Host.Outcome State Fault Refusal :=
  .next (s.mbxOp tag opLbGroupStatus (fun t =>
    if t.standby then (t, ⟨.busy, 0, 0⟩)
    else if t.lbCap ≤ group then (t, ⟨.badRule, 0, 0⟩)
    else
      let g := t.lbGroup 0 group
      (t, ⟨.ok, 0, (List.range 64).foldl (fun a k => a + ((g.at k).state + (g.held k).length * 4) * 2 ^ (16 * k)) 0⟩)))

end Sys2Proof.Machine
end

