-- ==== Sys2Proof/Machine/Dispatch.lean ====
section
/-! DEFINITION. What each command does: one arm per command, each a call of its own meaning. -/
namespace Sys2Proof.Machine

def exec (i : Instr) (s : State) : Host.Outcome State Fault Refusal :=
  match i with
  | .registerWrite who addr v be => Sys2Proof.Machine.execRegisterWrite who addr v be s
  | .rcRead who addr => Sys2Proof.Machine.execRcRead who addr s
  | .mgsTransaction count index tail => Sys2Proof.Machine.execMgsTransaction count index tail s
  | .mgsBusTimeout => Sys2Proof.Machine.execMgsBusTimeout s
  | .bar0ReadTimeout => Sys2Proof.Machine.execBar0ReadTimeout s
  | .frameStart port start head tag => Sys2Proof.Machine.execFrameStart port start head tag s
  | .arbTruncate port more => Sys2Proof.Machine.execArbTruncate port more s
  | .frameEnd port pre rest fcsOk icvOk finds => Sys2Proof.Machine.execFrameEnd port pre rest fcsOk icvOk finds s
  | .headHandoff pipe => Sys2Proof.Machine.execHeadHandoff pipe s
  | .parseComplete n => Sys2Proof.Machine.execParseComplete n s
  | .endStatusCommit n => Sys2Proof.Machine.execEndStatusCommit n s
  | .lookupMerge n => Sys2Proof.Machine.execLookupMerge n s
  | .expressLookup n => Sys2Proof.Machine.execExpressLookup n s
  | .curdLookup n found => Sys2Proof.Machine.execCurdLookup n found s
  | .recordFetchReturn cls key ok twin => Sys2Proof.Machine.execRecordFetchReturn cls key ok twin s
  | .chainRelease pipe cls key ok => Sys2Proof.Machine.execChainRelease pipe cls key ok s
  | .parkTimeout n => Sys2Proof.Machine.execParkTimeout n s
  | .setStallRetry slice set => Sys2Proof.Machine.execSetStallRetry slice set s
  | .flowSetup slice => Sys2Proof.Machine.execFlowSetup slice s
  | .groupReseed g => Sys2Proof.Machine.execGroupReseed g s
  | .flowServiceAct n => Sys2Proof.Machine.execFlowServiceAct n s
  | .wheyWriteback slice ok => Sys2Proof.Machine.execWheyWriteback slice ok s
  | .wbAgeExpiry cls key => Sys2Proof.Machine.execWbAgeExpiry cls key s
  | .sliceFlush who slice v => Sys2Proof.Machine.execSliceFlush who slice v s
  | .sliceFlushDone slice => Sys2Proof.Machine.execSliceFlushDone slice s
  | .expiryVisit => Sys2Proof.Machine.execExpiryVisit s
  | .expiryPeriodStart => Sys2Proof.Machine.execExpiryPeriodStart s
  | .removalCommit cls key => Sys2Proof.Machine.execRemovalCommit cls key s
  | .bindingComplete cls key => Sys2Proof.Machine.execBindingComplete cls key s
  | .ipfixExportSend coll => Sys2Proof.Machine.execIpfixExportSend coll s
  | .ipfixTemplateSend coll => Sys2Proof.Machine.execIpfixTemplateSend coll s
  | .sessionStage n => Sys2Proof.Machine.execSessionStage n s
  | .policerDecision n => Sys2Proof.Machine.execPolicerDecision n s
  | .edit n => Sys2Proof.Machine.execEdit n s
  | .captureRecordWrite port => Sys2Proof.Machine.execCaptureRecordWrite port s
  | .cellWrite n => Sys2Proof.Machine.execCellWrite n s
  | .creditWait pipe slice => Sys2Proof.Machine.execCreditWait pipe slice s
  | .cellArrive plane src dst ok nextOk pick => Sys2Proof.Machine.execCellArrive plane src dst ok nextOk pick s
  | .tombstonePost slice pick => Sys2Proof.Machine.execTombstonePost slice pick s
  | .backstopExpiry slice stream pick => Sys2Proof.Machine.execBackstopExpiry slice stream pick s
  | .incompletePacketExpiry slice stream seq => Sys2Proof.Machine.execIncompletePacketExpiry slice stream seq s
  | .replicate slice pick => Sys2Proof.Machine.execReplicate slice pick s
  | .alloc slice req pick => Sys2Proof.Machine.execAlloc slice req pick s
  | .share slice req n mask ids => Sys2Proof.Machine.execShare slice req n mask ids s
  | .handoff slice req to_ ids => Sys2Proof.Machine.execHandoff slice req to_ ids s
  | .release slice req ids => Sys2Proof.Machine.execRelease slice req ids s
  | .free slice req ids => Sys2Proof.Machine.execFree slice req ids s
  | .releaseFree slice req ids => Sys2Proof.Machine.execReleaseFree slice req ids s
  | .stageAgeExpiry slice q pick => Sys2Proof.Machine.execStageAgeExpiry slice q pick s
  | .chunkWriteIssue slice q pick => Sys2Proof.Machine.execChunkWriteIssue slice q pick s
  | .chunkWriteComplete slice q => Sys2Proof.Machine.execChunkWriteComplete slice q s
  | .chunkFetchIssue slice q pick => Sys2Proof.Machine.execChunkFetchIssue slice q pick s
  | .chunkFetchReturn slice q ok => Sys2Proof.Machine.execChunkFetchReturn slice q ok s
  | .bufferReclaimSweep slice req => Sys2Proof.Machine.execBufferReclaimSweep slice req s
  | .scheduleDecision slice j => Sys2Proof.Machine.execScheduleDecision slice j s
  | .shaperRefill slice => Sys2Proof.Machine.execShaperRefill slice s
  | .starveExpiry slice q => Sys2Proof.Machine.execStarveExpiry slice q s
  | .frameTransmit port => Sys2Proof.Machine.execFrameTransmit port s
  | .txComplete port => Sys2Proof.Machine.execTxComplete port s
  | .pauseExpiry port => Sys2Proof.Machine.execPauseExpiry port s
  | .pfcExpiry port prio => Sys2Proof.Machine.execPfcExpiry port prio s
  | .pfcStorm port cls => Sys2Proof.Machine.execPfcStorm port cls s
  | .pfcRecoverExpiry port prio => Sys2Proof.Machine.execPfcRecoverExpiry port prio s
  | .xoff port prio => Sys2Proof.Machine.execXoff port prio s
  | .xon port prio => Sys2Proof.Machine.execXon port prio s
  | .pauseRefresh port prio => Sys2Proof.Machine.execPauseRefresh port prio s
  | .pauseFrameSend port => Sys2Proof.Machine.execPauseFrameSend port s
  | .prtModeWrite who port v => Sys2Proof.Machine.execPrtModeWrite who port v s
  | .portReset who port v => Sys2Proof.Machine.execPortReset who port v s
  | .laneReset who lane v => Sys2Proof.Machine.execLaneReset who lane v s
  | .octetReset who octet v => Sys2Proof.Machine.execOctetReset who octet v s
  | .octetPllRelock octet => Sys2Proof.Machine.execOctetPllRelock octet s
  | .octetPllUnlock octet => Sys2Proof.Machine.execOctetPllUnlock octet s
  | .portDisableDrainExpiry port => Sys2Proof.Machine.execPortDisableDrainExpiry port s
  | .anPageReceive port valid page => Sys2Proof.Machine.execAnPageReceive port valid page s
  | .anTrainingComplete port => Sys2Proof.Machine.execAnTrainingComplete port s
  | .anAttemptFail port => Sys2Proof.Machine.execAnAttemptFail port s
  | .ltTimeout port => Sys2Proof.Machine.execLtTimeout port s
  | .pcsLinkUp port => Sys2Proof.Machine.execPcsLinkUp port s
  | .pcsLinkLost port => Sys2Proof.Machine.execPcsLinkLost port s
  | .upDebounceExpiry port => Sys2Proof.Machine.execUpDebounceExpiry port s
  | .linkFault port fault => Sys2Proof.Machine.execLinkFault port fault s
  | .downDelayExpiry port => Sys2Proof.Machine.execDownDelayExpiry port s
  | .laneLos lane signal => Sys2Proof.Machine.execLaneLos lane signal s
  | .ebbHelloTimer port => Sys2Proof.Machine.execEbbHelloTimer port s
  | .ebbFrameReceive port => Sys2Proof.Machine.execEbbFrameReceive port s
  | .ebbShed port => Sys2Proof.Machine.execEbbShed port s
  | .ebbRestoreTrigger port => Sys2Proof.Machine.execEbbRestoreTrigger port s
  | .ebbRequestTimeout port => Sys2Proof.Machine.execEbbRequestTimeout port s
  | .ebbWakeTimeout port => Sys2Proof.Machine.execEbbWakeTimeout port s
  | .ebbWidthSwitch port => Sys2Proof.Machine.execEbbWidthSwitch port s
  | .lpiEntry lpi => Sys2Proof.Machine.execLpiEntry lpi s
  | .lpiExit port => Sys2Proof.Machine.execLpiExit port s
  | .prbsErrClear who lane v => Sys2Proof.Machine.execPrbsErrClear who lane v s
  | .prbsError lane locked n => Sys2Proof.Machine.execPrbsError lane locked n s
  | .quietNFall lowNs => Sys2Proof.Machine.execQuietNFall lowNs s
  | .quietNRise => Sys2Proof.Machine.execQuietNRise s
  | .mkpduReceive port m => Sys2Proof.Machine.execMkpduReceive port m s
  | .mkaHelloSend port => Sys2Proof.Machine.execMkaHelloSend port s
  | .mkaPeerTimeout port sci => Sys2Proof.Machine.execMkaPeerTimeout port sci s
  | .txSaSwitch port => Sys2Proof.Machine.execTxSaSwitch port s
  | .saLingerExpiry port => Sys2Proof.Machine.execSaLingerExpiry port s
  | .saStateEcc port tx sc an => Sys2Proof.Machine.execSaStateEcc port tx sc an s
  | .prsDisable who pipe v => Sys2Proof.Machine.execPrsDisable who pipe v s
  | .prsParityCheck pipe bad => Sys2Proof.Machine.execPrsParityCheck pipe bad s
  | .stageQuiet blk inst => Sys2Proof.Machine.execStageQuiet blk inst s
  | .drainLimitExpiry blk inst => Sys2Proof.Machine.execDrainLimitExpiry blk inst s
  | .beginSet tag pipe => Sys2Proof.Machine.execBeginSet tag pipe s
  | .beginCopyDone pipe => Sys2Proof.Machine.execBeginCopyDone pipe s
  | .ruleWrite tag pipe bank row value care act => Sys2Proof.Machine.execRuleWrite tag pipe bank row value care act s
  | .ruleDelete tag pipe bank row => Sys2Proof.Machine.execRuleDelete tag pipe bank row s
  | .commit tag pipe => Sys2Proof.Machine.execCommit tag pipe s
  | .epochFlip pipe => Sys2Proof.Machine.execEpochFlip pipe s
  | .slotDrained pipe => Sys2Proof.Machine.execSlotDrained pipe s
  | .epochDrainLimit pipe => Sys2Proof.Machine.execEpochDrainLimit pipe s
  | .rbkScrub pipe corrected bad => Sys2Proof.Machine.execRbkScrub pipe corrected bad s
  | .rbkParityCheck pipe slot bad => Sys2Proof.Machine.execRbkParityCheck pipe slot bad s
  | .rbkDisable who pipe v => Sys2Proof.Machine.execRbkDisable who pipe v s
  | .emInsert tag pipe sect key static cls word meta_ => Sys2Proof.Machine.execEmInsert tag pipe sect key static cls word meta_ s
  | .emDelete tag pipe sect key => Sys2Proof.Machine.execEmDelete tag pipe sect key s
  | .emModify tag pipe sect key static cls word meta_ => Sys2Proof.Machine.execEmModify tag pipe sect key static cls word meta_ s
  | .emHitRead tag pipe sect key => Sys2Proof.Machine.execEmHitRead tag pipe sect key s
  | .routeAdd tag vrf v6 len prefix_ word => Sys2Proof.Machine.execRouteAdd tag vrf v6 len prefix_ word s
  | .routeDelete tag vrf v6 len prefix_ => Sys2Proof.Machine.execRouteDelete tag vrf v6 len prefix_ s
  | .routeModify tag vrf v6 len prefix_ word => Sys2Proof.Machine.execRouteModify tag vrf v6 len prefix_ word s
  | .tableScrub pipe emCorrected lpmCorrected kind bad => Sys2Proof.Machine.execTableScrub pipe emCorrected lpmCorrected kind bad s
  | .exmParityCheck pipe bad => Sys2Proof.Machine.execExmParityCheck pipe bad s
  | .exmDisable who pipe v => Sys2Proof.Machine.execExmDisable who pipe v s
  | .lpmDisable who pipe v => Sys2Proof.Machine.execLpmDisable who pipe v s
  | .learnDecide take => Sys2Proof.Machine.execLearnDecide take s
  | .learnTick pipe => Sys2Proof.Machine.execLearnTick pipe s
  | .lrnFlush tag pipe sect port vid => Sys2Proof.Machine.execLrnFlush tag pipe sect port vid s
  | .sweepPassStart pipe => Sys2Proof.Machine.execSweepPassStart pipe s
  | .sweepVisit pipe => Sys2Proof.Machine.execSweepVisit pipe s
  | .walkVisit pipe kind block f => Sys2Proof.Machine.execWalkVisit pipe kind block f s
  | .walkPeriodStart pipe => Sys2Proof.Machine.execWalkPeriodStart pipe s
  | .shadowRepair pipe kind block f => Sys2Proof.Machine.execShadowRepair pipe kind block f s
  | .lrnDisable who pipe v => Sys2Proof.Machine.execLrnDisable who pipe v s
  | .flowDelete tag cls key => Sys2Proof.Machine.execFlowDelete tag cls key s
  | .flowRead tag cls key => Sys2Proof.Machine.execFlowRead tag cls key s
  | .flwDisable who pipe v => Sys2Proof.Machine.execFlwDisable who pipe v s
  | .sliceDisable who slice v => Sys2Proof.Machine.execSliceDisable who slice v s
  | .seedRestore g how => Sys2Proof.Machine.execSeedRestore g how s
  | .lbMemberSet tag group slot nh weight => Sys2Proof.Machine.execLbMemberSet tag group slot nh weight s
  | .lbMemberDrain tag group slot => Sys2Proof.Machine.execLbMemberDrain tag group slot s
  | .lbMemberRemove tag group slot => Sys2Proof.Machine.execLbMemberRemove tag group slot s
  | .lbGroupStatus tag group => Sys2Proof.Machine.execLbGroupStatus tag group s
  | .sessionCreate tag idx body => Sys2Proof.Machine.execSessionCreate tag idx body s
  | .sessionModify tag idx body clearNotified endMarker => Sys2Proof.Machine.execSessionModify tag idx body clearNotified endMarker s
  | .sessionDelete tag idx => Sys2Proof.Machine.execSessionDelete tag idx s
  | .sessionRead tag idx => Sys2Proof.Machine.execSessionRead tag idx s
  | .urrQuery tag idx mask => Sys2Proof.Machine.execUrrQuery tag idx mask s
  | .usageSettle idx u => Sys2Proof.Machine.execUsageSettle idx u s
  | .timeThresholdExpiry idx u => Sys2Proof.Machine.execTimeThresholdExpiry idx u s
  | .reportRingSpace => Sys2Proof.Machine.execReportRingSpace s
  | .bufferEnqueue => Sys2Proof.Machine.execBufferEnqueue s
  | .bufferExpiry idx => Sys2Proof.Machine.execBufferExpiry idx s
  | .replaySend idx => Sys2Proof.Machine.execReplaySend idx s
  | .replayEnd idx => Sys2Proof.Machine.execReplayEnd idx s
  | .echoRequest n => Sys2Proof.Machine.execEchoRequest n s
  | .errorIndicationSend => Sys2Proof.Machine.execErrorIndicationSend s
  | .endMarkerSend => Sys2Proof.Machine.execEndMarkerSend s
  | .upsDisable who pipe v => Sys2Proof.Machine.execUpsDisable who pipe v s
  | .nhWrite tag idx entry => Sys2Proof.Machine.execNhWrite tag idx entry s
  | .tplWrite tag idx t => Sys2Proof.Machine.execTplWrite tag idx t s
  | .editWrite tag idx words => Sys2Proof.Machine.execEditWrite tag idx words s
  | .edtDisable who pipe v => Sys2Proof.Machine.execEdtDisable who pipe v s
  | .capRdWrite who ring v => Sys2Proof.Machine.execCapRdWrite who ring v s
  | .capRingDisable who ring v => Sys2Proof.Machine.execCapRingDisable who ring v s
  | .edtTableRestore pipe kind idx => Sys2Proof.Machine.execEdtTableRestore pipe kind idx s
  | .queQcfgWrite who slice v => Sys2Proof.Machine.execQueQcfgWrite who slice v s
  | .queueDrainExpiry slice q => Sys2Proof.Machine.execQueueDrainExpiry slice q s
  | .queDisable who slice v => Sys2Proof.Machine.execQueDisable who slice v s
  | .holdDeadlineExpiry port => Sys2Proof.Machine.execHoldDeadlineExpiry port s
  | .portFlushComplete port => Sys2Proof.Machine.execPortFlushComplete port s
  | .mcGroupWrite tag group l0 l1 l2 l3 => Sys2Proof.Machine.execMcGroupWrite tag group l0 l1 l2 l3 s
  | .queueMove tag slice a b => Sys2Proof.Machine.execQueueMove tag slice a b s
  | .queueMoveDone slice a => Sys2Proof.Machine.execQueueMoveDone slice a s
  | .moveDrainExpiry slice a => Sys2Proof.Machine.execMoveDrainExpiry slice a s
  | .schElementWrite who slice v => Sys2Proof.Machine.execSchElementWrite who slice v s
  | .schElementRead who slice v => Sys2Proof.Machine.execSchElementRead who slice v s
  | .policerWrite who p v => Sys2Proof.Machine.execPolicerWrite who p v s
  | .policerRead who p v => Sys2Proof.Machine.execPolicerRead who p v s
  | .schStateEccFix slice policer level site => Sys2Proof.Machine.execSchStateEccFix slice policer level site s
  | .todSnap who v => Sys2Proof.Machine.execTodSnap who v s
  | .todSet who v => Sys2Proof.Machine.execTodSet who v s
  | .lhtCtrlWrite who v => Sys2Proof.Machine.execLhtCtrlWrite who v s
  | .ppsInEdge r rising widthNs => Sys2Proof.Machine.execPpsInEdge r rising widthNs s
  | .freqGateMeasure r ppb => Sys2Proof.Machine.execFreqGateMeasure r ppb s
  | .refQualify r => Sys2Proof.Machine.execRefQualify r s
  | .refLoss r lock => Sys2Proof.Machine.execRefLoss r lock s
  | .wtrExpiry synce => Sys2Proof.Machine.execWtrExpiry synce s
  | .todMessageReceive sec csumOk => Sys2Proof.Machine.execTodMessageReceive sec csumOk s
  | .todLabelLoss => Sys2Proof.Machine.execTodLabelLoss s
  | .ptpPhaseSample port => Sys2Proof.Machine.execPtpPhaseSample port s
  | .timeLock => Sys2Proof.Machine.execTimeLock s
  | .tuRecompute => Sys2Proof.Machine.execTuRecompute s
  | .modelFit y0 d k tl uf ud ut stored => Sys2Proof.Machine.execModelFit y0 d k tl uf ud ut stored s
  | .tempSample mv => Sys2Proof.Machine.execTempSample mv s
  | .tempFaultClear => Sys2Proof.Machine.execTempFaultClear s
  | .oscLoss => Sys2Proof.Machine.execOscLoss s
  | .oscRecover => Sys2Proof.Machine.execOscRecover s
  | .ppsOutEdge n => Sys2Proof.Machine.execPpsOutEdge n s
  | .ppsPulseEnd n => Sys2Proof.Machine.execPpsPulseEnd n s
  | .todTransmit => Sys2Proof.Machine.execTodTransmit s
  | .radioLock => Sys2Proof.Machine.execRadioLock s
  | .ptpMessageReceive n => Sys2Proof.Machine.execPtpMessageReceive n s
  | .announceTimeout port => Sys2Proof.Machine.execAnnounceTimeout port s
  | .ptpMessageSend port typ => Sys2Proof.Machine.execPtpMessageSend port typ s
  | .txTsMissing port => Sys2Proof.Machine.execTxTsMissing port s
  | .faultyExit port => Sys2Proof.Machine.execFaultyExit port s
  | .grantRenew port k typ => Sys2Proof.Machine.execGrantRenew port k typ s
  | .grantExpiry port => Sys2Proof.Machine.execGrantExpiry port s
  | .qualityDerive => Sys2Proof.Machine.execQualityDerive s
  | .ptpTaskResume => Sys2Proof.Machine.execPtpTaskResume s
  | .ptpDisable who v => Sys2Proof.Machine.execPtpDisable who v s
  | .esmcReceive n => Sys2Proof.Machine.execEsmcReceive n s
  | .esmcTimeout port => Sys2Proof.Machine.execEsmcTimeout port s
  | .qlHoldoffExpiry port => Sys2Proof.Machine.execQlHoldoffExpiry port s
  | .esmcInfoSend port => Sys2Proof.Machine.execEsmcInfoSend port s
  | .esmcEventSend port => Sys2Proof.Machine.execEsmcEventSend port s
  | .expressArrive n => Sys2Proof.Machine.execExpressArrive n s
  | .cutThroughStart port => Sys2Proof.Machine.execCutThroughStart port s
  | .cutThroughCut port => Sys2Proof.Machine.execCutThroughCut port s
  | .preemptVerifySend port => Sys2Proof.Machine.execPreemptVerifySend port s
  | .preemptVerifyResponse port => Sys2Proof.Machine.execPreemptVerifyResponse port s
  | .preemptVerifyFail port => Sys2Proof.Machine.execPreemptVerifyFail port s
  | .expWrite tag pipe idx e => Sys2Proof.Machine.execExpWrite tag pipe idx e s
  | .gclWrite who pipe v => Sys2Proof.Machine.execGclWrite who pipe v s
  | .gclRead who pipe v => Sys2Proof.Machine.execGclRead who pipe v s
  | .gclCommit who pipe v => Sys2Proof.Machine.execGclCommit who pipe v s
  | .gclCancel who pipe v => Sys2Proof.Machine.execGclCancel who pipe v s
  | .listChange port => Sys2Proof.Machine.execListChange port s
  | .gateEntryStart port => Sys2Proof.Machine.execGateEntryStart port s
  | .mergeHoldAssert port => Sys2Proof.Machine.execMergeHoldAssert port s
  | .cycleStart port => Sys2Proof.Machine.execCycleStart port s
  | .stepGateFallback port => Sys2Proof.Machine.execStepGateFallback port s
  | .gtePortCfgWrite who port v => Sys2Proof.Machine.execGtePortCfgWrite who port v s
  | .expressDisableExpiry port => Sys2Proof.Machine.execExpressDisableExpiry port s
  | .hbRequestIssue pc j => Sys2Proof.Machine.execHbRequestIssue pc j s
  | .hbRequestComplete pc e => Sys2Proof.Machine.execHbRequestComplete pc e s
  | .hbAgePromote pc j => Sys2Proof.Machine.execHbAgePromote pc j s
  | .bankRefresh pc bank => Sys2Proof.Machine.execBankRefresh pc bank s
  | .stackTempRead st temp => Sys2Proof.Machine.execStackTempRead st temp s
  | .retrainPause pc => Sys2Proof.Machine.execRetrainPause pc s
  | .fullRetrain pc ok => Sys2Proof.Machine.execFullRetrain pc ok s
  | .maintForce kind pc => Sys2Proof.Machine.execMaintForce kind pc s
  | .laneRepair pc spare => Sys2Proof.Machine.execLaneRepair pc spare s
  | .scrubRead st e newer => Sys2Proof.Machine.execScrubRead st e newer s
  | .rowRepair pc row spare => Sys2Proof.Machine.execRowRepair pc row spare s
  | .hbRepair tag pc row => Sys2Proof.Machine.execHbRepair tag pc row s
  | .pcRetire pc parity => Sys2Proof.Machine.execPcRetire pc parity s
  | .hbInitFill => Sys2Proof.Machine.execHbInitFill s
  | .hbBackgroundFillDone st => Sys2Proof.Machine.execHbBackgroundFillDone st s
  | .selfRefreshEnter st => Sys2Proof.Machine.execSelfRefreshEnter st s
  | .selfRefreshExit st => Sys2Proof.Machine.execSelfRefreshExit st s
  | .tideBoundary g => Sys2Proof.Machine.execTideBoundary g s
  | .tideAdmit g act => Sys2Proof.Machine.execTideAdmit g act s
  | .tideApply who inst v => Sys2Proof.Machine.execTideApply who inst v s
  | .tideStarve g act => Sys2Proof.Machine.execTideStarve g act s
  | .ttbParityCheck g act counter register => Sys2Proof.Machine.execTtbParityCheck g act counter register s
  | .keeperNop e task changes found => Sys2Proof.Machine.execKeeperNop e task changes found s
  | .keeperHold e task changes => Sys2Proof.Machine.execKeeperHold e task changes s
  | .keeperRelease e task changes => Sys2Proof.Machine.execKeeperRelease e task changes s
  | .keeperYield e task changes => Sys2Proof.Machine.execKeeperYield e task changes s
  | .keeperWait e task changes => Sys2Proof.Machine.execKeeperWait e task changes s
  | .keeperBeat e task changes => Sys2Proof.Machine.execKeeperBeat e task changes s
  | .illegalInstruction e code => Sys2Proof.Machine.execIllegalInstruction e code s
  | .commitPortApply => Sys2Proof.Machine.execCommitPortApply s
  | .holdOverrun e why => Sys2Proof.Machine.execHoldOverrun e why s
  | .keeperResultArrive task gen => Sys2Proof.Machine.execKeeperResultArrive task gen s
  | .engineWatchdogExpiry task => Sys2Proof.Machine.execEngineWatchdogExpiry task s
  | .engineResetDone e => Sys2Proof.Machine.execEngineResetDone e s
  | .taskMoveRun task => Sys2Proof.Machine.execTaskMoveRun task s
  | .taskMove tag task => Sys2Proof.Machine.execTaskMove tag task s
  | .clusterLockup why => Sys2Proof.Machine.execClusterLockup why s
  | .clusterResetDone => Sys2Proof.Machine.execClusterResetDone s
  | .supervisorWatchdogExpiry => Sys2Proof.Machine.execSupervisorWatchdogExpiry s
  | .controlStoreWalk fetched found => Sys2Proof.Machine.execControlStoreWalk fetched found s
  | .controlStoreRestore word crcOk => Sys2Proof.Machine.execControlStoreRestore word crcOk s
  | .patchLoad tag m words => Sys2Proof.Machine.execPatchLoad tag m words s
  | .patchQuietPoint => Sys2Proof.Machine.execPatchQuietPoint s
  | .patchQuietExpiry => Sys2Proof.Machine.execPatchQuietExpiry s
  | .abort tag target => Sys2Proof.Machine.execAbort tag target s
  | .counterRead tag names => Sys2Proof.Machine.execCounterRead tag names s
  | .bufRead tag slice id => Sys2Proof.Machine.execBufRead tag slice id s
  | .mbxCmdTailWrite who v => Sys2Proof.Machine.execMbxCmdTailWrite who v s
  | .mbxFetch h => Sys2Proof.Machine.execMbxFetch h s
  | .mbxCommandStart tag => Sys2Proof.Machine.execMbxCommandStart tag s
  | .mbxCommandTimeout tag => Sys2Proof.Machine.execMbxCommandTimeout tag s
  | .mbxReplyWrite => Sys2Proof.Machine.execMbxReplyWrite s
  | .mbxDmaTimeout => Sys2Proof.Machine.execMbxDmaTimeout s
  | .mbxEnable who v => Sys2Proof.Machine.execMbxEnable who v s
  | .notificationWrite => Sys2Proof.Machine.execNotificationWrite s
  | .keyWrite tag key => Sys2Proof.Machine.execKeyWrite tag key s
  | .cakRetire port => Sys2Proof.Machine.execCakRetire port s
  | .bundleEnable who b v => Sys2Proof.Machine.execBundleEnable who b v s
  | .bundleTrained b => Sys2Proof.Machine.execBundleTrained b s
  | .helloReceive b h => Sys2Proof.Machine.execHelloReceive b h s
  | .authRetry b => Sys2Proof.Machine.execAuthRetry b s
  | .authTimeout b => Sys2Proof.Machine.execAuthTimeout b s
  | .bundleRetrainTimer b => Sys2Proof.Machine.execBundleRetrainTimer b s
  | .fleitFrameSend b pick => Sys2Proof.Machine.execFleitFrameSend b pick s
  | .fleitFrameReceive b hdr payload crc => Sys2Proof.Machine.execFleitFrameReceive b hdr payload crc s
  | .nakReceive b ackSeq => Sys2Proof.Machine.execNakReceive b ackSeq s
  | .replayTimeout b => Sys2Proof.Machine.execReplayTimeout b s
  | .fleitAckReceive b ackSeq ch credits => Sys2Proof.Machine.execFleitAckReceive b ackSeq ch credits s
  | .creditStall b ch => Sys2Proof.Machine.execCreditStall b ch s
  | .heartbeatSend b => Sys2Proof.Machine.execHeartbeatSend b s
  | .heartbeatLoss b => Sys2Proof.Machine.execHeartbeatLoss b s
  | .fleitLaneFail b lane => Sys2Proof.Machine.execFleitLaneFail b lane s
  | .spareReqReceive b lane => Sys2Proof.Machine.execSpareReqReceive b lane s
  | .spareAck b => Sys2Proof.Machine.execSpareAck b s
  | .spareReturn b lane => Sys2Proof.Machine.execSpareReturn b lane s
  | .linkTimeSample b => Sys2Proof.Machine.execLinkTimeSample b s
  | .stackMasterCheck => Sys2Proof.Machine.execStackMasterCheck s
  | .pairElection => Sys2Proof.Machine.execPairElection s
  | .mirrorAppend => Sys2Proof.Machine.execMirrorAppend s
  | .mirrorAccept => Sys2Proof.Machine.execMirrorAccept s
  | .mirrorApply => Sys2Proof.Machine.execMirrorApply s
  | .twinLost => Sys2Proof.Machine.execTwinLost s
  | .yieldSend => Sys2Proof.Machine.execYieldSend s
  | .takeover => Sys2Proof.Machine.execTakeover s
  | .rejoinFill => Sys2Proof.Machine.execRejoinFill s
  | .resyncWalk => Sys2Proof.Machine.execResyncWalk s
  | .syncEndAccept => Sys2Proof.Machine.execSyncEndAccept s
  | .bundleDisable who b v => Sys2Proof.Machine.execBundleDisable who b v s
  | .bundleCloseExpiry b => Sys2Proof.Machine.execBundleCloseExpiry b s
  | .fuseRead => Sys2Proof.Machine.execFuseRead s
  | .fuseBlow => Sys2Proof.Machine.execFuseBlow s
  | .provisionApply ps => Sys2Proof.Machine.execProvisionApply ps s
  | .manifestVerify m => Sys2Proof.Machine.execManifestVerify m s
  | .sectionHash digest tagOk keys => Sys2Proof.Machine.execSectionHash digest tagOk keys s
  | .svnCommitDue golden => Sys2Proof.Machine.execSvnCommitDue golden s
  | .svnRecheck golden => Sys2Proof.Machine.execSvnRecheck golden s
  | .patchSvnCommit => Sys2Proof.Machine.execPatchSvnCommit s
  | .certInstall who issuerHash sigOk => Sys2Proof.Machine.execCertInstall who issuerHash sigOk s
  | .attest who => Sys2Proof.Machine.execAttest who s
  | .debugChallenge who => Sys2Proof.Machine.execDebugChallenge who s
  | .debugResponse who keyHash sigOk => Sys2Proof.Machine.execDebugResponse who keyHash sigOk s
  | .challengeExpiry => Sys2Proof.Machine.execChallengeExpiry s
  | .rngHealthFail => Sys2Proof.Machine.execRngHealthFail s
  | .glitchTrip sensor => Sys2Proof.Machine.execGlitchTrip sensor s
  | .attemptStart xspi => Sys2Proof.Machine.execAttemptStart xspi s
  | .flashRead bytes ok => Sys2Proof.Machine.execFlashRead bytes ok s
  | .flashReadTimeout => Sys2Proof.Machine.execFlashReadTimeout s
  | .attemptFail cause => Sys2Proof.Machine.execAttemptFail cause s
  | .phaseTimeout => Sys2Proof.Machine.execPhaseTimeout s
  | .noImageRetry => Sys2Proof.Machine.execNoImageRetry s
  | .flashOpRead who => Sys2Proof.Machine.execFlashOpRead who s
  | .flashOpProgram who => Sys2Proof.Machine.execFlashOpProgram who s
  | .flashOpErase who => Sys2Proof.Machine.execFlashOpErase who s
  | .flashOpTimeout => Sys2Proof.Machine.execFlashOpTimeout s
  | .functionLevelReset cause => Sys2Proof.Machine.execFunctionLevelReset cause s
  | .perstAssert lowClk => Sys2Proof.Machine.execPerstAssert lowClk s
  | .rxRingDeliver ring desc => Sys2Proof.Machine.execRxRingDeliver ring desc s
  | .txDescriptor ring desc bytes => Sys2Proof.Machine.execTxDescriptor ring desc bytes s
  | .ringTailWrite a w be => Sys2Proof.Machine.execRingTailWrite a w be s
  | .ringDisable who tx ring v => Sys2Proof.Machine.execRingDisable who tx ring v s
  | .ringVectorCoalesce tx ring => Sys2Proof.Machine.execRingVectorCoalesce tx ring s
  | .dmaTimeout tx ring => Sys2Proof.Machine.execDmaTimeout tx ring s
  | .powerOn lowClk => Sys2Proof.Machine.execPowerOn lowClk s
  | .brownOut rails lowClk => Sys2Proof.Machine.execBrownOut rails lowClk s
  | .resetNAssert lowClk => Sys2Proof.Machine.execResetNAssert lowClk s
  | .resetNRelease => Sys2Proof.Machine.execResetNRelease s
  | .softwareReset who v => Sys2Proof.Machine.execSoftwareReset who v s
  | .dbgReset => Sys2Proof.Machine.execDbgReset s
  | .resetTakeHold wedged => Sys2Proof.Machine.execResetTakeHold wedged s
  | .resetAssert => Sys2Proof.Machine.execResetAssert s
  | .releasePhaseComplete patches => Sys2Proof.Machine.execReleasePhaseComplete patches s
  | .trimLoad region crcOk => Sys2Proof.Machine.execTrimLoad region crcOk s
  | .trimRetry => Sys2Proof.Machine.execTrimRetry s
  | .stateAdopt => Sys2Proof.Machine.execStateAdopt s
  | .blockResetPipeline who p v => Sys2Proof.Machine.execBlockResetPipeline who p v s
  | .blockResetDevice who v => Sys2Proof.Machine.execBlockResetDevice who v s
  | .blockResetDone key => Sys2Proof.Machine.execBlockResetDone key s
  | .pwrReqWrite who k v => Sys2Proof.Machine.execPwrReqWrite who k v s
  | .domainDownDone => Sys2Proof.Machine.execDomainDownDone s
  | .domainUpDone => Sys2Proof.Machine.execDomainUpDone s
  | .domainPowerFail => Sys2Proof.Machine.execDomainPowerFail s
  | .refclkLoss disturb => Sys2Proof.Machine.execRefclkLoss disturb s
  | .refclkQualify b => Sys2Proof.Machine.execRefclkQualify b s
  | .refclkSwitch => Sys2Proof.Machine.execRefclkSwitch s
  | .clockLoss => Sys2Proof.Machine.execClockLoss s
  | .pllUnlock pll relocked => Sys2Proof.Machine.execPllUnlock pll relocked s
  | .junctionSample readings => Sys2Proof.Machine.execJunctionSample readings s
  | .sensorRejoin j => Sys2Proof.Machine.execSensorRejoin j s
  | .thermalTrip => Sys2Proof.Machine.execThermalTrip s
  | .eventRaise group index scope inst detail => Sys2Proof.Machine.execEventRaise group index scope inst detail s
  | .evtStatusClear who g v => Sys2Proof.Machine.execEvtStatusClear who g v s
  | .evtRouteWrite who route g v => Sys2Proof.Machine.execEvtRouteWrite who route g v s
  | .msixFoldExpiry g => Sys2Proof.Machine.execMsixFoldExpiry g s
  | .logFoldExpiry g j => Sys2Proof.Machine.execLogFoldExpiry g j s
  | .logRdWrite who v => Sys2Proof.Machine.execLogRdWrite who v s
  | .loopbackSet who port v => Sys2Proof.Machine.execLoopbackSet who port v s
  | .bistGo who v => Sys2Proof.Machine.execBistGo who v s
  | .bistDone fails => Sys2Proof.Machine.execBistDone fails s
  | .extestLoad => Sys2Proof.Machine.execExtestLoad s
  | .injectArm who v => Sys2Proof.Machine.execInjectArm who v s
  | .injectExpiry => Sys2Proof.Machine.execInjectExpiry s
  | .perturbStart who slot v => Sys2Proof.Machine.execPerturbStart who slot v s
  | .perturbDutyToggle slot => Sys2Proof.Machine.execPerturbDutyToggle slot s
  | .perturbEnd slot => Sys2Proof.Machine.execPerturbEnd slot s
  | .linkFaultClear port fault => Sys2Proof.Machine.execLinkFaultClear port fault s
  | .cdrLockRegained port => Sys2Proof.Machine.execCdrLockRegained port s
  | .buildingSlotCleared pipe => Sys2Proof.Machine.execBuildingSlotCleared pipe s
  | .synceLock => Sys2Proof.Machine.execSynceLock s
  | .timeRealign => Sys2Proof.Machine.execTimeRealign s
  | .attestReportDone => Sys2Proof.Machine.execAttestReportDone s
  | .rngHealthPass => Sys2Proof.Machine.execRngHealthPass s
  | .flashOpDone data => Sys2Proof.Machine.execFlashOpDone data s
  | .pcieLinkUp speed width => Sys2Proof.Machine.execPcieLinkUp speed width s
  | .pwrgoodRise => Sys2Proof.Machine.execPwrgoodRise s
  | .perstRelease => Sys2Proof.Machine.execPerstRelease s
  | .vbkRetentionLoss => Sys2Proof.Machine.execVbkRetentionLoss s

end Sys2Proof.Machine
end

