-- ==== Sys2Proof/Safety.lean ====
section
/-! DEFINITION. What the statements speak of: the canonical form of the state's large tables, what a command keeps of the
machine around it, and when a run of the device is a safe one. -/
namespace Sys2Proof.Machine

/-- The canonical form: the register file, the parity marks and the counters are listed by strictly rising key, so that equal
register files are equal data. -/
abbrev State.Canon (s : State) : Prop :=
  Sparse.wf s.regs = true ∧ Sparse.wf s.bad = true ∧ Sparse.wf s.ctrs = true

/-- What every command keeps: the commands that wait, the clock, and the canonical form. -/
def Keeps (s t : State) : Prop :=
  t.pending = s.pending ∧ t.now = s.now ∧ (s.Canon → t.Canon)

/-- Nothing differs but register words, and of these only those whose key is listed. -/
def OnlyRegs (s t : State) (keys : List Nat) : Prop :=
  t = { s with regs := t.regs, bad := t.bad } ∧
  ∀ a, a ∉ keys → Sparse.find t.regs a = Sparse.find s.regs a ∧ Sparse.find t.bad a = Sparse.find s.bad a

/-- Of the registers only those listed differ, and of the counters only those listed. -/
def Within (s t : State) (keys ctrs : List Nat) : Prop :=
  (∀ a, a ∉ keys → Sparse.find t.regs a = Sparse.find s.regs a ∧ Sparse.find t.bad a = Sparse.find s.bad a) ∧
  ∀ c, c ∉ ctrs → Sparse.find t.ctrs c = Sparse.find s.ctrs c

/-- A command that the machine is executing has a change that stands at pipeline `p` with `rest` still after it, and its operands have
passed their checks (`ok`), now or before an earlier pipeline's write. -/
abbrev State.AtPipe (s : State) (tag op : Nat) (i : Instr) (pipes : List Nat) (ok : Bool) (h : Change) (p : Nat) (rest : List Nat) : Prop :=
  s.mbxRuns tag op = true ∧ s.changeOf tag i pipes = some h ∧ h.left = p :: rest ∧ (ok = true ∨ h.undo ≠ [])

/-- A run is safe where every step of it answers a next state. -/
def SafeRun : Nat → State → Prop
  | 0, _ => True
  | n + 1, s => ∃ t, step s = .next t ∧ SafeRun n t

end Sys2Proof.Machine
end

