-- ==== Sys2Proof/Certificates/Slice0/Obligations.lean ====
section
/-! DEFINITION. The statements about the model, for the provers: what a step is, what every command keeps, what each command does where
it completes, and the rules of the spec that speak of the whole device. -/
open Sys2Proof Sys2Proof.Machine Sys2Proof.Config

/-- For every command c, queue rest cs and state s, a step of s with c in front of cs is exec of c on s with cs as its queue; and with an empty queue one core clock passes: the core clock counter rises by 1, and where no flush of a pipeline and no change of a queue map is going on, nothing else changes but the time of day, which moves by what its own clock gives (the idle step is the model's choice, log entry 2). -/
def Obligations.StepRunsFrontCommand : Prop :=
  (∀ (c : Instr) (cs : List Instr) (s : State), step { s with pending := c :: cs } = exec c { s with pending := cs }) ∧
  (∀ s : State, s.pending = [] → ∃ t, step s = .next t ∧ t.pending = [] ∧ t.now = s.now + 1) ∧
  ∀ s : State, s.pending = [] → (∀ p, p < 4 → (s.lrn p).flushes = []) → s.tm.mapQ = [] →
    step s = .next { s with now := s.now + 1, tod := s.tod + todPerClock s.now s.dpllFreq }

/-- For every state in canonical form (registers, parity marks and counters listed by strictly rising key), whatever command stands in front, if the step answers a next state, that state is in canonical form. So equal register files stay equal data in every run. -/
def Obligations.StepKeepsCanonicalForm : Prop :=
  ∀ s t : State, s.Canon → step s = .next t → t.Canon

/-- The state after reset is in canonical form with an empty queue, every counter 0, and every item of every register acting with the reset value of its register table. -/
def Obligations.ResetIsCanonical : Prop :=
  State.reset.Canon ∧ State.reset.pending = [] ∧ (∀ (c : Ctr) (item : Nat), State.reset.ctr c item = 0) ∧
  ∀ (r : Reg) (inst i k slot : Nat), State.reset.rdReg r inst i k slot = r.resetOf i k

/-- Whatever command is executed on whatever state, the next state holds the same waiting commands and the same core clock; so commands run in the order of the queue, and only the idle step counts clocks (log entry 2). -/
def Obligations.CommandsKeepQueueAndClock : Prop :=
  ∀ (c : Instr) (s t : State), exec c s = .next t → t.pending = s.pending ∧ t.now = s.now

/-- Every command of the table answers a next state on every state: none ends in a fault or a refusal. -/
def Obligations.EveryCommandAnswersNext : Prop :=
  ∀ (c : Instr) (s : State), ∃ t, exec c s = .next t

/-- For every register write of the bus: a host write without the block right is a rights violation of kind 0 whatever else is wrong with it; with the right, a host write that differs in a SEAL field is a violation of kind 1 and is counted nowhere else; a host write that passes both and fails R10 or a rule of its register is a rejected write; and one that passes all three stores the word of Table 0.2, SEAL fields repeated at their current value included (for a register none of whose bits hardware has set in this clock). A violation counts in RND_VIOLATIONS and leaves HST_WRITE_REJECTED alone; a rejected write the other way round. -/
def Obligations.WriteChecksRunInOrder : Prop :=
  (∀ (r : Reg) (inst i k : Nat) (v : Word) (bad : Bool) (f : State → State) (s : State),
    (s.hasRight r = false → s.busWrite .host r inst i k v bad f = s.violation 0 (r.addr inst i k) 0) ∧
    (s.hasRight r = true → r.sealDiffers (s.rdReg r inst i k (s.writeSlot r inst)) v = true →
      s.busWrite .host r inst i k v bad f = s.violation 1 (r.addr inst i k) 0) ∧
    (s.hasRight r = true → r.sealDiffers (s.rdReg r inst i k (s.writeSlot r inst)) v = false →
      (bad = true ∨ s.loading = true ∨ s.domainUp (r.domain inst i) = false ∨ s.testing (r.domain inst i) = true ∨
        (∃ d ∈ r.fields, d.writeOk v = false)) →
      s.busWrite .host r inst i k v bad f = s.rejectWrite) ∧
    (s.hasRight r = true → r.sealDiffers (s.rdReg r inst i k (s.writeSlot r inst)) v = false →
      bad = false → s.loading = false → s.domainUp (r.domain inst i) = true → s.testing (r.domain inst i) = false →
      (∀ d ∈ r.fields, d.writeOk v = true) → (∀ n, Sparse.find s.evt.setAt n ≠ some s.now) →
      s.busWrite .host r inst i k v bad f =
        f (s.wrReg r inst i k (r.stored (s.rdReg r inst i k (s.writeSlot r inst)) v) (s.writeSlot r inst)))) ∧
  (∀ (s : State) (kind addr op : Nat), s.Canon →
    (s.violation kind addr op).ctr .RND_VIOLATIONS = s.ctr .RND_VIOLATIONS + 1 ∧
    (s.violation kind addr op).ctr .HST_WRITE_REJECTED = s.ctr .HST_WRITE_REJECTED) ∧
  ∀ s : State, s.Canon → s.rejectWrite.ctr .HST_WRITE_REJECTED = s.ctr .HST_WRITE_REJECTED + 1 ∧
    s.rejectWrite.ctr .RND_VIOLATIONS = s.ctr .RND_VIOLATIONS

/-- For REGISTER_WRITE (registerWrite), RC_READ (rcRead), EVT_STATUS_CLEAR (evtStatusClear), EVT_ROUTE_WRITE (evtRouteWrite) and LOG_RD_WRITE (logRdWrite). (1) A write, by the host or a keeper, of a vector below 64 to EVT_GROUP_VEC[g] that passes the checks stores it, and changes no other register word and nothing else. (2) A read answers the register's word at the output and, where the register has no RC field, changes nothing else; the host's read of BAR2 (at 2^37 and up, the model's place for it, log entry 109) answers BAR2's word and changes nothing else. (3) A status clear that passes the checks leaves each status bit set if and only if it was set and either the written word has 0 there or hardware set it in this same clock (R8); where no raise of the group fell in this clock, nothing else changes. (4) A route write for the pin that passes the checks stores the written word and changes nothing else. (5) A write of the log read pointer that leaves at most 512 unread records stores it and changes nothing else. The checks are those of R11. -/
def Obligations.BusAccessesComplete : Prop :=
  (∀ (g : Nat) (v : Word) (who : Agent) (s : State), s.Canon → g < 40 → who ≠ .loader →
    s.verdict who Reg.EVT_GROUP_VEC 0 g 0 v false = .accepted →
    ∃ t, exec (.registerWrite who (Reg.EVT_GROUP_VEC.addr 0 g 0) v 15) s = .next t ∧ t.rdReg Reg.EVT_GROUP_VEC 0 g 0 = v ∧
      OnlyRegs s t [Reg.EVT_GROUP_VEC.key 0 g 0]) ∧
  (∀ (addr : Nat) (who : Agent) (s : State), addr < windowBase →
    (∀ it, itemAt (addr / 4 * 4) = some it → it.reg.fields.all (fun d => d.access != .rc) = true ∧ s.rcNow it = none) →
    exec (.rcRead who addr) s = .next (s.emit (.read (s.regRead addr)))) ∧
  (∀ (addr : Nat) (s : State), exec (.rcRead .host (2 ^ 37 + addr)) s = .next (s.emit (.read (s.bar2Word addr)))) ∧
  (∀ (g : Nat) (v : Word) (who : Agent) (s : State), s.Canon → g < 40 →
    s.verdict who Reg.EVT_STATUS 0 g 0 v (setsReservedSource g v) = .accepted →
    ∃ t, exec (.evtStatusClear who g v) s = .next t ∧
      (∀ b, b < 32 → (t.rdReg Reg.EVT_STATUS 0 g 0).getLsbD b = ((s.rdReg Reg.EVT_STATUS 0 g 0).getLsbD b &&
        (!v.getLsbD b || Sparse.find s.evt.setAt (Reg.EVT_STATUS.key 0 g 0 * 32 + b) == some s.now))) ∧
      ((∀ n, Sparse.find s.evt.againAt n ≠ some s.now) → OnlyRegs s t [Reg.EVT_STATUS.key 0 g 0])) ∧
  (∀ (g : Nat) (v : Word) (who : Agent) (s : State), s.Canon → g < 40 →
    s.verdict who Reg.EVT_PIN_EN 0 g 0 v (setsReservedSource g v) = .accepted →
    ∃ t, exec (.evtRouteWrite who .pin g v) s = .next t ∧ t.rd Fld.EVT_PIN_EN_EN 0 g = v.toNat ∧
      OnlyRegs s t [Reg.EVT_PIN_EN.key 0 g 0]) ∧
  (∀ (v : Word) (who : Agent) (s : State), s.Canon → (s.rd Fld.EVT_LOG_WR_COUNT + 2 ^ 32 - v.toNat) % 2 ^ 32 ≤ 512 →
    s.verdict who Reg.EVT_LOG_RD 0 0 0 v false = .accepted →
    ∃ t, exec (.logRdWrite who v) s = .next t ∧ t.rd Fld.EVT_LOG_RD_COUNT = v.toNat ∧ OnlyRegs s t [Reg.EVT_LOG_RD.key 0 0 0])

/-- For EVENT_RAISE (eventRaise), MSIX_FOLD_EXPIRY (msixFoldExpiry) and LOG_FOLD_EXPIRY (logFoldExpiry). (1) Raising an implemented source, but one of the five whose error has an effect of its own on the device (crossing queues of lanes and engines, harbour requests, buffer states, stored keys), sets its status bit, and the raise changes only event registers and counters, the event block, what left the device and the pending bits of the MSI-X table. (2) Raising a reserved source changes nothing. (3) When 10 µs have passed since a group's last message and raises were folded, with the PCIe link up and the vector unmasked, the message of the group's vector goes out, the group holds no folded raise, and nothing else changes. (4) When 10 µs have passed since a source's last record and the log is not full, the folded raises are written as one record with their number in REPEAT at the place of EVT_LOG_WR, which rises by 1. -/
def Obligations.EventsAreRaisedAndFolded : Prop :=
  (∀ (g i inst d : Nat) (sc : Scope) (e : Source) (s : State), s.Canon → source? g i = some e →
    e ∉ [Ev.LANE_QUEUE_ERR, Ev.KPR_QUEUE_ERR, Ev.HBC_REQ_ERR, Ev.RND_KEY_ECC, Ev.BPM_STATE_ECC] →
    ∃ t, exec (.eventRaise g i sc inst d) s = .next t ∧ t.evtStatus e = true ∧
      t = { s with regs := t.regs, bad := t.bad, ctrs := t.ctrs, out := t.out, evt := t.evt, hst := { s.hst with pba := t.hst.pba } } ∧
      (∀ a, a ∉ (List.range 40).map (fun j => Reg.EVT_STATUS.key 0 j 0) ++ [Reg.EVT_LOG_WR.key 0 0 0, Reg.EVT_LOG_RD.key 0 0 0] →
        Sparse.find t.regs a = Sparse.find s.regs a ∧ Sparse.find t.bad a = Sparse.find s.bad a) ∧
      ∀ c, c ∉ [Ctr.EVT_LOG_LOST.key 0, Ctr.EVT_KPR_DROP.key 0] → Sparse.find t.ctrs c = Sparse.find s.ctrs c) ∧
  (∀ (g i inst d : Nat) (sc : Scope) (s : State), source? g i = none → exec (.eventRaise g i sc inst d) s = .next s) ∧
  (∀ (g v : Nat) (s : State), Sparse.get s.evt.msgFold g false = true → Sparse.get s.evt.lastMsg g 0 + 10 * usClk ≤ s.now →
    s.on Fld.HST_PCIE_STATUS_LINK_UP = true → s.rd Fld.EVT_GROUP_VEC_VEC 0 g = v →
    s.vecMasked v = false →
    ∃ t, exec (.msixFoldExpiry g) s = .next t ∧ t.out = .msix v :: s.out ∧
      Sparse.find t.evt.lastMsg g = some s.now ∧
      t = { s with out := t.out, evt := { s.evt with lastMsg := t.evt.lastMsg, msgFold := Sparse.erase s.evt.msgFold g } }) ∧
  (∀ (g j n w : Nat) (r : BitVec 128) (s : State), s.Canon → Sparse.find s.evt.folds (g * 32 + j) = some ⟨n, r⟩ →
    Sparse.get s.evt.lastRec (g * 32 + j) 0 + 10 * usClk ≤ s.now → s.rd Fld.EVT_LOG_WR_COUNT = w →
    (w + 2 ^ 32 - s.rd Fld.EVT_LOG_RD_COUNT) % 2 ^ 32 < 512 →
    ∃ t, exec (.logFoldExpiry g j) s = .next t ∧ Sparse.find t.evt.log (w % 512) = some (LogRec.REPEAT.set r n) ∧
      t.rd Fld.EVT_LOG_WR_COUNT = (w + 1) % 2 ^ 32 ∧
      (let e : Evt := { s.evt with log := t.evt.log, lastRec := t.evt.lastRec, folds := Sparse.erase s.evt.folds (g * 32 + j) };
        t = { s with regs := t.regs, bad := t.bad, evt := e }) ∧
      Within s t [Reg.EVT_LOG_WR.key 0 0 0] [])

/-- For LANE_RESET (laneReset), OCTET_RESET (octetReset), OCTET_PLL_RELOCK (octetPllRelock), OCTET_PLL_UNLOCK (octetPllUnlock), LANE_LOS (laneLos), QUIET_N_FALL (quietNFall) and QUIET_N_RISE (quietNRise). (1) A lane reset, whose checks pass, of a lane that is no Fleit lane before or after leaves its CDR and block lock 0 and stores RATE; at a lane that is OFF, without a port or a bundle, no other register changes. (2) An octet reset whose checks pass drops the PLL's lock, stores and notes the family, changes no other register but for what the reset of each of the octet's 8 lanes then does. (3) An octet whose lower quad is ready, without an enabled port, relocks to the noted family and no other register changes. (4) A PLL that loses its lock shows it, raises EVT 2.1 and resets its 8 lanes. (5) A lane of a port, or a Fleit lane, that loses CDR lock, with its signal (false) or without (true), shows it, raises EVT 2.0 with the scope of R80 and fails. (6) QUIET_N low for 10 ns or more squelches the transmitters, below 5 ns it changes nothing, between the two either happens. (7) QUIET_N high ends it. -/
def Obligations.LanesAndOctetsComplete : Prop :=
  (∀ (who : Agent) (lane : Nat) (v : Word) (s : State), s.Canon → lane < 96 →
    s.verdict who Reg.LNE_CTRL (lane / 24) (lane % 24) 0 v (s.laneBad lane v) = .accepted →
    s.rdL Fld.LNE_CTRL_MODE lane ≠ 2 → Fld.LNE_CTRL_MODE.of v ≠ 2 → Fld.LNE_CTRL_LANE_RESET.onIn v = true →
    ∃ t, exec (.laneReset who lane v) s = .next t ∧ t.rdL Fld.LNE_STATUS_CDR_LOCK lane = 0 ∧ t.rdL Fld.LNE_STATUS_BLOCK_LOCK lane = 0 ∧
      t.rdL Fld.LNE_CTRL_RATE lane = Fld.LNE_CTRL_RATE.of v ∧
      (s.rdL Fld.LNE_CTRL_MODE lane = 0 → Fld.LNE_CTRL_MODE.of v = 0 → s.laneOwner lane = none → s.rateBundle lane = none →
      OnlyRegs s t [Reg.LNE_CTRL.key (lane / 24) (lane % 24) 0, Reg.LNE_STATUS.key (lane / 24) (lane % 24) 0])) ∧
  (∀ (who : Agent) (o : Nat) (v : Word) (s : State), s.Canon → o < 12 → Fld.LNE_OCTET_CTRL_OCTET_RESET.onIn v = true →
    s.verdict who Reg.LNE_OCTET_CTRL (o / 3) (o % 3) 0 v
      ((Fld.LNE_OCTET_CTRL_FAMILY.of v != s.rd Fld.LNE_OCTET_CTRL_FAMILY (o / 3) (o % 3)) &&
        (octetLanes o).any (fun l => s.rdL Fld.LNE_CTRL_MODE l != 0)) = .accepted →
    ∃ t : State, exec (.octetReset who o v) s = .next ((octetLanes o).foldl (fun x l => x.resetLane l) t) ∧
      Sparse.find t.clk.octetFam o = some (Fld.LNE_OCTET_CTRL_FAMILY.of v) ∧ t.rd Fld.LNE_OCTET_CTRL_PLL_LOCK (o / 3) (o % 3) = 0 ∧
      t.rd Fld.LNE_OCTET_CTRL_FAMILY (o / 3) (o % 3) = Fld.LNE_OCTET_CTRL_FAMILY.of v ∧
      OnlyRegs { s with clk := t.clk } t [Reg.LNE_OCTET_CTRL.key (o / 3) (o % 3) 0]) ∧
  (∀ (o f : Nat) (s : State), s.Canon → o < 12 → s.on Fld.LNE_OCTET_CTRL_PLL_LOCK (o / 3) (o % 3) = false → s.quadReady (8 * o) = true →
    Sparse.find s.clk.octetFam o = some f → f < 2 → (∀ p ∈ octetLanes o, s.onP Fld.PRT_MODE_EN p = false) →
    ∃ t, exec (.octetPllRelock o) s = .next t ∧ t.rd Fld.LNE_OCTET_CTRL_PLL_LOCK (o / 3) (o % 3) = 1 ∧
      t.rd Fld.LNE_OCTET_CTRL_PLL_FAMILY (o / 3) (o % 3) = f ∧
      (let c : Clk := { s.clk with octetFam := Sparse.erase s.clk.octetFam o };
        OnlyRegs { s with clk := c } t [Reg.LNE_OCTET_CTRL.key (o / 3) (o % 3) 0])) ∧
  (∀ (o : Nat) (s : State), s.on Fld.LNE_OCTET_CTRL_PLL_LOCK (o / 3) (o % 3) = true →
    exec (.octetPllUnlock o) s = .next ((octetLanes o).foldl (fun x l => x.resetLane l)
      ((s.wr Fld.LNE_OCTET_CTRL_PLL_LOCK 0 (o / 3) (o % 3)).raise Ev.OCTET_PLL_UNLOCK .octet o))) ∧
  (∀ (lane : Nat) (dark : Bool) (s u : State), s.Canon → lane < 96 → s.rdL Fld.LNE_CTRL_MODE lane ≠ 0 →
    u = (if dark then s.wrL Fld.LNE_STATUS_SIG_DET lane 0 else s).wrL Fld.LNE_STATUS_CDR_LOCK lane 0 →
    (∀ p, s.rdL Fld.LNE_CTRL_MODE lane = 1 → s.laneOwner lane = some p →
      exec (.laneLos lane dark) s = .next ((u.raise Ev.LANE_LOS .port p lane).laneFails lane)) ∧
    (s.rdL Fld.LNE_CTRL_MODE lane = 2 → exec (.laneLos lane dark) s = .next ((u.raise Ev.LANE_LOS .lane lane).laneFails lane))) ∧
  (∀ (ns : Nat) (s : State), (ns < 5 → exec (.quietNFall ns) s = .next s) ∧
    (10 ≤ ns → exec (.quietNFall ns) s = .next { s with pins := { s.pins with quietN := false, quietSeen := false } }) ∧
    (5 ≤ ns → ns < 10 → exec (.quietNFall ns) s = .next s.draw ∨
      exec (.quietNFall ns) s = .next { s.draw with pins := { s.pins with quietN := false, quietSeen := false } })) ∧
  ∀ s : State, exec .quietNRise s = .next { s with pins := { s.pins with quietN := true, quietSeen := true } }

/-- For PRT_MODE_WRITE (prtModeWrite), PORT_RESET (portReset), PORT_DISABLE_DRAIN_EXPIRY (portDisableDrainExpiry), AN_PAGE_RECEIVE (anPageReceive), AN_TRAINING_COMPLETE (anTrainingComplete), AN_ATTEMPT_FAIL (anAttemptFail) and LT_TIMEOUT (ltTimeout). (1) A mode write that passes the checks on an unconfigured disabled port and leaves it disabled stores its word and gives the type's lanes to the port as ETH lanes at the type's rate; one that sets EN puts the port into TRAINING with a new attempt; one that clears EN makes it DISABLED without faults. (2) A port reset that passes the checks on a disabled port and leaves its mode stores its word and clears the port's ebb state and nothing else; an UP port it takes to TRAINING, its ebb state cleared. (3) The frames that a disable found in the ingress FIFO are discarded 10 µs after it. (4) In negotiation a bad page is counted, a good one that offers the port's type notes whether both ends do EEE, and one that does not offer it fails the attempt. (5) Completion lets PCS link up count. (6, 7) A failed attempt counts in AN_FAIL, raises EVT 3.2 once at the retry limit, and negotiation starts anew; so does one that has run for its limit. -/
def Obligations.PortModesAndNegotiationComplete : Prop :=
  (∀ (who : Agent) (port : Nat) (v : Word) (s : State), s.Canon → port < 96 → Fld.PRT_MODE_EN.onIn v = false → s.rdP Fld.PRT_LINK_STATUS_STATE port = 0 →
    s.onP Fld.PRT_MODE_EN port = false → s.rdP Fld.PRT_MODE_TYPE port = 0 → Fld.PRT_MODE_TYPE.of v ≠ 0 →
    s.verdict who Reg.PRT_MODE (port / 24) (port % 24) 0 v (s.modeBad port v) = .accepted →
    exec (.prtModeWrite who port v) s = .next
      (((s.wrReg Reg.PRT_MODE (port / 24) (port % 24) 0 (Reg.PRT_MODE.stored (s.rdReg Reg.PRT_MODE (port / 24) (port % 24) 0) v)).wrLanes
        (lanesOf port (Fld.PRT_MODE_TYPE.of v)) Fld.LNE_CTRL_MODE 1).wrLanes
        (lanesOf port (Fld.PRT_MODE_TYPE.of v)) Fld.LNE_STATUS_RATE (typeLaneRate (Fld.PRT_MODE_TYPE.of v)))) ∧
  (∀ (who : Agent) (port : Nat) (v : Word) (s : State), s.Canon → port < 96 →
    s.verdict who Reg.PRT_MODE (port / 24) (port % 24) 0 v (s.modeBad port v) = .accepted →
    (s.onP Fld.PRT_MODE_EN port = false → Fld.PRT_MODE_EN.onIn v = true → ∃ t, exec (.prtModeWrite who port v) s = .next t ∧
      t.rdP Fld.PRT_LINK_STATUS_STATE port = 1 ∧ (t.port port).anStart = s.now ∧ (t.port port).trained = false) ∧
    (s.onP Fld.PRT_MODE_EN port = true → Fld.PRT_MODE_EN.onIn v = false → ∃ t, exec (.prtModeWrite who port v) s = .next t ∧
      t.rdP Fld.PRT_LINK_STATUS_STATE port = 0 ∧ (t.port port).faults = []) ∧
    (s.onP Fld.PRT_MODE_EN port = true → Fld.PRT_MODE_EN.onIn v = true → s.rdP Fld.PRT_LINK_STATUS_STATE port = 3 →
      ∃ t, exec (.portReset who port v) s = .next t ∧ t.rdP Fld.PRT_LINK_STATUS_STATE port = 1 ∧ (t.port port).ebb = Ebb.init)) ∧
  (∀ (who : Agent) (port : Nat) (v : Word) (s : State), s.Canon → port < 96 → Fld.PRT_MODE_EN.onIn v = false →
    s.onP Fld.PRT_MODE_EN port = false → s.rdP Fld.PRT_MODE_TYPE port = Fld.PRT_MODE_TYPE.of v → s.rdP Fld.PRT_LINK_STATUS_STATE port = 0 →
    s.verdict who Reg.PRT_MODE (port / 24) (port % 24) 0 v (s.modeBad port v) = .accepted →
    ∃ w, w = Reg.PRT_MODE.stored (s.rdReg Reg.PRT_MODE (port / 24) (port % 24) 0) v ∧
      exec (.portReset who port v) s = .next ((s.wrReg Reg.PRT_MODE (port / 24) (port % 24) 0 w).setPort port
        { s.port port with ebb := Ebb.init, pcsUp := false })) ∧
  (∀ (port t : Nat) (s : State), (s.port port).drainUntil = some t → t ≤ s.now →
    exec (.portDisableDrainExpiry port) s =
      .next ((s.setPort port { s.port port with drainUntil := none }).dropFifo port .RX_DISCARD_DISABLE
        (fun n => decide (n < (s.port port).drainPkt)))) ∧
  (∀ (port : Nat) (eee : Bool) (l : List Nat) (s : State), s.negotiating port = true →
    exec (.anPageReceive port false ⟨eee, l⟩) s = .next (s.bump .AN_BAD_PAGE port) ∧
    (s.portType port ∈ l → exec (.anPageReceive port true ⟨eee, l⟩) s =
      .next (s.setPort port { s.port port with eee := eee && s.onP Fld.PRT_MODE_EEE_EN port })) ∧
    (s.portType port ∉ l → exec (.anPageReceive port true ⟨eee, l⟩) s = .next (s.attemptFails port))) ∧
  (∀ (port : Nat) (s : State), s.negotiating port = true →
    exec (.anTrainingComplete port) s = .next (s.setPort port { s.port port with trained := true })) ∧
  (∀ (port lim n : Nat) (s : State), s.negotiating port = true → s.rdP Fld.PRT_LINK_CFG_AN_RETRY_LIMIT port = lim →
    (s.port port).anFails = n → (s.port port).anRaised = false →
    ((lim = 0 ∨ n + 1 < lim) → exec (.anAttemptFail port) s = .next
      ((s.bump .AN_FAIL port).setPort port { s.port port with anFails := n + 1, anStart := s.now, anRaised := false })) ∧
    (0 < lim → lim ≤ n + 1 → exec (.anAttemptFail port) s = .next
      (((s.bump .AN_FAIL port).setPort port { s.port port with anFails := n + 1, anStart := s.now, anRaised := true }).raise
        Ev.AN_FAIL_LIMIT .port port))) ∧
  (∀ (port : Nat) (s : State), s.negotiating port = true → (s.port port).anStart + s.ltTimeout port ≤ s.now →
    exec (.ltTimeout port) s = .next (s.attemptFails port) ∧ exec (.anAttemptFail port) s = .next (s.attemptFails port))

/-- For PCS_LINK_UP (pcsLinkUp), PCS_LINK_LOST (pcsLinkLost), UP_DEBOUNCE_EXPIRY (upDebounceExpiry), LINK_FAULT (linkFault), LINK_FAULT_CLEAR (linkFaultClear) and DOWN_DELAY_EXPIRY (downDelayExpiry). (1) A TRAINING port without auto-negotiation or with its training complete, in no far loopback, whose PLL runs its family enters CHECKING, PCS link up and without faults, with its lanes locked. (2) PCS link lost in CHECKING returns it to TRAINING. (3) PCS link up held for UP_DEBOUNCE × 10 µs, at least one clock, enters UP. (4) A first fault at an UP port with DOWN_DELAY above 0 is noted with its time and shown, and the port stays UP; with DOWN_DELAY 0 the link is declared down at once; in CHECKING it returns the port to TRAINING. (5) The last fault that clears before DOWN_DELAY has passed abandons the pending link down (that overlapping faults share one DOWN_DELAY is the model's choice, log entry 98). (6) A fault that has lasted DOWN_DELAY µs declares the link down: the port leaves UP, trains, counts LINK_DOWN and raises EVT 3.0. -/
def Obligations.LinkStatesFollowThePcs : Prop :=
  (∀ (port : Nat) (s : State), s.Canon → port < 96 → s.rdP Fld.PRT_LINK_STATUS_STATE port = 1 → s.rd Fld.DGN_PORT_LOOP_MODE 0 port ≠ 3 →
    s.pllReady port (rateFamily (typeLaneRate (s.portType port))) = true → (s.onP Fld.PRT_MODE_AN_EN port = false ∨ (s.port port).trained = true) →
    port + typeLanes (s.portType port) ≤ 96 →
    ∃ t, exec (.pcsLinkUp port) s = .next t ∧ (t.port port).pcsUp = true ∧ (t.port port).faults = [] ∧ t.rdP Fld.PRT_LINK_STATUS_STATE port = 2 ∧
      ∀ l ∈ s.portLanes port, t.rdL Fld.LNE_STATUS_CDR_LOCK l = 1 ∧ t.rdL Fld.LNE_STATUS_BLOCK_LOCK l = 1) ∧
  (∀ (port : Nat) (s : State), s.rdP Fld.PRT_LINK_STATUS_STATE port = 2 → exec (.pcsLinkLost port) s = .next (s.enterTraining port)) ∧
  (∀ (port : Nat) (s : State), s.Canon → port < 96 → s.rdP Fld.PRT_LINK_STATUS_STATE port = 2 →
    (s.port port).since + max 1 (s.rdP Fld.PRT_LINK_CFG_UP_DEBOUNCE port * 10 * usClk) ≤ s.now →
    exec (.upDebounceExpiry port) s = .next (s.enterUp port) ∧ (s.enterUp port).rdP Fld.PRT_LINK_STATUS_STATE port = 3) ∧
  (∀ (port f : Nat) (s : State), s.Canon → port < 96 → (s.port port).faults = [] → (s.port port).faultSince = none →
    ∃ u, u = (s.setPort port { s.port port with faults := [f], faultSince := some s.now }).showFaults port ∧
      (s.rdP Fld.PRT_LINK_STATUS_STATE port = 3 → s.rdP Fld.PRT_LINK_CFG_DOWN_DELAY port ≠ 0 → exec (.linkFault port f) s = .next u) ∧
      (s.rdP Fld.PRT_LINK_STATUS_STATE port = 3 → s.rdP Fld.PRT_LINK_CFG_DOWN_DELAY port = 0 → exec (.linkFault port f) s = .next (u.linkDown port)) ∧
      (s.rdP Fld.PRT_LINK_STATUS_STATE port = 2 → exec (.linkFault port f) s = .next (u.enterTraining port))) ∧
  (∀ (port f t : Nat) (s : State), (s.port port).faults = [f] → (s.port port).faultSince = some t → s.now < t + s.rdP Fld.PRT_LINK_CFG_DOWN_DELAY port * usClk →
    exec (.linkFaultClear port f) s = .next ((s.setPort port { s.port port with faults := [], faultSince := none }).showFaults port)) ∧
  (∀ (port t : Nat) (s : State), s.Canon → port < 96 → s.portUp port = true → (s.port port).faultSince = some t →
    t + s.rdP Fld.PRT_LINK_CFG_DOWN_DELAY port * usClk ≤ s.now →
    exec (.downDelayExpiry port) s =
      .next (((((s.leaveUp port).enterTraining port).bump .LINK_DOWN port).raise Ev.LINK_DOWN .port port).flushPortDown port) ∧
    (s.linkDown port).rdP Fld.PRT_LINK_STATUS_STATE port = 1)

/-- For EBB_HELLO_TIMER (ebbHelloTimer), EBB_FRAME_RECEIVE (ebbFrameReceive), EBB_SHED (ebbShed), EBB_RESTORE_TRIGGER (ebbRestoreTrigger), EBB_REQUEST_TIMEOUT (ebbRequestTimeout), EBB_WAKE_TIMEOUT (ebbWakeTimeout), CDR_LOCK_REGAINED (cdrLockRegained) and EBB_WIDTH_SWITCH (ebbWidthSwitch). (1) While HELLOs are left and none with the ebb bit came, a HELLO goes out, its sequence number one up, and the next is due 1 ms later. (2) A bad message is counted, raises EVT 3.6 and has no other effect; a good one acts. (3) A port that sent less than the mark of R68 over the window, out of the hold-off of its last restore, requests one step down. (4) A queue at RESTORE_MARK starts a restore to full width. (5) A request without acknowledgement for 100 µs is abandoned, and a restore that waited for it starts. (6) A WAKE_REQ without WAKE_READY for 50 µs takes the port down and raises EVT 3.5. (7) A partner's WAKE_REQ is answered with WAKE_READY when its lanes have lock. (8) At the switch the width that SWITCH announced becomes the active one, the lanes above it are shown as ebbed, and a shed or a restore is counted. -/
def Obligations.LaneEbbExchangesMessages : Prop :=
  (∀ (port : Nat) (e : Ebb) (s : State), (s.port port).ebb = e → s.portUp port = true → s.onP Fld.PRT_MODE_EBB_EN port = true → s.ebbInhibited port = false →
    s.onP Fld.MSC_PORT_CFG_EN port = false → e.helloLeft ≠ 0 → e.heard = false → e.helloAt ≤ s.now → e.helloFrom = some s.now →
    exec (.ebbHelloTimer port) s = .next ((s.setEbb port { e with seq := (e.seq + 1) % 65536, helloLeft := e.helloLeft - 1, helloAt := s.now + msClk, helloFrom := some s.now }).sendEbb port 1 ((e.seq + 1) % 65536) (s.ebbWidth port))) ∧
  (∀ (port : Nat) (m : BitVec 128) (r : List (BitVec 128)) (s u : State), (s.port port).ebb.inbox = m :: r →
    u = s.setEbb port { (s.port port).ebb with inbox := r } →
    (u.ebbBad port m = true → exec (.ebbFrameReceive port) s = .next ((u.bump .EBB_BAD_MSG port).raise Ev.EBB_BAD_MSG .port port)) ∧
    (u.ebbBad port m = false → exec (.ebbFrameReceive port) s = .next (u.ebbAct port m))) ∧
  (∀ (port w win narrow : Nat) (s : State), s.portUp port = true → s.onP Fld.PRT_LINK_STATUS_EBB_ACTIVE port = true → s.ebbWidth port = w →
    (s.port port).ebb.req = none → (s.port port).ebb.switchTo = none →
    (∀ t, (s.port port).ebb.lastRestore = some t → t + 2 ^ s.rdP Fld.PRT_EBB_CFG_HOLDOFF port * msClk ≤ s.now) →
    win = 2 ^ s.rdP Fld.PRT_EBB_CFG_WINDOW port * 100 * usClk → narrow = typeUnits (s.portType port) * 2 ^ (w - 1) / max 1 (typeLanes (s.portType port)) →
    s.rdP Fld.PRT_EBB_CFG_MIN_WIDTH port < w → (s.port port).since + win ≤ s.now →
    ((s.port port).txLog.filter (fun x => decide (s.now < x.1 + win))).foldl (fun a x => a + x.2) 0 * 700 < s.rdP Fld.PRT_EBB_CFG_SHED_PCT port * narrow * 10 * win →
    s.atRestoreMark port = false → exec (.ebbShed port) s = .next (s.openEbb port 2 (w - 1))) ∧
  (∀ (port : Nat) (s : State), s.portUp port = true → s.ebbWidth port < s.fullWidth port → s.atRestoreMark port = true →
    exec (.ebbRestoreTrigger port) s = .next (s.startRestore port)) ∧
  (∀ (port : Nat) (r : EbbReq) (s : State), (s.port port).ebb.req = some r → r.at_ + 100 * usClk ≤ s.now →
    ∃ u, u = s.setEbb port { (s.port port).ebb with req := none } ∧
      exec (.ebbRequestTimeout port) s = .next (if (s.port port).ebb.restoreDue then u.startRestore port else u)) ∧
  (∀ (port : Nat) (r : EbbReq) (s : State), (s.port port).ebb.req = some r → r.kind = 4 → r.at_ + 50 * usClk ≤ s.now →
    exec (.ebbWakeTimeout port) s = .next ((s.dropLink port).raise Ev.EBB_RESTORE_FAIL .port port)) ∧
  (∀ (port : Nat) (r : EbbReq) (s : State), (s.port port).ebb.peerReq = some r → r.kind = 4 →
    exec (.cdrLockRegained port) s = .next ((s.wrLanes (s.portLanes port) Fld.LNE_STATUS_CDR_LOCK 1).sendEbb port 5 r.seq r.target)) ∧
  (∀ (port w q : Nat) (e : Ebb) (s : State), (s.port port).ebb = e → e.peerSwitch = none → e.switchTo = some ⟨w, q, true⟩ → e.restoreDue = false →
    ∃ up, up = decide (s.ebbWidth port < w) ∧
      exec (.ebbWidthSwitch port) s = .next (((s.portLanes port).foldl (fun t l => t.wrL Fld.LNE_STATUS_EBBED l (decide (2 ^ w ≤ l - port)).toNat)
        ((s.setEbb port { e with switchTo := none, lastRestore := if up then some s.now else e.lastRestore }).wrP Fld.PRT_LINK_STATUS_ACTIVE_LANES port (2 ^ w))).bump
          (if up then .EBB_RESTORES else .EBB_SHEDS) port))

/-- For LPI_ENTRY (lpiEntry), LPI_EXIT (lpiExit), PRBS_ERR_CLEAR (prbsErrClear) and PRBS_ERROR (prbsError). (1) A port that may use low-power idle and has had nothing to send for IDLE_ENTRY µs enters it, shows it on its lanes and counts the entry; the partner's idle at an UP port where EEE is not active is counted. (2) With a frame to send it leaves, waits the larger of TW and the type's default, and counts the microseconds spent. (3) A write with ERR_CLEAR that passes the checks stores its pattern and sets the count to 0, and no register changes but the lane's PRBS registers and LNE_STATUS. (4) The enabled checker of an idle lane with a pattern shows whether it is locked; locked, it adds the errors, up to 0xFFFF_FFFF, and the first since the clear raises EVT 2.3. -/
def Obligations.IdleAndPrbsComplete : Prop :=
  (∀ (port : Nat) (s : State), s.portUp port = true → s.lpiAble port = true → (s.port port).lpi = none → (s.port port).tx = none →
    s.portHasFrame port = false → max (s.port port).txEnd (s.port port).wakeUntil + s.rdP Fld.PRT_EEE_CFG_IDLE_ENTRY port * usClk ≤ s.now →
    exec (.lpiEntry ⟨port, false⟩) s = .next (((s.setPort port { s.port port with lpi := some s.now }).wrLanes (s.portLanes port) Fld.LNE_STATUS_LPI 1).bump
      .LPI_ENTRIES port)) ∧
  (∀ (port : Nat) (s : State), s.portUp port = true → s.onP Fld.PRT_LINK_STATUS_EEE_ACTIVE port = false →
    exec (.lpiEntry ⟨port, true⟩) s = .next (s.bump .LPI_UNEXPECTED port)) ∧
  (∀ (port t : Nat) (s : State), s.Canon → (s.port port).lpi = some t → s.portHasFrame port = true →
    ∃ u, exec (.lpiExit port) s = .next u ∧ (u.port port).lpi = none ∧
      (u.port port).wakeUntil = s.now + max (s.rdP Fld.PRT_EEE_CFG_TW port * usClk) (lpiWake (s.portType port)) ∧
      u.ctr .LPI_TIME_US port = s.ctr .LPI_TIME_US port + (s.now - t) / usClk) ∧
  (∀ (who : Agent) (lane : Nat) (v : Word) (s : State), s.Canon → lane < 96 →
    s.verdict who Reg.LNE_PRBS_CTRL (lane / 24) (lane % 24) 0 v (s.prbsBad lane v) = .accepted → Fld.LNE_PRBS_CTRL_ERR_CLEAR.onIn v = true →
    ∃ t, exec (.prbsErrClear who lane v) s = .next t ∧ t.rdL Fld.LNE_PRBS_ERRS_ERRORS lane = 0 ∧
      t.rdL Fld.LNE_PRBS_CTRL_PATTERN lane = Fld.LNE_PRBS_CTRL_PATTERN.of v ∧
      OnlyRegs s t [Reg.LNE_PRBS_CTRL.key (lane / 24) (lane % 24) 0, Reg.LNE_PRBS_ERRS.key (lane / 24) (lane % 24) 0,
        Reg.LNE_STATUS.key (lane / 24) (lane % 24) 0]) ∧
  (∀ (lane n : Nat) (s u : State), s.Canon → lane < 96 → s.rdL Fld.LNE_PRBS_CTRL_RX_EN lane ≠ 0 → n ≠ 0 →
    s.rdL Fld.LNE_PRBS_CTRL_PATTERN lane ≠ 0 → s.prbsIdle lane = true → exec (.prbsError lane false n) s = .next (s.wrL Fld.LNE_STATUS_PRBS_LOCK lane 0) ∧
    (u = (s.wrL Fld.LNE_STATUS_PRBS_LOCK lane 1).wrL Fld.LNE_PRBS_ERRS_ERRORS lane (min 0xFFFFFFFF (s.rdL Fld.LNE_PRBS_ERRS_ERRORS lane + n)) →
    (s.rdL Fld.LNE_PRBS_ERRS_ERRORS lane ≠ 0 → exec (.prbsError lane true n) s = .next u) ∧
    (s.rdL Fld.LNE_PRBS_ERRS_ERRORS lane = 0 → exec (.prbsError lane true n) s = .next (u.raise Ev.PRBS_ERR .lane lane))))

/-- For FRAME_START (frameStart), ARB_TRUNCATE (arbTruncate), FRAME_END (frameEnd), HEAD_HANDOFF (headHandoff), FRAME_TRANSMIT (frameTransmit), TX_COMPLETE (txComplete) and END_STATUS_COMMIT (endStatusCommit). (1) At an UP port that receives no other frame: a MAC control or ebb frame is diverted and takes no FIFO space; another one whose level's limit the FIFO fill has passed is dropped whole, counted for its level, and EVT 3.3 is raised; any other becomes the next packet, of this port. (2) Bytes beyond the FIFO's room truncate an admitted frame: what fits is kept, its packet is marked errored and EVT 3.4 is raised. (3) A frame that ends takes its last bytes and gets its one outcome of Table 3.1; an uncorrectable codeword makes its FCS bad. (4) One clock of the arbiter moves frames already started first and then starts up to two. (5) A taken frame of an UP front port that nothing holds and no cut-through started starts. (6) When its last bit has left, a sent frame is at the ball, is counted and its buffers are released. (7) The end status of a packet in a queue or on its way there is settled. -/
def Obligations.FramesEnterAndLeaveTheMac : Prop :=
  (∀ (port lv : Nat) (head : List Byte) (tag tg : Option SecTag) (sec : SecFound) (s : State), s.rdP Fld.PRT_LINK_STATUS_STATE port = 3 →
    (s.port port).rx = none → tg = (if s.onP Fld.MSC_PORT_CFG_EN port then tag else none) → sec = s.secFind port tg → s.levelFor port head = lv →
    (((tg.isNone && isMacCtl head) || isEbb head) = true → exec (.frameStart port .sfd head tag) s =
      .next (s.setPort port { s.port port with rx := some ⟨.control, 0, head, false, tg, sec, false⟩ })) ∧
    (((tg.isNone && isMacCtl head) || isEbb head) = false → s.levelLimit port lv < fifoFill (s.fifo (port / 24) (port % 24)) →
      ∃ t, t = (s.bump (if lv = 0 then .ARB_DROP_HIGH else if lv = 1 then .ARB_DROP_MID else .ARB_DROP_LOW) port).raiseMs Ev.ARB_DROP .port port ∧
        exec (.frameStart port .sfd head tag) s = .next (t.setPort port { t.port port with rx := some ⟨.lost, lv, head, false, tg, sec, false⟩ })) ∧
    (((tg.isNone && isMacCtl head) || isEbb head) = false → fifoFill (s.fifo (port / 24) (port % 24)) ≤ s.levelLimit port lv →
      ∃ (t : State) (f : RxFrame), exec (.frameStart port .sfd head tag) s = .next t ∧ (t.port port).rx = some f ∧ f.what = .packet s.nextPkt ∧
        f.bytes = head ∧ t.nextPkt = s.nextPkt + 1 ∧ (t.pkt s.nextPkt).port = port)) ∧
  (∀ (port n : Nat) (more take : List Byte) (l : List FifoEnt) (f : RxFrame) (s : State), (s.port port).rx = some f → f.what = .packet n → f.truncated = false →
    l = s.fifo (port / 24) (port % 24) → take = more.take (s.fifoSize port - fifoFill l) → s.fifoSize port - fifoFill l < more.length →
    ∃ t, t = ((((s.appendBytes n take).setFifo (port / 24) (port % 24) (fifoUpd l n (fun e => { e with got := e.got + take.length }))).endPacket n 2).raise
        Ev.ARB_TRUNCATE .port port) ∧
      exec (.arbTruncate port more) s = .next (t.setPort port { t.port port with rx := some { f with bytes := f.bytes ++ more, truncated := true } })) ∧
  (∀ (port : Nat) (f : RxFrame) (rest : List Byte) (fcs icv assy : Bool) (fec : FecCount) (s u : State), u = s.countFec port fec → (u.port port).rx = some f →
    ∃ g, g = (u.setPort port { u.port port with rx := none }).fifoArrive port f rest ∧
      exec (.frameEnd port false rest fcs icv ⟨assy, fec⟩) s = .next (g.1.frameOutcome port g.2 (fcs && fec.uncorrected == 0) icv false)) ∧
  (∀ (pipe : Nat) (s : State), ∃ m : State × Nat,
    m = (Sparse.get s.arbs pipe Arb.init).started.foldl (fun t j => t.1.arbMove pipe j t.2) (s, 64) ∧
    exec (.headHandoff pipe) s = .next ((m.1.arbStart pipe m.2).1.arbStart pipe (m.1.arbStart pipe m.2).2).1) ∧
  (∀ (port : Nat) (f : TxFrame) (s : State), (s.port port).tx = some f → f.len = none → f.cutThrough = false → s.portUp port = true →
    s.bundleOf port = none → s.txWaits port f = false → exec (.frameTransmit port) s = .next (s.startTx port f)) ∧
  (∀ (port l : Nat) (f : TxFrame) (s : State), (s.port port).tx = some f → f.len = some l → f.cutThrough = false →
    f.startAt + bitClocks ((l - f.done + 20) * 8) (s.portUnits port) ≤ s.now →
    ∃ u t, u = s.putWire port f.delim (f.wire.drop f.done) ∧
      t = ((if f.item.isNone then u.bump .EXP_TX port else u).countTx port (u.pkt f.pkt).frame).dropTx port f ∧
      exec (.txComplete port) s = .next ((t.setPort port { t.port port with txEnd := t.now }).announceSwitch port)) ∧
  ∀ (n : Nat) (p : Packet) (s : State), Sparse.find s.pkts n = some p → p.ended.isSome = true → p.copyOf = none → p.status = none →
    p.stage ∈ [PStage.buffered, PStage.cells, PStage.capture, PStage.tm] → exec (.endStatusCommit n) s = .next (s.settleEnd n)

/-- For PAUSE_EXPIRY (pauseExpiry), PFC_EXPIRY (pfcExpiry), PFC_STORM (pfcStorm), PFC_RECOVER_EXPIRY (pfcRecoverExpiry), XOFF (xoff), XON (xon), PAUSE_REFRESH (pauseRefresh) and PAUSE_FRAME_SEND (pauseFrameSend). (1, 2) A hold whose time has passed ends. (3) A class held by PFC for STORM_LIMIT ms counts a storm and raises EVT 4.4; with STORM_ACT = 0 that is all but that the storm is noted; with STORM_ACT = 1 the hold of the priority ends and the port acts on it again after RECOVER ms. (4) After RECOVER the port acts on PFC again. (5) A count of a priority, or of the port (8), at XOFF_MARK × 16 cells sets its XOFF, counts it where the port signals it (the port's under priority 0: the model's choice, log entry 95), and owes a frame with QUANTA; (6) one at XON_MARK × 16 or below clears it and owes a frame with time zero. (7) While XOFF lasts the frame is owed again after REFRESH_PCT % of the last pause time. (8) At a frame boundary of an UP port out of low-power idle what is owed is sent. -/
def Obligations.PauseAndPfcComplete : Prop :=
  (∀ (port t : Nat) (s : State), (s.port port).pauseUntil = some t → t ≤ s.now → exec (.pauseExpiry port) s = .next (s.endPause port)) ∧
  (∀ (port prio t : Nat) (s : State), Sparse.find (s.port port).pfcUntil prio = some t → t ≤ s.now →
    exec (.pfcExpiry port prio) s = .next (s.endPfc port prio)) ∧
  (∀ (port cls j : Nat) (s : State),
    (List.range 8).find? (fun k => s.pfcMaps port k cls && (Sparse.find (s.port port).pfcUntil k).isSome) = some j →
    s.rdP Fld.PRT_PFC_STORM_STORM_LIMIT port ≠ 0 →
    Sparse.get (s.port port).holdFrom j s.now + s.rdP Fld.PRT_PFC_STORM_STORM_LIMIT port * msClk ≤ min s.now (Sparse.get (s.port port).pfcUntil j 0) →
    Sparse.get (s.port port).stormed cls false = false → s.Canon → port < 96 →
    (s.onP Fld.PRT_PFC_STORM_STORM_ACT port = false →
      exec (.pfcStorm port cls) s = .next (((s.bump .PFC_STORMS port).raise Ev.PFC_STORM .port port).setPort port
        { s.port port with stormed := Sparse.insert (s.port port).stormed cls true })) ∧
    (s.onP Fld.PRT_PFC_STORM_STORM_ACT port = true → ∃ t, exec (.pfcStorm port cls) s = .next t ∧
      (t.port port).pfcUntil = Sparse.erase (s.port port).pfcUntil j ∧ t.ctr .PFC_STORMS port = s.ctr .PFC_STORMS port + 1 ∧
      Sparse.find (t.port port).recover j = some (s.now + s.rdP Fld.PRT_PFC_STORM_RECOVER port * msClk))) ∧
  (∀ (port prio t : Nat) (s : State), Sparse.find (s.port port).recover prio = some t → t ≤ s.now →
    exec (.pfcRecoverExpiry port prio) s =
      .next (s.setPort port { s.port port with recover := Sparse.erase (s.port port).recover prio })) ∧
  (∀ (port prio : Nat) (s : State), s.rdP Fld.BPM_PORT_XOFF_XOFF_MARK port ≠ 0 →
    s.rdP Fld.BPM_PORT_XOFF_XOFF_MARK port * 16 ≤ s.xoffCount port prio → s.xoffOn port prio = false →
    ∃ u, u = s.setXoff port prio true ∧ u.xoffOn port prio = true ∧
      exec (.xoff port prio) s = .next ((if (s.rdP Fld.PRT_PAUSE_CFG_MODE port == 1) = (prio == 8) then u.bump .BPM_XOFF_EVENTS (port * 8 + prio % 8) else u).genPause
        port prio (s.rdP Fld.PRT_PAUSE_CFG_QUANTA port))) ∧
  (∀ (port prio : Nat) (s : State), s.xoffOn port prio = true →
    s.xoffCount port prio ≤ s.rdP Fld.BPM_PORT_XOFF_XON_MARK port * 16 →
    exec (.xon port prio) s = .next ((s.setXoff port prio false).genPause port prio 0)) ∧
  (∀ (port prio t q : Nat) (s : State), Sparse.find (s.port port).genSent prio = some (t, q) → s.xoffOn port prio = true →
    t + bitClocks (q * 512 * s.rdP Fld.PRT_PAUSE_CFG_REFRESH_PCT port / 100) (s.portUnits port) ≤ s.now →
    exec (.pauseRefresh port prio) s = .next (s.genPause port prio (s.rdP Fld.PRT_PAUSE_CFG_QUANTA port))) ∧
  ∀ (port : Nat) (s : State), s.portUp port = true → (s.port port).tx = none → (s.port port).lpi = none → (s.port port).wakeUntil ≤ s.now →
    exec (.pauseFrameSend port) s = .next (s.sendGenerated port)

/-- For MKPDU_RECEIVE (mkpduReceive), MKA_HELLO_SEND (mkaHelloSend), MKA_PEER_TIMEOUT (mkaPeerTimeout), TX_SA_SWITCH (txSaSwitch), SA_LINGER_EXPIRY (saLingerExpiry) and SA_STATE_ECC (saStateEcc). (1) A port with MACsec and usable CAKs, within its rate, counts an MKPDU whose ICV is good under none of them in MKPDU_BAD; one of a new sender that passes the checks, distributing no SAK, makes its sender a live peer. (2) When the hello time has come, the next one is due a hello time later and the member number is one up; a port without live peers whose transmitter runs sends its MKPDU of its one association. (3) A peer silent for three hello times is no longer live and its receive SC goes; the last one raises EVT 5.2. (4) Once every live peer has reported receipt, at a frame boundary, the transmit SC takes the new AN from PN 1, and the AN before it lingers. (5) Lingering receive SAs whose time has passed are retired. (6) An uncorrectable error takes a transmit or a receive SA out of use, asks for a new one and raises the event of R136. -/
def Obligations.MacsecKeyAgreementCompletes : Prop :=
  (∀ (port : Nat) (m : Mkpdu) (s t : State), s.onP Fld.MSC_PORT_CFG_EN port = true →
    (s.secy port).pduSec = s.now / sClk → (s.secy port).pdus < 16 → t = s.setSecy port { s.secy port with pdus := (s.secy port).pdus + 1 } →
    (s.caks port ≠ [] → (∀ c ∈ s.caks port, mkpduIcvOk m c.2 = false) → exec (.mkpduReceive port m) s = .next (t.bump .MKPDU_BAD port)) ∧
    (∀ e, s.caks port = [e] → mkpduIcvOk m e.2 = true → m.paramsOk = true → m.len ≤ 1500 → m.dist = none →
      (∀ p ∈ (s.secy port).peers, p.sci ≠ m.sci) → (s.secy port).live.length < 8 →
      exec (.mkpduReceive port m) s = .next (t.takePeer port e.1 m false true) ∧
      ∃ p ∈ ((t.takePeer port e.1 m false true).secy port).peers, p.sci = m.sci ∧ p.live = true ∧ p.lastAt = s.now)) ∧
  (∀ (port : Nat) (s : State), s.onP Fld.MSC_PORT_CFG_EN port = true → (s.secy port).helloAt ≤ s.now → s.caks port ≠ [] →
    ∃ t, exec (.mkaHelloSend port) s = .next t ∧ (t.secy port).helloAt = s.now + s.mkaHello port ∧ (t.secy port).member = (s.secy port).member + 1) ∧
  (∀ (port : Nat) (e : Nat × CakSlot) (s t : State), s.onP Fld.MSC_PORT_CFG_EN port = true → (s.secy port).helloAt ≤ s.now → s.caks port = [e] →
    (s.secy port).live = [] → s.portUp port = true → s.txDriven port = true →
    t = s.setSecy port { s.secy port with helloAt := s.now + s.mkaHello port, member := (s.secy port).member + 1 } →
    exec (.mkaHelloSend port) s = .next (t.emit (.mkpdu port (t.ownMkpdu port e.1 e.2)))) ∧
  (∀ (port : Nat) (p : MkaPeer) (s : State), (s.secy port).peers = [p] → p.live = true → p.lastAt + 3 * s.mkaHello port ≤ s.now →
    exec (.mkaPeerTimeout port p.sci) s = .next (((s.setSecy port { s.secy port with peers := [{ p with live := false }], rx := (s.secy port).rx.filter (fun c => c.sci != p.sci) }).showMka port).raise Ev.MKA_PEER_LOST .port port)) ∧
  (∀ (port a : Nat) (s : State), s.Canon → port < 96 → a < 4 → (s.secy port).pending = some a → (s.secy port).live ≠ [] → (∀ p ∈ (s.secy port).live, p.reported = some a) →
    (∀ f, (s.port port).tx = some f → f.begun = false) →
    ∃ t, exec (.txSaSwitch port) s = .next t ∧ (t.secy port).txSas = [(a, 1)] ∧ (t.secy port).pending = none ∧
      t.rdP Fld.MSC_SA_STATUS_TX_AN port = a ∧ t.rdP Fld.MSC_SA_STATUS_CP_OPERATIONAL port = 1 ∧
      (s.rdP Fld.MSC_SA_STATUS_TX_AN port ≠ a →
        (s.rdP Fld.MSC_SA_STATUS_TX_AN port, s.now + s.rdP Fld.MSC_MKA_CFG_LINGER port * sClk) ∈ (t.secy port).linger)) ∧
  (∀ (port : Nat) (gone : List Nat) (s : State), gone = ((s.secy port).linger.filter (fun e => decide (e.2 ≤ s.now))).map Prod.fst → gone ≠ [] →
    exec (.saLingerExpiry port) s = .next (s.setSecy port { s.secy port with linger := (s.secy port).linger.filter (fun e => decide (s.now < e.2)), rx := (s.secy port).rx.map (fun c => { c with sas := c.sas.keep (fun a => !gone.contains a) }) })) ∧
  ∀ (port sc an : Nat) (s : State),
    ((Sparse.find (s.secy port).txSas an).isSome = true → exec (.saStateEcc port true sc an) s =
      .next (((s.setSecy port { s.secy port with txSas := Sparse.erase (s.secy port).txSas an, rekeyDue := true }).showTxSa port).raise Ev.MSC_SA_ECC .port port)) ∧
    ((s.secy port).rx.any (fun c => c.idx == sc && (Sparse.find c.sas an).isSome) = true → exec (.saStateEcc port false sc an) s =
      .next (((s.setSecy port { s.secy port with rekeyDue := true, rx := (s.secy port).rx.map (fun c => if c.idx = sc then { c with sas := Sparse.erase c.sas an } else c) }).showTxSa port).raise Ev.MSC_SA_ECC .port port))

/-- For PARSE_COMPLETE (parseComplete), LOOKUP_MERGE (lookupMerge), PRS_PARITY_CHECK (prsParityCheck), RBK_SCRUB (rbkScrub) and RBK_PARITY_CHECK (rbkParityCheck). (1) The oldest packet of its port and pass at the parser, whose first 256 bytes are in or which has ended (and is no errored short packet of a first pass), takes the parse result of its window, with the checksum results that are final by then, goes to the rule stage or the express path, and is counted; then its default action acts: FORWARD it goes on, DROP it is discarded and counted in PRS_ACT_DROP, to host or copy to host it is counted and goes there. (2) The oldest packet at the rule stage: an EAPOL frame of the uncontrolled port goes to keeper port 101; a second pass whose epoch is gone is discarded as a straggler; with the exact-match and route stages off and no PTP trap, a rule fault drops it, the verdict DROP discards it and counts RBK_DROP, REDIRECT sends it on to the flow stage with the front port of DEST, and NONE without a destination discards it and counts EXM_NO_DEST. (3) A parser register that fails parity acts at its reset value and EVT 6.3 is raised. (4) A scrub read that its tide admits counts corrected errors of the rule rows, and an uncorrectable one marks its row faulty and raises EVT 7.0. (5) A damaged per-slot register is noted and raises EVT 7.2. -/
def Obligations.ParserAndLookupsComplete : Prop :=
  (∀ (n : Nat) (p q x w : Packet) (short final : Bool) (r : BitVec 256) (c : Nat × Nat) (t s : State), s.pkt n = p → (Sparse.find s.pkts n).isSome = true →
    p.stage = .parsing → s.behind n = false → (256 ≤ p.frame.length ∨ p.ended.isSome = true) →
    short = (p.ended.isSome && decide (p.frame.length + 4 ≤ 256)) → (short = false ∨ p.pass ≠ 0 ∨ p.ended ≠ some true) →
    q = { p with orig := p.frame } → r = parseWindow p.pcfg q.window (if short then some (p.frame.length + 4) else none) p.port p.pass →
    x = { q with parse := r, express := ParseRes.EXPRESS.on r, stage := if ParseRes.EXPRESS.on r then .express else .parsed, csum := if ParseRes.EXPRESS.on r then none else p.csum } →
    c = s.csumsOf x → final = (short || (p.pass == 1 && p.ended.isSome)) →
    w = { x with parse := withCsums r (if final || c.1 == 0 then c.1 else 3) (if final || c.2 == 0 then c.2 else 3) } → t = (s.setPkt n w).countParse w →
    (w.defaultAct = 0 → exec (.parseComplete n) s = .next t) ∧
    (w.defaultAct = 1 → exec (.parseComplete n) s = .next ((t.discard n).bump .PRS_ACT_DROP p.port)) ∧
    (w.defaultAct = 2 → exec (.parseComplete n) s =
      .next ((t.bump .PRS_ACT_HOST p.port).toHost n (if prMalformed r then 2 else 1) 0 .PRS_HOST_UNAVAIL)) ∧
    (w.defaultAct = 3 → exec (.parseComplete n) s =
      .next ((t.bump .PRS_ACT_COPY p.port).copyToHost n (if prMalformed r then 2 else 1) 0 .PRS_HOST_UNAVAIL))) ∧
  (∀ (n : Nat) (p : Packet) (r : RuleEnd) (u v w : State) (s : State), s.pkt n = p → (Sparse.find s.pkts n).isSome = true → p.stage = .parsed →
    s.behind n = false → u = (s.ruleStage n).1 → r = (s.ruleStage n).2 → v = (u.lookupDone n).attach n r .none 0 →
    w = (v.setPkt n { v.pkt n with dest := .none }).mirrorCopy n 0 p.parse 0 →
    (p.uncontrolled = true → exec (.lookupMerge n) s = .next (s.atPolicer n { p with dest := .port 101 })) ∧
    (p.uncontrolled = false → r.straggler = true → exec (.lookupMerge n) s = .next ((u.discard n).bump .RBK_EPOCH_STRAGGLERS p.pipe)) ∧
    (p.uncontrolled = false → r.straggler = false → u.on Fld.EXM_CTRL_EN p.pipe = false → u.on Fld.LPM_CTRL_EN p.pipe = false → s.trapOf p = .no →
      (r.fault = true → exec (.lookupMerge n) s = .next ((v.discard n).bump .RBK_FAULT_DROP p.pipe)) ∧
      (r.fault = false → ActWord.VERDICT.get r.act = 2 → exec (.lookupMerge n) s = .next ((w.discard n).bump .RBK_DROP (w.pkt n).port)) ∧
      (r.fault = false → ActWord.VERDICT.get r.act = 0 → exec (.lookupMerge n) s = .next ((w.discard n).bump .EXM_NO_DEST (w.pkt n).port)) ∧
      (r.fault = false → ActWord.VERDICT.get r.act = 5 → exec (.lookupMerge n) s =
        .next (w.setPkt n { w.pkt n with dest := .port (ActWord.DEST.get r.act), tag := 0, stage := .flow })))) ∧
  (∀ (pipe a : Nat) (x : RegItem) (s : State), regAt a = some x → x.reg.blk = 15 → x.inst = pipe →
    exec (.prsParityCheck pipe (some a)) s = .next ((s.damage a).raise Ev.PRS_CFG_PARITY .pipeline pipe a)) ∧
  (∀ (pipe k r : Nat) (u s : State), s.charge (pipe + 1) actScrub 1 rowScrubTag = (u, true) →
    exec (.rbkScrub pipe (k + 1) none) s = .next ((u.readRows pipe (2 ^ 32 - 1)).bump .RBK_ECC_CORRECTED pipe (k + 1)) ∧
    ∃ z : State, z = u.readRows pipe (2 ^ 32 - 1) ∧ exec (.rbkScrub pipe 0 (some r)) s =
      .next ((z.setRbk pipe { z.rbk pipe with faulty := Sparse.insert (z.rbk pipe).faulty r true }).raise Ev.RBK_ENTRY_ECC .pipeline pipe r)) ∧
  ∀ (pipe slot a : Nat) (s : State), perSlotAddr pipe a = true →
    exec (.rbkParityCheck pipe slot (some a)) s = .next ((s.setRbk pipe { s.rbk pipe with badCfg := Sparse.insert (s.rbk pipe).badCfg (a + slot * 0x100000000) true }).raise Ev.RBK_CFG_PARITY .pipeline pipe a)

/-- For PRS_DISABLE (prsDisable), RBK_DISABLE (rbkDisable), EXM_DISABLE (exmDisable), LPM_DISABLE (lpmDisable), LRN_DISABLE (lrnDisable), FLW_DISABLE (flwDisable), UPS_DISABLE (upsDisable), EDT_DISABLE (edtDisable), STAGE_QUIET (stageQuiet) and DRAIN_LIMIT_EXPIRY (drainLimitExpiry). A write that passes the checks and clears EN of a block that was on stores its word and starts the drain limit: 1 µs for (1) the parser, (2) the rule stage, (3) the editor, (4) the exact-match stage and (5) the route stage, both of which are then held as having been on, and 100 µs for (6) the flow stage, (7) the session stage and (8) learning, whose sweep and walk settings the write leaves. For the rule, table, flow, session and editing stages the checks include that the parser is off. (9) A draining block that holds no work reports QUIET. (10) At its drain limit a block (but the keepers') reports QUIET; work that it still holds is discarded and its event of Table 25.7 is raised. -/
def Obligations.PipelineBlocksDrainWhenDisabled : Prop :=
  (∀ (who : Agent) (pipe : Nat) (v : Word) (s : State), s.on Fld.PRS_CTRL_EN pipe = true → Fld.PRS_CTRL_EN.onIn v = false →
    s.verdict who Reg.PRS_CTRL pipe 0 0 v false = .accepted → exec (.prsDisable who pipe v) s =
      .next ((s.wrReg Reg.PRS_CTRL pipe 0 0 (Reg.PRS_CTRL.stored (s.rdReg Reg.PRS_CTRL pipe 0 0) v)
       ).startDrain 15 pipe usClk)) ∧
  (∀ (who : Agent) (pipe : Nat) (v : Word) (s : State), s.on Fld.RBK_CTRL_EN pipe = true → Fld.RBK_CTRL_EN.onIn v = false →
    s.verdict who Reg.RBK_CTRL pipe 0 0 v (s.on Fld.PRS_CTRL_EN pipe) = .accepted → exec (.rbkDisable who pipe v) s =
      .next ((s.wrReg Reg.RBK_CTRL pipe 0 0 (Reg.RBK_CTRL.stored (s.rdReg Reg.RBK_CTRL pipe 0 0) v)
       ).startDrain 16 pipe usClk)) ∧
  (∀ (who : Agent) (pipe : Nat) (v : Word) (s : State), s.on Fld.EDT_CTRL_EN pipe = true → Fld.EDT_CTRL_EN.onIn v = false →
    s.verdict who Reg.EDT_CTRL pipe 0 0 v (s.on Fld.PRS_CTRL_EN pipe) = .accepted → exec (.edtDisable who pipe v) s =
      .next ((s.wrReg Reg.EDT_CTRL pipe 0 0 (Reg.EDT_CTRL.stored (s.rdReg Reg.EDT_CTRL pipe 0 0) v)
       ).startDrain 22 pipe usClk)) ∧
  (∀ (who : Agent) (pipe : Nat) (v : Word) (t s : State), s.Canon → pipe < 4 → s.on Fld.EXM_CTRL_EN pipe = true → Fld.EXM_CTRL_EN.onIn v = false →
    s.verdict who Reg.EXM_CTRL pipe 0 0 v (s.on Fld.PRS_CTRL_EN pipe) = .accepted →
    t = (s.wrReg Reg.EXM_CTRL pipe 0 0 (Reg.EXM_CTRL.stored (s.rdReg Reg.EXM_CTRL pipe 0 0) v)
       ).startDrain 17 pipe usClk →
    exec (.exmDisable who pipe v) s = .next (t.setExm pipe { t.exm pipe with exmHeld := true })) ∧
  (∀ (who : Agent) (pipe : Nat) (v : Word) (t s : State), s.Canon → pipe < 4 → s.on Fld.LPM_CTRL_EN pipe = true → Fld.LPM_CTRL_EN.onIn v = false →
    s.verdict who Reg.LPM_CTRL pipe 0 0 v (s.on Fld.PRS_CTRL_EN pipe) = .accepted →
    t = (s.wrReg Reg.LPM_CTRL pipe 0 0 (Reg.LPM_CTRL.stored (s.rdReg Reg.LPM_CTRL pipe 0 0) v)
       ).startDrain 18 pipe usClk →
    exec (.lpmDisable who pipe v) s = .next (t.setExm pipe { t.exm pipe with lpmHeld := true })) ∧
  (∀ (who : Agent) (pipe : Nat) (v : Word) (s : State), s.on Fld.FLW_CTRL_EN pipe = true → Fld.FLW_CTRL_EN.onIn v = false →
    s.verdict who Reg.FLW_CTRL pipe 0 0 v (s.on Fld.PRS_CTRL_EN pipe) = .accepted → exec (.flwDisable who pipe v) s =
      .next ((s.wrReg Reg.FLW_CTRL pipe 0 0 (Reg.FLW_CTRL.stored (s.rdReg Reg.FLW_CTRL pipe 0 0) v)
       ).startDrain 20 pipe (100 * usClk))) ∧
  (∀ (who : Agent) (pipe : Nat) (v : Word) (s : State), s.on Fld.UPS_CTRL_EN pipe = true → Fld.UPS_CTRL_EN.onIn v = false →
    s.verdict who Reg.UPS_CTRL pipe 0 0 v (s.on Fld.PRS_CTRL_EN pipe) = .accepted → exec (.upsDisable who pipe v) s =
      .next ((s.wrReg Reg.UPS_CTRL pipe 0 0 (Reg.UPS_CTRL.stored (s.rdReg Reg.UPS_CTRL pipe 0 0) v)
       ).startDrain 21 pipe (100 * usClk))) ∧
  (∀ (who : Agent) (pipe : Nat) (v : Word) (t s : State), s.Canon → pipe < 4 → s.on Fld.LRN_CTRL_EN pipe = true → Fld.LRN_CTRL_EN.onIn v = false →
    Fld.LRN_CTRL_SWEEP_EN.of v = s.rd Fld.LRN_CTRL_SWEEP_EN pipe → Fld.LRN_CTRL_WALK_EN.of v = s.rd Fld.LRN_CTRL_WALK_EN pipe →
    s.verdict who Reg.LRN_CTRL pipe 0 0 v false = .accepted →
    t = (s.wrReg Reg.LRN_CTRL pipe 0 0 (Reg.LRN_CTRL.stored (s.rdReg Reg.LRN_CTRL pipe 0 0) v)
       ).startDrain 19 pipe (100 * usClk) →
    exec (.lrnDisable who pipe v) s = .next (t.setLrn pipe (t.lrn pipe))) ∧
  (∀ (blk inst : Nat) (f : Fld) (s : State), s.draining blk inst = true → s.busyBlock blk inst = false → quietFld blk = some f →
    exec (.stageQuiet blk inst) s = .next ((s.stopDrain blk inst).wr f 1 inst)) ∧
  (∀ (blk inst : Nat) (f : Fld) (s : State), s.drainOver blk inst = true → blk ≠ 29 → s.busyBlock blk inst = false → quietFld blk = some f →
    exec (.drainLimitExpiry blk inst) s = .next ((s.stopDrain blk inst).wr f 1 inst)) ∧
  ∀ (blk inst : Nat) (e : Source) (s : State), s.drainOver blk inst = true → blk ≠ 29 → s.busyBlock blk inst = true → drainEvent blk = some e →
    exec (.drainLimitExpiry blk inst) s = .next (((s.discardRest blk inst).reportQuiet blk inst).raise e .pipeline inst)

/-- For BEGIN (beginSet), BEGIN_COPY_DONE (beginCopyDone), RULE_WRITE (ruleWrite), RULE_DELETE (ruleDelete), COMMIT (commit), EPOCH_FLIP (epochFlip), SLOT_DRAINED (slotDrained), EPOCH_DRAIN_LIMIT (epochDrainLimit) and BUILDING_SLOT_CLEARED (buildingSlotCleared); tag names a running mailbox command of the pipeline. (1) BEGIN with the other slot FREE waits and starts its copy, with it not FREE and no drain limit past it waits; with a slot BUILDING it is BUSY. (2) When the copy is done the other slot holds the CURRENT slot's members and registers, is BUILDING, and BEGIN answers OK. (3) RULE_WRITE outside R166, R174 or the rows is BAD_RULE; to a row with a member bit it is EXISTS; to a free row it writes, once its tides admit it, the rule's rows in the banks of its group with the member bit of the open slot, and its action word, and answers OK. (4) RULE_DELETE clears the member bit, or is NOT_FOUND. (5) COMMIT asks for the flip. (6) The flip, 10 µs after the last, makes BUILDING CURRENT with the next epoch number, and CURRENT DRAINING, or FREE with nothing in flight in it; COMMIT answers OK and a BEGIN that is open COMPLETED. (7) A DRAINING slot with nothing in flight becomes FREE. (8) At the drain limit a slot for which a BEGIN waits is retired by force. (9) An aborted build's slot is cleared and FREE. -/
def Obligations.RuleSetsSwapByEpoch : Prop :=
  (∀ (tag pipe : Nat) (s : State), s.mbxRunsAt tag opBegin pipe = true → (s.rbk pipe).beginTag = none → (s.rbk pipe).loading = false →
    (s.building pipe = none → s.slotState pipe (1 - s.curSlot pipe) = 0 → exec (.beginSet tag pipe) s =
      .next (((s.setRbk pipe { s.rbk pipe with beginTag := some tag }).wr Fld.RBK_EPOCH_STATUS_BEGIN_WAITING 1 pipe).startCopy pipe)) ∧
    (s.building pipe = none → s.slotState pipe (1 - s.curSlot pipe) ≠ 0 → s.drainLimitPast pipe = false → exec (.beginSet tag pipe) s =
      .next ((s.setRbk pipe { s.rbk pipe with beginTag := some tag }).wr Fld.RBK_EPOCH_STATUS_BEGIN_WAITING 1 pipe)) ∧
    ((s.building pipe).isSome = true → exec (.beginSet tag pipe) s = .next (s.reply tag .busy 0 0 0 true))) ∧
  (∀ (pipe tag t cur : Nat) (s : State), (s.rbk pipe).beginTag = some tag → (s.rbk pipe).copyUntil = some t → t ≤ s.now → s.curSlot pipe = cur →
    exec (.beginCopyDone pipe) s = .next ((((((s.setRbk pipe { s.rbk pipe with copyUntil := none }).mapMembers pipe (1 - cur)
      (fun r => rowMember r cur)).copySlotRegs pipe cur (1 - cur)).setSlotState pipe (1 - cur) 1).wr Fld.RBK_EPOCH_STATUS_BEGIN_WAITING 0 pipe).reply
      tag .ok 0 0 0 false)) ∧
  (∀ (tag pipe bank row slot b size : Nat) (value care low : BitVec 640) (act : BitVec 64) (rows : List Nat) (u s : State), s.mbxRunsAt tag opRuleWrite pipe = true →
    s.openSlot pipe = some slot → size = groupSize (s.bankWidth pipe bank) → b = s.groupBank pipe bank → low = BitVec.ofNat 640 (2 ^ (160 * size) - 1) →
    rows = (List.range size).map (fun i => (b + i) * 2048 + row) →
    (2048 ≤ row ∨ actionOk act = false ∨ ruleBitsOk (value &&& low) (care &&& low) = false →
      exec (.ruleWrite tag pipe bank row value care act) s = .next (s.reply tag .badRule 0 0 0 true)) ∧
    (row < 2048 → actionOk act = true → ruleBitsOk (value &&& low) (care &&& low) = true →
      ((rowMember (Sparse.get (s.rbk pipe).rows (b * 2048 + row) 0) 0 = true ∨ rowMember (Sparse.get (s.rbk pipe).rows (b * 2048 + row) 0) 1 = true) →
        exec (.ruleWrite tag pipe bank row value care act) s = .next (s.reply tag .exists_ 0 0 0 true)) ∧
      (rowMember (Sparse.get (s.rbk pipe).rows (b * 2048 + row) 0) 0 = false → rowMember (Sparse.get (s.rbk pipe).rows (b * 2048 + row) 0) 1 = false →
        s.chargeWrite tag (.ruleWrite tag pipe bank row value care act) pipe actHost (size + 1) ((shAct, b * 2048 + row) :: rows.map (fun r => (shRow, r))) = (u, true) →
        ∃ t : State, exec (.ruleWrite tag pipe bank row value care act) s = .next (t.reply tag .ok 0 0 0 true) ∧
          (t.rbk pipe).rows = ruleRows (u.rbk pipe).rows size b row slot value care ∧ (t.rbk pipe).acts = Sparse.put (u.rbk pipe).acts (b * 2048 + row) act 0))) ∧
  (∀ (tag pipe bank row slot idx : Nat) (old : BitVec 322) (u s : State), s.mbxRunsAt tag opRuleDelete pipe = true → s.openSlot pipe = some slot → row < 2048 →
    idx = s.groupBank pipe bank * 2048 + row → old = Sparse.get (s.rbk pipe).rows idx 0 →
    (rowMember old slot = false → exec (.ruleDelete tag pipe bank row) s = .next (s.reply tag .notFound 0 0 0 true)) ∧
    (rowMember old slot = true → s.chargeWrite tag (.ruleDelete tag pipe bank row) pipe actHost 1 [(shRow, idx)] = (u, true) →
      ∃ t : State, exec (.ruleDelete tag pipe bank row) s = .next (t.reply tag .ok 0 0 0 true) ∧
        (t.rbk pipe).rows = Sparse.put (u.rbk pipe).rows idx (setMember old slot false) 0)) ∧
  (∀ (tag pipe b : Nat) (s : State), s.mbxRunsAt tag opCommit pipe = true → (s.rbk pipe).commitTag = none → (s.rbk pipe).loading = false →
    (s.openSlot pipe = some b → exec (.commit tag pipe) s = .next (s.setRbk pipe { s.rbk pipe with commitTag := some tag })) ∧
    (s.openSlot pipe = none → exec (.commit tag pipe) s = .next (s.reply tag .busy 0 0 0 true))) ∧
  (∀ (pipe ct b old : Nat) (s u w : State), (s.rbk pipe).commitTag = some ct → (s.rbk pipe).loading = false →
    (∀ t, (s.rbk pipe).flipAt = some t → t + 10 * usClk ≤ s.now) → s.openSlot pipe = some b → s.curSlot pipe = old →
    u = ((((((s.setRbk pipe { s.rbk pipe with flipAt := some s.now, drainFrom := some s.now, commitTag := none, beginTag := none }).setSlotState
      pipe b 2).setSlotState pipe old 3).setEpoch pipe b (if s.epoch pipe old = 65535 then 1 else s.epoch pipe old + 1)).wr
      Fld.RBK_EPOCH_STATUS_CUR_SLOT b pipe).setInFlight pipe b 0).bump .RBK_SWAPS pipe →
    w = (if u.inFlight pipe old = 0 then u.freeSlot pipe old else u).reply ct .ok 0 0 0 true →
    ((s.rbk pipe).beginTag = none → exec (.epochFlip pipe) s = .next w) ∧
    ∀ bt, (s.rbk pipe).beginTag = some bt → exec (.epochFlip pipe) s = .next (w.reply bt .completed (w.doneOf bt) 0 0 true)) ∧
  (∀ (pipe : Nat) (s : State), s.slotState pipe (1 - s.curSlot pipe) = 3 → s.inFlight pipe (1 - s.curSlot pipe) = 0 → s.beginWaits pipe = false →
    exec (.slotDrained pipe) s = .next (s.freeSlot pipe (1 - s.curSlot pipe))) ∧
  (∀ (pipe : Nat) (s : State), s.slotState pipe (1 - s.curSlot pipe) = 3 → s.inFlight pipe (1 - s.curSlot pipe) ≠ 0 → s.drainLimitPast pipe = true →
    s.beginWaits pipe = true → exec (.epochDrainLimit pipe) s = .next ((s.retire pipe (1 - s.curSlot pipe)).startCopy pipe)) ∧
  ∀ (pipe t b : Nat) (s : State), (s.rbk pipe).clearUntil = some t → t ≤ s.now → s.building pipe = some b →
    exec (.buildingSlotCleared pipe) s = .next ((((s.setRbk pipe { s.rbk pipe with clearUntil := none, beginTag := none }).mapMembers pipe b
      (fun _ => false)).clearSlotRegs pipe b).setSlotState pipe b 0)

/-- For EM_INSERT (emInsert), EM_DELETE (emDelete), EM_MODIFY (emModify), EM_HIT_READ (emHitRead), ROUTE_ADD (routeAdd), ROUTE_DELETE (routeDelete), ROUTE_MODIFY (routeModify), TABLE_SCRUB (tableScrub) and EXM_PARITY_CHECK (exmParityCheck). A running change goes through its pipelines in order; here it stands at pipeline p, its operands good, with no earlier change of the stage and no faulty place in its way, and the tides admit it. (1) Bad operands before any write are BAD_KEY. An insert R207 refuses is answered so with p and undone in the earlier pipelines; one it accepts writes the entry where R207 puts it; the last write answers OK. (2, 3) A delete removes, and a modify rewrites, the entry that holds the key; where there is none, NOT_FOUND. (4) A hit read answers the OR of the hit bits of the places of the key and clears them. (5) A route add is DUPLICATE of a route that is there, FULL with EVT 9.1 beyond 524,288 units of p; else the route is in p. (6) A route delete or modify of a missing route is NOT_FOUND; else it is gone, or has its new word. (7) A scrub read counts its findings and marks an uncorrectable one by its kind. (8) A damaged register acts at its reset value and raises its event. -/
def Obligations.TablesTakeChanges : Prop :=
  (∀ (tag pipe c key cls meta_ p : Nat) (static : Bool) (word : BitVec 32) (rest : List Nat) (h : Change) (e : BitVec 512) (s : State),
    (s.mbxRuns tag opEmInsert = true → s.changeOf tag (.emInsert tag pipe c key static cls word meta_) (s.emPipes pipe c) = some h → h.undo = [] →
      (s.emKeyOk pipe c key && s.resultOk word) = false → exec (.emInsert tag pipe c key static cls word meta_) s = .next (s.reply tag .badKey 0 0 0 true)) ∧
    (s.AtPipe tag opEmInsert (.emInsert tag pipe c key static cls word meta_) (s.emPipes pipe c) (s.emKeyOk pipe c key && s.resultOk word) h p rest →
      e = emMake (s.sectWide p c) static false c cls key word meta_ → s.emHeld p = false → s.emBlocked p e = false →
      ((s.emInsert p e).2 = .duplicate →
        exec (.emInsert tag pipe c key static cls word meta_) s = .next ((s.emInsert p e).1.refusedAt tag actLearn h p .duplicate)) ∧
      ((s.emInsert p e).2 = .full →
        exec (.emInsert tag pipe c key static cls word meta_) s = .next ((s.emInsert p e).1.refusedAt tag actLearn h p .full)) ∧
      (∀ (m n : Nat) (u : State) (d : BitVec 512), (s.emInsert p e).2 = .ok m →
        s.admitAt tag h p actLearn (4 + 2 * m) (s.emBlocks p c (s.emPlan p e).places) = (u, true) →
        d = emMake (u.sectWide p c) static false c cls key word meta_ → (u.emInsert p d).2 = .ok n →
        exec (.emInsert tag pipe c key static cls word meta_) s =
          .next (((u.emInsert p d).1.lrnReport p c ((u.emInsert p d).1.entryNote p d) 0).wroteAt tag h p rest none)))) ∧
  (∀ (tag pipe c key p : Nat) (rest : List Nat) (h : Change) (s : State),
    s.AtPipe tag opEmDelete (.emDelete tag pipe c key) (s.emPipes pipe c) (s.emKeyOk pipe c key) h p rest → s.emHeld p = false →
    (s.emHeldAt p c key = none → s.emFaulty p c key = false →
      exec (.emDelete tag pipe c key) s = .next (s.refusedAt tag actLearn h p .notFound)) ∧
    (∀ (k j : Nat) (u : State), s.emHeldAt p c key = some k → s.emBlocked p ((s.exm p).at k) = false →
      s.admitAt tag h p actLearn 4 (s.emBlocks p c [k]) = (u, true) → u.emHeldAt p c key = some j →
      exec (.emDelete tag pipe c key) s =
        .next (((u.emRemove p j).lrnReport p c (u.entryNote p ((u.exm p).at j)) 3).wroteAt tag h p rest (some ((u.exm p).at j))))) ∧
  (∀ (tag pipe c key cls meta_ p : Nat) (static : Bool) (word : BitVec 32) (rest : List Nat) (h : Change) (s : State),
    s.AtPipe tag opEmModify (.emModify tag pipe c key static cls word meta_) (s.emPipes pipe c) (s.emKeyOk pipe c key && s.resultOk word) h p rest →
    s.emHeld p = false →
    (s.emHeldAt p c key = none → s.emFaulty p c key = false →
      exec (.emModify tag pipe c key static cls word meta_) s = .next (s.refusedAt tag actLearn h p .notFound)) ∧
    (∀ (k j : Nat) (u : State), s.emHeldAt p c key = some k → s.emBlocked p ((s.exm p).at k) = false →
      s.admitAt tag h p actLearn 4 (s.emBlocks p c [k]) = (u, true) → u.emHeldAt p c key = some j →
      exec (.emModify tag pipe c key static cls word meta_) s =
        .next ((u.emRewrite p j static cls word meta_).wroteAt tag h p rest (some ((u.exm p).at j))))) ∧
  (∀ (tag pipe c key : Nat) (u s : State), s.mbxRuns tag opEmHitRead = true → s.emKeyOk pipe c key = true →
    s.chargeAll ((s.emPipes pipe c).map (fun p => (p + 1, actHost, 1))) tag = (u, true) →
    (u.emPlaces pipe c key = [] → exec (.emHitRead tag pipe c key) s = .next (u.reply tag .notFound 0 0 0 true)) ∧
    (∀ p k, u.emPlaces pipe c key = [(p, k)] →
      exec (.emHitRead tag pipe c key) s = .next ((u.setExm p { u.exm p with hits := Sparse.erase (u.exm p).hits k }).reply tag .ok 0 0
        (Sparse.get (u.exm p).hits k false).toNat true)) ∧
    (u.emPlaces pipe c key ≠ [] → ∃ t : State, exec (.emHitRead tag pipe c key) s =
      .next (t.reply tag .ok 0 0 ((u.emPlaces pipe c key).any (fun e => Sparse.get (u.exm e.1).hits e.2 false)).toNat true))) ∧
  (∀ (tag vrf len a key p : Nat) (v6 : Bool) (word : BitVec 32) (rest : List Nat) (h : Change) (s : State), key = routeKey vrf v6 len a →
    s.AtPipe tag opRouteAdd (.routeAdd tag vrf v6 len a word) allPipes (prefixOk v6 len a && s.resultOk word) h p rest → s.routeWaits p key = false →
    ((Sparse.find (s.exm p).routes key).isSome = true → exec (.routeAdd tag vrf v6 len a word) s = .next (s.refusedAt tag actHost h p .duplicate)) ∧
    (Sparse.find (s.exm p).routes key = none →
      (524288 < s.rd Fld.LPM_STATUS_UNITS_USED p + routeUnits v6 →
        exec (.routeAdd tag vrf v6 len a word) s = .next ((s.raise Ev.LPM_FULL .pipeline p).refusedAt tag actHost h p .full)) ∧
      (s.rd Fld.LPM_STATUS_UNITS_USED p + routeUnits v6 ≤ 524288 → ∀ u : State, s.admitAt tag h p actHost 1 [(shRoute, vrf)] = (u, true) →
        Sparse.find (u.exm p).routes key = none → u.rd Fld.LPM_STATUS_UNITS_USED p + routeUnits v6 ≤ 524288 →
        exec (.routeAdd tag vrf v6 len a word) s = .next ((u.putRoute p key (some word)).wroteAt tag h p rest none)))) ∧
  (∀ (tag vrf len a key p : Nat) (v6 : Bool) (word : BitVec 32) (rest : List Nat) (h : Change) (s : State), key = routeKey vrf v6 len a →
    s.routeWaits p key = false →
    (s.AtPipe tag opRouteDelete (.routeDelete tag vrf v6 len a) allPipes (prefixOk v6 len a) h p rest →
      (Sparse.find (s.exm p).routes key = none → exec (.routeDelete tag vrf v6 len a) s = .next (s.refusedAt tag actHost h p .notFound)) ∧
      (∀ (w : BitVec 32) (u : State), (Sparse.find (s.exm p).routes key).isSome = true → s.admitAt tag h p actHost 1 [(shRoute, vrf)] = (u, true) →
        Sparse.find (u.exm p).routes key = some w →
        exec (.routeDelete tag vrf v6 len a) s = .next ((u.putRoute p key none).wroteAt tag h p rest (some (w.setWidth 512))))) ∧
    (s.AtPipe tag opRouteModify (.routeModify tag vrf v6 len a word) allPipes (prefixOk v6 len a && s.resultOk word) h p rest →
      (Sparse.find (s.exm p).routes key = none → exec (.routeModify tag vrf v6 len a word) s = .next (s.refusedAt tag actHost h p .notFound)) ∧
      (∀ (w : BitVec 32) (u : State), (Sparse.find (s.exm p).routes key).isSome = true → s.admitAt tag h p actHost 1 [(shRoute, vrf)] = (u, true) →
        Sparse.find (u.exm p).routes key = some w →
        exec (.routeModify tag vrf v6 len a word) s = .next ((u.putRoute p key (some word)).wroteAt tag h p rest (some (w.setWidth 512)))))) ∧
  (∀ (pipe n m k : Nat) (u s : State), s.scrubRead pipe = (u, true) →
    exec (.tableScrub pipe (n + 1) 0 0 none) s = .next (u.bump .EXM_ECC_CORRECTED pipe (n + 1)) ∧
    exec (.tableScrub pipe 0 (m + 1) 0 none) s = .next (u.bump .LPM_ECC_CORRECTED pipe (m + 1)) ∧
    exec (.tableScrub pipe 0 0 0 (some k)) s = .next (u.emBad pipe k) ∧ exec (.tableScrub pipe 0 0 1 (some k)) s = .next (u.emBad pipe k) ∧
    exec (.tableScrub pipe 0 0 2 (some k)) s =
      .next ((u.setExm pipe { u.exm pipe with faultyRoutes := Sparse.insert (u.exm pipe).faultyRoutes k true }).raise Ev.LPM_ECC .pipeline pipe) ∧
    (∀ x, x < 4 → exec (.tableScrub pipe 0 0 (x + 4) (some k)) s = .next ((u.setExm pipe
      { u.exm pipe with faultyRes := Sparse.insert (u.exm pipe).faultyRes (x * 65536 + k) true }).raise Ev.EDT_TABLE_ECC .pipeline pipe k)) ∧
    exec (.tableScrub pipe 0 0 8 (some k)) s =
      .next ((u.setExm pipe { u.exm pipe with faultyExp := Sparse.insert (u.exm pipe).faultyExp k true }).raise Ev.GTE_TABLE_ECC .pipeline pipe k) ∧
    exec (.tableScrub pipe 0 0 9 (some k)) s =
      .next ((u.setGateFault (24 * pipe + k / 256 % 24) (k % 256) true).raise Ev.GTE_TABLE_ECC .pipeline pipe k) ∧
    exec (.tableScrub pipe 0 0 10 (some k)) s = .next ((u.setBlockFaulty pipe 10 k true).raise Ev.SCH_CFG_ECC .pipeline pipe k) ∧
    exec (.tableScrub pipe 0 0 11 (some k)) s = .next ((u.setBlockFaulty pipe 11 k true).raise Ev.POL_CFG_ECC .pipeline pipe k)) ∧
  ∀ (pipe a : Nat) (x : RegItem) (s : State), regAt a = some x → x.inst = pipe →
    (x.reg.blk = 17 → exec (.exmParityCheck pipe (some a)) s = .next ((s.damage a).raise Ev.EXM_CFG_PARITY .pipeline pipe a)) ∧
    (x.reg.blk = 18 → exec (.exmParityCheck pipe (some a)) s = .next ((s.damage a).raise Ev.LPM_CFG_PARITY .pipeline pipe a)) ∧
    (x.reg.blk = 22 → exec (.exmParityCheck pipe (some a)) s = .next ((s.damage a).raise Ev.EDT_CFG_PARITY .pipeline pipe a))

/-- For LEARN_DECIDE (learnDecide), LEARN_TICK (learnTick), LRN_FLUSH (lrnFlush), SWEEP_PASS_START (sweepPassStart), SWEEP_VISIT (sweepVisit), WALK_PERIOD_START (walkPeriodStart), WALK_VISIT (walkVisit) and SHADOW_REPAIR (shadowRepair). (1) The head of the queue that fails ECC is discarded and counted; else, with nothing before it and charged what its decision costs, it leaves the queue and is decided: one whose flush has started is counted and does nothing; a station absent from a section that is at no limit is inserted with META 0 and its port; one present on its port counts LRN_REDUNDANT. (2) A millisecond after the last, the tick counts one up and wraps at 65,536. (3) A flush starts, and then removes one entry of its scope at each execution; with none left it answers COMPLETED with the number removed. (4) A pass that is due starts; one due while another runs is an overrun with EVT 10.4. (5) A visit, charged one access when it changes nothing and two when it does, moves the pass on; the last ends it. (6) A walk starts every PERIOD_MS. (7) The walker reads the block at its position (log entry 105) when its time has come: a BUSY one is skipped and kept for a second visit, another counted as compared, and a mismatch kept for a second reading, which confirms it. (8) A confirmed mismatch is repaired from the right copy, counted and reported, or the block is lost. -/
def Obligations.LearningAndIntegrityComplete : Prop :=
  (∀ (pipe : Nat) (w : BitVec 128) (b : Bool) (rest : List (BitVec 128 × Bool)) (u v s : State), (s.lrn pipe).queue = (w, b) :: rest →
    exec (.learnDecide ⟨pipe, true⟩) s = .next ((s.setLearnQueue pipe rest).bump .LRN_ECC_DROP pipe) ∧
    ((s.exm pipe).exmHeld = false → s.emBlocked pipe (s.noteEntry pipe w) = false → (s.emPending pipe = false ∨ s.gateAsked (pipe + 1) actLearn learnTag = true) →
      s.charge (pipe + 1) actLearn (s.decideNote pipe w b).2 learnTag = (u, true) → v = u.setLearnQueue pipe rest →
      exec (.learnDecide ⟨pipe, false⟩) s = .next (v.decideNote pipe w b).1 ∧
      (b = true → exec (.learnDecide ⟨pipe, false⟩) s = .next (v.bump .LRN_FLUSH_DISCARD pipe)) ∧
      (∀ (c port : Nat) (t : State) (m : Nat), b = false → c = LearnNote.SECTION.get w → port = LearnNote.PORT.get w →
        v.emHeldAt pipe c (LearnNote.KEY.get w) = none → v.learnLimit pipe c port = false →
        v.emInsert pipe (emMake (v.sectWide pipe c) false true c (v.rd Fld.LRN_SECT_CFG_SWEEP_CLASS pipe c) (LearnNote.KEY.get w)
          (setFields (0 : BitVec 32) [(ResWord.KIND, 1), (ResWord.TARGET, port)]) 0) = (t, .ok m) →
        exec (.learnDecide ⟨pipe, false⟩) s = .next ((t.bump .LRN_INSERTS (pipe * 16 + c)).lrnReport pipe c w 0)) ∧
      (∀ (c k : Nat), b = false → c = LearnNote.SECTION.get w → v.emHeldAt pipe c (LearnNote.KEY.get w) = some k →
        emStatic ((v.exm pipe).at k) = false → ResWord.TARGET.get (emResult (v.sectWide pipe c) ((v.exm pipe).at k)) = LearnNote.PORT.get w →
        exec (.learnDecide ⟨pipe, false⟩) s = .next (v.bump .LRN_REDUNDANT (pipe * 16 + c))))) ∧
  (∀ (pipe : Nat) (s : State), s.Canon → (s.lrn pipe).tickAt + msClk ≤ s.now →
    ∃ t, exec (.learnTick pipe) s = .next t ∧ t.rd Fld.LRN_TICK_TICK pipe = (s.rd Fld.LRN_TICK_TICK pipe + 1) % 65536 ∧
      OnlyRegs (s.setLrn pipe { s.lrn pipe with tickAt := (s.lrn pipe).tickAt + msClk }) t [Reg.LRN_TICK.key pipe 0 0]) ∧
  (∀ (tag pipe : Nat) (sect port vid : Option Nat) (u s : State), s.mbxRunsAt tag opLrnFlush pipe = true →
    (((s.lrn pipe).flushes.find? (fun f => f.tag == some tag) = none ∧ u = s.startFlush pipe (some tag) sect port vid) ∨
      ∃ f, (s.lrn pipe).flushes.find? (fun f => f.tag == some tag) = some f ∧ u = s.flushNext pipe f) →
    ((u.lrn pipe).flushes.find? (fun f => f.tag == some tag) = none →
      exec (.lrnFlush tag pipe sect port vid) s = .next (u.reply tag .completed (u.doneOf tag) 0 0 true)) ∧
    (((u.lrn pipe).flushes.find? (fun f => f.tag == some tag)).isSome = true → exec (.lrnFlush tag pipe sect port vid) s = .next u)) ∧
  (∀ (pipe : Nat) (s : State), s.on Fld.LRN_CTRL_SWEEP_EN pipe = true → (s.lrn pipe).passAt ≤ s.now → (s.lrn pipe).passDue = false →
    ((s.lrn pipe).pos = none → exec (.sweepPassStart pipe) s = .next ((s.setLrn pipe { s.lrn pipe with pos := some 0, passAt := (s.lrn pipe).passAt + s.rd Fld.LRN_SWEEP_CFG_BASE_MS pipe * msClk, passDue := false }).wr Fld.LRN_SWEEP_STATUS_PASS
        ((s.rd Fld.LRN_SWEEP_STATUS_PASS pipe + 1) % 2 ^ 32) pipe)) ∧
    ((s.lrn pipe).pos.isSome = true → exec (.sweepPassStart pipe) s =
      .next (((s.setLrn pipe { s.lrn pipe with passDue := true }).bump .LRN_SWEEP_OVERRUN pipe).raise Ev.LRN_SWEEP_OVERRUN .pipeline pipe))) ∧
  (∀ (pipe i n : Nat) (t u v s : State), (s.lrn pipe).pos = some i → t = (s.sweepPlaces pipe i).foldl (fun t k => t.sweepEntry pipe k) s →
    n = (if t = s then 1 else 2) → s.charge (pipe + 1) actSweep n sweepTag = (u, true) →
    v = (s.sweepPlaces pipe i).foldl (fun t k => t.sweepEntry pipe k) u →
    exec (.sweepVisit pipe) s = .next (v.setLrn pipe { v.lrn pipe with pos := if i + 1 < 81920 then some (i + 1) else none })) ∧
  (∀ (pipe : Nat) (s : State), s.on Fld.LRN_CTRL_WALK_EN pipe = true → (s.lrn pipe).walkAt ≤ s.now → (s.lrn pipe).walkPos = none →
    (s.lrn pipe).walkDue = false → exec (.walkPeriodStart pipe) s = .next (s.setLrn pipe { s.lrn pipe with walkPos := some 0, walkFrom := s.now, skipped := [], suspect := none, walkAt := (s.lrn pipe).walkAt + s.rd Fld.LRN_WALK_CFG_PERIOD_MS pipe * msClk, walkDue := false })) ∧
  (∀ (pipe kind block i : Nat) (f : ShadowFinding) (u s : State), (s.lrn pipe).walkPos = some i → (s.lrn pipe).suspect = none → (s.lrn pipe).skipped = [] →
    kind < 5 → (s.lrn pipe).walkFrom * 155648 + i * (s.rd Fld.LRN_WALK_CFG_PERIOD_MS pipe * msClk) ≤ s.now * 155648 →
    (i < 79872 → (s.sectionOf pipe i).isSome = true) → s.walkReads pipe i kind block = true → (s.shadowTag pipe kind block).valid = true →
    s.chargeAll [(0, actKeeper, 8), (pipe + 1, actShadow, 1)] walkTag = (u, true) →
    (u.tagBusy pipe kind block = true → exec (.walkVisit pipe kind block f) s =
      .next ((u.bump .SHD_SKIPPED_BUSY pipe).walkOn pipe (i + 1) [(shKey kind block, min (i + 2) 155648)])) ∧
    (u.tagBusy pipe kind block = false → s.walkFinds pipe kind block f = .matches → exec (.walkVisit pipe kind block f) s =
      .next (((u.setLrn pipe { u.lrn pipe with suspect := none }).bump .SHD_BLOCKS_COMPARED pipe).walkOn pipe (i + 1) [])) ∧
    (u.tagBusy pipe kind block = false → s.walkFinds pipe kind block f ≠ .matches → exec (.walkVisit pipe kind block f) s =
      .next (((u.setLrn pipe { u.lrn pipe with suspect := some (shKey kind block, (s.shadowTag pipe kind block).seq, s.walkFinds pipe kind block f) }).bump
        .SHD_BLOCKS_COMPARED pipe).walkOn pipe (i + 1) []))) ∧
  (∀ (pipe kind block i seq : Nat) (f g : ShadowFinding) (u s : State), (s.lrn pipe).walkPos = some i → (s.lrn pipe).suspect = some (shKey kind block, seq, g) →
    s.chargeAll [(0, actKeeper, 136)] walkTag = (u, true) → (u.shadowTag pipe kind block).seq = seq → u.tagBusy pipe kind block = false →
    exec (.walkVisit pipe kind block f) s = .next (u.setLrn pipe { u.lrn pipe with suspect := none, repairs := Sparse.insert (u.lrn pipe).repairs (shKey kind block) (u.now, g) })) ∧
  ∀ (pipe kind block at_ k : Nat) (f : ShadowFinding) (t u s : State), k = shKey kind block → Sparse.find (s.lrn pipe).repairs k = some (at_, f) →
    Sparse.get (s.lrn pipe).lost k false = false → kind ≠ 5 ∨ sealedReg block = false →
    s.chargeAll [(0, actKeeper, 136), (pipe + 1, actScrub, 1)] repairTag = (t, true) →
    u = t.setLrn pipe { t.lrn pipe with repairs := Sparse.erase (t.lrn pipe).repairs k } →
    (f = .sramWrong → exec (.shadowRepair pipe kind block f) s = .next (((((((u.readPlant 11 pipe k).1).blockWrite pipe kind block
      (u.shadowCopy pipe kind block)).clearLearned pipe kind block).setBlockFaulty pipe kind block false).bump .SHD_SRAM_REPAIRS pipe).raise
        Ev.SHD_SRAM_REPAIRED .pipeline pipe block)) ∧
    (f = .shadowWrong → exec (.shadowRepair pipe kind block f) s = .next (((u.setLrn pipe { u.lrn pipe with copies := Sparse.insert (u.lrn pipe).copies k (u.blockRead pipe kind block), shadows := Sparse.insert (u.lrn pipe).shadows k { u.shadowTag pipe kind block with crc := (u.blockRead pipe kind block).crc } }).bump
        .SHD_SHADOW_REPAIRS pipe).raise Ev.SHD_SHADOW_REPAIRED .pipeline pipe block)) ∧
    (f = .lost → exec (.shadowRepair pipe kind block f) s = .next ((((u.setLrn pipe { u.lrn pipe with lost := Sparse.insert (u.lrn pipe).lost k true }).setBlockFaulty
      pipe kind block true).bump .SHD_BLOCKS_LOST pipe).raise Ev.SHD_BLOCK_LOST .pipeline pipe block))

/-- For CURD_LOOKUP (curdLookup), RECORD_FETCH_RETURN (recordFetchReturn), CHAIN_RELEASE (chainRelease), PARK_TIMEOUT (parkTimeout), SET_STALL_RETRY (setStallRetry), FLOW_SETUP (flowSetup) and GROUP_RESEED (groupReseed). (1) A packet at the flow stage, with no older one of its port there: of no class it goes to the policer; one whose record is there and waited on by nobody counts a hit and is given it; one that must park parks at the tail of its chain where it finds room, and takes its admission action where not. (2) A fetch that returns a good record of its class and key makes the way CLEAN; one that finds another record leaves the way ABSENT. (3) The head of a chain is released onto a record that is there and not held; if none is there a setup is queued. (4) A packet parked its full time is dropped, and one parked less stays. (5) The oldest miss that waits for a way of a set is retried, or let go where its record has a way. (6) A slice sets its oldest queued flow up when the slot is empty and the rate of its class is not limited, and at most one in 175 clocks. (7) A reseed that finds a seed unlocks the group and finishes the setup; one that finds none refuses it. -/
def Obligations.FlowLookupsAndChainsComplete : Prop :=
  (∀ (n found : Nat) (s : State), (Sparse.find s.pkts n).isSome = true → (s.pkt n).stage = .flow → s.behind n = false →
    (s.flowWay (s.pkt n) = .stateless → exec (.curdLookup n found) s = .next (s.toPolicer n)) ∧
    (∀ (c key pipe : Nat) (u : State), s.flowWay (s.pkt n) = .record c key → s.standby = false → u = s.readLine c key found → pipe = (u.pkt n).pipe →
      (u.mustPark pipe c key = false → exec (.curdLookup n found) s = .next ((u.bump .FLW_HITS (pipe * 16 + c)).deliver n c key .record)) ∧
      (u.mustPark pipe c key = true → u.rd Fld.FLW_PARK_STATUS_OCCUPANCY pipe < u.parkLimit pipe c →
        exec (.curdLookup n found) s = .next (u.parkIn n c key .record)) ∧
      (u.mustPark pipe c key = true → u.parkLimit pipe c ≤ u.rd Fld.FLW_PARK_STATUS_OCCUPANCY pipe →
        exec (.curdLookup n found) s = .next (u.notAdmitted n c key)))) ∧
  (∀ (c key : Nat) (w : Way) (s : State), s.way c key = some w → w.state = .pending → w.waits = none → s.harbourOk (recAddr c w.idx) = true →
    c ≠ 0 →
    (recIs (s.stored c w.idx) c key = true →
      exec (.recordFetchReturn c key true none) s = .next (s.putWay { w with state := .clean, rec_ := s.stored c w.idx })) ∧
    (recIs (s.stored c w.idx) c key = false →
      exec (.recordFetchReturn c key true none) s = .next ((s.putWay { w with state := .absent }).endAbsent c key))) ∧
  (∀ (pipe c key n : Nat) (rest : List Nat) (ch : Chain) (a : ParkAt) (w : Way) (s : State), s.chain pipe c key = some ch → ch.pkts = n :: rest →
    (s.pkt n).park = some a → a.seek = .record → s.isLocked c key = false → s.way c key = some w → c ≠ 0 →
    (w.state = .clean → FlowRec.SVC_WAIT.on w.rec_ = false → FlowRec.STATE.get w.rec_ ≠ 3 → s.mirrorHeld w.idx = false →
      (FlowRec.MIRRORED.on w.rec_ = false ∨ s.awaitsTwin w.idx = false) →
      exec (.chainRelease pipe c key true) s = .next ((s.unpark n).deliver n c key .record)) ∧
    (w.state = .absent → w.setup = false → exec (.chainRelease pipe c key true) s = .next (s.setUp n c key))) ∧
  (∀ (n : Nat) (a : ParkAt) (s : State), (s.pkt n).park = some a →
    (a.since + s.rd Fld.FLW_PARK_TIME_PARK_TIMEOUT (s.pkt n).pipe * usClk ≤ s.now → exec (.parkTimeout n) s =
      .next ((((s.unpark n).discard n).bump .FLW_PARK_TIMEOUT ((s.pkt n).pipe * 16 + a.cls)).raiseMs Ev.FLW_PARK_TIMEOUT .pipeline (s.pkt n).pipe)) ∧
    (s.now < a.since + s.rd Fld.FLW_PARK_TIME_PARK_TIMEOUT (s.pkt n).pipe * usClk → exec (.parkTimeout n) s = .next s)) ∧
  (∀ (slice set n : Nat) (whey : Bool) (rest : List (Nat × Bool)) (a : ParkAt) (s : State), Sparse.get s.flw.stalled (slice * 6144 + set) [] = (n, whey) :: rest →
    (s.pkt n).park = some a →
    ((s.way a.cls a.key).isSome = true →
      exec (.setStallRetry slice set) s = .next { s with flw := { s.flw with stalled := Sparse.put s.flw.stalled (slice * 6144 + set) rest [] } }) ∧
    (s.way a.cls a.key = none → s.conflict a.cls a.key = false → exec (.setStallRetry slice set) s = .next (s.miss n a.cls a.key)) ∧
    (s.way a.cls a.key = none → s.conflict a.cls a.key = true → exec (.setStallRetry slice set) s = .next (s.setUp n a.cls a.key))) ∧
  (∀ (slice : Nat) (u : Setup) (rest : List Setup) (s v : State), Sparse.get s.flw.setupQ slice [] = u :: rest → u.reseed = false →
    (s.now < Sparse.get s.flw.setupAt slice 0 → exec (.flowSetup slice) s = .next s) ∧
    (Sparse.get s.flw.setupAt slice 0 ≤ s.now → s.isLocked u.cls u.key = false → s.slotEmpty (s.recIdx u.cls u.key) = true →
      s.rd Fld.FLW_SETUP_LIMIT_RATE 0 u.cls = 0 →
      v = { s with flw := { s.flw with setupAt := Sparse.insert s.flw.setupAt slice (s.now + 175), setupQ := Sparse.put s.flw.setupQ slice rest [] } } →
      exec (.flowSetup slice) s = .next (v.finishSetup u))) ∧
  ∀ (g : Nat) (u : Setup) (rest : List Setup) (s t v : State), Sparse.get s.flw.setupQ (groupSlice g) [] = u :: rest → u.reseed = true →
    hashGroup (s.recHash u.cls u.key) = g →
    v = ({ t with flw := { t.flw with setupQ := Sparse.put t.flw.setupQ (groupSlice g) ((Sparse.get t.flw.setupQ (groupSlice g) []).erase u) [] } }).setLocked g none →
    (s.reseed g u.cls u.key = (t, .done) → exec (.groupReseed g) s = .next (v.finishSetup u)) ∧
    (s.reseed g u.cls u.key = (t, .failed) → exec (.groupReseed g) s = .next (v.refuseSetup u))

/-- For WHEY_WRITEBACK (wheyWriteback), WB_AGE_EXPIRY (wbAgeExpiry), SLICE_FLUSH (sliceFlush), SLICE_DISABLE (sliceDisable), SLICE_FLUSH_DONE (sliceFlushDone) and SEED_RESTORE (seedRestore). (1) The oldest record of a whey buffer leaves it and is written to its place once its charge is admitted; one that cannot be read is lost and EVT 12 tells it. (2) A record DIRTY for WB_AGE_MS, or DIRTY in a slice that is flushed, is written back and its way turns CLEAN (but for a NEW record that packets use, log entry 106). (3) A write of FLUSH = 1 makes FLUSH_BUSY read 1. (4) EN is not cleared while a flow stage is on: the write is rejected; with all of them off the slice starts its flush. (5) A flush ends when no such DIRTY record and no whey entry of the slice is left; the slice turns QUIET when it is off. (6) A seed with an ECC error locks its group; the shadow copy, or the search's seed, becomes the seed and unlocks it; with neither the group's records are cleared and it is unlocked. -/
def Obligations.RecordsAreWrittenBackAndFlushed : Prop :=
  (∀ (slice c key i : Nat) (r : BitVec 1024) (rest : List (Nat × Nat × Nat × BitVec 1024)) (s u : State), s.wheyOf slice = (c, key, i, r) :: rest →
    (s.charge 0 (recAct c) 128 (wbTag c i) = (u, true) → exec (.wheyWriteback slice true) s = .next ((u.setWhey slice rest).writeBack c i r)) ∧
    exec (.wheyWriteback slice false) s = .next ((s.setWhey slice rest).raise Ev.FLW_CACHE_ECC .device slice (key % 2 ^ 32))) ∧
  (∀ (c key : Nat) (w : Way) (s u : State), s.way c key = some w → w.state = .dirty → w.uncommitted = false →
    (w.dirtyAt + s.rd Fld.FLW_WHEY_CFG_WB_AGE_MS * msClk ≤ s.now ∨ s.on Fld.FLW_SLICE_CTRL_FLUSH_BUSY (s.recSlice c key) = true) → s.charge 0 (recAct c) 128 (wbTag c w.idx) = (u, true) →
    exec (.wbAgeExpiry c key) s = .next ((u.putWay { w with state := .clean }).writeBack c w.idx w.rec_)) ∧
  (∀ (who : Agent) (slice : Nat) (v : Word) (s : State), s.Canon → Fld.FLW_SLICE_CTRL_FLUSH.onIn v = true → Fld.FLW_SLICE_CTRL_EN.onIn v = true →
    s.verdict who Reg.FLW_SLICE_CTRL slice 0 0 v false = .accepted →
    ∃ t, exec (.sliceFlush who slice v) s = .next t ∧ t.on Fld.FLW_SLICE_CTRL_FLUSH_BUSY slice = true ∧ OnlyRegs s t [Reg.FLW_SLICE_CTRL.key slice 0 0]) ∧
  (∀ (who : Agent) (slice : Nat) (v : Word) (s : State), s.Canon → Fld.FLW_SLICE_CTRL_EN.onIn v = false → s.on Fld.FLW_SLICE_CTRL_EN slice = true →
    (s.verdict who Reg.FLW_SLICE_CTRL slice 0 0 v true = .rejected → (∃ p, p < 4 ∧ s.on Fld.FLW_CTRL_EN p = true) →
      exec (.sliceDisable who slice v) s = .next s.rejectWrite) ∧
    (s.verdict who Reg.FLW_SLICE_CTRL slice 0 0 v false = .accepted → (∀ p, p < 4 → s.on Fld.FLW_CTRL_EN p = false) →
      ∃ t, exec (.sliceDisable who slice v) s = .next t ∧ t.on Fld.FLW_SLICE_CTRL_FLUSH_BUSY slice = true ∧ t.on Fld.FLW_SLICE_CTRL_EN slice = false ∧
        OnlyRegs s t [Reg.FLW_SLICE_CTRL.key slice 0 0])) ∧
  (∀ (slice : Nat) (s t : State), s.on Fld.FLW_SLICE_CTRL_FLUSH_BUSY slice = true → s.wheyOf slice = [] →
    s.flw.sets.all (fun e => e.1 / 6144 != slice || e.2.all (fun w => w.state != .dirty || w.uncommitted)) = true →
    t = s.wr Fld.FLW_SLICE_CTRL_FLUSH_BUSY 0 slice →
    (t.on Fld.FLW_SLICE_CTRL_EN slice = true → exec (.sliceFlushDone slice) s = .next t) ∧
    (t.on Fld.FLW_SLICE_CTRL_EN slice = false → exec (.sliceFlushDone slice) s = .next (t.wr Fld.FLW_SLICE_CTRL_QUIET 1 slice))) ∧
  ∀ (g : Nat) (s : State),
    exec (.seedRestore g 0) s = .next ((s.setLocked g (some true)).raise Ev.FLW_SEED_ECC .device (groupSlice g) g) ∧
    (Sparse.find s.flw.locked g = some true → exec (.seedRestore g 1) s = .next ((s.putSeed g (Sparse.get s.flw.seedCopy g 0)).setLocked g none)) ∧
    (∀ sd : Nat, Sparse.find s.flw.locked g = some true → s.searchSeed g = some sd →
      exec (.seedRestore g 2) s = .next ((s.putSeed g sd).setLocked g none)) ∧
    (Sparse.find s.flw.locked g = some true → s.searchSeed g = none → exec (.seedRestore g 2) s = .next ((s.clearGroup g).setLocked g none))

/-- For EXPIRY_VISIT (expiryVisit), EXPIRY_PERIOD_START (expiryPeriodStart), REMOVAL_COMMIT (removalCommit), FLOW_DELETE (flowDelete) and FLOW_READ (flowRead). (1) A visit, at its time in the period, to a group without records moves the walk on, and one to a group whose records' reads the keeper share admits looks at each of them, in which slot a record fails its check being a free value, and moves it on; the last group ends the walk unless another is due. (2) With WALK_EN a walk starts when its time has come; one that finds the last running raises EVT 12.8 and is made due. (3) A removal that waits for nothing commits. (4) A delete of a record that may be deleted starts its removal with END_REASON 3 and answers when that commits; of an absent one it answers NOT_FOUND. (5) A read returns the record, or NOT_FOUND. -/
def Obligations.FlowsExpireAndAreRemoved : Prop :=
  (∀ (g : Nat) (t u s : State), s.flw.walkPos = some g →
    s.flw.walkFrom * 2097152 + g * (s.rd Fld.FLW_EXPIRY_CFG_PERIOD_S * sClk) ≤ s.now * 2097152 →
    s.charge 0 actKeeper (128 * ((s.groupRecords g).length + ((s.groupRecords g).filter (fun (e : Nat × Nat) => s.readsIn e.1 e.2)).length)) (2 ^ 43 + g) = (t, true) →
    u = (s.groupRecords g).foldl (fun (u : State) e => u.walkRecord (freeSlot t.fresh) e.1 e.2)
      ((s.groupRecords g).foldl (fun (u : State) (e : Nat × Nat) => u.hbSend .keeper 2 2 false (recAddr e.1 (s.recIdx e.1 e.2)) 128) t.draw) →
    (g + 1 < 2097152 → exec .expiryVisit s = .next { u with flw := { u.flw with walkPos := some (g + 1) } }) ∧
    (2097152 ≤ g + 1 → u.flw.walkDue = false → exec .expiryVisit s = .next { u with flw := { u.flw with walkPos := none } }) ∧
    (2097152 ≤ g + 1 → u.flw.walkDue = true →
      exec .expiryVisit s = .next { u with flw := { u.flw with walkPos := some 0, walkDue := false, walkFrom := u.now } })) ∧
  (∀ s : State, s.on Fld.FLW_EXPIRY_CFG_WALK_EN = true → s.flw.walkAt ≤ s.now →
    (s.flw.walkPos = none → exec .expiryPeriodStart s = .next { s with flw := { s.flw with walkAt := s.now + s.rd Fld.FLW_EXPIRY_CFG_PERIOD_S * sClk, walkPos := some 0, walkDue := false, walkFrom := s.now } }) ∧
    (s.flw.walkPos.isSome = true → exec .expiryPeriodStart s =
      .next (({ s with flw := { s.flw with walkAt := s.now + s.rd Fld.FLW_EXPIRY_CFG_PERIOD_S * sClk, walkDue := true } }).raise Ev.FLW_EXPIRY_OVERRUN))) ∧
  (∀ (c key : Nat) (x : Removal) (s : State), s.flw.removals.find? (fun y => y.cls == c && y.key == key) = some x → s.removalReady x = true →
    exec (.removalCommit c key) s = .next (s.commitRemoval x)) ∧
  (∀ (tag c key : Nat) (s : State), s.mbxRuns tag opFlowDelete = true → s.standby = false →
    (s.getRec c key = none → exec (.flowDelete tag c key) s = .next (s.reply tag .notFound 0 0 0 true)) ∧
    (∀ r, s.getRec c key = some r → c ≠ 0 → isIn (s.role c) = false → s.role c ≠ 6 → s.isUe c r = false →
      s.flw.removals.any (fun y => y.cls == c && y.key == key) = false →
      exec (.flowDelete tag c key) s = .next (s.startRemoval c key 3 (some tag)))) ∧
  ∀ (tag c key : Nat) (s : State), s.mbxRuns tag opFlowRead = true → s.standby = false → c ≠ 0 →
    (s.getRec c key = none → exec (.flowRead tag c key) s = .next (s.reply tag .notFound 0 0 0 true)) ∧
    (∀ r, s.getRec c key = some r → exec (.flowRead tag c key) s = .next (s.reply tag .ok 0 0 r.toNat true))

/-- For FLOW_SERVICE_ACT (flowServiceAct), BINDING_COMPLETE (bindingComplete), IPFIX_EXPORT_SEND (ipfixExportSend), IPFIX_TEMPLATE_SEND (ipfixTemplateSend), LB_MEMBER_SET (lbMemberSet), LB_MEMBER_DRAIN (lbMemberDrain), LB_MEMBER_REMOVE (lbMemberRemove) and LB_GROUP_STATUS (lbGroupStatus). (1) A packet the stateful filter and NAT pass goes to the policer; one the filter finds invalid is discarded and counted. (2) A binding whose subscriber and IN record stand takes a port, and OUT, IN and subscriber records are written together; while the IN record's setup waits its subscriber is held; without a port the binding is refused. (3) A message carries the oldest records of one template to their collector, at most what MSG_LEN holds; they leave the queue and advance the sequence number. (4) Templates are sent to a collector when due. A member operation stands at a pipeline whose tide admits it; what it computes for P0 goes to the other pipelines unchanged, and the last write answers OK. (5) An EMPTY slot becomes ACTIVE with its weight, an ACTIVE one of the same next hop takes the weight, and the buckets are rebalanced. (6) A drained member gives its buckets up; one that is not ACTIVE is refused. (7) A removed member gives its buckets up in every pipeline first, and then becomes EMPTY with the next generation. (8) A status answers the group. -/
def Obligations.FlowServicesComplete : Prop :=
  (∀ (n : Nat) (u : FlowUse) (r : BitVec 1024) (s t v : State), (Sparse.find s.pkts n).isSome = true → (s.pkt n).stage = .service → (s.pkt n).flow = some u →
    s.getRec u.cls u.key = some r →
    (s.filterTcp n u r = (t, true) → t.natServe n u r = (v, true) → exec (.flowServiceAct n) s = .next (v.toPolicer n)) ∧
    (s.clsOn Fld.FLW_SVC_CFG_TCP_TRACK u.cls = true → ((s.pkt n).fields (s.cls Fld.FLW_CLASS_CFG_LEVEL u.cls)).proto = 6 →
      tcpStep (FlowRec.TCP_STATE.get r) ((s.pkt n).fields (s.cls Fld.FLW_CLASS_CFG_LEVEL u.cls)).tcp (s.ownSide (s.pkt n) u.cls == FlowRec.INIT_SIDE.on r)
        (Sparse.find s.flw.finSide (finKey u.cls u.key) == some (!(s.ownSide (s.pkt n) u.cls == FlowRec.INIT_SIDE.on r))) = none →
      s.clsOn Fld.FLW_SVC_CFG_INVALID_ACT u.cls = false →
      exec (.flowServiceAct n) s = .next (((s.bump .FLT_TCP_INVALID u.cls).raiseMs Ev.FLT_TCP_INVALID .device u.cls).discard n))) ∧
  (∀ (c key k : Nat) (r q : BitVec 1024) (s t v : State) (b off : Nat), s.flw.binding.contains (c, key) = true → s.getRec c key = some r →
    k = s.cls Fld.FLW_SVC_CFG_POOL c → s.getRec (s.subOf c key).1 (s.subOf c key).2 = some q →
    (s.takePort k (s.subOf c key).1 (s.subOf c key).2 q = (t, some (b, off)) →
      (t.keeperSetup (t.cls Fld.FLW_SVC_CFG_LINK_CLASS c) (t.inKey c key (t.blockAt k b).1 ((t.blockAt k b).2 + off)) = (v, .done) →
        exec (.bindingComplete c key) s = .next (v.bind c key k b off)) ∧
      (t.keeperSetup (t.cls Fld.FLW_SVC_CFG_LINK_CLASS c) (t.inKey c key (t.blockAt k b).1 ((t.blockAt k b).2 + off)) = (v, .waits) →
        exec (.bindingComplete c key) s = .next (s.holdSub (s.subOf c key) true))) ∧
    (s.takePort k (s.subOf c key).1 (s.subOf c key).2 q = (t, none) → exec (.bindingComplete c key) s = .next ((t.holdSub (s.subOf c key) false).refuseBinding c key))) ∧
  (∀ (coll : Nat) (r0 : IpfixRec) (mine : List IpfixRec) (s t : State), s.flw.ipfix.find? (fun r => r.coll == coll) = some r0 →
    (Sparse.find s.flw.templateAt coll).isSome = true →
    mine = (s.flw.ipfix.filter (fun r => r.coll == coll && r.tpl == r0.tpl)).take ((s.rd Fld.FLW_IPFIX_CFG_MSG_LEN - 20) / max 1 r0.bytes.length) →
    t = s.ipfixSend coll r0.tpl (mine.flatMap IpfixRec.bytes) →
    exec (.ipfixExportSend coll) s = .next (((({ t with flw := { t.flw with ipfix := mine.foldl (fun (l : List IpfixRec) r => l.erase r) s.flw.ipfix, ipfixSeq := (t.flw.ipfixSeq + mine.length) % 2 ^ 32 } }).bump .IPFIX_RECORDS coll mine.length)).ipfixFill)) ∧
  (∀ (coll : Nat) (s t : State), s.on Fld.FLW_IPFIX_CFG_EN = true → s.on Fld.FLW_IPFIX_COLL_EN 0 coll = true →
    (∀ x, Sparse.find s.flw.templateAt coll = some x → x + s.rd Fld.FLW_IPFIX_CFG_TEMPLATE_S * sClk ≤ s.now) → t = s.ipfixSend coll 2 ipfixTemplates →
    exec (.ipfixTemplateSend coll) s = .next { t with flw := { t.flw with templateAt := Sparse.insert t.flw.templateAt coll s.now } }) ∧
  (∀ (tag gi slot nh weight p : Nat) (rest : List Nat) (h : Change) (g : LbGroup) (s u : State), g = s.lbGroup 0 gi →
    s.admitAt tag h p actHost 4 [(shRes, 2 * 65536 + gi)] = (u, true) →
    (p = 0 → s.AtPipe tag opLbMemberSet (.lbMemberSet tag gi slot nh weight) allPipes true h p rest → s.standby = false → gi < s.lbCap →
      1 ≤ weight → weight ≤ 255 → slot < 64 → nh < s.nhCap → NextHop.TYPE.get (s.nhAt 0 nh) = 1 →
      ((g.at slot).state = 0 ∨ ((g.at slot).state = 1 ∧ (g.at slot).nh = nh)) →
      exec (.lbMemberSet tag gi slot nh weight) s = .next ((u.setLbGroup p gi (({ g with members := Sparse.insert g.members slot { g.at slot with state := 1, nh := nh, weight := weight } }).rebalance 512)).wroteAt tag h p rest none)) ∧
    (p ≠ 0 → s.AtPipe tag opLbMemberSet (.lbMemberSet tag gi slot nh weight) allPipes false h p rest →
      exec (.lbMemberSet tag gi slot nh weight) s = .next ((u.setLbGroup p gi (u.lbGroup 0 gi)).wroteAt tag h p rest none))) ∧
  (∀ (tag gi slot p : Nat) (rest : List Nat) (h : Change) (g : LbGroup) (s u : State), g = s.lbGroup 0 gi →
    s.admitAt tag h p actHost 4 [(shRes, 2 * 65536 + gi)] = (u, true) →
    (p = 0 → s.AtPipe tag opLbMemberDrain (.lbMemberDrain tag gi slot) allPipes true h p rest → s.standby = false → gi < s.lbCap → (g.at slot).state = 1 →
      exec (.lbMemberDrain tag gi slot) s =
        .next ((u.setLbGroup p gi (({ g with members := Sparse.insert g.members slot { g.at slot with state := 2 } }).drainSlot slot 256)).wroteAt tag h p rest none)) ∧
    (p ≠ 0 → s.AtPipe tag opLbMemberDrain (.lbMemberDrain tag gi slot) allPipes false h p rest →
      exec (.lbMemberDrain tag gi slot) s = .next ((u.setLbGroup p gi (u.lbGroup 0 gi)).wroteAt tag h p rest none)) ∧
    (s.mbxRuns tag opLbMemberDrain = true → s.changeOf tag (.lbMemberDrain tag gi slot) allPipes = some h → h.undo = [] → s.standby = false → (g.at slot).state ≠ 1 →
      exec (.lbMemberDrain tag gi slot) s = .next (s.reply tag .badRule 0 0 0 true))) ∧
  (∀ (tag gi slot p : Nat) (rest : List Nat) (h : Change) (g : LbGroup) (s u : State), g = s.lbGroup 0 gi →
    s.admitAt tag h p actHost 4 [(shRes, 2 * 65536 + gi)] = (u, true) →
    (p = 0 → s.AtPipe tag opLbMemberRemove (.lbMemberRemove tag gi slot) (allPipes ++ allPipes) true h p rest → s.standby = false → gi < s.lbCap → (g.at slot).state ≠ 0 →
      (g.held slot = [] → exec (.lbMemberRemove tag gi slot) s =
        .next ((u.setLbGroup p gi { g with members := Sparse.insert g.members slot ⟨0, 0, 0, ((g.at slot).gen + 1) % 256⟩ }).wroteAt tag h p rest none)) ∧
      (g.held slot ≠ [] → exec (.lbMemberRemove tag gi slot) s = .next ((u.setLbGroup p gi { g with buckets :=
        (({ g with members := Sparse.insert g.members slot ⟨0, 0, 0, ((g.at slot).gen + 1) % 256⟩ }).drainSlot slot 256).buckets }).wroteAt tag h p rest none))) ∧
    (p ≠ 0 → s.AtPipe tag opLbMemberRemove (.lbMemberRemove tag gi slot) (allPipes ++ allPipes) false h p rest →
      exec (.lbMemberRemove tag gi slot) s = .next ((u.setLbGroup p gi (u.lbGroup 0 gi)).wroteAt tag h p rest none))) ∧
  ∀ (tag gi : Nat) (g : LbGroup) (s : State), s.mbxRuns tag opLbGroupStatus = true → s.standby = false →
    (gi < s.lbCap → g = s.lbGroup 0 gi → exec (.lbGroupStatus tag gi) s = .next (s.reply tag .ok 0 0 ((List.range 64).foldl (fun a k =>
      a + ((g.at k).state + (g.held k).length * 4) * 2 ^ (16 * k)) 0) true)) ∧
    (s.lbCap ≤ gi → exec (.lbGroupStatus tag gi) s = .next (s.reply tag .badRule 0 0 0 true))

/-- For SESSION_STAGE (sessionStage), SESSION_CREATE (sessionCreate), SESSION_MODIFY (sessionModify), SESSION_DELETE (sessionDelete), SESSION_READ (sessionRead) and URR_QUERY (urrQuery); no replay of the session is running. (1) An uplink packet with a bad TEID is discarded, counted, reported and owed an Error Indication; of every other packet with a head: it is discarded and counted when no PDR matches it or its FAR drops it; a new downlink one is buffered when its FAR or session buffers; else rows 5 to 8 apply. (2) A create of a valid record for a free index, its charge admitted and its UE records set up, answers the local TEID; of an index in use it answers EXISTS. (3) A modify settles the URRs whose limits it changes, writes the new record, settles and starts URRs anew, starts End Markers and a replay, and answers OK. (4) A delete whose UE records are gone removes the session. (5), (6) A read answers the whole settled record and a query reports the named URRs; of an unknown session both answer NOT_FOUND. -/
def Obligations.SessionOutcomesAndOperations : Prop :=
  (∀ (n : Nat) (u : SessUse) (s : State), (Sparse.find s.pkts n).isSome = true → (s.pkt n).stage = .session → (s.pkt n).sess = some u →
    (∀ (o k teid : Nat) (d : State), (s.pkt n).gtpu = some o → teid = beAt (s.pkt n).parsed (o + 4) 4 → s.n3Of (s.pkt n) = some k → d = s.decideSess u.idx →
      u.downlink = false → d.badTeid (d.head u.idx) teid k = true →
      exec (.sessionStage n) s = .next ((((d.discard n).bump .UPS_BAD_TEID (s.pkt n).pipe).raiseMs Ev.UPS_BAD_TEID .port (s.pkt n).port).oweErrInd (s.pkt n) teid)) ∧
    (∀ d : State, d = s.decideSess u.idx → (u.downlink = true ∨ ∃ o k, (s.pkt n).gtpu = some o ∧ d.n3Of (s.pkt n) = some k ∧
        d.badTeid (d.head u.idx) (beAt (s.pkt n).parsed (o + 4) 4) k = false) →
      ((List.range 4).find? (fun i => pdrMatches (pdrOf (d.head u.idx) i) (s.pkt n) u.downlink) = none →
        exec (.sessionStage n) s = .next ((d.discard n).bump .UPS_NO_PDR (s.pkt n).pipe)) ∧
      (∀ (i : Nat) (far : BitVec 64), (List.range 4).find? (fun i => pdrMatches (pdrOf (d.head u.idx) i) (s.pkt n) u.downlink) = some i →
        far = farOf (d.head u.idx) (Pdr.FAR.get (pdrOf (d.head u.idx) i)) →
        (Far.ACTION.get far = 0 → exec (.sessionStage n) s = .next ((d.discard n).bump .UPS_FAR_DROP (s.pkt n).pipe)) ∧
        (Far.ACTION.get far ≠ 0 → u.downlink = true → (s.pkt n).replay = none → (Sess.BUFFERING.on (d.head u.idx) = true ∨ Far.ACTION.get far = 2) →
          exec (.sessionStage n) s = .next (d.sessBuffer n u i far)) ∧
        (Far.ACTION.get far ≠ 0 → (u.downlink = false ∨ (s.pkt n).replay.isSome = true ∨ (Sess.BUFFERING.on (d.head u.idx) = false ∧ Far.ACTION.get far ≠ 2)) →
          exec (.sessionStage n) s = .next (d.sessForward n u (pdrOf (d.head u.idx) i) far))))) ∧
  (∀ (tag i : Nat) (body : BitVec 4096) (m : MbxStatus) (s u v t : State), s.mbxRuns tag opSessionCreate = true → s.standby = false → Sess.REPLAY.on (s.sess i) = false →
    (Sess.VALID.on (s.head i) = true → exec (.sessionCreate tag i body) s = .next (s.reply tag .exists_ 0 0 0 true)) ∧
    (Sess.VALID.on (s.head i) = false → s.sessBad body = false → s.charge 0 actSession 512 (sessTag i) = (u, true) →
      v = ((u.hbSend .session 1 4 true (recAddr 0 i) 512).putSess i (u.freshSess i body)).countSession true →
      v.setUes i (v.ueKeys (v.sess i)) = (t, .done, m) →
      exec (.sessionCreate tag i body) s = .next (t.sessReply i tag .ok (t.teidOf i) 0))) ∧
  (∀ (tag i em : Nat) (body : BitVec 4096) (clr : Bool) (changed started : List Nat) (s u v w x : State), s.mbxRuns tag opSessionModify = true → s.standby = false →
    Sess.VALID.on (s.sess i) = true → Sess.REPLAY.on (s.sess i) = false → s.sessBad body = false →
    [Sess.UE_IPV4, Sess.UE_IPV6_PFX, Sess.UE_V4_VALID, Sess.UE_V6_VALID, Sess.VRF].any (fun f => f.get (s.sess i) != f.get body) = false →
    changed = (List.range 4).filter (fun k => urrChanges (s.sess i) body k && Urr.EN.on (urrOf (s.sess i) k)) →
    s.charge 0 actSession 384 (sessTag i) = (u, true) → v = changed.foldl (fun t k => t.settle1 i k) (u.hbSend .session 1 4 true (recAddr 0 i + 128) 384) →
    w = changed.foldl (fun t k => if Urr.EN.on (urrOf (modified (v.sess i) body) k) then State.settled i k (t.settle2 i k) else t) (v.putSess i (modified (v.sess i) body)) →
    started = (List.range 4).filter (fun k => !Urr.EN.on (urrOf (s.sess i) k) && Urr.EN.on (urrOf (modified (v.sess i) body) k)) →
    x = started.foldl (fun (t : State) k => (t.modSess i (fun r => setFields r [(Sess.PERIOD_START k, t.todSec), (Sess.LOADED k, Urr.LEFT.get (urrOf r k))])).settleNow i k) w →
    exec (.sessionModify tag i body clr em) s = .next ((x.afterModify i (v.sess i) (modified (v.sess i) body) clr em).sessReply i tag .ok 0 0)) ∧
  (∀ (tag i : Nat) (s : State), s.mbxRuns tag opSessionDelete = true → s.standby = false →
    (Sess.VALID.on (s.head i) = false → exec (.sessionDelete tag i) s = .next (s.reply tag .notFound 0 0 0 true)) ∧
    (Sess.VALID.on (s.head i) = true → Sess.REPLAY.on (s.sess i) = false → (s.dropUes i).uesGone i = true →
      exec (.sessionDelete tag i) s = .next (((s.dropUes i).dropSession i).sessReply i tag .ok 0 0))) ∧
  (∀ (tag i : Nat) (s t : State), s.mbxRuns tag opSessionRead = true → s.standby = false →
    (Sess.VALID.on (s.head i) = false → exec (.sessionRead tag i) s = .next (s.reply tag .notFound 0 0 0 true)) ∧
    (Sess.VALID.on (s.head i) = true → Sess.REPLAY.on (s.sess i) = false → t = (((s.settleNow i 0).settleNow i 1).settleNow i 2).settleNow i 3 →
      exec (.sessionRead tag i) s = .next (t.sessReply i tag .ok 0 (t.sess i).toNat))) ∧
  ∀ (tag i mask : Nat) (s : State), s.mbxRuns tag opUrrQuery = true → s.standby = false →
    (Sess.VALID.on (s.head i) = false → exec (.urrQuery tag i mask) s = .next (s.reply tag .notFound 0 0 0 true)) ∧
    (Sess.VALID.on (s.head i) = true → Sess.REPLAY.on (s.sess i) = false →
      exec (.urrQuery tag i mask) s = .next (((List.range 4).foldl (fun (x : State) k =>
        if Nat.testBit mask k && Urr.EN.on (urrOf (x.head i) k) then (x.settleNow i k).report i k .query else x) s).sessReply i tag .ok 0 0))

/-- For USAGE_SETTLE (usageSettle), TIME_THRESHOLD_EXPIRY (timeThresholdExpiry), REPORT_RING_SPACE (reportRingSpace), BUFFER_ENQUEUE (bufferEnqueue), BUFFER_EXPIRY (bufferExpiry), REPLAY_SEND (replaySend), REPLAY_END (replayEnd), ECHO_REQUEST (echoRequest), ERROR_INDICATION_SEND (errorIndicationSend) and END_MARKER_SEND (endMarkerSend). (1) A settle that waits makes its next step once charged: step 1, or step 2, which ends it unless OVER has reached the new load. (2) A period that has reached TIME_THRESH is settled and reported. (3) A held notification is written once the ring has space, a usage report with its volume brought up to now. (4) The oldest packet of the buffer queue is dropped when errored, counted when beyond BUF_LIMIT, and buffered otherwise, BUF_TRANSIT falling each time; with NOCP unset the host is notified once. (5) Packets older than BUF_TIME_S are discarded and counted, one of exactly that age is not. (6) A replay sends its oldest packet. (7) It ends when nothing is buffered nor on its way and no packet of the session has been decided in this clock. (8), (9) An Echo Request and an Error Indication beyond the rate are counted; within it they are sent. (10) A due End Marker whose next hop encapsulates nothing any more is dropped. -/
def Obligations.UsageAndBufferingComplete : Prop :=
  (∀ (i u : Nat) (b : Bool) (s v t : State), s.ups.settles.find? (fun e => e.1 == i && e.2.1 == u) = some (i, u, b) → Sess.VALID.on (s.head i) = true → Urr.EN.on (urrOf (s.head i) u) = true →
    s.charge 0 actSession 128 (2 ^ 47 + 4 * i + u) = (v, true) → t = v.hbSend .session 1 4 true (recAddr 0 i + 384) 128 →
    (b = false → exec (.usageSettle i u) s = .next { t.settle1 i u with ups := { (t.settle1 i u).ups with settles := (t.settle1 i u).ups.settles.map (fun y => if y = (i, u, false) then (i, u, true) else y) } }) ∧
    (b = true → (t.settle2 i u).2 = true → exec (.usageSettle i u) s =
      .next { (t.settle2 i u).1 with ups := { (t.settle2 i u).1.ups with settles := (t.settle2 i u).1.ups.settles.filter (fun x => x != (i, u, true)) } }) ∧
    (b = true → (t.settle2 i u).2 = false → exec (.usageSettle i u) s =
      .next { (t.settle2 i u).1 with ups := { (t.settle2 i u).1.ups with settles := (t.settle2 i u).1.ups.settles.map (fun y => if y = (i, u, true) then (i, u, false) else y) } })) ∧
  (∀ (i u : Nat) (s : State), Sess.VALID.on (s.sess i) = true → Urr.EN.on (urrOf (s.sess i) u) = true → (Sess.TIME_THRESH u).get (s.sess i) ≠ 0 →
    (Sess.TIME_THRESH u).get (s.sess i) ≤ (s.todSec % 2 ^ 32 + 2 ^ 32 - (Sess.PERIOD_START u).get (s.sess i)) % 2 ^ 32 →
    exec (.timeThresholdExpiry i u) s = .next ((s.settleNow i u).report i u .time)) ∧
  (∀ (kind payload : Nat) (rest : List (Nat × Nat)) (s t : State), s.ups.held = (kind, payload) :: rest → t = { s with ups := { s.ups with held := rest } } →
    (s.ntfFull = true → exec .reportRingSpace s = .next s) ∧
    (s.ntfFull = false → kind ≠ 4 → exec .reportRingSpace s = .next (t.writeNote kind payload)) ∧
    (s.ntfFull = false → kind = 4 → exec .reportRingSpace s = .next ((t.freshReport payload).1.writeNote 4 (t.freshReport payload).2))) ∧
  (∀ (b : BufItem) (rest : List BufItem) (s t u w : State), s.ups.bufQ = b :: rest →
    t = ({ s with ups := { s.ups with bufQ := rest } }).modHead b.session (fun h => Sess.BUF_TRANSIT.set h (Sess.BUF_TRANSIT.get h - 1)) →
    ((s.pkt b.pkt).status = none → exec .bufferEnqueue s = .next s) ∧
    ((s.pkt b.pkt).status = some true → exec .bufferEnqueue s = .next (t.forget b.pkt)) ∧
    ((s.pkt b.pkt).status = some false → Sess.VALID.on (s.sess b.session) = true →
      (Sess.BUF_LIMIT.get (s.sess b.session) ≤ (s.sessBuf b.session).length →
        exec .bufferEnqueue s = .next ((t.forget b.pkt).bump .UPS_BUF_DROP_LIMIT)) ∧
      ((s.sessBuf b.session).length < Sess.BUF_LIMIT.get (s.sess b.session) →
        (s.rd Fld.UPS_BUF_CFG_SIZE_MIB * 512 < s.rd Fld.UPS_BUF_STATUS_UNITS_USED + s.bufUnits b.pkt →
          exec .bufferEnqueue s = .next (((t.forget b.pkt).bump .UPS_BUF_DROP_FULL).raiseMs Ev.UPS_BUF_FULL .pipeline (s.pkt b.pkt).pipe)) ∧
        (s.rd Fld.UPS_BUF_STATUS_UNITS_USED + s.bufUnits b.pkt ≤ s.rd Fld.UPS_BUF_CFG_SIZE_MIB * 512 →
          s.charge 0 actSession (hbWriteCharge 0 ((s.pkt b.pkt).orig.length + 36)) (2 ^ 46 + b.pkt) = (u, true) →
          w = (({ u with ups := { u.ups with bufQ := rest } }).modHead b.session
            (fun h => Sess.BUF_TRANSIT.set h (Sess.BUF_TRANSIT.get h - 1))).setSessBuf b.session (u.sessBuf b.session ++ [(b.pkt, s.now)]) →
          (b.notify = false ∨ Sess.NOTIFIED.on (s.sess b.session) = true → exec .bufferEnqueue s = .next w) ∧
          (b.notify = true → Sess.NOTIFIED.on (s.sess b.session) = false → exec .bufferEnqueue s = .next ((w.modSess b.session
            (fun x => Sess.NOTIFIED.set x 1)).notify 5 (b.session + b.pdrId * 2 ^ 32 + b.qfi * 2 ^ 48) true)))))) ∧
  (∀ (i limit : Nat) (old keep : List (Nat × Nat)) (s : State), limit = Sess.BUF_TIME_S.get (s.sess i) * sClk →
    old = (s.sessBuf i).filter (fun (e : Nat × Nat) => decide (e.2 + limit < s.now)) → keep = (s.sessBuf i).filter (fun (e : Nat × Nat) => !decide (e.2 + limit < s.now)) →
    (old = [] → exec (.bufferExpiry i) s = .next s) ∧
    (old ≠ [] → exec (.bufferExpiry i) s =
      .next ((old.foldl (fun (u : State) (e : Nat × Nat) => u.forget e.1) (s.setSessBuf i keep)).bump .UPS_BUF_EXPIRED 0 old.length))) ∧
  (∀ (i n at_ : Nat) (rest : List (Nat × Nat)) (p : Packet) (s t u : State), s.sessBuf i = (n, at_) :: rest → Sess.REPLAY.on (s.sess i) = true →
    (Sparse.get s.ups.bufs i ⟨[], 0⟩).nextAt ≤ s.now → s.charge 0 actSession ((s.pkt n).orig.length + 36) (2 ^ 46 + n) = (t, true) →
    u = (t.setSessBuf i rest).forget n → p = { Packet.init with frame := (s.pkt n).orig, replay := some i } →
    (rest = [] → exec (.replaySend i) s = .next (u.keeperPacket (s.pkt n).pipe p)) ∧
    (rest ≠ [] → exec (.replaySend i) s =
      .next (({ u with ups := { u.ups with bufs := Sparse.insert u.ups.bufs i ⟨rest, s.now + 875⟩ } }).keeperPacket (s.pkt n).pipe p))) ∧
  (∀ (i : Nat) (s : State), (Sess.REPLAY.on (s.sess i) = true ∨ Sess.BUFFERING.on (s.sess i) = true) → s.sessBuf i = [] →
    (Sess.BUF_TRANSIT.get (s.sess i) = 0 → (s.ups.decidedAt ≠ s.now ∨ s.ups.decided.contains i = false) →
      exec (.replayEnd i) s = .next (s.modSess i (fun x => setFields x [(Sess.BUFFERING, 0), (Sess.REPLAY, 0)]))) ∧
    (Sess.BUF_TRANSIT.get (s.sess i) ≠ 0 → exec (.replayEnd i) s = .next s)) ∧
  (∀ (n o : Nat) (s t : State) (b : Bool), (Sparse.find s.pkts n).isSome = true → (s.pkt n).stage = .kept → (s.pkt n).status = some false →
    (s.pkt n).gtpu = some o → s.takeAnswer 0 (s.rd Fld.UPS_RATE_CFG_ECHO_RATE) = (t, b) →
    (b = false → exec (.echoRequest n) s = .next ((s.forget n).bump .UPS_ECHO_DROP)) ∧
    (b = true → exec (.echoRequest n) s = .next ((t.forget n).keeperUdp (((s.pkt n).fields 0).l3 == 10) ((s.pkt n).fields 0).dip ((s.pkt n).fields 0).sip
      ((s.pkt n).fields 0).dst ((s.pkt n).fields 0).src (bytesBE 1 0x32 ++ bytesBE 1 2 ++ bytesBE 2 6 ++ bytesBE 4 0 ++ bytesBE 2 (be16 (s.pkt n).parsed (o + 8)) ++
        bytesBE 2 0 ++ bytesBE 1 14 ++ bytesBE 1 0)))) ∧
  (∀ (a : ErrInd) (rest : List ErrInd) (s t : State) (b : Bool), s.ups.answers = a :: rest →
    ({ s with ups := { s.ups with answers := rest } }).takeAnswer 1 (s.rd Fld.UPS_RATE_CFG_ERRIND_RATE) = (t, b) →
    (b = false → exec .errorIndicationSend s = .next (t.bump .UPS_ERRIND_DROP)) ∧
    (∀ ab : Nat, b = true → ab = (if a.v6 = true then 16 else 4) →
      exec .errorIndicationSend s = .next (t.keeperUdp a.v6 a.n3 a.peer (s.rd Fld.PRS_UDP_PORTS_GTPU_PORT 0) (s.rd Fld.PRS_UDP_PORTS_GTPU_PORT 0)
        (bytesBE 1 0x32 ++ bytesBE 1 26 ++ bytesBE 2 (12 + ab) ++ bytesBE 4 0 ++ bytesBE 4 0 ++ bytesBE 1 16 ++ bytesBE 4 a.teid ++ bytesBE 1 133 ++ bytesBE 2 ab ++ bytesBE ab a.n3)))) ∧
  (∀ s : State, s.ups.markers.find? (fun m => decide (m.due ≤ s.now)) = none → exec .endMarkerSend s = .next s) ∧
  ∀ (m : EndMarker) (s : State), s.ups.markers.find? (fun m => decide (m.due ≤ s.now)) = some m →
    (NextHop.TYPE.get (s.nhAt 0 m.nh) ≠ 1 ∨ tplGtpu (Sparse.get (s.exm 0).tpls (NextHop.TEMPLATE.get (s.nhAt 0 m.nh)) 0) = false →
      ∃ t, exec .endMarkerSend s = .next t ∧ t.ups.markers = s.ups.markers.erase m ∧ t.pkts = s.pkts ∧ t.regs = s.regs) ∧
    (NextHop.TYPE.get (s.nhAt 0 m.nh) = 1 → tplGtpu (Sparse.get (s.exm 0).tpls (NextHop.TEMPLATE.get (s.nhAt 0 m.nh)) 0) = true →
      ∃ t, exec .endMarkerSend s = .next t ∧ t.ups.markers = s.ups.markers.erase m ∧ t.nextPkt = s.nextPkt + 1 ∧ (t.pkt s.nextPkt).stage = .cells ∧
        (t.pkt s.nextPkt).cls = s.rd Fld.UPS_CFG_EM_CLASS ∧ (t.pkt s.nextPkt).dest = .port (NextHop.PORT.get (s.nhAt 0 m.nh)))

/-- For EDIT (edit), CAPTURE_RECORD_WRITE (captureRecordWrite), CAP_RD_WRITE (capRdWrite), CAP_RING_DISABLE (capRingDisable), NH_WRITE (nhWrite), TPL_WRITE (tplWrite), EDIT_WRITE (editWrite) and EDT_TABLE_RESTORE (edtTableRestore). (1) A packet at the editor, with no older one of its port there and, for backwash, its end arrived, has its load balancing resolved and is edited: edits that end well send it with the edited header towards the cell writer, or through backwash; a refused edit discards it and counts it; one whose TTL expires or that exceeds the MTU goes to the host or is discarded, as configured; skipped operations are counted. (2) The oldest copy of a capture buffer is written with its descriptor at WR mod capacity and WR goes up by one; in STOP mode one that finds its ring full is lost. (3) RD is stored unless it would put more records in the ring than it holds. (4) EN is cleared. (5) to (7) A next hop, a template and an edit profile are written to P0 to P3 in order, each once its gates admit it, and refused as BAD_RULE beyond the region, with a reserved bit or value, or with an operation that is refused. (8) A faulty entry, its reads and writes admitted, is repaired from its shadow. -/
def Obligations.EditorAndCaptureComplete : Prop :=
  (∀ (n : Nat) (s t : State), (Sparse.find s.pkts n).isSome = true → (s.pkt n).stage = .edit → s.behind n = false →
    s.on Fld.EDT_CTRL_EN (s.pkt n).pipe = true → ((s.pkt n).toBackwash = false ∨ (s.pkt n).ended.isSome = true) →
    (s.resolve n = (t, false) → exec (.edit n) s = .next t) ∧
    (s.resolve n = (t, true) → ∀ (e : EditEnd) (k : Nat) (p : Packet) (v : State), p = t.pkt n → t.edits p = (e, k) → v = (if k = 0 then t else t.bump .EDT_OP_SKIP p.pipe k) →
      (∀ c, e = .drop c → exec (.edit n) s = .next ((v.discard n).bump c p.pipe)) ∧
      (e = .fault → exec (.edit n) s = .next (v.faultDrop n)) ∧
      (∀ u, e = .expired → u = v.bump .EDT_TTL_EXPIRED p.port →
        exec (.edit n) s = .next (if u.on Fld.EDT_CFG_TTL_ACT p.pipe = true then u.toHost n 16 0 .PRS_HOST_UNAVAIL else u.discard n)) ∧
      (∀ u k, e = .mtu → k = mtuPort p (t.knownEgress p) → u = (v.bump .EDT_MTU_EXCEEDED k).raiseMs Ev.EDT_MTU_EXCEEDED .port k →
        exec (.edit n) s = .next (if u.on Fld.EDT_MTU_MTU_ACT p.pipe (t.mtuProf p) = true then u.toHost n 15 0 .PRS_HOST_UNAVAIL else u.discard n)) ∧
      (∀ (x : Ed) (port cut : Option Nat) (f : List Byte) (w : State), e = .done x port cut → f = (match cut with | some k => x.b.take k | none => x.b) →
        w = (v.usedIdent p).setPkt n { p with frame := f, cut := cut, dest := (match port with | some k => .port k | none => p.dest) } →
        (p.toBackwash = true → exec (.edit n) s = .next (w.backwash n)) ∧
        (p.toBackwash = false → exec (.edit n) s = .next (((w.leaveSlot n).setPkt n { (w.leaveSlot n).pkt n with stage := .cells }).mirrorCopy n 1
          (parseWindow (s.parseCfg p.pipe p.port) (f.take 256) (if p.lenKnown = true then some (f.length + 4) else none) p.port p.pass) x.grew))))) ∧
  (∀ (port n : Nat) (rest : List Nat) (c : CapUse) (b : Bool) (s u : State), Sparse.get s.edt.capBuf port [] = n :: rest → (s.pkt n).cap = some c → (s.pkt n).status = some b →
    ((s.ringFill c.ring < s.ringCap c.ring ∨ s.on Fld.EDT_CAP_RING_CTRL_MODE 0 c.ring = true) → s.charge 0 actCapture (64 + s.capBytes c.ring) (2 ^ 44 + n) = (u, true) →
      ∃ t, exec (.captureRecordWrite port) s = .next t ∧ Sparse.get t.edt.capBuf port [] = rest ∧
        Sparse.find t.edt.ring (c.ring * 2 ^ 32 + s.rd Fld.EDT_CAP_WR_WR 0 c.ring % s.ringCap c.ring) =
          some (s.capDesc (s.pkt n) c ((s.pkt n).frame.take (s.capBytes c.ring)).length (Sparse.get s.edt.lost c.ring 0), (s.pkt n).frame.take (s.capBytes c.ring)) ∧
        Sparse.find t.edt.lost c.ring = none) ∧
    (s.ringCap c.ring ≤ s.ringFill c.ring → s.on Fld.EDT_CAP_RING_CTRL_MODE 0 c.ring = false →
      ∃ t, exec (.captureRecordWrite port) s = .next t ∧ Sparse.get t.edt.capBuf port [] = rest ∧ t.edt.ring = s.edt.ring ∧
        Sparse.get t.edt.lost c.ring 0 = min 65535 (Sparse.get s.edt.lost c.ring 0 + 1))) ∧
  (∀ (who : Agent) (r : Nat) (v : Word) (s : State), s.Canon →
    ((s.rd Fld.EDT_CAP_WR_WR 0 r + 2 ^ 32 - v.toNat) % 2 ^ 32 ≤ s.ringCap r → s.verdict who Reg.EDT_CAP_RD 0 r 0 v false = .accepted →
      ∃ t, exec (.capRdWrite who r v) s = .next t ∧ t.rd Fld.EDT_CAP_RD_RD 0 r = v.toNat ∧ OnlyRegs s t [Reg.EDT_CAP_RD.key 0 r 0]) ∧
    (s.ringCap r < (s.rd Fld.EDT_CAP_WR_WR 0 r + 2 ^ 32 - v.toNat) % 2 ^ 32 → s.verdict who Reg.EDT_CAP_RD 0 r 0 v true = .rejected →
      exec (.capRdWrite who r v) s = .next s.rejectWrite)) ∧
  (∀ (who : Agent) (r : Nat) (v : Word) (s : State), s.Canon → Fld.EDT_CAP_RING_CTRL_EN.onIn v = false →
    s.verdict who Reg.EDT_CAP_RING_CTRL 0 r 0 v false = .accepted →
    ∃ t, exec (.capRingDisable who r v) s = .next t ∧ t.on Fld.EDT_CAP_RING_CTRL_EN 0 r = false ∧ OnlyRegs s t [Reg.EDT_CAP_RING_CTRL.key 0 r 0]) ∧
  (∀ (tag i p : Nat) (w : BitVec 128) (bad : Bool) (rest : List Nat) (h : Change) (s u : State),
    bad = decide (s.nhCap ≤ i ∨ 2 ^ 107 ≤ w.toNat ∨ NextHop.TYPE.get w = 3 ∨ (95 < NextHop.PORT.get w ∧ NextHop.PORT.get w ≠ 100)
      ∨ (NextHop.ENCAP_EN.on w = true ∧ Tpl.KIND.get (Sparse.get (s.exm 0).tpls (NextHop.TEMPLATE.get w) 0) = 0)
      ∨ (NextHop.TYPE.get w = 2 ∧ s.lbCap ≤ NextHop.LB_GROUP.get w)) →
    (s.mbxRuns tag opNhWrite = true → s.changeOf tag (.nhWrite tag i w) allPipes = some h → h.undo = [] → bad = true → exec (.nhWrite tag i w) s = .next (s.reply tag .badRule 0 0 0 true)) ∧
    (s.AtPipe tag opNhWrite (.nhWrite tag i w) allPipes (!bad) h p rest → s.admitAt tag h p actHost 1 [(shRes, i)] = (u, true) →
      exec (.nhWrite tag i w) s = .next (((u.setExm p { u.exm p with nhs := Sparse.put (u.exm p).nhs i w 0, faultyRes := Sparse.erase (u.exm p).faultyRes i }).touch p shRes i).wroteAt tag h p rest none))) ∧
  (∀ (tag i p : Nat) (w : BitVec 1024) (bad : Bool) (rest : List Nat) (h : Change) (s u : State),
    bad = decide (s.tplCap ≤ i ∨ 2 ^ 922 ≤ w.toNat ∨ Tpl.LEN.get w < 14 ∨ 112 < Tpl.LEN.get w ∨ (Tpl.KIND.get w = 5 ∧ (Tpl.L3_OFF.get w ≠ 0 ∨ Tpl.L4_OFF.get w ≠ 0))) →
    (s.mbxRuns tag opTplWrite = true → s.changeOf tag (.tplWrite tag i w) allPipes = some h → h.undo = [] → bad = true → exec (.tplWrite tag i w) s = .next (s.reply tag .badRule 0 0 0 true)) ∧
    (s.AtPipe tag opTplWrite (.tplWrite tag i w) allPipes (!bad) h p rest → s.admitAt tag h p actHost 1 [(shRes, 65536 + i)] = (u, true) →
      exec (.tplWrite tag i w) s = .next (((u.setExm p { u.exm p with tpls := Sparse.put (u.exm p).tpls i w 0, faultyRes := Sparse.erase (u.exm p).faultyRes (65536 + i) }).touch p shRes (65536 + i)).wroteAt tag h p rest none))) ∧
  (∀ (tag i p : Nat) (l : List (BitVec 32)) (rest : List Nat) (h : Change) (s u : State),
    (s.mbxRuns tag opEditWrite = true → s.changeOf tag (.editWrite tag i l) allPipes = some h → h.undo = [] → (256 ≤ i ∨ 8 < l.length ∨ l.any opBad = true) →
      exec (.editWrite tag i l) s = .next (s.reply tag .badRule 0 0 0 true)) ∧
    (s.AtPipe tag opEditWrite (.editWrite tag i l) allPipes (decide (i < 256 ∧ l.length ≤ 8) && !l.any opBad) h p rest → s.admitAt tag h p actHost 1 [(shRes, 196608 + i)] = (u, true) →
      exec (.editWrite tag i l) s = .next (((u.setExm p { u.exm p with edits := Sparse.put (u.exm p).edits i l [], faultyRes := Sparse.erase (u.exm p).faultyRes (196608 + i) }).touch p shRes (196608 + i)).wroteAt tag h p rest none))) ∧
  ∀ (pipe kind i k : Nat) (u s : State), k = shKey shRes (kind * 65536 + i) → s.resFaulty pipe kind i = true → Sparse.find (s.lrn pipe).repairs k = none →
    s.blockFaulty pipe shRes (kind * 65536 + i) = true → Sparse.get (s.lrn pipe).lost k false = false → s.chargeAll [(0, actKeeper, 136), (pipe + 1, actScrub, 1)] repairTag = (u, true) →
    exec (.edtTableRestore pipe kind i) s = .next ((u.setLrn pipe { u.lrn pipe with repairs := Sparse.erase (u.lrn pipe).repairs k }).repairBlock pipe shRes (kind * 65536 + i) false .sramWrong)

/-- For ALLOC (alloc), SHARE (share), HANDOFF (handoff), RELEASE (release), FREE (free), RELEASE_FREE (releaseFree), BUF_READ (bufRead) and BUFFER_RECLAIM_SWEEP (bufferReclaimSweep). Each reads the state entries it acts on, which corrects or quarantines a damaged one. (1) With no error injected, the first pool of the requester with a free buffer decides: within quota the buffer becomes HELD by it with REFCNT 1 and USED rises by its size; above quota the request is refused, counted and raised, and no other pool is tried; with every pool empty it is refused as BPM_POOL_EMPTY. On a chain whose every buffer accepts the operation: (2) a SHARE sets REFCNT and adds the mask and REPLICATOR to HOLDERS; (3) a HANDOFF moves OWNER, HOLDERS and the charge, and above the target's quota changes nothing; (4) a RELEASE takes one off REFCNT, the last one leaving the buffer DRAINED for its requester, and a RELEASE_FREE frees it as well; (5) a FREE by that requester makes each buffer FREE, which (6) credits its owner and its pool. (7) BUF_READ answers the entry. (8) A sweep of a quiet requester frees every buffer it holds, drops the packets that lose one, counts, raises EVT 16.7 and runs for 47,616 clocks. -/
def Obligations.BufferOperationsComplete : Prop :=
  (∀ (slice r pick : Nat) (s u : State), requesterPools r ≠ [] →
    (s.dgn.planted = [] → s.findFree slice r pick (s.dgn.planted.length + 1) =
      (s, (requesterPools r).findSome? (fun k => (s.freeBuffer slice k pick).map (fun id => (k, id))))) ∧
    (∀ k id : Nat, s.findFree slice r pick (s.dgn.planted.length + 1) = (u, some (k, id)) →
      (u.quotaAllows slice r (poolCells k) = true → exec (.alloc slice r pick) s = .next ((((u.setBuf slice id (setFields 0 [(BufState.STATE, 1),
        (BufState.OWNER, r), (BufState.HOLDERS, 2 ^ r), (BufState.REFCNT, 1)])).addUsed slice r (poolCells k)).wr Fld.BPM_POOL_STATUS_FREE
          (u.poolFree slice k - 1) slice k).wr Fld.BPM_CTRL_QUIET 0 slice)) ∧
      (u.quotaAllows slice r (poolCells k) = false →
        exec (.alloc slice r pick) s = .next ((u.bump .BPM_QUOTA_REFUSED (slice * 8 + r)).raiseMs Ev.BPM_QUOTA_REFUSED .pipeline slice))) ∧
    (s.findFree slice r pick (s.dgn.planted.length + 1) = (u, none) →
      exec (.alloc slice r pick) s = .next ((u.bump .BPM_POOL_EMPTY (slice * 8 + r)).raiseMs Ev.BPM_POOL_EMPTY .pipeline slice))) ∧
  (∀ (slice n mask : Nat) (ids : List Nat) (s u : State), u = s.readBufs slice ids →
    (∀ id ∈ ids, BufState.STATE.get (u.buf slice id) = 1 ∧ BufState.REFCNT.get (u.buf slice id) = 1) →
    exec (.share slice 1 n mask ids) s = .next (ids.foldl (fun t id => t.setBuf slice id (setFields (t.buf slice id) [(BufState.REFCNT, n),
      (BufState.HOLDERS, Nat.lor (Nat.lor (BufState.HOLDERS.get (t.buf slice id)) mask) 2)])) u)) ∧
  (∀ (slice r to_ n : Nat) (ids : List Nat) (s u : State), u = s.readBufs slice ids → n = ids.foldl (fun a id => a + u.bufCells slice id) 0 →
    (∀ id ∈ ids, BufState.OWNER.get (u.buf slice id) = r ∧ BufState.STATE.get (u.buf slice id) = 1 ∧ BufState.REFCNT.get (u.buf slice id) = 1) →
    (u.quotaAllows slice to_ n = true → exec (.handoff slice r to_ ids) s = .next (((ids.foldl (fun t id =>
      t.setBuf slice id (setFields (t.buf slice id) [(BufState.OWNER, to_), (BufState.HOLDERS, 2 ^ to_)])) u).subUsed slice r n).addUsed slice to_ n)) ∧
    (u.quotaAllows slice to_ n = false → exec (.handoff slice r to_ ids) s = .next u)) ∧
  (∀ (slice r : Nat) (ids : List Nat) (s u : State), u = s.readBufs slice ids →
    (∀ id ∈ ids, BufState.STATE.get (u.buf slice id) = 1 ∧ BufState.HOLDERS.get (u.buf slice id) / 2 ^ r % 2 = 1) →
    exec (.release slice r ids) s = .next (ids.foldl (fun t id => t.setBuf slice id
      (if BufState.REFCNT.get (t.buf slice id) - 1 = 0 then setFields (t.buf slice id) [(BufState.REFCNT, 0), (BufState.STATE, 2), (BufState.LAST_OWNER, r)]
       else BufState.REFCNT.set (t.buf slice id) (BufState.REFCNT.get (t.buf slice id) - 1))) u) ∧
    exec (.releaseFree slice r ids) s = .next (ids.foldl (fun t id => if BufState.STATE.get ((t.release1 slice r id).buf slice id) = 2
      then (t.release1 slice r id).free1 slice id else t.release1 slice r id) u)) ∧
  (∀ (slice r : Nat) (ids : List Nat) (s u : State), u = s.readBufs slice ids →
    (∀ id ∈ ids, BufState.STATE.get (u.buf slice id) = 2 ∧ BufState.LAST_OWNER.get (u.buf slice id) = r) →
    exec (.free slice r ids) s = .next (ids.foldl (fun t id => t.free1 slice id) u)) ∧
  (∀ (slice id k : Nat) (s : State), s.poolOf slice id = some k →
    s.free1 slice id = (((s.subUsed slice (BufState.OWNER.get (s.buf slice id)) (poolCells k)).wr Fld.BPM_POOL_STATUS_FREE
      (s.poolFree slice k + 1) slice k).setBuf slice id (setFields (s.buf slice id) [(BufState.STATE, 0), (BufState.HOLDERS, 0)])).bpmQuiet slice) ∧
  (∀ (tag slice id : Nat) (s u : State), s.mbxRuns tag opBufRead = true → u = s.readBuf slice id →
    exec (.bufRead tag slice id) s = .next (u.reply tag .ok 0 0 (u.buf slice id).toNat true)) ∧
  ∀ (slice r : Nat) (s u : State), s.requesterQuiet slice r = true →
    u = (s.sweepHits slice r).foldl (fun t e => t.sweepDrop slice e)
      ((s.sweepIds slice r).foldl (fun t id => t.free1 slice id) (if r = reqSpill then s.foundChunks else s)) →
    exec (.bufferReclaimSweep slice r) s = .next { (u.bump .BPM_RECLAIMED (slice * 8 + r) (s.sweepIds slice r).length).raise Ev.BPM_RECLAIM .pipeline slice with
      tm := { u.tm with sweepUntil := Sparse.insert u.tm.sweepUntil slice (s.now + 47616) } }

/-- For SHARE (share), HANDOFF (handoff), RELEASE (release), FREE (free) and RELEASE_FREE (releaseFree) of one buffer of a slice, its entry read. A FREE of a FREE buffer and a RELEASE or RELEASE_FREE of a FREE or DRAINED one is a double free and raises EVT 16.0. Every other operation that Table 13.4 does not allow (by the requester, the state or REFCNT) is a foreign free and raises EVT 16.1. In each case the state entries, quotas and packets stay as they were, BPM_REJECTS of the requester counts one, and the event is raised at pipeline level with the buffer ID, the requester and the operation as its detail. BPM_REJECT_INFO takes the rejection when VALID is 0, and keeps the one it holds when VALID is 1. -/
def Obligations.RejectedBufferOperationsChangeNothing : Prop :=
  (∀ (slice r id n mask to_ st : Nat) (e : BitVec 32) (s u : State), u = s.readBuf slice id → e = u.buf slice id → st = BufState.STATE.get e →
    (st = 0 → exec (.free slice r [id]) s = .next (u.bufReject slice r .free id false .double)) ∧
    (st ≠ 0 → (st ≠ 2 ∨ BufState.LAST_OWNER.get e ≠ r) → exec (.free slice r [id]) s = .next (u.bufReject slice r .free id false .foreign)) ∧
    (st = 0 ∨ st = 2 → exec (.release slice r [id]) s = .next (u.bufReject slice r .release id false .double) ∧
      exec (.releaseFree slice r [id]) s = .next (u.bufReject slice r .releaseFree id false .double)) ∧
    (st ≠ 0 → st ≠ 2 → (st ≠ 1 ∨ BufState.HOLDERS.get e / 2 ^ r % 2 = 0) → exec (.release slice r [id]) s = .next (u.bufReject slice r .release id false .foreign) ∧
      exec (.releaseFree slice r [id]) s = .next (u.bufReject slice r .releaseFree id false .foreign)) ∧
    (r ≠ reqReplicator ∨ st ≠ 1 ∨ BufState.REFCNT.get e ≠ 1 → exec (.share slice r n mask [id]) s = .next (u.bufReject slice r .share id false .foreign)) ∧
    (BufState.OWNER.get e ≠ r ∨ st ≠ 1 ∨ BufState.REFCNT.get e ≠ 1 → exec (.handoff slice r to_ [id]) s = .next (u.bufReject slice r .handoff id false .foreign))) ∧
  ∀ (slice r id : Nat) (op : BufOp) (why : Reject) (s : State), s.Canon → slice < 4 → r < 8 → id < 2 ^ 22 →
    ∃ u, s.bufReject slice r op id false why = u.raise (if why = .double then Ev.BPM_DOUBLE_FREE else Ev.BPM_BAD_FREE) .pipeline slice
        (id + r * 2 ^ 23 + op.code * 2 ^ 26) ∧
      u.tm = s.tm ∧ u.pkts = s.pkts ∧ Within s u [Reg.BPM_REJECT_INFO.key slice 0 0] [Ctr.BPM_REJECTS.key (slice * 8 + r)] ∧
      u.ctr .BPM_REJECTS (slice * 8 + r) = s.ctr .BPM_REJECTS (slice * 8 + r) + 1 ∧
      (s.on Fld.BPM_REJECT_INFO_VALID slice = true → u.rdReg Reg.BPM_REJECT_INFO slice 0 0 = s.rdReg Reg.BPM_REJECT_INFO slice 0 0) ∧
      (s.on Fld.BPM_REJECT_INFO_VALID slice = false → u.rd Fld.BPM_REJECT_INFO_ID slice = id ∧ u.rd Fld.BPM_REJECT_INFO_CHUNK slice = 0 ∧
        u.rd Fld.BPM_REJECT_INFO_REQ slice = r ∧ u.rd Fld.BPM_REJECT_INFO_OP slice = op.code ∧ u.rd Fld.BPM_REJECT_INFO_VALID slice = 1)

/-- For STAGE_AGE_EXPIRY (stageAgeExpiry), CHUNK_WRITE_ISSUE (chunkWriteIssue), CHUNK_WRITE_COMPLETE (chunkWriteComplete), CHUNK_FETCH_ISSUE (chunkFetchIssue) and CHUNK_FETCH_RETURN (chunkFetchReturn). (1) A staging buffer whose age has passed, while the queue holds chunks or a fetch, starts its write; a younger one does not. (2) One that holds 64 cells starts its write; one with fewer does not. A write takes a chunk once its charge of 256 bytes a cell is admitted. (3) A completed write adds the chunk to the queue, or lets it go where its cells have all been dropped, frees the staging buffer and counts. (4) With the cove part at FETCH_MARK or below, the oldest chunk leaves the list and its fetch is in flight into a P16K buffer; with no chunk left the staging buffer is linked. (5) A fetch that returns well with no pseudo-channel retired gives its chunk back, counts, and links its cells; any other retires the chunk, drops its packets and raises EVT 16.5. -/
def Obligations.SpillStagingAndChunksComplete : Prop :=
  (∀ (slice q pick : Nat) (g : Stage) (rest : List Stage) (s : State), (s.queue slice q).stages = g :: rest →
    (g.firstAt + s.rd Fld.BPM_SPILL_CFG_STAGE_AGE_US slice * usClk ≤ s.now → ((s.queue slice q).chunks ≠ [] ∨ (s.queue slice q).fetch ≠ none) →
      exec (.stageAgeExpiry slice q pick) s = .next (s.writeStage slice q pick)) ∧
    (s.now < g.firstAt + s.rd Fld.BPM_SPILL_CFG_STAGE_AGE_US slice * usClk → exec (.stageAgeExpiry slice q pick) s = .next s) ∧
    (runCells g.runs = 64 → exec (.chunkWriteIssue slice q pick) s = .next (s.writeStage slice q pick)) ∧
    (runCells g.runs < 64 → exec (.chunkWriteIssue slice q pick) s = .next s)) ∧
  (∀ (slice q pick c : Nat) (g : Stage) (rest : List Stage) (s u v : State), (s.queue slice q).stages = g :: rest → g.chunk = none →
    s.charge 0 actSpillWr (256 * runCells g.runs) (qKey slice q) = (u, true) → u.takeChunk slice pick = (v, some c) →
    s.writeStage slice q pick = (v.setQueue slice q { s.queue slice q with stages := { g with chunk := some c } :: rest }).hbSend .spill 1 3 true
      (chunkAddr c) (256 * runCells g.runs)) ∧
  (∀ (slice q c : Nat) (g : Stage) (rest : List Stage) (s : State), (s.queue slice q).stages = g :: rest → g.chunk = some c →
    (g.runs = [] → exec (.chunkWriteComplete slice q) s = .next (((((s.setQueue slice q { s.queue slice q with stages := rest }).freeChunk slice c).releaseFree
      slice reqSpill [g.buf]).bump .BPM_CHUNKS_WRITTEN slice).tryLink slice q)) ∧
    (g.runs ≠ [] → exec (.chunkWriteComplete slice q) s = .next ((((s.setQueue slice q { s.queue slice q with stages := rest, chunks := (s.queue slice q).chunks ++ [(c, g.runs)] }).releaseFree
      slice reqSpill [g.buf]).bump .BPM_CHUNKS_WRITTEN slice).tryLink slice q))) ∧
  (∀ (slice q pick : Nat) (s : State), (s.queue slice q).spilling = true → (s.queue slice q).fetch = none → (s.queue slice q).coveCells ≤ s.fetchMark slice q →
    (s.queue slice q).chunks = [] → exec (.chunkFetchIssue slice q pick) s = .next (s.tryLink slice q)) ∧
  (∀ (slice q pick c b : Nat) (runs : Runs) (rest : List (Nat × Runs)) (s u v : State), (s.queue slice q).spilling = true → (s.queue slice q).fetch = none →
    (s.queue slice q).coveCells ≤ s.fetchMark slice q → (s.queue slice q).chunks = (c, runs) :: rest →
    s.charge 0 actSpillRd (256 * runCells runs) (qKey slice q) = (u, true) → u.alloc slice reqSpill pick = (v, some b) →
    exec (.chunkFetchIssue slice q pick) s = .next ((v.setQueue slice q { v.queue slice q with chunks := rest, fetch := some (c, runs, b) }).hbSend .spill 1 1 false
      (chunkAddr c) (256 * runCells runs))) ∧
  ∀ (slice q c b : Nat) (runs : Runs) (s u : State), (s.queue slice q).fetch = some (c, runs, b) →
    u = s.setQueue slice q { s.queue slice q with fetch := none } →
    (u.anyRetired = false → exec (.chunkFetchReturn slice q true) s = .next ((((u.freeChunk slice c).bump .BPM_CHUNKS_FETCHED slice).linkBuffer slice q b runs).tryLink slice q)) ∧
    (∀ ok, ok = false ∨ u.anyRetired = true → exec (.chunkFetchReturn slice q ok) s = .next ((((((runItems runs).foldl (fun t id => t.dropItem slice q id) ((u.retireChunk slice c).releaseFree slice reqSpill [b])).bump
      .BPM_CHUNK_LOST slice).raise Ev.BPM_CHUNK_LOST .pipeline slice)).tryLink slice q))

/-- For CELL_WRITE (cellWrite), CREDIT_WAIT (creditWait), CELL_ARRIVE (cellArrive), TOMBSTONE_POST (tombstonePost), BACKSTOP_EXPIRY (backstopExpiry) and INCOMPLETE_PACKET_EXPIRY (incompletePacketExpiry). (1) The first packet of its port, class, tag and destination whose last data has come is written; one found errored before is discarded. Writing sends it on its stream to the queue's slice while its pipeline holds a credit, leaves it unchanged with none, and discards and counts it when the pipeline's copy of the queue map has the queue disabled; a multicast packet is sent once to each slice of its group's mask in its pipeline, and discarded and counted with a mask of 0. (2) Sending gives the stream's next number modulo 65,536, takes one credit, and puts ceil((length + 16) / 256) cells on the planes, the first on plane SEQ[0] and then alternately. (3) A clock with no credit is counted. (4) The oldest cell of a plane is taken off it, once its ECC is judged; a NEXT that fails ECC starts a resync. A TOMBSTONE or a CLOSE goes to the resequencer, a first cell refused at its queue drops the packet with its tombstone and its counter, and an admitted one is taken; one that fails ECC breaks its packet. (5) The oldest tombstone owed is posted. (6) A missing number is skipped at BACKSTOP_US and not before, and (7) an incomplete packet that is not NEXT is discarded then. -/
def Obligations.CellsCrossAndAreSequenced : Prop :=
  (∀ (n : Nat) (s : State) (p : Packet), Sparse.find s.pkts n = some p → p.stage = .cells → s.behindTo n = false →
    (p.status = some true → exec (.cellWrite n) s = .next (s.discard n)) ∧
    (p.status = some false → exec (.cellWrite n) s = .next (s.writeCells n)) ∧
    (p.status = none → p.ended.isSome = true → p.copyOf = none → exec (.cellWrite n) s = .next ((s.settleEnd n).writeCells n))) ∧
  (∀ (n e slice q g : Nat) (bad : Bool) (s t : State) (p : Packet), p = s.pkt n → p.status ≠ some true →
    t = s.setPkt n { p with stage := .tm, prio := s.pfcPrio p.port p.cls } →
    (p.dest = .port e → e < 102 → s.hopBack p.port e = true → s.writeCells n = s.hopDrop n p.port) ∧
    (p.dest = .port e → e < 102 → s.hopBack p.port e = false → slice = (if e < 96 then e / 24 else p.pipe) →
      s.chooseQueue p.pipe slice (idxOfPort e) p.cls p.tag = (q, bad) →
      ((s.qmap p.pipe slice q).en = true → s.creditsUsed p.pipe slice < 4096 → s.writeCells n = if bad then
        ((t.sendCells n false slice q).bump .QUE_TAG_MISMATCH e).raiseMs Ev.QUE_TAG_MISMATCH .port e else t.sendCells n false slice q) ∧
      ((s.qmap p.pipe slice q).en = true → 4096 ≤ s.creditsUsed p.pipe slice → s.writeCells n = s) ∧
      ((s.qmap p.pipe slice q).en = false → s.writeCells n = (if bad then ((s.discard n).bump .QUE_TAG_MISMATCH e).raiseMs Ev.QUE_TAG_MISMATCH .port e
        else s.discard n).bump .QUE_DISABLED_DROP (e * 16 + p.cls))) ∧
    (p.dest = .group g → s.maskSlices p.pipe g ≠ [] →
      ((∀ k ∈ s.maskSlices p.pipe g, s.creditsUsed p.pipe k < 4096) → s.writeCells n = (s.maskSlices p.pipe g).foldl (fun u k => u.sendCells n true k g) t) ∧
      ((∃ k ∈ s.maskSlices p.pipe g, 4096 ≤ s.creditsUsed p.pipe k) → s.writeCells n = s)) ∧
    (p.dest = .group g → s.maskSlices p.pipe g = [] → s.writeCells n = (s.discard n).bump .QUE_MC_EMPTY p.pipe)) ∧
  (∀ (n slice q seq : Nat) (mc : Bool) (s t : State) (p : Packet), p = s.pkt n → p.pipe < 4 → slice < 4 → s.Canon → Sparse.wf s.tm.credits = true →
    Sparse.wf s.tm.txSeq = true → t = s.sendCells n mc slice q → seq = Sparse.get s.tm.txSeq (if mc then mcStream p.pipe slice else uniStream p.pipe slice q) 0 →
    Sparse.get t.tm.txSeq (if mc then mcStream p.pipe slice else uniStream p.pipe slice q) 0 = (seq + 1) % 65536 ∧
    t.creditsUsed p.pipe slice = s.creditsUsed p.pipe slice + 1 ∧
    (∀ x y : Nat, x < 4 → y < 4 → (x ≠ p.pipe ∨ y ≠ slice) → t.creditsUsed x y = s.creditsUsed x y) ∧
    ∃ cells : List XCell, t.tm.xbar = s.tm.xbar ++ cells ∧ cells.length = (p.frame.length + 16 + 255) / 256 ∧
      ∀ (i : Nat) (c : XCell), cells[i]? = some c → c.pkt = n ∧ c.plane = (seq + i) % 2) ∧
  (∀ (pipe slice : Nat) (s : State), exec (.creditWait pipe slice) s =
    .next (if 4096 ≤ s.creditsUsed pipe slice then s.bump .QUE_CREDIT_WAIT (pipe * 4 + slice) else s)) ∧
  (∀ (plane src dst pick q seq stream : Nat) (ok good nextOk : Bool) (c : XCell) (b : Asm) (s u v t : State) (r : Host.Outcome State Fault Refusal),
    s.perturbs 1 plane = false → s.cellOk plane src dst ok = (u, good) → u.oldestCell plane src dst = some c →
    v = { u with tm := { u.tm with xbar := u.tm.xbar.erase c } } → q = CellHdr.QUEUE.get c.hdr → seq = CellHdr.SEQ.get c.hdr →
    stream = (if CellHdr.MCAST.on c.hdr then mcStream src dst else uniStream src dst q) →
    t = (if nextOk then v else (({ v with tm := { v.tm with resync := Sparse.insert v.tm.resync stream true } } : State).bump .QUE_RESYNC dst).raise
      Ev.QUE_STATE_ECC .pipeline dst) → r = exec (.cellArrive plane src dst ok nextOk pick) s →
    b = { slice := dst, stream := stream, seq := seq, pkt := c.pkt, queue := q, mcast := CellHdr.MCAST.on c.hdr, cells := CellHdr.CELLS.get c.hdr, arrived := [], chain := [], firstAt := t.now, dropped := false, broken := false, endErr := false, cls := CellHdr.CLASS.get c.hdr } →
    (good = true → CellHdr.KIND.get c.hdr = 1 → r = .next (t.sequence (b.toItem .tombstone src t.now) pick)) ∧
    (good = true → CellHdr.KIND.get c.hdr = 2 → r = .next (t.sequence (b.toItem .close src t.now) pick)) ∧
    (CellHdr.KIND.get c.hdr = 0 → t.tm.asms.find? (fun a => a.stream == stream && a.seq == seq) = none →
      (good = false → r = .next (t.raise Ev.QUE_XBAR_CELL_ERR .pipeline dst)) ∧
      (good = true → ((seq + 65536 - Sparse.get t.tm.rxNext stream 0) % 65536 < 4096 ∨ Sparse.get t.tm.resync stream false = true) →
        (∀ (ctr : Ctr) (k : Nat), CellHdr.MCAST.on c.hdr = false → t.refusal dst q b.cls = some (ctr, k) →
          r = .next ((t.dropAsm { b with arrived := [CellHdr.CELL_IDX.get c.hdr] }).bump ctr k)) ∧
        ((CellHdr.MCAST.on c.hdr = true ∨ t.refusal dst q b.cls = none) → r = .next (t.takeCell b c.hdr pick)))) ∧
    (CellHdr.KIND.get c.hdr = 0 → ∀ a : Asm, t.tm.asms.find? (fun a => a.stream == stream && a.seq == seq) = some a →
      (good = true → r = .next (t.takeCell a c.hdr pick)) ∧
      (good = false → r = .next ((t.raise Ev.QUE_XBAR_CELL_ERR .pipeline dst).putAsm { a with broken := true })))) ∧
  (∀ (slice pick : Nat) (m : Tomb) (s : State), s.tm.tombs.find? (fun m => m.slice == slice) = some m →
    exec (.tombstonePost slice pick) s = .next (({ s with tm := { s.tm with tombs := s.tm.tombs.erase m } } : State).sequence
      { slice := slice, stream := m.stream, src := m.src, seq := m.seq, kind := .tombstone, pkt := 0, queue := m.queue, mcast := m.mcast, cells := 0, chain := [], since := s.now, cls := 0 } pick)) ∧
  (∀ (slice stream pick lim : Nat) (s : State), lim = s.rd Fld.QUE_CFG_BACKSTOP_US slice * usClk →
    ((∃ h ∈ s.tm.held, h.slice = slice ∧ h.stream = stream ∧ h.since + lim ≤ s.now) ∨
      (∃ a ∈ s.tm.asms, a.slice = slice ∧ a.stream = stream ∧ a.seq = Sparse.get s.tm.rxNext stream 0 ∧ a.firstAt + lim ≤ s.now) →
      exec (.backstopExpiry slice stream pick) s = .next (s.skipNext slice stream pick)) ∧
    ((∀ h ∈ s.tm.held, h.slice = slice → h.stream = stream → s.now < h.since + lim) →
      (∀ a ∈ s.tm.asms, a.slice = slice → a.stream = stream → s.now < a.firstAt + lim) → exec (.backstopExpiry slice stream pick) s = .next s)) ∧
  ∀ (slice stream seq src : Nat) (a : Asm) (s t : State), s.tm.asms.find? (fun a => a.slice == slice && a.stream == stream && a.seq == seq) = some a →
    seq ≠ Sparse.get s.tm.rxNext stream 0 → src = (if a.mcast then stream % 4 else stream / 65536 % 4) →
    t = (((s.freeChain slice reqPacket a.chain).forget a.pkt).delAsm a).creditBack src slice →
    exec (.incompletePacketExpiry slice stream seq) s = .next (if a.firstAt + s.rd Fld.QUE_CFG_BACKSTOP_US slice * usClk ≤ s.now then
      { t with tm := { t.tm with skipped := t.tm.skipped ++ [(stream, seq)] } } else s)

/-- For a complete item on a stream that is not being resynchronised, with d = (SEQ - NEXT) mod 65,536. At d = 0 NEXT is incremented, the item is promoted, and the held items that follow it are promoted one after another. From 1 to 4,095 the item is held (the second copy of a CLOSE is not), nothing is promoted, and QUE_RSQ_STATUS.HELD of the slice is the number of its held items. From 4,096 up a packet or tombstone is late: it returns its credit, gives up its buffers, and counts one in QUE_LATE_DROP. When no item of its stream is held, a tombstone keeps NEXT of every other stream. On a stream being resynchronised the number of the item becomes NEXT, so that it is never late. -/
def Obligations.ResequencerOrdersCompleteItems : Prop :=
  (∀ (h : HeldItem) (pick next d : Nat) (s : State), Sparse.get s.tm.resync h.stream false = false → next = Sparse.get s.tm.rxNext h.stream 0 →
    d = (h.seq + 65536 - next) % 65536 →
    (d = 0 → s.sequence h pick = (({ s with tm := { s.tm with rxNext := Sparse.put s.tm.rxNext h.stream ((next + 1) % 65536) 0 } } : State).promote h pick).promoteHeld
      h.stream pick (s.tm.held.length + 1)) ∧
    (0 < d → d < 4096 → (h.kind ≠ .close ∨ s.tm.held.any (fun x => x.stream == h.stream && x.seq == h.seq) = false) → s.Canon → h.slice < 4 →
      s.tm.held.length < 16384 →
      ∃ t : State, s.sequence h pick = t ∧ t.tm = { s.tm with held := s.tm.held ++ [h] } ∧ OnlyRegs s t [Reg.QUE_RSQ_STATUS.key h.slice 0 0] ∧
        t.rd Fld.QUE_RSQ_STATUS_HELD h.slice = (s.tm.held.filter (fun x => x.slice == h.slice)).length + 1) ∧
    (4096 ≤ d → h.kind = .tombstone → s.Canon → h.slice < 4 → h.src < 4 → Sparse.wf s.tm.credits = true →
      ∃ t : State, s.sequence h pick = t ∧ t.tm = (s.creditBack h.src h.slice).tm ∧ t.ctr .QUE_LATE_DROP h.slice = s.ctr .QUE_LATE_DROP h.slice + 1 ∧
        t.creditsUsed h.src h.slice = s.creditsUsed h.src h.slice - 1)) ∧
  (∀ (h : HeldItem) (pick k : Nat) (s : State), h.kind = .tombstone → k ≠ h.stream → (∀ x ∈ s.tm.held, x.stream ≠ h.stream) →
    Sparse.wf s.tm.rxNext = true → Sparse.get (s.sequence h pick).tm.rxNext k 0 = Sparse.get s.tm.rxNext k 0) ∧
  ∀ (h : HeldItem) (pick : Nat) (s : State), Sparse.get s.tm.resync h.stream false = true → s.tm.held = [] → h.kind = .tombstone →
    ∃ t : State, s.sequence h pick = (t.promote h pick).promoteHeld h.stream pick 1 ∧ Sparse.get t.tm.rxNext h.stream 0 = (h.seq + 1) % 65536 ∧
      Sparse.get t.tm.resync h.stream false = false

/-- For REPLICATE (replicate), MC_GROUP_WRITE (mcGroupWrite), QUE_QCFG_WRITE (queQcfgWrite), QUEUE_DRAIN_EXPIRY (queueDrainExpiry), QUE_DISABLE (queDisable), HOLD_DEADLINE_EXPIRY (holdDeadlineExpiry), PORT_FLUSH_COMPLETE (portFlushComplete), QUEUE_MOVE (queueMove), QUEUE_MOVE_DONE (queueMoveDone) and MOVE_DRAIN_EXPIRY (moveDrainExpiry). (1) The replicator discards the first packet of its input when its list is empty, and places every copy otherwise. (2) A group write of legal lists with room writes one pipeline at each execution, P0 first, once that pipeline's tide admits it: the lists the group keeps become live before the first mask, each mask has the slices with a list, the lists it loses are emptied after the last mask, and the last write answers OK; no room answers FULL. (3) A configuration write replaces the word of the queue and sends it to the pipelines' maps; EN = 1 ends a redirect and a drain, and clearing EN starts the drain of DRAIN_MS. (4) What a drained queue still holds goes to QUE_DISABLED_DROP at the limit. (5) Clearing QUE_CTRL.EN starts the drain and is rejected while a port is enabled. (6) A port not UP at its hold deadline is flushed, and a finished flush ends OPEN when it is UP and CLOSED else. (7) A legal move sets WAIT of B; then, at each execution, the next pipeline's map takes A's redirect and that pipeline, once it holds a credit, sends a CLOSE; the write to P0 redirects A, commits the move (DONE 1) and starts DRAIN_MS. It is answered when it ends: once all four CLOSEs are promoted and A is empty, or at DRAIN_MS, when what A holds is flushed and streams without their CLOSE are resynchronised; a move of a moving queue answers BUSY. -/
def Obligations.QueuesPortsAndMovesComplete : Prop :=
  (∀ (slice pick : Nat) (h : HeldItem) (rest : List HeldItem) (s t : State), Sparse.get s.tm.repl slice [] = h :: rest →
    t = { s with tm := { s.tm with repl := Sparse.put s.tm.repl slice rest [] } } →
    (Sparse.get s.tm.lists (slice * 65536 + h.queue) [] = [] →
      exec (.replicate slice pick) s = .next (((t.freeChain slice reqPacket h.chain).forget h.pkt).bump .QUE_MC_EMPTY slice)) ∧
    (∀ (l : List (BitVec 64)) (m : Nat) (u : State), Sparse.get s.tm.lists (slice * 65536 + h.queue) [] = l → l ≠ [] →
      m = l.foldl (fun a e => Nat.lor a (if CopyEntry.PORT_IDX.get e = 24 then 2 ^ reqHostDma else if CopyEntry.PORT_IDX.get e = 25 then 2 ^ reqKeeper else 0)) 0 →
      u = l.foldl (fun v e => v.placeCopy h e pick) (t.share slice reqReplicator l.length m (h.chain.map Prod.fst)) →
      exec (.replicate slice pick) s = .next (if h.chain.all (fun b => BufState.STATE.get (u.buf slice b.1) == 0) then u.forget h.pkt else u))) ∧
  (∀ (tag group p : Nat) (l0 l1 l2 l3 : List (BitVec 64)) (legal room : Bool) (h : Change) (rest : List Nat) (s u : State),
    legal = (decide (l0.length + l1.length + l2.length + l3.length ≤ 4096) && !s.badList 0 l0 && !s.badList 1 l1 && !s.badList 2 l2 && !s.badList 3 l3) →
    room = (decide (s.copiesUsed 0 + l0.length ≤ 262144) && decide (s.copiesUsed 1 + l1.length ≤ 262144) && decide (s.copiesUsed 2 + l2.length ≤ 262144) && decide (s.copiesUsed 3 + l3.length ≤ 262144)) →
    (s.AtPipe tag opMcGroupWrite (.mcGroupWrite tag group l0 l1 l2 l3) allPipes (legal && room) h p rest → s.admitAt tag h p actHost 0 [] = (u, true) →
      exec (.mcGroupWrite tag group l0 l1 l2 l3) s = .next ((u.groupStep p group [l0, l1, l2, l3]).wroteAt tag h p rest none)) ∧
    (s.AtPipe tag opMcGroupWrite (.mcGroupWrite tag group l0 l1 l2 l3) allPipes true h p rest → h.undo = [] → legal = true → room = false →
      exec (.mcGroupWrite tag group l0 l1 l2 l3) s = .next (s.reply tag .full 0 0 0 true))) ∧
  (∀ (group p k : Nat) (ls : List (List (BitVec 64))) (s : State), k < 4 → Sparse.wf s.tm.lists = true → Sparse.wf s.tm.masks = true →
    Sparse.get (s.groupStep p group ls).tm.masks (p * 65536 + group) 0 / 2 ^ k % 2 = (!(ls.getD k []).isEmpty).toNat ∧
    (p = 0 → ls.getD k [] ≠ [] → Sparse.get (s.groupStep p group ls).tm.lists (k * 65536 + group) [] = ls.getD k []) ∧
    (p = 3 → ls.getD k [] = [] → Sparse.get (s.groupStep p group ls).tm.lists (k * 65536 + group) [] = [])) ∧
  (∀ (who : Agent) (slice q : Nat) (v old : Word) (s : State), q = s.rd Fld.QUE_QSEL_QUEUE slice → old = s.qword slice q →
    Fld.QUE_QCFG_PORT_IDX.of v = Fld.QUE_QCFG_PORT_IDX.of old → Fld.QUE_QCFG_CLASS.of v = Fld.QUE_QCFG_CLASS.of old →
    s.moving slice q = false → s.verdict who Reg.QUE_QCFG slice 0 0 v false = .accepted →
    (Fld.QUE_QCFG_EN.onIn v = true → exec (.queQcfgWrite who slice v) s = .next (((s.setQword slice q v).setQueue slice q
      { s.queue slice q with redirect := none, draining := none }).sendMap slice q)) ∧
    (Fld.QUE_QCFG_EN.onIn v = false → s.qEn slice q = true → exec (.queQcfgWrite who slice v) s = .next (((s.setQword slice q v).setQueue slice q
      { s.queue slice q with draining := some (s.now + s.rd Fld.QUE_CFG_DRAIN_MS slice * msClk) }).sendMap slice q)) ∧
    (Fld.QUE_QCFG_EN.onIn v = false → s.qEn slice q = false → exec (.queQcfgWrite who slice v) s = .next ((s.setQword slice q v).sendMap slice q))) ∧
  (∀ (slice q d : Nat) (s t : State), (s.queue slice q).draining = some d → t = s.flushQueue slice q .QUE_DISABLED_DROP →
    exec (.queueDrainExpiry slice q) s = .next (if d ≤ s.now then t.setQueue slice q { t.queue slice q with draining := none } else s)) ∧
  (∀ (who : Agent) (slice : Nat) (v : Word) (s t : State), s.on Fld.QUE_CTRL_EN slice = true → Fld.QUE_CTRL_EN.onIn v = false →
    t = s.wrReg Reg.QUE_CTRL slice 0 0 (Reg.QUE_CTRL.stored (s.rdReg Reg.QUE_CTRL slice 0 0 (s.writeSlot Reg.QUE_CTRL slice)) v) (s.writeSlot Reg.QUE_CTRL slice) →
    (s.portsEnabled slice = true → s.verdict who Reg.QUE_CTRL slice 0 0 v true = .rejected →
      exec (.queDisable who slice v) s = .next (s.rejectWrite)) ∧
    (s.portsEnabled slice = false → s.verdict who Reg.QUE_CTRL slice 0 0 v false = .accepted →
      exec (.queDisable who slice v) s = .next (t.startDrain 24 slice (t.rd Fld.QUE_CFG_DRAIN_MS slice * msClk)))) ∧
  (∀ (port d : Nat) (s : State), Sparse.find s.tm.holdUntil port = some d → s.rd Fld.QUE_PORT_STATUS_STATE (port / 24) (port % 24) = 1 → s.portUp port = false →
    exec (.holdDeadlineExpiry port) s = .next (if d ≤ s.now then
      ({ s with tm := { s.tm with holdUntil := Sparse.erase s.tm.holdUntil port } } : State).flushPort port else s)) ∧
  (∀ (port : Nat) (s : State), s.rd Fld.QUE_PORT_STATUS_STATE (port / 24) (port % 24) = 2 →
    exec (.portFlushComplete port) s = .next (s.wr Fld.QUE_PORT_STATUS_STATE (if s.portUp port then 0 else 3) (port / 24) (port % 24))) ∧
  (∀ (tag slice a b : Nat) (s : State), s.mbxRuns tag opQueueMove = true → s.tm.moves.find? (fun m => m.tag == tag) = none →
    ((s.moving slice a = true ∨ s.moving slice b = true) → exec (.queueMove tag slice a b) s = .next (s.reply tag .busy 0 0 0 true)) ∧
    (s.moving slice a = false → s.moving slice b = false → s.qEn slice a = true → s.qEn slice b = true → s.qPort slice a = s.qPort slice b →
      (s.queue slice b).occupancy = 0 → (s.queue slice b).items = [] → (s.queue slice b).redirect = none →
      exec (.queueMove tag slice a b) s = .next { s.setQueue slice b { s.queue slice b with wait := true } with
        tm := { (s.setQueue slice b { s.queue slice b with wait := true }).tm with moves := s.tm.moves ++ [⟨slice, a, b, [0, 1, 2, 3], [], 0, tag⟩] } })) ∧
  (∀ (tag p : Nat) (rest : List Nat) (m : Move) (s u v w : State), s.mbxRuns tag opQueueMove = true → s.tm.moves.find? (fun m => m.tag == tag) = some m → m.left = p :: rest →
    (4096 ≤ s.creditsUsed p m.slice → exec (.queueMove tag m.slice m.a m.b) s = .next s) ∧
    (s.creditsUsed p m.slice < 4096 →
      u = (if p = 0 then (s.setQueue m.slice m.a { s.queue m.slice m.a with redirect := some m.b }).setDone tag 1 else s) →
      v = u.setQmap p m.slice m.a { u.qmap p m.slice m.a with redirect := some m.b } → w = v.sendClose p m.slice m.a →
      exec (.queueMove tag m.slice m.a m.b) s = .next { w with tm := { w.tm with moves := w.tm.moves.map (fun x => if x = m then
        { m with left := rest, deadline := if p = 0 then s.now + s.rd Fld.QUE_CFG_DRAIN_MS m.slice * msClk else m.deadline } else x) } })) ∧
  ∀ (slice a : Nat) (m : Move) (s t u : State), s.tm.moves.find? (fun m => m.slice == slice && m.a == a) = some m →
    (m.left = [] → m.closed.length = 4 → (s.queue slice a).items = [] → (s.queue slice a).chunks = [] → (s.queue slice a).fetch = none →
      exec (.queueMoveDone slice a) s = .next (s.finishMove m)) ∧
    ((m.left ≠ [] ∨ m.closed.length < 4) → exec (.queueMoveDone slice a) s = .next s) ∧
    (s.now < m.deadline → exec (.moveDrainExpiry slice a) s = .next s) ∧
    (m.left.head? ≠ some 0 → m.deadline ≤ s.now →
      t = (if (s.queue slice a).items = [] then s.flushQueue slice a .QUE_MOVE_FLUSH else (s.flushQueue slice a .QUE_MOVE_FLUSH).raise Ev.QUE_MOVE_FLUSH .port (portOfIdx slice (s.qPort slice a))) →
      u = { t with tm := { t.tm with resync := (allPipes.filter (fun p => !m.closed.contains p)).foldl (fun r p => Sparse.insert r (uniStream p slice a) true) t.tm.resync } } →
      exec (.moveDrainExpiry slice a) s = .next (u.finishMove m))

/-- For SCHEDULE_DECISION (scheduleDecision), SHAPER_REFILL (shaperRefill), STARVE_EXPIRY (starveExpiry), POLICER_DECISION (policerDecision), SCH_ELEMENT_WRITE (schElementWrite), SCH_ELEMENT_READ (schElementRead), POLICER_WRITE (policerWrite), POLICER_READ (policerRead), SCH_STATE_ECC_FIX (schStateEccFix) and EXPRESS_LOOKUP (expressLookup). (1) A decision of an enabled scheduler reads the elements on the paths of the port's backlogged queues, which corrects or repairs damaged ones, and is the port's next frame; a disabled one makes none. (2) In full mode a slice refills every shaped element 2,048 clocks after its last refill, and not before; a refill adds the gain of 2,048 clocks up to BURST, or fills an element whose SHAPE_EN was set. (3) A queue that starves is marked, counted and raised once; the time its port's class was held does not count. (4) For the oldest packet at the policers of a pipeline, the policer takes its tokens, and the action of the colour (0 green, 1 yellow, 2 red) writes the DSCP, replaces the class or discards; a packet that names no policer goes to the editor. (5) A window write that passes its checks applies the staged words, a failed one is rejected and applies nothing, and a read loads the window; without FILL the buckets are clamped to the new sizes. (6) A corrected error is counted; element state with an uncorrectable error takes S := V of its parent (a port has none and keeps S) and C := 0, and a policer's buckets are set full; each raises its event. (7) An express packet takes the port of the lowest-numbered entry that matches; with none, or where that entry is faulty, it is counted as a miss and goes on as a normal packet or is discarded, as MISS_ACT says. -/
def Obligations.SchedulerAndPolicersComplete : Prop :=
  (∀ (slice j : Nat) (s : State),
    (s.on Fld.SCH_CTRL_EN slice = true → ∀ t : State, t = s.readElems slice ((s.portBacklog slice j).flatMap (fun q => s.queuePath slice q)).eraseDups →
      exec (.scheduleDecision slice j) s = .next (if j < 24 then t.portDecision slice j else t.specialDecision slice j)) ∧
    (s.on Fld.SCH_CTRL_EN slice = false → exec (.scheduleDecision slice j) s = .next s)) ∧
  (∀ (slice : Nat) (s : State), s.rd Fld.SCH_CFG_MODE = 1 →
    (s.now < Sparse.get s.sch.refill slice 0 + 2048 → exec (.shaperRefill slice) s = .next s) ∧
    (Sparse.get s.sch.refill slice 0 + 2048 ≤ s.now → exec (.shaperRefill slice) s = .next ((s.sch.elems.filter (fun e => decide (e.1 / 65536 / 5 = slice) && e.2.effShaped)).foldl
      (fun t e => t.setElem slice (e.1 / 65536 % 5) (e.1 % 65536) (e.2.refill s.now)) { s with sch := { s.sch with refill := Sparse.insert s.sch.refill slice s.now } }))) ∧
  (∀ (e : Elem) (now : Nat), e.refill now = if e.fillDue then { e with credit := e.burst * 256, fillDue := false, refillAt := now }
    else { e with credit := min (e.burst * 256) (e.credit + shaperGain e.rate 2048), refillAt := now }) ∧
  (∀ (slice q ms port : Nat) (s : State), ms = s.rd Fld.SCH_CFG_STARVE_MS → port = portOfIdx slice (s.qPort slice q) → ms ≠ 0 → s.qBacklogged slice q = true →
    (s.queue slice q).starved = false → s.qPortState slice (s.qPort slice q) = 0 → (port < 96 → s.classHeld port (s.qClass slice q) = false) →
    exec (.starveExpiry slice q) s = .next (if (if port < 96 then max (s.queue slice q).lastSent (s.heldUntil port (s.qClass slice q)) else (s.queue slice q).lastSent) + ms * msClk ≤ s.now then
      ((s.setQueue slice q { s.queue slice q with starved := true }).bump .SCH_STARVED (qKey slice q)).raise Ev.SCH_STARVE .port port else s)) ∧
  (∀ (n : Nat) (p : Packet) (s : State), Sparse.find s.pkts n = some p → p.stage = .policer →
    s.pkts.any (fun e => e.2.stage == .policer && e.2.pipe == p.pipe && decide (e.2.polAt < p.polAt)) = false →
    (p.policer = none → exec (.policerDecision n) s = .next (s.setPkt n { p with stage := .edit })) ∧
    (∀ (i col act val : Nat) (x y : Policer) (q : Packet) (t : State), p.policer = some i → x = (s.pol p.pipe i).refill s.now → x.decide (s.meteredLen p) = (col, y) →
      act = ([Fld.SCH_POL_CFG_GREEN_ACT, Fld.SCH_POL_CFG_YELLOW_ACT, Fld.SCH_POL_CFG_RED_ACT].getD col Fld.SCH_POL_CFG_RED_ACT).of x.cfg →
      val = ([Fld.SCH_POL_CFG_GREEN_VAL, Fld.SCH_POL_CFG_YELLOW_VAL, Fld.SCH_POL_CFG_RED_VAL].getD col Fld.SCH_POL_CFG_RED_VAL).of x.cfg →
      q = { p with stage := .edit, colour := some (col, s.meteredLen p) } → t = s.setPol p.pipe i y →
      ((x.mode = 0 ∨ act = 0) → exec (.policerDecision n) s = .next (t.setPkt n q)) ∧
      (x.mode ≠ 0 → act = 1 → exec (.policerDecision n) s = .next (t.setPkt n { q with polDscp := some val })) ∧
      (x.mode ≠ 0 → act = 2 → exec (.policerDecision n) s = .next (t.setPkt n { q with cls := val })) ∧
      (x.mode ≠ 0 → act = 3 → exec (.policerDecision n) s = .next (((t.setPkt n q).setPkt n { q with polDrop := true }).discard n)))) ∧
  (∀ (who : Agent) (slice : Nat) (v : Word) (s t : State),
    t = s.wrReg Reg.SCH_ECMD slice 0 0 (Reg.SCH_ECMD.stored (s.rdReg Reg.SCH_ECMD slice 0 0) v) →
    (s.elemWriteBad slice = false → s.verdict who Reg.SCH_ECMD slice 0 0 v false = .accepted →
      exec (.schElementWrite who slice v) s = .next (t.elemApply slice)) ∧
    (s.elemWriteBad slice = true → s.verdict who Reg.SCH_ECMD slice 0 0 v true = .rejected →
      exec (.schElementWrite who slice v) s = .next s.rejectWrite) ∧
    (s.verdict who Reg.SCH_ECMD slice 0 0 v false = .accepted → exec (.schElementRead who slice v) s = .next ((t.readElems slice [t.selected slice]).elemLoad slice))) ∧
  (∀ (who : Agent) (p : Nat) (v : Word) (s t : State) (x y : Policer),
    t = s.wrReg Reg.SCH_POL_CMD p 0 0 (Reg.SCH_POL_CMD.stored (s.rdReg Reg.SCH_POL_CMD p 0 0) v) →
    x = t.pol p (t.rd Fld.SCH_POL_SEL_INDEX p) →
    (s.polWriteBad p = false → s.verdict who Reg.SCH_POL_CMD p 0 0 v false = .accepted →
      y = { x.refill t.now with cfg := t.rdReg Reg.SCH_POL_CFG p 0 0, cir := t.rd Fld.SCH_POL_CIR_CIR p, pir := t.rd Fld.SCH_POL_PIR_PIR p, cbs := t.rd Fld.SCH_POL_CBS_CBS p, ebs := t.rd Fld.SCH_POL_EBS_EBS p, c := if t.on Fld.SCH_POL_CFG_FILL p then t.rd Fld.SCH_POL_CBS_CBS p * 1024 else min (t.rd Fld.SCH_POL_CBS_CBS p * 1024) (x.refill t.now).c, e := if t.on Fld.SCH_POL_CFG_FILL p then t.rd Fld.SCH_POL_EBS_EBS p * 1024 else min (t.rd Fld.SCH_POL_EBS_EBS p * 1024) (x.refill t.now).e } →
      exec (.policerWrite who p v) s = .next (t.setPol p (t.rd Fld.SCH_POL_SEL_INDEX p) y)) ∧
    (s.polWriteBad p = true → s.verdict who Reg.SCH_POL_CMD p 0 0 v true = .rejected → exec (.policerWrite who p v) s = .next s.rejectWrite) ∧
    (s.Canon → p < 4 → s.verdict who Reg.SCH_POL_CMD p 0 0 v false = .accepted → x.c < 2 ^ 38 → x.e < 2 ^ 38 → x.cbs < 2 ^ 28 → ∃ u, exec (.policerRead who p v) s = .next u ∧
      u.rdReg Reg.SCH_POL_CFG p 0 0 = x.cfg ∧ u.rd Fld.SCH_POL_CBS_CBS p = x.cbs ∧ u.rd Fld.SCH_POL_TC_TC p = x.c / 1024 ∧ u.rd Fld.SCH_POL_TP_TP p = x.e / 1024 ∧
      OnlyRegs s u [Reg.SCH_POL_CMD.key p 0 0, Reg.SCH_POL_CFG.key p 0 0, Reg.SCH_POL_CIR.key p 0 0, Reg.SCH_POL_PIR.key p 0 0,
        Reg.SCH_POL_CBS.key p 0 0, Reg.SCH_POL_EBS.key p 0 0, Reg.SCH_POL_TC.key p 0 0, Reg.SCH_POL_TP.key p 0 0])) ∧
  (∀ (slice level idx : Nat) (s : State),
    (∀ pol : Bool, exec (.schStateEccFix slice pol level ⟨idx, true⟩) s = .next (s.bump .SCH_ECC_CORRECTED slice)) ∧
    exec (.schStateEccFix slice true level ⟨idx, false⟩) s = .next ((s.setPol slice idx { s.pol slice idx with c := (s.pol slice idx).cbs * 1024, e := (s.pol slice idx).ebs * 1024 }).raise
      Ev.POL_STATE_ECC .pipeline slice) ∧
    exec (.schStateEccFix slice false level ⟨idx, false⟩) s = .next ((s.setElem slice level idx { s.elem slice level idx with s := if level = 0 then (s.elem slice level idx).s else (s.elem slice (s.elem slice level idx).parentLevel (s.elem slice level idx).parent).v, credit := 0 }).raise Ev.SCH_STATE_ECC .pipeline slice)) ∧
  ∀ (n k vid : Nat) (e : BitVec 128) (p : Packet) (s t : State) (hit : Option (Nat × BitVec 128)), Sparse.find s.pkts n = some p → p.stage = .express → p.dest = .none →
    vid = (if isTpid (be16 p.orig 12) then be16 p.orig 14 % 4096 else 0) →
    hit = (s.exm p.pipe).exps.find? (fun e => expMatches e.2 p.port vid (beAt p.orig 0 6)) → t = (s.bump .EXP_MISS p.pipe).raiseMs Ev.EXP_MISS .pipeline p.pipe →
    ((s.on Fld.GTE_CTRL_EN p.pipe = false ∨ hit = none ∨ (hit = some (k, e) ∧ Sparse.get (s.exm p.pipe).faultyExp k false = true)) →
      exec (.expressLookup n) s = .next (if s.on Fld.GTE_CTRL_MISS_ACT p.pipe then t.setPkt n { p with express := false, stage := .parsed } else t.discard n)) ∧
    (s.on Fld.GTE_CTRL_EN p.pipe = true → hit = some (k, e) → Sparse.get (s.exm p.pipe).faultyExp k false = false →
      exec (.expressLookup n) s = .next (s.setPkt n { p with dest := .port (ExpEntry.OUT_PORT.get e), expVid := if ExpEntry.SET_VID.on e then some (ExpEntry.NEW_VID.get e) else none }))

/-- For a policer whose configuration is sound. In MODE 1 bucket C refills at CIR up to CBS, tokens that would pass CBS go to bucket E up to EBS, and a decision takes the first that applies: C holds the metered length and pays it (green), E holds it and pays it (yellow), or no tokens are taken (red). In MODE 2 bucket P refills at PIR up to PBS and bucket C at CIR up to CBS; fewer tokens in P than the metered length is red with none taken, then fewer in C is yellow and P pays, else both pay and the packet is green, so that a length equal to the tokens passes. A packet longer than CBS is never green after a refill, and MODE 0 colours every packet green and takes no tokens. Tokens are in 1/1,024 byte. -/
def Obligations.PolicersColourByTwoBuckets : Prop :=
  (∀ (x : Policer) (now m g : Nat), x.mode = 1 → g = policerGain x.cir (now - x.at_) →
    x.refill now = { x with c := min (x.cbs * 1024) (x.c + g), e := min (x.ebs * 1024) (x.e + (x.c + g - x.cbs * 1024)), at_ := now } ∧
    (m * 1024 ≤ x.c → x.decide m = (0, { x with c := x.c - m * 1024 })) ∧
    (x.c < m * 1024 → m * 1024 ≤ x.e → x.decide m = (1, { x with e := x.e - m * 1024 })) ∧
    (x.c < m * 1024 → x.e < m * 1024 → x.decide m = (2, x))) ∧
  (∀ (x : Policer) (now m : Nat), x.mode = 2 →
    x.refill now = { x with c := min (x.cbs * 1024) (x.c + policerGain x.cir (now - x.at_)), e := min (x.ebs * 1024) (x.e + policerGain x.pir (now - x.at_)), at_ := now } ∧
    (x.e < m * 1024 → x.decide m = (2, x)) ∧
    (m * 1024 ≤ x.e → x.c < m * 1024 → x.decide m = (1, { x with e := x.e - m * 1024 })) ∧
    (m * 1024 ≤ x.e → m * 1024 ≤ x.c → x.decide m = (0, { x with c := x.c - m * 1024, e := x.e - m * 1024 }))) ∧
  (∀ (x : Policer) (now m : Nat), (x.mode = 1 ∨ x.mode = 2) → x.cbs < m → ((x.refill now).decide m).1 ≠ 0) ∧
  ∀ (x : Policer) (m : Nat), x.mode = 0 → x.decide m = (0, x)

/-- For TOD_SNAP (todSnap), TOD_SET (todSet), LHT_CTRL_WRITE (lhtCtrlWrite), PPS_IN_EDGE (ppsInEdge), FREQ_GATE_MEASURE (freqGateMeasure), REF_QUALIFY (refQualify), REF_LOSS (refLoss), WTR_EXPIRY (wtrExpiry), TOD_MESSAGE_RECEIVE (todMessageReceive) and TOD_LABEL_LOSS (todLabelLoss). (1) SNAP captures the counter in the four time registers; SET is accepted in FREE-RUN with no time reference, steps the counter to the staged time and makes TIME_VALID 1, and is rejected otherwise. (2) A control write is stored and both selections follow; without RADIO_EN the radio DPLL is unlocked. (3) A short pulse or an edge of the other direction is ignored; an edge outside 1 s by more than 10 us or more than JUMP from the filtered offset is discarded, and one within both, or with nothing to compare it with, is accepted. (4) A gate within WIN, with what an injected perturbation adds, passes and one outside it fails the reference; a SyncE source that is off is not measured. (5) A reference that has passed for QUAL_S becomes QUALIFIED and the DPLLs select. (6) A PPS input with no edge for 1.1 s is lost; so is a FREQ_IN that was present, a SyncE source whose lane, port or quality level fails, and PTP after LOSS_S or without its slave port. (7) With REVERTIVE a DPLL moves back to the best reference of lower PRIO that has stayed QUALIFIED for WTR_S; with none it stays. (8) A message from 1 ms to 900 ms after the edge, with a good checksum and the next second, labels its edge; another is counted and raised. (9) Labels end after three seconds without one. -/
def Obligations.ReferencesLabelsAndTimeRegistersComplete : Prop :=
  (∀ (who : Agent) (v : Word) (s t : State),
    t = s.wrReg Reg.LHT_TOD_CMD 0 0 0 (Reg.LHT_TOD_CMD.stored (s.rdReg Reg.LHT_TOD_CMD 0 0 0) v) →
    (Fld.LHT_TOD_CMD_SNAP.onIn v = true → s.verdict who Reg.LHT_TOD_CMD 0 0 0 v false = .accepted → exec (.todSnap who v) s = .next t.snapTime) ∧
    (Fld.LHT_TOD_CMD_SET.onIn v = true → s.timeState = 0 → s.rd Fld.LHT_STATUS_TIME_REF = 15 → s.hasRight Reg.LHT_TOD_CMD = true →
      s.verdict who Reg.LHT_TOD_CMD 0 0 0 v false = .accepted → exec (.todSet who v) s = .next ((t.stepTime t.stagedTime).wr Fld.LHT_STATUS_TIME_VALID 1)) ∧
    (Fld.LHT_TOD_CMD_SET.onIn v = true → (s.timeState ≠ 0 ∨ s.rd Fld.LHT_STATUS_TIME_REF ≠ 15) →
      s.verdict who Reg.LHT_TOD_CMD 0 0 0 v true = .rejected → exec (.todSet who v) s = .next s.rejectWrite)) ∧
  (∀ (s : State), s.Canon → s.tod < 2 ^ 48 * todS →
    s.snapTime.rd Fld.LHT_TOD_SEC_HI_SEC * 2 ^ 32 + s.snapTime.rd Fld.LHT_TOD_SEC_LO_SEC = s.tod / todS ∧
    s.snapTime.rd Fld.LHT_TOD_NS_NS = s.tod % todS / todNs ∧ s.snapTime.tod = s.tod) ∧
  (∀ (who : Agent) (v : Word) (s t : State),
    t = s.wrReg Reg.LHT_CTRL 0 0 0 (Reg.LHT_CTRL.stored (s.rdReg Reg.LHT_CTRL 0 0 0) v) →
    s.verdict who Reg.LHT_CTRL 0 0 0 v false = .accepted →
    exec (.lhtCtrlWrite who v) s = .next (if t.on Fld.LHT_CTRL_RADIO_EN then t else t.wr Fld.LHT_STATUS_RADIO_LOCKED 0).reselect) ∧
  (∀ (r w : Nat) (ts off : Int) (rising : Bool) (s t : State), r < 2 → ts = s.ppsStamp r → off = s.edgeOffset r ts → t = s.wr Fld.LHT_REF_STATUS_PRESENT 1 0 r →
    ((w < 50 ∨ rising = s.on (if r = 0 then Fld.LHT_PPS_IN_CFG_EDGE0 else Fld.LHT_PPS_IN_CFG_EDGE1)) → exec (.ppsInEdge r rising w) s = .next s) ∧
    (50 ≤ w → rising ≠ s.on (if r = 0 then Fld.LHT_PPS_IN_CFG_EDGE0 else Fld.LHT_PPS_IN_CFG_EDGE1) → 
      (∀ l : Int, (s.ref r).lastTs = some l → 10000 * todNs < (ts - l - (todS : Int)).natAbs →
        exec (.ppsInEdge r rising w) s = .next ((t.wr Fld.LHT_REF_STATUS_FREQ_FAULT 1 0 r).refDiscard r 0)) ∧
      ((∀ l : Int, (s.ref r).lastTs = some l → (ts - l - (todS : Int)).natAbs ≤ 10000 * todNs) →
        (∀ o : Int, (s.ref r).offset = some o → s.jumpOf r < ((secOff (off - o)).natAbs : Int) → exec (.ppsInEdge r rising w) s = .next (t.refDiscard r 3)) ∧
        ((∀ o : Int, (s.ref r).offset = some o → ((secOff (off - o)).natAbs : Int) ≤ s.jumpOf r) → exec (.ppsInEdge r rising w) s = .next (s.acceptEdge r ts off))))) ∧
  (∀ (r : Nat) (ppb : Int) (s t : State), 2 ≤ r → r < 6 →
    ((4 ≤ r ∧ s.rd Fld.LHT_SYNCE_SRC_EN 0 (r - 4) ≠ 1) → exec (.freqGateMeasure r ppb) s = .next s) ∧
    ((4 ≤ r → s.rd Fld.LHT_SYNCE_SRC_EN 0 (r - 4) = 1) → t = s.setRef r { s.ref r with lastAt := some s.now } →
      exec (.freqGateMeasure r ppb) s = .next (if (ppb + s.perturbAmount 3 r).natAbs ≤ s.rd Fld.LHT_REF_FREQ_WIN 0 r * 100 then t.refGood r
        else (t.wr Fld.LHT_REF_STATUS_PRESENT 1 0 r).refFails r Fld.LHT_REF_STATUS_FREQ_FAULT))) ∧
  (∀ (r g : Nat) (s t : State), r < 7 → s.on Fld.LHT_REF_STATUS_QUALIFIED 0 r = false → (s.ref r).goodSince = some g →
    t = (s.wr Fld.LHT_REF_STATUS_QUALIFIED 1 0 r).setRef r { s.ref r with qualSince := some s.now } →
    exec (.refQualify r) s = .next (if g + secsClk (s.rd Fld.LHT_REF_CFG_QUAL_S 0 r) ≤ s.now then t.reselect.ptpServo r else s)) ∧
  (∀ (r t : Nat) (lock : Bool) (s : State), r < 7 → (s.ref r).lastAt = some t →
    (r < 2 → exec (.refLoss r lock) s = .next (if t + (11 * sClk / 10 + 1) ≤ s.now then s.refGone r else s)) ∧
    (2 ≤ r → r < 4 → exec (.refLoss r lock) s = .next (s.refGone r)) ∧
    (4 ≤ r → r < 6 → exec (.refLoss r lock) s = .next (if lock ∨ s.synceLost (r - 4) then s.refGone r else s)) ∧
    (r = 6 → exec (.refLoss r lock) s = .next (if t + (secsClk (s.rd Fld.LHT_PTP_CFG_LOSS_S) + 1) ≤ s.now ∨ s.ptpSlave = none then s.refGone r else s))) ∧
  (∀ (r sel : Nat) (synce : Bool) (ripe : List Nat) (s t : State), s.on Fld.LHT_CTRL_REVERTIVE = true → sel = s.rd (if synce then Fld.LHT_STATUS_SYNCE_REF else Fld.LHT_STATUS_TIME_REF) →
    sel ≠ 15 → ripe = (if synce then s.synceCands else s.timeCands).filter (fun r => s.since (s.ref r).qualSince (secsClk (s.rd Fld.LHT_WTR_WTR_S)) &&
      decide (s.rd Fld.LHT_REF_CFG_PRIO 0 r < s.rd Fld.LHT_REF_CFG_PRIO 0 sel)) → t = s.takeTimeRef r →
    (ripe = [] → exec (.wtrExpiry synce) s = .next s) ∧
    (s.bestRef ripe = some r → exec (.wtrExpiry synce) s = .next (if synce then ((s.wr Fld.LHT_STATUS_SYNCE_REF r).bump .LHT_SWITCHES).raise Ev.LHT_REF_SWITCH .device 0 (r + 16)
      else { t with lht := { t.lht with lockFrom := none } }))) ∧
  (∀ (sec : Nat) (ok : Bool) (s : State), s.on Fld.LHT_TOD_CFG_RX_EN = true →
    exec (.todMessageReceive sec ok) s = .next (if ok ∧ (∃ e, (s.ref (s.rd Fld.LHT_TOD_CFG_RX_PPS)).lastAt = some e ∧ e + msClk ≤ s.now ∧ s.now ≤ e + 900 * msClk) ∧ (∀ p, s.lht.todPrev = some p → sec = p + 1) then
      { s with lht := { s.lht with todPrev := some sec, todRun := s.lht.todRun + 1, labelAt := some s.now, labelSec := some sec } }
      else (s.bump .LHT_TOD_BAD).raiseSec Ev.LHT_TOD_BAD)) ∧
  ∀ (t : Nat) (s : State), s.lht.labelAt = some t → exec .todLabelLoss s = .next (if t + 3 * sClk ≤ s.now then
    ({ s with lht := { s.lht with todPrev := none, todRun := 0, labelAt := none, labelSec := none } } : State).reselect else s)

/-- For TIME_LOCK (timeLock), SYNCE_LOCK (synceLock), RADIO_LOCK (radioLock), TU_RECOMPUTE (tuRecompute), TIME_REALIGN (timeRealign), MODEL_FIT (modelFit), TEMP_SAMPLE (tempSample), TEMP_FAULT_CLEAR (tempFaultClear), OSC_LOSS (oscLoss), OSC_RECOVER (oscRecover), PPS_OUT_EDGE (ppsOutEdge), PPS_PULSE_END (ppsPulseEnd) and TOD_TRANSMIT (todTransmit). (1) An error within LOCK_NS for LOCK_S locks the time state; the SyncE and radio DPLLs lock, and the radio clock aligns to the next whole second. (2) Every millisecond TU is recomputed; past FREERUN_TU_US in HOLDOVER the state is FREE-RUN, at it HOLDOVER stays; in LOCKED at 100 ns or less, with no fault of temperature or oscillator, the time counts as learned. (3) A realignment copies TIME_VALID and TU and moves the counter by at most what is left to slew. (4) After an hour learned a fit comes into force with its uncertainties floored, and is stored. (5) A reading out of range or more than 2 degrees from the last sets TEMP_FAULT, a good one is shown unless TEMP_FAULT stands, and TEMP_FAULT clears after 10 s of good readings. (6) Losing OSC_IN sets OSC_FALLBACK, which takes MODEL_VALID and ends HOLDOVER of both states; its return gives the model back. (7) An output due emits its edge with its second and its width, and in RADIO mode the rising edges of the radio clock; (8) a pulse ends, and (9) the time message of an edge is sent at its delay. When a second or a radio cycle falls into a clock is the model's (log entries 2 and 119). -/
def Obligations.TimeStatesModelAndOutputsComplete : Prop :=
  (∀ (f : Nat) (s : State), s.timeState = 1 → s.lht.lockFrom = some f →
    exec .timeLock s = .next (if f + secsClk (s.rd Fld.LHT_TIME_CFG_LOCK_S) ≤ s.now then s.setTimeState 2 else s)) ∧
  (∀ s : State, (s.rd Fld.LHT_STATUS_SYNCE_STATE = 1 → s.rd Fld.LHT_STATUS_SYNCE_REF ≠ 15 → exec .synceLock s = .next (s.setSynceState 2)) ∧
    (s.on Fld.LHT_CTRL_RADIO_EN = true → s.rd Fld.LHT_RADIO_CFG_RADIO_HZ ≠ 0 → s.on Fld.LHT_STATUS_RADIO_LOCKED = false →
      exec .radioLock s = .next { s.wr Fld.LHT_STATUS_RADIO_LOCKED 1 with lht := { s.lht with radioFrom := (s.tod / todS + 1) * todS } })) ∧
  (∀ (s t : State), s.lht.tuAt + msClk ≤ s.now → s.timeState = 3 →
    t = ({ s with lht := { s.lht with tuAt := s.now } } : State).holdInterval (s.now - s.lht.tuAt) →
    (s.rd Fld.LHT_HOLD_CFG_FREERUN_TU_US * 1000 < t.tuNow → s.Canon → t.tuNow < 2 ^ 32 → exec .tuRecompute s = .next ((t.wr Fld.LHT_TU_TU t.tuNow).setTimeState 0)) ∧
    (t.tuNow ≤ s.rd Fld.LHT_HOLD_CFG_FREERUN_TU_US * 1000 → s.Canon → exec .tuRecompute s = .next (t.wr Fld.LHT_TU_TU t.tuNow))) ∧
  (∀ (s t u : State), s.lht.tuAt + msClk ≤ s.now → s.timeState ≠ 3 → t = { s with lht := { s.lht with tuAt := s.now } } → u = t.wr Fld.LHT_TU_TU t.tuNow → s.Canon →
    exec .tuRecompute s = .next (if s.timeState = 2 ∧ t.tuNow ≤ 100 ∧ s.on Fld.LHT_STATUS_TEMP_FAULT = false ∧ s.on Fld.LHT_STATUS_OSC_FALLBACK = false then
      { u with lht := { u.lht with learnClk := u.lht.learnClk + (s.now - s.lht.tuAt) } } else u)) ∧
  (∀ s : State, s.lht.realignAt + usClk ≤ s.now → ∃ t, exec .timeRealign s = .next t ∧ t.lht.coreValid = s.timeValid ∧ t.lht.coreTu = s.rd Fld.LHT_TU_TU ∧
    t.lht.realignAt = s.now ∧ t.regs = s.regs ∧ (s.lht.slew = 0 → t.tod = s.tod) ∧ (0 ≤ s.lht.slew → s.tod ≤ t.tod ∧ (t.tod : Int) ≤ (s.tod : Int) + s.lht.slew)) ∧
  (∀ (y0 d k tl uf ud ut : Nat) (ok : Bool) (s t : State), 3600 * sClk ≤ s.lht.learnClk → t = s.takeFit y0 d k tl uf ud ut →
    exec (.modelFit y0 d k tl uf ud ut ok) s = .next ((({ t with lht := { t.lht with learnClk := t.lht.learnClk - 3600 * sClk, modelGood := true } } : State).showModel).storeModel ok)) ∧
  (∀ (y0 d k tl uf ud ut : Nat) (s t : State), s.Canon → uf < 2 ^ 16 → ud < 2 ^ 16 → ut < 2 ^ 16 → t = s.takeFit y0 d k tl uf ud ut →
    t.rd Fld.LHT_MODEL_U0_U_F = max 100 uf ∧ t.rd Fld.LHT_MODEL_U0_U_D = max 50 ud ∧ t.rd Fld.LHT_MODEL_U1_U_T = max 10 ut ∧
    t.rd Fld.LHT_MODEL_U1_LEARN_H = min 65535 (s.rd Fld.LHT_MODEL_U1_LEARN_H + 1)) ∧
  (∀ (mv : Nat) (r : Int) (s u : State), r = signedOf 16 (s.rd Fld.LHT_TEMP_CFG_OFFSET) + ((mv * s.rd Fld.LHT_TEMP_CFG_GAIN / 100 : Nat) : Int) →
    u = { s with lht := { s.lht with reading := some r, tempAt := some s.now } } →
    ((r < -5500 ∨ 12500 < r ∨ ∃ p, s.lht.reading = some p ∧ 200 < (r - p).natAbs) → exec (.tempSample mv) s = .next ((({ u with lht := { u.lht with tempGood := none } } : State).wr Fld.LHT_STATUS_TEMP_FAULT 1).raise Ev.LHT_TEMP_FAULT)) ∧
    (-5500 ≤ r → r ≤ 12500 → (∀ p, s.lht.reading = some p → (r - p).natAbs ≤ 200) → ∀ v : State, v = { u with lht := { u.lht with tempGood := some (s.lht.tempGood.getD s.now) } } →
      exec (.tempSample mv) s = .next (if s.on Fld.LHT_STATUS_TEMP_FAULT then v else v.wr Fld.LHT_TEMP_TEMP (fieldOf 16 r)))) ∧
  (∀ (g : Nat) (r : Int) (s : State), s.on Fld.LHT_STATUS_TEMP_FAULT = true → s.lht.tempGood = some g → s.lht.reading = some r →
    exec .tempFaultClear s = .next (if g + 10 * sClk ≤ s.now then (s.wr Fld.LHT_STATUS_TEMP_FAULT 0).wr Fld.LHT_TEMP_TEMP (fieldOf 16 r) else s)) ∧
  (∀ (s t u : State), s.on Fld.LHT_STATUS_OSC_FALLBACK = false → t = ((s.wr Fld.LHT_STATUS_OSC_FALLBACK 1).raise Ev.LHT_OSC_LOST).showModel →
    u = (if t.timeState = 3 then t.setTimeState 0 else t) → exec .oscLoss s = .next (if u.rd Fld.LHT_STATUS_SYNCE_STATE = 3 then u.setSynceState 0 else u)) ∧
  (∀ s : State, s.Canon → ∃ t, exec .oscRecover s = .next t ∧ t.on Fld.LHT_STATUS_OSC_FALLBACK = false ∧ OnlyRegs s t [Reg.LHT_STATUS.key 0 0 0] ∧
    (t.on Fld.LHT_STATUS_MODEL_VALID = true ↔ s.lht.modelGood = true ∧ s.rd Fld.LHT_MODEL_CFG_LEARN_MIN_H ≤ s.rd Fld.LHT_MODEL_U1_LEARN_H)) ∧
  (∀ (n : Nat) (s : State), n < 2 →
    (s.rd Fld.LHT_PPS_OUT_CFG_MODE 0 n = 0 → ∀ sec, s.ppsSecond n = some sec → s.ppsMay n sec = true →
      exec (.ppsOutEdge n) s = .next (({ s with lht := { s.lht with ppsHigh := Sparse.insert s.lht.ppsHigh n (s.now + s.rd Fld.LHT_PPS_OUT_CFG_WIDTH_US 0 n * usClk), ppsLast := Sparse.insert s.lht.ppsLast n sec, todTx := if n = 0 ∧ s.on Fld.LHT_TOD_CFG_TX_EN then some (s.now + s.rd Fld.LHT_TOD_CFG_TX_DELAY_MS * msClk, sec) else s.lht.todTx } } : State).emit (.time n sec))) ∧
    (s.rd Fld.LHT_PPS_OUT_CFG_MODE 0 n = 0 → s.ppsSecond n = none → exec (.ppsOutEdge n) s = .next s) ∧
    (s.rd Fld.LHT_PPS_OUT_CFG_MODE 0 n = 1 → (s.radioEdge = none → exec (.ppsOutEdge n) s = .next s) ∧
      ∀ k, s.radioEdge = some k → s.rd Fld.LHT_PPS_OUT_CFG_EN 0 n = 1 → s.timeValid = true → s.timeState ≠ 0 → s.lht.ppsFrom ≤ s.tod → Sparse.find s.lht.ppsLast (n + 3) ≠ some k →
        exec (.ppsOutEdge n) s = .next (({ s with lht := { s.lht with ppsHigh := Sparse.insert s.lht.ppsHigh n (s.now + sClk / (2 * s.rd Fld.LHT_RADIO_CFG_RADIO_HZ)), ppsLast := Sparse.insert s.lht.ppsLast (n + 3) k } } : State).emit (.time (n + 3) k)))) ∧
  (∀ (n e : Nat) (s : State), Sparse.find s.lht.ppsHigh n = some e →
    exec (.ppsPulseEnd n) s = .next (if e ≤ s.now then { s with lht := { s.lht with ppsHigh := Sparse.erase s.lht.ppsHigh n } } else s)) ∧
  ∀ (at_ sec : Nat) (s : State), s.lht.todTx = some (at_, sec) →
    exec .todTransmit s = .next (if s.now < at_ then s else if s.on Fld.LHT_TOD_CFG_TX_EN = false then { s with lht := { s.lht with todTx := none } } else
      ({ s with lht := { s.lht with todTx := none } } : State).emit (.time 2 (sec + (s.rdReg Reg.LHT_UTC 0 0 0).toNat * 2 ^ 48
      + s.rd Fld.PTP_STATUS_CLOCK_CLASS * 2 ^ 80 + s.rd Fld.PTP_STATUS_CLOCK_ACCURACY * 2 ^ 88)))

/-- For PTP_MESSAGE_RECEIVE (ptpMessageReceive), ANNOUNCE_TIMEOUT (announceTimeout), PTP_MESSAGE_SEND (ptpMessageSend), TX_TS_MISSING (txTsMissing), FAULTY_EXIT (faultyExit), PTP_PHASE_SAMPLE (ptpPhaseSample), GRANT_RENEW (grantRenew), GRANT_EXPIRY (grantExpiry), QUALITY_DERIVE (qualityDerive), PTP_TASK_RESUME (ptpTaskResume), PTP_DISABLE (ptpDisable), ESMC_RECEIVE (esmcReceive), ESMC_TIMEOUT (esmcTimeout), QL_HOLDOFF_EXPIRY (qlHoldoffExpiry), ESMC_INFO_SEND (esmcInfoSend) and ESMC_EVENT_SEND (esmcEventSend). (1) A trapped PTP packet leaves the inbox; on an active port its message acts, or is counted as of another domain, or by its reason and raised. (2) A port's best foreign master is removed past its receipt timeout and not at it. (3) A MASTER sends its Announce or Sync when due, to all or under a grant, its Follow_Up and Delay_Resp; a slave its Delay_Req; and signaling. (4) A two-step Sync without a timestamp for 4 ms is counted and raised, and the third in a row makes the port FAULTY, which ends after 10 s. (5) A Sync with a delay measurement is a sample; one with a path delay outside 0 to PATH_MAX_US is refused. (6) A port that is no master asks the enabled entries in order for a grant, and again at 80 % of it (the duration asked for is free), and grants end with their duration. (7) Every 125 ms the quality is derived. (8) A resumed task owes each master port an Announce and a Sync. (9) Clearing PTP_CTRL.EN makes every port follow. (10) An ESMC frame that breaks R511 is counted, one with a better or equal level acts at once, and a worse one waits HOLDOFF; 5 s of silence give level 0. (11) Information PDUs go once per second and an event PDU when the level sent has changed. -/
def Obligations.TimingServicesComplete : Prop :=
  (∀ (n : Nat) (p : Packet) (s t : State) (m : List Byte) (addr : Nat), s.takeInbox n = some (t, p) → t.ptpBytes p = (m, addr) →
    ((t.ptpActive p.port = false ∨ t.on Fld.PTP_CTRL_EN = false) → exec (.ptpMessageReceive n) s = .next t) ∧
    (t.ptpActive p.port = true → t.on Fld.PTP_CTRL_EN = true → (t.ptpCheck p.port m = .good → exec (.ptpMessageReceive n) s = .next ((t.bump .PTP_RX_MSGS (p.port * 16 + ptpType m)).takeMessage p.port addr p.ts m)) ∧
    (t.ptpCheck p.port m = .otherDomain → exec (.ptpMessageReceive n) s = .next (t.bump .PTP_RX_OTHER_DOMAIN p.port)) ∧
    (∀ r : PtpBad, t.ptpCheck p.port m = .bad r → exec (.ptpMessageReceive n) s = .next ((t.bump .PTP_RX_BAD (p.port * 16 + r.code)).raiseSec Ev.PTP_RX_BAD .port p.port r.code)))) ∧
  (∀ (port : Nat) (f : Foreign) (s t : State), s.ptpActive port = true → s.bestEver port = some f →
    t = s.setPtpPort port { s.ptpPort port with foreign := (s.ptpPort port).foreign.filter (fun g => g.ds.sender != f.ds.sender) } →
    exec (.announceTimeout port) s = .next (if f.seen.headD 0 + s.rd Fld.PTP_PORT_CFG_ANN_TIMEOUT 0 port * s.annClk port < s.now then
      ((t.bump .PTP_ANN_TIMEOUTS port).raise Ev.PTP_ANNOUNCE_TIMEOUT .port port).runBmca else s)) ∧
  (∀ (port : Nat) (s : State), s.ptpActive port = true → s.bestEver port = none → exec (.announceTimeout port) s =
    .next (if s.ptpState port = 4 ∧ (s.ptpPort port).since + s.rd Fld.PTP_PORT_CFG_ANN_TIMEOUT 0 port * s.annClk port < s.now then s.runBmca else s)) ∧
  (∀ (port typ : Nat) (x : PtpPort) (s : State), s.on Fld.PTP_CTRL_EN = true → s.ptpActive port = true → (s.ptp.moved = false ∨ typ = 12) → x = s.ptpPort port →
    ((typ = 11 ∨ typ = 0) → s.ptpState port = 6 → exec (.ptpMessageSend port typ) s = .next (s.sendPeriodic port typ)) ∧
    (typ = 8 → s.ptpState port = 6 → exec (.ptpMessageSend port typ) s = .next (s.sendFollowUps port)) ∧
    (typ = 9 → s.ptpState port = 6 → ∀ d r, x.respDue = d :: r → exec (.ptpMessageSend port typ) s = .next ((s.setPtpPort port { x with respDue := r }).sendDelayResp port d)) ∧
    (typ = 1 → (s.ptpState port = 8 ∨ s.ptpState port = 9) → exec (.ptpMessageSend port typ) s = .next (s.sendDelayDue port)) ∧
    (typ = 12 → s.ptpUnicast = true → ∀ d r, x.sigDue = d :: r → exec (.ptpMessageSend port typ) s = .next ((s.setPtpPort port { x with sigDue := r }).sendSig port d))) ∧
  (∀ (port typ : Nat) (owed : Bool) (x y : PtpPort) (send : State → Nat → State) (s : State), x = s.ptpPort port → owed = x.owed.contains typ →
    y = { x with owed := x.owed.filter (fun t => t != typ) } → send = (fun t addr => if typ = 11 then t.sendAnnounce port addr else t.sendSync port addr) →
    (s.ptpUnicast = false → ∀ d, d = Sparse.get x.due typ 0 → s.sendPeriodic port typ = (if owed ∨ d ≤ s.now then
      send (s.setPtpPort port { y with due := Sparse.insert x.due typ (s.nextDue d (rateClk (s.rateOf port typ))) }) 0 else s)) ∧
    (s.ptpUnicast = true → ∀ g, x.grants.find? (fun g => g.typ == typ && (owed || decide (g.next ≤ s.now))) = some g → s.sendPeriodic port typ =
      send (s.setPtpPort port { y with grants := x.grants.map (fun h => if h = g then { g with next := s.nextDue g.next (rateClk g.rate) } else h) }) g.addr)) ∧
  (∀ (port q a at_ : Nat) (r : List (Nat × Nat × Nat)) (s t : State), (s.ptpPort port).syncSent = (q, a, at_) :: r → at_ + 4 * msClk ≤ s.now →
    (s.port port).txStamps.all (fun t => t.1 != q) = true →
    t = ((s.setPtpPort port { s.ptpPort port with syncSent := r, missing := (s.ptpPort port).missing + 1 }).bump .PTP_TX_TS_MISSING port).raise Ev.PTP_TX_TS_MISSING .port port →
    exec (.txTsMissing port) s = .next (if 2 ≤ (s.ptpPort port).missing then t.enterPtp port 2 else t)) ∧
  (∀ (port : Nat) (s : State), s.ptpState port = 2 → exec (.faultyExit port) s =
    .next (if (s.ptpPort port).since + 10 * sClk ≤ s.now then s.enterPtp port 1 else s)) ∧
  (∀ (port : Nat) (ms sm filt : Int) (s : State), (s.ptpPort port).sample = some ms → (s.ptpPort port).delay = some sm → (s.ptpState port = 8 ∨ s.ptpState port = 9) →
    (((ms + sm) / 2 < 0 ∨ ((s.rd Fld.PTP_CLK_CFG_PATH_MAX_US * 1000 * todNs : Nat) : Int) < (ms + sm) / 2) →
      exec (.ptpPhaseSample port) s = .next ((s.setPtpPort port { s.ptpPort port with sample := none }).bump .PTP_SAMPLE_REFUSED)) ∧
    (0 ≤ (ms + sm) / 2 → (ms + sm) / 2 ≤ ((s.rd Fld.PTP_CLK_CFG_PATH_MAX_US * 1000 * todNs : Nat) : Int) → Sparse.wf s.ptp.ports = true →
      filt = (match (s.ptpPort port).path with | some o => pathFilter o ((ms + sm) / 2) | none => (ms + sm) / 2) →
      ∃ t : State, exec (.ptpPhaseSample port) s = .next (t.phaseSample6 ((ms - sm) / 2 - psUnits (signedOf 32 (s.rd Fld.PTP_PORT_ASYM_ASYM_PS 0 port)) + ((s.perturbAmount 3 6 * todNs : Nat) : Int))) ∧
        t.lht = s.lht ∧ (t.ptpPort port).sample = none ∧ (t.ptpPort port).path = some filt ∧ t.ctr .PTP_SAMPLES = s.ctr .PTP_SAMPLES + 1)) ∧
  (∀ (port k typ addr : Nat) (x : PtpPort) (s : State), x = s.ptpPort port → s.ptpUnicast = true → s.umtMine port k = true → (∀ j, j < k → s.umtMine port j = true → (typ, j) ∈ x.asked) →
    addr = (if s.rd Fld.PTP_PORT_CFG_TRANSPORT 0 port = 2 then (s.rdReg Reg.PTP_UMT_ADDR 0 k 0).toNat else (s.rdReg Reg.PTP_UMT_ADDR 0 k 0).toNat +
      (s.rdReg Reg.PTP_UMT_ADDR 0 k 1).toNat * 2 ^ 32 + (s.rdReg Reg.PTP_UMT_ADDR 0 k 2).toNat * 2 ^ 64 + (s.rdReg Reg.PTP_UMT_ADDR 0 k 3).toNat * 2 ^ 96) →
    (∀ g, x.held.find? (fun g => g.addr == addr && g.typ == typ) = some g → g.at_ + g.secs * sClk * 4 / 5 ≤ s.now) → x.sigDue.any (fun t => t.tlv == 4 && t.addr == addr && t.typ == typ) = false →
    4 ≤ s.ptpState port → s.ptpState port ≠ 6 → s.on Fld.PTP_PORT_CFG_MASTER_ONLY 0 port = false → (typ = 11 ∨ typ = 0 ∨ typ = 9) →
    exec (.grantRenew port k typ) s = .next ((s.draw.setPtpPort port { x with asked := if (typ, k) ∈ x.asked then x.asked else (typ, k) :: x.asked }).sigOut port
      ⟨4, addr, typ, (256 - s.rateOf port typ) % 256, 10 + freeNat s.fresh % 991⟩)) ∧
  (∀ (port : Nat) (s : State), Sparse.wf s.ptp.ports = true → s.Canon → port < 96 → ∃ t, exec (.grantExpiry port) s = .next t ∧
    (t.ptpPort port).grants = (s.ptpPort port).grants.filter (fun g => decide (s.now < g.at_ + g.secs * sClk)) ∧
    (t.ptpPort port).held = (s.ptpPort port).held.filter (fun g => decide (s.now < g.at_ + g.secs * sClk)) ∧
    ((t.ptpPort port).grants.length ≤ 64 → t.rd Fld.PTP_PORT_STATUS_GRANTS 0 port = (t.ptpPort port).grants.length) ∧
    t.regs = (s.wr Fld.PTP_PORT_STATUS_GRANTS (t.ptpPort port).grants.length 0 port).regs) ∧
  (∀ (s t u v : State), s.on Fld.PTP_CTRL_EN = true → s.rd Fld.PTP_CLK_CFG_TYPE ≠ 0 → t = { s with ptp := { s.ptp with own := s.deriveOwn, ownAt := s.now } } →
    u = (List.range 96).foldl (fun (t : State) p => if t.ptpState p = 1 then t.enterPtp p (if s.rd Fld.PTP_CLK_CFG_TYPE = 1 then 6 else 4) else t) t →
    v = (if s.deriveOwn = s.ptp.own then u else u.runBmca) →
    exec .qualityDerive s = .next (if s.ptp.ownAt + 125 * msClk ≤ s.now then v.advertise v.deriveAdv else s)) ∧
  (∀ s : State, s.ptp.moved = true → Sparse.wf s.ptp.ports = true → ∃ t, exec .ptpTaskResume s = .next t ∧ t.ptp.moved = false ∧ t.regs = s.regs ∧
    ∀ p, p < 96 → (s.ptpState p = 6 → (t.ptpPort p).owed = [11, 0] ∧ (t.ptpPort p).foreign = (s.ptpPort p).foreign) ∧ (s.ptpState p ≠ 6 → t.ptpPort p = s.ptpPort p)) ∧
  (∀ (who : Agent) (v : Word) (s : State), s.verdict who Reg.PTP_CTRL 0 0 0 v false = .accepted → exec (.ptpDisable who v) s =
    .next (s.wrReg Reg.PTP_CTRL 0 0 0 (Reg.PTP_CTRL.stored (s.rdReg Reg.PTP_CTRL 0 0 0) v)).ptpFollowAll) ∧
  (∀ (n : Nat) (p : Packet) (s t : State), s.takeInbox n = some (t, p) → (t.on Fld.PTP_CTRL_ESMC_EN = false → exec (.esmcReceive n) s = .next t) ∧
    (t.on Fld.PTP_CTRL_ESMC_EN = true → (esmcQl p.orig = none → exec (.esmcReceive n) s = .next ((t.bump .ESMC_BAD p.port).raiseSec Ev.ESMC_BAD .port p.port)) ∧
    (∀ q : Nat, esmcQl p.orig = some q → qlOrder q ≤ qlOrder (t.esmc p.port).ql →
      exec (.esmcReceive n) s = .next ((t.bump .ESMC_RX p.port).setEsmc p.port { t.esmc p.port with ql := q, worse := none, at_ := some t.now }).syncQl) ∧
    (∀ q : Nat, esmcQl p.orig = some q → qlOrder (t.esmc p.port).ql < qlOrder q →
      exec (.esmcReceive n) s = .next ((t.bump .ESMC_RX p.port).setEsmc p.port { t.esmc p.port with worse := some (q, ((t.esmc p.port).worse.map Prod.snd).getD (t.now + t.rd Fld.PTP_SYNCE_CFG_HOLDOFF * 10 * msClk)), at_ := some t.now }).syncQl))) ∧
  (∀ (port t0 q : Nat) (s : State), ((s.esmc port).at_ = some t0 → exec (.esmcTimeout port) s = .next (if t0 + 5 * sClk ≤ s.now then
      (((s.setEsmc port { s.esmc port with ql := 0, worse := none, at_ := none }).bump .ESMC_TIMEOUTS port).raise Ev.ESMC_TIMEOUT .port port).syncQl else s)) ∧
    ((s.esmc port).worse = some (q, t0) → exec (.qlHoldoffExpiry port) s = .next (if t0 ≤ s.now then (s.setEsmc port { s.esmc port with ql := q, worse := none }).syncQl else s))) ∧
  ∀ (port : Nat) (s : State), s.esmcOn port = true →
    exec (.esmcInfoSend port) s = .next (if (s.esmc port).infoAt ≤ s.now then
      (s.setEsmc port { s.esmc port with infoAt := s.nextDue (s.esmc port).infoAt sClk }).sendEsmc port false else s) ∧
    exec (.esmcEventSend port) s = .next (if s.sentQl port = (s.esmc port).sent then s else s.sendEsmc port true)

/-- For a T-GM or a T-BC that advertises its own dataset. An unbounded TU gives clockClass 248 and accuracy 0xFE. In LOCKED on a PPS reference with PPS_PRTC the class is 6. Otherwise a TU at or below SPEC_NS gives 7 for a T-GM and 135 for a T-BC, and a TU above it gives OOS_CLASS and 165. A T-TSC holds 255. The accuracy code follows the nine finite rows of Table 17.6 with inclusive bounds, and never gets better as TU grows. Advertising a dataset shows its class and accuracy in PTP_STATUS, and a change of class is counted. -/
def Obligations.ClockQualityFollowsTheBound : Prop :=
  (∀ (s : State), (s.rd Fld.PTP_CLK_CFG_TYPE = 3 → s.ownClass = 255) ∧
    ((s.rd Fld.PTP_CLK_CFG_TYPE = 1 ∨ s.rd Fld.PTP_CLK_CFG_TYPE = 2) →
      (s.rd Fld.LHT_TU_TU = 0xFFFFFFFF → s.ownClass = 248) ∧
      (s.rd Fld.LHT_TU_TU ≠ 0xFFFFFFFF → s.timeState = 2 → s.rd Fld.LHT_STATUS_TIME_REF ≤ 1 → s.on Fld.PTP_CLK_CFG_PPS_PRTC = true → s.ownClass = 6) ∧
      (s.rd Fld.LHT_TU_TU ≠ 0xFFFFFFFF → s.timeState ≠ 2 → s.ownClass =
        if s.rd Fld.LHT_TU_TU ≤ s.rd Fld.PTP_CLASS_CFG_SPEC_NS then (if s.rd Fld.PTP_CLK_CFG_TYPE = 1 then 7 else 135)
        else (if s.rd Fld.PTP_CLK_CFG_TYPE = 1 then s.rd Fld.PTP_CLASS_CFG_OOS_CLASS else 165)))) ∧
  (∀ t u : Nat, t ≤ u → u < 0xFFFFFFFF → accuracyCode t ≤ accuracyCode u) ∧
  (accuracyCode 25 = 0x20 ∧ accuracyCode 26 = 0x21 ∧ accuracyCode 100 = 0x21 ∧ accuracyCode 101 = 0x22 ∧ accuracyCode 250 = 0x22 ∧ accuracyCode 251 = 0x23 ∧
    accuracyCode 1000 = 0x23 ∧ accuracyCode 1001 = 0x24 ∧ accuracyCode 2500 = 0x24 ∧ accuracyCode 2501 = 0x25 ∧ accuracyCode 10000 = 0x25 ∧ accuracyCode 10001 = 0x26 ∧
    accuracyCode 25000 = 0x26 ∧ accuracyCode 25001 = 0x27 ∧ accuracyCode 100000 = 0x27 ∧ accuracyCode 100001 = 0x2F ∧ accuracyCode 0xFFFFFFFE = 0x2F ∧ accuracyCode 0xFFFFFFFF = 0xFE) ∧
  ∀ (d : PtpDs) (s t : State), s.Canon → d.gmClass < 256 → d.gmAcc < 256 → d.steps < 256 → t = s.advertise d →
    t.ptp.adv = d ∧ t.rd Fld.PTP_STATUS_CLOCK_CLASS = d.gmClass ∧ t.rd Fld.PTP_STATUS_CLOCK_ACCURACY = d.gmAcc ∧ t.rd Fld.PTP_STATUS_STEPS_REMOVED = d.steps ∧
    t.ctr .PTP_CLASS_CHANGES 0 = s.ctr .PTP_CLASS_CHANGES 0 + (if s.rd Fld.PTP_STATUS_CLOCK_CLASS = d.gmClass then 0 else 1)

/-- For EXPRESS_ARRIVE (expressArrive), CUT_THROUGH_START (cutThroughStart), CUT_THROUGH_CUT (cutThroughCut), EXP_WRITE (expWrite), PREEMPT_VERIFY_SEND (preemptVerifySend), PREEMPT_VERIFY_RESPONSE (preemptVerifyResponse), PREEMPT_VERIFY_FAIL (preemptVerifyFail) and EXPRESS_DISABLE_EXPIRY (expressDisableExpiry). (1) The first express frame of its port and destination joins its queue when the port has one, it holds fewer than EXP_QLIM frames and the buffer has the cells (of EXP_MAXLEN while the length is not known), and is counted once as cut through or stored; a full queue, a full buffer and a port without a queue each drop, count and raise it, and a port whose queues are not OPEN drops it. (2) A taken cut-through frame that nothing holds starts, with MACsec under the SA then in use, is dropped when its end status has come errored, and is sent whole when it has come good. (3) A started one whose end status is errored or that passes its length limit ends, with no ICV, with its FCS complemented and is counted. (4) A legal entry whose charge is admitted is written and answered OK, and waits while it is not; one that breaks R521 answers BAD_RULE. (5) A verify goes out, while the transmitter is driven, every VERIFY_MS up to three times, a response makes preemption active, and no response after the third is counted and raised. (6) What is queued 10 us after EXP_EN was cleared is discarded and counted. -/
def Obligations.ExpressPathAndPreemptionComplete : Prop :=
  (∀ (n e cells : Nat) (p : Packet) (s : State), Sparse.find s.pkts n = some p → p.stage = .express → p.dest = .port e → s.behindTo n = false → s.hopBack p.port e = false →
    cells = cellsOf (if p.ended.isSome then p.frame.length else s.rdP Fld.GTE_EXP_LEN_EXP_MAXLEN e - 4) →
    (s.onP Fld.GTE_PORT_CFG_EXP_EN e = false → exec (.expressArrive n) s = .next (((s.discard n).bump .EXP_NO_QUEUE e).raiseMs Ev.EXP_NO_QUEUE .port e)) ∧
    (s.onP Fld.GTE_PORT_CFG_EXP_EN e = true → s.qPortState (e / 24) (e % 24) ≠ 0 → exec (.expressArrive n) s = .next (s.discard n)) ∧
    (s.onP Fld.GTE_PORT_CFG_EXP_EN e = true → s.qPortState (e / 24) (e % 24) = 0 →
      (s.rdP Fld.GTE_EXP_CFG_EXP_QLIM e ≤ (s.gte e).queue.length → exec (.expressArrive n) s = .next (((s.discard n).bump .EXP_QFULL e).raiseMs Ev.EXP_QFULL .port e)) ∧
      ((s.gte e).queue.length < s.rdP Fld.GTE_EXP_CFG_EXP_QLIM e → 3072 < s.rd Fld.GTE_STATUS_BUF_CELLS (e / 24) + cells →
        exec (.expressArrive n) s = .next (((s.discard n).bump .EXP_BUF_FULL (e / 24)).raiseMs Ev.EXP_BUF_FULL .pipeline (e / 24))) ∧
      ((s.gte e).queue.length < s.rdP Fld.GTE_EXP_CFG_EXP_QLIM e → s.rd Fld.GTE_STATUS_BUF_CELLS (e / 24) + cells ≤ 3072 → ∀ (cut : Bool) (t : State), t = ((s.setPkt n { p with stage := .expq }).takeExpCells (e / 24) cells).bump .EXP_RX e →
        cut = (s.rateFits p.port e && (s.gte e).queue.all ExpEnt.cut && s.gateAdmits e 16 (s.wireTime e (s.expLen e n))) →
        exec (.expressArrive n) s = .next ((t.setExpQueue e ((s.gte e).queue ++ [⟨n, cells, cut, p.expVid, s.now⟩])).bump (if cut then .EXP_CUT_THROUGH else .EXP_STORE_FWD) e)))) ∧
  (∀ (port : Nat) (f : TxFrame) (s : State), (s.port port).tx = some f → f.cutThrough = true → f.len = none → f.startAt = 0 → s.portUp port = true → s.bundleOf port = none →
    s.txWaits port f = false →
    ((s.pkt f.pkt).status = some false → exec (.cutThroughStart port) s = .next (s.startTx port { f with cutThrough := false })) ∧
    ((s.pkt f.pkt).status = some true → exec (.cutThroughStart port) s = .next (s.dropTx port f)) ∧
    ((s.pkt f.pkt).status = none → s.onP Fld.MSC_PORT_CFG_EN port = false →
      exec (.cutThroughStart port) s = .next (s.setPort port { s.port port with tx := some { f with startAt := max 1 s.now, sa := none } })) ∧
    ((s.pkt f.pkt).status = none → s.onP Fld.MSC_PORT_CFG_EN port = true →
      (∀ (t : State) (sa : Nat × Nat), s.takePn port = (t, some sa) → exec (.cutThroughStart port) s = .next (t.setPort port { t.port port with tx := some { f with startAt := max 1 t.now, sa := some sa } })) ∧
      (∀ t : State, s.takePn port = (t, none) → exec (.cutThroughStart port) s = .next (t.dropTx port f)))) ∧
  (∀ (port : Nat) (f : TxFrame) (long : Bool) (b data w : List Byte) (s t : State), (s.port port).tx = some f → f.cutThrough = true → f.len = none → f.startAt ≠ 0 →
    s.bundleOf port = none → b = (s.txBytes port f).1 → long = decide (s.cutLimit port b < b.length + 4) → ((s.pkt f.pkt).status = some true ∨ long = true) →
    data = (if long then b.take (s.cutLimit port b - 4) else b) → (f.sa = none → w = data ∧ t = s) →
    (∀ an pn, f.sa = some (an, pn) → w = (s.sealed port an pn data).take ((s.sealed port an pn data).length - 16) ∧ t = s.countOut port an (data.length - 12)) →
    exec (.cutThroughCut port) s = .next (((t.setPort port { t.port port with tx := some { f with len := some (w.length + 4), wire := w ++ bytesOfNat 4 (badFcs w).toNat } }).bump
      (if long then .EXP_CUT_TRUNC_LEN else .EXP_CUT_TRUNC_ERR) port).raiseMs Ev.EXP_CUT_TRUNC .port port)) ∧
  (∀ w : List Byte, badFcs w = ~~~ (crc32 w)) ∧
  (∀ (tag pipe idx : Nat) (e : BitVec 128) (good : Bool) (s t : State), s.mbxRunsAt tag opExpWrite pipe = true →
    good = (decide (e.toNat < 2 ^ 91) && decide (ExpEntry.OUT_PORT.get e ≤ 95) && (ExpEntry.PORT_ANY.on e || decide (ExpEntry.IN_PORT.get e / 24 = pipe)) &&
      (!ExpEntry.SET_VID.on e || ExpEntry.NEW_VID.get e != 4095)) →
    (good = false → exec (.expWrite tag pipe idx e) s = .next (s.reply tag .badRule 0 0 0 true)) ∧
    (good = true → s.chargeWrite tag (.expWrite tag pipe idx e) pipe actHost 1 [(7, idx)] = (t, true) →
      exec (.expWrite tag pipe idx e) s = .next (((t.setExm pipe { t.exm pipe with exps := Sparse.put (t.exm pipe).exps idx e 0, faultyExp := Sparse.erase (t.exm pipe).faultyExp idx }).touch pipe 7 idx).reply tag .ok 0 0 0 true)) ∧
    (good = true → s.chargeWrite tag (.expWrite tag pipe idx e) pipe actHost 1 [(7, idx)] = (t, false) →
      exec (.expWrite tag pipe idx e) s = .next t)) ∧
  (∀ (port : Nat) (s : State), s.portUp port = true → s.mergeOn port = true →
    (s.preemptActive port = false → s.onP Fld.GTE_PORT_CFG_VERIFY_DIS port = false → (s.gte port).verifySent < 3 → ∀ t : State,
      t = s.setGte port { s.gte port with verifySent := (s.gte port).verifySent + 1, verifyAt := s.now + s.rdP Fld.GTE_GUARD_VERIFY_MS port * msClk } →
      exec (.preemptVerifySend port) s = .next (if (s.gte port).verifyAt ≤ s.now then (if t.txDriven port then t.emit (.verify port) else t) else s)) ∧
    (1 ≤ (s.gte port).verifySent → (s.gte port).verifySent ≤ 3 → exec (.preemptVerifyResponse port) s = .next (s.wrP Fld.GTE_EXP_QSTAT_PREEMPT_ACTIVE port 1)) ∧
    (s.preemptActive port = false → (s.gte port).verifySent = 3 → exec (.preemptVerifyFail port) s = .next (if (s.gte port).verifyAt ≤ s.now then
      ((s.setGte port { s.gte port with verifySent := 4 }).bump .PREEMPT_VERIFY_FAIL port).raise Ev.PREEMPT_VERIFY_FAIL .port port else s))) ∧
  ∀ (port d : Nat) (s t : State), (s.gte port).drainUntil = some d →
    t = (s.flushExpress port).setGte port { (s.flushExpress port).gte port with drainUntil := none } →
    exec (.expressDisableExpiry port) s = .next (if d ≤ s.now then (if (s.gte port).queue = [] then t else
      (t.bump .EXP_DISCARD_DISABLE port (s.gte port).queue.length).raise Ev.EXP_DRAIN_DISCARD .port port) else s)

/-- For GCL_WRITE (gclWrite), GCL_READ (gclRead), GCL_COMMIT (gclCommit), GCL_CANCEL (gclCancel), LIST_CHANGE (listChange), GATE_ENTRY_START (gateEntryStart), MERGE_HOLD_ASSERT (mergeHoldAssert), CYCLE_START (cycleStart), STEP_GATE_FALLBACK (stepGateFallback) and GTE_PORT_CFG_WRITE (gtePortCfgWrite). (1) A write of an entry with INTERVAL_NS from 32 to 1,000,000,000 and no reserved bit enters the administrative bank while no change is pending, charged one access of the host's share (it waits for none, log entry 117), and is rejected otherwise; a read gives the entry in the staged registers. (2) A commit with TIME_VALID, no change pending, no OP 3 and legal limits sets PENDING with the change time, and is rejected with TIME_VALID 0; a cancel clears it. (3) At C the banks swap, PENDING clears, and the change is counted and raised; a C that a counter step has passed waits for its new value. (4) SET_AND_HOLD and SET_AND_RELEASE act at the start of their entry, an express run of at most 2 W is counted as lost where it begins, and the hold is asserted Y byte times before a SET_AND_HOLD entry. (5) At a cycle start W is 0 without TU_GATING and the smaller of TU and TU_CAP_NS with it. (6) The fallback of a step ends after 1 us, with the pending change kept, or computed again when the step found it passed or less than 1 us ahead. (7) A legal port configuration write is stored; clearing EXP_EN starts its drain of 10 us, setting it ends one, clearing GATE_EN drops the pending change and the hold, and what the port's idle modes allow follows; one that breaks R530 or R632 is rejected. -/
def Obligations.GatesAndListsComplete : Prop :=
  (∀ (who : Agent) (pipe port k lo ns : Nat) (v : Word) (s t : State), port = s.gclPort pipe → lo = s.rd Fld.GTE_GCL_ENTRY_LO_ENTRY pipe → ns = s.rd Fld.GTE_GCL_ENTRY_HI_ENTRY pipe →
    k = (!(s.gte port).active).toNat * 128 + s.rd Fld.GTE_GCL_SEL_INDEX pipe →
    t = s.wrReg Reg.GTE_GCL_CMD pipe 0 0 (Reg.GTE_GCL_CMD.stored (s.rdReg Reg.GTE_GCL_CMD pipe 0 0) v) →
    ((s.gte port).pending = none → 32 ≤ ns → ns ≤ 1000000000 → lo < 2 ^ 19 → s.verdict who Reg.GTE_GCL_CMD pipe 0 0 v false = .accepted → exec (.gclWrite who pipe v) s =
      .next ((t.setGte port { s.gte port with bank := Sparse.put (s.gte port).bank k (BitVec.ofNat 64 (lo + ns * 2 ^ 32)) 0, badEntry := Sparse.erase (s.gte port).badEntry k }).admitOwn (pipe + 1) actHost 1)) ∧
    (((s.gte port).pending.isSome = true ∨ ns < 32 ∨ 1000000000 < ns ∨ 2 ^ 19 ≤ lo) → s.verdict who Reg.GTE_GCL_CMD pipe 0 0 v true = .rejected →
      exec (.gclWrite who pipe v) s = .next s.rejectWrite) ∧
    (s.verdict who Reg.GTE_GCL_CMD pipe 0 0 v false = .accepted → exec (.gclRead who pipe v) s =
      .next ((t.wr Fld.GTE_GCL_ENTRY_LO_ENTRY ((Sparse.get (s.gte port).bank k 0).toNat % 2 ^ 32) pipe).wr Fld.GTE_GCL_ENTRY_HI_ENTRY ((Sparse.get (s.gte port).bank k 0).toNat / 2 ^ 32) pipe)) ∧
    (s.verdict who Reg.GTE_GCL_CMD pipe 0 0 v false = .accepted → exec (.gclCancel who pipe v) s = .next (t.setGte port { s.gte port with pending := none }))) ∧
  (∀ (who : Agent) (pipe port len cyc base : Nat) (v : Word) (s t : State), port = s.gclPort pipe → len = s.rd Fld.GTE_ADMIN_LEN_LEN pipe → cyc = s.rd Fld.GTE_ADMIN_CYCLE_CYCLE_NS pipe →
    base = (s.rd Fld.GTE_ADMIN_BASE_SEC_HI_SEC pipe * 2 ^ 32 + s.rd Fld.GTE_ADMIN_BASE_SEC_LO_SEC pipe) * todS + s.rd Fld.GTE_ADMIN_BASE_NS_NS pipe * todNs →
    t = s.wrReg Reg.GTE_GCL_CMD pipe 0 0 (Reg.GTE_GCL_CMD.stored (s.rdReg Reg.GTE_GCL_CMD pipe 0 0) v) →
    (s.on Fld.LHT_STATUS_TIME_VALID = true → (s.gte port).pending = none → (∀ e ∈ (s.gte port).entries (!(s.gte port).active) len, GateEntry.OP.get e ≠ 3) → 1 ≤ len → len ≤ 128 →
      1000 ≤ cyc → cyc ≤ 1000000000 → s.verdict who Reg.GTE_GCL_CMD pipe 0 0 v false = .accepted → exec (.gclCommit who pipe v) s = .next (t.setGte port { s.gte port with pending := some ⟨changeTime base (cyc * todNs) s.tod, cyc, s.rd Fld.GTE_ADMIN_LEN_CYCLE_EXT_NS pipe, len⟩, changeAt := changeTime base (cyc * todNs) s.tod })) ∧
    ((s.on Fld.LHT_STATUS_TIME_VALID = false ∨ (s.gte port).pending.isSome = true ∨ (∃ e ∈ (s.gte port).entries (!(s.gte port).active) len, GateEntry.OP.get e = 3) ∨ len = 0 ∨ 128 < len ∨
      cyc < 1000 ∨ 1000000000 < cyc) → s.verdict who Reg.GTE_GCL_CMD pipe 0 0 v true = .rejected → exec (.gclCommit who pipe v) s = .next s.rejectWrite)) ∧
  (∀ (port : Nat) (l : GateList) (s : State), (s.gte port).pending = some l → exec (.listChange port) s = .next (if l.start ≤ s.tod ∧ (s.gte port).redo = false then
    ((s.setGte port { s.gte port with oper := some l, pending := none, active := !(s.gte port).active, cycleNo := none, entryNo := none }).bump
      .GTE_CFG_CHANGES port).raise Ev.GTE_LIST_CHANGE .port port else s)) ∧
  (∀ (port : Nat) (p : GatePos) (s : State), s.gateMode port s.tod = .list p →
    ((s.gte port).entryNo ≠ some (p.k, p.cur.idx) → ∀ t : State, t = s.setGte port { s.gte port with entryNo := some (p.k, p.cur.idx), merge := if GateEntry.OP.get p.cur.entry = 1 then s.preemptActive port else if GateEntry.OP.get p.cur.entry = 2 then false else (s.gte port).merge } →
      ((gateOpenIn p.cur.entry 16 = false ∨ p.openFor 16 ≠ some (p.pos - p.cur.lo) ∨ p.closesIn 16 = none) → exec (.gateEntryStart port) s = .next t) ∧
      (∀ a b : Nat, gateOpenIn p.cur.entry 16 = true → p.openFor 16 = some a → a = p.pos - p.cur.lo → p.closesIn 16 = some b → exec (.gateEntryStart port) s =
        .next (if a + b ≤ 2 * s.guardW port then (t.bump .GTE_WINDOW_LOST port).raiseSec Ev.GTE_WINDOW_LOST .port port else t))) ∧
    ((s.gte port).entryNo = some (p.k, p.cur.idx) → exec (.gateEntryStart port) s = .next s) ∧
    exec (.mergeHoldAssert port) s = .next (if s.preemptActive port ∧ (s.gte port).nextHold p (bitClocks (s.holdBytes port * 8) (s.portUnits port) * todClk) then
      s.setGte port { s.gte port with merge := true } else s) ∧
    (∀ (x : GSeg) (y : Nat), p.segs.find? (fun x => decide (p.pos < x.lo)) = some x → (s.gte port).pending = none →
      (s.gte port).nextHold p y = (GateEntry.OP.get x.entry == 1 && decide (x.lo - p.pos ≤ y))) ∧
    ((s.gte port).cycleNo ≠ some p.k → exec (.cycleStart port) s = .next ((s.setGte port { s.gte port with cycleNo := some p.k }).wrP Fld.GTE_EXP_QSTAT_W_NS port
      (if s.onP Fld.GTE_PORT_CFG_TU_GATING port then min s.lht.coreTu (s.rdP Fld.GTE_GUARD_TU_CAP_NS port) else 0)))) ∧
  (∀ (port f : Nat) (s : State), (s.gte port).fallbackUntil = some f →
    (s.now < f → exec (.stepGateFallback port) s = .next s) ∧
    (f ≤ s.now → (s.gte port).pending = none → exec (.stepGateFallback port) s = .next (s.setGte port { s.gte port with fallbackUntil := none, redo := false })) ∧
    (∀ (l : GateList) (c : Nat), f ≤ s.now → (s.gte port).pending = some l → c = (if (s.gte port).redo then changeTime l.start (l.cycleNs * todNs) s.tod else l.start) →
      exec (.stepGateFallback port) s = .next (s.setGte port { s.gte port with fallbackUntil := none, redo := false, pending := some { l with start := c }, changeAt := c }))) ∧
  ∀ (who : Agent) (port : Nat) (bad : Prop) (g h : Gte) (v : Word) (s t : State),
    bad = (Fld.GTE_PORT_CFG_CM_PROFILE.of v = 3 ∨ (Fld.GTE_PORT_CFG_CM_PROFILE.of v = 2 ∧ Fld.GTE_PORT_CFG_PREEMPT_EN.onIn v = false) ∨
      (s.onP Fld.PRT_MODE_EN port = true ∧ ∃ f ∈ [Fld.GTE_PORT_CFG_PREEMPT_EN, Fld.GTE_PORT_CFG_ADD_FRAG, Fld.GTE_PORT_CFG_CM_PROFILE], f.of v ≠ s.rdP f port) ∨
      ((s.bundleOf port).isSome = true ∧ (Fld.GTE_PORT_CFG_GATE_EN.onIn v = true ∨ Fld.GTE_PORT_CFG_PREEMPT_EN.onIn v = true))) →
    t = s.wrReg Reg.GTE_PORT_CFG (port / 24) (port % 24) 0 (Reg.GTE_PORT_CFG.stored (s.rdReg Reg.GTE_PORT_CFG (port / 24) (port % 24) 0) v) →
    g = (if s.onP Fld.GTE_PORT_CFG_GATE_EN port = true ∧ Fld.GTE_PORT_CFG_GATE_EN.onIn v = false then { t.gte port with pending := none, merge := false, fallbackUntil := none, redo := false, cycleNo := none, entryNo := none } else t.gte port) →
    h = (if s.onP Fld.GTE_PORT_CFG_EXP_EN port = Fld.GTE_PORT_CFG_EXP_EN.onIn v then g else { g with drainUntil := if Fld.GTE_PORT_CFG_EXP_EN.onIn v then none else some (t.now + 10 * usClk) }) →
    (bad → s.verdict who Reg.GTE_PORT_CFG (port / 24) (port % 24) 0 v true = .rejected →
      exec (.gtePortCfgWrite who port v) s = .next s.rejectWrite) ∧
    (¬ bad → s.verdict who Reg.GTE_PORT_CFG (port / 24) (port % 24) 0 v false = .accepted →
      exec (.gtePortCfgWrite who port v) s = .next ((t.setGte port h).refreshIdle port))

/-- For every base time, every cycle time above 0 and every present time, all in units of the time of day (a nanosecond is 458,752 of them). The change time C is the base plus a whole number of cycles and lies at least 1 us after the present. It is the base itself when that lies at least 1 us ahead, so that a base exactly 1 us ahead is used; otherwise no earlier cycle start of the list lies 1 us ahead. The worked example of chapter 18 (base 4,990 s, cycle 250 us, present 5,000 s + 123,456,789 ns) gives 5,000 s + 123,500,000 ns. -/
def Obligations.ChangeTimeIsTheFirstStartAMicrosecondAhead : Prop :=
  (∀ base cyc now : Nat, 0 < cyc →
    now + 1000 * todNs ≤ changeTime base cyc now ∧
    (∃ n, changeTime base cyc now = base + n * cyc) ∧
    (now + 1000 * todNs ≤ base → changeTime base cyc now = base) ∧
    (∀ n, now + 1000 * todNs ≤ base + n * cyc → changeTime base cyc now ≤ base + n * cyc)) ∧
  changeTime (4990 * todS) (250000 * todNs) (5000 * todS + 123456789 * todNs) = 5000 * todS + 123500000 * todNs

/-- For every 36-bit address A. Its pseudo-channel is A[13:8] XOR A[19:14] XOR A[25:20] and its offset is A[35:14] × 256 + A[7:0]. The pair names one of 64 pseudo-channels and an offset below 2^30, and the address it came from is the only one with that pair: address to location and location to address undo each other. A 128-byte record aligned to 128 bytes lies wholly in one pseudo-channel, the 64 units of 256 bytes of a spill chunk lie in 64 different pseudo-channels, and a recorded fault names its pseudo-channel and its row. -/
def Obligations.HarbourInterleavesAddresses : Prop :=
  (∀ a : BitVec 36, BitVec.ofNat 6 (hbPc a.toNat) = a.extractLsb' 8 6 ^^^ a.extractLsb' 14 6 ^^^ a.extractLsb' 20 6 ∧ hbPc a.toNat < 64 ∧
    hbOffset a.toNat = (a.extractLsb' 14 22).toNat * 256 + (a.extractLsb' 0 8).toNat ∧ hbOffset a.toNat < 2 ^ 30) ∧
  (∀ a : Nat, a < 2 ^ 36 → hbAddr (hbPc a) (hbOffset a) = a) ∧
  (∀ pc off : Nat, pc < 64 → off < 2 ^ 30 → hbAddr pc off < 2 ^ 36 ∧ hbPc (hbAddr pc off) = pc ∧ hbOffset (hbAddr pc off) = off) ∧
  (∀ r i : Nat, i < 128 → hbPc (128 * r + i) = hbPc (128 * r)) ∧
  (∀ c i j : Nat, i < 64 → j < 64 → i ≠ j → hbPc (chunkAddr c + 256 * i) ≠ hbPc (chunkAddr c + 256 * j)) ∧
  ∀ (pc kind row : Nat) (s : State), s.Canon → pc < 64 → kind < 8 → row < 2 ^ 22 → s.on Fld.HBC_FAULT_INFO_VALID (pc / 32) = false →
    (s.hbFault pc kind row).rd Fld.HBC_FAULT_INFO_PC (pc / 32) = pc ∧ (s.hbFault pc kind row).rd Fld.HBC_FAULT_INFO_ROW (pc / 32) = row

/-- For HB_REQUEST_ISSUE (hbRequestIssue), HB_REQUEST_COMPLETE (hbRequestComplete), HB_AGE_PROMOTE (hbAgePromote), BANK_REFRESH (bankRefresh), STACK_TEMP_READ (stackTempRead), HB_INIT_FILL (hbInitFill), HB_BACKGROUND_FILL_DONE (hbBackgroundFillDone), SELF_REFRESH_ENTER (selfRefreshEnter) and SELF_REFRESH_EXIT (selfRefreshExit). (1) With the controller on and the stack awake, a request that nothing holds joins the requests in service when it is the first that can be issued or may pass the older ones; those of its class and priority that it passes are marked; any other place changes nothing. (2) The oldest issued request is answered when HB_DELAY lets it: its counter, then what the ECC finds (for a whole write what the command names, else an error planted there), then QUIET. (3) A request of class 1 or 2 that has waited its AGE × 16 ns is served as class 0, and one that has waited less is not. (4) A bank is refreshed. (5) Every millisecond the temperature and its refresh rate are shown; a rise with shares above the usable figure raises EVT 23.2, and above 105 °C EVT of a hot stack. (6) In the harbour phase without retention the areas are filled with zero data and INIT_DONE is set, and a background fill sets FILL_DONE. (7) A stack that is to sleep starts its wait, waits while admitted requests or the curd flush are open, and enters self-refresh after that or after SR_LIMIT_US, when requests not issued are discarded and counted as cut; one that leaves it in the retained phase or in a block reset is trained with no repair listed any more, and in a block reset keeps its retired pseudo-channels. -/
def Obligations.HarbourRequestsAreServed : Prop :=
  (∀ (pc i : Nat) (x f : Nat × HbReq) (l : List (Nat × HbReq)) (s : State), s.on Fld.HBC_CTRL_EN (pc / 32) = true → s.on Fld.HBC_CTRL_SR_ACTIVE (pc / 32) = false →
    l = (List.range 64).zip (s.hbWin pc) → (l.filter (fun y => !s.hbHolds pc y.2)).find? (fun y => y.1 == i) = some x → hbFirst (l.filter (fun y => !s.hbHolds pc y.2)) = some f →
    exec (.hbRequestIssue pc i) s = .next (if x.1 = f.1 ∨ hbMayPass l x f = true then
      { s with hbc := { s.hbc with busy := Sparse.insert s.hbc.busy pc (Sparse.get s.hbc.busy pc [] ++ [x.2]), wins := Sparse.put s.hbc.wins pc ((l.filter (fun y => y.1 != i)).map (fun y => if y.1 < i ∧ s.hbHolds pc y.2 = false ∧ y.2.served = x.2.served ∧ y.2.prio = x.2.prio then { y.2 with passed := y.2.passed + 1 } else y.2) ++ (Sparse.get s.hbc.wins pc []).drop 64) [] } }
      else s)) ∧
  (∀ (pc : Nat) (e : HbEcc) (r : HbReq) (rest : List HbReq) (s u : State), Sparse.get s.hbc.busy pc [] = r :: rest →
    u = ({ s with hbc := { s.hbc with busy := Sparse.put s.hbc.busy pc rest [] } } : State).bump (if r.rmw then .HBC_RMW else if r.write then .HBC_WRITES else .HBC_READS) pc →
    exec (.hbRequestComplete pc e) s = .next (if s.now * 4 < r.at_ * 4 + s.perturbAmount 0 pc * 7 then s
      else (u.hbEcc pc (if r.write && !r.rmw then e else u.hbFinds r.addr r.len e)).hbQuiet (pc / 32))) ∧
  (∀ (pc row : Nat) (s : State), s.hbEcc pc .good = s ∧ s.hbEcc pc .onDie = s.bump .HBC_ONDIE_REPORTS pc ∧
    s.hbEcc pc (.corrected row) = (((s.bump .HBC_CE pc).raiseSec Ev.HBC_CE .device (pc / 32) pc).hbFault pc 0 row).noteRow pc row false ∧
    (s.hbEcc pc (.uncorrectable row)).ctrs = (s.bump .HBC_UE pc).ctrs) ∧
  (∀ (pc i : Nat) (r : HbReq) (l : List HbReq) (s : State), Sparse.get s.hbc.wins pc [] = l → (l.drop i).head? = some r → r.cls = 1 ∨ r.cls = 2 → r.promoted = false → exec (.hbAgePromote pc i) s =
    .next (if r.at_ + s.rd (if r.cls = 1 then Fld.HBC_ARB_CFG_AGE1 else Fld.HBC_ARB_CFG_AGE2) (pc / 32) * 28 ≤ s.now
      then (s.setHbWin pc (l.take i ++ [{ r with promoted := true }] ++ l.drop (i + 1))).bump .HBC_PROMOTED pc else s)) ∧
  (∀ (pc bank : Nat) (s : State), s.on Fld.HBC_CTRL_SR_ACTIVE (pc / 32) = false →
    exec (.bankRefresh pc bank) s = .next { s with hbc := { s.hbc with refreshed := Sparse.insert s.hbc.refreshed (pc * 64 + bank) s.now } }) ∧
  (∀ (st was rate : Nat) (temp : Int) (s t u : State), (∀ k, Sparse.find s.hbc.tempAt st = some k → k + msClk ≤ s.now) → was = s.rd Fld.HBC_STATUS_REFRESH_RATE st → rate = refreshRate was temp →
    t = (({ s with hbc := { s.hbc with tempAt := Sparse.insert s.hbc.tempAt st s.now } } : State).wr Fld.HBC_STATUS_TEMP (temp % 256).toNat st).wr Fld.HBC_STATUS_REFRESH_RATE rate st →
    u = (if was < rate ∧ (if rate = 1 then 9750 else 9250) < t.hbShareSum then t.raise Ev.TTB_OVERCOMMIT .device st else t) →
    exec (.stackTempRead st temp) s = .next (if 105 < temp then u.raise Ev.HBC_STACK_HOT .device st else u)) ∧
  (refreshRate 0 85 = 0 ∧ refreshRate 0 86 = 1 ∧ refreshRate 0 95 = 1 ∧ refreshRate 0 96 = 2 ∧ refreshRate 2 93 = 2 ∧ refreshRate 2 92 = 1 ∧ refreshRate 1 83 = 1 ∧ refreshRate 1 82 = 0) ∧
  (∀ s : State, s.Canon → s.rst.phaseNext = 5 → s.rst.retained = false → ∃ t, exec .hbInitFill s = .next t ∧ t.flw.area = [] ∧ t.flw.gens = [] ∧ t.flw.seedCopy = [] ∧ t.ups.recs = [] ∧ t.hbc.repaired = [] ∧
    t.on Fld.HBC_CTRL_INIT_DONE 0 = true ∧ t.on Fld.HBC_CTRL_INIT_DONE 1 = true ∧ t.rd Fld.HBC_PC_RETIRED_MASK 0 = 0 ∧ t.rd Fld.HBC_PC_RETIRED_MASK 1 = 0) ∧
  (∀ (st : Nat) (s : State), s.on Fld.HBC_CTRL_INIT_DONE st = true → exec (.hbBackgroundFillDone st) s = .next (s.wr Fld.HBC_CTRL_FILL_DONE 1 st)) ∧
  (∀ (st : Nat) (s : State), s.srWanted st = true → s.on Fld.HBC_CTRL_SR_ACTIVE st = false →
    (Sparse.find s.hbc.entering st = none → exec (.selfRefreshEnter st) s = .next { s with hbc := { s.hbc with entering := Sparse.insert s.hbc.entering st s.now } }) ∧
    (∀ (t0 : Nat) (waits : Bool) (u : State), Sparse.find s.hbc.entering st = some t0 →
      waits = (hbHeld s.hbc.wins st t0 || hbHeld s.hbc.busy st t0 || (List.range 4).any (fun k => s.on Fld.FLW_SLICE_CTRL_FLUSH_BUSY k)) →
      u = (({ s with hbc := { s.hbc with entering := Sparse.erase s.hbc.entering st, busy := s.hbc.busy.filter (fun (e : Nat × List HbReq) => e.1 / 32 != st), wins := (s.hbc.wins.map (fun (e : Nat × List HbReq) => if e.1 / 32 = st then (e.1, e.2.filter (fun r => !hbAdmitted t0 r)) else e)).filter (fun (e : Nat × List HbReq) => !e.2.isEmpty) } } : State).wr Fld.HBC_CTRL_SR_ACTIVE 1 st).hbQuiet st →
      exec (.selfRefreshEnter st) s = .next (if waits = true ∧ s.now < t0 + s.rd Fld.HBC_SR_CFG_SR_LIMIT_US st * usClk then s
        else if hbHeld s.hbc.wins st t0 then (u.bump .HBC_SR_CUT st).raise Ev.HBC_SR_CUT .device st else u))) ∧
  ∀ (st : Nat) (s t : State), s.on Fld.HBC_CTRL_SR_ACTIVE st = true →
    t = ((({ s with hbc := { s.hbc with repaired := s.hbc.repaired.filter (fun e => e.1 / 4194304 / 32 != st) } } : State).wr Fld.HBC_CTRL_SR_ACTIVE 0 st).wr
      Fld.HBC_REPAIR_STATUS_LISTED 0 st).wr Fld.HBC_CTRL_INIT_DONE 1 st →
    (Sparse.find s.rst.blocks (15 * 8 + st) = none → s.rst.phaseNext = 5 → s.rst.retained = true → exec (.selfRefreshExit st) s = .next (t.trained st)) ∧
    ((Sparse.find s.rst.blocks (15 * 8 + st)).isSome = true →
      exec (.selfRefreshExit st) s = .next (((t.trained st).wr Fld.HBC_PC_RETIRED_MASK (t.rd Fld.HBC_PC_RETIRED_MASK st) st).blockDone (15 * 8 + st)))

/-- For RETRAIN_PAUSE (retrainPause), FULL_RETRAIN (fullRetrain), MAINT_FORCE (maintForce), LANE_REPAIR (laneRepair), SCRUB_READ (scrubRead), ROW_REPAIR (rowRepair), HB_REPAIR (hbRepair) and PC_RETIRE (pcRetire). (1) A pseudo-channel that may pause does so when PERIOD_MS has passed and the charge of 8,000 bytes is admitted, and only waits when it is not. (2) A stack that has moved by DT, or whose last training failed, is retrained for 32,000 bytes, and waits when that is not admitted; a third failure in a row raises EVT 22.5 and retires the pseudo-channel. (3) Work that has waited 1 ms for the maintenance share runs anyway and is counted. (4) A failed lane is replaced and counted, or without a spare its pseudo-channel is retired. (5) A scrub read is counted, with what the ECC finds there, and moves on; a corrected burst is charged and written back too unless a newer write came; a burst of an area not filled, or of a retired pseudo-channel, is only passed. (6) A row that is due, with no pause or repair running and no request issued to its bank, is repaired from a spare, which holds the bank for 1 µs, and listed, or counted as unrepaired without one. (7) HB_REPAIR names a row and answers OK. (8) More than PC_UE_LIMIT distinct rows with uncorrectable errors in 1 s retire a pseudo-channel, and exactly that many do not; 16 parity errors do. -/
def Obligations.HarbourMaintenanceCompletes : Prop :=
  (∀ (pc : Nat) (s t : State), s.mayPause pc = true → Sparse.get s.hbc.pauseAt pc 0 + s.rd Fld.HBC_RETRAIN_CFG_PERIOD_MS (pc / 32) * msClk ≤ s.now →
    (s.charge 0 actMaint 8000 (maintTag 0 pc) = (t, true) → exec (.retrainPause pc) s = .next (({ t with hbc := { t.hbc with pauseAt := Sparse.insert t.hbc.pauseAt pc t.now, pausing := Sparse.insert t.hbc.pausing (pc / 32) (pc, t.now + 438) } } : State).bump .HBC_RETRAINS (pc / 32))) ∧
    (s.charge 0 actMaint 8000 (maintTag 0 pc) = (t, false) → exec (.retrainPause pc) s = .next t)) ∧
  (∀ (pc : Nat) (s t u : State), s.mayPause pc = true → s.rd Fld.HBC_RETRAIN_CFG_DT (pc / 32) ≤ (s.stackTemp pc - Sparse.get s.hbc.trainTemp pc 0).natAbs ∨ Sparse.get s.hbc.trainFails pc 0 ≠ 0 →
    s.charge 0 actMaint 32000 (maintTag 1 pc) = (t, true) →
    u = ({ t with hbc := { t.hbc with pauseAt := Sparse.insert t.hbc.pauseAt pc t.now, pausing := Sparse.insert t.hbc.pausing (pc / 32) (pc, t.now + usClk) } } : State).bump .HBC_RETRAINS (pc / 32) →
    exec (.fullRetrain pc true) s = .next { u with hbc := { u.hbc with trainTemp := Sparse.insert u.hbc.trainTemp pc (u.stackTemp pc), trainFails := Sparse.erase u.hbc.trainFails pc } } ∧
    (Sparse.get s.hbc.trainFails pc 0 < 2 → exec (.fullRetrain pc false) s = .next { u with hbc := { u.hbc with trainFails := Sparse.insert u.hbc.trainFails pc (Sparse.get s.hbc.trainFails pc 0 + 1) } }) ∧
    (2 ≤ Sparse.get s.hbc.trainFails pc 0 → exec (.fullRetrain pc false) s = .next ((({ u with hbc := { u.hbc with trainFails := Sparse.insert u.hbc.trainFails pc (Sparse.get s.hbc.trainFails pc 0 + 1) } } : State).raise
      Ev.HBC_TRAIN_FAIL .device (pc / 32) pc).retirePc pc))) ∧
  (∀ (pc : Nat) (ok : Bool) (s t : State), s.mayPause pc = true → s.rd Fld.HBC_RETRAIN_CFG_DT (pc / 32) ≤ (s.stackTemp pc - Sparse.get s.hbc.trainTemp pc 0).natAbs ∨ Sparse.get s.hbc.trainFails pc 0 ≠ 0 →
    s.charge 0 actMaint 32000 (maintTag 1 pc) = (t, false) → exec (.fullRetrain pc ok) s = .next t) ∧
  (∀ (kind pc : Nat) (r : TideReq) (s : State), kind < 3 → (s.gate 0).waiting.find? (fun r => r.act == actMaint && r.tag == maintTag kind pc) = some r →
    exec (.maintForce kind pc) s = .next (if r.since + msClk ≤ s.now then ((s.setGate 0 { s.gate 0 with waiting := (s.gate 0).waiting.erase r, granted := (s.gate 0).granted ++ [(actMaint, r.tag)] }).forceMaint r.charge).bump .HBC_MAINT_FORCED (pc / 32) else s)) ∧
  (∀ (pc : Nat) (s : State), s.pcRetired pc = false →
    exec (.laneRepair pc true) s = .next ((s.bump .HBC_LANE_REPAIRS (pc / 32)).raise Ev.HBC_LANE_REPAIRED .device (pc / 32) pc) ∧
    exec (.laneRepair pc false) s = .next ((s.raise Ev.HBC_TRAIN_FAIL .device (pc / 32) pc).retirePc pc)) ∧
  (∀ (st burst pc addr : Nat) (e d : HbEcc) (newer back : Bool) (s t u : State), s.on Fld.HBC_SCRUB_CFG_EN st = true → s.on Fld.HBC_CTRL_INIT_DONE st = true → s.on Fld.HBC_CTRL_SR_ACTIVE st = false →
    Sparse.get s.hbc.scrubAt st 0 + s.rd Fld.HBC_SCRUB_CFG_PERIOD_H st * 3600 * sClk / stackBursts ≤ s.now → burst = Sparse.get s.hbc.scrubPos st 0 → pc = st * 32 + burst / pcBursts →
    addr = hbAddr pc (burst % pcBursts * 32) → d = s.hbFinds addr 32 e → (back = true ↔ (∃ row, d = .corrected row) ∧ newer = false) → u = (t.bump .HBC_READS pc).hbEcc pc d →
    (s.scrubSkips st burst = true ∨ s.pcRetired pc = true → exec (.scrubRead st e newer) s = .next (s.scrubNext st)) ∧
    (s.scrubSkips st burst = false → s.pcRetired pc = false →
      (s.charge 0 actMaint (if back then 64 else 32) (maintTag 3 pc) = (t, true) → exec (.scrubRead st e newer) s =
        .next ((if back then ((u.readPlant 5 pc (addr / 32)).1).bump .HBC_WRITES pc else u).scrubNext st)) ∧
      (s.charge 0 actMaint (if back then 64 else 32) (maintTag 3 pc) = (t, false) → exec (.scrubRead st e newer) s = .next t))) ∧
  (∀ (pc row : Nat) (s t u v : State), s.rowDue pc row = true → s.pcRetired pc = false → s.pcPauses pc = false → s.pcRepairs pc = none →
    (∀ r ∈ Sparse.get s.hbc.busy pc [], sameBank row r.row = false) → s.charge 0 actMaint (2 * rowBytes) (maintTag 2 pc) = (t, true) →
    u = { t with hbc := { t.hbc with rows := Sparse.erase t.hbc.rows (rowKey pc row), asked := Sparse.erase t.hbc.asked (rowKey pc row) } } →
    v = { u with hbc := { u.hbc with repaired := Sparse.insert u.hbc.repaired (rowKey pc row) true, repairing := Sparse.insert u.hbc.repairing pc (row, t.now + usClk) } } →
    exec (.rowRepair pc row true) s = .next ((((v.wr Fld.HBC_REPAIR_STATUS_LISTED (min 255 (v.listedRows (pc / 32))) (pc / 32)).bump .HBC_ROWS_REPAIRED (pc / 32)).raise
      Ev.HBC_ROW_REPAIRED .device (pc / 32) row).hbFault pc 2 row) ∧
    exec (.rowRepair pc row false) s = .next (((u.wr Fld.HBC_REPAIR_STATUS_UNREPAIRED (min 255 (u.rd Fld.HBC_REPAIR_STATUS_UNREPAIRED (pc / 32) + 1)) (pc / 32)).raise
      Ev.HBC_ROW_UNREPAIRABLE .device (pc / 32) row).hbFault pc 3 row)) ∧
  (∀ (pc row : Nat) (r : HbRow) (s : State), Sparse.get s.hbc.asked (rowKey pc row) false = false → s.on Fld.HBC_REPAIR_CFG_AUTO_EN (pc / 32) = true → Sparse.find s.hbc.rows (rowKey pc row) = some r →
    (s.rowDue pc row = true ↔ r.ue = true ∨ s.rd Fld.HBC_REPAIR_CFG_CE_TH (pc / 32) ≤ r.ce)) ∧
  (∀ (tag pc row : Nat) (s : State), s.mbxRuns tag opHbRepair = true → exec (.hbRepair tag pc row) s =
    .next (({ s with hbc := { s.hbc with asked := Sparse.insert s.hbc.asked (rowKey pc row) true } } : State).reply tag .ok 0 0 0 true)) ∧
  ∀ (pc n : Nat) (s : State), s.pcRetired pc = false → n = ((((Sparse.get s.hbc.ues pc []).filter (fun x => decide (s.now < x.2 + sClk))).map Prod.fst).eraseDups).length →
    exec (.pcRetire pc true) s = .next (s.retirePc pc) ∧
    exec (.pcRetire pc false) s = .next (if s.rd Fld.HBC_FAULT_CFG_PC_UE_LIMIT (pc / 32) < n then s.retirePc pc else s)

/-- For TIDE_BOUNDARY (tideBoundary), TIDE_ADMIT (tideAdmit), TIDE_APPLY (tideApply), TIDE_STARVE (tideStarve) and TTB_PARITY_CHECK (ttbParityCheck). (1) At the end of a tide (4 us, or 1,750 core clocks) the counts return to zero, staged shares whose APPLY was written come into force, BUSY clears once every tide of the instance has applied them, and MAINT starts at its carry up to its share; before it nothing happens. (2) LAST shows what the tide admitted, and in the harbour PEAK the most of any tide. (3) A request is taken from its share exactly when used + charge is at most the share; one whose activity may not borrow waits otherwise; a lender is the spare, or the idle activity of the lowest code that can take the whole charge. (4) The oldest waiting request of an activity is granted from its share or its lender, and raises EVT 23.0 when it had waited exactly STARVE_US; it stays where the test says that it waits. (5) APPLY within the limits of R587 sets BUSY; beyond them the write is rejected. (6) A request that has waited STARVE_US raises EVT 23.0, and one that has waited less does not. (7) A parity error clears a tide counter or makes the reset share act, and raises EVT 23.1. -/
def Obligations.TideGatesAdmitByShare : Prop :=
  (tidePeriod 0 = 7000 ∧ tidePeriod 4 = 1750 ∧ tideCap 0 = 6400000 ∧ tideCap 1 = 256 ∧ ∀ (g : Nat) (s : State), s.now < (s.gate g).startAt + tidePeriod g → exec (.tideBoundary g) s = .next s) ∧
  (∀ (g : Nat) (t f : Gate) (s u w : State), t = s.gate g → t.startAt + tidePeriod g ≤ s.now →
    f = { t with startAt := t.startAt + tidePeriod g, spent := [], admitted := [], borrowed := [], spareUsed := 0, force := if t.applyDue then s.staged g else t.force, applyDue := false } →
    u = ((List.range (tideActs g)).foldl (fun (x : State) a => if t.idle a then x else x.bump .TTB_WAIT_TIDES (g * 8 + a)) (s.tideReport g)).setGate g f →
    w = (if g = 0 then (u.setGate 0 { f with spent := Sparse.put [] actMaint (min (u.rd Fld.TTB_HB_CARRY_BYTES) (f.share 0 actMaint)) 0 }).wr Fld.TTB_HB_CARRY_BYTES (u.rd Fld.TTB_HB_CARRY_BYTES - min (u.rd Fld.TTB_HB_CARRY_BYTES) (f.share 0 actMaint)) else u) →
    exec (.tideBoundary g) s = .next (if t.applyDue = true ∧ (2 ≤ g ∨ (w.gate (if g = 0 then 1 else 0)).applyDue = false) then w.wr Fld.TTB_CTRL_BUSY 0 (gateInst g) else w)) ∧
  (∀ (a : Nat) (s : State), s.Canon → a < 7 → Sparse.get (s.gate 0).admitted a 0 < 2 ^ 24 → (s.tideReport 0).rd Fld.TTB_HB_LAST_USED 0 a = Sparse.get (s.gate 0).admitted a 0 ∧
    (s.tideReport 0).rd Fld.TTB_HB_PEAK_PEAK 0 a = max (Sparse.get (s.gate 0).admitted a 0) (s.rd Fld.TTB_HB_PEAK_PEAK 0 a)) ∧
  (∀ (g a : Nat) (s : State), s.Canon → 1 ≤ g → g ≤ 4 → a < 5 → Sparse.get (s.gate g).admitted a 0 < 512 → (s.tideReport g).rd Fld.TTB_SRAM_LAST_USED (g - 1) a = Sparse.get (s.gate g).admitted a 0) ∧
  (∀ (g a c : Nat) (t : Gate), t.test g a c = .own ↔ Sparse.get t.spent a 0 + c ≤ t.share g a) ∧
  (∀ (g a c : Nat) (t : Gate), t.share g a < Sparse.get t.spent a 0 + c → t.mayBorrow g a = false → t.test g a c = .waits) ∧
  (∀ (g a c l : Nat) (t : Gate), t.test g a c = .borrow l → (l = spareCode ∧ c ≤ t.spareLeft g) ∨
    (t.spareLeft g < c ∧ l < tideActs g ∧ l ≠ a ∧ t.idle l = true ∧ c ≤ t.left g l ∧ ∀ b, b < l → b ≠ a → t.idle b = true → t.left g b < c)) ∧
  (∀ (g act : Nat) (r : TideReq) (s t u : State), (s.gate g).waiting.find? (fun x => x.act == act) = some r →
    ((s.gate g).test g act r.charge = .waits → exec (.tideAdmit g act) s = .next s) ∧
    (((s.gate g).test g act r.charge = .own ∧ t = s.admitOwn g act r.charge) ∨ (∃ l, (s.gate g).test g act r.charge = .borrow l ∧ t = s.admitLent g act r.charge l) →
      u = t.setGate g { t.gate g with waiting := (t.gate g).waiting.erase r, granted := (t.gate g).granted ++ [(act, r.tag)] } →
      (r.since + t.rd Fld.TTB_CFG_STARVE_US (gateInst g) * usClk ≠ t.now → exec (.tideAdmit g act) s = .next u) ∧
      (r.since + t.rd Fld.TTB_CFG_STARVE_US (gateInst g) * usClk = t.now → exec (.tideAdmit g act) s = .next (u.starve g act)))) ∧
  (∀ (g act c : Nat) (s : State), (s.admitOwn g act c).gate g = { s.gate g with spent := addTo (s.gate g).spent act c, admitted := addTo (s.gate g).admitted act c }) ∧
  (∀ (who : Agent) (inst : Nat) (v : Word) (s t u : State), Fld.TTB_CTRL_APPLY.onIn v = true →
    (s.applyOk inst = true ↔ (List.range 5).foldl (fun n a => n + s.rd Fld.TTB_SRAM_SHARE_ACCESSES inst a) 0 ≤ 256 ∧ 16 ≤ s.rd Fld.TTB_SRAM_SHARE_ACCESSES inst 4 ∧
      (inst = 0 → (List.range 7).foldl (fun n a => n + s.rd Fld.TTB_HB_SHARE_BP 0 a) 0 ≤ 10000 ∧ 100 ≤ s.rd Fld.TTB_HB_SHARE_BP 0 6)) ∧
    (s.applyOk inst = true → s.verdict who Reg.TTB_CTRL inst 0 0 v false = .accepted →
      t = s.wrReg Reg.TTB_CTRL inst 0 0 (Reg.TTB_CTRL.stored (s.rdReg Reg.TTB_CTRL inst 0 0 (s.writeSlot Reg.TTB_CTRL inst)) v) (s.writeSlot Reg.TTB_CTRL inst) →
      u = (t.wr Fld.TTB_CTRL_BUSY 1 inst).setGate (inst + 1) { t.gate (inst + 1) with applyDue := true } →
      exec (.tideApply who inst v) s = .next (if inst = 0 then u.setGate 0 { u.gate 0 with applyDue := true } else u)) ∧
    (s.applyOk inst = false → s.verdict who Reg.TTB_CTRL inst 0 0 v true = .rejected → exec (.tideApply who inst v) s = .next s.rejectWrite)) ∧
  (∀ (g act : Nat) (r : TideReq) (s : State), (s.gate g).waiting.find? (fun x => x.act == act) = some r →
    exec (.tideStarve g act) s = .next (if r.since + s.rd Fld.TTB_CFG_STARVE_US (gateInst g) * usClk ≤ s.now then s.starve g act else s)) ∧
  ∀ (g act : Nat) (c : Bool) (s : State), exec (.ttbParityCheck g act false false) s = .next s ∧
    exec (.ttbParityCheck g act true false) s = .next ((s.setGate g { s.gate g with spent := Sparse.erase (s.gate g).spent act }).raise Ev.TTB_CFG_PARITY (if g = 0 then .device else .pipeline) (gateInst g)) ∧
    exec (.ttbParityCheck g act c true) s = .next ((s.setGate g { s.gate g with spent := if c then Sparse.erase (s.gate g).spent act else (s.gate g).spent, badShare := Sparse.insert (s.gate g).badShare act true }).raise Ev.TTB_CFG_PARITY (if g = 0 then .device else .pipeline) (gateInst g))

/-- For KEEPER_NOP (keeperNop), KEEPER_HOLD (keeperHold), KEEPER_RELEASE (keeperRelease), KEEPER_YIELD (keeperYield), KEEPER_WAIT (keeperWait), KEEPER_BEAT (keeperBeat), ILLEGAL_INSTRUCTION (illegalInstruction), HOLD_OVERRUN (holdOverrun), KEEPER_RESULT_ARRIVE (keeperResultArrive) and COMMIT_PORT_APPLY (commitPortApply). (1) An engine that may not execute the task does nothing. (2) Outside a hold the changes of an instruction go to the commit port when it completes, the results that have returned are sampled, and the operation acts: HOLD opens a section, YIELD and WAIT let the engine switch, BEAT records progress, and that of the EVENTS task is the heartbeat; NOP counts a corrected error of its data-memory word, and an uncorrectable one locks up the engine. (3) Inside a hold the changes are staged; RELEASE, up to the 512th instruction, closes it and passes what was staged; a HOLD, a 513th instruction and a 33rd change overrun it. (4) An overrun and an illegal code lock up the engine: its staging buffer is empty, its hold closed, and every task on it waits to move. (5) A result of another generation is discarded and counted. (6) The commit port discards a stale RELEASE whole, holds one back until every tide admits it, and then applies its changes in order. -/
def Obligations.KeeperControlOperationsComplete : Prop :=
  (∀ (e task found : Nat) (cs : List KChange) (s : State), s.mayExecute e task = false → exec (.keeperNop e task cs found) s = .next s ∧ exec (.keeperHold e task cs) s = .next s ∧
    exec (.keeperRelease e task cs) s = .next s ∧ exec (.keeperYield e task cs) s = .next s ∧ exec (.keeperWait e task cs) s = .next s ∧ exec (.keeperBeat e task cs) s = .next s) ∧
  (∀ (e task : Nat) (cs : List KChange) (g : Engine) (s u t : State), s.mayExecute e task = true → g = s.engine e → u = s.dataWrite e →
    (g.hold = none ∧ t = (({ u with kpr := { u.kpr with results := u.kpr.results.filter (fun k => k != task) } } : State).setEngine e { g with cur := some task }).submit task cs) ∨
      (∃ n, g.hold = some n ∧ n < 512 ∧ g.staged.length + cs.length ≤ 32 ∧ t = u.setEngine e { g with cur := some task, hold := some (n + 1), staged := g.staged ++ cs }) →
    (g.hold = none → exec (.keeperHold e task cs) s = .next (t.setEngine e { t.engine e with hold := some 0, staged := [] })) ∧
    exec (.keeperRelease e task cs) s = .next ((t.setEngine e { t.engine e with hold := none, staged := [] }).submit task (t.engine e).staged) ∧
    exec (.keeperYield e task cs) s = .next (t.letGo e task true) ∧ exec (.keeperWait e task cs) s = .next (t.letGo e task false) ∧ (task ≠ 0 → exec (.keeperBeat e task cs) s = .next (t.progressed task)) ∧
    (task = 0 → exec (.keeperBeat e task cs) s = .next { t.progressed 0 with kpr := { (t.progressed 0).kpr with beatAt := (t.progressed 0).now, wdtFrom := none } })) ∧
  (∀ (e task n : Nat) (cs : List KChange) (s : State), s.mayExecute e task = true → (s.engine e).hold = some n → exec (.keeperHold e task cs) s = .next (s.overrun e) ∧
    (512 ≤ n ∨ 32 < (s.engine e).staged.length + cs.length → exec (.keeperRelease e task cs) s = .next ((s.dataWrite e).overrun e) ∧ exec (.keeperYield e task cs) s = .next ((s.dataWrite e).overrun e) ∧
      exec (.keeperWait e task cs) s = .next ((s.dataWrite e).overrun e) ∧ exec (.keeperBeat e task cs) s = .next ((s.dataWrite e).overrun e))) ∧
  (∀ (e task found d : Nat) (cs : List KChange) (g : Engine) (s r u t : State), s.mayExecute e task = true → s.dataRead e found = (r, d) → g = s.engine e → u = r.dataWrite e →
    (d = 2 → exec (.keeperNop e task cs found) s = .next ((r.raise Ev.KPR_DM_ECC .engine e).lockUp e)) ∧
    (d ≠ 2 → (g.hold = none ∧ t = (({ u with kpr := { u.kpr with results := u.kpr.results.filter (fun k => k != task) } } : State).setEngine e { g with cur := some task }).submit task cs) ∨
        (∃ n, g.hold = some n ∧ n < 512 ∧ g.staged.length + cs.length ≤ 32 ∧ t = u.setEngine e { g with cur := some task, hold := some (n + 1), staged := g.staged ++ cs }) →
      exec (.keeperNop e task cs found) s = .next (if d = 1 then t.bump .KPR_DM_CE e else t)) ∧
    (∀ n, d ≠ 2 → g.hold = some n → 512 ≤ n ∨ 32 < g.staged.length + cs.length → exec (.keeperNop e task cs found) s = .next (u.overrun e)) ∧
    (Sparse.find s.dgn.planted (plantKey 7 e 0) = none → r = s ∧ d = found)) ∧
  (∀ (task : Nat) (cs : List KChange) (s : State), cs ≠ [] → (s.submit task cs).kpr.commitQ = s.kpr.commitQ ++ [⟨task, s.taskGen task, cs, s.now⟩]) ∧
  (∀ (e task : Nat) (y : Bool) (s : State), (s.letGo e task y) = (s.progressed task).setEngine e { s.engine e with cur := none, stopped := (s.engine e).stopped || (y && s.kpr.patch.isSome && (s.engine e).hold.isNone) }) ∧
  (∀ (e : Nat) (s : State), s.Canon → e < 16 → ((s.lockUp e).engine e).staged = [] ∧ ((s.lockUp e).engine e).hold = none ∧ ∀ k ∈ allTasks, s.taskEngine k = e → (s.lockUp e).kpr.moves.any (fun m => m.1 == k) = true) ∧
  (∀ (e code n : Nat) (s : State), s.keepersRun = true → s.engineIs engRun e = true → exec (.illegalInstruction e code) s = .next (s.lockUp e) ∧
    ((s.engine e).hold = some n → exec (.holdOverrun e 0) s = .next (if 512 ≤ n then s.overrun e else s) ∧
      exec (.holdOverrun e 1) s = .next (if 32 ≤ (s.engine e).staged.length then s.overrun e else s) ∧ exec (.holdOverrun e 2) s = .next (s.overrun e)) ∧
    ((s.engine e).hold = none → exec (.holdOverrun e 0) s = .next s)) ∧
  (∀ (task gen : Nat) (s : State), (gen = s.taskGen task → exec (.keeperResultArrive task gen) s = .next { s with kpr := { s.kpr with results := s.kpr.results ++ [task] } }) ∧
    (gen ≠ s.taskGen task → exec (.keeperResultArrive task gen) s = .next ((s.bump .KPR_STALE_RESULTS task).raiseMs Ev.KPR_STALE_RESULT .engine (s.taskEngine task) task))) ∧
  ∀ (c : Commit) (rest : List Commit) (s t u : State), s.kpr.commitQ = c :: rest → s.keepersRun = true →
    (c.gen ≠ s.taskGen c.task → exec .commitPortApply s = .next (((({ s with kpr := { s.kpr with commitQ := rest } } : State).dropCommit c).bump .KPR_STALE_RESULTS c.task).raiseMs Ev.KPR_STALE_RESULT .engine (s.taskEngine c.task) c.task)) ∧
    (c.gen = s.taskGen c.task → s.chargeAll (commitCharges c.changes) c.tag = (t, false) → exec .commitPortApply s = .next t) ∧
    (c.gen = s.taskGen c.task → s.chargeAll (commitCharges c.changes) c.tag = (t, true) → u = c.changes.foldl State.applyChange { t with kpr := { t.kpr with commitQ := rest } } →
      exec .commitPortApply s = .next { u with kpr := { u.kpr with lastCommit := u.now } })

/-- For ENGINE_WATCHDOG_EXPIRY (engineWatchdogExpiry), ENGINE_RESET_DONE (engineResetDone), TASK_MOVE_RUN (taskMoveRun), TASK_MOVE (taskMove), CLUSTER_LOCKUP (clusterLockup), CLUSTER_RESET_DONE (clusterResetDone), SUPERVISOR_WATCHDOG_EXPIRY (supervisorWatchdogExpiry), CONTROL_STORE_WALK (controlStoreWalk), CONTROL_STORE_RESTORE (controlStoreRestore), PATCH_LOAD (patchLoad), PATCH_QUIET_POINT (patchQuietPoint) and PATCH_QUIET_EXPIRY (patchQuietExpiry). (1) A task without YIELD, WAIT or BEAT for exactly ENGINE_US locks up its engine, and one clock earlier does not. (2) An engine in reset rejoins as STANDBY. (3) A task that has to move goes to the target of R604 with its generation advanced modulo 256, unless it moved less than 100 us ago, and each TASK_MOVE that waited is answered OK. (4) TASK_MOVE asks for the move. (5) Each of the three causes locks up the cluster; the third lock-up within 10 s raises EVT 24.2 and asks for a warm reset, otherwise the cluster is reset. (6) After the reset every task runs on its HOME engine. (7) The supervisor watchdog asks for a warm reset when no heartbeat comes. (8) The walker takes a word each 267 clocks; a word it or an engine's fetch finds corrected is counted, one found bad waits for its copy, and the engine that fetched it with it; a copy with a bad CRC is a warm reset. (9) A patch that passes waits for the quiet point, is written there and answers COMPLETED with DONE 1; past QUIET_LIMIT_US it is dropped and EVT 24.7 raised. -/
def Obligations.LockupsMovesAndPatchesComplete : Prop :=
  (∀ (task e : Nat) (s : State), e = s.taskEngine task → s.keepersRun = true → s.on Fld.KPR_TASK_RUNNING 0 task = true → s.engineIs engRun e = true → (s.engine e).stopped = false →
    exec (.engineWatchdogExpiry task) s = .next (if Sparse.get s.kpr.progress task 0 + s.rd Fld.KPR_WDT_CFG_ENGINE_US * 1750 ≤ s.now then s.lockUp e else s)) ∧
  (∀ (e : Nat) (s : State), (s.engine e).resetAt.isSome = true → s.engState e = engReset → exec (.engineResetDone e) s = .next ((s.setEngine e { s.engine e with resetAt := none }).wr Fld.KPR_ENGINE_STATUS_STATE engStandby 0 e)) ∧
  (∀ (task e : Nat) (mine : List (Nat × Nat × Option Nat)) (s t : State), mine = s.kpr.moves.filter (fun m => m.1 == task) → mine ≠ [] → s.moveTarget task = some e → s.keepersRun = true →
    t = ({ s with kpr := { s.kpr with moves := s.kpr.moves.filter (fun m => m.1 != task) } } : State).moveTask task e →
    ((∀ m0, Sparse.find s.kpr.movedAt task = some m0 → m0 + 175000 ≤ s.now) → exec (.taskMoveRun task) s = .next (mine.foldl (fun (x : State) m => match m.2.2 with | some tag => x.reply tag .ok 0 0 0 true | none => x) t)) ∧
    (∀ m0 : Nat, Sparse.find s.kpr.movedAt task = some m0 → s.now < m0 + 175000 → exec (.taskMoveRun task) s = .next s)) ∧
  (∀ (task e : Nat) (s : State), s.Canon → task < 14 → e < 16 → (s.moveTask task e).taskGen task = (s.taskGen task + 1) % 256 ∧ (s.moveTask task e).taskEngine task = e ∧
    (s.moveTask task e).on Fld.KPR_TASK_RUNNING 0 task = true ∧ (s.moveTask task e).engState e = engRun) ∧
  (∀ (task e : Nat) (s : State), s.moveTarget task = some e → s.domainUp (engDomain e) = true ∧ (s.engState e = engStandby ∨ (s.engState e = engRun ∧ e ≠ s.taskEngine task ∧ ∀ x, x < 16 → s.engineIs engStandby x = false))) ∧
  (∀ (tag task : Nat) (s : State), s.mbxRuns tag opTaskMove = true → exec (.taskMove tag task) s = .next (s.askMove task (some tag))) ∧
  (∀ s : State, s.keepersRun = true → (s.kpr.wdtFrom = none → exec (.clusterLockup 0) s = .next (if s.kpr.beatAt + s.rd Fld.KPR_WDT_CFG_CLUSTER_MS * msClk ≤ s.now then s.clusterLock else s)) ∧
    (s.kpr.moves.any (fun m => (s.moveTarget m.1).isNone && !s.engineIs engRun (s.taskEngine m.1)) = true → exec (.clusterLockup 1) s = .next s.clusterLock) ∧
    (∀ (c : Commit) (l : List Commit), s.kpr.commitQ = c :: l → exec (.clusterLockup 2) s = .next (if max c.since s.kpr.lastCommit + msClk ≤ s.now then s.clusterLock else s))) ∧
  (∀ s t : State, t = ({ s with kpr := { s.kpr with locks := (s.now :: s.kpr.locks).take 2 } } : State).bump .KPR_CLUSTER_LOCKUPS →
    (∀ b, (s.kpr.locks.drop 1).head? = some b → s.now < b + 10 * sClk → s.clusterLock = (t.raise Ev.KPR_ESCALATE).trigger 8 0 false) ∧
    ((∀ b, (s.kpr.locks.drop 1).head? = some b → b + 10 * sClk ≤ s.now) → s.clusterLock = (t.raise Ev.KPR_CLUSTER_LOCKUP).resetCluster)) ∧
  (∀ (t0 : Nat) (s : State), s.kpr.resetAt = some t0 → exec .clusterResetDone s = .next (({ s with kpr := { s.kpr with resetAt := none } } : State).startTasks.blockDone (16 * 8))) ∧
  (∀ (k : Nat) (s : State), s.Canon → k < 14 → s.startTasks.taskEngine k = s.rd Fld.KPR_TASK_HOME 0 k ∧ s.startTasks.on Fld.KPR_TASK_RUNNING 0 k = true) ∧
  (∀ (t0 : Nat) (s : State), s.on Fld.KPR_CTRL_EN = true → s.rst.run = none →
    (s.kpr.wdtFrom = some t0 → exec .supervisorWatchdogExpiry s = .next (if t0 + s.rd Fld.KPR_WDT_CFG_WDT_MS * msClk ≤ s.now then s.trigger 4 0 false else s)) ∧
    (s.kpr.wdtFrom = none → exec .supervisorWatchdogExpiry s = .next (if s.kpr.beatAt + s.rd Fld.KPR_WDT_CFG_WDT_MS * msClk ≤ s.now then s.trigger 4 1 false else s))) ∧
  (∀ (fetched : Option (Nat × Nat)) (found d w : Nat) (s r t u : State), s.readWord 6 0 w found = (r, d) → (w = s.kpr.csPos ∧ fetched = none ∧ s.kpr.csAt + 267 ≤ s.now ∧
      t = { r with kpr := { s.kpr with csPos := (s.kpr.csPos + 1) % 65536, csAt := s.now } } ∧ u = t) ∨ (∃ e, fetched = some (e, w) ∧ t = r ∧ u = t.setEngine e { t.engine e with fetch := some w }) →
    (d = 0 → exec (.controlStoreWalk fetched found) s = .next t) ∧ (d = 1 → exec (.controlStoreWalk fetched found) s = .next (t.bump .KPR_CS_CE)) ∧
    (d = 2 → exec (.controlStoreWalk fetched found) s = .next (({ u with kpr := { u.kpr with csBad := Sparse.insert u.kpr.csBad w r.now } } : State).raise Ev.KPR_CS_ECC .device 0 w))) ∧
  (∀ (w : Nat) (s : State), (s.now < s.kpr.csAt + 267 → exec (.controlStoreWalk none w) s = .next s) ∧
    ((Sparse.find s.kpr.csBad w).isSome = true → exec (.controlStoreRestore w true) s = .next { s with kpr := { s.kpr with csBad := Sparse.erase s.kpr.csBad w } } ∧
      exec (.controlStoreRestore w false) s = .next (s.trigger 8 1 false))) ∧
  (∀ (tag : Nat) (m : Manifest) (ws : List (Nat × BitVec 256)) (s : State), s.mbxRuns tag opPatchLoad = true → s.kpr.patch = none →
    (s.patchRefusal m ≠ 0 → exec (.patchLoad tag m ws) s = .next ((s.refusePatch (s.patchRefusal m)).reply tag .badRule 0 0 0 true)) ∧
    (s.patchRefusal m = 0 → m.patch = true → ws ≠ [] → ws.length ≤ 4096 → (∀ w ∈ ws, w.1 < 65536) → exec (.patchLoad tag m ws) s =
      .next { s with kpr := { s.kpr with patch := some ⟨tag, ws, m.digest, if m.commit then some m.svn else none, s.now⟩ } }) ∧
    (s.patchRefusal m = 0 → m.patch = false ∨ ws = [] ∨ 4096 < ws.length ∨ (∃ w ∈ ws, 65536 ≤ w.1) → exec (.patchLoad tag m ws) s = .next (s.reply tag .badRule 0 0 0 true))) ∧
  ∀ (p : Patch) (s : State), s.kpr.patch = some p →
    (s.allStopped = true → exec .patchQuietPoint s = .next ((((s.applyPatch p.words p.digest p.svn).resume).raise Ev.KPR_PATCH_APPLIED).reply p.tag .completed 1 0 0 true)) ∧
    (s.allStopped = false → exec .patchQuietPoint s = .next s ∧
      exec .patchQuietExpiry s = .next (if s.now < p.since + s.rd Fld.KPR_PATCH_CFG_QUIET_LIMIT_US * usClk then s else (s.raise Ev.KPR_PATCH_FAIL).dropPatch p.tag))

/-- For MBX_CMD_TAIL_WRITE (mbxCmdTailWrite), MBX_FETCH (mbxFetch), MBX_COMMAND_START (mbxCommandStart), MBX_COMMAND_TIMEOUT (mbxCommandTimeout), MBX_REPLY_WRITE (mbxReplyWrite), MBX_DMA_TIMEOUT (mbxDmaTimeout), MBX_ENABLE (mbxEnable), ABORT (abort), COUNTER_READ (counterRead) and NOTIFICATION_WRITE (notificationWrite). (1) A tail that puts no more commands in the ring than it holds is accepted, one more is rejected. (2) A command is fetched only under R611; a malformed one answers BAD_CMD, one without its right answers NO_RIGHT and raises the violation, one of a STANDBY device's records BUSY, another is in flight. (3) It starts when no earlier command of a serial domain it shares is unanswered, and waits otherwise; past TIMEOUT_MS it answers TIMEOUT and at exactly TIMEOUT_MS it does not. (4) The oldest reply is written with its vector when IRQ is set, and the last reply of a command ends it. (5) A transfer not done in 1 ms stops the mailbox; a write with EN = 1 clears STOPPED. (6) ABORT answers OK for a command in flight and NOT_FOUND otherwise; a command not started is ABORTED with DONE 0, a flush and a patch stop where they are, and a started one that is not bulk runs on. (7) COUNTER_READ returns each of its values whole, and with ALL the sum of the four pipelines. (8) A notification is written when the ring has room, and dropped and counted or held when it is full; one that may be held also waits behind those held. -/
def Obligations.MailboxCommandsComplete : Prop :=
  (∀ (who : Agent) (v : Word) (s : State),
    ((v.toNat + 2 ^ 32 - s.rd Fld.KPR_MBX_CMD_HEAD_COUNT) % 2 ^ 32 ≤ s.cmdSize → s.verdict who Reg.KPR_MBX_CMD_TAIL 0 0 0 v false = .accepted → exec (.mbxCmdTailWrite who v) s =
      .next (s.wrReg Reg.KPR_MBX_CMD_TAIL 0 0 0 (Reg.KPR_MBX_CMD_TAIL.stored (s.rdReg Reg.KPR_MBX_CMD_TAIL 0 0 0) v))) ∧
    (s.cmdSize < (v.toNat + 2 ^ 32 - s.rd Fld.KPR_MBX_CMD_HEAD_COUNT) % 2 ^ 32 → s.verdict who Reg.KPR_MBX_CMD_TAIL 0 0 0 v true = .rejected → exec (.mbxCmdTailWrite who v) s = .next s.rejectWrite)) ∧
  (∀ (h : MbxHeader) (n : Nat) (s t : State), n = (if h.entries = 0 ∨ 8 < h.entries then 1 else h.entries) →
    (s.mayFetch n = false → exec (.mbxFetch h) s = .next s) ∧
    (s.mayFetch n = true → t = (s.wr Fld.KPR_MBX_CMD_HEAD_COUNT ((s.rd Fld.KPR_MBX_CMD_HEAD_COUNT + n) % 2 ^ 32)).bump .KPR_MBX_COMMANDS →
      (s.cmdRefusal h = some .badCmd → exec (.mbxFetch h) s = .next ((t.refuseCmd h .badCmd).raiseMs Ev.KPR_MBX_BAD_CMD)) ∧
      (s.cmdRefusal h = some .noRight → exec (.mbxFetch h) s = .next ((t.refuseCmd h .noRight).violation 2 0 h.opcode)) ∧ (s.cmdRefusal h = some .busy → exec (.mbxFetch h) s = .next (t.refuseCmd h .busy)) ∧
      (s.cmdRefusal h = none → exec (.mbxFetch h) s = .next (({ t with kpr := { t.kpr with inFlight := t.kpr.inFlight ++ [{ tag := h.tag, opcode := h.opcode, irq := h.irq, pipe := h.pipe, all := s.actsOnAll h, timeoutMs := h.timeoutMs, resultAddr := h.resultAddr, domain := h.dom, fetchedAt := s.now, started := false, done := 0, answered := false, change := none }] } } : State).showFlight)))) ∧
  (∀ (n : Nat) (s : State), s.mayFetch n = true ↔ s.keepersRun = true ∧ s.on Fld.HST_PCIE_STATUS_LINK_UP = true ∧ s.on Fld.KPR_MBX_CTRL_EN = true ∧ s.on Fld.KPR_MBX_CTRL_STOPPED = false ∧ s.kpr.inFlight.length < 64 ∧
    s.kpr.inFlight.length + (s.kpr.replies.filter (fun r => !r.final)).length + 1 ≤ s.rplFree ∧ s.cmdWaiting ≠ 0 ∧ n ≤ s.cmdWaiting) ∧
  (∀ (tag : Nat) (c : MbxCmd) (s : State), s.mbx tag = some c → c.started = false → s.replied tag = false →
    (c.timeoutMs = 0 ∨ s.now ≤ c.fetchedAt + c.timeoutMs * msClk → s.keepersRun = true →
      (s.kpr.inFlight.takeWhile (fun x => x.tag != tag)).any (fun x => !(x.opcode == opBegin && x.answered) && x.keys.any (fun k => c.keys.contains k)) = false →
      exec (.mbxCommandStart tag) s = .next { s with kpr := { s.kpr with inFlight := s.kpr.inFlight.map (fun x => if x.tag = tag then { x with started := true } else x) } } ∧ exec (.mbxCommandTimeout tag) s = .next s) ∧
    ((s.kpr.inFlight.takeWhile (fun x => x.tag != tag)).any (fun x => !(x.opcode == opBegin && x.answered) && x.keys.any (fun k => c.keys.contains k)) = true → exec (.mbxCommandStart tag) s = .next s) ∧
    (c.timeoutMs ≠ 0 → c.fetchedAt + c.timeoutMs * msClk < s.now → exec (.mbxCommandStart tag) s = .next s ∧ exec (.mbxCommandTimeout tag) s = .next ((s.bump .KPR_MBX_REFUSED).reply tag .timeout 0 0 0 true))) ∧
  (∀ (n : Nat) (r : Reply) (rest : List Reply) (s t u : State), s.kpr.replies = r :: rest → s.on Fld.KPR_MBX_CTRL_STOPPED = false → s.on Fld.HST_PCIE_STATUS_LINK_UP = true → s.rplFree ≠ 0 →
    n = s.rd Fld.KPR_MBX_RPL_TAIL_COUNT → t = ({ s with kpr := { s.kpr with replies := rest, inFlight := if r.final then s.kpr.inFlight.filter (fun c => c.tag != r.tag) else s.kpr.inFlight } } : State).emit
      (.hostWrite (s.ringBase Fld.KPR_MBX_RPL_BASE_LO_ADDR Fld.KPR_MBX_RPL_BASE_HI_ADDR + 32 * (n % s.rplSize)) r.entry.toNat) →
    u = (t.wr Fld.KPR_MBX_RPL_TAIL_COUNT ((n + 1) % 2 ^ 32)).showFlight → exec .mbxReplyWrite s = .next (if r.irq then u.sendVec (u.rd Fld.KPR_MBX_CTRL_VEC_REPLY) else u)) ∧
  (∀ (who : Agent) (v : Word) (s t : State), (s.on Fld.KPR_MBX_CTRL_STOPPED = false → s.on Fld.KPR_MBX_CTRL_EN = true ∨ s.kpr.replies ≠ [] → exec .mbxDmaTimeout s = .next ((s.wr Fld.KPR_MBX_CTRL_STOPPED 1).raise Ev.KPR_MBX_DMA_ERR)) ∧
    (s.verdict who Reg.KPR_MBX_CTRL 0 0 0 v false = .accepted →
      t = s.wrReg Reg.KPR_MBX_CTRL 0 0 0 (Reg.KPR_MBX_CTRL.stored (s.rdReg Reg.KPR_MBX_CTRL 0 0 0) v) →
      exec (.mbxEnable who v) s = .next (if Fld.KPR_MBX_CTRL_EN.onIn v then t.wr Fld.KPR_MBX_CTRL_STOPPED 0 else t))) ∧
  (∀ (tag target : Nat) (c : MbxCmd) (s : State), s.mbxRuns tag opAbort = true → (s.mbx target = none → exec (.abort tag target) s = .next (s.reply tag .notFound 0 0 0 true)) ∧
    (s.mbx target = some c → exec (.abort tag target) s = .next ((s.stopCmd c).reply tag .ok 0 0 0 true))) ∧
  (∀ (c : MbxCmd) (s : State), s.replied c.tag = false → (c.started = false → s.stopCmd c = s.reply c.tag .aborted 0 0 0 true) ∧
    (c.started = true → c.opcode ≠ opBegin → c.opcode ≠ opPatchLoad → c.opcode ≠ opQueueMove → c.opcode ≠ opLrnFlush → s.stopCmd c = s) ∧
    (c.started = true → c.opcode = opLrnFlush → s.stopCmd c = (s.endFlush c.pipe c.tag).reply c.tag .aborted c.done 0 0 true) ∧
    (∀ p : Patch, c.started = true → c.opcode = opPatchLoad → s.kpr.patch = some p → p.tag = c.tag → s.stopCmd c = s.dropPatch c.tag)) ∧
  (∀ (tag i : Nat) (c : Ctr) (names : List (Ctr × Nat)) (m : MbxCmd) (s t : State), s.mbxRuns tag opCounterRead = true → s.mbx tag = some m → t = s.countNow names →
    exec (.counterRead tag names) s = .next (t.reply tag .ok 0 0 ((names.map (fun e => t.counterRead m.pipe m.all e.1 e.2)).foldr (fun v a => v + a * 2 ^ 64) 0) true) ∧
    (m.all = true → c.home.2 ≠ 0 → s.counterRead m.pipe m.all c i = s.ctr c i + s.ctr c (c.home.2 + i) + s.ctr c (2 * c.home.2 + i) + s.ctr c (3 * c.home.2 + i))) ∧
  ∀ (n : Note) (rest : List Note) (s t : State), s.kpr.notes = n :: rest → s.on Fld.HST_PCIE_STATUS_LINK_UP = true → t = { s with kpr := { s.kpr with notes := rest } } →
    (s.ntfFull = false → n.hold = false ∨ s.ups.held = [] → exec .notificationWrite s = .next (t.writeNote n.kind n.payload)) ∧
    (s.ntfFull = true → n.hold = false → n.kind ≠ 1 → exec .notificationWrite s = .next (t.bump .NAT_NOTIFY_DROP n.src)) ∧
    (s.ntfFull = true → n.hold = false → n.kind = 1 → exec .notificationWrite s = .next ((t.bump .LRN_NOTIFY_DROP n.src).raise Ev.LRN_NOTIFY_DROP .pipeline n.src)) ∧
    (s.ntfFull = true ∨ s.ups.held ≠ [] → n.hold = true → exec .notificationWrite s = .next ((({ t with ups := { t.ups with held := t.ups.held ++ [(n.kind, n.payload)] } } : State).bump .UPS_REPORT_DELAYED).raiseMs Ev.UPS_REPORT_DELAYED))

/-- For BUNDLE_ENABLE (bundleEnable), BUNDLE_TRAINED (bundleTrained), HELLO_RECEIVE (helloReceive), AUTH_RETRY (authRetry), AUTH_TIMEOUT (authTimeout), BUNDLE_RETRAIN_TIMER (bundleRetrainTimer), BUNDLE_DISABLE (bundleDisable), BUNDLE_CLOSE_EXPIRY (bundleCloseExpiry), HEARTBEAT_SEND (heartbeatSend), HEARTBEAT_LOSS (heartbeatLoss), FLEIT_LANE_FAIL (fleitLaneFail), SPARE_REQ_RECEIVE (spareReqReceive), SPARE_ACK (spareAck), SPARE_RETURN (spareReturn), LINK_TIME_SAMPLE (linkTimeSample) and STACK_MASTER_CHECK (stackMasterCheck). (1) Setting EN adds the bundle's rate to its pipeline and starts training, and is rejected when the sum would pass 1,400 units and the pipeline may not be oversubscribed. (2) A trained bundle enters AUTH. (3) A HELLO that verifies brings it UP; another keeps it in AUTH, to be tried again after 100 ms, and raises EVT 25.5 once; a peer of another mode, in a stack of the same ID, in a pair of another digest, is never joined. (4) AUTH of exactly 1 s without a HELLO ends, and 1 ms after DOWN an enabled bundle trains. (5) Clearing EN sends CLOSE and gives 100 us, and the bundle is DOWN once everything is acknowledged or they have passed. (6) A heartbeat is due every us, and a gap of exactly DETECT_US takes the bundle DOWN. (7) The first failed lane asks for the spare and raises EVT 25.0, a second takes the bundle DOWN, and a lane clean for 100 ms is the new spare. (8) 1,024 exchanges give a sample of reference 6, and a change of source is counted. (9) Two masters, or none for 1 s, raise EVT 25.11 once. -/
def Obligations.FleitBundlesComplete : Prop :=
  (∀ (who : Agent) (b p sum : Nat) (v : Word) (s t u : State), p = s.bundlePort b / 24 → sum = s.rd Fld.PRT_PIPE_STATUS_RATE_SUM p → s.on Fld.FLT_BUNDLE_CFG_EN 0 b = false →
    (s.on Fld.PRT_PIPE_CFG_OVERSUB p = false → 1400 < sum + s.bundleUnits b → s.verdict who Reg.FLT_BUNDLE_CFG 0 b 0 v true = .rejected → exec (.bundleEnable who b v) s = .next s.rejectWrite) ∧
    (s.on Fld.PRT_PIPE_CFG_OVERSUB p = true ∨ sum + s.bundleUnits b ≤ 1400 → s.verdict who Reg.FLT_BUNDLE_CFG 0 b 0 v false = .accepted →
      t = s.wrReg Reg.FLT_BUNDLE_CFG 0 b 0 (Reg.FLT_BUNDLE_CFG.stored (s.rdReg Reg.FLT_BUNDLE_CFG 0 b 0 (s.writeSlot Reg.FLT_BUNDLE_CFG 0)) v) (s.writeSlot Reg.FLT_BUNDLE_CFG 0) →
      t.on Fld.FLT_BUNDLE_CFG_EN 0 b = true → u = t.wr Fld.PRT_PIPE_STATUS_RATE_SUM (sum + t.bundleUnits b) p →
      exec (.bundleEnable who b v) s = .next (if u.on Fld.FLT_CTRL_EN = true ∧ u.rd Fld.FLT_BUNDLE_CFG_LANES 0 b ≠ 0 ∧ u.bundleState b = 0 then u.trainBundle b else u))) ∧
  (∀ (b : Nat) (s : State), s.bundleState b = 1 → exec (.bundleTrained b) s = .next ((((s.setBundle b ({ Bundle.init with enteredAt := s.now, hbAt := s.now }.queueControl 0 0)).wr Fld.FLT_BUNDLE_STATUS_STATE 2 0 b).wr
    Fld.FLT_BUNDLE_STATUS_ACTIVE_LANES (s.rd Fld.FLT_BUNDLE_CFG_LANES 0 b - 1) 0 b).wr Fld.FLT_BUNDLE_STATUS_SPARE_LANE (s.bundlePort b + (s.rd Fld.FLT_BUNDLE_CFG_LANES 0 b - 1)) 0 b)) ∧
  (∀ (b : Nat) (h : Hello) (s t : State), s.bundleState b = 2 → t = s.setBundle b { s.bundle b with heard := true, refused := true, retryAt := s.now + 100 * msClk } →
    (s.peerOk h = true → exec (.helloReceive b h) s = .next (s.bundleUp b h)) ∧
    (s.peerOk h = false → exec (.helloReceive b h) s = .next (if (s.bundle b).refused then t else t.raise Ev.FLT_PEER_REFUSED .port (s.bundlePort b)))) ∧
  (∀ (h : Hello) (s : State), s.peerOk h = true ↔ h.hasCert = true ∧ h.certSigOk = true ∧ (slotOfKey s.rind.fuses h.issuerHash).isSome = true ∧ h.nonceSigOk = true ∧ h.mode = s.rd Fld.FLT_SYS_CFG_MODE ∧ (s.inStack = true → h.devId ≠ s.rd Fld.FLT_SYS_CFG_DEV_ID) ∧
    (s.inPair = true → h.digest = s.flt.pairDigest)) ∧
  (∀ (b : Nat) (x : Bundle) (s : State), x = s.bundle b → s.bundleState b = 2 →
    (x.refused = true → exec (.authRetry b) s = .next (if x.retryAt ≤ s.now then s.setBundle b ({ x with retryAt := s.now + 100 * msClk }.queueControl 0 0) else s)) ∧
    (x.heard = false → exec (.authTimeout b) s = .next (if x.enteredAt + sClk ≤ s.now then s.bundleDown b false else s)) ∧ (x.heard = true → exec (.authTimeout b) s = .next s)) ∧
  (∀ (b : Nat) (s : State), s.bundleState b = 0 → s.on Fld.FLT_BUNDLE_CFG_EN 0 b = true → s.on Fld.FLT_CTRL_EN = true → s.rd Fld.FLT_BUNDLE_CFG_LANES 0 b ≠ 0 →
    exec (.bundleRetrainTimer b) s = .next (if (s.bundle b).enteredAt + msClk ≤ s.now then s.trainBundle b else s)) ∧
  (∀ (who : Agent) (b p : Nat) (v : Word) (s t u : State), p = s.bundlePort b / 24 → s.on Fld.FLT_BUNDLE_CFG_EN 0 b = true → s.verdict who Reg.FLT_BUNDLE_CFG 0 b 0 v false = .accepted →
    t = s.wrReg Reg.FLT_BUNDLE_CFG 0 b 0 (Reg.FLT_BUNDLE_CFG.stored (s.rdReg Reg.FLT_BUNDLE_CFG 0 b 0 (s.writeSlot Reg.FLT_BUNDLE_CFG 0)) v) (s.writeSlot Reg.FLT_BUNDLE_CFG 0) →
    t.on Fld.FLT_BUNDLE_CFG_EN 0 b = false → u = t.wr Fld.PRT_PIPE_STATUS_RATE_SUM (t.rd Fld.PRT_PIPE_STATUS_RATE_SUM p - t.bundleUnits b) p →
    exec (.bundleDisable who b v) s = .next (if u.bundleState b = 3 then u.setBundle b ({ u.bundle b with closing := some (u.now + 100 * usClk) }.queueControl 3 0) else u.bundleDown b true)) ∧
  (∀ (b at_ : Nat) (s : State), (s.bundle b).closing = some at_ →
    exec (.bundleCloseExpiry b) s = .next (if at_ ≤ s.now ∨ ((s.bundle b).unacked = [] ∧ ∀ g ∈ (s.bundle b).segments, g.chan ≠ .control) then s.bundleDown b true else s)) ∧
  (∀ (b t0 : Nat) (s : State), (s.bundleState b = 2 ∨ s.bundleState b = 3 → exec (.heartbeatSend b) s = .next (if (s.bundle b).hbAt + 1750 ≤ s.now then s.setBundle b { s.bundle b with hbDue := true, hbAt := s.now } else s)) ∧
    (s.bundleState b = 3 → (s.bundle b).lastHb = some t0 → exec (.heartbeatLoss b) s = .next (if t0 + s.rd Fld.FLT_SYS_CFG_DETECT_US * 1750 ≤ s.now then s.bundleDown b false else s))) ∧
  (∀ (b lane : Nat) (x y : Bundle) (s t : State), s.bundleState b = 3 → (s.bundleLanes b).contains lane = true → x = s.bundle b →
    exec (.spareReqReceive b lane) s = .next (s.setBundle b { x with txMoved := some lane }) ∧
    (x.failedLanes = [] → y = { x with failedLanes := Sparse.insert x.failedLanes lane s.now } → t = ((s.setBundle b y).bump .FLT_SPARES b).raise Ev.FLT_LANE_SPARED .lane lane →
      (lane ≠ s.rd Fld.FLT_BUNDLE_STATUS_SPARE_LANE 0 b → exec (.fleitLaneFail b lane) s = .next (t.setBundle b ({ y with nakDue := true, spareWait := some lane }.queueControl 1 lane))) ∧
      (lane = s.rd Fld.FLT_BUNDLE_STATUS_SPARE_LANE 0 b → exec (.fleitLaneFail b lane) s = .next t)) ∧
    ((Sparse.find x.failedLanes lane).isSome = true → exec (.fleitLaneFail b lane) s = .next (s.setBundle b { x with failedLanes := Sparse.insert x.failedLanes lane s.now })) ∧
    (x.failedLanes ≠ [] → Sparse.find x.failedLanes lane = none → exec (.fleitLaneFail b lane) s = .next (s.bundleDown b false)) ∧
    (x.spareWait = some lane → exec (.spareAck b) s = .next ((s.setBundle b ({ x with spareWait := none }.queueControl 2 lane)).wr Fld.FLT_BUNDLE_STATUS_SPARE_USED 1 0 b)) ∧
    (∀ t0 : Nat, Sparse.find x.failedLanes lane = some t0 → exec (.spareReturn b lane) s = .next (if t0 + 100 * msClk ≤ s.now then ((s.setBundle b { x with failedLanes := Sparse.erase x.failedLanes lane }).wr
      Fld.FLT_BUNDLE_STATUS_SPARE_LANE lane 0 b).wr Fld.FLT_BUNDLE_STATUS_SPARE_USED 0 0 b else s))) ∧
  (∀ (b : Nat) (x : Bundle) (s t u : State), s.on Fld.FLT_SYS_CFG_TIME_FROM_LINK = true → s.linkSource = some b → x = s.bundle b → 1024 ≤ x.sampleCount →
    t = (if s.flt.timeSource.isSome ∧ s.flt.timeSource ≠ some b then (s.setBundle b { x with sampleSum := 0, sampleCount := 0 }).bump .FLT_TIME_SOURCE_CHANGES else s.setBundle b { x with sampleSum := 0, sampleCount := 0 }) → u = { t with flt := { t.flt with timeSource := some b, linkTu := Heartbeat.TU.get x.peerHb } } →
    exec (.linkTimeSample b) s = .next (u.phaseSample6 (x.sampleSum / (x.sampleCount : Int) / 2 - psUnits (signedOf 32 (s.rd Fld.FLT_BUNDLE_TIME_ASYM_PS 0 b))))) ∧
  ∀ (masters : List Nat) (bad : Bool) (s t u : State), s.inStack = true → t = s.showStack →
    masters = ((if t.rd Fld.FLT_SYS_CFG_STACK_ROLE = 1 then [t.rd Fld.FLT_SYS_CFG_DEV_ID] else []) ++ ((List.range 4).filter (fun b => t.bundleState b == 3 && Heartbeat.STACK_ROLE.get (t.bundle b).peerHb == 1)).map
      (fun b => t.rd Fld.FLT_BUNDLE_STATUS_PEER_DEV 0 b)).eraseDups →
    bad = (decide (2 ≤ masters.length) || (masters.isEmpty && (match t.flt.firstUp with | some a => decide (a + sClk ≤ t.now) | none => false))) → u = { t with flt := { t.flt with masterBad := bad } } →
    exec .stackMasterCheck s = .next (if bad && !t.flt.masterBad then u.raise Ev.FLT_STACK_MASTER else u)

/-- For FLEIT_FRAME_SEND (fleitFrameSend), FLEIT_FRAME_RECEIVE (fleitFrameReceive), NAK_RECEIVE (nakReceive), REPLAY_TIMEOUT (replayTimeout), FLEIT_ACK_RECEIVE (fleitAckReceive) and CREDIT_STALL (creditStall). (1) In AUTH a heartbeat that is due leaves first, then CONTROL. (2) In UP a heartbeat leaves first, then an ACK, then what is sent again, then the first of CONTROL, EXPRESS, MIRROR and DATA that has a frame and a credit; a channel without credit waits, and 16,384 unacknowledged frames stop the sender. (3) In UP a frame with a bad CRC or length, or another FSEQ, is discarded, counted and answered by a NAK; one that breaks R629 takes the bundle DOWN and raises EVT 25.12; a good one is counted and advances the FSEQ modulo 2^24; in a pair one of an older generation is counted and makes the device SECONDARY (R650 read as it stands, log entry 116); in AUTH only heartbeats are taken. (4) An acknowledgement frees what it covers and returns credits. (5) A NAK, or 10 us without progress, sends again; the fourth time in a row takes the bundle DOWN and raises EVT 25.4. (6) A channel that has waited exactly 1 ms for credit while heartbeats arrive raises EVT 25.13 once. -/
def Obligations.FleitFramesComplete : Prop :=
  (∀ (b pick : Nat) (x : Bundle) (g : Segment) (r : List Segment) (s : State), s.bundleState b = 2 → x = s.bundle b →
    (x.hbDue = true → exec (.fleitFrameSend b pick) s = .next (s.sendHeartbeat b)) ∧
    (x.hbDue = false → x.segments = g :: r → exec (.fleitFrameSend b pick) s = .next ((s.setBundle b { x with segments := r }).sendFleit b 5 0 false g)) ∧
    (x.hbDue = false → x.segments = [] → exec (.fleitFrameSend b pick) s = .next s)) ∧
  (∀ (b pick : Nat) (x : Bundle) (s t : State), s.bundleState b = 3 → t = s.cutPacket b → x = t.bundle b →
    (x.hbDue = true → exec (.fleitFrameSend b pick) s = .next (t.sendHeartbeat b)) ∧
    (x.hbDue = false → x.ackDue = true ∨ x.nakDue = true → exec (.fleitFrameSend b pick) s = .next ((t.setBundle b { x with ackDue := false, nakDue := false }).sendFleit b 6 0 x.nakDue emptySegment)) ∧
    (∀ q : Nat, x.hbDue = false → x.ackDue = false → x.nakDue = false → x.resendFrom = some q → exec (.fleitFrameSend b pick) s = .next (t.sendAgain b q)) ∧
    (∀ (has : List (Chan × Segment)) (u : State), x.hbDue = false → x.ackDue = false → x.nakDue = false → x.resendFrom = none →
      has = [Chan.control, .express, .mirror, .data].filterMap (fun ch => (t.waiting b ch).map (fun g => (ch, g))) →
      u = t.setBundle b { x with waitSince := (has.filter (fun e => Sparse.get x.credits e.1.code 0 == 0)).foldl (fun m e => if (Sparse.find m e.1.code).isSome then m else Sparse.insert m e.1.code s.now) x.waitSince } →
      (16384 ≤ x.unacked.length → exec (.fleitFrameSend b pick) s = .next u) ∧
      (∀ (ch : Chan) (g : Segment), x.unacked.length < 16384 → has.find? (fun e => Sparse.get x.credits e.1.code 0 != 0) = some (ch, g) → exec (.fleitFrameSend b pick) s = .next (u.sendFrom b pick ch g)) ∧
      (has.find? (fun e => Sparse.get x.credits e.1.code 0 != 0) = none → exec (.fleitFrameSend b pick) s = .next u))) ∧
  (∀ (b : Nat) (hdr : BitVec 128) (p : List Byte) (crc : Word) (x : Bundle) (good : Bool) (s down : State), x = s.bundle b → (good = true ↔ crc = fleitCrc hdr p ∧ p.length = FleitHdr.LEN.get hdr) →
    down = ((s.bundleDown b false).bump .FLT_BAD_FRAME b).raise Ev.FLT_BAD_FRAME .port (s.bundlePort b) →
    (s.bundleState b = 3 → good = false → exec (.fleitFrameReceive b hdr p crc) s = .next ((s.bump .FLT_CRC_ERR b).setBundle b { x with nakDue := true })) ∧
    (s.bundleState b = 2 → good = false → exec (.fleitFrameReceive b hdr p crc) s = .next (s.bump .FLT_CRC_ERR b)) ∧
    (s.bundleState b = 3 ∨ s.bundleState b = 2 → good = true → s.frameBad b hdr p = true → exec (.fleitFrameReceive b hdr p crc) s = .next down) ∧
    (s.bundleState b = 2 → good = true → s.frameBad b hdr p = false → exec (.fleitFrameReceive b hdr p crc) s = .next (if FleitHdr.TYPE.get hdr = 4 then (s.bump .FLT_RX_FRAMES b).heartbeatIn b (BitVec.ofNat 384 (natOfBytes p)) else s)) ∧
    (∀ (numbered : Bool) (t : State), s.bundleState b = 3 → good = true → s.frameBad b hdr p = false → (numbered = true ↔ FleitHdr.TYPE.get hdr ≠ 4 ∧ FleitHdr.TYPE.get hdr ≠ 6) →
      t = (if numbered then (s.bump .FLT_RX_FRAMES b).setBundle b { x with rxFseq := (x.rxFseq + 1) % 2 ^ 24, ackDue := true } else s.bump .FLT_RX_FRAMES b) →
      (numbered = true → FleitHdr.FSEQ.get hdr ≠ x.rxFseq → exec (.fleitFrameReceive b hdr p crc) s = .next ((s.bump .FLT_CRC_ERR b).setBundle b { x with nakDue := true })) ∧
      (numbered = false ∨ FleitHdr.FSEQ.get hdr = x.rxFseq → t.staleGen (FleitHdr.PAIR_GEN.get hdr) = false → exec (.fleitFrameReceive b hdr p crc) s = .next (t.takeFrame b hdr p)) ∧
      (numbered = false ∨ FleitHdr.FSEQ.get hdr = x.rxFseq → t.staleGen (FleitHdr.PAIR_GEN.get hdr) = true →
        exec (.fleitFrameReceive b hdr p crc) s = .next ((t.bump .FLT_STALE_FRAMES).raiseMs Ev.FLT_STALE_FRAME .system).becomeSecondary))) ∧
  (∀ (b : Nat) (hdr : BitVec 128) (p : List Byte) (s : State), (∀ ty : Nat, FleitHdr.TYPE.get hdr = ty → ty = 0 ∨ 7 ≤ ty → s.frameBad b hdr p = true) ∧ (256 < FleitHdr.LEN.get hdr → s.frameBad b hdr p = true) ∧
    (FleitHdr.LEN.get hdr % 4 ≠ 0 → s.frameBad b hdr p = true) ∧ (FleitHdr.TYPE.get hdr = 4 → FleitHdr.LEN.get hdr ≠ 48 → s.frameBad b hdr p = true) ∧
    (s.bundleState b = 3 → FleitHdr.SRC_DEV.get hdr ≠ s.rd Fld.FLT_BUNDLE_STATUS_PEER_DEV 0 b → s.frameBad b hdr p = true) ∧ (s.bundleState b = 3 → FleitHdr.DST_DEV.get hdr ≠ s.rd Fld.FLT_SYS_CFG_DEV_ID → s.frameBad b hdr p = true)) ∧
  (∀ (b seq n : Nat) (ch : Chan) (s : State), s.bundleState b = 3 → exec (.nakReceive b seq) s = .next ((s.ackTo b seq).resendFrom b seq) ∧ exec (.fleitAckReceive b seq ch n) s = .next ((s.ackTo b seq).addCredit b ch.code n)) ∧
  (∀ (b seq : Nat) (k : KeptFrame) (l : List KeptFrame) (x : Bundle) (s : State), x = s.bundle b → x.unacked = k :: l →
    (s.bundleState b = 3 → exec (.replayTimeout b) s = .next (if x.progressAt + 17500 ≤ s.now then s.resendFrom b k.fseq else s)) ∧
    (x.resends < 3 → s.resendFrom b seq = s.setBundle b { x with resends := x.resends + 1, progressAt := s.now, resendFrom := some seq }) ∧
    (x.resends = 3 → s.resendFrom b seq = (s.bundleDown b false).raise Ev.FLT_REPLAY_FAIL .port (s.bundlePort b))) ∧
  ∀ (b t0 t1 : Nat) (ch : Chan) (x : Bundle) (s : State), x = s.bundle b → s.bundleState b = 3 → Sparse.find x.waitSince ch.code = some t0 → x.lastHb = some t1 → s.now < t1 + s.rd Fld.FLT_SYS_CFG_DETECT_US * usClk →
    (Sparse.get x.stalled ch.code false = false → exec (.creditStall b ch) s = .next (if t0 + msClk ≤ s.now then (s.setBundle b { x with stalled := Sparse.insert x.stalled ch.code true }).raise Ev.FLT_CREDIT_STALL .port (s.bundlePort b) else s)) ∧
    (Sparse.get x.stalled ch.code false = true → exec (.creditStall b ch) s = .next s)

/-- For PAIR_ELECTION (pairElection), MIRROR_APPEND (mirrorAppend), MIRROR_ACCEPT (mirrorAccept), MIRROR_APPLY (mirrorApply), TWIN_LOST (twinLost), YIELD_SEND (yieldSend), TAKEOVER (takeover), REJOIN_FILL (rejoinFill), RESYNC_WALK (resyncWalk) and SYNC_END_ACCEPT (syncEndAccept). (1) With the pair link UP and the device ALONE the lower priority, and of equal ones the lower identity, becomes PRIMARY and starts to fill its twin, the higher becomes SECONDARY; a device whose twin is PRIMARY becomes SECONDARY and one whose twin is SECONDARY PRIMARY; a PRIMARY fills its twin. (2) A change takes the next MSEQ; a refresh merges into the newest waiting update of its record, is appended below REFRESH_MARK, and is left to the write-back otherwise; at 4,096 updates a change waits, counted once, and raises EVT 25.9; outside a pair's PRIMARY it is dropped. (3) The SECONDARY accepts exactly the next MSEQ, counts an older one as a duplicate, and applies in that order once the share admits it. (4) A lost twin lets a SECONDARY in PROTECTED take over, clears what one in SYNC has received, and leaves a PRIMARY ALONE under the next generation, 65,535 wrapping to 1. (5) TAKEOVER sets the fence, applies what lies at or before it, and becomes PRIMARY, ALONE, raising EVT 25.7. (6) A device about to reset, or to lose a pseudo-channel, yields behind a FENCE. (7) A joining device fills its areas with zero, the walk copies the next item, then SYNC_END, and its acceptance makes the pair PROTECTED. -/
def Obligations.PairsMirrorTakeOverAndResynchronise : Prop :=
  (∀ (b theirs : Nat) (s u : State), s.twinLink = some b → s.rd Fld.FLT_PAIR_STATUS_STATE = 0 → theirs = Heartbeat.ROLE.get (s.bundle b).peerHb →
    u = { s.clearMirror.setPair 1 1 with flt := { (s.clearMirror.setPair 1 1).flt with resync := some 0, twinLost := false } } →
    (s.rd Fld.FLT_PAIR_STATUS_ROLE = 1 → exec .pairElection s = .next (if theirs = 1 then s else u)) ∧
    (s.rd Fld.FLT_PAIR_STATUS_ROLE ≠ 1 → theirs = 1 → exec .pairElection s = .next s.becomeSecondary) ∧
    (∀ h : Hello, s.rd Fld.FLT_PAIR_STATUS_ROLE ≠ 1 → theirs ≠ 1 → (s.bundle b).peer = some h → exec .pairElection s =
      .next (if theirs = 2 ∨ s.rd Fld.FLT_SYS_CFG_PAIR_PRIO < h.prio ∨ (s.rd Fld.FLT_SYS_CFG_PAIR_PRIO = h.prio ∧ serial.toNat < h.identity) then u else s.becomeSecondary))) ∧
  (∀ (u : MirrorUpd) (rest : List MirrorUpd) (s t : State), s.flt.mirrorWait = u :: rest → t = { s with flt := { s.flt with mirrorWait := rest, headWaits := false } } →
    (s.rd Fld.FLT_PAIR_STATUS_ROLE ≠ 1 ∨ s.rd Fld.FLT_PAIR_STATUS_STATE = 0 → exec .mirrorAppend s = .next t.payReplies) ∧ (s.rd Fld.FLT_PAIR_STATUS_ROLE = 1 → s.rd Fld.FLT_PAIR_STATUS_STATE ≠ 0 →
    (u.refresh = false ∨ u.kind ≠ 0 → s.flt.mirrorQ.length < 4096 → exec .mirrorAppend s = .next (t.enqueueUpdate u)) ∧
    (u.refresh = false ∨ u.kind ≠ 0 → 4096 ≤ s.flt.mirrorQ.length → exec .mirrorAppend s =
      .next ((if s.flt.headWaits then { s with flt := { s.flt with headWaits := true } } else ({ s with flt := { s.flt with headWaits := true } } : State).bump .FLT_MIRROR_WAIT).raiseMs Ev.FLT_MIRROR_FULL)) ∧
    (∀ w : MirrorUpd, u.refresh = true → u.kind = 0 → s.flt.mirrorQ.reverse.find? (fun w => w.kind == 0 && w.index == u.index && after32 w.mseq s.flt.mirrorNext) = some w →
      exec .mirrorAppend s = .next ((t.setMirrorQ (s.flt.mirrorQ.map (fun y => if y.mseq = w.mseq then { y with body := u.body } else y))).bump .FLT_MIRROR_MERGED)) ∧
    (u.refresh = true → u.kind = 0 → s.flt.mirrorQ.reverse.find? (fun w => w.kind == 0 && w.index == u.index && after32 w.mseq s.flt.mirrorNext) = none →
      exec .mirrorAppend s = .next (if s.flt.mirrorQ.length < s.rd Fld.FLT_PAIR_CFG_REFRESH_MARK then t.enqueueUpdate u else { t with flt := { t.flt with unsent := Sparse.insert t.flt.unsent u.index true } })))) ∧
  (∀ (u : MirrorUpd) (s : State), s.Canon → ∃ v : MirrorUpd, (s.enqueueUpdate u).flt.mirrorQ = s.flt.mirrorQ ++ [v] ∧ v.mseq = (s.rd Fld.FLT_MSEQ_TX_MSEQ + 1) % 2 ^ 32 ∧ v.kind = u.kind ∧ v.index = u.index ∧ v.body = u.body ∧
    (s.enqueueUpdate u).rd Fld.FLT_MSEQ_TX_MSEQ = v.mseq) ∧
  (∀ (e : Nat × MirrorUpd) (s t u : State), s.rd Fld.FLT_PAIR_STATUS_ROLE = 2 → t = { s with flt := { s.flt with rxUpdates := s.flt.rxUpdates.erase e } } →
    u = { t with flt := { t.flt with accepted := some e.2.mseq, applyQ := t.flt.applyQ ++ [e], fenceSeq := if e.2.kind = 3 then some e.2.fenceSeq else s.flt.fenceSeq, syncEnd := if e.2.kind = 4 then some e.2.mseq else s.flt.syncEnd } } →
    (s.flt.accepted = none → s.flt.rxUpdates.head? = some e → exec .mirrorAccept s = .next u) ∧
    (∀ a, s.flt.accepted = some a → s.flt.rxUpdates.find? (fun e => e.2.mseq == (a + 1) % 2 ^ 32) = some e → exec .mirrorAccept s = .next u) ∧
    (∀ a, s.flt.accepted = some a → s.flt.rxUpdates.find? (fun e => e.2.mseq == (a + 1) % 2 ^ 32) = none → s.flt.rxUpdates.find? (fun e => after32 a e.2.mseq) = some e →
      exec .mirrorAccept s = .next ((t.oweCredit e.1 2).bump .FLT_MIRROR_DUP))) ∧
  (∀ (b : Nat) (u : MirrorUpd) (rest : List (Nat × MirrorUpd)) (s t : State), s.flt.applyQ = (b, u) :: rest →
    (s.charge 0 (updateCharge u).1 (updateCharge u).2 (mirrorTag u.mseq) = (t, true) → exec .mirrorApply s = .next ((({ t with flt := { t.flt with applyQ := rest } } : State).applyUpdate u).oweCredit b 2)) ∧
    (s.charge 0 (updateCharge u).1 (updateCharge u).2 (mirrorTag u.mseq) = (t, false) → exec .mirrorApply s = .next t)) ∧
  (nextGen 65535 = 1 ∧ ∀ (g : Nat) (s : State), g < 65535 → nextGen g = g + 1 ∧ (s.inPair = true → s.rd Fld.FLT_PAIR_STATUS_STATE ≠ 0 → s.twinGone = true →
    (s.rd Fld.FLT_PAIR_STATUS_ROLE = 1 → exec .twinLost s = .next ((s.wr Fld.FLT_PAIR_STATUS_PAIR_GEN (nextGen (s.rd Fld.FLT_PAIR_STATUS_PAIR_GEN))).setPair 1 0).clearMirror) ∧
    (s.rd Fld.FLT_PAIR_STATUS_ROLE = 2 → exec .twinLost s = .next (if s.rd Fld.FLT_PAIR_STATUS_STATE = 2 then { s with flt := { s.flt with twinLost := true } } else { s with flt := { s.flt with applyQ := [], rxUpdates := [], accepted := none, fenceSeq := none, syncEnd := none, rejoinFilled := false } })))) ∧
  (∀ (f : Nat) (s t u v : State), s.flt.twinLost = true → s.rd Fld.FLT_PAIR_STATUS_ROLE = 2 → f = s.flt.fenceSeq.getD (s.flt.accepted.getD 0) →
    t = (s.wr Fld.FLT_FENCE_MSEQ f).wr Fld.FLT_PAIR_STATUS_PAIR_GEN (nextGen (s.rd Fld.FLT_PAIR_STATUS_PAIR_GEN)) →
    u = (t.flt.applyQ.filter (fun e => after32 f e.2.mseq)).foldl (fun (x : State) e => x.applyUpdate e.2) { t with flt := { t.flt with applyQ := [], rxUpdates := [] } } →
    v = { u with flt := { u.flt with twinLost := false, accepted := none, fenceSeq := none, syncEnd := none } } →
    exec .takeover s = .next (((v.setPair 1 0).bump .FLT_TAKEOVERS).raise Ev.FLT_TAKEOVER .system)) ∧
  (∀ s t : State, s.inPair = true → s.flt.yielding = false → s.flt.handOver = true ∨ s.yieldReset = true → s.rd Fld.FLT_PAIR_STATUS_ROLE ≠ 0 → t = (if s.rd Fld.FLT_PAIR_STATUS_ROLE = 1 then s.mirrorChange 3 0 0 0 0 false else s) →
    exec .yieldSend s = .next { t with flt := { t.flt with yielding := true, handOver := false } }) ∧
  (∀ s : State, s.Canon → s.rd Fld.FLT_PAIR_STATUS_ROLE = 2 → s.rd Fld.FLT_PAIR_STATUS_STATE = 1 → s.flt.rejoinFilled = false → ∃ t, exec .rejoinFill s = .next t ∧ t.flw.area = [] ∧ t.flw.gens = [] ∧ t.flw.seeds = [] ∧ t.flw.seedCopy = [] ∧ t.flw.sets = [] ∧ t.flw.whey = [] ∧ t.flw.freeBlocks = [] ∧ t.flw.portMap = [] ∧ t.ups.recs = [] ∧
    t.flt = { s.flt with rejoinFilled := true } ∧ t.rd Fld.UPS_STATUS_SESSIONS 0 = 0 ∧ ∀ k, k < 4 → t.rd Fld.FLW_SLICE_RECORDS_RECORDS k = 0) ∧
  (∀ (k at_ kind block index seed : Nat) (body : BitVec 1024) (s t : State), s.flt.resync = some k → s.rd Fld.FLT_PAIR_STATUS_ROLE = 1 → s.rd Fld.FLT_PAIR_STATUS_STATE = 1 →
    (s.resyncItem k = some (at_, kind, block, index, seed, body) → s.charge 0 actKeeper (if kind = 2 then 0 else 128) (mirrorTag 0x100000000) = (t, true) →
      exec .resyncWalk s = .next (({ t with flt := { t.flt with resync := some (at_ + 1) } } : State).resyncCopy kind block index seed body)) ∧
    (s.resyncItem k = some (at_, kind, block, index, seed, body) → s.charge 0 actKeeper (if kind = 2 then 0 else 128) (mirrorTag 0x100000000) = (t, false) → exec .resyncWalk s = .next t) ∧
    (s.resyncItem k = none → exec .resyncWalk s = .next (({ s with flt := { s.flt with resync := none } } : State).resyncCopy 4 0 0 0 0))) ∧
  ∀ (m : Nat) (s : State), s.flt.syncEnd = some m → s.rd Fld.FLT_PAIR_STATUS_STATE = 1 →
    (s.rd Fld.FLT_PAIR_STATUS_ROLE = 1 → exec .syncEndAccept s = .next (if after32 (s.rd Fld.FLT_MSEQ_ACC_MSEQ) m then (({ s with flt := { s.flt with syncEnd := none } } : State).setPair 1 2).raise Ev.FLT_SYNC_DONE .system else s)) ∧
    (s.rd Fld.FLT_PAIR_STATUS_ROLE = 2 → s.flt.rejoinFilled = true → exec .syncEndAccept s = .next ((({ s with flt := { s.flt with syncEnd := none } } : State).setPair 2 2).raise Ev.FLT_SYNC_DONE .system))

/-- For FUSE_READ (fuseRead), FUSE_BLOW (fuseBlow), PROVISION_APPLY (provisionApply), MANIFEST_VERIFY (manifestVerify), SECTION_HASH (sectionHash), SVN_COMMIT_DUE (svnCommitDue), SVN_RECHECK (svnRecheck) and PATCH_SVN_COMMIT (patchSvnCommit). (1) In phase 1 every fuse bit takes the value of at least two of its copies, and each bit whose copies differ is logged and raises EVT 26.9. (2) The next bit of a field being programmed becomes 1 in every copy and no other bit changes. (3) A set field takes no request, a revocation needs another usable slot and another signer, and a refused request refuses the image with code 7. (4) A malformed manifest fails the attempt; one that fails a check is refused with the first code of Table 23.2, and one of exactly IMAGE_SVN is not refused for its version. (5) A section with another digest refuses the image with code 5, a bad tag, or a key section while no KWK is set, with code 6; a full key store fails the attempt; the last section accepts the image, and without provisioning makes its CAKs usable. (6) 600 s after the Transmitter enable phase a committed image of slot A or B raises IMAGE_SVN to its version when the golden slot allows it, and waits another 600 s otherwise. (7) PATCH_SVN advances after 600 s. -/
def Obligations.ImagesAndVersionsAreVerified : Prop :=
  (∀ (vote odd : BitVec 2048) (s t : State), s.rst.phaseNext = 1 → s.rst.asserted = false → s.rst.run = none → (∀ i, i < 2048 → vote.getLsbD i = (decide (2 ≤ (s.rind.fuse0.getLsbD i).toNat + (s.rind.fuse1.getLsbD i).toNat + (s.rind.fuse2.getLsbD i).toNat))) →
    odd = (s.rind.fuse0 ^^^ s.rind.fuse1) ||| (s.rind.fuse0 ^^^ s.rind.fuse2) → t = ({ s with rind := { s.rind with fuses := vote, fusesRead := true } } : State).showFuses →
    exec .fuseRead s = .next ((onesIn 2048 odd.toNat).foldl (fun (u : State) i => (u.tamper 6 (fuseField i / 8)).raise Ev.RND_FUSE_ERR) t)) ∧
  (∀ (i : Nat) (rest : List Nat) (s : State), i < 2048 → s.rind.blow = i :: rest → ∃ t, exec .fuseBlow s = .next t ∧ t.rind.blow = rest ∧ (∀ j, j < 2048 → t.rind.fuses.getLsbD j = (s.rind.fuses.getLsbD j || j == i)) ∧
    (∀ j, j < 2048 → t.rind.fuse2.getLsbD j = (s.rind.fuse2.getLsbD j || j == i)) ∧ t.rind.keys = s.rind.keys ∧ t.ctrs = s.ctrs) ∧
  (∀ (w : BitVec 2048) (signer h : BitVec 384) (k : BitVec 256), (Fuse.OWNER0_SET.on w = true → provisionBits w signer (.ownerHash 0 h) = none) ∧ (Fuse.DEBUG_SET.on w = true → provisionBits w signer (.debugHash h) = none) ∧
    (Fuse.KWK_SET.on w = true → provisionBits w signer (.kwk true k) = none) ∧ (ownerUsable w 1 = false → provisionBits w signer (.revoke 0) = none) ∧ (ownerHash w 1 = signer.toNat → provisionBits w signer (.revoke 1) = none)) ∧
  (∀ (a : Attempt) (m : Manifest) (ps : List Provision) (s t : State), s.img.attempt = some a → a.manifest = some m → a.provisioned = false → a.sectionsPassed = m.sections.length →
    (ps.any kwkBad = true → exec (.provisionApply ps) s = .next (s.refuseImage 6)) ∧
    (ps.any kwkBad = false → provisionAll m.signerHash s.rind.fuses ps = none → exec (.provisionApply ps) s = .next (s.refuseImage 7)) ∧
    (∀ bits : List Nat, ps.any kwkBad = false → provisionAll m.signerHash s.rind.fuses ps = some bits → t = s.setAttempt { a with provisioned := true } →
      exec (.provisionApply ps) s = .next (({ t with rind := { t.rind with blow := bits } } : State).useImageCaks))) ∧
  (∀ (a : Attempt) (m : Manifest) (s : State), s.img.attempt = some a → a.manifest = none →
    (badHeader s.stride a.slot m = true → exec (.manifestVerify m) s = .next (s.failAttempt 2)) ∧
    (badHeader s.stride a.slot m = false → s.rind.refusal m ≠ 0 → exec (.manifestVerify m) s = .next (s.refuseImage (s.rind.refusal m))) ∧
    (badHeader s.stride a.slot m = false → s.rind.refusal m = 0 → exec (.manifestVerify m) s = .next (s.setAttempt { a with manifest := some m }))) ∧
  (∀ (r : Rind) (m : Manifest), (owned r.fuses = true → (slotOfKey r.fuses m.signerHash).isSome = true → (m.sigOk = false → r.refusal m = 3) ∧ (m.sigOk = true → m.svn < r.imageSvn → r.refusal m = 4) ∧ (m.sigOk = true → r.imageSvn ≤ m.svn → r.refusal m = 0)) ∧
    (owned r.fuses = true → slotOfKey r.fuses m.signerHash = none → r.refusal m = 1 ∨ r.refusal m = 2)) ∧
  (∀ (a : Attempt) (m : Manifest) (x : Section) (d : BitVec 384) (tagOk : Bool) (keys : List (WrappedCak × List Nat)) (s t u : State), s.img.attempt = some a → a.manifest = some m → m.sections[a.sectionsPassed]? = some x →
    (d ≠ x.digest → exec (.sectionHash d tagOk keys) s = .next (s.refuseImage 5)) ∧
    (d = x.digest → (x.kind = 6 ∧ tagOk = false) ∨ (x.kind = 5 ∧ (tagOk = false ∨ Fuse.KWK_SET.on s.rind.fuses = false)) → exec (.sectionHash d tagOk keys) s = .next (s.refuseImage 6)) ∧
    (d = x.digest → (x.kind = 6 → tagOk = true) → (x.kind = 5 → tagOk = true ∧ Fuse.KWK_SET.on s.rind.fuses = true) →
      (s.storeCaks (if x.kind = 5 then keys else []) = none → exec (.sectionHash d tagOk keys) s = .next (s.failAttempt 4)) ∧
      (∀ asks : Bool, s.storeCaks (if x.kind = 5 then keys else []) = some t → asks = m.sections.any (fun y => y.kind == 6) →
        u = t.setAttempt { a with sectionsPassed := a.sectionsPassed + 1, provisioned := a.sectionsPassed + 1 == m.sections.length && !asks } →
        exec (.sectionHash d tagOk keys) s = .next (if a.sectionsPassed + 1 = m.sections.length then (if asks then u.acceptImage m else (u.acceptImage m).useImageCaks) else u)))) ∧
  (∀ (t0 : Nat) (g : Manifest) (s : State), (s.rind.runSince = some t0 → s.rind.imageCommit = true → s.rind.recheckAt = none → s.rd Fld.IMG_STATUS_SLOT < 2 → s.rind.imageSvn < s.rd Fld.RND_SVN_LOADED_SVN →
      exec (.svnCommitDue g) s = .next (if t0 + 600 * sClk ≤ s.now then s.commitSvn g else s)) ∧
    (s.rind.recheckAt = some t0 → exec (.svnRecheck g) s = .next (if t0 + 600 * sClk ≤ s.now then s.commitSvn g else s))) ∧
  (∀ (v n : Nat) (g : Manifest) (s t : State), v = s.rd Fld.RND_SVN_LOADED_SVN → n = s.rind.imageSvn →
    (s.goldenAllows g = true → t = { s with rind := { s.rind with blow := s.rind.blow ++ (List.range (min 64 v - n)).map (fun i => 1408 + n + i), recheckAt := none, runSince := none } } →
      s.commitSvn g = ((t.wr Fld.RND_SVN_COMMIT_PENDING 0).tamper 9 v).raise Ev.RND_SVN_COMMIT .device 0 v) ∧
    (s.goldenAllows g = false → t = { s with rind := { s.rind with recheckAt := some s.now } } → s.commitSvn g = (t.wr Fld.RND_SVN_COMMIT_PENDING 1).raise Ev.RND_SVN_DEFERRED)) ∧
  ∀ (v t0 n : Nat) (s u : State), s.rind.patchCommit = some (v, t0) → n = s.rind.patchSvn → u = { s with rind := { s.rind with blow := s.rind.blow ++ (List.range (min 32 v - n)).map (fun i => 1472 + n + i), patchCommit := none } } →
    (s.now < t0 + 600 * sClk → exec .patchSvnCommit s = .next s) ∧ (t0 + 600 * sClk ≤ s.now → n < min 32 v → exec .patchSvnCommit s = .next ((u.tamper 9 v).raise Ev.RND_SVN_COMMIT .device 0 v)) ∧
    (t0 + 600 * sClk ≤ s.now → min 32 v ≤ n → exec .patchSvnCommit s = .next u)

/-- For CERT_INSTALL (certInstall), ATTEST (attest), ATTEST_REPORT_DONE (attestReportDone), DEBUG_CHALLENGE (debugChallenge), CHALLENGE_EXPIRY (challengeExpiry), DEBUG_RESPONSE (debugResponse), RNG_HEALTH_FAIL (rngHealthFail), RNG_HEALTH_PASS (rngHealthPass), GLITCH_TRIP (glitchTrip), KEY_WRITE (keyWrite) and CAK_RETIRE (cakRetire). (1) Every RND_CMD write while BUSY is 1 is rejected. (2) An owner certificate is installed once, for the device's own keys and a usable issuer; otherwise RESULT reads refused. (3) ATTEST takes the report of its instant and sets BUSY, and its end shows the report, clears BUSY and answers OK. (4) A challenge is refused while the generator has failed and ends after exactly 60 s. (5) A response is refused, logged and counted without a live challenge, a good signature, an accepted key, or with scope bit 2 for the owner key, and always once DEBUG_LOCKED; the third refusal locks. An accepted one zeroises the key store and every SA, is logged and opens the gate. (6) A failed generator test and a passed window set RNG_OK. (7) A trip ends the operation in progress, zeroises the key store, is logged and fails the attempt. (8) KEY_WRITE answers NO_RIGHT, BAD_RULE, BAD_KEY, BUSY, FULL, or OK with the handle, in that order. (9) Once the new CAK's association has its first SA in use, each retiring CAK is zeroised with its SAs, and its generation advances; until then nothing changes. -/
def Obligations.KeysDebugAndAttestationComplete : Prop :=
  (∀ (who : Agent) (h : BitVec 384) (ok : Bool) (s : State), s.on Fld.RND_CMD_BUSY = true → (∀ k, k < 4 → s.verdict who Reg.RND_CMD 0 0 0 (BitVec.ofNat 32 (2 ^ k)) true = .rejected) →
    exec (.attest who) s = .next s.rejectWrite ∧ exec (.certInstall who h ok) s = .next s.rejectWrite ∧ exec (.debugChallenge who) s = .next s.rejectWrite ∧ exec (.debugResponse who h ok) s = .next s.rejectWrite) ∧
  (∀ (who : Agent) (h : BitVec 384) (ok good : Bool) (c : BitVec 3168) (s : State), s.on Fld.RND_CMD_BUSY = false → s.verdict who Reg.RND_CMD 0 0 0 8 false = .accepted → c = BitVec.ofNat 3168 (s.winNat 99) →
    (good = true ↔ Cert.KIND.get c = 2 ∧ Cert.ID_PUB.get c = identityPub.toNat ∧ Cert.TRANSPORT_PUB.get c = transportPub.toNat ∧ (slotOfKey s.rind.fuses h).isSome = true ∧ ok = true ∧ s.rind.ownerCert = none) →
    exec (.certInstall who h ok) s = .next ((if good then { s with rind := { s.rind with ownerCert := some c } } else s).rndResult good)) ∧
  (∀ (who : Agent) (s t : State), s.on Fld.RND_CMD_BUSY = false → s.verdict who Reg.RND_CMD 0 0 0 1 false = .accepted → t = { s with rind := { s.rind with op := some { kind := 0, at_ := s.now, report := s.attestReport } } } →
    exec (.attest who) s = .next ((t.wr Fld.RND_CMD_BUSY 1).wr Fld.RND_CMD_RESULT 0)) ∧
  (∀ (o : RndOp) (s t : State), s.rind.op = some o → t = { s with rind := { s.rind with op := none, winOut := winWords 88 o.report } } → exec .attestReportDone s = .next ((t.wr Fld.RND_CMD_BUSY 0).wr Fld.RND_CMD_RESULT 1)) ∧
  (∀ (who : Agent) (s : State), s.on Fld.RND_CMD_BUSY = false → s.verdict who Reg.RND_CMD 0 0 0 2 false = .accepted → (s.on Fld.RND_STATUS_RNG_OK = false → exec (.debugChallenge who) s = .next (s.rndResult false)) ∧
    (s.on Fld.RND_STATUS_RNG_OK = true → ∃ (c : BitVec 512) (t : State), exec (.debugChallenge who) s = .next (t.rndResult true) ∧ t = { s with fresh := s.fresh + 1, rind := { s.rind with challenge := some { bits := c, at_ := s.now }, winOut := winWords 16 c } })) ∧
  (∀ (c : Challenge) (s : State), s.rind.challenge = some c → exec .challengeExpiry s = .next (if c.at_ + 60 * sClk ≤ s.now then { s with rind := { s.rind with challenge := none } } else s)) ∧
  (∀ (who : Agent) (h : BitVec 384) (ok : Bool) (k scope : Nat) (live : Bool) (s u a b : State), s.on Fld.RND_CMD_BUSY = false → s.verdict who Reg.RND_CMD 0 0 0 4 false = .accepted → scope = s.rd Fld.RND_DBG_SCOPE_SCOPE →
    live = s.rind.challenge.elim false (fun c => decide (s.now < c.at_ + 60 * sClk)) → u = { s with rind := { s.rind with challenge := none } } →
    (s.debugKey h = none → exec (.debugResponse who h ok) s = .next u.debugFail) ∧
    (s.debugKey h = some k → live = false ∨ ok = false ∨ s.on Fld.RND_STATUS_DEBUG_LOCKED = true ∨ (k = 1 ∧ 4 ≤ scope) → exec (.debugResponse who h ok) s = .next u.debugFail) ∧
    (s.debugKey h = some k → live = true → ok = true → s.on Fld.RND_STATUS_DEBUG_LOCKED = false → k ≠ 1 ∨ scope < 4 → a = u.zeroise.zeroiseSas.tamper 1 scope →
      b = { a with rind := { a.rind with debugSeen := true, debugVirong := k == 2, gateScope := scope } } →
      exec (.debugResponse who h ok) s = .next ((((b.wr Fld.RND_STATUS_DEBUG_OPEN 1).wr Fld.RND_STATUS_DEBUG_KIND k).raise Ev.RND_DEBUG_OPEN).rndResult true))) ∧
  (∀ s u : State, u = (((({ s with rind := { s.rind with debugFails := s.rind.debugFails + 1 } } : State).bump .RND_DEBUG_FAILS).tamper 2 (s.rd Fld.RND_DBG_SCOPE_SCOPE)).raise Ev.RND_DEBUG_AUTH_FAIL).rndResult false →
    (s.rind.debugFails = 2 → s.debugFail = (u.wr Fld.RND_STATUS_DEBUG_LOCKED 1).tamper 7 0) ∧ (s.rind.debugFails ≠ 2 → s.debugFail = u)) ∧
  (∀ s : State, s.Canon → (∃ t, exec .rngHealthPass s = .next t ∧ t.on Fld.RND_STATUS_RNG_OK = true ∧ OnlyRegs s t [Reg.RND_STATUS.key 0 0 0]) ∧
    exec .rngHealthFail s = .next (((s.wr Fld.RND_STATUS_RNG_OK 0).tamper 8 0).raise Ev.RND_RNG_FAIL)) ∧
  (∀ (n : Nat) (s t : State), t = (if s.rind.op.isSome then ({ s with rind := { s.rind with op := none } } : State).wr Fld.RND_CMD_BUSY 0 else s) → exec (.glitchTrip n) s = .next (((t.zeroise.tamper 5 n).raise Ev.RND_TAMPER).failAttempt 6)) ∧
  (∀ s : State, s.zeroise.rind.keys = [] ∧ s.zeroise.rind.keyGen = s.rind.keyGen) ∧
  (∀ (tag p : Nat) (key : WrappedCak) (s : State), s.mbxRuns tag opKeyWrite = true → p = key.port →
    (s.onP Fld.MSC_PORT_CFG_KEY_SOURCE p = false → exec (.keyWrite tag key) s = .next ((s.violation 3 0 opKeyWrite).reply tag .noRight 0 0 0 true)) ∧
    (s.onP Fld.MSC_PORT_CFG_KEY_SOURCE p = true → key.bytes ≠ (if s.rdP Fld.MSC_PORT_CFG_CIPHER p % 2 = 0 then 16 else 32) → exec (.keyWrite tag key) s = .next (s.reply tag .badRule 0 0 0 true)) ∧
    (s.onP Fld.MSC_PORT_CFG_KEY_SOURCE p = true → key.bytes = (if s.rdP Fld.MSC_PORT_CFG_CIPHER p % 2 = 0 then 16 else 32) →
      (key.tagOk = false ∨ Fuse.KWK_SET.on s.rind.fuses = false → exec (.keyWrite tag key) s = .next (s.reply tag .badKey 0 0 0 true)) ∧
      (key.tagOk = true → Fuse.KWK_SET.on s.rind.fuses = true → 2 ≤ (s.hostCaks p).length → exec (.keyWrite tag key) s = .next (s.reply tag .busy 0 0 0 true)) ∧
      (key.tagOk = true → Fuse.KWK_SET.on s.rind.fuses = true → (s.hostCaks p).length < 2 → s.freeCak = none → exec (.keyWrite tag key) s = .next (s.reply tag .full 0 0 0 true)) ∧
      (∀ (i : Nat) (t u : State), key.tagOk = true → Fuse.KWK_SET.on s.rind.fuses = true → (s.hostCaks p).length < 2 → s.freeCak = some i →
        t = { s with rind := { s.rind with keys := s.rind.keys.map (fun e => if (s.hostCaks p).contains e.1 then (e.1, { e.2 with retiring := true }) else e) } } →
        u = t.putCak i { cak := key.key, ckn := key.ckn, bytes := key.bytes, ports := [p], host := true, usable := true, retiring := false } →
        exec (.keyWrite tag key) s = .next ((u.bump .RND_KEY_WRITES).reply tag .ok 0 0 (Sparse.get s.rind.keyGen i 0 * 512 + i) true)))) ∧
  ∀ (port : Nat) (s : State), exec (.cakRetire port) s = .next (if s.newSaUsed port then ((s.hostCaks port).filter (fun i => (Sparse.find s.rind.keys i).elim false CakSlot.retiring)).foldl (fun (t : State) i => t.dropAssociation port i) s else s) ∧
    (∀ i a : Nat, Sparse.find (s.secy port).cakAn a = some i → Sparse.find ((s.dropAssociation port i).secy port).txSas a = none ∧ ∀ c ∈ ((s.dropAssociation port i).secy port).rx, Sparse.find c.sas a = none) ∧
    ∀ i : Nat, Sparse.wf s.rind.keys = true → Sparse.wf s.rind.keyGen = true → Sparse.find (s.dropCak i).rind.keys i = none ∧ Sparse.get (s.dropCak i).rind.keyGen i 0 = (Sparse.get s.rind.keyGen i 0 + 1) % 128

/-- For ATTEMPT_START (attemptStart), FLASH_READ (flashRead), FLASH_READ_TIMEOUT (flashReadTimeout), ATTEMPT_FAIL (attemptFail), PHASE_TIMEOUT (phaseTimeout), NO_IMAGE_RETRY (noImageRetry), FLASH_OP_READ (flashOpRead), FLASH_OP_PROGRAM (flashOpProgram), FLASH_OP_ERASE (flashOpErase), FLASH_OP_TIMEOUT (flashOpTimeout) and FLASH_OP_DONE (flashOpDone). (1) In phase 6 the first slot of preferred, other, golden whose count is below 3 is counted and started; with every count at 3 the device enters NO_IMAGE and raises EVT 27.2. (2) A good read clears the failures in a row, and the first enters the mode the SFDP tables allow; a failed one is repeated, and the fourth in a row raises EVT 27.3 and fails the attempt with cause 1. (3) An attempt fails with its cause, and with cause 8 exactly 10 s after its first read. (4) A failed attempt leaves no attempt, an empty key store and release at phase 6. (5) After 60 s in NO_IMAGE the counts are 0 again. (6) A flash operation of the host that no case of R702 refuses sets BUSY; one refused is rejected. (7) A read fills the 64 data words; a program answers OK when the page reads back, VERIFY_FAIL otherwise; an erase at the start of slot A or B clears its count. (8) A program of exactly 5 ms, and an erase of exactly 3 s, end with TIMEOUT. -/
def Obligations.ImageAttemptsAndFlashComplete : Prop :=
  (∀ (k : Nat) (x : Bool) (s t : State), s.inLoadPhase = true → s.img.attempt = none → s.img.noImageSince = none →
    (s.nextSlot = some k → exec (.attemptStart x) s = .next (s.startAttempt k x)) ∧
    (s.nextSlot = none → t = { s with img := { s.img with noImageSince := some s.now } } → exec (.attemptStart x) s = .next ((t.wr Fld.IMG_STATUS_STATE 3).raise Ev.IMG_NO_IMAGE))) ∧
  (∀ (p : Nat) (s : State), p = s.rd Fld.IMG_PREFER_SLOT → (s.rd (cntFld p) < 3 → s.nextSlot = some p) ∧ (3 ≤ s.rd (cntFld p) → s.rd (cntFld (1 - p)) < 3 → s.nextSlot = some (1 - p)) ∧
    (3 ≤ s.rd (cntFld p) → 3 ≤ s.rd (cntFld (1 - p)) → s.rd Fld.IMG_ATTEMPTS_CNT_G < 3 → s.nextSlot = some 2) ∧ (3 ≤ s.rd (cntFld p) → 3 ≤ s.rd (cntFld (1 - p)) → 3 ≤ s.rd Fld.IMG_ATTEMPTS_CNT_G → s.nextSlot = none)) ∧
  (∀ (k : Nat) (x : Bool) (s : State), s.Canon → k < 3 → s.rd (cntFld k) < 3 → ∃ a : Attempt, (s.startAttempt k x).img.attempt = some a ∧ a.slot = k ∧ a.startedAt = s.now ∧ a.manifest = none ∧ a.readFails = 0 ∧
    (s.startAttempt k x).rd (cntFld k) = s.rd (cntFld k) + 1 ∧ (s.startAttempt k x).rd Fld.IMG_STATUS_SLOT = k ∧ (s.startAttempt k x).rd Fld.IMG_STATUS_STATE = 1 ∧ (s.startAttempt k x).rd Fld.IMG_NVM_STATUS_MODE = 0 ∧
    a.enter = some (if s.pins.strapHeld.toNat / 4 % 2 = 1 ∧ x = true then 2 else 1)) ∧
  (∀ (n c : Nat) (a : Attempt) (s t : State), s.img.attempt = some a → t = s.setAttempt { a with readFails := 0, enter := none } →
    (n ≤ 4096 → (∀ m, a.enter = some m → exec (.flashRead n true) s = .next (t.wr Fld.IMG_NVM_STATUS_MODE m)) ∧ (a.enter = none → exec (.flashRead n true) s = .next t)) ∧
    (n ≤ 4096 → a.readFails < 3 → exec (.flashRead n false) s = .next (s.setAttempt { a with readFails := a.readFails + 1 })) ∧ (n ≤ 4096 → 3 ≤ a.readFails → exec (.flashRead n false) s = .next ((s.raise Ev.IMG_NVM_TIMEOUT).failAttempt 1)) ∧
    (a.readFails < 3 → exec .flashReadTimeout s = .next (s.setAttempt { a with readFails := a.readFails + 1 })) ∧ (3 ≤ a.readFails → exec .flashReadTimeout s = .next ((s.raise Ev.IMG_NVM_TIMEOUT).failAttempt 1)) ∧
    (c ≠ 7 → exec (.attemptFail c) s = .next (s.failAttempt c)) ∧ (s.rst.phaseNext < 9 → exec .phaseTimeout s = .next (if a.startedAt + 10 * sClk ≤ s.now then s.failAttempt 8 else s))) ∧
  (∀ (a : Attempt) (c : Nat) (s : State), s.img.attempt = some a → (s.failAttempt c).img.attempt = none ∧ (s.failAttempt c).rst.phaseNext = 6 ∧ (s.failAttempt c).rind.keys = [] ∧ (s.failAttempt c).img.failedAt = some s.now) ∧
  (∀ (t0 : Nat) (s u : State), s.img.noImageSince = some t0 → (s.now < t0 + 60 * sClk → exec .noImageRetry s = .next s) ∧ (t0 + 60 * sClk ≤ s.now → u = ((s.wr Fld.IMG_ATTEMPTS_CNT_A 0).wr Fld.IMG_ATTEMPTS_CNT_B 0).wr Fld.IMG_ATTEMPTS_CNT_G 0 →
    exec .noImageRetry s = .next (({ u with img := { u.img with noImageSince := none } } : State).wr Fld.IMG_STATUS_STATE 1))) ∧
  (∀ (who : Agent) (op : Nat) (v : Word) (s t u : State), v = BitVec.ofNat 32 (4 + op) → t = s.wrReg Reg.IMG_FLASH_CMD 0 0 0 (Reg.IMG_FLASH_CMD.stored (s.rdReg Reg.IMG_FLASH_CMD 0 0 0) v) →
    (s.flashRefused op = true ∧ s.verdict who Reg.IMG_FLASH_CMD 0 0 0 v true = .rejected ∧ u = s.rejectWrite) ∨ (s.flashRefused op = false ∧ s.verdict who Reg.IMG_FLASH_CMD 0 0 0 v false = .accepted ∧
      u = ({ t with img := { t.img with flashOp := some { op := op, addr := t.rd Fld.IMG_FLASH_ADDR_ADDR, at_ := t.now, data := (List.range 64).map (fun w => t.rdReg Reg.IMG_FLASH_DATA 0 w 0) } } } : State).wr Fld.IMG_FLASH_CMD_BUSY 1) →
    (op = 0 → exec (.flashOpRead who) s = .next u) ∧ (op = 1 → exec (.flashOpProgram who) s = .next u) ∧ (op = 2 → exec (.flashOpErase who) s = .next u)) ∧
  (∀ (op : Nat) (s : State), s.on Fld.IMG_FLASH_CMD_BUSY = true ∨ (op = 1 ∧ s.rd Fld.IMG_FLASH_ADDR_ADDR % 256 ≠ 0) ∨ (op = 2 ∧ s.rd Fld.IMG_FLASH_ADDR_ADDR % 65536 ≠ 0) ∨ 3 * s.stride < s.rd Fld.IMG_FLASH_ADDR_ADDR + flashLen op ∨ s.img.attempt.isSome = true →
    s.flashRefused op = true) ∧
  (∀ (f : FlashOp) (l : List Word) (s : State), s.img.flashOp = some f → (f.op = 0 → exec (.flashOpDone l) s = .next ((List.range 64).foldl (fun (t : State) w => t.wr Fld.IMG_FLASH_DATA_DATA (l.getD w 0).toNat 0 w) (s.flashEnd 0))) ∧
    (f.op = 1 → l = f.data → exec (.flashOpDone l) s = .next (s.flashEnd 0)) ∧ (f.op = 1 → l ≠ f.data → exec (.flashOpDone l) s = .next ((s.flashEnd 3).raise Ev.IMG_FLASH_ERR)) ∧
    (f.op = 2 → f.addr = 0 → exec (.flashOpDone l) s = .next ((s.flashEnd 0).wr Fld.IMG_ATTEMPTS_CNT_A 0)) ∧ (f.op = 2 → f.addr ≠ 0 → exec (.flashOpDone l) s = .next (if f.addr = s.stride then (s.flashEnd 0).wr Fld.IMG_ATTEMPTS_CNT_B 0 else s.flashEnd 0))) ∧
  ∀ (f : FlashOp) (s : State), s.img.flashOp = some f → (f.op = 1 → exec .flashOpTimeout s = .next (if f.at_ + 5 * msClk ≤ s.now then (s.flashEnd 2).raise Ev.IMG_FLASH_ERR else s)) ∧
    (f.op = 2 → exec .flashOpTimeout s = .next (if f.at_ + 3 * sClk ≤ s.now then (s.flashEnd 2).raise Ev.IMG_FLASH_ERR else s)) ∧ (f.op = 0 → exec .flashOpTimeout s = .next s)

/-- For FUNCTION_LEVEL_RESET (functionLevelReset), PERST_ASSERT (perstAssert), PERST_RELEASE (perstRelease), PCIE_LINK_UP (pcieLinkUp), BAR0_READ_TIMEOUT (bar0ReadTimeout), RX_RING_DELIVER (rxRingDeliver), TX_DESCRIPTOR (txDescriptor), RING_TAIL_WRITE (ringTailWrite), RING_DISABLE (ringDisable), RING_VECTOR_COALESCE (ringVectorCoalesce), DMA_TIMEOUT (dmaTimeout), MGS_TRANSACTION (mgsTransaction) and MGS_BUS_TIMEOUT (mgsBusTimeout). (1) A function-level reset resets the HST block alone, as does PERST_N low for 1 us with fuse PCIE_DIS at 0; a low of 0.9 us or less does not, and between the two either may happen. (2) The link shows its speed and width once the endpoint is out of reset. (3) A BAR0 read that times out answers all ones and raises EVT 28.3. (4) A ready receive ring delivers its oldest staged packet, and stops with EVT 28.2 at a bad descriptor. (5) A bad transmit descriptor completes with STATUS 1; a good one injects its frame, or goes to its base queue, or completes with STATUS 2 when it is not admitted. (6) A tail of exactly the ring size is taken, one more is rejected, as are a disabled ring and a partial write (R12). Of the rest of BAR2 the MSI-X table takes writes, the pending bits ignore them, and no other offset takes any. (7) Clearing EN discards what is staged, but for the packet in progress. (8) A vector goes out no sooner than COALESCE_US after the last. (9) A failed transfer stops the ring with EVT 28.1. (10) The serial port answers its words most significant byte first with a PEC, NACKs a third byte (the choices of log entry 119), and answers 0xFFFFFFFF outside the map, which it counts. -/
def Obligations.HostPortsAndManagementSerialComplete : Prop :=
  (∀ (cause : FlrCause) (n : Nat) (s t : State), exec (.functionLevelReset cause) s = .next ((if cause = .clkLost then s.wr Fld.CLK_STATUS_PCIE_LOCK 0 else s).resetHst (decide (cause ≠ .asked))) ∧
    (n ≤ 1575 ∨ Fuse.PCIE_DIS.on s.rind.fuses = true → exec (.perstAssert n) s = .next s.draw) ∧ (t = { s.draw with pins := { s.draw.pins with perstN := false }, hst := { s.draw.hst with inReset := true } } →
    (1750 ≤ n → Fuse.PCIE_DIS.on s.rind.fuses = false → exec (.perstAssert n) s = .next (t.resetHst true)) ∧ (exec (.perstAssert n) s = .next s.draw ∨ exec (.perstAssert n) s = .next (t.resetHst true)))) ∧
  (∀ s t : State, t = { s with pins := { s.pins with perstN := true } } → exec .perstRelease s = .next { t with hst := { t.hst with inReset := t.hst.inReset && !t.pcieMayRun } }) ∧
  (∀ (sp w : Nat) (s : State), s.Canon → s.hst.inReset = false → 1 ≤ sp → sp ≤ 5 → w = 1 ∨ w = 2 ∨ w = 4 → ∃ t, exec (.pcieLinkUp sp w) s = .next t ∧ t.rd Fld.HST_PCIE_STATUS_SPEED = sp ∧ t.rd Fld.HST_PCIE_STATUS_WIDTH = w ∧
    t.on Fld.HST_PCIE_STATUS_LINK_UP = true ∧ t.on Fld.CLK_STATUS_PCIE_LOCK = true ∧ OnlyRegs s t [Reg.HST_PCIE_STATUS.key 0 0 0, Reg.CLK_STATUS.key 0 0 0]) ∧
  (∀ s : State, exec .bar0ReadTimeout s = .next (((s.emit (.read 0xFFFFFFFF)).bump .HST_REG_TIMEOUT).raise Ev.HST_REG_TIMEOUT) ∧ exec .mgsBusTimeout s = .next ((s.bump .MGS_TIMEOUTS).raise Ev.MGS_TIMEOUT)) ∧
  (∀ (k : Nat) (d : BitVec 256) (e : RxStaged) (rest : List RxStaged) (s : State), s.ringReady false k = true →
    (badRxDesc d = true → exec (.rxRingDeliver k d) s = .next (((s.wr Fld.HST_RX_CFG_STOPPED 1 0 k).bump .HST_DMA_ERR k).raise Ev.HST_DESC_BAD .port 100 k)) ∧
    (badRxDesc d = false → s.on Fld.HST_RX_CFG_SOURCE 0 k = false → s.staging k = e :: rest → exec (.rxRingDeliver k d) s = .next (s.deliverPacket k e rest d)) ∧
    (badRxDesc d = false → s.on Fld.HST_RX_CFG_SOURCE 0 k = true → exec (.rxRingDeliver k d) s = .next (s.deliverRecord k d))) ∧
  (∀ d : BitVec 256, badRxDesc d = false ↔ d.toNat % 64 = 0 ∧ 256 ≤ d.toNat / 2 ^ 64 % 2 ^ 15 ∧ d.toNat / 2 ^ 64 % 2 ^ 15 ≤ 16384 ∧ d.toNat / 2 ^ 64 % 2 ^ 15 % 64 = 0 ∧ d.toNat < 2 ^ 79) ∧
  (∀ (k : Nat) (d : BitVec 256) (b : List Byte) (s t : State), s.ringReady true k = true →
    (badTxDesc d = true → exec (.txDescriptor k d b) s = .next (((s.complete true k (setFields d [(TxDesc.DONE, 1), (TxDesc.STATUS, 1)])).bump .HST_TX_BAD_DESC (16 + k)).raiseMs Ev.HST_DESC_BAD .port 100 (16 + k))) ∧
    (badTxDesc d = false → b.length = TxDesc.LEN.get d → TxDesc.DIRECT.on d = false → exec (.txDescriptor k d b) s = .next (((s.hostArrive d b).complete true k (setFields d [(TxDesc.DONE, 1), (TxDesc.STATUS, 0)])).bump .HST_TX_PKTS (16 + k))) ∧
    (badTxDesc d = false → b.length = TxDesc.LEN.get d → TxDesc.DIRECT.on d = true → s.hostDirect d b = (t, true) → exec (.txDescriptor k d b) s = .next ((t.complete true k (setFields d [(TxDesc.DONE, 1), (TxDesc.STATUS, 0)])).bump .HST_TX_PKTS (16 + k))) ∧
    (badTxDesc d = false → b.length = TxDesc.LEN.get d → TxDesc.DIRECT.on d = true → s.hostDirect d b = (t, false) → exec (.txDescriptor k d b) s = .next (t.complete true k (setFields d [(TxDesc.DONE, 1), (TxDesc.STATUS, 2)])))) ∧
  (∀ (d : BitVec 256), (TxDesc.LEN.get d < 14 → badTxDesc d = true) ∧ (15996 < TxDesc.LEN.get d → badTxDesc d = true) ∧ (TxDesc.DIRECT.on d = true → 95 < TxDesc.PORT.get d → badTxDesc d = true)) ∧
  (∀ (a be : Nat) (w : Word) (s : State), (be ≠ 15 → exec (.ringTailWrite a w be) s = .next s.rejectWrite) ∧ (0x1000 ≤ a → a < 0x1400 → exec (.ringTailWrite a w 15) s = .next (s.msixWrite (a / 16 - 0x100) (a / 4 % 4) w)) ∧
    (0x2000 ≤ a → a < 0x2008 → exec (.ringTailWrite a w 15) s = .next s) ∧ ((0x80 ≤ a ∧ a < 0x1000) ∨ (0x1400 ≤ a ∧ a < 0x2000) ∨ 0x2008 ≤ a → exec (.ringTailWrite a w 15) s = .next s.rejectWrite)) ∧
  (∀ (tx : Bool) (k a posted : Nat) (w : Word) (s : State), k < 16 → a = (if tx then 64 else 0) + 4 * k → posted = (w.toNat + 2 ^ 32 - s.rd (ringHead tx) 0 k) % 2 ^ 32 →
    (s.on (ringEn tx) 0 k = false ∨ 2 ^ s.rd (ringSize tx) 0 k < posted → exec (.ringTailWrite a w 15) s = .next s.rejectWrite) ∧
    (s.on (ringEn tx) 0 k = true → posted ≤ 2 ^ s.rd (ringSize tx) 0 k → exec (.ringTailWrite a w 15) s =
      .next { s with hst := if tx then { s.hst with txTail := Sparse.put s.hst.txTail k w.toNat 0 } else { s.hst with rxTail := Sparse.put s.hst.rxTail k w.toNat 0 } })) ∧
  (∀ (who : Agent) (tx : Bool) (k : Nat) (v : Word) (r : Reg) (s t : State), r = (if tx then Reg.HST_TX_CFG else Reg.HST_RX_CFG) → (ringEn tx).onIn v = false → s.verdict who r 0 k 0 v false = .accepted →
    t = s.wrReg r 0 k 0 (r.stored (s.rdReg r 0 k 0) v) → exec (.ringDisable who tx k v) s = .next (if s.on (ringEn tx) 0 k && !tx then t.dropWaiting k else t)) ∧
  (∀ (tx : Bool) (k t0 : Nat) (s : State), s.on Fld.HST_PCIE_STATUS_LINK_UP = true → (Sparse.find s.hst.oldest (ringItem tx k)).isSome = true →
    (Sparse.find s.hst.lastVec (ringItem tx k) = none → exec (.ringVectorCoalesce tx k) s = .next (s.ringVector tx k)) ∧
    (Sparse.find s.hst.lastVec (ringItem tx k) = some t0 → exec (.ringVectorCoalesce tx k) s = .next (if t0 + s.rd (ringCoalesce tx) 0 k * usClk ≤ s.now then s.ringVector tx k else s))) ∧
  (∀ (tx : Bool) (k : Nat) (s : State), s.on (ringEn tx) 0 k = true → exec (.dmaTimeout tx k) s = .next (((s.wr (ringStopped tx) 1 0 k).bump .HST_DMA_ERR (ringItem tx k)).raise Ev.HST_DMA_ERR .port 100 (ringItem tx k))) ∧
  ∀ (n i : Nat) (extra third : Bool) (data sent : List Byte) (s t : State), data = ((List.range (n + 1)).map (fun j => (s.mgsWord (i + j)).getD 0xFFFFFFFF)).flatMap (fun w => bytesBE 4 w) →
    sent = bytesBE 1 ((0x5C + s.pins.strapHeld.toNat / 8 % 2) * 2) ++ bytesBE 2 (n * 4096 + i) ++ bytesBE 1 ((0x5C + s.pins.strapHeld.toNat / 8 % 2) * 2 + 1) ++ data →
    t = ((if third then s.emit .mgsNack else s).emit (.mgs (data ++ bytesBE 1 (crc8 sent) ++ (if extra then [0xFF] else [])))).bump .MGS_TRANSACTIONS →
    (s.mgsAnswers = true → exec (.mgsTransaction n i ⟨extra, third⟩) s = .next (if (s.mgsWord i).isNone then (t.bump .MGS_BAD_INDEX).raiseSec Ev.MGS_BAD_INDEX else t)) ∧ (s.mgsAnswers = false → exec (.mgsTransaction n i ⟨extra, third⟩) s = .next s)

/-- For POWER_ON (powerOn), PWRGOOD_RISE (pwrgoodRise), BROWN_OUT (brownOut), RESET_N_ASSERT (resetNAssert), RESET_N_RELEASE (resetNRelease), SOFTWARE_RESET (softwareReset), DBG_RESET (dbgReset), RESET_TAKE_HOLD (resetTakeHold), RESET_ASSERT (resetAssert), RELEASE_PHASE_COMPLETE (releasePhaseComplete), TRIM_LOAD (trimLoad), TRIM_RETRY (trimRetry), STATE_ADOPT (stateAdopt), BLOCK_RESET_PIPELINE (blockResetPipeline), BLOCK_RESET_DEVICE (blockResetDevice), BLOCK_RESET_DONE (blockResetDone) and VBK_RETENTION_LOSS (vbkRetentionLoss). (1) PWRGOOD or RESET_N low for 1 us is a cold or a warm reset, for 0.9 us or less none, and between the two either may happen. (2) Rails low for exactly 2 us are one BROWN_OUT with the lowest rail as detail, cold with rail 0, 1 or 6 among them. (3) RST_CMD with KEY 0x74 and the TAP instruction with scope bit 0 start warm resets; another KEY is rejected. (4) A cold trigger asserts cold reset and keeps the backup domain; a warm one starts the steps of R726. (5) The transmitters go idle, a retained reset flushes the curd, and the digest is recorded unless the keepers are wedged. (6) Reset is asserted, for a retained one only in self-refresh. (7) The pins let release start. (8) Each phase 0 to 9 ends when its work is done. (9) A trim that fails three times costs the quad, or holds phase 2 for 1 s. (10) Retained state is adopted when the digests match, but for what fails its check (a free value), and EVT 11.4 names the pipelines whose tables the image gives; else it is zero-filled with EVT 30.2. (11) A block reset of powered blocks holds them until it is done; one while BUSY, or of a block without power, is rejected. (12) The backup domain is lost when VBK fails with the rails off. Every clock count rests on the model's reading of the core clock (log entries 7 and 84). -/
def Obligations.DeviceResetsTakeHoldAndRelease : Prop :=
  (∀ (n : Nat) (s t : State), s.pins.pwrgood = true → t = ({ s.draw with pins := { s.draw.pins with pwrgood := false, thermTripN := true } } : State).wr Fld.PWR_TEMP_TRIPPED 0 → (n ≤ 1575 → exec (.powerOn n) s = .next s.draw) ∧
    (1750 ≤ n → exec (.powerOn n) s = .next (t.trigger 1 0 true)) ∧ (exec (.powerOn n) s = .next s.draw ∨ exec (.powerOn n) s = .next (t.trigger 1 0 true))) ∧
  (∀ (n : Nat) (s t u : State), s.pins.resetN = true → t = ({ s.draw with pins := { s.draw.pins with resetN := false, scanHold := false } } : State).wr Fld.DGN_STATUS_SCAN_HOLD 0 → u = (if s.pins.pwrgood then t.trigger 3 0 false else t) →
    (n ≤ 1575 → exec (.resetNAssert n) s = .next s.draw) ∧ (1750 ≤ n → exec (.resetNAssert n) s = .next u) ∧ (exec (.resetNAssert n) s = .next s.draw ∨ exec (.resetNAssert n) s = .next u)) ∧
  (∀ (l : List Nat) (r n : Nat) (s : State), s.pins.pwrgood = true → (n < 3500 → exec (.brownOut l n) s = .next s) ∧ (3500 ≤ n → r < 7 → r ∈ l → (∀ q, q < r → q ∉ l) →
    ((0 ∈ l ∨ 1 ∈ l ∨ 6 ∈ l) → exec (.brownOut l n) s = .next (s.trigger 2 r true)) ∧ (0 ∉ l → 1 ∉ l → 6 ∉ l → exec (.brownOut l n) s = .next (s.trigger 2 r false)))) ∧
  (∀ (who : Agent) (v : Word) (s : State), Fld.RST_CMD_WARM.of v = 1 → (Fld.RST_CMD_KEY.of v = 0x74 → s.verdict who Reg.RST_CMD 0 0 0 v false = .accepted →
      exec (.softwareReset who v) s = .next (s.trigger 5 (if who = .host then 0 else 1) false)) ∧
    (Fld.RST_CMD_KEY.of v ≠ 0x74 → s.verdict who Reg.RST_CMD 0 0 0 v true = .rejected → exec (.softwareReset who v) s = .next s.rejectWrite)) ∧
  (∀ (who : Agent) (v : Word) (s : State), Fld.RST_CMD_WARM.of v = 0 → s.verdict who Reg.RST_CMD 0 0 0 v false = .accepted → exec (.softwareReset who v) s = .next s) ∧
  (∀ s : State, (s.on Fld.RND_STATUS_DEBUG_OPEN = true → s.rind.gateScope % 2 = 1 → exec .dbgReset s = .next (s.trigger 6 0 false)) ∧
    (s.on Fld.RND_STATUS_DEBUG_OPEN = false ∨ s.rind.gateScope % 2 = 0 → exec .dbgReset s = .next s)) ∧
  (∀ (c d : Nat) (s : State), s.rst.run = none → s.rst.asserted = false → (s.trigger c d false).rst.run = some ⟨c, d, false, s.retains c d, s.now, false⟩) ∧
  (∀ s : State, s.coldClear.rst.asserted = true ∧ s.coldClear.rst.cold = true ∧ s.coldClear.rst.run = none ∧ s.coldClear.backup = s.backup ∧ s.coldClear.rind.keys = [] ∧ s.coldClear.flw = Flw.init ∧ s.coldClear.ups = Ups.init) ∧
  (∀ (w : Bool) (r : ResetRun) (s t u : State), s.rst.run = some r → r.held = false → (s.inPair = false ∨ (r.cause ≠ 4 ∧ r.cause ≠ 5 ∧ r.cause ≠ 8) ∨ r.at_ + 3 * usClk ≤ s.now) → t = (List.range 96).foldl (fun (x : State) p => x.abortTx p) s →
    u = (if r.retain then (List.range 4).foldl (fun (x : State) k => x.wr Fld.FLW_SLICE_CTRL_FLUSH_BUSY 1 k) t else t) →
    exec (.resetTakeHold w) s = .next { u with rst := { u.rst with run := some { r with held := true }, stateDigest := if w then u.rst.stateDigest else some u.sealDigest } }) ∧
  (∀ (r : ResetRun) (s : State), s.rst.run = some r → r.held = true → (r.retain = false → exec .resetAssert s = .next (s.warmClear false).startRelease) ∧
    (r.retain = true → s.on Fld.HBC_CTRL_SR_ACTIVE 0 = true → s.on Fld.HBC_CTRL_SR_ACTIVE 1 = true → exec .resetAssert s = .next (s.warmClear true).startRelease) ∧
    (r.retain = true → s.on Fld.HBC_CTRL_SR_ACTIVE 0 = false ∨ s.on Fld.HBC_CTRL_SR_ACTIVE 1 = false → exec .resetAssert s = .next s)) ∧
  (∀ s : State, s.rst.asserted = true → s.pins.scanHold = false → (s.pins.resetN = true → exec .pwrgoodRise s = .next { s with pins := { s.pins with pwrgood := true }, rst := { s.rst with asserted := false, phaseNext := 0, phaseAt := s.now } }) ∧
    (s.pins.pwrgood = true → exec .resetNRelease s = .next { s with pins := { s.pins with resetN := true }, rst := { s.rst with asserted := false, phaseNext := 0, phaseAt := s.now } })) ∧
  (∀ (pts : List (Manifest × List (Nat × BitVec 256))) (s t u : State), s.rst.run = none → s.rst.asserted = false →
    (s.rst.phaseNext = 0 → t = { s with pins := { s.pins with strapHeld := s.pins.strap } } → exec (.releasePhaseComplete pts) s = .next (t.wr Fld.IMG_NVM_STATUS_STRIDE (s.pins.strap.toNat % 4)).phaseDone) ∧
    (s.rst.phaseNext = 1 → s.rind.fusesRead = true → exec (.releasePhaseComplete pts) s = .next s.phaseDone) ∧
    (s.rst.phaseNext = 2 → trimRegions.all s.trimDone = true → s.pins.thermTripN = true → exec (.releasePhaseComplete pts) s = .next (s.powerAll.wrB Fld.RST_STATUS_TRIM_OK s.rst.badQuads.isEmpty).phaseDone) ∧
    (s.rst.phaseNext = 3 → u = s.lockPlls.phaseDone → exec (.releasePhaseComplete pts) s = .next (if s.clkUsable 0 = true ∨ s.clkUsable 1 = true then (if u.rst.cold = false ∧ u.on Fld.LHT_KEEP_EN = true then { u with rst := { u.rst with phaseNext := 5 } } else u) else s)) ∧
    (s.rst.phaseNext = 4 → exec (.releasePhaseComplete pts) s = .next (s.readModel s.rst.cold).phaseDone) ∧
    (s.rst.phaseNext = 5 → (∀ k, k < 2 → s.on Fld.HBC_CTRL_INIT_DONE k = true ∧ s.on Fld.HBC_CTRL_SR_ACTIVE k = false) →
      exec (.releasePhaseComplete pts) s = .next ({ s with rst := { s.rst with adoptable := true } } : State).phaseDone) ∧
    (s.rst.phaseNext = 6 → s.imageRead = true → (s.imageRefused = true → exec (.releasePhaseComplete pts) s = .next (s.failAttempt 4)) ∧
      (s.imageRefused = false → u = (s.wr Fld.IMG_LOAD_MS_MS (min 65535 ((s.now - s.rst.phaseAt) / msClk))).phaseDone →
        exec (.releasePhaseComplete pts) s = .next { u with hst := { u.hst with inReset := u.hst.inReset && !u.pcieMayRun } })) ∧
    (s.rst.phaseNext = 8 → s.img.tableFailed = true → exec (.releasePhaseComplete pts) s = .next (s.failAttempt 5)) ∧
    (s.rst.phaseNext = 8 → s.img.tableFailed = false → s.rst.retained = false ∨ s.rst.adopted = true → s.imageRefused = true → exec (.releasePhaseComplete pts) s = .next (s.failAttempt 4)) ∧
    (s.rst.phaseNext = 8 → s.img.tableFailed = false → s.rst.retained = false ∨ s.rst.adopted = true → s.imageRefused = false →
      u = { s with flt := { s.flt with pairDigest := s.sealDigest }, rst := { s.rst with stateDigest := some s.sealDigest } } → exec (.releasePhaseComplete pts) s = .next (u.wrB Fld.RST_STATUS_ADOPTED s.rst.retained).phaseDone)) ∧
  (∀ (pts : List (Manifest × List (Nat × BitVec 256))) (a : Attempt) (m : Manifest) (s : State), s.rst.run = none → s.rst.asserted = false → s.img.attempt = some a →
    (s.rst.phaseNext = 7 → a.manifest = some m → pts.length = (m.sections.filter (fun x => x.kind == 3)).length → exec (.releasePhaseComplete pts) s = .next (s.startKeepers m pts).phaseDone) ∧
    (s.rst.phaseNext = 9 → exec (.releasePhaseComplete pts) s = .next (s.finishStart a.slot).phaseDone)) ∧
  (∀ s : State, s.Canon → s.rst.phaseNext < 10 → s.phaseDone.rd Fld.RST_STATUS_PHASE = s.rst.phaseNext ∧ s.phaseDone.rst.phaseNext = s.rst.phaseNext + 1 ∧ s.phaseDone.rst.phaseAt = s.now) ∧
  (∀ (k n : Nat) (s t : State), (s.rst.phaseNext = 2 ∧ s.rst.run = none ∧ s.rst.asserted = false ∧ s.rst.trimFailedAt = none) ∨ s.quadRising k = true → s.trimDone k = false → n = Sparse.get s.rst.trimTries k 0 →
    exec (.trimLoad k true) s = .next { s with rst := { s.rst with trimLoaded := Sparse.insert s.rst.trimLoaded k true, trimTries := Sparse.erase s.rst.trimTries k } } ∧
    (n < 2 → exec (.trimLoad k false) s = .next { s with rst := { s.rst with trimTries := Sparse.insert s.rst.trimTries k (n + 1) } }) ∧
    (2 ≤ n → 24 ≤ k → exec (.trimLoad k false) s = .next (({ s with rst := { s.rst with trimFailedAt := some s.now } } : State).raise Ev.RST_TRIM_FAIL .device 0 k)) ∧
    (2 ≤ n → k < 24 → t = { s with rst := { s.rst with badQuads := Sparse.insert s.rst.badQuads k true, trimTries := Sparse.erase s.rst.trimTries k } } → exec (.trimLoad k false) s = .next (t.raise Ev.RST_TRIM_FAIL .lane (4 * k)))) ∧
  (∀ (t0 : Nat) (s : State), s.rst.trimFailedAt = some t0 → (s.now < t0 + sClk → exec .trimRetry s = .next s) ∧
    (t0 + sClk ≤ s.now → exec .trimRetry s = .next { s with rst := { s.rst with trimFailedAt := none, trimLoaded := [], trimTries := [], badQuads := [] } })) ∧
  (∀ (failed : List (Nat × Nat)) (s t : State), failed = s.adoptFinds → s.rst.phaseNext = 8 → s.rst.retained = true → s.rst.adopted = false → s.rst.run = none →
    (s.rst.stateDigest ≠ some s.sealDigest → t = s.zeroAreas → exec .stateAdopt s = .next (({ t with rst := { t.rst with retained := false, adopted := true } } : State).raise Ev.RST_RETAIN_LOST)) ∧
    (s.rst.stateDigest = some s.sealDigest → t = (((s.draw.adoptSeeds failed).adoptRecords failed).adoptSessions failed).adoptPools failed → (t.rst.stash = none → exec .stateAdopt s = .next { t with rst := { t.rst with adopted := true, stash := none } }) ∧
      (∀ (x : Stash) (same : Bool) (u v : State), t.rst.stash = some x → (same = true ↔ t.img.shadowDigest = some t.rind.imageDigest) → u = (if same then t.loadShadows x (failed.filter (fun e => decide (e.2 < 7))) else t) →
        v = (allPipes.filter (fun p => !same || (failed.filter (fun e => decide (e.2 < 7))).any (fun e => e.1 == p))).foldl (fun (z : State) p => z.raise Ev.SHD_ADOPT_FAIL .pipeline p) u → exec .stateAdopt s = .next { v with rst := { v.rst with adopted := true, stash := none } }))) ∧
  (∀ (who : Agent) (p : Nat) (v : Word) (l : List Nat) (s t : State), l = bitsIn 16 v.toNat →
    (s.on Fld.RST_BLOCK_BUSY_BUSY = true ∨ (∃ b ∈ l, s.domainUp (blockDomain b p) = false) ∨ (15 ∈ l ∧ 2 ≤ p) → s.verdict who Reg.RST_BLOCK_P 0 p 0 v true = .rejected → exec (.blockResetPipeline who p v) s = .next s.rejectWrite) ∧
    (s.on Fld.RST_BLOCK_BUSY_BUSY = false → (∀ b ∈ l, s.domainUp (blockDomain b p) = true) → 15 ∉ l ∨ p < 2 → s.verdict who Reg.RST_BLOCK_P 0 p 0 v false = .accepted → t = l.foldl (fun (x : State) b => x.resetPipeBlock b p) s →
      exec (.blockResetPipeline who p v) s = .next ((if [5, 7, 8].all (fun b => l.contains b) then t.fillPolicers p else t).holdBlocks (l.map (fun b => b * 8 + p))))) ∧
  (∀ (who : Agent) (v : Word) (l : List Nat) (s : State), l = bitsIn 5 v.toNat → (s.on Fld.RST_BLOCK_BUSY_BUSY = true → s.verdict who Reg.RST_BLOCK_DEV 0 0 0 v true = .rejected → exec (.blockResetDevice who v) s = .next s.rejectWrite) ∧
    (s.on Fld.RST_BLOCK_BUSY_BUSY = false → (∀ b ∈ l, s.domainUp ([60, 59, 56, 60, 60].getD b 60) = true) → 0 ∉ l ∨ s.domainUp 54 = true ∨ s.domainUp 55 = true → s.verdict who Reg.RST_BLOCK_DEV 0 0 0 v false = .accepted → exec (.blockResetDevice who v) s = .next
      ((l.foldl (fun (x : State) b => if b = 0 then x.resetCluster else if b = 1 then x.resetFleit else if b = 2 then x.resetHst false else if b = 3 then x.resetPtp else x.resetGate 0) s).holdBlocks (l.map (fun b => 128 + b))))) ∧
  (∀ (k : Nat) (s : State), (Sparse.find s.rst.blocks k).isSome = true → k / 8 ≠ 15 → k ≠ 128 → exec (.blockResetDone k) s = .next (s.blockDone k)) ∧
  (∀ s : State, (s.pins.pwrgood = false → exec .vbkRetentionLoss s = .next (({ s with backup := Backup.init } : State).clearRegs backupReg)) ∧ (s.pins.pwrgood = true → exec .vbkRetentionLoss s = .next s))

/-- For PWR_REQ_WRITE (pwrReqWrite), DOMAIN_DOWN_DONE (domainDownDone), DOMAIN_UP_DONE (domainUpDone), DOMAIN_POWER_FAIL (domainPowerFail), REFCLK_LOSS (refclkLoss), REFCLK_QUALIFY (refclkQualify), REFCLK_SWITCH (refclkSwitch), CLOCK_LOSS (clockLoss), PLL_UNLOCK (pllUnlock), JUNCTION_SAMPLE (junctionSample), SENSOR_REJOIN (sensorRejoin) and THERMAL_TRIP (thermalTrip). (1) A write of PWR_REQ is taken whole, in the order of R744, or refused for the first domain that breaks a rule; domains 60 to 63 stay on; while BUSY or tripped it is rejected. (2) A domain to come up with a requirement down, one to go down with a user on, and one with a block enabled are the three refusals. (3) The domain at the head goes down, and loses its contents, or (4) comes up 20 us after its switches, a quad only with trim; 70 us without a good monitor is a failure that takes its users with it. (5) A gap of 50 ns or more than 200 ppm loses a reference, which counts and raises EVT 32.0; a lost one starts again; one is QUALIFIED after exactly QUAL_MS. (6) The selection moves to the other qualified reference, or back to the preferred one; with none, the CLOCK reset is triggered. (7) A PLL that relocks keeps its lock; the second failure in a row loses the reference. (8) Sensors are sampled, at most every 1 ms, and the hottest drives TEMP and both thresholds; (9) one below -55 or above 150 C, or 10 C off its last sample, is excluded; (10) a threshold sets when reached and clears 5 C below; (11) a sensor rejoins after exactly 1 s. (12) At 125 C, a stack at 115 C or nine sensors excluded, the device trips. Clock counts rest on log entry 7. -/
def Obligations.DomainsClocksAndTemperatureComplete : Prop :=
  (∀ (who : Agent) (k : Nat) (v : Word) (s : State), k < 2 → (s.rd Fld.PWR_STATUS_BUSY = 1 ∨ s.rd Fld.PWR_TEMP_TRIPPED = 1 → s.verdict who Reg.PWR_REQ 0 k 0 v true = .rejected → exec (.pwrReqWrite who k v) s = .next s.rejectWrite) ∧
    (s.rd Fld.PWR_STATUS_BUSY = 0 → s.rd Fld.PWR_TEMP_TRIPPED = 0 → s.verdict who Reg.PWR_REQ 0 k 0 v false = .accepted → (∀ (d r : Nat), d < 60 → s.offence (s.asked k v) d = some r → (∀ e, e < d → s.offence (s.asked k v) e = none) →
      exec (.pwrReqWrite who k v) s = .next (((s.bump .PWR_REFUSALS).pwrRecord d r).raise Ev.PWR_REFUSED .device 0 d)) ∧
      ((∀ d, d < 60 → s.offence (s.asked k v) d = none) → exec (.pwrReqWrite who k v) s = .next ((s.wrReg Reg.PWR_REQ 0 k 0 (if k = 1 then v ||| 0xF0000000 else v)).nextSwitch (s.switchOrder (s.asked k v)))))) ∧
  (∀ (w : Nat → Bool) (d r : Nat) (s : State), (w d = true → s.domainUp d = false → r ∈ requires d → w r = false → s.offence w d = some 0) ∧
    (w d = false → s.domainUp d = true → r < 60 → w r = true → d ∈ requires r → s.offence w d = some 1) ∧
    (w d = false → s.domainUp d = true → (∀ e, e < 60 → w e = true → d ∉ requires e) → s.downForbidden d = true → s.offence w d = some 2) ∧ (w d = s.domainUp d → s.offence w d = none)) ∧
  (∀ (d : Nat) (l : List (Nat × Bool)) (s : State), s.pwr.todo = (d, false) :: l → exec .domainDownDone s = .next ((s.domainOff d).nextSwitch l)) ∧
  (∀ (d : Nat) (l : List (Nat × Bool)) (s : State), s.pwr.todo = (d, true) :: l → (s.pwr.switchAt + 20 * usClk ≤ s.now → 24 ≤ d ∨ s.trimDone d = true → exec .domainUpDone s = .next (((s.setDomain d true).engineDomainUp d).nextSwitch l)) ∧
    (s.now < s.pwr.switchAt + 20 * usClk ∨ (d < 24 ∧ s.trimDone d = false) → exec .domainUpDone s = .next s) ∧
    (s.pwr.switchAt + 70 * usClk ≤ s.now → 24 ≤ d → exec .domainPowerFail s = .next (((s.pwrRecord d 3).raise Ev.PWR_DOMAIN_FAIL .device 0 d).nextSwitch (withoutUsers [d] l))) ∧
    (s.pwr.switchAt + 70 * usClk ≤ s.now → d < 24 → exec .domainPowerFail s = .next (((s.pwrRecord d 3).raise Ev.PWR_DOMAIN_FAIL .octet (d / 2) d).nextSwitch (withoutUsers [d] l)))) ∧
  (∀ (b : Bool) (gapNs t0 : Nat) (ppb : Int) (s : State), (50 ≤ gapNs ∨ 200000 < ppb.natAbs → (s.clkRef b.toNat).present = true →
      exec (.refclkLoss ⟨b, gapNs, ppb⟩) s = .next ((((s.setClkRef b.toNat ⟨false, some s.now⟩).wr (qualFld b.toNat) 0).bump .CLK_REF_LOSSES).raise Ev.CLK_REF_LOST .device 0 b.toNat)) ∧
    (50 ≤ gapNs ∨ 200000 < ppb.natAbs → (s.clkRef b.toNat).present = false → exec (.refclkLoss ⟨b, gapNs, ppb⟩) s = .next (s.setClkRef b.toNat ⟨false, some s.now⟩)) ∧
    (gapNs < 50 → ppb.natAbs ≤ 200000 → exec (.refclkLoss ⟨b, gapNs, ppb⟩) s = .next s) ∧
    ((s.clkRef b.toNat).goodSince = some t0 → (s.now < t0 + s.rd Fld.CLK_REF_CFG_QUAL_MS * msClk → exec (.refclkQualify b) s = .next s) ∧
      (t0 + s.rd Fld.CLK_REF_CFG_QUAL_MS * msClk ≤ s.now → exec (.refclkQualify b) s = .next ((s.setClkRef b.toNat ⟨true, some t0⟩).wr (qualFld b.toNat) 1)))) ∧
  (∀ (b : Nat) (s : State), b = s.rd Fld.CLK_STATUS_SELECTED → b < 2 → 3 ≤ s.rd Fld.RST_STATUS_PHASE → s.rd Fld.CLK_STATUS_ONDIE = 0 →
    (s.rd (qualFld (1 - b)) = 1 → (s.clkRef b).present = false ∨ (s.rd Fld.CLK_CTRL_REVERTIVE = 1 ∧ s.rd Fld.CLK_CTRL_PREFER = 1 - b) →
      exec .refclkSwitch s = .next (((s.wr Fld.CLK_STATUS_SELECTED (1 - b)).bump .CLK_SWITCHES).raise Ev.CLK_SWITCH .device 0 (1 - b))) ∧
    (s.rd (qualFld (1 - b)) = 1 → (s.clkRef b).present = true → s.rd Fld.CLK_CTRL_REVERTIVE = 0 ∨ s.rd Fld.CLK_CTRL_PREFER = b → exec .refclkSwitch s = .next s) ∧
    (s.rd (qualFld (1 - b)) = 0 → (s.clkRef b).present = false → exec .clockLoss s = .next (((s.wr Fld.CLK_STATUS_ONDIE 1).wr Fld.CLK_STATUS_LOCK 0).trigger 7 0 false))) ∧
  (∀ (k n w : Nat) (s t : State), s.rd (qualFld (s.rd Fld.CLK_STATUS_SELECTED)) = 1 → n = Sparse.get s.clk.relocks k 0 → t = (if n = 0 then s.raise Ev.CLK_PLL_UNLOCK .device 0 k else s) → w = t.rd Fld.CLK_STATUS_LOCK →
    exec (.pllUnlock k true) s = .next (({ t with clk := { t.clk with relocks := Sparse.put t.clk.relocks k 0 0 } } : State).wr Fld.CLK_STATUS_LOCK (Nat.lor w (2 ^ k))) ∧
    (n = 0 → exec (.pllUnlock k false) s = .next (({ t with clk := { t.clk with relocks := Sparse.put t.clk.relocks k 1 0 } } : State).wr Fld.CLK_STATUS_LOCK (w - Nat.land w (2 ^ k)))) ∧
    (n ≠ 0 → exec (.pllUnlock k false) s = .next ((({ t with clk := { t.clk with relocks := Sparse.put t.clk.relocks k 0 0 } } : State).wr Fld.CLK_STATUS_LOCK (w - Nat.land w (2 ^ k))).loseRef (s.rd Fld.CLK_STATUS_SELECTED)))) ∧
  (∀ (k : Nat) (r : Bool) (s : State), s.rd (qualFld (s.rd Fld.CLK_STATUS_SELECTED)) = 0 → exec (.pllUnlock k r) s = .next s) ∧
  (∀ (l : List Int) (t0 : Nat) (s : State), s.pwr.sampledAt = some t0 → s.now < t0 + msClk → exec (.junctionSample l) s = .next s) ∧
  (∀ (l : List Int) (s t u v w y : State) (warn hot : Bool), (∀ t0, s.pwr.sampledAt = some t0 → t0 + msClk ≤ s.now) → t = l.zipIdx.foldl (fun (x : State) e => x.sampleOne e.2 e.1) { s with pwr := { s.pwr with sampledAt := some s.now } } →
    (t.hottest = none → exec (.junctionSample l) s = .next t) ∧ (∀ (m : Int) (i : Nat), t.hottest = some (m, i) → u = (t.wr Fld.PWR_TEMP_TEMP (m % 256).toNat).wr Fld.PWR_TEMP_SENSOR i →
      u.threshold m (u.rd Fld.PWR_THERM_CFG_WARN_C) Fld.PWR_TEMP_WARN = (v, warn) → v.threshold m (v.rd Fld.PWR_THERM_CFG_HOT_C) Fld.PWR_TEMP_HOT = (w, hot) → (warn = true → y = w.raise Ev.THERM_WARN) → (warn = false → y = w) →
      (hot = true → exec (.junctionSample l) s = .next ((y.bump .THERM_HOT_ENTRIES).raise Ev.THERM_HOT)) ∧ (hot = false → exec (.junctionSample l) s = .next y))) ∧
  (∀ (i : Nat) (r : Int) (s : State), s.Canon → i < 16 → ((s.sampleOne i r).sensor i).reading = r ∧ (((s.sampleOne i r).sensor i).excluded = false ↔ (s.sensor i).excluded = false ∧ -55 ≤ r ∧ r ≤ 150 ∧ ((s.sensor i).sampled = true → (r - (s.sensor i).reading).natAbs ≤ 10))) ∧
  (∀ (m : Int) (n : Nat) (f : Fld) (s : State), ((n : Int) ≤ m → s.rd f = 0 → s.threshold m n f = (s.wr f 1, true)) ∧ (m ≤ (n : Int) - 5 → s.rd f = 1 → s.threshold m n f = (s.wr f 0, false)) ∧ ((n : Int) - 5 < m → m < n → s.threshold m n f = (s, false))) ∧
  (∀ (i t0 : Nat) (s : State), (s.sensor i).excluded = true → (s.sensor i).validSince = some t0 → (s.now < t0 + sClk → exec (.sensorRejoin i) s = .next s) ∧
    (t0 + sClk ≤ s.now → exec (.sensorRejoin i) s = .next (s.setSensor i { s.sensor i with excluded := false, validSince := none }))) ∧
  (∀ s t : State, s.rd Fld.PWR_TEMP_TRIPPED = 0 → (∃ e, s.hottest = some e ∧ 125 ≤ e.1) ∨ 115 ≤ s.stackTemp 0 ∨ 115 ≤ s.stackTemp 32 ∨ 8 < ((List.range 16).filter (fun i => (s.sensor i).excluded)).length →
      t = ({ s with pins := { s.pins with thermTripN := false } } : State).wr Fld.PWR_TEMP_TRIPPED 1 →
      exec .thermalTrip s = .next (((switchable.foldl (fun (x : State) d => if x.domainUp d then x.domainOff d else x) t).nextSwitch []).raise Ev.THERM_TRIP)) ∧
  (∀ s : State, (∀ e, s.hottest = some e → e.1 < 125) → s.stackTemp 0 < 115 → s.stackTemp 32 < 115 → ((List.range 16).filter (fun i => (s.sensor i).excluded)).length ≤ 8 → exec .thermalTrip s = .next s)

/-- For LOOPBACK_SET (loopbackSet), BIST_GO (bistGo), BIST_DONE (bistDone), EXTEST_LOAD (extestLoad), INJECT_ARM (injectArm), INJECT_EXPIRY (injectExpiry), PERTURB_START (perturbStart), PERTURB_DUTY_TOGGLE (perturbDutyToggle) and PERTURB_END (perturbEnd). (1) DGN_PORT_LOOP of a disabled port is written, LOOP_ACTIVE follows, and an entry raises EVT 33.3; one that is not permitted, or of an enabled port or a FLEIT lane, is rejected. (2) GO starts the test of a powered, disabled domain and counts it; one of a domain that is down, enabled or not permitted is rejected. (3) The arrays, and the registers that count entries, take their reset contents; a test that passes leaves RESULT 1, a failing one 2 and EVT 33.2, at the pipeline for domains 24 to 47. (4) The result is as read back. (5) EXTEST asserts warm reset and holds the pins. (6) An arming raises EVT 33.0; a write while armed raises nothing; a reserved target or an instance out of range is rejected; ARM = 0 ends it. (7) The instances of Table 28.1. (8) The next write of the target plants the error and ends the arming, or with CONT acts once per 1 ms; any other write makes its word sound. (9) An arming without a target write ends at exactly 1 s and is counted. (10) Setting EN starts a slot, counts it and raises EVT 33.1; clearing it stops it; (11, 12) a start at the other slot's point, outside a limit or not permitted is rejected. (13) The slot acts in the first DUTY_PCT of its period. (14) It ends at exactly DURATION_MS. Clock counts rest on log entry 7, what a self-test does to registers that count entries on log entry 19. -/
def Obligations.DiagnosticsComplete : Prop :=
  (∀ (who : Agent) (i : Nat) (v : Word) (s t u : State), i < 96 → (s.onP Fld.PRT_MODE_EN i = true ∨ s.rdL Fld.LNE_CTRL_MODE i = 2 ∨ (Fld.DGN_PORT_LOOP_MODE.of v ≠ 0 ∧ s.permitted 0 = false) → s.verdict who Reg.DGN_PORT_LOOP 0 i 0 v true = .rejected → exec (.loopbackSet who i v) s = .next s.rejectWrite) ∧
    (s.onP Fld.PRT_MODE_EN i = false → s.rdL Fld.LNE_CTRL_MODE i ≠ 2 → (∀ l ∈ s.portLanes i, s.rdL Fld.LNE_CTRL_MODE l ≠ 2) → Fld.DGN_PORT_LOOP_MODE.of v = 0 ∨ s.permitted 0 = true → s.verdict who Reg.DGN_PORT_LOOP 0 i 0 v false = .accepted →
      t = s.wrReg Reg.DGN_PORT_LOOP 0 i 0 (Reg.DGN_PORT_LOOP.stored (s.rdReg Reg.DGN_PORT_LOOP 0 i 0) v) →
      u = t.wrB Fld.DGN_STATUS_LOOP_ACTIVE ((List.range 96).any (fun q => t.rd Fld.DGN_PORT_LOOP_MODE 0 q != 0)) →
      (s.rd Fld.DGN_PORT_LOOP_MODE 0 i = 0 → Fld.DGN_PORT_LOOP_MODE.of v ≠ 0 → exec (.loopbackSet who i v) s = .next (u.raise Ev.DGN_LOOPBACK_ACTIVE .device 0 i)) ∧
      (s.rd Fld.DGN_PORT_LOOP_MODE 0 i ≠ 0 ∨ Fld.DGN_PORT_LOOP_MODE.of v = 0 → exec (.loopbackSet who i v) s = .next u))) ∧
  (∀ (who : Agent) (v : Word) (d : Nat) (s t : State), d = Fld.DGN_BIST_CTRL_DOMAIN.of v → Fld.DGN_BIST_CTRL_GO.of v = 1 →
    (s.permitted 1 = false ∨ s.domainUp d = false ∨ s.domainEnabled d = true ∨ s.rd Fld.DGN_STATUS_BIST_BUSY = 1 → s.verdict who Reg.DGN_BIST_CTRL 0 0 0 v true = .rejected → exec (.bistGo who v) s = .next s.rejectWrite) ∧
    (s.permitted 1 = true → s.domainUp d = true → s.domainEnabled d = false → s.rd Fld.DGN_STATUS_BIST_BUSY = 0 → s.verdict who Reg.DGN_BIST_CTRL 0 0 0 v false = .accepted →
      t = s.wrReg Reg.DGN_BIST_CTRL 0 0 0 (Reg.DGN_BIST_CTRL.stored (s.rdReg Reg.DGN_BIST_CTRL 0 0 0) v) →
      exec (.bistGo who v) s = .next ((({ t with dgn := { t.dgn with bist := some (d, t.now) } } : State).wr Fld.DGN_STATUS_BIST_BUSY 1).bump .DGN_BIST_RUNS))) ∧
  (∀ (d t0 n : Nat) (rs : List Reg) (s t u : State), s.dgn.bist = some (d, t0) → t = (({ s with dgn := { s.dgn with bist := none } } : State).clearArrays d) →
    (d < 28 → rs = [Reg.EXM_OVF_STATUS, Reg.EXM_SECT_STATUS, Reg.LPM_STATUS, Reg.LPM_ROUTES4, Reg.LPM_ROUTES6, Reg.LRN_PORT_STATUS, Reg.LRN_QUEUE_STATUS]) → (44 ≤ d → d < 48 → rs = [Reg.FLW_SLICE_STATUS]) → (48 ≤ d ∨ (28 ≤ d ∧ d < 44) → rs = []) →
    u = ((((t.clearStatus rs (d % 4)).wr Fld.DGN_BIST_STATUS_RESULT (if n = 0 then 1 else 2)).wr Fld.DGN_BIST_STATUS_DOMAIN d).wr Fld.DGN_BIST_STATUS_FAILS n).wr Fld.DGN_STATUS_BIST_BUSY 0 →
    (n = 0 → exec (.bistDone n) s = .next u) ∧ (n ≠ 0 → d < 48 → exec (.bistDone n) s = .next (u.raise Ev.DGN_BIST_FAIL .pipeline (d % 4) d)) ∧ (n ≠ 0 → 48 ≤ d → exec (.bistDone n) s = .next (u.raise Ev.DGN_BIST_FAIL .device 0 d))) ∧
  (∀ (t0 d n : Nat) (s t : State), s.Canon → s.dgn.bist = some (d, t0) → d < 64 → n < 65536 → exec (.bistDone n) s = .next t → n = 0 → t.rd Fld.DGN_BIST_STATUS_RESULT = 1 ∧ t.rd Fld.DGN_BIST_STATUS_DOMAIN = d ∧ t.rd Fld.DGN_STATUS_BIST_BUSY = 0 ∧ t.dgn.bist = none) ∧
  (∀ s t : State, t = s.warmClear false → exec .extestLoad s = .next (({ t with pins := { t.pins with scanHold := true } } : State).wr Fld.DGN_STATUS_SCAN_HOLD 1)) ∧
  (∀ (who : Agent) (v : Word) (k : Nat) (s t u : State), k = Fld.DGN_INJ_CFG_TARGET.of v → Fld.DGN_INJ_CFG_ARM.of v = 1 →
    (injInstances k ≤ Fld.DGN_INJ_CFG_INSTANCE.of v ∨ (s.rd Fld.DGN_INJ_CFG_ARM = 0 ∧ s.permitted 2 = false) → s.verdict who Reg.DGN_INJ_CFG 0 0 0 v true = .rejected → exec (.injectArm who v) s = .next s.rejectWrite) ∧
    (Fld.DGN_INJ_CFG_INSTANCE.of v < injInstances k → s.rd Fld.DGN_INJ_CFG_ARM = 1 ∨ s.permitted 2 = true → s.verdict who Reg.DGN_INJ_CFG 0 0 0 v false = .accepted → t = s.wrReg Reg.DGN_INJ_CFG 0 0 0 (Reg.DGN_INJ_CFG.stored (s.rdReg Reg.DGN_INJ_CFG 0 0 0) v) →
      u = t.wr Fld.DGN_STATUS_INJ_ARMED 1 → (s.rd Fld.DGN_INJ_CFG_ARM = 1 → exec (.injectArm who v) s = .next u) ∧
      (s.rd Fld.DGN_INJ_CFG_ARM = 0 → exec (.injectArm who v) s = .next (({ u with dgn := { u.dgn with armedAt := some u.now, lastInject := none } } : State).raise Ev.DGN_INJECT_ACTIVE)))) ∧
  (∀ (who : Agent) (v : Word) (s : State), Fld.DGN_INJ_CFG_ARM.of v = 0 → s.verdict who Reg.DGN_INJ_CFG 0 0 0 v false = .accepted →
    exec (.injectArm who v) s = .next ((s.wrReg Reg.DGN_INJ_CFG 0 0 0 (Reg.DGN_INJ_CFG.stored (s.rdReg Reg.DGN_INJ_CFG 0 0 0) v)).wr Fld.DGN_STATUS_INJ_ARMED 0)) ∧
  (∀ k : Nat, (12 ≤ k → injInstances k = 0) ∧ (k < 5 → injInstances k = 4) ∧ (k = 5 → injInstances k = 64) ∧ (k = 6 → injInstances k = 1) ∧ (k = 7 → injInstances k = 16) ∧ (k = 8 → injInstances k = 2) ∧ (k = 9 → injInstances k = 4) ∧ (k = 10 → injInstances k = 96) ∧ (k = 11 → injInstances k = 4)) ∧
  (∀ (k i w : Nat) (s t u : State), t = { s with dgn := { s.dgn with planted := Sparse.erase s.dgn.planted (plantKey k i w) } } → u = ({ t with dgn := { t.dgn with planted := Sparse.insert t.dgn.planted (plantKey k i w) (s.rd Fld.DGN_INJ_CFG_KIND), lastInject := some s.now } } : State).bump .DGN_INJECTIONS →
    (s.rd Fld.DGN_INJ_CFG_ARM = 0 ∨ s.rd Fld.DGN_INJ_CFG_TARGET ≠ k ∨ s.rd Fld.DGN_INJ_CFG_INSTANCE ≠ i → s.injectFire k i w = t) ∧
    (s.rd Fld.DGN_INJ_CFG_ARM = 1 → s.rd Fld.DGN_INJ_CFG_TARGET = k → s.rd Fld.DGN_INJ_CFG_INSTANCE = i → (∀ t0, s.dgn.lastInject = some t0 → t0 + msClk ≤ s.now) →
      (s.rd Fld.DGN_INJ_CFG_CONT = 1 → s.injectFire k i w = u) ∧ (s.rd Fld.DGN_INJ_CFG_CONT = 0 → s.injectFire k i w = (u.wr Fld.DGN_INJ_CFG_ARM 0).wr Fld.DGN_STATUS_INJ_ARMED 0))) ∧
  (∀ (t0 : Nat) (s : State), s.dgn.armedAt = some t0 → (s.now < t0 + sClk ∨ s.dgn.lastInject.isSome = true ∨ s.rd Fld.DGN_INJ_CFG_ARM = 0 → exec .injectExpiry s = .next s) ∧
    (s.rd Fld.DGN_INJ_CFG_ARM = 1 → s.dgn.lastInject = none → t0 + sClk ≤ s.now → exec .injectExpiry s = .next (((s.wr Fld.DGN_INJ_CFG_ARM 0).wr Fld.DGN_STATUS_INJ_ARMED 0).bump .DGN_INJ_EXPIRED))) ∧
  (∀ (who : Agent) (k : Nat) (v : Word) (s t u : State), k < 2 → t = s.wrReg Reg.DGN_PERT_CTRL 0 k 0 (Reg.DGN_PERT_CTRL.stored (s.rdReg Reg.DGN_PERT_CTRL 0 k 0) v) →
    (Fld.DGN_PERT_CTRL_EN.of v = 1 → s.rd Fld.DGN_PERT_CTRL_EN 0 k = 0 → (s.pertBad k = true → s.verdict who Reg.DGN_PERT_CTRL 0 k 0 v true = .rejected → exec (.perturbStart who k v) s = .next s.rejectWrite) ∧
      (s.pertBad k = false → s.verdict who Reg.DGN_PERT_CTRL 0 k 0 v false = .accepted → u = { t with dgn := { t.dgn with pertAt := Sparse.insert t.dgn.pertAt k t.now } } →
        exec (.perturbStart who k v) s = .next ((((u.showPert).bump .DGN_PERT_RUNS).raise Ev.DGN_PERTURB_ACTIVE .device 0 k).pertAct k true))) ∧
    (Fld.DGN_PERT_CTRL_EN.of v = 0 → s.rd Fld.DGN_PERT_CTRL_EN 0 k = 1 → s.verdict who Reg.DGN_PERT_CTRL 0 k 0 v false = .accepted → exec (.perturbStart who k v) s = .next (t.pertStop k))) ∧
  (∀ (k : Nat) (s : State), s.permitted 3 = false ∨ (s.rd Fld.DGN_PERT_CTRL_EN 0 (1 - k) = 1 ∧ s.rd Fld.DGN_PERT_CFG_POINT 0 (1 - k) = s.rd Fld.DGN_PERT_CFG_POINT 0 k) ∨ (pertLimits (s.rd Fld.DGN_PERT_CFG_POINT 0 k)).1 < s.rd Fld.DGN_PERT_CFG_TARGET 0 k ∨
    s.rd Fld.DGN_PERT_TIME_DURATION_MS 0 k = 0 → s.pertBad k = true) ∧
  (∀ (k a b : Nat) (s : State), s.rd Fld.DGN_PERT_CFG_POINT 0 k = a → pertLimits a = (b, none) → s.permitted 3 = true → s.rd Fld.DGN_PERT_CTRL_EN 0 (1 - k) = 0 ∨ s.rd Fld.DGN_PERT_CFG_POINT 0 (1 - k) ≠ a → s.rd Fld.DGN_PERT_CFG_TARGET 0 k ≤ b → s.rd Fld.DGN_PERT_TIME_DURATION_MS 0 k ≠ 0 → s.pertBad k = false) ∧
  (∀ (k a b x y : Nat) (s : State), s.rd Fld.DGN_PERT_CFG_POINT 0 k = a → pertLimits a = (b, some (x, y)) → (s.rd Fld.DGN_PERT_CFG_AMOUNT 0 k < x ∨ y < s.rd Fld.DGN_PERT_CFG_AMOUNT 0 k → s.pertBad k = true) ∧
    (s.permitted 3 = true → s.rd Fld.DGN_PERT_CTRL_EN 0 (1 - k) = 0 ∨ s.rd Fld.DGN_PERT_CFG_POINT 0 (1 - k) ≠ a → s.rd Fld.DGN_PERT_CFG_TARGET 0 k ≤ b → x ≤ s.rd Fld.DGN_PERT_CFG_AMOUNT 0 k → s.rd Fld.DGN_PERT_CFG_AMOUNT 0 k ≤ y → s.rd Fld.DGN_PERT_TIME_DURATION_MS 0 k ≠ 0 → s.pertBad k = false)) ∧
  (∀ (k t0 n : Nat) (s : State), Sparse.find s.dgn.pertAt k = some t0 → n = s.rd Fld.DGN_PERT_TIME_PERIOD_US 0 k * usClk →
    (n = 0 ∨ (s.now - t0) % n * 100 < n * s.rd Fld.DGN_PERT_CTRL_DUTY_PCT 0 k → exec (.perturbDutyToggle k) s = .next (if Sparse.get s.dgn.pertActs k true then s else s.pertAct k true)) ∧
    (n ≠ 0 → n * s.rd Fld.DGN_PERT_CTRL_DUTY_PCT 0 k ≤ (s.now - t0) % n * 100 → exec (.perturbDutyToggle k) s = .next (if Sparse.get s.dgn.pertActs k true then s.pertAct k false else s))) ∧
  (∀ (k t0 : Nat) (s : State), Sparse.find s.dgn.pertAt k = some t0 → (s.now < t0 + s.rd Fld.DGN_PERT_TIME_DURATION_MS 0 k * msClk → exec (.perturbEnd k) s = .next s) ∧
    (t0 + s.rd Fld.DGN_PERT_TIME_DURATION_MS 0 k * msClk ≤ s.now → exec (.perturbEnd k) s = .next (s.pertStop k)))
end

