-- ==== Sys2Proof/Laws/Sparse.lean ====
section
/-! SUPPORT. The laws of sparse tables: read after write, and that every operation keeps the canonical form. -/
namespace Sys2Proof.Machine

variable {α : Type}

/-- Raising the bound that a table's keys rise from. -/
theorem Sparse.risesFrom_mono {m : Sparse α} : ∀ {a b : Nat}, a ≤ b → Sparse.risesFrom b m = true → Sparse.risesFrom a m = true := by
  cases m with
  | nil => intros; rfl
  | cons e m =>
    intro a b hab h
    obtain ⟨k, v⟩ := e
    simp only [Sparse.risesFrom, Bool.and_eq_true, decide_eq_true_eq] at h ⊢
    exact ⟨by omega, h.2⟩

/-- A key below the bound is not listed. -/
theorem Sparse.find_low {m : Sparse α} : ∀ {b k : Nat}, k < b → Sparse.risesFrom b m = true → Sparse.find m k = none := by
  cases m with
  | nil => intros; rfl
  | cons e m =>
    intro b k hk h
    obtain ⟨k', v⟩ := e
    simp only [Sparse.risesFrom, Bool.and_eq_true, decide_eq_true_eq] at h
    simp only [Sparse.find]
    rw [if_neg (by omega), if_pos (by omega)]

/-- Reading the key just listed. -/
@[simp] theorem Sparse.find_insert_self (m : Sparse α) (k : Nat) (v : α) : Sparse.find (Sparse.insert m k v) k = some v := by
  induction m with
  | nil => simp [Sparse.insert, Sparse.find]
  | cons e m ih =>
    obtain ⟨k', v'⟩ := e
    simp only [Sparse.insert]
    split
    · simp [Sparse.find]
    · split
      · simp [Sparse.find]
      · rename_i h1 h2
        simp only [Sparse.find, if_neg h1, if_neg h2, ih]

/-- Listing a key leaves every other key alone. -/
theorem Sparse.find_insert_ne (m : Sparse α) {k j : Nat} (v : α) (h : j ≠ k) : Sparse.find (Sparse.insert m k v) j = Sparse.find m j := by
  induction m with
  | nil =>
    simp only [Sparse.insert, Sparse.find]
    rw [if_neg (by omega)]; split <;> rfl
  | cons e m ih =>
    obtain ⟨k', v'⟩ := e
    simp only [Sparse.insert]
    split
    · rename_i h1
      subst h1
      have h2 : k' ≠ j := fun e => h e.symm
      simp only [Sparse.find, if_neg h2]
    · split
      · simp only [Sparse.find]
        rw [if_neg (by omega)]
        by_cases h3 : j < k
        · rw [if_pos h3, if_neg (by omega), if_pos (by omega)]
        · rw [if_neg h3]
      · simp only [Sparse.find, ih]

/-- Listing keeps the canonical form. -/
theorem Sparse.risesFrom_insert {m : Sparse α} {k : Nat} {v : α} : ∀ {b : Nat}, b ≤ k → Sparse.risesFrom b m = true →
    Sparse.risesFrom b (Sparse.insert m k v) = true := by
  induction m with
  | nil => intro b hb _; simp [Sparse.insert, Sparse.risesFrom, hb]
  | cons e m ih =>
    intro b hb h
    obtain ⟨k', v'⟩ := e
    simp only [Sparse.risesFrom, Bool.and_eq_true, decide_eq_true_eq] at h
    simp only [Sparse.insert]
    split
    · rename_i h1
      simp only [Sparse.risesFrom, Bool.and_eq_true, decide_eq_true_eq]
      exact ⟨hb, by rw [← h1]; exact h.2⟩
    · split
      · simp only [Sparse.risesFrom, Bool.and_eq_true, decide_eq_true_eq]
        exact ⟨hb, by omega, h.2⟩
      · simp only [Sparse.risesFrom, Bool.and_eq_true, decide_eq_true_eq]
        exact ⟨h.1, ih (by omega) h.2⟩
theorem Sparse.wf_insert {m : Sparse α} (k : Nat) (v : α) (h : Sparse.wf m = true) : Sparse.wf (Sparse.insert m k v) = true :=
  Sparse.risesFrom_insert (Nat.zero_le k) h

/-- Removing keeps the canonical form. -/
theorem Sparse.risesFrom_erase {m : Sparse α} {k : Nat} : ∀ {b : Nat}, Sparse.risesFrom b m = true →
    Sparse.risesFrom b (Sparse.erase m k) = true := by
  induction m with
  | nil => intro b h; exact h
  | cons e m ih =>
    intro b h
    obtain ⟨k', v'⟩ := e
    simp only [Sparse.risesFrom, Bool.and_eq_true, decide_eq_true_eq] at h
    simp only [Sparse.erase]
    split
    · exact Sparse.risesFrom_mono (by omega) h.2
    · split
      · simp only [Sparse.risesFrom, Bool.and_eq_true, decide_eq_true_eq]; exact h
      · simp only [Sparse.risesFrom, Bool.and_eq_true, decide_eq_true_eq]; exact ⟨h.1, ih h.2⟩
theorem Sparse.wf_erase {m : Sparse α} (k : Nat) (h : Sparse.wf m = true) : Sparse.wf (Sparse.erase m k) = true :=
  Sparse.risesFrom_erase h

/-- A removed key is not listed. -/
theorem Sparse.find_erase_from {m : Sparse α} {k : Nat} : ∀ {b : Nat}, Sparse.risesFrom b m = true → Sparse.find (Sparse.erase m k) k = none := by
  induction m with
  | nil => intros; rfl
  | cons e m ih =>
    intro b h
    obtain ⟨k', v'⟩ := e
    simp only [Sparse.risesFrom, Bool.and_eq_true, decide_eq_true_eq] at h
    simp only [Sparse.erase]
    split
    · exact Sparse.find_low (by omega) h.2
    · split
      · rename_i h1 h2; simp [Sparse.find, h1, h2]
      · rename_i h1 h2; simp only [Sparse.find, if_neg h1, if_neg h2]; exact ih h.2
theorem Sparse.find_erase_self {m : Sparse α} (k : Nat) (h : Sparse.wf m = true) : Sparse.find (Sparse.erase m k) k = none :=
  Sparse.find_erase_from h

/-- Removing a key leaves every other key alone. -/
theorem Sparse.find_erase_from_ne {m : Sparse α} {k j : Nat} (hne : j ≠ k) : ∀ {b : Nat}, Sparse.risesFrom b m = true →
    Sparse.find (Sparse.erase m k) j = Sparse.find m j := by
  induction m with
  | nil => intros; rfl
  | cons e m ih =>
    intro b h
    obtain ⟨k', v'⟩ := e
    simp only [Sparse.risesFrom, Bool.and_eq_true, decide_eq_true_eq] at h
    simp only [Sparse.erase]
    split
    · rename_i h1
      simp only [Sparse.find]
      rw [if_neg (by omega)]
      by_cases h3 : j < k'
      · rw [if_pos h3]; exact Sparse.find_low (by omega) h.2
      · rw [if_neg h3]
    · split
      · rfl
      · simp only [Sparse.find]
        rw [ih h.2]
theorem Sparse.find_erase_ne {m : Sparse α} {k j : Nat} (hne : j ≠ k) (h : Sparse.wf m = true) :
    Sparse.find (Sparse.erase m k) j = Sparse.find m j := Sparse.find_erase_from_ne hne h

/-- Storing keeps the canonical form. -/
theorem Sparse.wf_put [DecidableEq α] {m : Sparse α} (k : Nat) (v d : α) (h : Sparse.wf m = true) : Sparse.wf (Sparse.put m k v d) = true := by
  unfold Sparse.put; split
  · exact Sparse.wf_erase k h
  · exact Sparse.wf_insert k v h
/-- Keeping some keys keeps the canonical form. -/
theorem Sparse.risesFrom_filter {m : Sparse α} (p : Nat × α → Bool) : ∀ {b : Nat}, Sparse.risesFrom b m = true →
    Sparse.risesFrom b (m.filter p) = true := by
  induction m with
  | nil => intro b h; exact h
  | cons e m ih =>
    intro b h
    obtain ⟨k', v'⟩ := e
    simp only [Sparse.risesFrom, Bool.and_eq_true, decide_eq_true_eq] at h
    rw [List.filter_cons]
    split
    · simp only [Sparse.risesFrom, Bool.and_eq_true, decide_eq_true_eq]; exact ⟨h.1, ih h.2⟩
    · exact Sparse.risesFrom_mono (by omega) (ih h.2)
theorem Sparse.wf_keep {m : Sparse α} (p : Nat → Bool) (h : Sparse.wf m = true) : Sparse.wf (Sparse.keep m p) = true :=
  Sparse.risesFrom_filter _ h
/-- The empty table is canonical. -/
@[simp] theorem Sparse.wf_nil : Sparse.wf ([] : Sparse α) = true := rfl

/-- Reading the key just stored. -/
theorem Sparse.get_put_self [DecidableEq α] {m : Sparse α} (k : Nat) (v d : α) (h : Sparse.wf m = true) :
    Sparse.get (Sparse.put m k v d) k d = v := by
  unfold Sparse.put Sparse.get; split
  · rename_i e; rw [Sparse.find_erase_self k h]; exact e.symm
  · simp
/-- Storing leaves every other key alone. -/
theorem Sparse.get_put_ne [DecidableEq α] {m : Sparse α} {k j : Nat} (v d d' : α) (hne : j ≠ k) (h : Sparse.wf m = true) :
    Sparse.get (Sparse.put m k v d) j d' = Sparse.get m j d' := by
  unfold Sparse.put Sparse.get; split
  · rw [Sparse.find_erase_ne hne h]
  · rw [Sparse.find_insert_ne m v hne]
/-- Reading a key just listed, or another. -/
@[simp] theorem Sparse.get_insert_self (m : Sparse α) (k : Nat) (v d : α) : Sparse.get (Sparse.insert m k v) k d = v := by
  simp [Sparse.get]
theorem Sparse.get_insert_ne (m : Sparse α) {k j : Nat} (v d : α) (hne : j ≠ k) : Sparse.get (Sparse.insert m k v) j d = Sparse.get m j d := by
  simp [Sparse.get, Sparse.find_insert_ne m v hne]
/-- Reading a key just removed. -/
theorem Sparse.get_erase_self {m : Sparse α} (k : Nat) (d : α) (h : Sparse.wf m = true) : Sparse.get (Sparse.erase m k) k d = d := by
  simp [Sparse.get, Sparse.find_erase_self k h]
theorem Sparse.get_erase_ne {m : Sparse α} {k j : Nat} (d : α) (hne : j ≠ k) (h : Sparse.wf m = true) :
    Sparse.get (Sparse.erase m k) j d = Sparse.get m j d := by
  simp [Sparse.get, Sparse.find_erase_ne hne h]

end Sys2Proof.Machine
end

