-- ==== Sys2Proof/Laws/State.lean ====
section
/-! SUPPORT. What each named operation leaves alone: one lemma per operation and field of the state. -/
namespace Sys2Proof.Machine

variable (s : State)

/-! ### wrReg -/
@[simp] theorem State.wrReg_pending (r : Reg) (inst i k : Nat) (w : Word) (slot : Nat) : (s.wrReg r inst i k w slot).pending = s.pending := rfl
@[simp] theorem State.wrReg_now (r : Reg) (inst i k : Nat) (w : Word) (slot : Nat) : (s.wrReg r inst i k w slot).now = s.now := rfl
@[simp] theorem State.wrReg_tod (r : Reg) (inst i k : Nat) (w : Word) (slot : Nat) : (s.wrReg r inst i k w slot).tod = s.tod := rfl
@[simp] theorem State.wrReg_fresh (r : Reg) (inst i k : Nat) (w : Word) (slot : Nat) : (s.wrReg r inst i k w slot).fresh = s.fresh := rfl
@[simp] theorem State.wrReg_ctrs (r : Reg) (inst i k : Nat) (w : Word) (slot : Nat) : (s.wrReg r inst i k w slot).ctrs = s.ctrs := rfl
@[simp] theorem State.wrReg_out (r : Reg) (inst i k : Nat) (w : Word) (slot : Nat) : (s.wrReg r inst i k w slot).out = s.out := rfl
@[simp] theorem State.wrReg_evt (r : Reg) (inst i k : Nat) (w : Word) (slot : Nat) : (s.wrReg r inst i k w slot).evt = s.evt := rfl
@[simp] theorem State.wrReg_flt (r : Reg) (inst i k : Nat) (w : Word) (slot : Nat) : (s.wrReg r inst i k w slot).flt = s.flt := rfl
@[simp] theorem State.wrReg_rind (r : Reg) (inst i k : Nat) (w : Word) (slot : Nat) : (s.wrReg r inst i k w slot).rind = s.rind := rfl
@[simp] theorem State.wrReg_img (r : Reg) (inst i k : Nat) (w : Word) (slot : Nat) : (s.wrReg r inst i k w slot).img = s.img := rfl
@[simp] theorem State.wrReg_hst (r : Reg) (inst i k : Nat) (w : Word) (slot : Nat) : (s.wrReg r inst i k w slot).hst = s.hst := rfl
@[simp] theorem State.wrReg_rst (r : Reg) (inst i k : Nat) (w : Word) (slot : Nat) : (s.wrReg r inst i k w slot).rst = s.rst := rfl
@[simp] theorem State.wrReg_pwr (r : Reg) (inst i k : Nat) (w : Word) (slot : Nat) : (s.wrReg r inst i k w slot).pwr = s.pwr := rfl
@[simp] theorem State.wrReg_clk (r : Reg) (inst i k : Nat) (w : Word) (slot : Nat) : (s.wrReg r inst i k w slot).clk = s.clk := rfl
@[simp] theorem State.wrReg_dgn (r : Reg) (inst i k : Nat) (w : Word) (slot : Nat) : (s.wrReg r inst i k w slot).dgn = s.dgn := rfl
@[simp] theorem State.wrReg_pins (r : Reg) (inst i k : Nat) (w : Word) (slot : Nat) : (s.wrReg r inst i k w slot).pins = s.pins := rfl
@[simp] theorem State.wrReg_backup (r : Reg) (inst i k : Nat) (w : Word) (slot : Nat) : (s.wrReg r inst i k w slot).backup = s.backup := rfl
@[simp] theorem State.wrReg_drains (r : Reg) (inst i k : Nat) (w : Word) (slot : Nat) : (s.wrReg r inst i k w slot).drains = s.drains := rfl
@[simp] theorem State.wrReg_gates (r : Reg) (inst i k : Nat) (w : Word) (slot : Nat) : (s.wrReg r inst i k w slot).gates = s.gates := rfl
@[simp] theorem State.wrReg_ports (r : Reg) (inst i k : Nat) (w : Word) (slot : Nat) : (s.wrReg r inst i k w slot).ports = s.ports := rfl
@[simp] theorem State.wrReg_fifos (r : Reg) (inst i k : Nat) (w : Word) (slot : Nat) : (s.wrReg r inst i k w slot).fifos = s.fifos := rfl
@[simp] theorem State.wrReg_arbs (r : Reg) (inst i k : Nat) (w : Word) (slot : Nat) : (s.wrReg r inst i k w slot).arbs = s.arbs := rfl
@[simp] theorem State.wrReg_pkts (r : Reg) (inst i k : Nat) (w : Word) (slot : Nat) : (s.wrReg r inst i k w slot).pkts = s.pkts := rfl
@[simp] theorem State.wrReg_nextPkt (r : Reg) (inst i k : Nat) (w : Word) (slot : Nat) : (s.wrReg r inst i k w slot).nextPkt = s.nextPkt := rfl
@[simp] theorem State.wrReg_tm (r : Reg) (inst i k : Nat) (w : Word) (slot : Nat) : (s.wrReg r inst i k w slot).tm = s.tm := rfl
@[simp] theorem State.wrReg_hbc (r : Reg) (inst i k : Nat) (w : Word) (slot : Nat) : (s.wrReg r inst i k w slot).hbc = s.hbc := rfl
@[simp] theorem State.wrReg_sch (r : Reg) (inst i k : Nat) (w : Word) (slot : Nat) : (s.wrReg r inst i k w slot).sch = s.sch := rfl
@[simp] theorem State.wrReg_rbks (r : Reg) (inst i k : Nat) (w : Word) (slot : Nat) : (s.wrReg r inst i k w slot).rbks = s.rbks := rfl
@[simp] theorem State.wrReg_exms (r : Reg) (inst i k : Nat) (w : Word) (slot : Nat) : (s.wrReg r inst i k w slot).exms = s.exms := rfl
@[simp] theorem State.wrReg_lrns (r : Reg) (inst i k : Nat) (w : Word) (slot : Nat) : (s.wrReg r inst i k w slot).lrns = s.lrns := rfl
@[simp] theorem State.wrReg_flw (r : Reg) (inst i k : Nat) (w : Word) (slot : Nat) : (s.wrReg r inst i k w slot).flw = s.flw := rfl
@[simp] theorem State.wrReg_ups (r : Reg) (inst i k : Nat) (w : Word) (slot : Nat) : (s.wrReg r inst i k w slot).ups = s.ups := rfl
@[simp] theorem State.wrReg_edt (r : Reg) (inst i k : Nat) (w : Word) (slot : Nat) : (s.wrReg r inst i k w slot).edt = s.edt := rfl
@[simp] theorem State.wrReg_lht (r : Reg) (inst i k : Nat) (w : Word) (slot : Nat) : (s.wrReg r inst i k w slot).lht = s.lht := rfl
@[simp] theorem State.wrReg_ptp (r : Reg) (inst i k : Nat) (w : Word) (slot : Nat) : (s.wrReg r inst i k w slot).ptp = s.ptp := rfl
@[simp] theorem State.wrReg_kpr (r : Reg) (inst i k : Nat) (w : Word) (slot : Nat) : (s.wrReg r inst i k w slot).kpr = s.kpr := rfl
/-! ### wr -/
@[simp] theorem State.wr_pending (f : Fld) (v inst i k slot : Nat) : (s.wr f v inst i k slot).pending = s.pending := rfl
@[simp] theorem State.wr_now (f : Fld) (v inst i k slot : Nat) : (s.wr f v inst i k slot).now = s.now := rfl
@[simp] theorem State.wr_tod (f : Fld) (v inst i k slot : Nat) : (s.wr f v inst i k slot).tod = s.tod := rfl
@[simp] theorem State.wr_fresh (f : Fld) (v inst i k slot : Nat) : (s.wr f v inst i k slot).fresh = s.fresh := rfl
@[simp] theorem State.wr_ctrs (f : Fld) (v inst i k slot : Nat) : (s.wr f v inst i k slot).ctrs = s.ctrs := rfl
@[simp] theorem State.wr_out (f : Fld) (v inst i k slot : Nat) : (s.wr f v inst i k slot).out = s.out := rfl
@[simp] theorem State.wr_evt (f : Fld) (v inst i k slot : Nat) : (s.wr f v inst i k slot).evt = s.evt := rfl
@[simp] theorem State.wr_flt (f : Fld) (v inst i k slot : Nat) : (s.wr f v inst i k slot).flt = s.flt := rfl
@[simp] theorem State.wr_rind (f : Fld) (v inst i k slot : Nat) : (s.wr f v inst i k slot).rind = s.rind := rfl
@[simp] theorem State.wr_img (f : Fld) (v inst i k slot : Nat) : (s.wr f v inst i k slot).img = s.img := rfl
@[simp] theorem State.wr_hst (f : Fld) (v inst i k slot : Nat) : (s.wr f v inst i k slot).hst = s.hst := rfl
@[simp] theorem State.wr_rst (f : Fld) (v inst i k slot : Nat) : (s.wr f v inst i k slot).rst = s.rst := rfl
@[simp] theorem State.wr_pwr (f : Fld) (v inst i k slot : Nat) : (s.wr f v inst i k slot).pwr = s.pwr := rfl
@[simp] theorem State.wr_clk (f : Fld) (v inst i k slot : Nat) : (s.wr f v inst i k slot).clk = s.clk := rfl
@[simp] theorem State.wr_dgn (f : Fld) (v inst i k slot : Nat) : (s.wr f v inst i k slot).dgn = s.dgn := rfl
@[simp] theorem State.wr_pins (f : Fld) (v inst i k slot : Nat) : (s.wr f v inst i k slot).pins = s.pins := rfl
@[simp] theorem State.wr_backup (f : Fld) (v inst i k slot : Nat) : (s.wr f v inst i k slot).backup = s.backup := rfl
@[simp] theorem State.wr_drains (f : Fld) (v inst i k slot : Nat) : (s.wr f v inst i k slot).drains = s.drains := rfl
@[simp] theorem State.wr_gates (f : Fld) (v inst i k slot : Nat) : (s.wr f v inst i k slot).gates = s.gates := rfl
@[simp] theorem State.wr_ports (f : Fld) (v inst i k slot : Nat) : (s.wr f v inst i k slot).ports = s.ports := rfl
@[simp] theorem State.wr_fifos (f : Fld) (v inst i k slot : Nat) : (s.wr f v inst i k slot).fifos = s.fifos := rfl
@[simp] theorem State.wr_arbs (f : Fld) (v inst i k slot : Nat) : (s.wr f v inst i k slot).arbs = s.arbs := rfl
@[simp] theorem State.wr_pkts (f : Fld) (v inst i k slot : Nat) : (s.wr f v inst i k slot).pkts = s.pkts := rfl
@[simp] theorem State.wr_nextPkt (f : Fld) (v inst i k slot : Nat) : (s.wr f v inst i k slot).nextPkt = s.nextPkt := rfl
@[simp] theorem State.wr_tm (f : Fld) (v inst i k slot : Nat) : (s.wr f v inst i k slot).tm = s.tm := rfl
@[simp] theorem State.wr_hbc (f : Fld) (v inst i k slot : Nat) : (s.wr f v inst i k slot).hbc = s.hbc := rfl
@[simp] theorem State.wr_sch (f : Fld) (v inst i k slot : Nat) : (s.wr f v inst i k slot).sch = s.sch := rfl
@[simp] theorem State.wr_rbks (f : Fld) (v inst i k slot : Nat) : (s.wr f v inst i k slot).rbks = s.rbks := rfl
@[simp] theorem State.wr_exms (f : Fld) (v inst i k slot : Nat) : (s.wr f v inst i k slot).exms = s.exms := rfl
@[simp] theorem State.wr_lrns (f : Fld) (v inst i k slot : Nat) : (s.wr f v inst i k slot).lrns = s.lrns := rfl
@[simp] theorem State.wr_flw (f : Fld) (v inst i k slot : Nat) : (s.wr f v inst i k slot).flw = s.flw := rfl
@[simp] theorem State.wr_ups (f : Fld) (v inst i k slot : Nat) : (s.wr f v inst i k slot).ups = s.ups := rfl
@[simp] theorem State.wr_edt (f : Fld) (v inst i k slot : Nat) : (s.wr f v inst i k slot).edt = s.edt := rfl
@[simp] theorem State.wr_lht (f : Fld) (v inst i k slot : Nat) : (s.wr f v inst i k slot).lht = s.lht := rfl
@[simp] theorem State.wr_ptp (f : Fld) (v inst i k slot : Nat) : (s.wr f v inst i k slot).ptp = s.ptp := rfl
@[simp] theorem State.wr_kpr (f : Fld) (v inst i k slot : Nat) : (s.wr f v inst i k slot).kpr = s.kpr := rfl
/-! ### wrB -/
@[simp] theorem State.wrB_pending (f : Fld) (b : Bool) (inst i k : Nat) : (s.wrB f b inst i k).pending = s.pending := rfl
@[simp] theorem State.wrB_now (f : Fld) (b : Bool) (inst i k : Nat) : (s.wrB f b inst i k).now = s.now := rfl
@[simp] theorem State.wrB_tod (f : Fld) (b : Bool) (inst i k : Nat) : (s.wrB f b inst i k).tod = s.tod := rfl
@[simp] theorem State.wrB_fresh (f : Fld) (b : Bool) (inst i k : Nat) : (s.wrB f b inst i k).fresh = s.fresh := rfl
@[simp] theorem State.wrB_ctrs (f : Fld) (b : Bool) (inst i k : Nat) : (s.wrB f b inst i k).ctrs = s.ctrs := rfl
@[simp] theorem State.wrB_out (f : Fld) (b : Bool) (inst i k : Nat) : (s.wrB f b inst i k).out = s.out := rfl
@[simp] theorem State.wrB_evt (f : Fld) (b : Bool) (inst i k : Nat) : (s.wrB f b inst i k).evt = s.evt := rfl
@[simp] theorem State.wrB_flt (f : Fld) (b : Bool) (inst i k : Nat) : (s.wrB f b inst i k).flt = s.flt := rfl
@[simp] theorem State.wrB_rind (f : Fld) (b : Bool) (inst i k : Nat) : (s.wrB f b inst i k).rind = s.rind := rfl
@[simp] theorem State.wrB_img (f : Fld) (b : Bool) (inst i k : Nat) : (s.wrB f b inst i k).img = s.img := rfl
@[simp] theorem State.wrB_hst (f : Fld) (b : Bool) (inst i k : Nat) : (s.wrB f b inst i k).hst = s.hst := rfl
@[simp] theorem State.wrB_rst (f : Fld) (b : Bool) (inst i k : Nat) : (s.wrB f b inst i k).rst = s.rst := rfl
@[simp] theorem State.wrB_pwr (f : Fld) (b : Bool) (inst i k : Nat) : (s.wrB f b inst i k).pwr = s.pwr := rfl
@[simp] theorem State.wrB_clk (f : Fld) (b : Bool) (inst i k : Nat) : (s.wrB f b inst i k).clk = s.clk := rfl
@[simp] theorem State.wrB_dgn (f : Fld) (b : Bool) (inst i k : Nat) : (s.wrB f b inst i k).dgn = s.dgn := rfl
@[simp] theorem State.wrB_pins (f : Fld) (b : Bool) (inst i k : Nat) : (s.wrB f b inst i k).pins = s.pins := rfl
@[simp] theorem State.wrB_backup (f : Fld) (b : Bool) (inst i k : Nat) : (s.wrB f b inst i k).backup = s.backup := rfl
@[simp] theorem State.wrB_drains (f : Fld) (b : Bool) (inst i k : Nat) : (s.wrB f b inst i k).drains = s.drains := rfl
@[simp] theorem State.wrB_gates (f : Fld) (b : Bool) (inst i k : Nat) : (s.wrB f b inst i k).gates = s.gates := rfl
@[simp] theorem State.wrB_ports (f : Fld) (b : Bool) (inst i k : Nat) : (s.wrB f b inst i k).ports = s.ports := rfl
@[simp] theorem State.wrB_fifos (f : Fld) (b : Bool) (inst i k : Nat) : (s.wrB f b inst i k).fifos = s.fifos := rfl
@[simp] theorem State.wrB_arbs (f : Fld) (b : Bool) (inst i k : Nat) : (s.wrB f b inst i k).arbs = s.arbs := rfl
@[simp] theorem State.wrB_pkts (f : Fld) (b : Bool) (inst i k : Nat) : (s.wrB f b inst i k).pkts = s.pkts := rfl
@[simp] theorem State.wrB_nextPkt (f : Fld) (b : Bool) (inst i k : Nat) : (s.wrB f b inst i k).nextPkt = s.nextPkt := rfl
@[simp] theorem State.wrB_tm (f : Fld) (b : Bool) (inst i k : Nat) : (s.wrB f b inst i k).tm = s.tm := rfl
@[simp] theorem State.wrB_hbc (f : Fld) (b : Bool) (inst i k : Nat) : (s.wrB f b inst i k).hbc = s.hbc := rfl
@[simp] theorem State.wrB_sch (f : Fld) (b : Bool) (inst i k : Nat) : (s.wrB f b inst i k).sch = s.sch := rfl
@[simp] theorem State.wrB_rbks (f : Fld) (b : Bool) (inst i k : Nat) : (s.wrB f b inst i k).rbks = s.rbks := rfl
@[simp] theorem State.wrB_exms (f : Fld) (b : Bool) (inst i k : Nat) : (s.wrB f b inst i k).exms = s.exms := rfl
@[simp] theorem State.wrB_lrns (f : Fld) (b : Bool) (inst i k : Nat) : (s.wrB f b inst i k).lrns = s.lrns := rfl
@[simp] theorem State.wrB_flw (f : Fld) (b : Bool) (inst i k : Nat) : (s.wrB f b inst i k).flw = s.flw := rfl
@[simp] theorem State.wrB_ups (f : Fld) (b : Bool) (inst i k : Nat) : (s.wrB f b inst i k).ups = s.ups := rfl
@[simp] theorem State.wrB_edt (f : Fld) (b : Bool) (inst i k : Nat) : (s.wrB f b inst i k).edt = s.edt := rfl
@[simp] theorem State.wrB_lht (f : Fld) (b : Bool) (inst i k : Nat) : (s.wrB f b inst i k).lht = s.lht := rfl
@[simp] theorem State.wrB_ptp (f : Fld) (b : Bool) (inst i k : Nat) : (s.wrB f b inst i k).ptp = s.ptp := rfl
@[simp] theorem State.wrB_kpr (f : Fld) (b : Bool) (inst i k : Nat) : (s.wrB f b inst i k).kpr = s.kpr := rfl
/-! ### wrP -/
@[simp] theorem State.wrP_pending (f : Fld) (port v : Nat) : (s.wrP f port v).pending = s.pending := rfl
@[simp] theorem State.wrP_now (f : Fld) (port v : Nat) : (s.wrP f port v).now = s.now := rfl
@[simp] theorem State.wrP_tod (f : Fld) (port v : Nat) : (s.wrP f port v).tod = s.tod := rfl
@[simp] theorem State.wrP_fresh (f : Fld) (port v : Nat) : (s.wrP f port v).fresh = s.fresh := rfl
@[simp] theorem State.wrP_ctrs (f : Fld) (port v : Nat) : (s.wrP f port v).ctrs = s.ctrs := rfl
@[simp] theorem State.wrP_out (f : Fld) (port v : Nat) : (s.wrP f port v).out = s.out := rfl
@[simp] theorem State.wrP_evt (f : Fld) (port v : Nat) : (s.wrP f port v).evt = s.evt := rfl
@[simp] theorem State.wrP_flt (f : Fld) (port v : Nat) : (s.wrP f port v).flt = s.flt := rfl
@[simp] theorem State.wrP_rind (f : Fld) (port v : Nat) : (s.wrP f port v).rind = s.rind := rfl
@[simp] theorem State.wrP_img (f : Fld) (port v : Nat) : (s.wrP f port v).img = s.img := rfl
@[simp] theorem State.wrP_hst (f : Fld) (port v : Nat) : (s.wrP f port v).hst = s.hst := rfl
@[simp] theorem State.wrP_rst (f : Fld) (port v : Nat) : (s.wrP f port v).rst = s.rst := rfl
@[simp] theorem State.wrP_pwr (f : Fld) (port v : Nat) : (s.wrP f port v).pwr = s.pwr := rfl
@[simp] theorem State.wrP_clk (f : Fld) (port v : Nat) : (s.wrP f port v).clk = s.clk := rfl
@[simp] theorem State.wrP_dgn (f : Fld) (port v : Nat) : (s.wrP f port v).dgn = s.dgn := rfl
@[simp] theorem State.wrP_pins (f : Fld) (port v : Nat) : (s.wrP f port v).pins = s.pins := rfl
@[simp] theorem State.wrP_backup (f : Fld) (port v : Nat) : (s.wrP f port v).backup = s.backup := rfl
@[simp] theorem State.wrP_drains (f : Fld) (port v : Nat) : (s.wrP f port v).drains = s.drains := rfl
@[simp] theorem State.wrP_gates (f : Fld) (port v : Nat) : (s.wrP f port v).gates = s.gates := rfl
@[simp] theorem State.wrP_ports (f : Fld) (port v : Nat) : (s.wrP f port v).ports = s.ports := rfl
@[simp] theorem State.wrP_fifos (f : Fld) (port v : Nat) : (s.wrP f port v).fifos = s.fifos := rfl
@[simp] theorem State.wrP_arbs (f : Fld) (port v : Nat) : (s.wrP f port v).arbs = s.arbs := rfl
@[simp] theorem State.wrP_pkts (f : Fld) (port v : Nat) : (s.wrP f port v).pkts = s.pkts := rfl
@[simp] theorem State.wrP_nextPkt (f : Fld) (port v : Nat) : (s.wrP f port v).nextPkt = s.nextPkt := rfl
@[simp] theorem State.wrP_tm (f : Fld) (port v : Nat) : (s.wrP f port v).tm = s.tm := rfl
@[simp] theorem State.wrP_hbc (f : Fld) (port v : Nat) : (s.wrP f port v).hbc = s.hbc := rfl
@[simp] theorem State.wrP_sch (f : Fld) (port v : Nat) : (s.wrP f port v).sch = s.sch := rfl
@[simp] theorem State.wrP_rbks (f : Fld) (port v : Nat) : (s.wrP f port v).rbks = s.rbks := rfl
@[simp] theorem State.wrP_exms (f : Fld) (port v : Nat) : (s.wrP f port v).exms = s.exms := rfl
@[simp] theorem State.wrP_lrns (f : Fld) (port v : Nat) : (s.wrP f port v).lrns = s.lrns := rfl
@[simp] theorem State.wrP_flw (f : Fld) (port v : Nat) : (s.wrP f port v).flw = s.flw := rfl
@[simp] theorem State.wrP_ups (f : Fld) (port v : Nat) : (s.wrP f port v).ups = s.ups := rfl
@[simp] theorem State.wrP_edt (f : Fld) (port v : Nat) : (s.wrP f port v).edt = s.edt := rfl
@[simp] theorem State.wrP_lht (f : Fld) (port v : Nat) : (s.wrP f port v).lht = s.lht := rfl
@[simp] theorem State.wrP_ptp (f : Fld) (port v : Nat) : (s.wrP f port v).ptp = s.ptp := rfl
@[simp] theorem State.wrP_kpr (f : Fld) (port v : Nat) : (s.wrP f port v).kpr = s.kpr := rfl
/-! ### bump -/
@[simp] theorem State.bump_pending (c : Ctr) (item n : Nat) : (s.bump c item n).pending = s.pending := rfl
@[simp] theorem State.bump_now (c : Ctr) (item n : Nat) : (s.bump c item n).now = s.now := rfl
@[simp] theorem State.bump_tod (c : Ctr) (item n : Nat) : (s.bump c item n).tod = s.tod := rfl
@[simp] theorem State.bump_fresh (c : Ctr) (item n : Nat) : (s.bump c item n).fresh = s.fresh := rfl
@[simp] theorem State.bump_regs (c : Ctr) (item n : Nat) : (s.bump c item n).regs = s.regs := rfl
@[simp] theorem State.bump_bad (c : Ctr) (item n : Nat) : (s.bump c item n).bad = s.bad := rfl
@[simp] theorem State.bump_out (c : Ctr) (item n : Nat) : (s.bump c item n).out = s.out := rfl
@[simp] theorem State.bump_evt (c : Ctr) (item n : Nat) : (s.bump c item n).evt = s.evt := rfl
@[simp] theorem State.bump_flt (c : Ctr) (item n : Nat) : (s.bump c item n).flt = s.flt := rfl
@[simp] theorem State.bump_rind (c : Ctr) (item n : Nat) : (s.bump c item n).rind = s.rind := rfl
@[simp] theorem State.bump_img (c : Ctr) (item n : Nat) : (s.bump c item n).img = s.img := rfl
@[simp] theorem State.bump_hst (c : Ctr) (item n : Nat) : (s.bump c item n).hst = s.hst := rfl
@[simp] theorem State.bump_rst (c : Ctr) (item n : Nat) : (s.bump c item n).rst = s.rst := rfl
@[simp] theorem State.bump_pwr (c : Ctr) (item n : Nat) : (s.bump c item n).pwr = s.pwr := rfl
@[simp] theorem State.bump_clk (c : Ctr) (item n : Nat) : (s.bump c item n).clk = s.clk := rfl
@[simp] theorem State.bump_dgn (c : Ctr) (item n : Nat) : (s.bump c item n).dgn = s.dgn := rfl
@[simp] theorem State.bump_pins (c : Ctr) (item n : Nat) : (s.bump c item n).pins = s.pins := rfl
@[simp] theorem State.bump_backup (c : Ctr) (item n : Nat) : (s.bump c item n).backup = s.backup := rfl
@[simp] theorem State.bump_drains (c : Ctr) (item n : Nat) : (s.bump c item n).drains = s.drains := rfl
@[simp] theorem State.bump_gates (c : Ctr) (item n : Nat) : (s.bump c item n).gates = s.gates := rfl
@[simp] theorem State.bump_ports (c : Ctr) (item n : Nat) : (s.bump c item n).ports = s.ports := rfl
@[simp] theorem State.bump_fifos (c : Ctr) (item n : Nat) : (s.bump c item n).fifos = s.fifos := rfl
@[simp] theorem State.bump_arbs (c : Ctr) (item n : Nat) : (s.bump c item n).arbs = s.arbs := rfl
@[simp] theorem State.bump_pkts (c : Ctr) (item n : Nat) : (s.bump c item n).pkts = s.pkts := rfl
@[simp] theorem State.bump_nextPkt (c : Ctr) (item n : Nat) : (s.bump c item n).nextPkt = s.nextPkt := rfl
@[simp] theorem State.bump_tm (c : Ctr) (item n : Nat) : (s.bump c item n).tm = s.tm := rfl
@[simp] theorem State.bump_hbc (c : Ctr) (item n : Nat) : (s.bump c item n).hbc = s.hbc := rfl
@[simp] theorem State.bump_sch (c : Ctr) (item n : Nat) : (s.bump c item n).sch = s.sch := rfl
@[simp] theorem State.bump_rbks (c : Ctr) (item n : Nat) : (s.bump c item n).rbks = s.rbks := rfl
@[simp] theorem State.bump_exms (c : Ctr) (item n : Nat) : (s.bump c item n).exms = s.exms := rfl
@[simp] theorem State.bump_lrns (c : Ctr) (item n : Nat) : (s.bump c item n).lrns = s.lrns := rfl
@[simp] theorem State.bump_flw (c : Ctr) (item n : Nat) : (s.bump c item n).flw = s.flw := rfl
@[simp] theorem State.bump_ups (c : Ctr) (item n : Nat) : (s.bump c item n).ups = s.ups := rfl
@[simp] theorem State.bump_edt (c : Ctr) (item n : Nat) : (s.bump c item n).edt = s.edt := rfl
@[simp] theorem State.bump_lht (c : Ctr) (item n : Nat) : (s.bump c item n).lht = s.lht := rfl
@[simp] theorem State.bump_ptp (c : Ctr) (item n : Nat) : (s.bump c item n).ptp = s.ptp := rfl
@[simp] theorem State.bump_kpr (c : Ctr) (item n : Nat) : (s.bump c item n).kpr = s.kpr := rfl
/-! ### clearCtr -/
@[simp] theorem State.clearCtr_pending (c : Ctr) (item : Nat) : (s.clearCtr c item).pending = s.pending := rfl
@[simp] theorem State.clearCtr_now (c : Ctr) (item : Nat) : (s.clearCtr c item).now = s.now := rfl
@[simp] theorem State.clearCtr_tod (c : Ctr) (item : Nat) : (s.clearCtr c item).tod = s.tod := rfl
@[simp] theorem State.clearCtr_fresh (c : Ctr) (item : Nat) : (s.clearCtr c item).fresh = s.fresh := rfl
@[simp] theorem State.clearCtr_regs (c : Ctr) (item : Nat) : (s.clearCtr c item).regs = s.regs := rfl
@[simp] theorem State.clearCtr_bad (c : Ctr) (item : Nat) : (s.clearCtr c item).bad = s.bad := rfl
@[simp] theorem State.clearCtr_out (c : Ctr) (item : Nat) : (s.clearCtr c item).out = s.out := rfl
@[simp] theorem State.clearCtr_evt (c : Ctr) (item : Nat) : (s.clearCtr c item).evt = s.evt := rfl
@[simp] theorem State.clearCtr_flt (c : Ctr) (item : Nat) : (s.clearCtr c item).flt = s.flt := rfl
@[simp] theorem State.clearCtr_rind (c : Ctr) (item : Nat) : (s.clearCtr c item).rind = s.rind := rfl
@[simp] theorem State.clearCtr_img (c : Ctr) (item : Nat) : (s.clearCtr c item).img = s.img := rfl
@[simp] theorem State.clearCtr_hst (c : Ctr) (item : Nat) : (s.clearCtr c item).hst = s.hst := rfl
@[simp] theorem State.clearCtr_rst (c : Ctr) (item : Nat) : (s.clearCtr c item).rst = s.rst := rfl
@[simp] theorem State.clearCtr_pwr (c : Ctr) (item : Nat) : (s.clearCtr c item).pwr = s.pwr := rfl
@[simp] theorem State.clearCtr_clk (c : Ctr) (item : Nat) : (s.clearCtr c item).clk = s.clk := rfl
@[simp] theorem State.clearCtr_dgn (c : Ctr) (item : Nat) : (s.clearCtr c item).dgn = s.dgn := rfl
@[simp] theorem State.clearCtr_pins (c : Ctr) (item : Nat) : (s.clearCtr c item).pins = s.pins := rfl
@[simp] theorem State.clearCtr_backup (c : Ctr) (item : Nat) : (s.clearCtr c item).backup = s.backup := rfl
@[simp] theorem State.clearCtr_drains (c : Ctr) (item : Nat) : (s.clearCtr c item).drains = s.drains := rfl
@[simp] theorem State.clearCtr_gates (c : Ctr) (item : Nat) : (s.clearCtr c item).gates = s.gates := rfl
@[simp] theorem State.clearCtr_ports (c : Ctr) (item : Nat) : (s.clearCtr c item).ports = s.ports := rfl
@[simp] theorem State.clearCtr_fifos (c : Ctr) (item : Nat) : (s.clearCtr c item).fifos = s.fifos := rfl
@[simp] theorem State.clearCtr_arbs (c : Ctr) (item : Nat) : (s.clearCtr c item).arbs = s.arbs := rfl
@[simp] theorem State.clearCtr_pkts (c : Ctr) (item : Nat) : (s.clearCtr c item).pkts = s.pkts := rfl
@[simp] theorem State.clearCtr_nextPkt (c : Ctr) (item : Nat) : (s.clearCtr c item).nextPkt = s.nextPkt := rfl
@[simp] theorem State.clearCtr_tm (c : Ctr) (item : Nat) : (s.clearCtr c item).tm = s.tm := rfl
@[simp] theorem State.clearCtr_hbc (c : Ctr) (item : Nat) : (s.clearCtr c item).hbc = s.hbc := rfl
@[simp] theorem State.clearCtr_sch (c : Ctr) (item : Nat) : (s.clearCtr c item).sch = s.sch := rfl
@[simp] theorem State.clearCtr_rbks (c : Ctr) (item : Nat) : (s.clearCtr c item).rbks = s.rbks := rfl
@[simp] theorem State.clearCtr_exms (c : Ctr) (item : Nat) : (s.clearCtr c item).exms = s.exms := rfl
@[simp] theorem State.clearCtr_lrns (c : Ctr) (item : Nat) : (s.clearCtr c item).lrns = s.lrns := rfl
@[simp] theorem State.clearCtr_flw (c : Ctr) (item : Nat) : (s.clearCtr c item).flw = s.flw := rfl
@[simp] theorem State.clearCtr_ups (c : Ctr) (item : Nat) : (s.clearCtr c item).ups = s.ups := rfl
@[simp] theorem State.clearCtr_edt (c : Ctr) (item : Nat) : (s.clearCtr c item).edt = s.edt := rfl
@[simp] theorem State.clearCtr_lht (c : Ctr) (item : Nat) : (s.clearCtr c item).lht = s.lht := rfl
@[simp] theorem State.clearCtr_ptp (c : Ctr) (item : Nat) : (s.clearCtr c item).ptp = s.ptp := rfl
@[simp] theorem State.clearCtr_kpr (c : Ctr) (item : Nat) : (s.clearCtr c item).kpr = s.kpr := rfl
/-! ### emit -/
@[simp] theorem State.emit_pending (o : Out) : (s.emit o).pending = s.pending := rfl
@[simp] theorem State.emit_now (o : Out) : (s.emit o).now = s.now := rfl
@[simp] theorem State.emit_tod (o : Out) : (s.emit o).tod = s.tod := rfl
@[simp] theorem State.emit_fresh (o : Out) : (s.emit o).fresh = s.fresh := rfl
@[simp] theorem State.emit_regs (o : Out) : (s.emit o).regs = s.regs := rfl
@[simp] theorem State.emit_bad (o : Out) : (s.emit o).bad = s.bad := rfl
@[simp] theorem State.emit_ctrs (o : Out) : (s.emit o).ctrs = s.ctrs := rfl
@[simp] theorem State.emit_evt (o : Out) : (s.emit o).evt = s.evt := rfl
@[simp] theorem State.emit_flt (o : Out) : (s.emit o).flt = s.flt := rfl
@[simp] theorem State.emit_rind (o : Out) : (s.emit o).rind = s.rind := rfl
@[simp] theorem State.emit_img (o : Out) : (s.emit o).img = s.img := rfl
@[simp] theorem State.emit_hst (o : Out) : (s.emit o).hst = s.hst := rfl
@[simp] theorem State.emit_rst (o : Out) : (s.emit o).rst = s.rst := rfl
@[simp] theorem State.emit_pwr (o : Out) : (s.emit o).pwr = s.pwr := rfl
@[simp] theorem State.emit_clk (o : Out) : (s.emit o).clk = s.clk := rfl
@[simp] theorem State.emit_dgn (o : Out) : (s.emit o).dgn = s.dgn := rfl
@[simp] theorem State.emit_pins (o : Out) : (s.emit o).pins = s.pins := rfl
@[simp] theorem State.emit_backup (o : Out) : (s.emit o).backup = s.backup := rfl
@[simp] theorem State.emit_drains (o : Out) : (s.emit o).drains = s.drains := rfl
@[simp] theorem State.emit_gates (o : Out) : (s.emit o).gates = s.gates := rfl
@[simp] theorem State.emit_ports (o : Out) : (s.emit o).ports = s.ports := rfl
@[simp] theorem State.emit_fifos (o : Out) : (s.emit o).fifos = s.fifos := rfl
@[simp] theorem State.emit_arbs (o : Out) : (s.emit o).arbs = s.arbs := rfl
@[simp] theorem State.emit_pkts (o : Out) : (s.emit o).pkts = s.pkts := rfl
@[simp] theorem State.emit_nextPkt (o : Out) : (s.emit o).nextPkt = s.nextPkt := rfl
@[simp] theorem State.emit_tm (o : Out) : (s.emit o).tm = s.tm := rfl
@[simp] theorem State.emit_hbc (o : Out) : (s.emit o).hbc = s.hbc := rfl
@[simp] theorem State.emit_sch (o : Out) : (s.emit o).sch = s.sch := rfl
@[simp] theorem State.emit_rbks (o : Out) : (s.emit o).rbks = s.rbks := rfl
@[simp] theorem State.emit_exms (o : Out) : (s.emit o).exms = s.exms := rfl
@[simp] theorem State.emit_lrns (o : Out) : (s.emit o).lrns = s.lrns := rfl
@[simp] theorem State.emit_flw (o : Out) : (s.emit o).flw = s.flw := rfl
@[simp] theorem State.emit_ups (o : Out) : (s.emit o).ups = s.ups := rfl
@[simp] theorem State.emit_edt (o : Out) : (s.emit o).edt = s.edt := rfl
@[simp] theorem State.emit_lht (o : Out) : (s.emit o).lht = s.lht := rfl
@[simp] theorem State.emit_ptp (o : Out) : (s.emit o).ptp = s.ptp := rfl
@[simp] theorem State.emit_kpr (o : Out) : (s.emit o).kpr = s.kpr := rfl
/-! ### draw -/
@[simp] theorem State.draw_pending : (s.draw).pending = s.pending := rfl
@[simp] theorem State.draw_now : (s.draw).now = s.now := rfl
@[simp] theorem State.draw_tod : (s.draw).tod = s.tod := rfl
@[simp] theorem State.draw_regs : (s.draw).regs = s.regs := rfl
@[simp] theorem State.draw_bad : (s.draw).bad = s.bad := rfl
@[simp] theorem State.draw_ctrs : (s.draw).ctrs = s.ctrs := rfl
@[simp] theorem State.draw_out : (s.draw).out = s.out := rfl
@[simp] theorem State.draw_evt : (s.draw).evt = s.evt := rfl
@[simp] theorem State.draw_flt : (s.draw).flt = s.flt := rfl
@[simp] theorem State.draw_rind : (s.draw).rind = s.rind := rfl
@[simp] theorem State.draw_img : (s.draw).img = s.img := rfl
@[simp] theorem State.draw_hst : (s.draw).hst = s.hst := rfl
@[simp] theorem State.draw_rst : (s.draw).rst = s.rst := rfl
@[simp] theorem State.draw_pwr : (s.draw).pwr = s.pwr := rfl
@[simp] theorem State.draw_clk : (s.draw).clk = s.clk := rfl
@[simp] theorem State.draw_dgn : (s.draw).dgn = s.dgn := rfl
@[simp] theorem State.draw_pins : (s.draw).pins = s.pins := rfl
@[simp] theorem State.draw_backup : (s.draw).backup = s.backup := rfl
@[simp] theorem State.draw_drains : (s.draw).drains = s.drains := rfl
@[simp] theorem State.draw_gates : (s.draw).gates = s.gates := rfl
@[simp] theorem State.draw_ports : (s.draw).ports = s.ports := rfl
@[simp] theorem State.draw_fifos : (s.draw).fifos = s.fifos := rfl
@[simp] theorem State.draw_arbs : (s.draw).arbs = s.arbs := rfl
@[simp] theorem State.draw_pkts : (s.draw).pkts = s.pkts := rfl
@[simp] theorem State.draw_nextPkt : (s.draw).nextPkt = s.nextPkt := rfl
@[simp] theorem State.draw_tm : (s.draw).tm = s.tm := rfl
@[simp] theorem State.draw_hbc : (s.draw).hbc = s.hbc := rfl
@[simp] theorem State.draw_sch : (s.draw).sch = s.sch := rfl
@[simp] theorem State.draw_rbks : (s.draw).rbks = s.rbks := rfl
@[simp] theorem State.draw_exms : (s.draw).exms = s.exms := rfl
@[simp] theorem State.draw_lrns : (s.draw).lrns = s.lrns := rfl
@[simp] theorem State.draw_flw : (s.draw).flw = s.flw := rfl
@[simp] theorem State.draw_ups : (s.draw).ups = s.ups := rfl
@[simp] theorem State.draw_edt : (s.draw).edt = s.edt := rfl
@[simp] theorem State.draw_lht : (s.draw).lht = s.lht := rfl
@[simp] theorem State.draw_ptp : (s.draw).ptp = s.ptp := rfl
@[simp] theorem State.draw_kpr : (s.draw).kpr = s.kpr := rfl
/-! ### startDrain -/
@[simp] theorem State.startDrain_pending (blk inst clk : Nat) : (s.startDrain blk inst clk).pending = s.pending := rfl
@[simp] theorem State.startDrain_now (blk inst clk : Nat) : (s.startDrain blk inst clk).now = s.now := rfl
@[simp] theorem State.startDrain_tod (blk inst clk : Nat) : (s.startDrain blk inst clk).tod = s.tod := rfl
@[simp] theorem State.startDrain_fresh (blk inst clk : Nat) : (s.startDrain blk inst clk).fresh = s.fresh := rfl
@[simp] theorem State.startDrain_regs (blk inst clk : Nat) : (s.startDrain blk inst clk).regs = s.regs := rfl
@[simp] theorem State.startDrain_bad (blk inst clk : Nat) : (s.startDrain blk inst clk).bad = s.bad := rfl
@[simp] theorem State.startDrain_ctrs (blk inst clk : Nat) : (s.startDrain blk inst clk).ctrs = s.ctrs := rfl
@[simp] theorem State.startDrain_out (blk inst clk : Nat) : (s.startDrain blk inst clk).out = s.out := rfl
@[simp] theorem State.startDrain_evt (blk inst clk : Nat) : (s.startDrain blk inst clk).evt = s.evt := rfl
@[simp] theorem State.startDrain_flt (blk inst clk : Nat) : (s.startDrain blk inst clk).flt = s.flt := rfl
@[simp] theorem State.startDrain_rind (blk inst clk : Nat) : (s.startDrain blk inst clk).rind = s.rind := rfl
@[simp] theorem State.startDrain_img (blk inst clk : Nat) : (s.startDrain blk inst clk).img = s.img := rfl
@[simp] theorem State.startDrain_hst (blk inst clk : Nat) : (s.startDrain blk inst clk).hst = s.hst := rfl
@[simp] theorem State.startDrain_rst (blk inst clk : Nat) : (s.startDrain blk inst clk).rst = s.rst := rfl
@[simp] theorem State.startDrain_pwr (blk inst clk : Nat) : (s.startDrain blk inst clk).pwr = s.pwr := rfl
@[simp] theorem State.startDrain_clk (blk inst clk : Nat) : (s.startDrain blk inst clk).clk = s.clk := rfl
@[simp] theorem State.startDrain_dgn (blk inst clk : Nat) : (s.startDrain blk inst clk).dgn = s.dgn := rfl
@[simp] theorem State.startDrain_pins (blk inst clk : Nat) : (s.startDrain blk inst clk).pins = s.pins := rfl
@[simp] theorem State.startDrain_backup (blk inst clk : Nat) : (s.startDrain blk inst clk).backup = s.backup := rfl
@[simp] theorem State.startDrain_gates (blk inst clk : Nat) : (s.startDrain blk inst clk).gates = s.gates := rfl
@[simp] theorem State.startDrain_ports (blk inst clk : Nat) : (s.startDrain blk inst clk).ports = s.ports := rfl
@[simp] theorem State.startDrain_fifos (blk inst clk : Nat) : (s.startDrain blk inst clk).fifos = s.fifos := rfl
@[simp] theorem State.startDrain_arbs (blk inst clk : Nat) : (s.startDrain blk inst clk).arbs = s.arbs := rfl
@[simp] theorem State.startDrain_pkts (blk inst clk : Nat) : (s.startDrain blk inst clk).pkts = s.pkts := rfl
@[simp] theorem State.startDrain_nextPkt (blk inst clk : Nat) : (s.startDrain blk inst clk).nextPkt = s.nextPkt := rfl
@[simp] theorem State.startDrain_tm (blk inst clk : Nat) : (s.startDrain blk inst clk).tm = s.tm := rfl
@[simp] theorem State.startDrain_hbc (blk inst clk : Nat) : (s.startDrain blk inst clk).hbc = s.hbc := rfl
@[simp] theorem State.startDrain_sch (blk inst clk : Nat) : (s.startDrain blk inst clk).sch = s.sch := rfl
@[simp] theorem State.startDrain_rbks (blk inst clk : Nat) : (s.startDrain blk inst clk).rbks = s.rbks := rfl
@[simp] theorem State.startDrain_exms (blk inst clk : Nat) : (s.startDrain blk inst clk).exms = s.exms := rfl
@[simp] theorem State.startDrain_lrns (blk inst clk : Nat) : (s.startDrain blk inst clk).lrns = s.lrns := rfl
@[simp] theorem State.startDrain_flw (blk inst clk : Nat) : (s.startDrain blk inst clk).flw = s.flw := rfl
@[simp] theorem State.startDrain_ups (blk inst clk : Nat) : (s.startDrain blk inst clk).ups = s.ups := rfl
@[simp] theorem State.startDrain_edt (blk inst clk : Nat) : (s.startDrain blk inst clk).edt = s.edt := rfl
@[simp] theorem State.startDrain_lht (blk inst clk : Nat) : (s.startDrain blk inst clk).lht = s.lht := rfl
@[simp] theorem State.startDrain_ptp (blk inst clk : Nat) : (s.startDrain blk inst clk).ptp = s.ptp := rfl
@[simp] theorem State.startDrain_kpr (blk inst clk : Nat) : (s.startDrain blk inst clk).kpr = s.kpr := rfl
/-! ### stopDrain -/
@[simp] theorem State.stopDrain_pending (blk inst : Nat) : (s.stopDrain blk inst).pending = s.pending := rfl
@[simp] theorem State.stopDrain_now (blk inst : Nat) : (s.stopDrain blk inst).now = s.now := rfl
@[simp] theorem State.stopDrain_tod (blk inst : Nat) : (s.stopDrain blk inst).tod = s.tod := rfl
@[simp] theorem State.stopDrain_fresh (blk inst : Nat) : (s.stopDrain blk inst).fresh = s.fresh := rfl
@[simp] theorem State.stopDrain_regs (blk inst : Nat) : (s.stopDrain blk inst).regs = s.regs := rfl
@[simp] theorem State.stopDrain_bad (blk inst : Nat) : (s.stopDrain blk inst).bad = s.bad := rfl
@[simp] theorem State.stopDrain_ctrs (blk inst : Nat) : (s.stopDrain blk inst).ctrs = s.ctrs := rfl
@[simp] theorem State.stopDrain_out (blk inst : Nat) : (s.stopDrain blk inst).out = s.out := rfl
@[simp] theorem State.stopDrain_evt (blk inst : Nat) : (s.stopDrain blk inst).evt = s.evt := rfl
@[simp] theorem State.stopDrain_flt (blk inst : Nat) : (s.stopDrain blk inst).flt = s.flt := rfl
@[simp] theorem State.stopDrain_rind (blk inst : Nat) : (s.stopDrain blk inst).rind = s.rind := rfl
@[simp] theorem State.stopDrain_img (blk inst : Nat) : (s.stopDrain blk inst).img = s.img := rfl
@[simp] theorem State.stopDrain_hst (blk inst : Nat) : (s.stopDrain blk inst).hst = s.hst := rfl
@[simp] theorem State.stopDrain_rst (blk inst : Nat) : (s.stopDrain blk inst).rst = s.rst := rfl
@[simp] theorem State.stopDrain_pwr (blk inst : Nat) : (s.stopDrain blk inst).pwr = s.pwr := rfl
@[simp] theorem State.stopDrain_clk (blk inst : Nat) : (s.stopDrain blk inst).clk = s.clk := rfl
@[simp] theorem State.stopDrain_dgn (blk inst : Nat) : (s.stopDrain blk inst).dgn = s.dgn := rfl
@[simp] theorem State.stopDrain_pins (blk inst : Nat) : (s.stopDrain blk inst).pins = s.pins := rfl
@[simp] theorem State.stopDrain_backup (blk inst : Nat) : (s.stopDrain blk inst).backup = s.backup := rfl
@[simp] theorem State.stopDrain_gates (blk inst : Nat) : (s.stopDrain blk inst).gates = s.gates := rfl
@[simp] theorem State.stopDrain_ports (blk inst : Nat) : (s.stopDrain blk inst).ports = s.ports := rfl
@[simp] theorem State.stopDrain_fifos (blk inst : Nat) : (s.stopDrain blk inst).fifos = s.fifos := rfl
@[simp] theorem State.stopDrain_arbs (blk inst : Nat) : (s.stopDrain blk inst).arbs = s.arbs := rfl
@[simp] theorem State.stopDrain_pkts (blk inst : Nat) : (s.stopDrain blk inst).pkts = s.pkts := rfl
@[simp] theorem State.stopDrain_nextPkt (blk inst : Nat) : (s.stopDrain blk inst).nextPkt = s.nextPkt := rfl
@[simp] theorem State.stopDrain_tm (blk inst : Nat) : (s.stopDrain blk inst).tm = s.tm := rfl
@[simp] theorem State.stopDrain_hbc (blk inst : Nat) : (s.stopDrain blk inst).hbc = s.hbc := rfl
@[simp] theorem State.stopDrain_sch (blk inst : Nat) : (s.stopDrain blk inst).sch = s.sch := rfl
@[simp] theorem State.stopDrain_rbks (blk inst : Nat) : (s.stopDrain blk inst).rbks = s.rbks := rfl
@[simp] theorem State.stopDrain_exms (blk inst : Nat) : (s.stopDrain blk inst).exms = s.exms := rfl
@[simp] theorem State.stopDrain_lrns (blk inst : Nat) : (s.stopDrain blk inst).lrns = s.lrns := rfl
@[simp] theorem State.stopDrain_flw (blk inst : Nat) : (s.stopDrain blk inst).flw = s.flw := rfl
@[simp] theorem State.stopDrain_ups (blk inst : Nat) : (s.stopDrain blk inst).ups = s.ups := rfl
@[simp] theorem State.stopDrain_edt (blk inst : Nat) : (s.stopDrain blk inst).edt = s.edt := rfl
@[simp] theorem State.stopDrain_lht (blk inst : Nat) : (s.stopDrain blk inst).lht = s.lht := rfl
@[simp] theorem State.stopDrain_ptp (blk inst : Nat) : (s.stopDrain blk inst).ptp = s.ptp := rfl
@[simp] theorem State.stopDrain_kpr (blk inst : Nat) : (s.stopDrain blk inst).kpr = s.kpr := rfl
/-! ### What they write -/
@[simp] theorem State.emit_out (o : Out) : (s.emit o).out = o :: s.out := rfl
@[simp] theorem State.draw_fresh : s.draw.fresh = s.fresh + 1 := rfl
theorem State.wrReg_regs (r : Reg) (inst i k : Nat) (w : Word) (slot : Nat) : (s.wrReg r inst i k w slot).regs =
    Sparse.put s.regs (r.key inst i k slot) w (r.resetOf i k) := rfl
theorem State.wrReg_bad (r : Reg) (inst i k : Nat) (w : Word) (slot : Nat) : (s.wrReg r inst i k w slot).bad =
    Sparse.erase s.bad (r.key inst i k slot) := rfl
theorem State.bump_ctrs (c : Ctr) (item n : Nat) : (s.bump c item n).ctrs =
    Sparse.put s.ctrs (c.key item) (s.ctr c item + n) 0 := rfl

end Sys2Proof.Machine
end

