-- ==== Sys2Proof/Laws/Ops.lean ====
section
/-! SUPPORT. One lemma per shared operation: reading after writing, counting, what raising an event leaves alone, and that
each operation keeps the canonical form, the queue and the clock. -/
namespace Sys2Proof.Machine

/-! ### Words -/

theorem setBits_arith (w v lo width : Nat) (h : lo + width ≤ 32) (hw : w < 2 ^ 32) :
    w / 2 ^ (lo + width) * 2 ^ (lo + width) + v % 2 ^ width * 2 ^ lo + w % 2 ^ lo < 2 ^ 32 := by
  have e : 2 ^ (lo + width) = 2 ^ lo * 2 ^ width := Nat.pow_add 2 lo width
  have hb : 2 ^ 32 = 2 ^ (lo + width) * 2 ^ (32 - (lo + width)) := by rw [← Nat.pow_add]; congr 1; omega
  have p1 : 0 < 2 ^ lo := Nat.two_pow_pos _
  have p2 : 0 < 2 ^ width := Nat.two_pow_pos _
  have hq : w / 2 ^ (lo + width) < 2 ^ (32 - (lo + width)) := by
    rw [Nat.div_lt_iff_lt_mul (Nat.two_pow_pos _), Nat.mul_comm, ← hb]; exact hw
  have h1 : v % 2 ^ width < 2 ^ width := Nat.mod_lt _ p2
  have h2 : w % 2 ^ lo < 2 ^ lo := Nat.mod_lt _ p1
  have h3 : v % 2 ^ width * 2 ^ lo + w % 2 ^ lo < 2 ^ (lo + width) := by
    have : (v % 2 ^ width + 1) * 2 ^ lo ≤ 2 ^ width * 2 ^ lo := Nat.mul_le_mul_right _ h1
    rw [Nat.add_mul, Nat.one_mul] at this
    rw [e, Nat.mul_comm (2 ^ lo)]; omega
  have h4 : (w / 2 ^ (lo + width) + 1) * 2 ^ (lo + width) ≤ 2 ^ (32 - (lo + width)) * 2 ^ (lo + width) :=
    Nat.mul_le_mul_right _ hq
  rw [Nat.add_mul, Nat.one_mul] at h4
  rw [hb, Nat.mul_comm (2 ^ (lo + width)) (2 ^ (32 - (lo + width)))]; omega

theorem setBits_toNat (w : Word) (v lo width : Nat) (h : lo + width ≤ 32) : (setBitsOf w lo width v).toNat =
    w.toNat / 2 ^ (lo + width) * 2 ^ (lo + width) + v % 2 ^ width * 2 ^ lo + w.toNat % 2 ^ lo := by
  unfold setBitsOf
  rw [BitVec.toNat_ofNat, Nat.mod_eq_of_lt (setBits_arith w.toNat v lo width h w.isLt)]

/-- A replaced field reads as the value given, cut to the field's width. -/
theorem bitsOf_setBitsOf_self (w : Word) (lo width v : Nat) (h : lo + width ≤ 32) :
    bitsOf (setBitsOf w lo width v) lo width = v % 2 ^ width := by
  unfold bitsOf
  rw [setBits_toNat w v lo width h, Nat.pow_add]
  have p1 : 0 < 2 ^ lo := Nat.two_pow_pos _
  have h2 : w.toNat % 2 ^ lo < 2 ^ lo := Nat.mod_lt _ p1
  have e : w.toNat / (2 ^ lo * 2 ^ width) * (2 ^ lo * 2 ^ width) + v % 2 ^ width * 2 ^ lo + w.toNat % 2 ^ lo =
      w.toNat % 2 ^ lo + 2 ^ lo * (v % 2 ^ width + 2 ^ width * (w.toNat / (2 ^ lo * 2 ^ width))) := by
    rw [Nat.mul_add, Nat.mul_comm (w.toNat / (2 ^ lo * 2 ^ width)), Nat.mul_assoc, Nat.mul_comm (2 ^ lo) (v % 2 ^ width)]; omega
  rw [e, Nat.add_mul_div_left _ _ p1, Nat.div_eq_of_lt h2, Nat.zero_add, Nat.add_mul_mod_self_left, Nat.mod_mod]

/-- A field above the replaced one reads as before. -/
theorem bitsOf_setBitsOf_above (w : Word) (lo width v lo' width' : Nat) (h : lo + width ≤ 32) (ho : lo + width ≤ lo') :
    bitsOf (setBitsOf w lo width v) lo' width' = bitsOf w lo' width' := by
  unfold bitsOf
  rw [setBits_toNat w v lo width h]
  obtain ⟨d, rfl⟩ := Nat.exists_eq_add_of_le ho
  have p : 0 < 2 ^ (lo + width) := Nat.two_pow_pos _
  have h2 : w.toNat % 2 ^ lo < 2 ^ lo := Nat.mod_lt _ (Nat.two_pow_pos _)
  have h3 : v % 2 ^ width * 2 ^ lo + w.toNat % 2 ^ lo < 2 ^ (lo + width) := by
    have : (v % 2 ^ width + 1) * 2 ^ lo ≤ 2 ^ width * 2 ^ lo := Nat.mul_le_mul_right _ (Nat.mod_lt _ (Nat.two_pow_pos _))
    rw [Nat.add_mul, Nat.one_mul] at this
    rw [Nat.pow_add, Nat.mul_comm (2 ^ lo)]; omega
  rw [Nat.pow_add 2 (lo + width) d, ← Nat.div_div_eq_div_mul, ← Nat.div_div_eq_div_mul, Nat.add_assoc, Nat.mul_comm (w.toNat / _),
    Nat.mul_add_div p, Nat.div_eq_of_lt h3, Nat.add_zero]

/-- A field below the replaced one reads as before. -/
theorem bitsOf_setBitsOf_below (w : Word) (lo width v lo' width' : Nat) (h : lo + width ≤ 32) (ho : lo' + width' ≤ lo) :
    bitsOf (setBitsOf w lo width v) lo' width' = bitsOf w lo' width' := by
  unfold bitsOf
  rw [setBits_toNat w v lo width h]
  obtain ⟨d, rfl⟩ := Nat.exists_eq_add_of_le ho
  have key : ∀ x : Nat, x / 2 ^ lo' % 2 ^ width' = x % 2 ^ (lo' + width' + d) / 2 ^ lo' % 2 ^ width' := by
    intro x
    rw [Nat.pow_add, Nat.pow_add, Nat.mul_assoc, Nat.mod_mul_right_div_self, Nat.mod_mul_right_mod]
  rw [key, key w.toNat]
  congr 2
  rw [Nat.pow_add 2 (lo' + width' + d) width, ← Nat.mul_assoc, Nat.mul_comm _ (2 ^ width), ← Nat.mul_assoc, ← Nat.add_mul,
    Nat.mul_comm _ (2 ^ (lo' + width' + d)), Nat.mul_add_mod, Nat.mod_mod]

/-! ### Registers -/

/-- An item reads back the word it was given. -/
theorem State.rdReg_wrReg_self (s : State) (r : Reg) (inst i k : Nat) (w : Word) (slot : Nat) (h : s.Canon) :
    (s.wrReg r inst i k w slot).rdReg r inst i k slot = w := by
  unfold State.rdReg
  rw [State.wrReg_bad, State.wrReg_regs, Sparse.get_erase_self _ _ h.2.1]
  simp [Sparse.get_put_self _ _ _ h.1]

/-- Writing one item leaves every item with another key alone. -/
theorem State.rdReg_wrReg_ne (s : State) (r r' : Reg) (inst i k inst' i' k' : Nat) (w : Word) (slot slot' : Nat) (h : s.Canon)
    (hne : r'.key inst' i' k' slot' ≠ r.key inst i k slot) :
    (s.wrReg r inst i k w slot).rdReg r' inst' i' k' slot' = s.rdReg r' inst' i' k' slot' := by
  unfold State.rdReg
  rw [State.wrReg_bad, State.wrReg_regs, Sparse.get_erase_ne _ hne h.2.1, Sparse.get_put_ne _ _ _ hne h.1]

/-- A field reads back the value it was given, cut to its width. -/
theorem State.rd_wr_self (s : State) (f : Fld) (v inst i k slot : Nat) (hc : s.Canon) (h : f.lo + f.width ≤ 32) :
    (s.wr f v inst i k slot).rd f inst i k slot = v % 2 ^ f.width := by
  unfold State.rd State.wr
  rw [State.rdReg_wrReg_self _ _ _ _ _ _ _ hc, bitsOf_setBitsOf_self _ _ _ _ h]

/-- Writing a field leaves every field of an item with another key alone. -/
theorem State.rd_wr_ne (s : State) (f g : Fld) (v inst i k slot inst' i' k' slot' : Nat) (hc : s.Canon)
    (hne : g.reg.key inst' i' k' slot' ≠ f.reg.key inst i k slot) :
    (s.wr f v inst i k slot).rd g inst' i' k' slot' = s.rd g inst' i' k' slot' := by
  unfold State.rd State.wr
  rw [State.rdReg_wrReg_ne _ _ _ _ _ _ _ _ _ _ _ _ hc hne]

/-- Writing a field leaves the other fields of its item alone. -/
theorem State.rd_wr_field (s : State) (f g : Fld) (v inst i k slot : Nat) (hc : s.Canon) (hr : g.reg = f.reg)
    (h : f.lo + f.width ≤ 32) (hd : f.lo + f.width ≤ g.lo ∨ g.lo + g.width ≤ f.lo) :
    (s.wr f v inst i k slot).rd g inst i k slot = s.rd g inst i k slot := by
  unfold State.rd State.wr
  rw [hr, State.rdReg_wrReg_self _ _ _ _ _ _ _ hc]
  cases hd with
  | inl h1 => exact bitsOf_setBitsOf_above _ _ _ _ _ _ h h1
  | inr h1 => exact bitsOf_setBitsOf_below _ _ _ _ _ _ h h1

/-! ### Counters -/

/-- Counting adds to the counter. -/
theorem State.ctr_bump_self (s : State) (c : Ctr) (item n : Nat) (h : s.Canon) :
    (s.bump c item n).ctr c item = s.ctr c item + n := by
  unfold State.ctr
  rw [State.bump_ctrs, Sparse.get_put_self _ _ _ h.2.2]; rfl

/-- Counting leaves every other counter alone. -/
theorem State.ctr_bump_ne (s : State) (c d : Ctr) (item item' n : Nat) (h : s.Canon) (hne : d.key item' ≠ c.key item) :
    (s.bump c item n).ctr d item' = s.ctr d item' := by
  unfold State.ctr
  rw [State.bump_ctrs, Sparse.get_put_ne _ _ _ hne h.2.2]

/-! ### Changes of replicated tables -/

/-- What a replicated change does once its operands are good: it goes on in its next pipeline. -/
theorem State.replicate_atPipe (s : State) (tag op : Nat) (i : Instr) (pipes : List Nat) (act : Nat) (check : Option MbxStatus)
    (write : State → Nat → PipeWrite) (h : Change) (p : Nat) (rest : List Nat)
    (ha : s.AtPipe tag op i pipes check.isNone h p rest) :
    s.replicate tag op i pipes act check write = s.writeNext tag act h p rest write := by
  obtain ⟨h1, h2, h3, h4⟩ := ha
  unfold State.replicate
  rw [h1, h2]
  cases check with
  | none => cases h.undo.isEmpty <;> simp [h3]
  | some st =>
    have : h.undo.isEmpty = false := by
      rcases h4 with h4 | h4
      · simp at h4
      · simpa [List.isEmpty_eq_false_iff] using h4
    simp [this, h3]

/-! ### What each operation keeps -/

@[refl] theorem Keeps.refl (s : State) : Keeps s s := ⟨rfl, rfl, id⟩
theorem Keeps.trans {s t u : State} (h : Keeps s t) (g : Keeps t u) : Keeps s u :=
  ⟨g.1.trans h.1, g.2.1.trans h.2.1, fun c => g.2.2 (h.2.2 c)⟩

theorem wrReg_keeps (s : State) (r : Reg) (inst i k : Nat) (w : Word) (slot : Nat) : Keeps s (s.wrReg r inst i k w slot) :=
  ⟨rfl, rfl, fun h => ⟨Sparse.wf_put _ _ _ h.1, Sparse.wf_erase _ h.2.1, h.2.2⟩⟩
theorem wr_keeps (s : State) (f : Fld) (v inst i k slot : Nat) : Keeps s (s.wr f v inst i k slot) := wrReg_keeps _ _ _ _ _ _ _
theorem wrB_keeps (s : State) (f : Fld) (b : Bool) (inst i k : Nat) : Keeps s (s.wrB f b inst i k) := wr_keeps _ _ _ _ _ _ _
theorem wrP_keeps (s : State) (f : Fld) (port v : Nat) : Keeps s (s.wrP f port v) := wr_keeps _ _ _ _ _ _ _
theorem bump_keeps (s : State) (c : Ctr) (item n : Nat) : Keeps s (s.bump c item n) :=
  ⟨rfl, rfl, fun h => ⟨h.1, h.2.1, Sparse.wf_put _ _ _ h.2.2⟩⟩
theorem clearCtr_keeps (s : State) (c : Ctr) (item : Nat) : Keeps s (s.clearCtr c item) :=
  ⟨rfl, rfl, fun h => ⟨h.1, h.2.1, Sparse.wf_erase _ h.2.2⟩⟩
theorem emit_keeps (s : State) (o : Out) : Keeps s (s.emit o) := ⟨rfl, rfl, id⟩
theorem draw_keeps (s : State) : Keeps s s.draw := ⟨rfl, rfl, id⟩
theorem startDrain_keeps (s : State) (blk inst clk : Nat) : Keeps s (s.startDrain blk inst clk) := ⟨rfl, rfl, id⟩
theorem stopDrain_keeps (s : State) (blk inst : Nat) : Keeps s (s.stopDrain blk inst) := ⟨rfl, rfl, id⟩

end Sys2Proof.Machine
end

