-- ==== Sys2Proof/Machine/Package.lean ====
section
/-! DEFINITION. The signals and the package (spec 30) and the state of each output (spec 25, R730): where each ball lies, what it carries, and
what the pins show in a state of the machine. -/
namespace Sys2Proof.Machine

open Sys2Proof.Config

/-! ### Balls (R794 to R796) -/

/-- A ball: its row and its column, each from 1 to 63 (R794). -/
structure Ball where
  row : Nat
  col : Nat
  deriving DecidableEq, Repr

/-- Where a ball lies in mm from the package centre, seen from the lid: to the right, and above (R794). -/
def Ball.place (b : Ball) : Int × Int := ((b.col : Int) - 32, 32 - (b.row : Int))
/-- The regions of the array (Table 30.1): a lane band by pipeline, a corner, a harbour strip or the core. -/
inductive Region where
  | band (p : Nat)
  | cornerA
  | cornerB
  | cornerC
  | cornerD
  | strip
  | core
  deriving DecidableEq, Repr

/-- The region of a ball (R795). -/
def Ball.region (b : Ball) : Region :=
  if b.row ≤ 12 then if b.col ≤ 12 then .cornerA else if b.col ≤ 51 then .band 0 else .cornerB
  else if b.row ≤ 51 then
    if b.col ≤ 12 then .band 3 else if 52 ≤ b.col then .band 1
    else if b.row ≤ 18 ∨ 46 ≤ b.row then .strip else .core
  else if b.col ≤ 12 then .cornerD else if b.col ≤ 51 then .band 2 else .cornerC
/-- The ball of a band at a depth and a position (R796). -/
def bandBall (p d e : Nat) : Ball :=
  match p with
  | 0 => ⟨d, e⟩
  | 1 => ⟨e, 64 - d⟩
  | 2 => ⟨64 - d, 64 - e⟩
  | _ => ⟨64 - e, d⟩
/-- The depth and the position of a ball of a band. -/
def Ball.inBand (b : Ball) : Nat → Nat × Nat
  | 0 => (b.row, b.col)
  | 1 => (64 - b.col, b.row)
  | 2 => (64 - b.row, 64 - b.col)
  | _ => (b.col, 64 - b.row)
/-- The ball of a lane pin (Table 30.2): transmit or receive, positive or negative. -/
def laneBall (lane : Nat) (tx pos : Bool) : Ball :=
  let i := lane % 24
  bandBall (lane / 24) ((if tx then 2 else 4) + 6 * (i / 12)) (14 + 3 * (i % 12) + (!pos).toNat)
/-- The lane pin a ball of a band carries: the lane, and whether it is a transmit and a positive pin. -/
def Ball.lanePin (b : Ball) (p : Nat) : Option (Nat × Bool × Bool) :=
  let (d, e) := b.inBand p
  let t := if d = 2 ∨ d = 4 then some 0 else if d = 8 ∨ d = 10 then some 1 else none
  match t with
  | some t =>
    if 14 ≤ e ∧ e < 50 ∧ (e - 14) % 3 < 2 then some (24 * p + 12 * t + (e - 14) / 3, d % 6 == 2, (e - 14) % 3 == 0) else none
  | none => none

/-! ### Signals (R797) -/

/-- Direction of a signal. -/
inductive SigDir where
  | input
  | output
  | both
  deriving DecidableEq, Repr
/-- The weak resistor of a signal. -/
inductive Pull where
  | none
  | up
  | down
  deriving DecidableEq, Repr
/-- A row of Table 30.3: a signal, its balls, its direction and its pull. -/
structure Signal where
  name : String
  balls : List Ball
  dir : SigDir
  pull : Pull
  deriving DecidableEq, Repr

/-- Signals outside the lane bands and corner C (Table 30.3). -/
def cornerSignals : List Signal :=
  [⟨"REFCLK_A", [⟨2, 54⟩, ⟨2, 55⟩], .input, .none⟩, ⟨"REFCLK_B", [⟨2, 58⟩, ⟨2, 59⟩], .input, .none⟩, ⟨"OSC_IN", [⟨4, 54⟩], .input, .none⟩,
   ⟨"OSC_TEMP", [⟨4, 56⟩], .input, .none⟩, ⟨"PPS_IN", [⟨6, 54⟩, ⟨6, 56⟩], .input, .down⟩, ⟨"PPS_OUT", [⟨6, 58⟩, ⟨6, 60⟩], .output, .none⟩,
   ⟨"TOD_RX", [⟨8, 54⟩], .input, .up⟩, ⟨"TOD_TX", [⟨8, 56⟩], .output, .none⟩, ⟨"FREQ_IN", [⟨8, 58⟩, ⟨8, 60⟩], .input, .down⟩]
  ++ [⟨"RESET_N", [⟨2, 2⟩], .input, .up⟩, ⟨"PWRGOOD", [⟨2, 4⟩], .input, .down⟩, ⟨"QUIET_N", [⟨2, 6⟩], .input, .up⟩,
   ⟨"EVENT_N", [⟨2, 8⟩], .output, .none⟩, ⟨"THERM_TRIP_N", [⟨2, 10⟩], .output, .none⟩,
   ⟨"NVM_IO", (List.range 8).map (fun k => ⟨4, 3 + k⟩), .both, .down⟩, ⟨"NVM_CLK", [⟨6, 3⟩], .output, .down⟩,
   ⟨"NVM_CS_N", [⟨6, 5⟩], .output, .up⟩, ⟨"NVM_DS", [⟨6, 7⟩], .input, .down⟩]
  ++ [⟨"TCK", [⟨8, 2⟩], .input, .down⟩, ⟨"TMS", [⟨8, 4⟩], .input, .up⟩, ⟨"TDI", [⟨8, 6⟩], .input, .up⟩, ⟨"TDO", [⟨8, 8⟩], .output, .none⟩,
   ⟨"TRST_N", [⟨8, 10⟩], .input, .down⟩, ⟨"STRAP", (List.range 4).map (fun k => ⟨10, 2 + 2 * k⟩), .input, .down⟩,
   ⟨"MGS_SCL", [⟨10, 10⟩], .input, .none⟩, ⟨"MGS_SDA", [⟨10, 12⟩], .both, .none⟩]
/-- The PCIe signals, in corner C. -/
def pcieSignals : List Signal :=
  let four := fun (r c : Nat) => (List.range 4).map (fun k => (⟨r, c + 3 * k⟩ : Ball))
  [⟨"PCIE_TXP", four 62 53, .output, .none⟩, ⟨"PCIE_TXN", four 62 54, .output, .none⟩, ⟨"PCIE_RXP", four 60 53, .input, .none⟩,
   ⟨"PCIE_RXN", four 60 54, .input, .none⟩, ⟨"PCIE_REFCLK", [⟨58, 53⟩, ⟨58, 54⟩], .input, .none⟩, ⟨"PCIE_PERST_N", [⟨56, 53⟩], .input, .down⟩]
/-- Every signal but the lanes. -/
def signals : List Signal := cornerSignals ++ pcieSignals
/-- The balls of VBK, and the reserved balls, which must be left unconnected (R803). -/
def vbkBalls : List Ball := [⟨12, 2⟩, ⟨12, 4⟩]
/-- See `vbkBalls`. -/
def Ball.reserved (b : Ball) : Bool := (b.row == 60 || b.row == 62) && decide (2 ≤ b.col ∧ b.col ≤ 11)

/-! ### Supplies (R798) -/

/-- The rails in the numbering of Table 25.1, and behind them VBK and VSS. -/
inductive Rail where
  | core
  | sram
  | ser
  | serh
  | hbm
  | hbmQ
  | io
  | vbk
  | vss
  deriving DecidableEq, Repr
/-- What a ball carries. -/
inductive BallUse where
  | lane (n : Nat) (tx pos : Bool)
  | signal (name : String)
  | reserved
  | rail (r : Rail)
  deriving DecidableEq, Repr

/-- The rail of an area's odd balls (R798); none in a lane band. -/
def Ball.areaRail (b : Ball) : Rail :=
  match b.region with
  | .core => if 21 ≤ b.col ∧ b.col ≤ 43 then .core else .sram
  | .strip => if b.row ≤ 15 ∨ 49 ≤ b.row then .hbm else .hbmQ
  | .cornerC => .ser
  | _ => .io
/-- What a ball carries (R796 to R798, R803). -/
def Ball.use (b : Ball) : BallUse :=
  match b.region with
  | .band p =>
    match b.lanePin p with
    | some (n, tx, pos) => .lane n tx pos
    | none => if (b.inBand p).1 = 6 then .rail .ser else if (b.inBand p).1 = 12 then .rail .serh else .rail .vss
  | _ =>
    match signals.find? (fun x => x.balls.contains b) with
    | some x => .signal x.name
    | none =>
      if vbkBalls.contains b then .rail .vbk else if b.reserved then .reserved
      else .rail (if (b.row + b.col) % 2 = 0 then .vss else b.areaRail)

/-! ### Outputs (R730, R797) -/

/-- The state of an output. -/
inductive PinState where
  | low
  | high
  | highZ
  | released
  | idle
  /-- In use: what it carries is what the machine sends. -/
  | active
  deriving DecidableEq, Repr
/-- The outputs of Table 25.4. -/
inductive OutPin where
  | lane (n : Nat)
  | pps (n : Nat)
  | todTx
  | eventN
  | thermTripN
  | nvm
  | pcieTx
  | mgsSda
  | tdo
  deriving DecidableEq, Repr
/-- A lane's transmitter is driven: the transmitters are on, its quad is up, and the lane is not OFF. -/
def State.laneDriven (s : State) (n : Nat) : Bool := s.txOn && s.domainUp (n / 4) && s.rdL Fld.LNE_CTRL_MODE n != 0
/-- What an output shows (R730, R756, R763, R797): the pins of the flash are driven while an attempt or an operation of the host uses it,
and a serial line is released but while it answers, which no state shows. -/
def State.pinState (s : State) : OutPin → PinState
  | .lane n => if s.laneDriven n then .active else .idle
  | .pps n => if s.on Fld.LHT_PPS_OUT_CFG_EN 0 n then .active else .low
  | .todTx => if s.on Fld.LHT_TOD_CFG_TX_EN then .active else .high
  | .eventN => if s.eventN then .released else .low
  | .thermTripN => if s.pins.thermTripN then .released else .low
  | .nvm => if s.img.attempt.isSome || s.img.flashOp.isSome then .active else .highZ
  | .pcieTx => if s.on Fld.HST_PCIE_STATUS_LINK_UP then .active else .idle
  | .mgsSda => .released
  | .tdo => .highZ

/-! ### Thermal data (R805, R806) -/

/-- The lid at a temperature, what a harbour stack and the junction reach, in 10^-12 °C for power in nW (Table 30.6). -/
def stackHeat (lid power : Nat) : Nat := lid + 300 * power
/-- See `stackHeat`. -/
def junctionHeat (lid power : Nat) : Nat := lid + 40 * power

end Sys2Proof.Machine
end

