-- ==== Sys2Proof/Machine/Electrical.lean ====
section
/-! DEFINITION. The electrical data of the device itself (spec 31): ranges and thresholds of the rails, the brown-out detectors, and how the
power of a configuration divides among the rails. -/
namespace Sys2Proof.Machine

/-- Limits of a rail in mV: what it may bear (Table 31.1), its range and nominal value, and its brown-out threshold (Table 31.2). -/
structure Supply where
  absMin : Int
  absMax : Int
  min_ : Nat
  nominal : Nat
  max_ : Nat
  brownOut : Option Nat
  deriving DecidableEq, Repr

/-- The limits of each rail (R807, R808); VBK has a range but no nominal value, and VSS has none. -/
def Rail.supply : Rail → Supply
  | .core => ⟨-300, 900, 728, 750, 772, some 705⟩
  | .sram => ⟨-300, 950, 776, 800, 824, some 755⟩
  | .ser => ⟨-300, 1000, 825, 850, 875, some 800⟩
  | .serh => ⟨-300, 1400, 1164, 1200, 1236, some 1130⟩
  | .hbm => ⟨-300, 1300, 1067, 1100, 1133, some 1040⟩
  | .hbmQ => ⟨-300, 550, 388, 400, 412, some 375⟩
  | .io => ⟨-300, 2100, 1746, 1800, 1854, some 1690⟩
  | .vbk => ⟨-300, 3600, 1800, 0, 3300, none⟩
  | .vss => ⟨0, 0, 0, 0, 0, none⟩
/-- The rails with a brown-out detector, in the numbering of Table 25.1. -/
def brownOutRails : List Rail := [.core, .sram, .ser, .serh, .hbm, .hbmQ, .io]
/-- A brown-out of a rail asks for a cold reset (Table 31.2). -/
def coldRail (r : Rail) : Bool := r == .core || r == .sram || r == .io
/-- A detector that trips at `trip` mV, within 5 mV of its threshold, is in brown-out at a voltage: below its trip point, and until 10 mV
above the threshold once it has tripped (R809). -/
def inBrownOut (threshold trip mv : Nat) (was : Bool) : Bool := decide (mv < trip) || (was && decide (mv < threshold + 10))
/-- A trip point a detector may have (R809). -/
def tripFits (threshold trip : Nat) : Bool := decide (threshold ≤ trip + 5 ∧ trip ≤ threshold + 5)

/-! ### Power by rail (R811) -/

/-- How the power of a domain divides among the rails, in thirtieths (R811); lanes are quads 0 to 23, and 60 stands for the always-on
domains, whose 1.6 W divide as 1.0, 0.2 and 0.4 W. -/
def domainShares (d : Nat) : List (Rail × Nat) :=
  if d < 24 then [(.ser, 21), (.serh, 9)]
  else if d = 48 ∨ d = 49 ∨ d = 57 then [(.core, 30)]
  else if d = 50 ∨ d = 51 then [(.core, 20), (.hbmQ, 10)]
  else if d = 56 then [(.core, 15), (.ser, 15)]
  else if d = 64 then [(.hbm, 25), (.hbmQ, 5)]
  else [(.core, 24), (.sram, 6)]
/-- The part of a power that a rail gives to a domain. -/
def railPart (r : Rail) (d power : Nat) : Nat := (((domainShares d).lookup r).getD 0) * power / 30
/-- What the always-on domains draw from a rail, in nW. -/
def alwaysOn (r : Rail) : Nat := (([(Rail.core, 1000000000), (.sram, 200000000), (.io, 400000000)] : List (Rail × Nat)).lookup r).getD 0
/-- The power of a rail in nW (R811): the domains that are up, the stacks (64), the lanes of the powered quads and the always-on domains. -/
def State.railPower (s : State) (r : Rail) (u : Nat → Nat) : Nat :=
  let domains := (switchable.filter s.domainUp).foldl (fun a d => a + railPart r d (powerAt (domainFull d) (u d))) 0
  let lanes := ((List.range 96).filter (fun l => s.domainUp (l / 4))).foldl (fun a l => a + railPart r 0 (s.lanePower l)) 0
  domains + lanes + railPart r 64 (powerAt 24000 (u 64)) + alwaysOn r
/-- The current of a rail in nA: its power at its nominal voltage. -/
def railCurrent (r : Rail) (nw : Nat) : Nat := nw * 1000 / r.supply.nominal

end Sys2Proof.Machine
end

