-- ==== Sys2Proof/WellFormed.lean ====
section
/-! DEFINITION. Which commands are well formed: every index, port, address and width lies in the range the manual gives
it (R6, R22, R39). -/
namespace Sys2Proof

/-- The command's operands lie in the ranges the manual gives them. -/
def Instr.wellFormed : Instr → Bool
  | .registerWrite _ addr _ be => addr < 268435456 && addr % 4 = 0 && be < 16
  | .rcRead who addr => addr < 268435456 ∨ (who = .host ∧ 68719476736 ≤ addr ∧ addr < 137438969856)
  | .mgsTransaction count index _ => count < 16 && index < 4096
  | .mgsBusTimeout => true
  | .bar0ReadTimeout => true
  | .frameStart port _ head _ => port < 96 && 22 ≤ head.length
  | .arbTruncate port _ => port < 96
  | .frameEnd port _ _ _ _ _ => port < 96
  | .headHandoff pipe => pipe < 4
  | .parseComplete _ => true
  | .endStatusCommit _ => true
  | .lookupMerge _ => true
  | .expressLookup _ => true
  | .curdLookup _ found => found < 3
  | .recordFetchReturn cls key _ _ => cls < 16 && key < 2 ^ 304
  | .chainRelease pipe cls key _ => pipe < 4 && cls < 16 && key < 2 ^ 304
  | .parkTimeout _ => true
  | .setStallRetry slice set => slice < 4 && set < 6144
  | .flowSetup slice => slice < 4
  | .groupReseed g => g < 2097152
  | .flowServiceAct _ => true
  | .wheyWriteback slice _ => slice < 4
  | .wbAgeExpiry cls key => cls < 16 && key < 2 ^ 304
  | .sliceFlush _ slice _ => slice < 4
  | .sliceFlushDone slice => slice < 4
  | .expiryVisit => true
  | .expiryPeriodStart => true
  | .removalCommit cls key => cls < 16 && key < 2 ^ 304
  | .bindingComplete cls key => cls < 16 && key < 2 ^ 304
  | .ipfixExportSend coll => coll < 4
  | .ipfixTemplateSend coll => coll < 4
  | .sessionStage _ => true
  | .policerDecision _ => true
  | .edit _ => true
  | .captureRecordWrite port => port < 2
  | .cellWrite _ => true
  | .creditWait pipe slice => pipe < 4 && slice < 4
  | .cellArrive plane src dst _ _ pick => plane < 2 && src < 4 && dst < 4 && pick < 98304
  | .tombstonePost slice pick => slice < 4 && pick < 98304
  | .backstopExpiry slice stream pick => slice < 4 && stream < 1048592 && pick < 98304
  | .incompletePacketExpiry slice stream seq => slice < 4 && stream < 1048592 && seq < 65536
  | .replicate slice pick => slice < 4 && pick < 98304
  | .alloc slice req pick => slice < 4 && req < 8 && pick < 98304
  | .share slice req n mask ids => slice < 4 && req < 8 && 1 ≤ n && n ≤ 4096 && mask < 256 && ids.all (fun b => decide (b < 95232))
  | .handoff slice req to_ ids => slice < 4 && req < 8 && to_ < 8 && ids.all (fun b => decide (b < 95232))
  | .release slice req ids => slice < 4 && req < 8 && ids.all (fun b => decide (b < 95232))
  | .free slice req ids => slice < 4 && req < 8 && ids.all (fun b => decide (b < 95232))
  | .releaseFree slice req ids => slice < 4 && req < 8 && ids.all (fun b => decide (b < 95232))
  | .stageAgeExpiry slice q pick => slice < 4 && q < 65536 && pick < 2097152
  | .chunkWriteIssue slice q pick => slice < 4 && q < 65536 && pick < 2097152
  | .chunkWriteComplete slice q => slice < 4 && q < 65536
  | .chunkFetchIssue slice q pick => slice < 4 && q < 65536 && pick < 98304
  | .chunkFetchReturn slice q _ => slice < 4 && q < 65536
  | .bufferReclaimSweep slice req => slice < 4 && req < 8
  | .scheduleDecision slice j => slice < 4 && j < 26
  | .shaperRefill slice => slice < 4
  | .starveExpiry slice q => slice < 4 && q < 65536
  | .frameTransmit port => port < 96
  | .txComplete port => port < 96
  | .pauseExpiry port => port < 96
  | .pfcExpiry port prio => port < 96 && prio < 8
  | .pfcStorm port cls => port < 96 && cls < 16
  | .pfcRecoverExpiry port prio => port < 96 && prio < 8
  | .xoff port prio => port < 96 && prio < 9
  | .xon port prio => port < 96 && prio < 9
  | .pauseRefresh port prio => port < 96 && prio < 9
  | .pauseFrameSend port => port < 96
  | .prtModeWrite _ port v => port < 96 && !Nat.testBit v.toNat 10
  | .portReset _ port v => port < 96 && Nat.testBit v.toNat 10
  | .laneReset _ lane v => lane < 96 && Nat.testBit v.toNat 7
  | .octetReset _ octet v => octet < 12 && Nat.testBit v.toNat 1
  | .octetPllRelock octet => octet < 12
  | .octetPllUnlock octet => octet < 12
  | .portDisableDrainExpiry port => port < 96
  | .anPageReceive port _ _ => port < 96
  | .anTrainingComplete port => port < 96
  | .anAttemptFail port => port < 96
  | .ltTimeout port => port < 96
  | .pcsLinkUp port => port < 96
  | .pcsLinkLost port => port < 96
  | .upDebounceExpiry port => port < 96
  | .linkFault port fault => port < 96 && fault < 4
  | .downDelayExpiry port => port < 96
  | .laneLos lane _ => lane < 96
  | .ebbHelloTimer port => port < 96
  | .ebbFrameReceive port => port < 96
  | .ebbShed port => port < 96
  | .ebbRestoreTrigger port => port < 96
  | .ebbRequestTimeout port => port < 96
  | .ebbWakeTimeout port => port < 96
  | .ebbWidthSwitch port => port < 96
  | .lpiEntry lpi => lpi.port < 96
  | .lpiExit port => port < 96
  | .prbsErrClear _ lane v => lane < 96 && Nat.testBit v.toNat 6
  | .prbsError lane _ _ => lane < 96
  | .quietNFall _ => true
  | .quietNRise => true
  | .mkpduReceive port _ => port < 96
  | .mkaHelloSend port => port < 96
  | .mkaPeerTimeout port _ => port < 96
  | .txSaSwitch port => port < 96
  | .saLingerExpiry port => port < 96
  | .saStateEcc port _ sc an => port < 96 && sc < 8 && an < 4
  | .prsDisable _ pipe v => pipe < 4 && !Nat.testBit v.toNat 0
  | .prsParityCheck pipe _ => pipe < 4
  | .stageQuiet blk inst => blk < 31 && inst < 4
  | .drainLimitExpiry blk inst => blk < 31 && inst < 4
  | .beginSet tag pipe => tag ≤ 4294967296 && pipe < 4
  | .beginCopyDone pipe => pipe < 4
  | .ruleWrite tag pipe bank _ _ _ _ => tag ≤ 4294967296 && pipe < 4 && bank < 32
  | .ruleDelete tag pipe bank _ => tag ≤ 4294967296 && pipe < 4 && bank < 32
  | .commit tag pipe => tag ≤ 4294967296 && pipe < 4
  | .epochFlip pipe => pipe < 4
  | .slotDrained pipe => pipe < 4
  | .epochDrainLimit pipe => pipe < 4
  | .rbkScrub pipe _ bad => pipe < 4 && bad.all (fun r => decide (r < 65536))
  | .rbkParityCheck pipe slot _ => pipe < 4 && slot < 2
  | .rbkDisable _ pipe v => pipe < 4 && !Nat.testBit v.toNat 0
  | .emInsert tag pipe _ key _ cls _ meta_ => tag ≤ 4294967296 && pipe < 4 && key < 2 ^ 320 && cls < 4 && meta_ < 2 ^ 128
  | .emDelete tag pipe _ key => tag ≤ 4294967296 && pipe < 4 && key < 2 ^ 320
  | .emModify tag pipe _ key _ cls _ meta_ => tag ≤ 4294967296 && pipe < 4 && key < 2 ^ 320 && cls < 4 && meta_ < 2 ^ 128
  | .emHitRead tag pipe _ key => tag ≤ 4294967296 && pipe < 4 && key < 2 ^ 320
  | .routeAdd tag vrf _ len prefix_ _ => tag ≤ 4294967296 && vrf < 256 && len < 256 && prefix_ < 2 ^ 128
  | .routeDelete tag vrf _ len prefix_ => tag ≤ 4294967296 && vrf < 256 && len < 256 && prefix_ < 2 ^ 128
  | .routeModify tag vrf _ len prefix_ _ => tag ≤ 4294967296 && vrf < 256 && len < 256 && prefix_ < 2 ^ 128
  | .tableScrub pipe _ _ kind _ => pipe < 4 && kind < 12 && kind != 3
  | .exmParityCheck pipe _ => pipe < 4
  | .exmDisable _ pipe v => pipe < 4 && !Nat.testBit v.toNat 0
  | .lpmDisable _ pipe v => pipe < 4 && !Nat.testBit v.toNat 0
  | .learnDecide take => take.pipe < 4
  | .learnTick pipe => pipe < 4
  | .lrnFlush tag pipe _ _ _ => tag ≤ 4294967296 && pipe < 4
  | .sweepPassStart pipe => pipe < 4
  | .sweepVisit pipe => pipe < 4
  | .walkVisit pipe kind block _ => pipe < 4 && kind < 12 && (block < 16777216 || kind == 5)
  | .walkPeriodStart pipe => pipe < 4
  | .shadowRepair pipe kind block _ => pipe < 4 && kind < 12 && (block < 16777216 || kind == 5)
  | .lrnDisable _ pipe v => pipe < 4 && !Nat.testBit v.toNat 0
  | .flowDelete tag cls key => tag ≤ 4294967296 && cls < 16 && key < 2 ^ 304
  | .flowRead tag cls key => tag ≤ 4294967296 && cls < 16 && key < 2 ^ 304
  | .flwDisable _ pipe v => pipe < 4 && !Nat.testBit v.toNat 0
  | .sliceDisable _ slice v => slice < 4 && !Nat.testBit v.toNat 0
  | .seedRestore g how => g < 2097152 && how < 3
  | .lbMemberSet tag group slot nh weight => tag ≤ 4294967296 && group < 4096 && slot < 64 && nh < 65536 && weight < 256
  | .lbMemberDrain tag group slot => tag ≤ 4294967296 && group < 4096 && slot < 64
  | .lbMemberRemove tag group slot => tag ≤ 4294967296 && group < 4096 && slot < 64
  | .lbGroupStatus tag group => tag ≤ 4294967296 && group < 4096
  | .sessionCreate tag idx _ => tag ≤ 4294967296 && idx < 4194304
  | .sessionModify tag idx _ _ endMarker => tag ≤ 4294967296 && idx < 4194304 && endMarker < 16
  | .sessionDelete tag idx => tag ≤ 4294967296 && idx < 4194304
  | .sessionRead tag idx => tag ≤ 4294967296 && idx < 4194304
  | .urrQuery tag idx mask => tag ≤ 4294967296 && idx < 4194304 && mask < 16
  | .usageSettle idx u => idx < 4194304 && u < 4
  | .timeThresholdExpiry idx u => idx < 4194304 && u < 4
  | .reportRingSpace => true
  | .bufferEnqueue => true
  | .bufferExpiry idx => idx < 4194304
  | .replaySend idx => idx < 4194304
  | .replayEnd idx => idx < 4194304
  | .echoRequest _ => true
  | .errorIndicationSend => true
  | .endMarkerSend => true
  | .upsDisable _ pipe v => pipe < 4 && !Nat.testBit v.toNat 0
  | .nhWrite tag idx _ => tag ≤ 4294967296 && idx < 65536
  | .tplWrite tag idx _ => tag ≤ 4294967296 && idx < 4096
  | .editWrite tag idx words => tag ≤ 4294967296 && idx < 256 && words.length < 9
  | .edtDisable _ pipe v => pipe < 4 && !Nat.testBit v.toNat 0
  | .capRdWrite _ ring _ => ring < 16
  | .capRingDisable _ ring v => ring < 16 && !Nat.testBit v.toNat 0
  | .edtTableRestore pipe kind idx => pipe < 4 && kind < 4 && idx < 65536
  | .queQcfgWrite _ slice _ => slice < 4
  | .queueDrainExpiry slice q => slice < 4 && q < 65536
  | .queDisable _ slice v => slice < 4 && !Nat.testBit v.toNat 0
  | .holdDeadlineExpiry port => port < 96
  | .portFlushComplete port => port < 96
  | .mcGroupWrite tag group _ _ _ _ => tag ≤ 4294967296 && group < 65536
  | .queueMove tag slice a b => tag ≤ 4294967296 && slice < 4 && a < 65536 && b < 65536
  | .queueMoveDone slice a => slice < 4 && a < 65536
  | .moveDrainExpiry slice a => slice < 4 && a < 65536
  | .schElementWrite _ slice v => slice < 4 && Nat.testBit v.toNat 0
  | .schElementRead _ slice v => slice < 4 && Nat.testBit v.toNat 1
  | .policerWrite _ p v => p < 4 && Nat.testBit v.toNat 0
  | .policerRead _ p v => p < 4 && Nat.testBit v.toNat 1
  | .schStateEccFix slice _ level site => slice < 4 && level < 5 && site.idx < 65536
  | .todSnap _ v => Nat.testBit v.toNat 0 && !Nat.testBit v.toNat 1
  | .todSet _ v => Nat.testBit v.toNat 1
  | .lhtCtrlWrite _ _ => true
  | .ppsInEdge r _ _ => r < 2
  | .freqGateMeasure r _ => 2 ≤ r && r < 6
  | .refQualify r => r < 7
  | .refLoss r _ => r < 7
  | .wtrExpiry _ => true
  | .todMessageReceive sec _ => sec < 281474976710656
  | .todLabelLoss => true
  | .ptpPhaseSample port => port < 96
  | .timeLock => true
  | .tuRecompute => true
  | .modelFit y0 d k tl uf ud ut _ => y0 < 4294967296 && d < 4294967296 && k < 65536 && tl < 65536 && uf < 65536 && ud < 65536 && ut < 65536
  | .tempSample mv => mv ≤ 1800
  | .tempFaultClear => true
  | .oscLoss => true
  | .oscRecover => true
  | .ppsOutEdge n => n < 2
  | .ppsPulseEnd n => n < 2
  | .todTransmit => true
  | .radioLock => true
  | .ptpMessageReceive _ => true
  | .announceTimeout port => port < 96
  | .ptpMessageSend port typ => port < 96 && typ < 16
  | .txTsMissing port => port < 96
  | .faultyExit port => port < 96
  | .grantRenew port k typ => port < 96 && k < 8 && typ < 16
  | .grantExpiry port => port < 96
  | .qualityDerive => true
  | .ptpTaskResume => true
  | .ptpDisable _ v => !Nat.testBit v.toNat 0
  | .esmcReceive _ => true
  | .esmcTimeout port => port < 96
  | .qlHoldoffExpiry port => port < 96
  | .esmcInfoSend port => port < 96
  | .esmcEventSend port => port < 96
  | .expressArrive _ => true
  | .cutThroughStart port => port < 96
  | .cutThroughCut port => port < 96
  | .preemptVerifySend port => port < 96
  | .preemptVerifyResponse port => port < 96
  | .preemptVerifyFail port => port < 96
  | .expWrite tag pipe idx _ => tag ≤ 4294967296 && pipe < 4 && idx < 1024
  | .gclWrite _ pipe v => pipe < 4 && Nat.testBit v.toNat 0
  | .gclRead _ pipe v => pipe < 4 && Nat.testBit v.toNat 1
  | .gclCommit _ pipe v => pipe < 4 && Nat.testBit v.toNat 2
  | .gclCancel _ pipe v => pipe < 4 && Nat.testBit v.toNat 3
  | .listChange port => port < 96
  | .gateEntryStart port => port < 96
  | .mergeHoldAssert port => port < 96
  | .cycleStart port => port < 96
  | .stepGateFallback port => port < 96
  | .gtePortCfgWrite _ port _ => port < 96
  | .expressDisableExpiry port => port < 96
  | .hbRequestIssue pc j => pc < 64 && j < 64
  | .hbRequestComplete pc _ => pc < 64
  | .hbAgePromote pc _ => pc < 64
  | .bankRefresh pc bank => pc < 64 && bank < 64
  | .stackTempRead st temp => st < 2 && decide (-128 ≤ temp) && decide (temp < 128)
  | .retrainPause pc => pc < 64
  | .fullRetrain pc _ => pc < 64
  | .maintForce kind pc => kind < 3 && pc < 64
  | .laneRepair pc _ => pc < 64
  | .scrubRead st _ _ => st < 2
  | .rowRepair pc row _ => pc < 64 && row < 4194304
  | .hbRepair tag pc row => tag ≤ 4294967296 && pc < 64 && row < 4194304
  | .pcRetire pc _ => pc < 64
  | .hbInitFill => true
  | .hbBackgroundFillDone st => st < 2
  | .selfRefreshEnter st => st < 2
  | .selfRefreshExit st => st < 2
  | .tideBoundary g => g < 5
  | .tideAdmit g act => g < 5 && act < 7
  | .tideApply _ inst _ => inst < 4
  | .tideStarve g act => g < 5 && act < 7
  | .ttbParityCheck g act _ _ => g < 5 && act < 7
  | .keeperNop e task _ found => e < 16 && task < 14 && found < 3
  | .keeperHold e task _ => e < 16 && task < 14
  | .keeperRelease e task _ => e < 16 && task < 14
  | .keeperYield e task _ => e < 16 && task < 14
  | .keeperWait e task _ => e < 16 && task < 14
  | .keeperBeat e task _ => e < 16 && task < 14
  | .illegalInstruction e code => e < 16 && 5 < code && code < 256
  | .commitPortApply => true
  | .holdOverrun e why => e < 16 && why < 3
  | .keeperResultArrive task gen => task < 14 && gen < 256
  | .engineWatchdogExpiry task => task < 14
  | .engineResetDone e => e < 16
  | .taskMoveRun task => task < 14
  | .taskMove _ task => task < 14
  | .clusterLockup why => why < 3
  | .clusterResetDone => true
  | .supervisorWatchdogExpiry => true
  | .controlStoreWalk fetched found => fetched.all (fun w => decide (w.1 < 16 ∧ w.2 < 65536)) && found < 3
  | .controlStoreRestore word _ => word < 65536
  | .patchLoad _ _ _ => true
  | .patchQuietPoint => true
  | .patchQuietExpiry => true
  | .abort _ _ => true
  | .counterRead _ names => names.length ≤ 16
  | .bufRead tag slice id => tag ≤ 4294967296 && slice < 4 && id < 95232
  | .mbxCmdTailWrite _ _ => true
  | .mbxFetch h => h.opcode < 256 && h.entries < 16 && h.pipe < 4
  | .mbxCommandStart _ => true
  | .mbxCommandTimeout _ => true
  | .mbxReplyWrite => true
  | .mbxDmaTimeout => true
  | .mbxEnable _ v => Nat.testBit v.toNat 0
  | .notificationWrite => true
  | .keyWrite _ key => key.port < 96
  | .cakRetire port => port < 96
  | .bundleEnable _ b v => b < 4 && Nat.testBit v.toNat 0
  | .bundleTrained b => b < 4
  | .helloReceive b _ => b < 4
  | .authRetry b => b < 4
  | .authTimeout b => b < 4
  | .bundleRetrainTimer b => b < 4
  | .fleitFrameSend b _ => b < 4
  | .fleitFrameReceive b _ payload _ => b < 4 && payload.length < 512
  | .nakReceive b ackSeq => b < 4 && ackSeq < 16777216
  | .replayTimeout b => b < 4
  | .fleitAckReceive b ackSeq _ credits => b < 4 && ackSeq < 16777216 && credits < 256
  | .creditStall b _ => b < 4
  | .heartbeatSend b => b < 4
  | .heartbeatLoss b => b < 4
  | .fleitLaneFail b lane => b < 4 && lane < 96
  | .spareReqReceive b lane => b < 4 && lane < 96
  | .spareAck b => b < 4
  | .spareReturn b lane => b < 4 && lane < 96
  | .linkTimeSample b => b < 4
  | .stackMasterCheck => true
  | .pairElection => true
  | .mirrorAppend => true
  | .mirrorAccept => true
  | .mirrorApply => true
  | .twinLost => true
  | .yieldSend => true
  | .takeover => true
  | .rejoinFill => true
  | .resyncWalk => true
  | .syncEndAccept => true
  | .bundleDisable _ b v => b < 4 && !Nat.testBit v.toNat 0
  | .bundleCloseExpiry b => b < 4
  | .fuseRead => true
  | .fuseBlow => true
  | .provisionApply _ => true
  | .manifestVerify m => m.sections.length ≤ 256
  | .sectionHash _ _ _ => true
  | .svnCommitDue _ => true
  | .svnRecheck _ => true
  | .patchSvnCommit => true
  | .certInstall _ _ _ => true
  | .attest _ => true
  | .debugChallenge _ => true
  | .debugResponse _ _ _ => true
  | .challengeExpiry => true
  | .rngHealthFail => true
  | .glitchTrip sensor => sensor < 3
  | .attemptStart _ => true
  | .flashRead bytes _ => bytes ≤ 4096
  | .flashReadTimeout => true
  | .attemptFail cause => 1 ≤ cause && cause ≤ 8
  | .phaseTimeout => true
  | .noImageRetry => true
  | .flashOpRead _ => true
  | .flashOpProgram _ => true
  | .flashOpErase _ => true
  | .flashOpTimeout => true
  | .functionLevelReset _ => true
  | .perstAssert _ => true
  | .rxRingDeliver ring _ => ring < 16
  | .txDescriptor ring _ _ => ring < 16
  | .ringTailWrite a _ be => a < 16384 && a % 4 = 0 && be < 16
  | .ringDisable _ _ ring v => ring < 16 && !Nat.testBit v.toNat 0
  | .ringVectorCoalesce _ ring => ring < 16
  | .dmaTimeout _ ring => ring < 16
  | .powerOn _ => true
  | .brownOut rails _ => rails.all (fun r => decide (r < 7))
  | .resetNAssert _ => true
  | .resetNRelease => true
  | .softwareReset _ _ => true
  | .dbgReset => true
  | .resetTakeHold _ => true
  | .resetAssert => true
  | .releasePhaseComplete _ => true
  | .trimLoad region _ => region < 27
  | .trimRetry => true
  | .stateAdopt => true
  | .blockResetPipeline _ p _ => p < 4
  | .blockResetDevice _ _ => true
  | .blockResetDone key => key < 136
  | .pwrReqWrite _ k _ => k < 2
  | .domainDownDone => true
  | .domainUpDone => true
  | .domainPowerFail => true
  | .refclkLoss _ => true
  | .refclkQualify _ => true
  | .refclkSwitch => true
  | .clockLoss => true
  | .pllUnlock pll _ => pll < 6
  | .junctionSample readings => readings.length = 16
  | .sensorRejoin j => j < 16
  | .thermalTrip => true
  | .eventRaise group index _ inst _ => group < 40 && index < 32 && inst < 128
  | .evtStatusClear _ g _ => g < 40
  | .evtRouteWrite _ _ g _ => g < 40
  | .msixFoldExpiry g => g < 40
  | .logFoldExpiry g j => g < 40 && j < 32
  | .logRdWrite _ _ => true
  | .loopbackSet _ port _ => port < 96
  | .bistGo _ _ => true
  | .bistDone fails => fails < 65536
  | .extestLoad => true
  | .injectArm _ _ => true
  | .injectExpiry => true
  | .perturbStart _ slot _ => slot < 2
  | .perturbDutyToggle slot => slot < 2
  | .perturbEnd slot => slot < 2
  | .linkFaultClear port fault => port < 96 && fault < 4
  | .cdrLockRegained port => port < 96
  | .buildingSlotCleared pipe => pipe < 4
  | .synceLock => true
  | .timeRealign => true
  | .attestReportDone => true
  | .rngHealthPass => true
  | .flashOpDone data => data.length = 64
  | .pcieLinkUp speed width => 1 ≤ speed && speed ≤ 5 && (width = 1 || width = 2 || width = 4)
  | .pwrgoodRise => true
  | .perstRelease => true
  | .vbkRetentionLoss => true

end Sys2Proof
end

