-- ==== Sys2Proof/Tests/Slice0.lean ====
section
/-! SUPPORT. Tests of the model on small states, the smoke test of WellFormed, and for each statement with hypotheses a state and
operands that meet them. -/
namespace Sys2Proof.Machine
open Sys2Proof.Config

-- one theorem at a time: a thread each costs the package's compile more memory than time
set_option Elab.async false

/-- A running device: release complete, every domain on, the host holds every block right. -/
def tOn : State :=
  (((State.reset.wr Fld.RST_STATUS_PHASE 9).wr Fld.PWR_STATE_STATE (2 ^ 32 - 1) 0 0).wr Fld.PWR_STATE_STATE (2 ^ 32 - 1) 0 1).wr
    Fld.RND_WR_BLOCKS_BLOCKS (2 ^ 31 - 1)


/-- A state with a mailbox command in flight: tag 7, started, naming a pipeline. -/
def tMbx (s : State) (op pipe : Nat) : State :=
  { s with kpr := { s.kpr with inFlight := [⟨7, op, false, pipe, false, 0, 0, 0, 0, true, 0, false, none⟩] } }

/-- A state with packet 5. -/
def tPkt (s : State) (p : Packet) : State := s.setPkt 5 p

/-- A state with section 15 of pipeline 3 learned, one unit, and a station in it. -/
def tEm : State :=
  ((((tOn.wr Fld.EXM_SECT_CFG_SIZE_UNITS 1 3 15).wr Fld.EXM_SECT_CFG_LEARNED_SECT 1 3 15).emInsert 3 (emMake false false true 15 0 7 5 0)).1)

/-- A state with the flow stage on, class 1 and every slice on, packet 5 at the flow stage in class 1 with key 0, and `w` in the
set of its key. -/
def tFlow (w : List Way) : State :=
  let p : Packet := { Packet.init with stage := .flow, act := setFields (0 : BitVec 64) [(ActWord.FLOW_SET, 1), (ActWord.FLOW_CLASS, 1)], parse := setFields (0 : BitVec 256) [(ParseRes.HDR 0, 9), (ParseRes.OUTER_L4_IDX, 15)] }
  let s : State := (((tOn.wr Fld.FLW_CTRL_EN 1).wr Fld.FLW_CLASS_CFG_EN 1 0 1).wr Fld.FLW_PARK_STATUS_OCCUPANCY 1).setPkt 5 p
  s.setWays (s.setOf 1 0) w
/-- A way of class 1 with key 0. -/
def tWay (s : State) (st : WayState) (r : BitVec 1024) : Way := ⟨1, 0, s.recIdx 1 0, st, r, 0, none, false, 0⟩
/-- A state with a next-hop and a load-balance region of one unit. -/
def tLb : State := (tOn.wr Fld.EXM_REGION_CFG_NH_UNITS 1).wr Fld.EXM_REGION_CFG_LB_UNITS 1

/-- The words of a certificate as they are staged in RND_WINDOW. -/
def tWindow (c : Nat) : Sparse Word := (List.range' 0 99).map (fun i => (i, BitVec.ofNat 32 (c / 2 ^ (32 * i))))
/-- An owner certificate's number, with the device's own keys. -/
def tCertNat : Nat := 0 + 2 ^ 16 * (2 + 2 ^ 8 * (2 ^ 72 * (identityPub.toNat + 2 ^ 768 * transportPub.toNat)))

theorem find_range' {α : Type} (f : Nat → α) : ∀ (n s k : Nat), s ≤ k → k < s + n →
    Sparse.find ((List.range' s n).map (fun i => (i, f i))) k = some (f k) := by
  intro n
  induction n with
  | zero => intro s k h1 h2; omega
  | succ n ih =>
    intro s k h1 h2
    simp only [List.range'_succ, List.map_cons, Sparse.find]
    by_cases h : s = k
    · rw [if_pos h, h]
    · rw [if_neg h, if_neg (by omega)]
      exact ih (s + 1) k (by omega) (by omega)

theorem digits_sum (c n : Nat) (g : Nat → Nat) (h : ∀ i, i < n → g i = c / 2 ^ (32 * i) % 2 ^ 32) :
    (List.range n).foldl (fun a i => a + g i * 2 ^ (32 * i)) 0 = c % 2 ^ (32 * n) := by
  induction n with
  | zero => simp [Nat.mod_one]
  | succ n ih =>
    rw [List.range_succ, List.foldl_append, ih (fun i hi => h i (by omega)), List.foldl_cons, List.foldl_nil, h n (by omega),
      show 32 * (n + 1) = 32 * n + 32 from by omega, Nat.pow_add, Nat.mod_mul, Nat.mul_comm (2 ^ (32 * n))]

theorem tWindow_nat (c n : Nat) (hn : n ≤ 99) :
    (List.range n).foldl (fun a i => a + (Sparse.get (tWindow c) i 0).toNat * 2 ^ (32 * i)) 0 = c % 2 ^ (32 * n) := by
  refine digits_sum c n (fun i => (Sparse.get (tWindow c) i 0).toNat) (fun i hi => ?_)
  show (Sparse.get (tWindow c) i 0).toNat = _
  rw [Sparse.get, tWindow, find_range' (fun i => BitVec.ofNat 32 (c / 2 ^ (32 * i))) 99 0 i (by omega) (by omega)]
  simp [BitVec.toNat_ofNat]

theorem ofNat_mod_pow (c n : Nat) : BitVec.ofNat n (c % 2 ^ n) = BitVec.ofNat n c :=
  BitVec.eq_of_toNat_eq (by rw [BitVec.toNat_ofNat, BitVec.toNat_ofNat, Nat.mod_mod])

theorem tWindow_vec (c n m : Nat) (s : State) (hs : s.rind.winIn = tWindow c) (hn : n ≤ 99) (hm : m = 32 * n) :
    BitVec.ofNat m (s.winNat n) = BitVec.ofNat m c := by
  subst hm
  rw [State.winNat, hs, tWindow_nat c n hn, ofNat_mod_pow]

theorem field_at (l f h p q : Nat) (hl : l < p) (hf : f < q) : (l + p * (f + q * h)) / p % q = f := by
  rw [Nat.add_mul_div_left _ _ (by omega), Nat.div_eq_of_lt hl, Nat.zero_add, Nat.add_mul_mod_self_left, Nat.mod_eq_of_lt hf]

set_option exponentiation.threshold 4096 in
theorem tCert_fields : Cert.KIND.get (BitVec.ofNat 3168 tCertNat) = 2 ∧ Cert.ID_PUB.get (BitVec.ofNat 3168 tCertNat) = identityPub.toNat ∧
    Cert.TRANSPORT_PUB.get (BitVec.ofNat 3168 tCertNat) = transportPub.toNat := by
  have ha := identityPub.isLt
  have hb := transportPub.isLt
  have at_ : ∀ (f : BitFld), f.lo + f.width ≤ 3168 → f.get (BitVec.ofNat 3168 tCertNat) = tCertNat / 2 ^ f.lo % 2 ^ f.width := by
    intro f hf
    rw [BitFld.get, BitVec.toNat_ofNat]
    obtain ⟨k, hk⟩ := Nat.exists_eq_add_of_le hf
    rw [hk, Nat.pow_add, Nat.pow_add, Nat.mul_assoc, Nat.mod_mul_right_div_self, Nat.mod_mul_right_mod]
  refine ⟨?_, ?_, ?_⟩
  · rw [at_ _ (by decide)]
    exact field_at 0 2 _ (2 ^ 16) (2 ^ 8) (by decide) (by decide)
  · rw [at_ _ (by decide)]
    have e : tCertNat = 2 ^ 17 + 2 ^ 96 * (identityPub.toNat + 2 ^ 768 * transportPub.toNat) := by
      unfold tCertNat
      generalize identityPub.toNat + 2 ^ 768 * transportPub.toNat = x
      omega
    rw [e]
    exact field_at (2 ^ 17) _ _ (2 ^ 96) (2 ^ 768) (by decide) ha
  · rw [at_ _ (by decide)]
    have e : tCertNat = (2 ^ 17 + 2 ^ 96 * identityPub.toNat) + 2 ^ 864 * (transportPub.toNat + 2 ^ 768 * 0) := by
      unfold tCertNat
      rw [Nat.mul_zero, Nat.add_zero, show (2 ^ 864 : Nat) = 2 ^ 96 * 2 ^ 768 from by decide, Nat.mul_assoc]
      generalize identityPub.toNat = a
      generalize (2 ^ 768 : Nat) * transportPub.toNat = b
      omega
    rw [e]
    refine field_at _ _ 0 (2 ^ 864) (2 ^ 768) ?_ hb
    rw [show (2 ^ 864 : Nat) = 2 ^ 96 * 2 ^ 768 from by decide]
    generalize identityPub.toNat = a at ha ⊢
    generalize (2 ^ 768 : Nat) = q at ha ⊢
    omega
/-- The hypotheses of StepRunsFrontCommand can be met, clause by clause. -/
theorem witness_StepRunsFrontCommand :
    (State.reset.pending = [] ∧ (List.range 4).all (fun p => (State.reset.lrn p).flushes.isEmpty) = true ∧ State.reset.tm.mapQ = []) :=
  by decide +kernel

/-- The hypotheses of StepKeepsCanonicalForm can be met, clause by clause. -/
theorem witness_StepKeepsCanonicalForm :
    (State.reset.Canon ∧ step State.reset = .next State.reset.tick) :=
  ⟨by decide +kernel, rfl⟩

/-- The hypotheses of CommandsKeepQueueAndClock can be met, clause by clause. -/
theorem witness_CommandsKeepQueueAndClock :
    (∃ t, exec .mgsBusTimeout State.reset = .next t) :=
  ⟨_, rfl⟩

/-- The hypotheses of WriteChecksRunInOrder can be met, clause by clause. -/
theorem witness_WriteChecksRunInOrder :
    (State.reset.hasRight Reg.EVT_GROUP_VEC = false) ∧
    (tOn.hasRight Reg.RND_WR_BLOCKS = true ∧ Reg.RND_WR_BLOCKS.sealDiffers (tOn.rdReg Reg.RND_WR_BLOCKS 0 0 0 (tOn.writeSlot Reg.RND_WR_BLOCKS 0)) 0 = true) ∧
    (tOn.hasRight Reg.EVT_GROUP_VEC = true ∧ Reg.EVT_GROUP_VEC.sealDiffers (tOn.rdReg Reg.EVT_GROUP_VEC 0 3 0 (tOn.writeSlot Reg.EVT_GROUP_VEC 0)) 0x100 = false ∧ (Reg.EVT_GROUP_VEC.fields.any (fun d => !d.writeOk 0x100)) = true) ∧
    (tOn.loading = false ∧ tOn.domainUp (Reg.EVT_GROUP_VEC.domain 0 3) = true ∧ tOn.testing (Reg.EVT_GROUP_VEC.domain 0 3) = false ∧ Reg.EVT_GROUP_VEC.sealDiffers (tOn.rdReg Reg.EVT_GROUP_VEC 0 3 0 (tOn.writeSlot Reg.EVT_GROUP_VEC 0)) 5 = false ∧ Reg.EVT_GROUP_VEC.fields.all (fun d => d.writeOk 5) = true ∧ tOn.evt.setAt = []) ∧
    (tOn.Canon) :=
  ⟨by decide +kernel,
   by decide +kernel,
   by decide +kernel,
   by decide +kernel,
   by decide +kernel⟩

/-- The hypotheses of BusAccessesComplete can be met, clause by clause. -/
theorem witness_BusAccessesComplete :
    (tOn.Canon ∧ tOn.verdict .host Reg.EVT_GROUP_VEC 0 39 0 63 false = .accepted) ∧
    ((itemAt (0x00000000 / 4 * 4)).elim true (fun it => it.reg.fields.all (fun d => d.access != .rc) && (tOn.rcNow it).isNone) = true) ∧
    (tOn.Canon ∧ tOn.verdict .host Reg.EVT_STATUS 0 16 0 1 (setsReservedSource 16 1) = .accepted ∧ tOn.evt.againAt = []) ∧
    (tOn.Canon ∧ tOn.verdict .host Reg.EVT_PIN_EN 0 16 0 1 (setsReservedSource 16 1) = .accepted) ∧
    (tOn.Canon ∧ (tOn.rd Fld.EVT_LOG_WR_COUNT + 2 ^ 32 - (0 : Word).toNat) % 2 ^ 32 ≤ 512 ∧ tOn.verdict .host Reg.EVT_LOG_RD 0 0 0 0 false = .accepted) :=
  ⟨by decide +kernel,
   by decide +kernel,
   by decide +kernel,
   by decide +kernel,
   by decide +kernel⟩

/-- The hypotheses of EventsAreRaisedAndFolded can be met, clause by clause. -/
theorem witness_EventsAreRaisedAndFolded :
    (State.reset.Canon ∧ (source? 16 0).elim false (fun e => decide (e ∉ [Ev.LANE_QUEUE_ERR, Ev.KPR_QUEUE_ERR, Ev.HBC_REQ_ERR, Ev.RND_KEY_ECC, Ev.BPM_STATE_ECC])) = true) ∧
    (source? 39 31 = none) ∧
    ((let s : State := { tOn.wr Fld.HST_PCIE_STATUS_LINK_UP 1 with now := 20000, evt := { tOn.evt with msgFold := [(16, true)], lastMsg := [(16, 100)] }, hst := { tOn.hst with msixTable := [(0, 0)] } };
  Sparse.get s.evt.msgFold 16 false = true ∧ Sparse.get s.evt.lastMsg 16 0 + 10 * usClk ≤ s.now ∧ s.on Fld.HST_PCIE_STATUS_LINK_UP = true ∧
  s.vecMasked (s.rd Fld.EVT_GROUP_VEC_VEC 0 16) = false)) ∧
    ((let s : State := { tOn with now := 20000, evt := { tOn.evt with folds := [(513, ⟨3, 0⟩)], lastRec := [(513, 100)] } };
  s.Canon ∧ Sparse.find s.evt.folds (16 * 32 + 1) = some ⟨3, 0⟩ ∧ Sparse.get s.evt.lastRec (16 * 32 + 1) 0 + 10 * usClk ≤ s.now ∧
  (s.rd Fld.EVT_LOG_WR_COUNT + 2 ^ 32 - s.rd Fld.EVT_LOG_RD_COUNT) % 2 ^ 32 < 512)) :=
  ⟨by decide +kernel,
   by decide +kernel,
   by decide +kernel,
   by decide +kernel⟩

/-- The hypotheses of LanesAndOctetsComplete can be met, clause by clause. -/
theorem witness_LanesAndOctetsComplete :
    (tOn.Canon ∧ tOn.verdict .host Reg.LNE_CTRL (95 / 24) (95 % 24) 0 128 (tOn.laneBad 95 128) = .accepted ∧ tOn.rdL Fld.LNE_CTRL_MODE 95 = 0 ∧ Fld.LNE_CTRL_MODE.of 128 = 0 ∧ Fld.LNE_CTRL_LANE_RESET.onIn 128 = true ∧ tOn.laneOwner 95 = none ∧ tOn.rateBundle 95 = none) ∧
    (tOn.Canon ∧ Fld.LNE_OCTET_CTRL_OCTET_RESET.onIn 2 = true ∧ tOn.verdict .host Reg.LNE_OCTET_CTRL (11 / 3) (11 % 3) 0 2
      ((Fld.LNE_OCTET_CTRL_FAMILY.of 2 != tOn.rd Fld.LNE_OCTET_CTRL_FAMILY (11 / 3) (11 % 3)) &&
        (octetLanes 11).any (fun l => tOn.rdL Fld.LNE_CTRL_MODE l != 0)) = .accepted) ∧
    ((let s : State := { tOn with clk := { tOn.clk with octetFam := [(11, 1)] } };
  s.Canon ∧ s.on Fld.LNE_OCTET_CTRL_PLL_LOCK (11 / 3) (11 % 3) = false ∧ s.quadReady (8 * 11) = true ∧ Sparse.find s.clk.octetFam 11 = some 1 ∧
  ∀ p ∈ octetLanes 11, s.onP Fld.PRT_MODE_EN p = false)) ∧
    ((tOn.wr Fld.LNE_OCTET_CTRL_PLL_LOCK 1 0 0).on Fld.LNE_OCTET_CTRL_PLL_LOCK (0 / 3) (0 % 3) = true) ∧
    ((let s : State := (tOn.wrP Fld.PRT_MODE_TYPE 0 4).wrL Fld.LNE_CTRL_MODE 3 1;
  s.Canon ∧ s.rdL Fld.LNE_CTRL_MODE 3 = 1 ∧ s.laneOwner 3 = some 0 ∧ (tOn.wrL Fld.LNE_CTRL_MODE 3 2).rdL Fld.LNE_CTRL_MODE 3 = 2)) :=
  ⟨by decide +kernel,
   by decide +kernel,
   by decide +kernel,
   by decide +kernel,
   by decide +kernel⟩

/-- The hypotheses of PortModesAndNegotiationComplete can be met, clause by clause. -/
theorem witness_PortModesAndNegotiationComplete :
    ((let s : State := tOn.wr Fld.LNE_OCTET_CTRL_FAMILY 1 3 2; s.Canon ∧ Fld.PRT_MODE_EN.onIn 30 = false ∧ s.onP Fld.PRT_MODE_EN 88 = false ∧
  s.rdP Fld.PRT_LINK_STATUS_STATE 88 = 0 ∧ s.rdP Fld.PRT_MODE_TYPE 88 = 0 ∧ Fld.PRT_MODE_TYPE.of 30 = 15 ∧ s.verdict .host Reg.PRT_MODE (88 / 24) (88 % 24) 0 30 (s.modeBad 88 30) = .accepted)) ∧
    ((tOn.Canon ∧ Fld.PRT_MODE_EN.onIn 1024 = false ∧ tOn.onP Fld.PRT_MODE_EN 95 = false ∧ tOn.rdP Fld.PRT_MODE_TYPE 95 = Fld.PRT_MODE_TYPE.of 1024 ∧
  tOn.rdP Fld.PRT_LINK_STATUS_STATE 95 = 0 ∧ tOn.verdict .host Reg.PRT_MODE (95 / 24) (95 % 24) 0 1024 (tOn.modeBad 95 1024) = .accepted)) ∧
    ((let s : State := ((tOn.wr Fld.LNE_OCTET_CTRL_FAMILY 1 3 2).wrP Fld.PRT_MODE_TYPE 88 15).wrP Fld.PRT_LINK_STATUS_STATE 88 3; let u : State := s.wrP Fld.PRT_MODE_EN 88 1;
  s.Canon ∧ u.Canon ∧ Fld.PRT_MODE_EN.onIn 30 = false ∧ Fld.PRT_MODE_EN.onIn 31 = true ∧ s.onP Fld.PRT_MODE_EN 88 = false ∧ u.onP Fld.PRT_MODE_EN 88 = true ∧
  s.verdict .host Reg.PRT_MODE (88 / 24) (88 % 24) 0 31 (s.modeBad 88 31) = .accepted ∧ u.verdict .host Reg.PRT_MODE (88 / 24) (88 % 24) 0 31 (u.modeBad 88 31) = .accepted ∧
  u.verdict .host Reg.PRT_MODE (88 / 24) (88 % 24) 0 30 (u.modeBad 88 30) = .accepted ∧ u.rdP Fld.PRT_LINK_STATUS_STATE 88 = 3)) ∧
    ((let s : State := tOn.setPort 5 { tOn.port 5 with drainUntil := some 0 }; (s.port 5).drainUntil = some 0 ∧ 0 ≤ s.now)) ∧
    (((tOn.wrP Fld.PRT_LINK_STATUS_STATE 5 1).wrP Fld.PRT_MODE_AN_EN 5 1).negotiating 5 = true) ∧
    ((let s : State := ((tOn.wrP Fld.PRT_LINK_STATUS_STATE 5 1).wrP Fld.PRT_MODE_AN_EN 5 1).wrP Fld.PRT_LINK_CFG_AN_RETRY_LIMIT 5 1;
  s.negotiating 5 = true ∧ s.rdP Fld.PRT_LINK_CFG_AN_RETRY_LIMIT 5 = 1 ∧ (s.port 5).anFails = 0 ∧ (s.port 5).anRaised = false)) :=
  ⟨by decide +kernel,
   by decide +kernel,
   by decide +kernel,
   by decide +kernel,
   by decide +kernel,
   by decide +kernel⟩

/-- The hypotheses of PortModesAndNegotiationComplete can be met, clause by clause. -/
theorem witness_PortModesAndNegotiationComplete_2 :
    ((let s : State := { ((tOn.wrP Fld.PRT_LINK_STATUS_STATE 5 1).wrP Fld.PRT_MODE_AN_EN 5 1).wrP Fld.PRT_LINK_CFG_AN_RETRY_LIMIT 5 0 with now := 10000000000000 };
  s.negotiating 5 = true ∧ (s.port 5).anStart + s.ltTimeout 5 ≤ s.now)) :=
  by decide +kernel

/-- The hypotheses of LinkStatesFollowThePcs can be met, clause by clause. -/
theorem witness_LinkStatesFollowThePcs :
    ((let s : State := ((tOn.wrP Fld.PRT_LINK_STATUS_STATE 88 1).wr Fld.LNE_OCTET_CTRL_PLL_LOCK 1 3 2).wrP Fld.PRT_MODE_TYPE 88 1;
  s.Canon ∧ s.rdP Fld.PRT_LINK_STATUS_STATE 88 = 1 ∧ s.rd Fld.DGN_PORT_LOOP_MODE 0 88 ≠ 3 ∧
  s.pllReady 88 (rateFamily (typeLaneRate (s.portType 88))) = true ∧ s.onP Fld.PRT_MODE_AN_EN 88 = false ∧ 88 + typeLanes (s.portType 88) ≤ 96)) ∧
    ((tOn.wrP Fld.PRT_LINK_STATUS_STATE 88 2).rdP Fld.PRT_LINK_STATUS_STATE 88 = 2) ∧
    ((let s : State := { tOn.wrP Fld.PRT_LINK_STATUS_STATE 88 2 with now := 1750000 }; s.Canon ∧ s.rdP Fld.PRT_LINK_STATUS_STATE 88 = 2 ∧
  (s.port 88).since + max 1 (s.rdP Fld.PRT_LINK_CFG_UP_DEBOUNCE 88 * 10 * usClk) ≤ s.now)) ∧
    ((let s : State := tOn.wrP Fld.PRT_LINK_STATUS_STATE 88 3; s.Canon ∧ s.rdP Fld.PRT_LINK_STATUS_STATE 88 = 3 ∧ (s.port 88).faults = [] ∧
  (s.port 88).faultSince = none ∧ s.rdP Fld.PRT_LINK_CFG_DOWN_DELAY 88 = 0 ∧ (s.wrP Fld.PRT_LINK_CFG_DOWN_DELAY 88 1000).rdP Fld.PRT_LINK_CFG_DOWN_DELAY 88 ≠ 0)) ∧
    ((let s : State := (tOn.setPort 88 { tOn.port 88 with faults := [3], faultSince := some 0 }).wrP Fld.PRT_LINK_CFG_DOWN_DELAY 88 1;
  (s.port 88).faults = [3] ∧ (s.port 88).faultSince = some 0 ∧ s.now < 0 + s.rdP Fld.PRT_LINK_CFG_DOWN_DELAY 88 * usClk)) ∧
    ((let s : State := (tOn.wrP Fld.PRT_LINK_STATUS_STATE 88 3).setPort 88 { tOn.port 88 with faultSince := some 0 };
  s.Canon ∧ s.portUp 88 = true ∧ (s.port 88).faultSince = some 0 ∧ 0 + s.rdP Fld.PRT_LINK_CFG_DOWN_DELAY 88 * usClk ≤ s.now)) :=
  ⟨by decide +kernel,
   by decide +kernel,
   by decide +kernel,
   by decide +kernel,
   by decide +kernel,
   by decide +kernel⟩

/-- The hypotheses of LaneEbbExchangesMessages can be met, clause by clause. -/
theorem witness_LaneEbbExchangesMessages :
    ((let e : Ebb := { Ebb.init with helloLeft := 10, helloFrom := some 0 }; let s : State := ((tOn.wrP Fld.PRT_LINK_STATUS_STATE 88 3).wrP Fld.PRT_MODE_EBB_EN 88 1).setPort 88 { tOn.port 88 with ebb := e };
  (s.port 88).ebb = e ∧ s.portUp 88 = true ∧ s.onP Fld.PRT_MODE_EBB_EN 88 = true ∧ s.ebbInhibited 88 = false ∧ s.onP Fld.MSC_PORT_CFG_EN 88 = false ∧ e.helloLeft ≠ 0 ∧
  e.heard = false ∧ e.helloAt ≤ s.now ∧ e.helloFrom = some s.now)) ∧
    ((let s : State := tOn.setPort 88 { tOn.port 88 with ebb := { Ebb.init with inbox := [0, 0x1000000101] } };
  (s.port 88).ebb.inbox = [0, 0x1000000101] ∧ (s.setEbb 88 { (s.port 88).ebb with inbox := [0x1000000101] }).ebbBad 88 0 = true ∧
  (s.setEbb 88 { (s.port 88).ebb with inbox := [] }).ebbBad 88 0x1000000101 = false)) ∧
    ((let s : State := { (((tOn.wrP Fld.PRT_LINK_STATUS_STATE 88 3).wrP Fld.PRT_MODE_TYPE 88 14).wrP Fld.PRT_LINK_STATUS_EBB_ACTIVE 88 1).wrP Fld.PRT_EBB_CFG_SHED_PCT 88 50 with now := 10000000000 };
  s.portUp 88 = true ∧ s.onP Fld.PRT_LINK_STATUS_EBB_ACTIVE 88 = true ∧ s.ebbWidth 88 = 2 ∧ (s.port 88).ebb.req = none ∧ (s.port 88).ebb.switchTo = none ∧
  (s.port 88).ebb.lastRestore.isNone = true ∧ s.rdP Fld.PRT_EBB_CFG_MIN_WIDTH 88 < 2 ∧ (s.port 88).since + 2 ^ s.rdP Fld.PRT_EBB_CFG_WINDOW 88 * 100 * usClk ≤ s.now ∧
  ((s.port 88).txLog.filter (fun x => decide (s.now < x.1 + 2 ^ s.rdP Fld.PRT_EBB_CFG_WINDOW 88 * 100 * usClk))).foldl (fun a x => a + x.2) 0 * 700 <
    s.rdP Fld.PRT_EBB_CFG_SHED_PCT 88 * (typeUnits (s.portType 88) * 2 ^ (2 - 1) / max 1 (typeLanes (s.portType 88))) * 10 * (2 ^ s.rdP Fld.PRT_EBB_CFG_WINDOW 88 * 100 * usClk) ∧ s.atRestoreMark 88 = false)) ∧
    ((let s0 : State := (((tOn.wrP Fld.PRT_LINK_STATUS_STATE 88 3).wrP Fld.PRT_MODE_TYPE 88 14).wrP Fld.PRT_LINK_STATUS_ACTIVE_LANES 88 2).wrP Fld.PRT_EBB_CFG_RESTORE_MARK 88 64;
  let s : State := s0.setQueue 3 256 { s0.queue 3 256 with cove := [(0, 64)] };
  s.portUp 88 = true ∧ s.ebbWidth 88 < s.fullWidth 88 ∧ s.atRestoreMark 88 = true)) ∧
    ((let s : State := { tOn.setPort 88 { tOn.port 88 with ebb := { Ebb.init with req := some ⟨2, 1, 0, 0⟩ } } with now := 175000 };
  (s.port 88).ebb.req = some ⟨2, 1, 0, 0⟩ ∧ 0 + 100 * usClk ≤ s.now)) ∧
    ((let s : State := { tOn.setPort 88 { tOn.port 88 with ebb := { Ebb.init with req := some ⟨4, 1, 0, 0⟩ } } with now := 87500 };
  (s.port 88).ebb.req = some ⟨4, 1, 0, 0⟩ ∧ 0 + 50 * usClk ≤ s.now)) :=
  ⟨by decide +kernel,
   by decide +kernel,
   by decide +kernel,
   by decide +kernel,
   by decide +kernel,
   by decide +kernel⟩

/-- The hypotheses of LaneEbbExchangesMessages can be met, clause by clause. -/
theorem witness_LaneEbbExchangesMessages_2 :
    (((tOn.setPort 88 { tOn.port 88 with ebb := { Ebb.init with peerReq := some ⟨4, 1, 0, 0⟩ } }).port 88).ebb.peerReq = some ⟨4, 1, 0, 0⟩) ∧
    ((let s : State := (tOn.wrP Fld.PRT_MODE_TYPE 88 14).setPort 88 { tOn.port 88 with ebb := { Ebb.init with switchTo := some ⟨1, 0, true⟩ } };
  (s.port 88).ebb.peerSwitch = none ∧ (s.port 88).ebb.switchTo = some ⟨1, 0, true⟩ ∧ (s.port 88).ebb.restoreDue = false)) :=
  ⟨by decide +kernel,
   by decide +kernel⟩

/-- The hypotheses of IdleAndPrbsComplete can be met, clause by clause. -/
theorem witness_IdleAndPrbsComplete :
    ((let s : State := { (((tOn.wrP Fld.PRT_LINK_STATUS_STATE 88 3).wrP Fld.PRT_MODE_TYPE 88 1).wrP Fld.PRT_MODE_EEE_EN 88 1).wrP Fld.PRT_EEE_CFG_IDLE_ENTRY 88 1 with now := 1750 };
  s.portUp 88 = true ∧ s.lpiAble 88 = true ∧ (s.port 88).lpi = none ∧ (s.port 88).tx = none ∧ s.portHasFrame 88 = false ∧
  max (s.port 88).txEnd (s.port 88).wakeUntil + s.rdP Fld.PRT_EEE_CFG_IDLE_ENTRY 88 * usClk ≤ s.now)) ∧
    ((let s : State := tOn.setPort 88 { tOn.port 88 with lpi := some 0, gen := [(0, 5)] }; s.Canon ∧ (s.port 88).lpi = some 0 ∧ s.portHasFrame 88 = true)) ∧
    ((let s : State := tOn.wrP Fld.PRT_LINK_STATUS_STATE 88 3; s.portUp 88 = true ∧ s.onP Fld.PRT_LINK_STATUS_EEE_ACTIVE 88 = false)) ∧
    (tOn.Canon ∧ tOn.verdict .host Reg.LNE_PRBS_CTRL (95 / 24) (95 % 24) 0 65 (tOn.prbsBad 95 65) = .accepted ∧ Fld.LNE_PRBS_CTRL_ERR_CLEAR.onIn 65 = true) ∧
    ((let s : State := (tOn.wrL Fld.LNE_PRBS_CTRL_RX_EN 95 1).wrL Fld.LNE_PRBS_CTRL_PATTERN 95 1; s.Canon ∧ s.rdL Fld.LNE_PRBS_CTRL_PATTERN 95 ≠ 0 ∧ s.prbsIdle 95 = true ∧ s.rdL Fld.LNE_PRBS_CTRL_RX_EN 95 ≠ 0 ∧ s.rdL Fld.LNE_PRBS_ERRS_ERRORS 95 = 0 ∧
  (s.wrL Fld.LNE_PRBS_ERRS_ERRORS 95 7).rdL Fld.LNE_PRBS_ERRS_ERRORS 95 ≠ 0)) :=
  ⟨by decide +kernel,
   by decide +kernel,
   by decide +kernel,
   by decide +kernel,
   by decide +kernel⟩

/-- The hypotheses of FramesEnterAndLeaveTheMac can be met, clause by clause. -/
theorem witness_FramesEnterAndLeaveTheMac :
    ((let s : State := tOn.wrP Fld.PRT_LINK_STATUS_STATE 88 3; let c : List Byte := List.replicate 12 0 ++ [0x88, 0x08] ++ List.replicate 8 0; let d : List Byte := List.replicate 22 0;
  s.rdP Fld.PRT_LINK_STATUS_STATE 88 = 3 ∧ (s.port 88).rx = none ∧ isEbb c = false ∧ isMacCtl c = true ∧ isEbb d = false ∧ isMacCtl d = false ∧ s.levelFor 88 d = 2 ∧
  (s.setFifo 3 16 [⟨0, 2, 1, 0, false⟩]).levelLimit 88 2 < fifoFill ((s.setFifo 3 16 [⟨0, 2, 1, 0, false⟩]).fifo (88 / 24) (88 % 24)) ∧
  fifoFill (s.fifo (88 / 24) (88 % 24)) ≤ s.levelLimit 88 2)) ∧
    ((let f : RxFrame := ⟨.packet 5, 2, [], false, none, ⟨none, none, false, false⟩, false⟩; let s : State := tOn.setPort 88 { tOn.port 88 with rx := some f };
  (s.port 88).rx = some f ∧ f.truncated = false ∧ s.fifoSize 88 - fifoFill (s.fifo (88 / 24) (88 % 24)) < [(7 : Byte)].length)) ∧
    ((let f : RxFrame := ⟨.control, 0, [], false, none, ⟨none, none, false, false⟩, false⟩; ((State.countFec (tOn.setPort 88 { tOn.port 88 with rx := some f }) 88 ⟨1, 0, 1⟩).port 88).rx = some f)) ∧
    ((let f : TxFrame := ⟨none, 5, 0, 3, 0, none, false, false, 0, none, 0, 0, [], none, 0, none⟩; let s : State := (tOn.wrP Fld.PRT_LINK_STATUS_STATE 88 3).setPort 88 { tOn.port 88 with tx := some f };
  (s.port 88).tx = some f ∧ f.len = none ∧ f.cutThrough = false ∧ s.portUp 88 = true ∧ s.bundleOf 88 = none ∧ s.txWaits 88 f = false)) ∧
    ((let f : TxFrame := ⟨some 1, 5, 0, 3, 0, some 64, false, false, 0, none, 0, 0, [], none, 0, none⟩; let s : State := tOn.setPort 88 { tOn.port 88 with tx := some f };
  (s.port 88).tx = some f ∧ f.len = some 64 ∧ f.cutThrough = false ∧ f.startAt + bitClocks ((64 - f.done + 20) * 8) (s.portUnits 88) ≤ s.now)) ∧
    ((let p : Packet := { Packet.init with ended := some false, stage := .tm }; Sparse.find (tOn.setPkt 5 p).pkts 5 = some p ∧ p.ended.isSome = true ∧ p.copyOf = none ∧ p.status = none ∧ p.stage ∈ [PStage.buffered, PStage.cells, PStage.capture, PStage.tm])) :=
  ⟨by decide +kernel,
   by decide +kernel,
   by decide +kernel,
   by decide +kernel,
   by decide +kernel,
   by decide +kernel⟩

/-- The hypotheses of PauseAndPfcComplete can be met, clause by clause. -/
theorem witness_PauseAndPfcComplete :
    (((tOn.setPort 88 { tOn.port 88 with pauseUntil := some 0 }).port 88).pauseUntil = some 0) ∧
    (Sparse.find ((tOn.setPort 88 { tOn.port 88 with pfcUntil := [(7, 0)] }).port 88).pfcUntil 7 = some 0) ∧
    ((let s : State := { (tOn.setPort 88 { tOn.port 88 with pfcUntil := [(7, 10 ^ 10)], holdFrom := [(7, 0)] }).wr Fld.PRT_PFC_MAP_CLASSES_HI (2 ^ 15) 3 16 3 with now := 100 * msClk };
  (List.range 8).find? (fun k => s.pfcMaps 88 k 15 && (Sparse.find (s.port 88).pfcUntil k).isSome) = some 7 ∧ s.rdP Fld.PRT_PFC_STORM_STORM_LIMIT 88 ≠ 0 ∧
  Sparse.get (s.port 88).holdFrom 7 s.now + s.rdP Fld.PRT_PFC_STORM_STORM_LIMIT 88 * msClk ≤ min s.now (Sparse.get (s.port 88).pfcUntil 7 0) ∧
  Sparse.get (s.port 88).stormed 15 false = false ∧ s.Canon ∧ s.onP Fld.PRT_PFC_STORM_STORM_ACT 88 = false ∧
  (s.wrP Fld.PRT_PFC_STORM_STORM_ACT 88 1).onP Fld.PRT_PFC_STORM_STORM_ACT 88 = true)) ∧
    (Sparse.find ((tOn.setPort 88 { tOn.port 88 with recover := [(7, 0)] }).port 88).recover 7 = some 0) ∧
    ((let s : State := { tOn.wrP Fld.BPM_PORT_XOFF_XOFF_MARK 88 1 with tm := { tOn.tm with ingress := [(88 * 8 + 7, 16)] } };
  s.rdP Fld.BPM_PORT_XOFF_XOFF_MARK 88 ≠ 0 ∧ s.rdP Fld.BPM_PORT_XOFF_XOFF_MARK 88 * 16 ≤ s.xoffCount 88 7 ∧ s.xoffOn 88 7 = false ∧
  s.rdP Fld.BPM_PORT_XOFF_XOFF_MARK 88 * 16 ≤ s.xoffCount 88 8 ∧ s.xoffOn 88 8 = false)) ∧
    ((let s : State := { tOn with tm := { tOn.tm with xoff := [(88 * 8 + 7, true)] } };
  s.xoffOn 88 7 = true ∧ s.xoffCount 88 7 ≤ s.rdP Fld.BPM_PORT_XOFF_XON_MARK 88 * 16)) :=
  ⟨by decide +kernel,
   by decide +kernel,
   by decide +kernel,
   by decide +kernel,
   by decide +kernel,
   by decide +kernel⟩

/-- The hypotheses of PauseAndPfcComplete can be met, clause by clause. -/
theorem witness_PauseAndPfcComplete_2 :
    ((let s : State := { tOn.setPort 88 { tOn.port 88 with genSent := [(7, (0, 5))] } with tm := { tOn.tm with xoff := [(88 * 8 + 7, true)] } };
  Sparse.find (s.port 88).genSent 7 = some (0, 5) ∧ s.xoffOn 88 7 = true ∧ 0 + bitClocks (5 * 512 * s.rdP Fld.PRT_PAUSE_CFG_REFRESH_PCT 88 / 100) (s.portUnits 88) ≤ s.now)) ∧
    ((let s : State := tOn.wrP Fld.PRT_LINK_STATUS_STATE 88 3; s.portUp 88 = true ∧ (s.port 88).tx = none ∧ (s.port 88).lpi = none ∧ (s.port 88).wakeUntil ≤ s.now)) :=
  ⟨by decide +kernel,
   by decide +kernel⟩

/-- The hypotheses of MacsecKeyAgreementCompletes can be met, clause by clause. -/
theorem witness_MacsecKeyAgreementCompletes :
    ((let k : CakSlot := ⟨0, 0, 16, [88], false, true, false⟩; let s : State := { tOn.wrP Fld.MSC_PORT_CFG_EN 88 1 with rind := { tOn.rind with keys := [(0, k)] } };
  s.onP Fld.MSC_PORT_CFG_EN 88 = true ∧ s.caks 88 = [(0, k)] ∧ (s.secy 88).pduSec = s.now / sClk ∧ (s.secy 88).pdus < 16 ∧ (s.secy 88).peers = [] ∧
  (s.secy 88).live.length < 8)) ∧
    ((let k : CakSlot := ⟨0, 0, 16, [88], false, true, false⟩; let s : State := { (tOn.wrP Fld.MSC_PORT_CFG_EN 88 1).wrP Fld.PRT_LINK_STATUS_STATE 88 3 with rind := { tOn.rind with keys := [(0, k)] } };
  s.onP Fld.MSC_PORT_CFG_EN 88 = true ∧ s.caks 88 = [(0, k)] ∧ (s.secy 88).live = [] ∧ (s.secy 88).helloAt ≤ s.now ∧ s.portUp 88 = true ∧ s.txDriven 88 = true)) ∧
    ((let p : MkaPeer := ⟨9, 1, 0, true, 0, none, [0]⟩; let s : State := { tOn.setPort 88 { tOn.port 88 with secy := { (tOn.port 88).secy with peers := [p] } } with now := 10 * sClk };
  (s.secy 88).peers = [p] ∧ p.live = true ∧ p.lastAt + 3 * s.mkaHello 88 ≤ s.now)) ∧
    ((let p : MkaPeer := ⟨9, 1, 0, true, 0, some 2, [0]⟩; let s : State := tOn.setPort 88 { tOn.port 88 with secy := { (tOn.port 88).secy with peers := [p], pending := some 2 } };
  s.Canon ∧ (s.secy 88).pending = some 2 ∧ (s.secy 88).live ≠ [] ∧ (∀ p ∈ (s.secy 88).live, p.reported = some 2) ∧ (s.port 88).tx = none ∧
  s.rdP Fld.MSC_SA_STATUS_TX_AN 88 ≠ 2)) ∧
    ((let s : State := tOn.setPort 88 { tOn.port 88 with secy := { (tOn.port 88).secy with linger := [(1, 0)] } };
  ((s.secy 88).linger.filter (fun e => decide (e.2 ≤ s.now))).map Prod.fst ≠ [])) ∧
    ((let s : State := tOn.setPort 88 { tOn.port 88 with secy := { (tOn.port 88).secy with txSas := [(3, 1)], rx := [⟨7, 0, false, [(3, 1)]⟩] } };
  (Sparse.find (s.secy 88).txSas 3).isSome = true ∧ (s.secy 88).rx.any (fun c => c.idx == 7 && (Sparse.find c.sas 3).isSome) = true)) :=
  ⟨by decide +kernel,
   by decide +kernel,
   by decide +kernel,
   by decide +kernel,
   by decide +kernel,
   by decide +kernel⟩

/-- The hypotheses of ParserAndLookupsComplete can be met, clause by clause. -/
theorem witness_ParserAndLookupsComplete :
    ((let p : Packet := { Packet.init with stage := .parsing, ended := some false, frame := List.replicate 60 0 }; let s := tPkt tOn p;
  s.pkt 5 = p ∧ (Sparse.find s.pkts 5).isSome = true ∧ s.behind 5 = false ∧ (p.ended.isSome && decide (p.frame.length + 4 ≤ 256)) = true ∧
  { p with orig := p.frame, stage := .parsed, parse := withCsums (parseWindow p.pcfg { p with orig := p.frame }.window (some 64) p.port 0) 0 0 }.defaultAct = 0)) ∧
    ((let c : ParseCfg := { ParseCfg.init with malAct := 1 }; let p : Packet := { Packet.init with stage := .parsing, pcfg := c, ended := some false, frame := List.replicate 12 0 ++ [0x08, 0x00] ++ List.replicate 46 0 };
  let w : Packet := { p with orig := p.frame, stage := .parsed, parse := withCsums (parseWindow p.pcfg { p with orig := p.frame }.window (some 64) p.port 0) 0 0 };
  w.defaultAct = 1 ∧ { w with pcfg := { c with malAct := 2 } }.defaultAct = 2 ∧ { w with pcfg := { c with malAct := 3 } }.defaultAct = 3)) ∧
    ((let p : Packet := { Packet.init with stage := .parsed, orig := List.replicate 60 0 };
  let s := tPkt ((((tOn.wr Fld.RBK_CTRL_EN 1).wr Fld.RBK_PROF_BANKS_MASK 1).wrReg Reg.RBK_PROF_CTRL 0 0 0 1).wr Fld.RBK_MISS_ACT_LO_ACT 0x55) p;
  s.pkt 5 = p ∧ s.behind 5 = false ∧ (s.ruleStage 5).2.straggler = false ∧ (s.ruleStage 5).2.fault = false ∧ ActWord.VERDICT.get (s.ruleStage 5).2.act = 5 ∧
  (s.ruleStage 5).1.on Fld.EXM_CTRL_EN p.pipe = false ∧ (s.ruleStage 5).1.on Fld.LPM_CTRL_EN p.pipe = false ∧ s.trapOf p = .no ∧ p.uncontrolled = false)) ∧
    ((let p : Packet := { Packet.init with stage := .parsed, orig := List.replicate 60 0 };
  let s := tPkt ((((tOn.wr Fld.RBK_CTRL_EN 1).wr Fld.RBK_PROF_BANKS_MASK 1).wrReg Reg.RBK_PROF_CTRL 0 0 0 1).wr Fld.RBK_MISS_ACT_LO_ACT 2) p;
  let f : State := (s.wr Fld.RBK_CTRL_FAULT_ACT 1).setRbk 0 { s.rbk 0 with badCfg := [(profReg p 0, true)] };
  let g : State := s.setPkt 5 { p with pass := 1, stamp := some 9 };
  ActWord.VERDICT.get (s.ruleStage 5).2.act = 2 ∧ (s.ruleStage 5).2.fault = false ∧ (f.ruleStage 5).2.fault = true ∧ (g.ruleStage 5).2.straggler = true)) ∧
    (∃ x, regAt 0x020C0004 = some x ∧ x.reg.blk = 15 ∧ x.inst = 3) ∧
    ((tOn.charge 4 actScrub 1 rowScrubTag).2 = true) :=
  ⟨by decide +kernel,
   by decide +kernel,
   by decide +kernel,
   by decide +kernel,
   ⟨_, rfl, by decide +kernel, by decide +kernel⟩,
   by decide +kernel⟩

/-- The hypotheses of ParserAndLookupsComplete can be met, clause by clause. -/
theorem witness_ParserAndLookupsComplete_2 :
    (perSlotAddr 3 0x021C27FC = true) :=
  by decide +kernel

/-- The hypotheses of PipelineBlocksDrainWhenDisabled can be met, clause by clause. -/
theorem witness_PipelineBlocksDrainWhenDisabled :
    ((let s := tOn.wr Fld.PRS_CTRL_EN 1 3; s.on Fld.PRS_CTRL_EN 3 = true ∧ Fld.PRS_CTRL_EN.onIn 0 = false ∧ s.verdict .host Reg.PRS_CTRL 3 0 0 0 false = .accepted)) ∧
    ((let s := tOn.wr Fld.RBK_CTRL_EN 1 3; s.on Fld.RBK_CTRL_EN 3 = true ∧ s.verdict .host Reg.RBK_CTRL 3 0 0 4 (s.on Fld.PRS_CTRL_EN 3) = .accepted)) ∧
    ((let s := tOn.wr Fld.EDT_CTRL_EN 1 3; s.on Fld.EDT_CTRL_EN 3 = true ∧ s.verdict .host Reg.EDT_CTRL 3 0 0 0 (s.on Fld.PRS_CTRL_EN 3) = .accepted)) ∧
    ((let s := tOn.wr Fld.EXM_CTRL_EN 1 3; s.Canon ∧ s.on Fld.EXM_CTRL_EN 3 = true ∧ s.verdict .host Reg.EXM_CTRL 3 0 0 0 (s.on Fld.PRS_CTRL_EN 3) = .accepted)) ∧
    ((let s := tOn.wr Fld.LPM_CTRL_EN 1 3; s.Canon ∧ s.on Fld.LPM_CTRL_EN 3 = true ∧ s.verdict .host Reg.LPM_CTRL 3 0 0 0 (s.on Fld.PRS_CTRL_EN 3) = .accepted)) ∧
    ((let s := tOn.wr Fld.FLW_CTRL_EN 1 3; s.on Fld.FLW_CTRL_EN 3 = true ∧ s.verdict .host Reg.FLW_CTRL 3 0 0 0 (s.on Fld.PRS_CTRL_EN 3) = .accepted)) :=
  ⟨by decide +kernel,
   by decide +kernel,
   by decide +kernel,
   by decide +kernel,
   by decide +kernel,
   by decide +kernel⟩

/-- The hypotheses of PipelineBlocksDrainWhenDisabled can be met, clause by clause. -/
theorem witness_PipelineBlocksDrainWhenDisabled_2 :
    ((let s := tOn.wr Fld.UPS_CTRL_EN 1 3; s.on Fld.UPS_CTRL_EN 3 = true ∧ s.verdict .host Reg.UPS_CTRL 3 0 0 0 (s.on Fld.PRS_CTRL_EN 3) = .accepted)) ∧
    ((let s := tOn.wr Fld.LRN_CTRL_EN 1 3; let v := (s.rdReg Reg.LRN_CTRL 3 0 0) &&& 0xFFFFFFFC; s.Canon ∧ s.on Fld.LRN_CTRL_EN 3 = true ∧ Fld.LRN_CTRL_EN.onIn v = false ∧
  Fld.LRN_CTRL_SWEEP_EN.of v = s.rd Fld.LRN_CTRL_SWEEP_EN 3 ∧ Fld.LRN_CTRL_WALK_EN.of v = s.rd Fld.LRN_CTRL_WALK_EN 3 ∧
  s.verdict .host Reg.LRN_CTRL 3 0 0 v false = .accepted)) ∧
    ((let s := tOn.startDrain 15 3 0; s.draining 15 3 = true ∧ s.busyBlock 15 3 = false ∧ quietFld 15 = some Fld.PRS_CTRL_QUIET ∧ s.drainOver 15 3 = true)) ∧
    ((let s := (tOn.startDrain 15 0 0).setPkt 5 { Packet.init with stage := .parsing }; s.drainOver 15 0 = true ∧ s.busyBlock 15 0 = true ∧ (drainEvent 15).isSome = true)) :=
  ⟨by decide +kernel,
   by decide +kernel,
   by decide +kernel,
   by decide +kernel⟩

/-- The hypotheses of RuleSetsSwapByEpoch can be met, clause by clause. -/
theorem witness_RuleSetsSwapByEpoch :
    ((let s := tMbx (tOn.setRbk 3 { Rbk.init with loading := false }) opBegin 3; s.mbxRunsAt 7 opBegin 3 = true ∧ (s.rbk 3).beginTag = none ∧ (s.rbk 3).loading = false ∧
  s.building 3 = none ∧ s.slotState 3 (1 - s.curSlot 3) = 0 ∧ (s.setSlotState 3 1 3).slotState 3 1 ≠ 0 ∧ s.drainLimitPast 3 = false ∧ ((s.setSlotState 3 1 1).building 3).isSome = true)) ∧
    ((let s := tOn.setRbk 3 { Rbk.init with loading := false, beginTag := some 7, copyUntil := some 0 }; (s.rbk 3).beginTag = some 7 ∧ (s.rbk 3).copyUntil = some 0 ∧ 0 ≤ s.now ∧ s.curSlot 3 = 0)) ∧
    ((let s := tMbx tOn opRuleWrite 3; s.mbxRunsAt 7 opRuleWrite 3 = true ∧ s.openSlot 3 = some 0 ∧ s.bankWidth 3 31 = 0 ∧ s.groupBank 3 31 = 31 ∧ actionOk 0 = true ∧ actionOk 7 = false ∧
  ruleBitsOk (1 &&& BitVec.ofNat 640 (2 ^ 160 - 1)) (1 &&& BitVec.ofNat 640 (2 ^ 160 - 1)) = true ∧
  rowMember (Sparse.get (s.rbk 3).rows (31 * 2048 + 2047) 0) 0 = false ∧ rowMember (Sparse.get (s.rbk 3).rows (31 * 2048 + 2047) 0) 1 = false ∧
  (s.chargeWrite 7 (.ruleWrite 7 3 31 2047 1 1 0) 3 actHost 2 [(shAct, 31 * 2048 + 2047), (shRow, 31 * 2048 + 2047)]).2 = true)) ∧
    ((let s := tMbx (tOn.setRbk 3 { Rbk.init with rows := [(65535, 2 ^ 320)] }) opRuleDelete 3; s.mbxRunsAt 7 opRuleDelete 3 = true ∧ s.openSlot 3 = some 0 ∧
  rowMember (Sparse.get (s.rbk 3).rows (31 * 2048 + 2047) 0) 0 = true ∧ rowMember (Sparse.get (s.rbk 3).rows (30 * 2048 + 0) 0) 0 = false ∧ s.groupBank 3 31 = 31 ∧
  (s.chargeWrite 7 (.ruleDelete 7 3 31 2047) 3 actHost 1 [(shRow, 65535)]).2 = true)) ∧
    ((let s := tMbx ((tOn.setRbk 3 { Rbk.init with loading := false }).setSlotState 3 1 1) opCommit 3; s.mbxRunsAt 7 opCommit 3 = true ∧ (s.rbk 3).commitTag = none ∧
  s.openSlot 3 = some 1 ∧ (s.setSlotState 3 1 0).openSlot 3 = none)) ∧
    ((let s := ((tOn.setRbk 3 { Rbk.init with loading := false, commitTag := some 8, beginTag := some 7 }).setSlotState 3 1 1).setInFlight 3 0 5;
  (s.rbk 3).commitTag = some 8 ∧ s.openSlot 3 = some 1 ∧ s.curSlot 3 = 0 ∧ (s.rbk 3).flipAt = none ∧ (s.rbk 3).beginTag = some 7 ∧ (s.rbk 3).loading = false)) :=
  ⟨by decide +kernel,
   by decide +kernel,
   by decide +kernel,
   by decide +kernel,
   by decide +kernel,
   by decide +kernel⟩

/-- The hypotheses of RuleSetsSwapByEpoch can be met, clause by clause. -/
theorem witness_RuleSetsSwapByEpoch_2 :
    ((let s := tOn.setSlotState 3 1 3; s.slotState 3 (1 - s.curSlot 3) = 3 ∧ s.inFlight 3 (1 - s.curSlot 3) = 0 ∧ s.beginWaits 3 = false)) ∧
    ((let s := (((tOn.setSlotState 3 1 3).setInFlight 3 1 5).setRbk 3 { Rbk.init with loading := false, drainFrom := some 0, beginTag := some 7 });
  let t : State := { s with now := 10 ^ 7 }; t.slotState 3 (1 - t.curSlot 3) = 3 ∧ t.inFlight 3 (1 - t.curSlot 3) ≠ 0 ∧ t.drainLimitPast 3 = true ∧ t.beginWaits 3 = true)) ∧
    ((let s := (tOn.setSlotState 3 1 1).setRbk 3 { Rbk.init with loading := false, clearUntil := some 0, beginTag := some 7 }; (s.rbk 3).clearUntil = some 0 ∧ s.building 3 = some 1)) :=
  ⟨by decide +kernel,
   by decide +kernel,
   by decide +kernel⟩

/-- The hypotheses of TablesTakeChanges can be met, clause by clause. -/
theorem witness_TablesTakeChanges :
    ((let s := tMbx tEm opEmInsert 3; let e := emMake (s.sectWide 3 15) false false 15 0 7 5 0; let i := Instr.emInsert 7 3 15 7 false 0 5 0; let h : Change := ⟨i, [3], [], []⟩;
  s.AtPipe 7 opEmInsert i (s.emPipes 3 15) (s.emKeyOk 3 15 7 && s.resultOk 5) h 3 [] ∧ s.emKeyOk 3 16 7 = false ∧
  s.resultOk 3 = true ∧ s.emHeld 3 = false ∧ s.emBlocked 3 e = false ∧ (s.emInsert 3 e).2 = .duplicate)) ∧
    ((let s := tMbx tEm opEmInsert 3; let e := emMake (s.sectWide 3 15) false false 15 0 8 5 0; let i := Instr.emInsert 7 3 15 8 false 0 5 0; let h : Change := ⟨i, [3], [], []⟩;
  let r := s.admitAt 7 h 3 actLearn 4 (s.emBlocks 3 15 (s.emPlan 3 e).places); let u := r.1;
  s.AtPipe 7 opEmInsert i (s.emPipes 3 15) true h 3 [] ∧ s.emHeld 3 = false ∧ s.emBlocked 3 e = false ∧ (s.emInsert 3 e).2 = .ok 0 ∧
  r.2 = true ∧ u.sectWide 3 15 = s.sectWide 3 15 ∧ (u.emInsert 3 e).2 = .ok 0)) ∧
    ((let s := tMbx tEm opEmDelete 3; let i := Instr.emDelete 7 3 15 7; let h : Change := ⟨i, [3], [], []⟩; let k := (s.emHeldAt 3 15 7).getD 0;
  let r := s.admitAt 7 h 3 actLearn 4 (s.emBlocks 3 15 [k]); s.AtPipe 7 opEmDelete i (s.emPipes 3 15) (s.emKeyOk 3 15 7) h 3 [] ∧ s.emHeld 3 = false ∧
  (s.emHeldAt 3 15 7).isSome = true ∧ s.emBlocked 3 ((s.exm 3).at k) = false ∧ r.2 = true ∧ (r.1.emHeldAt 3 15 7).isSome = true ∧
  s.emHeldAt 3 15 8 = none ∧ s.emFaulty 3 15 8 = false)) ∧
    ((let s := tMbx tEm opEmModify 3; let i := Instr.emModify 7 3 15 7 true 3 9 1; let h : Change := ⟨i, [3], [], []⟩; let k := (s.emHeldAt 3 15 7).getD 0;
  let r := s.admitAt 7 h 3 actLearn 4 (s.emBlocks 3 15 [k]); s.AtPipe 7 opEmModify i (s.emPipes 3 15) (s.emKeyOk 3 15 7 && s.resultOk 9) h 3 [] ∧ s.emHeld 3 = false ∧
  s.emBlocked 3 ((s.exm 3).at k) = false ∧ r.2 = true ∧ (r.1.emHeldAt 3 15 7).isSome = true)) ∧
    ((let s := tMbx tEm opEmHitRead 3; let r := s.chargeAll ((s.emPipes 3 15).map (fun p => (p + 1, actHost, 1))) 7; s.mbxRuns 7 opEmHitRead = true ∧ s.emKeyOk 3 15 7 = true ∧
  r.2 = true ∧ (r.1.emPlaces 3 15 7).length = 1 ∧ r.1.emPlaces 3 15 8 = [])) ∧
    ((let s := tMbx tOn opRouteAdd 0; let k := routeKey 255 false 8 (10 * 2 ^ 24); let i := Instr.routeAdd 7 255 false 8 (10 * 2 ^ 24) 5; let h : Change := ⟨i, [0, 1, 2, 3], [], []⟩;
  let r := s.admitAt 7 h 0 actHost 1 [(shRoute, 255)]; let u := s.wr Fld.LPM_STATUS_UNITS_USED 524285 0;
  s.AtPipe 7 opRouteAdd i allPipes (prefixOk false 8 (10 * 2 ^ 24) && s.resultOk 5) h 0 [1, 2, 3] ∧ prefixOk false 33 0 = false ∧ s.routeWaits 0 k = false ∧
  Sparse.find (s.exm 0).routes k = none ∧ s.rd Fld.LPM_STATUS_UNITS_USED 0 + routeUnits false ≤ 524288 ∧ r.2 = true ∧
  Sparse.find (r.1.exm 0).routes k = none ∧ r.1.rd Fld.LPM_STATUS_UNITS_USED 0 + routeUnits false ≤ 524288 ∧
  524288 < u.rd Fld.LPM_STATUS_UNITS_USED 0 + routeUnits true ∧ (Sparse.find ((s.putRoute 0 k (some 5)).exm 0).routes k).isSome = true)) :=
  ⟨by decide +kernel,
   by decide +kernel,
   by decide +kernel,
   by decide +kernel,
   by decide +kernel,
   by decide +kernel⟩

/-- The hypotheses of TablesTakeChanges can be met, clause by clause. -/
theorem witness_TablesTakeChanges_2 :
    ((let s := tMbx (allPipes.foldl (fun t p => t.putRoute p (routeKey 255 true 128 1) (some 5)) tOn) opRouteDelete 0; let k := routeKey 255 true 128 1;
  let i := Instr.routeDelete 7 255 true 128 1; let h : Change := ⟨i, [0, 1, 2, 3], [], []⟩; let r := s.admitAt 7 h 0 actHost 1 [(shRoute, 255)];
  s.AtPipe 7 opRouteDelete i allPipes (prefixOk true 128 1) h 0 [1, 2, 3] ∧ s.routeWaits 0 k = false ∧ (Sparse.find (s.exm 0).routes k).isSome = true ∧
  r.2 = true ∧ (Sparse.find (r.1.exm 0).routes k).isSome = true ∧ Sparse.find (s.exm 0).routes (routeKey 255 true 127 0) = none)) ∧
    ((let s := tMbx (allPipes.foldl (fun t p => t.putRoute p (routeKey 255 true 128 1) (some 5)) tOn) opRouteModify 0; let k := routeKey 255 true 128 1;
  let i := Instr.routeModify 7 255 true 128 1 9; let h : Change := ⟨i, [3], [(2, none)], []⟩; let r := s.admitAt 7 h 3 actHost 1 [(shRoute, 255)];
  h.left = 3 :: [] ∧ h.undo ≠ [] ∧ s.mbxRuns 7 opRouteModify = true ∧ s.routeWaits 3 k = false ∧ (Sparse.find (s.exm 3).routes k).isSome = true ∧
  r.2 = true ∧ (Sparse.find (r.1.exm 3).routes k).isSome = true ∧ i = h.what)) ∧
    ((tOn.scrubRead 3).2 = true ∧ (tOn.scrubRead 0).2 = true) ∧
    (∃ x, regAt 0x022C0180 = some x ∧ x.reg.blk = 17 ∧ x.inst = 3) :=
  ⟨by decide +kernel,
   by decide +kernel,
   by decide +kernel,
   ⟨_, rfl, by decide +kernel, by decide +kernel⟩⟩

/-- The hypotheses of LearningAndIntegrityComplete can be met, clause by clause. -/
theorem witness_LearningAndIntegrityComplete :
    ((let w := BitVec.ofNat 128 (9 + 15 * 2 ^ 60 + 5 * 2 ^ 64); let s := tEm.setLrn 3 { Lrn.init with queue := [(w, false)] };
  let r := s.charge 4 actLearn (s.decideNote 3 w false).2 learnTag; let v := r.1.setLearnQueue 3 [];
  (s.lrn 3).queue = [(w, false)] ∧ (s.exm 3).exmHeld = false ∧ s.emBlocked 3 (s.noteEntry 3 w) = false ∧ s.emPending 3 = false ∧ r.2 = true ∧
  v.emHeldAt 3 15 9 = none ∧ v.learnLimit 3 15 5 = false ∧ LearnNote.SECTION.get w = 15 ∧ LearnNote.PORT.get w = 5 ∧ LearnNote.KEY.get w = 9)) ∧
    ((let w := BitVec.ofNat 128 (7 + 15 * 2 ^ 60 + 1 * 2 ^ 64); LearnNote.SECTION.get w = 15 ∧ LearnNote.KEY.get w = 7 ∧ (tEm.emHeldAt 3 15 7).isSome = true ∧
  (tEm.emHeldAt 3 15 7).all (fun k => !emStatic ((tEm.exm 3).at k) && ResWord.TARGET.get (emResult (tEm.sectWide 3 15) ((tEm.exm 3).at k)) == LearnNote.PORT.get w) = true)) ∧
    ((let s : State := { tOn with now := 1750000 }; s.Canon ∧ (s.lrn 3).tickAt + msClk ≤ s.now)) ∧
    ((let s := tMbx tOn opLrnFlush 3; s.mbxRunsAt 7 opLrnFlush 3 = true ∧ (s.lrn 3).flushes.find? (fun f => f.tag == some 7) = none ∧
  ((s.startFlush 3 (some 7) none none none).lrn 3).flushes.find? (fun f => f.tag == some 7) = none)) ∧
    ((let s := (tMbx tEm opLrnFlush 3).startFlush 3 (some 7) none none none; s.mbxRunsAt 7 opLrnFlush 3 = true ∧
  ((s.lrn 3).flushes.find? (fun f => f.tag == some 7)).isSome = true ∧
  ((s.lrn 3).flushes.find? (fun f => f.tag == some 7)).all (fun f => ((s.flushNext 3 f).lrn 3).flushes.isEmpty && (s.flushNext 3 f).doneOf 7 == 1) = true)) ∧
    ((let s := tOn.wr Fld.LRN_CTRL_SWEEP_EN 1 3; s.on Fld.LRN_CTRL_SWEEP_EN 3 = true ∧ (s.lrn 3).passAt ≤ s.now ∧ (s.lrn 3).passDue = false ∧ (s.lrn 3).pos = none)) :=
  ⟨by decide +kernel,
   by decide +kernel,
   by decide +kernel,
   by decide +kernel,
   by decide +kernel,
   by decide +kernel⟩

/-- The hypotheses of LearningAndIntegrityComplete can be met, clause by clause. -/
theorem witness_LearningAndIntegrityComplete_2 :
    ((let s := tOn.setLrn 3 { Lrn.init with pos := some 81919 }; (s.lrn 3).pos = some 81919 ∧ s.sweepPlaces 3 81919 = [] ∧ (s.charge 4 actSweep 1 sweepTag).2 = true)) ∧
    ((let s := tOn.wr Fld.LRN_CTRL_WALK_EN 1 3; s.on Fld.LRN_CTRL_WALK_EN 3 = true ∧ (s.lrn 3).walkAt ≤ s.now ∧ (s.lrn 3).walkPos = none ∧ (s.lrn 3).walkDue = false)) ∧
    ((let s : State := { tOn.setLrn 3 { Lrn.init with walkPos := some 155647 } with now := 2 ^ 60 }; (s.lrn 3).walkPos = some 155647 ∧
  (s.lrn 3).walkFrom * 155648 + 155647 * (s.rd Fld.LRN_WALK_CFG_PERIOD_MS 3 * msClk) ≤ s.now * 155648 ∧
  s.walkReads 3 155647 4 65535 = true ∧ (s.shadowTag 3 4 65535).valid = true ∧ (s.chargeAll [(0, actKeeper, 8), (4, actShadow, 1)] walkTag).2 = true ∧
  (s.chargeAll [(0, actKeeper, 8), (4, actShadow, 1)] walkTag).1.tagBusy 3 4 65535 = false ∧ s.walkFinds 3 4 65535 .lost ≠ .matches)) ∧
    ((let s := tOn.setLrn 3 { Lrn.init with walkPos := some 9, suspect := some (shKey 3 9, 0, .lost) }; (s.chargeAll [(0, actKeeper, 136)] walkTag).2 = true ∧
  ((s.chargeAll [(0, actKeeper, 136)] walkTag).1.shadowTag 3 3 9).seq = 0 ∧ (s.chargeAll [(0, actKeeper, 136)] walkTag).1.tagBusy 3 3 9 = false)) ∧
    ((let s := tOn.setLrn 3 { Lrn.init with repairs := [(shKey 3 9, (0, .lost))] }; Sparse.find (s.lrn 3).repairs (shKey 3 9) = some (0, .lost) ∧
  Sparse.get (s.lrn 3).lost (shKey 3 9) false = false ∧ (s.chargeAll [(0, actKeeper, 136), (4, actScrub, 1)] repairTag).2 = true)) :=
  ⟨by decide +kernel,
   by decide +kernel,
   by decide +kernel,
   by decide +kernel,
   by decide +kernel⟩

/-- The hypotheses of FlowLookupsAndChainsComplete can be met, clause by clause. -/
theorem witness_FlowLookupsAndChainsComplete :
    ((let s := tFlow []; (Sparse.find s.pkts 5).isSome = true ∧ (s.pkt 5).stage = .flow ∧ s.behind 5 = false ∧ s.readLine 1 0 0 = s ∧ s.flowWay (s.pkt 5) = .record 1 0 ∧ s.standby = false ∧ s.mustPark 0 1 0 = true ∧
  s.rd Fld.FLW_PARK_STATUS_OCCUPANCY 0 < s.parkLimit 0 1)) ∧
    ((let s := tFlow [tWay tOn .clean (FlowRec.STATE.set 0 1)]; s.flowWay (s.pkt 5) = .record 1 0 ∧ s.standby = false ∧ (s.readLine 1 0 0).mustPark 0 1 0 = false)) ∧
    ((let s := tPkt tOn { Packet.init with stage := .flow }; s.flowWay (s.pkt 5) = .stateless)) ∧
    ((let w := tWay tOn .pending 0; let s := tFlow [w]; s.way 1 0 = some w ∧ w.state = .pending ∧ w.waits = none ∧ s.harbourOk (recAddr 1 w.idx) = true ∧
  recIs (s.stored 1 w.idx) 1 0 = false ∧ recIs ((s.store 1 w.idx (setFields 0 [(FlowRec.VALID, 1), (FlowRec.CLASS, 1)])).stored 1 w.idx) 1 0 = true)) ∧
    ((let w := tWay tOn .clean (FlowRec.STATE.set 0 1); let v := tWay tOn .absent 0; let a : ParkAt := ⟨1, 0, .record, 0⟩; let c : Chain := ⟨0, 1, 0, [5], 0⟩;
  let f : List Way → State := fun l => let s := tFlow l; (s.setPkt 5 { s.pkt 5 with park := some a, stage := .parked }).setChain c;
  (f [w]).chain 0 1 0 = some c ∧ ((f [w]).pkt 5).park = some a ∧ (f [w]).isLocked 1 0 = false ∧ (f [w]).way 1 0 = some w ∧ FlowRec.SVC_WAIT.on w.rec_ = false ∧
  FlowRec.STATE.get w.rec_ ≠ 3 ∧ (f [w]).mirrorHeld w.idx = false ∧ FlowRec.MIRRORED.on w.rec_ = false ∧ (f [v]).way 1 0 = some v ∧ v.setup = false)) ∧
    ((let a : ParkAt := ⟨1, 0, .record, 0⟩; let s := tPkt tOn { Packet.init with park := some a }; (s.pkt 5).park = some a ∧ s.now < a.since + s.rd Fld.FLW_PARK_TIME_PARK_TIMEOUT 0 * usClk)) :=
  ⟨by decide +kernel,
   by decide +kernel,
   by decide +kernel,
   by decide +kernel,
   by decide +kernel,
   by decide +kernel⟩

/-- The hypotheses of FlowLookupsAndChainsComplete can be met, clause by clause. -/
theorem witness_FlowLookupsAndChainsComplete_2 :
    ((let s := tPkt { tOn with flw := { tOn.flw with stalled := [(24575, [(5, true)])] } } { Packet.init with park := some ⟨1, 0, .record, 0⟩ };
  Sparse.get s.flw.stalled (3 * 6144 + 6143) [] = [(5, true)] ∧ (s.pkt 5).park = some ⟨1, 0, .record, 0⟩ ∧ s.way 1 0 = none ∧ s.conflict 1 0 = false)) ∧
    ((let u : Setup := ⟨5, 1, 0, 0, true, 0, false⟩; let s := { tOn with flw := { tOn.flw with setupQ := [(3, [u])] } }; Sparse.get s.flw.setupQ 3 [] = [u] ∧ Sparse.get s.flw.setupAt 3 0 ≤ s.now ∧
  s.isLocked 1 0 = false ∧ s.slotEmpty (s.recIdx 1 0) = true ∧ (s.wr Fld.FLW_SETUP_LIMIT_RATE 0 0 1).rd Fld.FLW_SETUP_LIMIT_RATE 0 1 = 0)) ∧
    ((let g := hashGroup (tOn.recHash 1 0); let u : Setup := ⟨5, 1, 0, 0, true, 0, true⟩; let s := { tOn with flw := { tOn.flw with setupQ := [(groupSlice g, [u])] } };
  Sparse.get s.flw.setupQ (groupSlice g) [] = [u] ∧ (s.reseed g 1 0).2 = .done)) :=
  ⟨by decide +kernel,
   by decide +kernel,
   by decide +kernel⟩

/-- The hypotheses of RecordsAreWrittenBackAndFlushed can be met, clause by clause. -/
theorem witness_RecordsAreWrittenBackAndFlushed :
    ((let s := tOn.setWhey 3 [(1, 0, 9, 0)]; s.wheyOf 3 = [(1, 0, 9, 0)] ∧ (s.charge 0 (recAct 1) 128 (wbTag 1 9)).2 = true)) ∧
    ((let w := tWay tOn .dirty (FlowRec.STATE.set 0 1); let s : State := { tFlow [w] with now := 10 ^ 8 }; s.way 1 0 = some w ∧ w.state = .dirty ∧ w.uncommitted = false ∧
  w.dirtyAt + s.rd Fld.FLW_WHEY_CFG_WB_AGE_MS * msClk ≤ s.now ∧ (s.charge 0 (recAct 1) 128 (wbTag 1 w.idx)).2 = true)) ∧
    ((let v : Word := setBitsOf (setBitsOf 0 Fld.FLW_SLICE_CTRL_EN.lo 1 1) Fld.FLW_SLICE_CTRL_FLUSH.lo 1 1; tOn.Canon ∧ Fld.FLW_SLICE_CTRL_FLUSH.onIn v = true ∧
  Fld.FLW_SLICE_CTRL_EN.onIn v = true ∧ tOn.verdict .host Reg.FLW_SLICE_CTRL 3 0 0 v false = .accepted)) ∧
    ((let s := tOn.wr Fld.FLW_SLICE_CTRL_EN 1 3; s.Canon ∧ s.on Fld.FLW_SLICE_CTRL_EN 3 = true ∧ s.verdict .host Reg.FLW_SLICE_CTRL 3 0 0 0 true = .rejected ∧
  s.verdict .host Reg.FLW_SLICE_CTRL 3 0 0 0 false = .accepted ∧ (List.range 4).all (fun p => !s.on Fld.FLW_CTRL_EN p) = true ∧ (s.wr Fld.FLW_CTRL_EN 1 0).on Fld.FLW_CTRL_EN 0 = true)) ∧
    ((let s := tOn.wr Fld.FLW_SLICE_CTRL_FLUSH_BUSY 1 3; s.on Fld.FLW_SLICE_CTRL_FLUSH_BUSY 3 = true ∧ s.wheyOf 3 = [] ∧
  s.flw.sets.all (fun e => e.1 / 6144 != 3 || e.2.all (fun w => w.state != .dirty || w.uncommitted)) = true)) ∧
    ((Sparse.find (tOn.setLocked 2097151 (some true)).flw.locked 2097151 = some true ∧
  (tOn.setLocked 2097151 (some true)).searchSeed 2097151 = some 0)) :=
  ⟨by decide +kernel,
   by decide +kernel,
   by decide +kernel,
   by decide +kernel,
   by decide +kernel,
   by decide +kernel⟩

/-- The hypotheses of FlowsExpireAndAreRemoved can be met, clause by clause. -/
theorem witness_FlowsExpireAndAreRemoved :
    ((let s : State := { tOn with flw := { tOn.flw with walkPos := some 2097151 }, now := 10 ^ 15 }; s.flw.walkPos = some 2097151 ∧
  s.flw.walkFrom * 2097152 + 2097151 * (s.rd Fld.FLW_EXPIRY_CFG_PERIOD_S * sClk) ≤ s.now * 2097152 ∧ s.groupRecords 2097151 = [] ∧
  (s.charge 0 actKeeper 0 (2 ^ 43 + 2097151)).2 = true ∧ s.flw.walkDue = false)) ∧
    ((let s := tOn.wr Fld.FLW_EXPIRY_CFG_WALK_EN 1; s.on Fld.FLW_EXPIRY_CFG_WALK_EN = true ∧ s.flw.walkAt ≤ s.now ∧ s.flw.walkPos = none)) ∧
    ((let x : Removal := ⟨1, 0, 3, none⟩; let s := { tOn with flw := { tOn.flw with removals := [x] } }; s.flw.removals.find? (fun y => y.cls == 1 && y.key == 0) = some x ∧ s.removalReady x = true)) ∧
    ((let s := tMbx (tFlow [tWay tOn .clean (FlowRec.STATE.set 0 1)]) opFlowDelete 0; s.mbxRuns 7 opFlowDelete = true ∧ s.standby = false ∧ s.getRec 1 0 = some (FlowRec.STATE.set 0 1) ∧
  s.getRec 1 1 = none ∧ isIn (s.role 1) = false ∧ s.role 1 ≠ 6 ∧ s.isUe 1 (FlowRec.STATE.set 0 1) = false ∧ s.flw.removals.any (fun y => y.cls == 1 && y.key == 0) = false)) ∧
    ((let s := tMbx (tFlow [tWay tOn .clean (FlowRec.STATE.set 0 1)]) opFlowRead 0; s.mbxRuns 7 opFlowRead = true ∧ s.standby = false ∧ s.getRec 1 0 = some (FlowRec.STATE.set 0 1) ∧ s.getRec 1 1 = none)) :=
  ⟨by decide +kernel,
   by decide +kernel,
   by decide +kernel,
   by decide +kernel,
   by decide +kernel⟩

/-- The hypotheses of FlowServicesComplete can be met, clause by clause. -/
theorem witness_FlowServicesComplete :
    ((let u : FlowUse := ⟨1, 0, 0, none, none, 2, false, none⟩; let w := tWay tOn .clean (FlowRec.STATE.set 0 1); let s0 := tFlow [w]; let s := s0.setPkt 5 { s0.pkt 5 with stage := .service, flow := some u };
  (Sparse.find s.pkts 5).isSome = true ∧ (s.pkt 5).flow = some u ∧ s.getRec 1 0 = some w.rec_ ∧ (s.filterTcp 5 u w.rec_).2 = true ∧ ((s.filterTcp 5 u w.rec_).1.natServe 5 u w.rec_).2 = true)) ∧
    ((let b : List Byte := List.replicate 9 0 ++ [6] ++ List.replicate 23 0 ++ [2, 0, 0];
  let u : FlowUse := ⟨1, 6 * 2 ^ 72, 0, none, none, 2, false, none⟩; let p : Packet := { Packet.init with stage := .service, frame := b, orig := b, flow := some u, parse := setFields (0 : BitVec 256) [(ParseRes.HDR 0, 9), (ParseRes.HDR 1, 19 + 20 * 64), (ParseRes.OUTER_L4_IDX, 1), (ParseRes.HDR_COUNT, 2), (ParseRes.END_OFFSET, 40)] };
  let s := (tOn.wr Fld.FLW_SVC_CFG_TCP_TRACK 1 0 1).setPkt 5 p; let r : BitVec 1024 := FlowRec.TCP_STATE.set 0 3;
  s.clsOn Fld.FLW_SVC_CFG_TCP_TRACK 1 = true ∧ (p.fields (s.cls Fld.FLW_CLASS_CFG_LEVEL 1)).proto = 6 ∧
  tcpStep (FlowRec.TCP_STATE.get r) (p.fields (s.cls Fld.FLW_CLASS_CFG_LEVEL 1)).tcp (s.ownSide p 1 == FlowRec.INIT_SIDE.on r)
        (Sparse.find s.flw.finSide (finKey 1 0) == some (!(s.ownSide p 1 == FlowRec.INIT_SIDE.on r))) = none ∧ s.clsOn Fld.FLW_SVC_CFG_INVALID_ACT 1 = false)) ∧
    ((let s0 := ((((((tOn.wr Fld.FLW_SVC_CFG_ROLE 2 0 1).wr Fld.FLW_SVC_CFG_ROLE 3 0 2).wr Fld.FLW_SVC_CFG_ROLE 6 0 3).wr Fld.FLW_SVC_CFG_LINK_CLASS 2 0 1).wr Fld.FLW_SVC_CFG_SUB_CLASS 3 0 1).wr
    Fld.FLW_CLASS_CFG_KEY_FMT 2 0 3).wr Fld.FLW_NAT_POOL_CFG_ADDR_COUNT 1 0 0;
  let sr : BitVec 1024 := setFields 0 [(FlowRec.VALID, 1), (FlowRec.CLASS, 3), (SubRec.BLOCKS, 1)]; let r : BitVec 1024 := setFields 0 [(FlowRec.VALID, 1), (FlowRec.CLASS, 1), (FlowRec.STATE, 1)];
  let s1 := (s0.setWays (s0.setOf 3 0) [⟨3, 0, s0.recIdx 3 0, .clean, sr, 0, none, false, 0⟩]).store 1 (s0.recIdx 1 0) r; let s := { s1 with flw := { s1.flw with binding := [(1, 0)] } };
  s.subOf 1 0 = (3, 0) ∧ s.flw.binding.contains (1, 0) = true ∧ s.getRec 1 0 = some r ∧ s.getRec 3 0 = some sr ∧
  (match s.takePort 0 3 0 sr with | (t, some (b, off)) => b == 0 && off == 0 && (match t.keeperSetup 2 (t.inKey 1 0 (t.blockAt 0 b).1 ((t.blockAt 0 b).2 + off)) with | (_, e) => e == .done) | _ => false) = true)) ∧
    ((let r : IpfixRec := ⟨3, 256, [1, 2]⟩; let s := { tOn with flw := { tOn.flw with ipfix := [r], templateAt := [(3, 0)] } }; s.flw.ipfix.find? (fun r => r.coll == 3) = some r ∧ (Sparse.find s.flw.templateAt 3).isSome = true)) ∧
    ((let s := (tOn.wr Fld.FLW_IPFIX_CFG_EN 1).wr Fld.FLW_IPFIX_COLL_EN 1 0 3; s.on Fld.FLW_IPFIX_CFG_EN = true ∧ s.on Fld.FLW_IPFIX_COLL_EN 0 3 = true ∧ Sparse.find s.flw.templateAt 3 = none)) ∧
    ((let s0 := tMbx tLb opLbMemberSet 0; let s := s0.setExm 0 { s0.exm 0 with nhs := [(1, NextHop.TYPE.set 0 1)] }; let i := Instr.lbMemberSet 7 0 63 1 255;
  let h : Change := ⟨i, [0, 1, 2, 3], [], []⟩; s.AtPipe 7 opLbMemberSet i allPipes true h 0 [1, 2, 3] ∧ (s.admitAt 7 h 0 actHost 4 [(shRes, 131072)]).2 = true ∧
  s.standby = false ∧ 0 < s.lbCap ∧ 1 < s.nhCap ∧ NextHop.TYPE.get (s.nhAt 0 1) = 1 ∧ ((s.lbGroup 0 0).at 63).state = 0)) :=
  ⟨by decide +kernel,
   by decide +kernel,
   by decide +kernel,
   by decide +kernel,
   by decide +kernel,
   by decide +kernel⟩

/-- The hypotheses of FlowServicesComplete can be met, clause by clause. -/
theorem witness_FlowServicesComplete_2 :
    ((let s := (tMbx tLb opLbMemberDrain 0).setLbGroup 0 0 ⟨[(63, ⟨1, 1, 255, 0⟩)], [(0, 63)]⟩; let i := Instr.lbMemberDrain 7 0 63; let h : Change := ⟨i, [0, 1, 2, 3], [], []⟩;
  s.AtPipe 7 opLbMemberDrain i allPipes true h 0 [1, 2, 3] ∧ (s.admitAt 7 h 0 actHost 4 [(shRes, 131072)]).2 = true ∧ s.standby = false ∧ 0 < s.lbCap ∧
  ((s.lbGroup 0 0).at 63).state = 1 ∧ ((s.lbGroup 0 0).at 62).state ≠ 1)) ∧
    ((let s := (tMbx tLb opLbMemberRemove 0).setLbGroup 0 0 ⟨[(63, ⟨2, 1, 255, 255⟩)], []⟩; let i := Instr.lbMemberRemove 7 0 63; let h : Change := ⟨i, [0, 1, 2, 3, 0, 1, 2, 3], [], []⟩;
  s.AtPipe 7 opLbMemberRemove i (allPipes ++ allPipes) true h 0 [1, 2, 3, 0, 1, 2, 3] ∧ (s.admitAt 7 h 0 actHost 4 [(shRes, 131072)]).2 = true ∧ s.standby = false ∧ 0 < s.lbCap ∧
  ((s.lbGroup 0 0).at 63).state ≠ 0 ∧ (s.lbGroup 0 0).held 63 = [])) ∧
    ((let i := Instr.lbMemberSet 7 0 63 1 255; let h : Change := ⟨i, [3], [(2, none)], []⟩;
  let s : State := { tLb with kpr := { tLb.kpr with inFlight := [⟨7, opLbMemberSet, false, 0, false, 0, 0, 0, 0, true, 0, false, some h⟩] } };
  s.AtPipe 7 opLbMemberSet i allPipes false h 3 [] ∧ (s.admitAt 7 h 3 actHost 4 [(shRes, 131072)]).2 = true)) ∧
    (((tMbx tLb opLbGroupStatus 0).mbxRuns 7 opLbGroupStatus = true ∧ tLb.standby = false ∧ 63 < tLb.lbCap ∧ tLb.lbCap ≤ 64)) :=
  ⟨by decide +kernel,
   by decide +kernel,
   by decide +kernel,
   by decide +kernel⟩

/-- The hypotheses of SessionOutcomesAndOperations can be met, clause by clause. -/
theorem witness_SessionOutcomesAndOperations :
    ((let u : SessUse := ⟨9, true, 0, 0, 0, false⟩; let p : Packet := { Packet.init with stage := .session, sess := some u }; let s := tPkt tOn p;
  let f : Nat → State := fun a => (s.setSession 9 (setFields 0 [(Sess.VALID, 1), (Sess.PDR 3, 3), (Sess.FAR 0, a)]));
  (Sparse.find s.pkts 5).isSome = true ∧ (s.pkt 5).sess = some u ∧ (List.range 4).find? (fun i => pdrMatches (pdrOf ((s.decideSess 9).head 9) i) (s.pkt 5) true) = none ∧
  ∀ a, a < 3 → (List.range 4).find? (fun i => pdrMatches (pdrOf (((f a).decideSess 9).head 9) i) ((f a).pkt 5) true) = some 3 ∧ Far.ACTION.get (farOf (((f a).decideSess 9).head 9) 0) = a ∧
    Sess.BUFFERING.on (((f a).decideSess 9).head 9) = false)) ∧
    ((let b : List Byte := List.replicate 64 0; let u : SessUse := ⟨9, false, 0, 0, 0, false⟩;
  let p : Packet := { Packet.init with stage := .session, sess := some u, frame := b, orig := b, parse := setFields (0 : BitVec 256) [(ParseRes.HDR 0, 9), (ParseRes.HDR 1, 18), (ParseRes.HDR 2, 23 + 28 * 64), (ParseRes.OUTER_L4_IDX, 1), (ParseRes.HDR_COUNT, 3), (ParseRes.END_OFFSET, 60)] };
  let s := (tOn.wr Fld.UPS_N3_CFG_EN 1 0 3).setPkt 5 p; (s.pkt 5).gtpu = some 28 ∧ s.n3Of (s.pkt 5) = some 3 ∧ (s.decideSess 9).badTeid ((s.decideSess 9).head 9) 0 3 = true ∧
  (let g := (s.setSession 9 (setFields 0 [(Sess.VALID, 1), (Sess.N3_IDX, 3)])).decideSess 9; g.n3Of p = some 3 ∧ g.badTeid (g.head 9) 0 3 = false))) ∧
    ((let s0 := tMbx (tOn.wr Fld.UPS_N3_CFG_EN 1 0 0) opSessionCreate 0; let s := (s0.wr Fld.EXM_REGION_CFG_NH_UNITS 1).wr Fld.UPS_CFG_DL4_CLASS 1;
  let body : BitVec 4096 := setFields 0 [(Sess.UE_V4_VALID, 1), (Sess.BUF_TIME_S, 3600), (Sess.QER0, 2 ^ 14), (Sess.QER1, 2 ^ 14)];
  s.mbxRuns 7 opSessionCreate = true ∧ s.standby = false ∧ Sess.REPLAY.on (s.sess 4194303) = false ∧ Sess.VALID.on (s.head 4194303) = false ∧ s.sessBad body = false ∧ (s.charge 0 actSession 512 (sessTag 4194303)).2 = true ∧
  (s.setUes 4194303 (s.ueKeys body)).2.1 = .done)) ∧
    ((let s0 := tMbx (tOn.wr Fld.UPS_N3_CFG_EN 1 0 0) opSessionModify 0; let body : BitVec 4096 := setFields 0 [(Sess.VALID, 1), (Sess.UE_V4_VALID, 1), (Sess.BUF_TIME_S, 1), (Sess.QER0, 2 ^ 14), (Sess.QER1, 2 ^ 14)];
  let s := (s0.wr Fld.EXM_REGION_CFG_NH_UNITS 1).setSession 9 body; s.mbxRuns 7 opSessionModify = true ∧ s.standby = false ∧ Sess.VALID.on (s.sess 9) = true ∧ Sess.REPLAY.on (s.sess 9) = false ∧ s.sessBad body = false ∧ (s.charge 0 actSession 384 (sessTag 9)).2 = true)) ∧
    ((let s := (tMbx tOn opSessionDelete 0).setSession 9 1; s.mbxRuns 7 opSessionDelete = true ∧ s.standby = false ∧ Sess.VALID.on (s.head 9) = true ∧ Sess.VALID.on (s.head 8) = false ∧
  Sess.REPLAY.on (s.sess 9) = false ∧ (s.dropUes 9).uesGone 9 = true)) ∧
    ((let s := (tMbx tOn opSessionRead 0).setSession 9 1; s.mbxRuns 7 opSessionRead = true ∧ s.standby = false ∧ Sess.VALID.on (s.head 9) = true ∧ Sess.REPLAY.on (s.sess 9) = false ∧ Sess.VALID.on (s.head 8) = false)) :=
  ⟨by decide +kernel,
   by decide +kernel,
   by decide +kernel,
   by decide +kernel,
   by decide +kernel,
   by decide +kernel⟩

/-- The hypotheses of SessionOutcomesAndOperations can be met, clause by clause. -/
theorem witness_SessionOutcomesAndOperations_2 :
    ((let s := (tMbx tOn opUrrQuery 0).setSession 9 (setFields 0 [(Sess.VALID, 1), (Sess.URR 3, 2 ^ 40)]); s.mbxRuns 7 opUrrQuery = true ∧ s.standby = false ∧ Sess.VALID.on (s.head 9) = true ∧
  Sess.REPLAY.on (s.sess 9) = false ∧ Urr.EN.on (urrOf (s.head 9) 3) = true ∧ Sess.VALID.on (s.head 8) = false)) :=
  by decide +kernel

/-- The hypotheses of UsageAndBufferingComplete can be met, clause by clause. -/
theorem witness_UsageAndBufferingComplete :
    ((let s := ({ tOn with ups := { tOn.ups with settles := [(9, 3, true)] } }).setSession 9 (setFields 0 [(Sess.VALID, 1), (Sess.URR 3, 2 ^ 40), (Sess.VOL_THRESH 3, 10)]);
  s.ups.settles = [(9, 3, true)] ∧ Sess.VALID.on (s.head 9) = true ∧ Urr.EN.on (urrOf (s.head 9) 3) = true ∧ (s.charge 0 actSession 128 (2 ^ 47 + 39)).2 = true ∧ (s.settle2 9 3).2 = true)) ∧
    ((let s := ({ tOn with tod := 60 * 10 ^ 9 * 7 * 65536 }).setSession 9 (setFields 0 [(Sess.VALID, 1), (Sess.URR 3, 2 ^ 40), (Sess.TIME_THRESH 3, 60)]); Sess.VALID.on (s.sess 9) = true ∧ Urr.EN.on (urrOf (s.sess 9) 3) = true ∧
  (Sess.TIME_THRESH 3).get (s.sess 9) ≠ 0 ∧ (Sess.TIME_THRESH 3).get (s.sess 9) ≤ (s.todSec % 2 ^ 32 + 2 ^ 32 - (Sess.PERIOD_START 3).get (s.sess 9)) % 2 ^ 32)) ∧
    ((∃ b : Bool, ({ tOn with ups := { tOn.ups with held := [(5, 1)] } }).ntfFull = b)) ∧
    ((let b : BufItem := ⟨5, 9, false, 0, 0⟩; let s := tPkt (({ tOn with ups := { tOn.ups with bufQ := [b] } }).wr Fld.UPS_BUF_CFG_SIZE_MIB 1) { Packet.init with stage := .buffered, status := some false };
  let f : Nat → State := fun k => s.setSession 9 (setFields 0 [(Sess.VALID, 1), (Sess.BUF_LIMIT, k)]);
  (s.pkt 5).status = some false ∧ Sess.BUF_LIMIT.get ((f 0).sess 9) = 0 ∧ ((f 1).sessBuf 9).length < Sess.BUF_LIMIT.get ((f 1).sess 9) ∧
  s.rd Fld.UPS_BUF_STATUS_UNITS_USED + s.bufUnits 5 ≤ s.rd Fld.UPS_BUF_CFG_SIZE_MIB * 512 ∧ (s.charge 0 actSession (hbWriteCharge 0 ((s.pkt 5).orig.length + 36)) (2 ^ 46 + 5)).2 = true)) ∧
    ((let s := { tOn with ups := { tOn.ups with bufs := [(9, ⟨[(5, 0)], 0⟩)] }, now := 1 }; s.sessBuf 9 = [(5, 0)] ∧ 0 + Sess.BUF_TIME_S.get (s.sess 9) * sClk < s.now)) ∧
    ((let s := ({ tOn with ups := { tOn.ups with bufs := [(9, ⟨[(5, 0)], 0⟩)] } }).setSession 9 (setFields 0 [(Sess.VALID, 1), (Sess.REPLAY, 1)]); s.sessBuf 9 = [(5, 0)] ∧ Sess.REPLAY.on (s.sess 9) = true ∧
  (Sparse.get s.ups.bufs 9 ⟨[], 0⟩).nextAt ≤ s.now ∧ (s.charge 0 actSession 36 (2 ^ 46 + 5)).2 = true)) :=
  ⟨by decide +kernel,
   by decide +kernel,
   ⟨_, rfl⟩,
   by decide +kernel,
   by decide +kernel,
   by decide +kernel⟩

/-- The hypotheses of UsageAndBufferingComplete can be met, clause by clause. -/
theorem witness_UsageAndBufferingComplete_2 :
    ((let s := tOn.setSession 9 (setFields 0 [(Sess.VALID, 1), (Sess.REPLAY, 1)]); Sess.REPLAY.on (s.sess 9) = true ∧ s.sessBuf 9 = [] ∧ Sess.BUF_TRANSIT.get (s.sess 9) = 0 ∧ s.ups.decided.contains 9 = false)) ∧
    ((let p : Packet := { Packet.init with stage := .kept, status := some false, parse := setFields (0 : BitVec 256) [(ParseRes.HDR 0, 9), (ParseRes.HDR 1, 18), (ParseRes.HDR 2, 23 + 28 * 64), (ParseRes.OUTER_L4_IDX, 1), (ParseRes.HDR_COUNT, 3)] };
  let s := tPkt tOn p; let t := tPkt (tOn.wr Fld.UPS_RATE_CFG_ECHO_RATE 0) p;
  (Sparse.find s.pkts 5).isSome = true ∧ (s.pkt 5).gtpu = some 28 ∧ (s.takeAnswer 0 (s.rd Fld.UPS_RATE_CFG_ECHO_RATE)).2 = true ∧ (t.takeAnswer 0 (t.rd Fld.UPS_RATE_CFG_ECHO_RATE)).2 = false)) ∧
    (((tOn.takeAnswer 1 (tOn.rd Fld.UPS_RATE_CFG_ERRIND_RATE)).2 = true ∧ (tOn.takeAnswer 1 0).2 = false)) ∧
    ((let m : EndMarker := ⟨9, 1, 2, 0⟩; let s0 := { tOn with ups := { tOn.ups with markers := [m] } }; let s := s0.setExm 0 { s0.exm 0 with nhs := [(1, NextHop.TYPE.set 0 1)], tpls := [(0, setFields 0 [(Tpl.KIND, 6), (Tpl.LEN, 50)])] };
  s.ups.markers.find? (fun m => decide (m.due ≤ s.now)) = some m ∧ NextHop.TYPE.get (s0.nhAt 0 1) = 0 ∧ NextHop.TYPE.get (s.nhAt 0 1) = 1 ∧ tplGtpu (Sparse.get (s.exm 0).tpls (NextHop.TEMPLATE.get (s.nhAt 0 1)) 0) = true)) :=
  ⟨by decide +kernel,
   by decide +kernel,
   by decide +kernel,
   by decide +kernel⟩

/-- The hypotheses of EditorAndCaptureComplete can be met, clause by clause. -/
theorem witness_EditorAndCaptureComplete :
    ((let b : List Byte := List.replicate 64 0; let p : Packet := { Packet.init with stage := .edit, frame := b, orig := b, dest := .nextHop 1, parse := setFields (0 : BitVec 256) [(ParseRes.HDR 0, 1), (ParseRes.HDR_COUNT, 1), (ParseRes.OUTER_L3_IDX, 15), (ParseRes.OUTER_L4_IDX, 15)] };
  let s0 := (tOn.wr Fld.EDT_CTRL_EN 1).setPkt 5 p; let s := s0.setExm 0 { s0.exm 0 with nhs := [(1, setFields 0 [(NextHop.TYPE, 1), (NextHop.PORT, 7)])] };
  (s.pkt 5).stage = .edit ∧ s.behind 5 = false ∧ s.on Fld.EDT_CTRL_EN 0 = true ∧ s.resolve 5 = (s, true) ∧ (match s.edits p with | (.done _ (some 7) none, 0) => true | _ => false) = true ∧
  p.toBackwash = false ∧ ActWord.MIRROR.get p.act = 0 ∧
  (let q : Packet := { p with act := ActWord.VERDICT.set 0 6, dest := .none, ended := some false }; q.toBackwash = true ∧ (match s.edits q with | (.done _ _ _, 0) => true | _ => false) = true))) ∧
    ((let b : List Byte := List.replicate 64 0; let w : BitVec 32 := 2; let p : Packet := { Packet.init with stage := .edit, frame := b, orig := b, dest := .nextHop 1, act := setFields 0 [(ActWord.EDIT_SET, 1)], parse := setFields (0 : BitVec 256) [(ParseRes.HDR 0, 1), (ParseRes.HDR_COUNT, 1), (ParseRes.OUTER_L3_IDX, 15), (ParseRes.OUTER_L4_IDX, 15)], ended := some false, len := 64 };
  let s0 := (tOn.wr Fld.EDT_CTRL_EN 1).setPkt 5 p; let s := s0.setExm 0 { s0.exm 0 with edits := [(0, List.replicate 8 w)], nhs := [(1, setFields 0 [(NextHop.TYPE, 1), (NextHop.ENCAP_EN, 1)])], tpls := [(0, setFields 0 [(Tpl.KIND, 5), (Tpl.LEN, 112), (Tpl.L2_PAYLOAD, 1)])] };
  s.resolve 5 = (s, true) ∧ s.edits (s.pkt 5) = (.drop .EDT_GROW_DROP, 0) ∧ p.toBackwash = false)) ∧
    ((let c : CapUse := ⟨15, 1, 0, 0⟩; let s := tPkt (({ tOn with edt := { tOn.edt with capBuf := [(1, [5])] } }).wr Fld.EDT_CAP_RING_CFG_COUNT_K 1 0 15) { Packet.init with stage := .capture, cap := some c, status := some true };
  Sparse.get s.edt.capBuf 1 [] = [5] ∧ (s.pkt 5).cap = some c ∧ s.ringFill 15 < s.ringCap 15 ∧ (s.charge 0 actCapture (64 + s.capBytes 15) (2 ^ 44 + 5)).2 = true ∧
  (let t := s.wr Fld.EDT_CAP_WR_WR 1024 0 15; t.ringCap 15 ≤ t.ringFill 15 ∧ t.on Fld.EDT_CAP_RING_CTRL_MODE 0 15 = false))) ∧
    ((tOn.Canon ∧ (tOn.rd Fld.EDT_CAP_WR_WR 0 15 + 2 ^ 32 - 0) % 2 ^ 32 ≤ tOn.ringCap 15 ∧ tOn.verdict .host Reg.EDT_CAP_RD 0 15 0 0 false = .accepted ∧
  tOn.ringCap 15 < (tOn.rd Fld.EDT_CAP_WR_WR 0 15 + 2 ^ 32 - 1) % 2 ^ 32 ∧ tOn.verdict .host Reg.EDT_CAP_RD 0 15 0 1 true = .rejected)) ∧
    (tOn.verdict .host Reg.EDT_CAP_RING_CTRL 0 15 0 0 false = .accepted) ∧
    ((let s := tMbx tLb opNhWrite 0; let w : BitVec 128 := setFields 0 [(NextHop.TYPE, 1), (NextHop.PORT, 100)]; let i := Instr.nhWrite 7 2047 w; let h : Change := ⟨i, [0, 1, 2, 3], [], []⟩;
  s.AtPipe 7 opNhWrite i allPipes true h 0 [1, 2, 3] ∧ 2047 < s.nhCap ∧ s.nhCap ≤ 2048 ∧ w.toNat < 2 ^ 107 ∧ NextHop.TYPE.get w = 1 ∧ NextHop.PORT.get w = 100 ∧
  NextHop.ENCAP_EN.on w = false ∧ (s.admitAt 7 h 0 actHost 1 [(shRes, 2047)]).2 = true)) :=
  ⟨by decide +kernel,
   by decide +kernel,
   by decide +kernel,
   by decide +kernel,
   by decide +kernel,
   by decide +kernel⟩

/-- The hypotheses of EditorAndCaptureComplete can be met, clause by clause. -/
theorem witness_EditorAndCaptureComplete_2 :
    ((let s := tMbx (tOn.wr Fld.EXM_REGION_CFG_TPL_UNITS 1) opTplWrite 0; let w : BitVec 1024 := setFields 0 [(Tpl.LEN, 112), (Tpl.KIND, 1)]; let i := Instr.tplWrite 7 255 w;
  let h : Change := ⟨i, [0, 1, 2, 3], [], []⟩; s.AtPipe 7 opTplWrite i allPipes true h 0 [1, 2, 3] ∧ 255 < s.tplCap ∧ w.toNat < 2 ^ 922 ∧ Tpl.LEN.get w = 112 ∧
  Tpl.KIND.get w ≠ 5 ∧ (s.admitAt 7 h 0 actHost 1 [(shRes, 65791)]).2 = true)) ∧
    ((let s := tMbx tOn opEditWrite 0; let l : List (BitVec 32) := [11, 0]; let i := Instr.editWrite 7 255 l; let h : Change := ⟨i, [0, 1, 2, 3], [], []⟩;
  s.AtPipe 7 opEditWrite i allPipes (decide (255 < 256 ∧ l.length ≤ 8) && !l.any opBad) h 0 [1, 2, 3] ∧ (s.admitAt 7 h 0 actHost 1 [(shRes, 196863)]).2 = true)) ∧
    ((let s := tOn.setExm 3 { tOn.exm 3 with faultyRes := [(196863, true)] }; s.resFaulty 3 3 255 = true ∧ Sparse.find (s.lrn 3).repairs (shKey shRes 196863) = none ∧
  s.blockFaulty 3 shRes 196863 = true ∧ Sparse.get (s.lrn 3).lost (shKey shRes 196863) false = false ∧ (s.chargeAll [(0, actKeeper, 136), (4, actScrub, 1)] repairTag).2 = true)) :=
  ⟨by decide +kernel,
   by decide +kernel,
   by decide +kernel⟩

/-- The hypotheses of BufferOperationsComplete can be met, clause by clause. -/
theorem witness_BufferOperationsComplete :
    ((tOn.findFree 3 0 78847 (tOn.dgn.planted.length + 1) = (tOn, some (0, 78847)) ∧ requesterPools 0 ≠ [] ∧ tOn.dgn.planted = [] ∧ tOn.quotaAllows 3 0 (poolCells 0) = true ∧
  (tOn.wr Fld.BPM_REQ_QUOTA_QUOTA 0 3 0).quotaAllows 3 0 (poolCells 0) = false)) ∧
    ((let s := tOn.wr Fld.BPM_POOL_STATUS_FREE 0 3 2; requesterPools 2 ≠ [] ∧ (s.findFree 3 2 0 (s.dgn.planted.length + 1)).2 = none)) ∧
    ((let s := tOn.setBuf 3 9 (setFields 0 [(BufState.STATE, 1), (BufState.HOLDERS, 1), (BufState.REFCNT, 1)]); s.readBufs 3 [9] = s ∧ BufState.STATE.get (s.buf 3 9) = 1 ∧ BufState.REFCNT.get (s.buf 3 9) = 1 ∧ BufState.OWNER.get (s.buf 3 9) = 0 ∧
  s.quotaAllows 3 3 (s.bufCells 3 9) = true ∧ (s.wr Fld.BPM_REQ_QUOTA_QUOTA 0 3 3).quotaAllows 3 3 ((s.wr Fld.BPM_REQ_QUOTA_QUOTA 0 3 3).bufCells 3 9) = false)) ∧
    ((let s := tOn.setBuf 3 9 (setFields 0 [(BufState.STATE, 1), (BufState.HOLDERS, 32), (BufState.REFCNT, 4096)]); BufState.STATE.get ((s.readBufs 3 [9]).buf 3 9) = 1 ∧ BufState.HOLDERS.get ((s.readBufs 3 [9]).buf 3 9) / 2 ^ 5 % 2 = 1)) ∧
    ((let t := tOn.setBuf 3 95168 (setFields 0 [(BufState.STATE, 2), (BufState.LAST_OWNER, 5)]); BufState.STATE.get ((t.readBufs 3 [95168]).buf 3 95168) = 2 ∧ BufState.LAST_OWNER.get (t.buf 3 95168) = 5 ∧ t.poolOf 3 95168 = some 2)) ∧
    ((tMbx tOn opBufRead 3).mbxRuns 7 opBufRead = true) :=
  ⟨by decide +kernel,
   by decide +kernel,
   by decide +kernel,
   by decide +kernel,
   by decide +kernel,
   by decide +kernel⟩

/-- The hypotheses of BufferOperationsComplete can be met, clause by clause. -/
theorem witness_BufferOperationsComplete_2 :
    ((let s := (tOn.wr Fld.FLT_CTRL_QUIET 1).wr Fld.FLT_CTRL_EN 0; s.requesterQuiet 3 5 = true ∧ s.sweepIds 3 5 = [] ∧ s.tm.items = [])) ∧
    ((let s := ((tOn.wr Fld.QUE_CTRL_QUIET 1 3).wr Fld.QUE_CTRL_EN 0 3).setBuf 3 95168 (setFields 0 [(BufState.STATE, 1), (BufState.OWNER, 2)]); s.requesterQuiet 3 2 = true ∧ s.sweepIds 3 2 = [95168])) :=
  ⟨by decide +kernel,
   by decide +kernel⟩

/-- The hypotheses of RejectedBufferOperationsChangeNothing can be met, clause by clause. -/
theorem witness_RejectedBufferOperationsChangeNothing :
    ((tOn.readBuf 3 9 = tOn ∧ BufState.STATE.get (tOn.buf 3 9) = 0 ∧ BufState.OWNER.get (tOn.buf 3 9) ≠ 5)) ∧
    ((let s := tOn.setBuf 3 9 (setFields 0 [(BufState.STATE, 1), (BufState.HOLDERS, 1), (BufState.REFCNT, 1)]); BufState.STATE.get (s.buf 3 9) = 1 ∧ BufState.HOLDERS.get (s.buf 3 9) / 2 ^ 5 % 2 = 0)) ∧
    ((let s := tOn.setBuf 3 9 (setFields 0 [(BufState.STATE, 2), (BufState.LAST_OWNER, 4)]); BufState.STATE.get (s.buf 3 9) = 2 ∧ BufState.LAST_OWNER.get (s.buf 3 9) ≠ 5)) ∧
    ((tOn.Canon ∧ tOn.on Fld.BPM_REJECT_INFO_VALID 3 = false ∧ (tOn.wr Fld.BPM_REJECT_INFO_VALID 1 3).Canon ∧ (tOn.wr Fld.BPM_REJECT_INFO_VALID 1 3).on Fld.BPM_REJECT_INFO_VALID 3 = true)) :=
  ⟨by decide +kernel,
   by decide +kernel,
   by decide +kernel,
   by decide +kernel⟩

/-- The hypotheses of SpillStagingAndChunksComplete can be met, clause by clause. -/
theorem witness_SpillStagingAndChunksComplete :
    ((let g : Stage := ⟨9, [(1, 64)], 0, none⟩; let s := { tOn.setQueue 3 7 { Queue.init with stages := [g], chunks := [(2, [(1, 1)])], spilling := true } with now := 10 ^ 6 }; (s.queue 3 7).stages = [g] ∧
  g.firstAt + s.rd Fld.BPM_SPILL_CFG_STAGE_AGE_US 3 * usClk ≤ s.now ∧ (s.queue 3 7).chunks ≠ [] ∧ runCells g.runs = 64 ∧ g.chunk = none ∧
  (s.charge 0 actSpillWr (256 * runCells g.runs) (qKey 3 7)).2 = true ∧ (((s.charge 0 actSpillWr (256 * runCells g.runs) (qKey 3 7)).1.takeChunk 3 2097151).2 = some 2097151))) ∧
    ((let g : Stage := ⟨9, [(1, 1)], 0, some 5⟩; let s := tOn.setQueue 3 7 { Queue.init with stages := [g] }; (s.queue 3 7).stages = [g] ∧ g.chunk = some 5 ∧ g.runs ≠ [] ∧
  s.now < g.firstAt + s.rd Fld.BPM_SPILL_CFG_STAGE_AGE_US 3 * usClk ∧ runCells g.runs < 64)) ∧
    ((let s := tOn.setQueue 3 7 { Queue.init with spilling := true, chunks := [(5, [(1, 64)])] }; (s.queue 3 7).spilling = true ∧ (s.queue 3 7).fetch = none ∧ (s.queue 3 7).coveCells ≤ s.fetchMark 3 7 ∧
  (s.charge 0 actSpillRd (256 * 64) (qKey 3 7)).2 = true ∧ (((s.charge 0 actSpillRd (256 * 64) (qKey 3 7)).1.alloc 3 reqSpill 0).2).isSome = true)) ∧
    ((let s := tOn.setQueue 3 7 { Queue.init with fetch := some (5, [(1, 64)], 9) }; (s.queue 3 7).fetch = some (5, [(1, 64)], 9) ∧ s.anyRetired = false)) :=
  ⟨by decide +kernel,
   by decide +kernel,
   by decide +kernel,
   by decide +kernel⟩

/-- The hypotheses of CellsCrossAndAreSequenced can be met, clause by clause. -/
theorem witness_CellsCrossAndAreSequenced :
    ((let p : Packet := { Packet.init with stage := .cells, status := some false, dest := .port 95, pipe := 3, cls := 15 };
  let s := (tPkt tOn p).setQmap 3 3 383 ⟨true, 23, none⟩; Sparse.find s.pkts 5 = some p ∧ s.behindTo 5 = false ∧ s.hopBack p.port 95 = false ∧
  s.chooseQueue 3 3 (idxOfPort 95) p.cls p.tag = (383, false) ∧ (s.qmap 3 3 383).en = true ∧ (tOn.qmap 3 3 383).en = false ∧ s.creditsUsed p.pipe 3 < 4096 ∧
  4096 ≤ ({ s with tm := { s.tm with credits := [(15, 4096)] } } : State).creditsUsed p.pipe 3)) ∧
    ((let p : Packet := { Packet.init with stage := .cells, ended := some false, dest := .group 65535, pipe := 3 }; let s := { tPkt tOn p with tm := { tOn.tm with masks := [(262143, 9)] } };
  Sparse.find s.pkts 5 = some p ∧ s.behindTo 5 = false ∧ p.status = none ∧ p.copyOf = none ∧ p.ended.isSome = true ∧ s.pkt 5 = p ∧ s.maskSlices 3 65535 = [0, 3] ∧
  (∀ k ∈ s.maskSlices 3 65535, s.creditsUsed p.pipe k < 4096) ∧ tOn.maskSlices 3 65535 = [] ∧
  (∃ k ∈ s.maskSlices 3 65535, 4096 ≤ ({ s with tm := { s.tm with credits := [(15, 4096)] } } : State).creditsUsed p.pipe k))) ∧
    ((let s := ((tOn.wr Fld.FLT_BUNDLE_CFG_LANES 1 0 0).wr Fld.FLT_BUNDLE_CFG_LANES 1 0 3).wr Fld.FLT_BUNDLE_CFG_FIRST_LANE 95 0 3; s.hopBack 0 95 = true)) ∧
    (((tPkt tOn Packet.init).Canon ∧ (tOn.pkt 5).pipe < 4 ∧ Sparse.wf tOn.tm.credits = true ∧ Sparse.wf tOn.tm.txSeq = true)) ∧
    ((let hdr := fun (k c : Nat) => setFields (0 : BitVec 64) [(CellHdr.KIND, k), (CellHdr.DST_SLICE, 3), (CellHdr.SRC_PIPE, 3), (CellHdr.QUEUE, c), (CellHdr.SEQ, 4095), (CellHdr.CELLS, 2)];
  let f := fun (k c : Nat) => ({ tOn with tm := { tOn.tm with xbar := [⟨hdr k c, 5, 1⟩] } } : State); let a : Asm := ⟨3, uniStream 3 3 7, 4095, 5, 7, false, 2, [1], [], 0, false, false, false, 0⟩;
  (∀ k, k < 3 → (f k 7).perturbs 1 1 = false ∧ CellHdr.KIND.get (hdr k 7) = k ∧ (f k 7).cellOk 1 3 3 true = (f k 7, true) ∧ (f k 7).cellOk 1 3 3 false = (f k 7, false) ∧
    (f k 7).oldestCell 1 3 3 = some ⟨hdr k 7, 5, 1⟩) ∧
  (f 0 7).tm.asms.find? (fun a => a.stream == uniStream 3 3 7 && a.seq == 4095) = none ∧ (4095 + 65536 - Sparse.get (f 0 7).tm.rxNext (uniStream 3 3 7) 0) % 65536 < 4096 ∧
  (f 0 7).refusal 3 7 0 = some (.QUE_DOWN_DROP, 72 * 16) ∧
  ((((f 0 7).setQword 3 7 (qReset 7 + 1)).wr Fld.QUE_PORT_STATUS_STATE 0 3 0).wr Fld.QUE_CTRL_EN 1 3).refusal 3 7 0 = none ∧
  [a].find? (fun a => a.stream == uniStream 3 3 7 && a.seq == 4095) = some a)) ∧
    ((let m : Tomb := ⟨3, 1, 1, 9, 4, false, 0⟩; ({ tOn with tm := { tOn.tm with tombs := [m] } } : State).tm.tombs.find? (fun m => m.slice == 3) = some m)) :=
  ⟨by decide +kernel,
   by decide +kernel,
   by decide +kernel,
   by decide +kernel,
   by decide +kernel,
   by decide +kernel⟩

/-- The hypotheses of CellsCrossAndAreSequenced can be met, clause by clause. -/
theorem witness_CellsCrossAndAreSequenced_2 :
    ((let h : HeldItem := ⟨3, 1, 1, 9, .tombstone, 0, 0, false, 0, [], 0, 0⟩; let s := { tOn with now := 50 * usClk, tm := { tOn.tm with held := [h] } };
  s.rd Fld.QUE_CFG_BACKSTOP_US 3 = 50 ∧ (∃ h ∈ s.tm.held, h.slice = 3 ∧ h.stream = 1 ∧ h.since + s.rd Fld.QUE_CFG_BACKSTOP_US 3 * usClk ≤ s.now) ∧
  (let t := { s with now := 50 * usClk - 1 }; (∀ h ∈ t.tm.held, h.slice = 3 → h.stream = 1 → t.now < h.since + t.rd Fld.QUE_CFG_BACKSTOP_US 3 * usClk) ∧ t.tm.asms = []))) ∧
    ((let a : Asm := ⟨3, 1, 9, 5, 7, false, 2, [1], [], 0, false, false, false, 0⟩; let s := { tOn with tm := { tOn.tm with asms := [a] } };
  s.tm.asms.find? (fun a => a.slice == 3 && a.stream == 1 && a.seq == 9) = some a ∧ 9 ≠ Sparse.get s.tm.rxNext 1 0)) :=
  ⟨by decide +kernel,
   by decide +kernel⟩

/-- The hypotheses of ResequencerOrdersCompleteItems can be met, clause by clause. -/
theorem witness_ResequencerOrdersCompleteItems :
    ((let h : HeldItem := ⟨3, 1, 1, 65535, .tombstone, 0, 0, false, 0, [], 0, 0⟩; let s := fun (n : Nat) => ({ tOn with tm := { tOn.tm with rxNext := [(1, n)] } } : State);
  (∀ n ∈ [65535, 65534, 61440, 61439], Sparse.get (s n).tm.resync 1 false = false ∧ (s n).Canon ∧ Sparse.wf (s n).tm.credits = true ∧ Sparse.wf (s n).tm.rxNext = true) ∧
  (65535 + 65536 - Sparse.get (s 65535).tm.rxNext 1 0) % 65536 = 0 ∧ (65535 + 65536 - Sparse.get (s 65534).tm.rxNext 1 0) % 65536 = 1 ∧
  (65535 + 65536 - Sparse.get (s 61440).tm.rxNext 1 0) % 65536 = 4095 ∧ (65535 + 65536 - Sparse.get (s 61439).tm.rxNext 1 0) % 65536 = 4096 ∧
  Sparse.get ({ tOn with tm := { tOn.tm with resync := [(1, true)] } } : State).tm.resync 1 false = true)) :=
  by decide +kernel

/-- The hypotheses of QueuesPortsAndMovesComplete can be met, clause by clause. -/
theorem witness_QueuesPortsAndMovesComplete :
    ((let h : HeldItem := ⟨3, 1, 1, 9, .packet, 5, 65535, true, 1, [(9, 1)], 0, 0⟩; let s := { tOn with tm := { tOn.tm with repl := [(3, [h])] } };
  Sparse.get s.tm.repl 3 [] = [h] ∧ Sparse.get s.tm.lists (3 * 65536 + h.queue) [] = [] ∧
  (let e : BitVec 64 := setFields 0 [(CopyEntry.PORT_IDX, 23), (CopyEntry.LAST, 1)]; let t := { s with tm := { s.tm with lists := [(262143, [e, e])] } };
    Sparse.get t.tm.lists (3 * 65536 + h.queue) [] = [e, e]))) ∧
    ((let s := tMbx tOn opMcGroupWrite 0; let e : BitVec 64 := setFields 0 [(CopyEntry.PORT_IDX, 25), (CopyEntry.VID, 4094), (CopyEntry.LAST, 1)]; let i : Instr := .mcGroupWrite 7 65535 [e] [] [] [e];
  let h : Change := ⟨i, [0, 1, 2, 3], [], []⟩; let g : Change := ⟨i, [3], [(2, none)], []⟩; s.badList 0 [e] = false ∧ s.badList 1 [] = false ∧ s.badList 3 [e] = false ∧ s.copiesUsed 0 + 1 ≤ 262144 ∧ s.copiesUsed 3 + 1 ≤ 262144 ∧
  s.AtPipe 7 opMcGroupWrite i allPipes true h 0 [1, 2, 3] ∧ h.undo = [] ∧ (s.admitAt 7 h 0 actHost 0 []).2 = true ∧
  (let t := s.setChange 7 (some g); t.AtPipe 7 opMcGroupWrite i allPipes false g 3 [] ∧ (t.admitAt 7 g 3 actHost 0 []).2 = true))) ∧
    ((let s := tOn.wr Fld.QUE_QSEL_QUEUE 415 3; let on_ := qReset 415 + 1; s.rd Fld.QUE_QSEL_QUEUE 3 = 415 ∧ s.qword 3 415 = qReset 415 ∧ s.moving 3 415 = false ∧
  Fld.QUE_QCFG_PORT_IDX.of on_ = Fld.QUE_QCFG_PORT_IDX.of (qReset 415) ∧ Fld.QUE_QCFG_CLASS.of on_ = Fld.QUE_QCFG_CLASS.of (qReset 415) ∧
  Fld.QUE_QCFG_EN.onIn on_ = true ∧ Fld.QUE_QCFG_EN.onIn (qReset 415) = false ∧ s.verdict .host Reg.QUE_QCFG 3 0 0 on_ false = .accepted ∧ s.qEn 3 415 = false ∧
  s.verdict .host Reg.QUE_QCFG 3 0 0 (qReset 415) false = .accepted ∧ (s.setQword 3 415 on_).qEn 3 415 = true)) ∧
    ((((tOn.setQueue 3 9 { Queue.init with draining := some 4 }).queue 3 9).draining = some 4)) ∧
    ((let s := tOn.wr Fld.QUE_CTRL_EN 1 3; let t := s.wrP Fld.PRT_MODE_EN 95 1; s.on Fld.QUE_CTRL_EN 3 = true ∧ s.portsEnabled 3 = false ∧ t.portsEnabled 3 = true ∧
  s.verdict .host Reg.QUE_CTRL 3 0 0 0 false = .accepted ∧ t.verdict .host Reg.QUE_CTRL 3 0 0 0 true = .rejected)) ∧
    ((let s := { tOn.wr Fld.QUE_PORT_STATUS_STATE 1 3 23 with tm := { tOn.tm with holdUntil := [(95, 0)] } }; Sparse.find s.tm.holdUntil 95 = some 0 ∧
  s.rd Fld.QUE_PORT_STATUS_STATE (95 / 24) (95 % 24) = 1 ∧ s.portUp 95 = false ∧ (tOn.wr Fld.QUE_PORT_STATUS_STATE 2 3 23).rd Fld.QUE_PORT_STATUS_STATE (95 / 24) (95 % 24) = 2)) :=
  ⟨by decide +kernel,
   by decide +kernel,
   by decide +kernel,
   by decide +kernel,
   by decide +kernel,
   by decide +kernel⟩

/-- The hypotheses of QueuesPortsAndMovesComplete can be met, clause by clause. -/
theorem witness_QueuesPortsAndMovesComplete_2 :
    ((let s := ((tMbx tOn opQueueMove 0).setQword 3 9 (qReset 9 + 1)).setQword 3 10 (qReset 10 + 1); s.mbxRuns 7 opQueueMove = true ∧ s.moving 3 9 = false ∧ s.moving 3 10 = false ∧
  s.qEn 3 9 = true ∧ s.qEn 3 10 = true ∧ s.qPort 3 9 = s.qPort 3 10 ∧ s.queue 3 10 = Queue.init ∧ s.tm.moves = [] ∧
  (let m : Move := ⟨3, 10, 9, allPipes, [], 0, 6⟩; let t := { s with tm := { s.tm with moves := [m] } }; t.moving 3 9 = true ∧ t.tm.moves.find? (fun m => m.tag == 7) = none) ∧
  (let m : Move := ⟨3, 9, 10, allPipes, [], 0, 7⟩; let t := { s with tm := { s.tm with moves := [m] } }; t.tm.moves.find? (fun m => m.tag == 7) = some m ∧ m.left = [0, 1, 2, 3] ∧
    t.creditsUsed 0 3 < 4096 ∧ 4096 ≤ ({ t with tm := { t.tm with credits := [(3, 4096)] } } : State).creditsUsed 0 3))) ∧
    ((let m : Move := ⟨3, 9, 10, [], [0, 1, 2, 3], 0, 7⟩; m.left.head? ≠ some 0 ∧ let s := { tOn with tm := { tOn.tm with moves := [m] } }; s.tm.moves.find? (fun m => m.slice == 3 && m.a == 9) = some m ∧
  (s.queue 3 9).items = [] ∧ (s.queue 3 9).chunks = [] ∧ (s.queue 3 9).fetch = none ∧ ((s.setQueue 3 9 { Queue.init with items := [4] }).queue 3 9).items ≠ [])) :=
  ⟨by decide +kernel,
   by decide +kernel⟩

/-- The hypotheses of SchedulerAndPolicersComplete can be met, clause by clause. -/
theorem witness_SchedulerAndPolicersComplete :
    (((tOn.wr Fld.SCH_CTRL_EN 1 3).on Fld.SCH_CTRL_EN 3 = true ∧ tOn.on Fld.SCH_CTRL_EN 3 = false)) ∧
    ((let e : Elem := { elemReset 4 9 with shapeEn := true, credit := -1 }; let s := { tOn with now := 2048, sch := { tOn.sch with elems := [(eKey 3 4 9, e)] } };
  s.rd Fld.SCH_CFG_MODE = 1 ∧ Sparse.get s.sch.refill 3 0 + 2048 ≤ s.now ∧ ({ s with now := 2047 } : State).now < Sparse.get s.sch.refill 3 0 + 2048 ∧
  (eKey 3 4 9) / 65536 / 5 = 3 ∧ e.effShaped = true)) ∧
    ((let s := ((tOn.wr Fld.SCH_CFG_STARVE_MS 1000).wr Fld.QUE_PORT_STATUS_STATE 0 3 0).setQueue 3 9 { Queue.init with items := [4] }; s.rd Fld.SCH_CFG_STARVE_MS ≠ 0 ∧ portOfIdx 3 (s.qPort 3 9) = 72 ∧
  s.qBacklogged 3 9 = true ∧ (s.queue 3 9).starved = false ∧ s.qPortState 3 (s.qPort 3 9) = 0 ∧ s.classHeld 72 (s.qClass 3 9) = false ∧
  max (s.queue 3 9).lastSent (s.heldUntil 72 (s.qClass 3 9)) + s.rd Fld.SCH_CFG_STARVE_MS * msClk ≤ ({ s with now := 1000 * msClk } : State).now)) ∧
    ((let p : Packet := { Packet.init with stage := .policer, policer := some 8191, frame := List.replicate 60 0, orig := List.replicate 60 0, ended := some true };
  let x := fun (a : Nat) => ({ Policer.reset with cfg := BitVec.ofNat 32 (1 + a * 128), c := 0, cbs := 64 } : Policer); let s := fun (a : Nat) => (tPkt tOn p).setPol 0 8191 (x a);
  ∀ a, a < 4 → Sparse.find (s a).pkts 5 = some p ∧ (s a).pkts.any (fun e => e.2.stage == .policer && e.2.pipe == p.pipe && decide (e.2.polAt < p.polAt)) = false ∧ (((s a).pol 0 8191).refill (s a).now).mode ≠ 0 ∧ ((((s a).pol 0 8191).refill (s a).now).decide ((s a).meteredLen p)).1 = 2 ∧
    Fld.SCH_POL_CFG_RED_ACT.of (((s a).pol 0 8191).refill (s a).now).cfg = a)) ∧
    ((let s := tOn.wr Fld.SCH_ESEL_LEVEL 0 3; let t := tOn.wr Fld.SCH_ESEL_INDEX 26 3; s.elemWriteBad 3 = false ∧ s.verdict .host Reg.SCH_ECMD 3 0 0 1 false = .accepted ∧ t.elemWriteBad 3 = true ∧
  t.verdict .host Reg.SCH_ECMD 3 0 0 1 true = .rejected ∧ s.verdict .host Reg.SCH_ECMD 3 0 0 2 false = .accepted)) ∧
    ((let t := (tOn.wr Fld.SCH_POL_CFG_MODE 2 3).wr Fld.SCH_POL_CIR_CIR 1 3; tOn.polWriteBad 3 = false ∧ tOn.verdict .host Reg.SCH_POL_CMD 3 0 0 1 false = .accepted ∧ tOn.on Fld.SCH_POL_CFG_FILL 3 = true ∧
  t.polWriteBad 3 = true ∧ t.verdict .host Reg.SCH_POL_CMD 3 0 0 1 true = .rejected ∧ tOn.verdict .host Reg.SCH_POL_CMD 3 0 0 2 false = .accepted ∧ tOn.Canon ∧
  (tOn.pol 3 0).c < 2 ^ 38 ∧ (tOn.pol 3 0).e < 2 ^ 38 ∧ (tOn.pol 3 0).cbs < 2 ^ 28)) :=
  ⟨by decide +kernel,
   by decide +kernel,
   by decide +kernel,
   by decide +kernel,
   by decide +kernel,
   by decide +kernel⟩

/-- The hypotheses of SchedulerAndPolicersComplete can be met, clause by clause. -/
theorem witness_SchedulerAndPolicersComplete_2 :
    ((let p : Packet := { Packet.init with stage := .express, orig := List.replicate 60 0, pipe := 3 }; let e : BitVec 128 := setFields 0 [(ExpEntry.VALID, 1), (ExpEntry.PORT_ANY, 1), (ExpEntry.VID_ANY, 1)];
  let s0 := (tPkt tOn p).wr Fld.GTE_CTRL_EN 1 3; let s := s0.setExm 3 { s0.exm 3 with exps := [(1023, e)] }; Sparse.find s.pkts 5 = some p ∧ p.dest = .none ∧ s.on Fld.GTE_CTRL_EN p.pipe = true ∧
  (s.exm 3).exps.find? (fun e => expMatches e.2 p.port 0 (beAt p.orig 0 6)) = some (1023, e) ∧ Sparse.get (s.exm 3).faultyExp 1023 false = false ∧ s0.on Fld.GTE_CTRL_EN 3 = true ∧
  Sparse.get (s0.setExm 3 { s.exm 3 with faultyExp := [(1023, true)] }).exms 3 Exm.init = { s.exm 3 with faultyExp := [(1023, true)] })) :=
  by decide +kernel

/-- The hypotheses of PolicersColourByTwoBuckets can be met, clause by clause. -/
theorem witness_PolicersColourByTwoBuckets :
    ((let x := fun (k : Nat) => ({ Policer.reset with cfg := BitVec.ofNat 32 k, c := 1024 * 1500, e := 1024 * 1500, cbs := 3000 } : Policer); (∀ k, k < 3 → (x k).mode = k) ∧
  1500 * 1024 ≤ (x 1).c ∧ (x 1).c < 1501 * 1024 ∧ (x 1).e < 1501 * 1024 ∧ 1500 * 1024 ≤ ({ x 1 with c := 0 } : Policer).e ∧ (x 1).cbs < 3001)) :=
  by decide +kernel

/-- The hypotheses of ReferencesLabelsAndTimeRegistersComplete can be met, clause by clause. -/
theorem witness_ReferencesLabelsAndTimeRegistersComplete :
    ((let s := tOn.wr Fld.LHT_STATUS_TIME_REF 1; tOn.verdict .host Reg.LHT_TOD_CMD 0 0 0 1 false = .accepted ∧ tOn.timeState = 0 ∧ tOn.rd Fld.LHT_STATUS_TIME_REF = 15 ∧
  tOn.hasRight Reg.LHT_TOD_CMD = true ∧ Fld.LHT_TOD_CMD_SNAP.onIn 1 = true ∧ Fld.LHT_TOD_CMD_SET.onIn 2 = true ∧ tOn.verdict .host Reg.LHT_TOD_CMD 0 0 0 2 false = .accepted ∧
  s.rd Fld.LHT_STATUS_TIME_REF ≠ 15 ∧ s.verdict .host Reg.LHT_TOD_CMD 0 0 0 2 true = .rejected)) ∧
    ((tOn.Canon ∧ tOn.tod < 2 ^ 48 * todS)) ∧
    ((tOn.verdict .host Reg.LHT_CTRL 0 0 0 31 false = .accepted ∧ (tOn.wrReg Reg.LHT_CTRL 0 0 0 (Reg.LHT_CTRL.stored (tOn.rdReg Reg.LHT_CTRL 0 0 0) 31)).on Fld.LHT_CTRL_RADIO_EN = true)) ∧
    ((let s := ({ tOn with tod := 2 * todS } : State).setRef 1 { LhtRef.init with lastTs := some (todS + 10000 * todNs : Nat), offset := some (200 * todNs : Nat) };
  let late := s.setRef 1 { LhtRef.init with lastTs := some (todS + 10000 * todNs + 1 : Nat), offset := some 0 }; let jump := s.setRef 1 { s.ref 1 with offset := some (200 * todNs + 1 : Nat) };
  s.on Fld.LHT_PPS_IN_CFG_EDGE1 = false ∧ (s.ppsStamp 1 - (todS + 10000 * todNs : Nat) - (todS : Int)).natAbs ≤ 10000 * todNs ∧ s.edgeOffset 1 (s.ppsStamp 1) = 0 ∧
  ((secOff (0 - (200 * todNs : Nat))).natAbs : Int) ≤ s.jumpOf 1 ∧ jump.jumpOf 1 < ((secOff (0 - (200 * todNs + 1 : Nat))).natAbs : Int) ∧
  10000 * todNs < (late.ppsStamp 1 - (todS + 10000 * todNs + 1 : Nat) - (todS : Int)).natAbs)) ∧
    ((tOn.perturbAmount 3 5 = 0 ∧ tOn.rd Fld.LHT_SYNCE_SRC_EN 0 1 ≠ 1 ∧ (tOn.wr Fld.LHT_SYNCE_SRC_EN 1 0 1).rd Fld.LHT_SYNCE_SRC_EN 0 1 = 1 ∧ (-9200 : Int).natAbs ≤ tOn.rd Fld.LHT_REF_FREQ_WIN 0 5 * 100 ∧
  ¬ (9201 : Int).natAbs ≤ tOn.rd Fld.LHT_REF_FREQ_WIN 0 5 * 100)) ∧
    ((let s := ({ tOn with now := secsClk 10 } : State).setRef 6 { LhtRef.init with goodSince := some 0 }; s.on Fld.LHT_REF_STATUS_QUALIFIED 0 6 = false ∧ (s.ref 6).goodSince = some 0 ∧
  0 + secsClk (s.rd Fld.LHT_REF_CFG_QUAL_S 0 6) ≤ s.now)) :=
  ⟨by decide +kernel,
   by decide +kernel,
   by decide +kernel,
   by decide +kernel,
   by decide +kernel,
   by decide +kernel⟩

/-- The hypotheses of ReferencesLabelsAndTimeRegistersComplete can be met, clause by clause. -/
theorem witness_ReferencesLabelsAndTimeRegistersComplete_2 :
    ((∀ r ∈ [0, 1, 2, 3, 4, 5, 6], ((tOn.setRef r { LhtRef.init with lastAt := some 0 }).ref r).lastAt = some 0)) ∧
    ((let s := ((((({ tOn with now := secsClk 300 } : State).wr Fld.LHT_CTRL_SYNCE_EN 1).wr Fld.LHT_STATUS_SYNCE_REF 3).wr Fld.LHT_REF_CFG_PRIO 2 0 3).wr Fld.LHT_REF_CFG_PRIO 1 0 5).wr Fld.LHT_REF_STATUS_QUALIFIED 1 0 5;
  let t := s.setRef 5 { LhtRef.init with qualSince := some 0 }; t.on Fld.LHT_CTRL_REVERTIVE = true ∧ t.rd Fld.LHT_STATUS_SYNCE_REF ≠ 15 ∧
  t.synceCands.filter (fun r => t.since (t.ref r).qualSince (secsClk (t.rd Fld.LHT_WTR_WTR_S)) && decide (t.rd Fld.LHT_REF_CFG_PRIO 0 r < t.rd Fld.LHT_REF_CFG_PRIO 0 (t.rd Fld.LHT_STATUS_SYNCE_REF))) = [5] ∧ t.bestRef [5] = some 5 ∧
  (let u := tOn.wr Fld.LHT_STATUS_TIME_REF 6; u.on Fld.LHT_CTRL_REVERTIVE = true ∧ u.rd Fld.LHT_STATUS_TIME_REF = 6 ∧ u.timeCands = []))) ∧
    ((let s := (({ tOn with now := msClk, lht := { tOn.lht with todPrev := some 8, labelAt := some 0 } } : State).wr Fld.LHT_TOD_CFG_RX_EN 1).setRef 0 { LhtRef.init with lastAt := some 0 };
  s.on Fld.LHT_TOD_CFG_RX_EN = true ∧ (s.ref (s.rd Fld.LHT_TOD_CFG_RX_PPS)).lastAt = some 0 ∧ s.lht.todPrev = some 8 ∧ 0 + msClk ≤ s.now ∧ s.now ≤ 0 + 900 * msClk ∧ s.lht.labelAt = some 0)) :=
  ⟨by decide +kernel,
   by decide +kernel,
   by decide +kernel⟩

/-- The hypotheses of TimeStatesModelAndOutputsComplete can be met, clause by clause. -/
theorem witness_TimeStatesModelAndOutputsComplete :
    ((let s := { tOn.wr Fld.LHT_STATUS_TIME_STATE 1 with lht := { tOn.lht with lockFrom := some 0 } }; s.timeState = 1 ∧ s.lht.lockFrom = some 0)) ∧
    ((let s := (tOn.wr Fld.LHT_STATUS_SYNCE_STATE 1).wr Fld.LHT_STATUS_SYNCE_REF 5; let t := (tOn.wr Fld.LHT_CTRL_RADIO_EN 1).wr Fld.LHT_RADIO_CFG_RADIO_HZ 1000; s.rd Fld.LHT_STATUS_SYNCE_STATE = 1 ∧
  s.rd Fld.LHT_STATUS_SYNCE_REF ≠ 15 ∧ t.on Fld.LHT_CTRL_RADIO_EN = true ∧ t.rd Fld.LHT_RADIO_CFG_RADIO_HZ ≠ 0 ∧ t.on Fld.LHT_STATUS_RADIO_LOCKED = false)) ∧
    ((let s := fun (e : Nat) => ({ (tOn.wr Fld.LHT_STATUS_TIME_STATE 3).wr Fld.LHT_STATUS_TIME_VALID 1 with now := msClk, lht := { tOn.lht with tuE := e, holdAt := msClk } } : State);
  let t := fun (e : Nat) => ({ s e with lht := { (s e).lht with tuAt := (s e).now } } : State).holdInterval ((s e).now - (s e).lht.tuAt);
  ∀ e ∈ [100000, 100001], (s e).Canon ∧ (s e).lht.tuAt + msClk ≤ (s e).now ∧ (s e).timeState = 3 ∧ (t e).tuNow = e ∧ (s e).rd Fld.LHT_HOLD_CFG_FREERUN_TU_US * 1000 = 100000)) ∧
    ((let s := { (tOn.wr Fld.LHT_STATUS_TIME_STATE 2).wr Fld.LHT_STATUS_TIME_VALID 1 with now := msClk, lht := { tOn.lht with tuAt := 0 } }; s.Canon ∧ s.lht.tuAt + msClk ≤ s.now ∧ s.timeState = 2)) ∧
    ((({ tOn with now := usClk } : State).lht.realignAt + usClk ≤ ({ tOn with now := usClk } : State).now)) ∧
    ((3600 * sClk ≤ ({ tOn with lht := { tOn.lht with learnClk := 3600 * sClk } } : State).lht.learnClk)) :=
  ⟨by decide +kernel,
   by decide +kernel,
   by decide +kernel,
   by decide +kernel,
   by decide +kernel,
   by decide +kernel⟩

/-- The hypotheses of TimeStatesModelAndOutputsComplete can be met, clause by clause. -/
theorem witness_TimeStatesModelAndOutputsComplete_2 :
    ((tOn.Canon)) ∧
    ((tOn.rd Fld.LHT_TEMP_CFG_GAIN = 1000 ∧ signedOf 16 (tOn.rd Fld.LHT_TEMP_CFG_OFFSET) = 0 ∧ ((1250 * 1000 / 100 : Nat) : Int) ≤ 12500 ∧ 12500 < ((1251 * 1000 / 100 : Nat) : Int) ∧
  tOn.lht.reading = none ∧ tOn.on Fld.LHT_STATUS_TEMP_FAULT = false)) ∧
    ((let s := { tOn.wr Fld.LHT_STATUS_TEMP_FAULT 1 with lht := { tOn.lht with tempGood := some 0, reading := some (-5500) } }; s.on Fld.LHT_STATUS_TEMP_FAULT = true ∧
  s.lht.tempGood = some 0 ∧ s.lht.reading = some (-5500))) ∧
    ((let f := fun (k : Nat) => (((tOn.wr Fld.LHT_STATUS_TIME_STATE k).wr Fld.LHT_STATUS_OSC_FALLBACK 1).raise Ev.LHT_OSC_LOST).showModel; tOn.on Fld.LHT_STATUS_OSC_FALLBACK = false ∧
  (∀ k ∈ [2, 3], (f k).timeState = k ∧ (f k).rd Fld.LHT_STATUS_SYNCE_STATE ≠ 3) ∧ ((f 3).setTimeState 0).rd Fld.LHT_STATUS_SYNCE_STATE ≠ 3)) ∧
    ((let s := { ((tOn.wr Fld.LHT_PPS_OUT_CFG_EN 1 0 1).wr Fld.LHT_STATUS_TIME_VALID 1).wr Fld.LHT_STATUS_TIME_STATE 2 with tod := 5 * todS }; s.ppsSecond 1 = some 5 ∧ s.ppsMay 1 5 = true ∧
  s.rd Fld.LHT_PPS_OUT_CFG_MODE 0 1 = 0 ∧ ({ s with tod := 5 * todS + todClk } : State).ppsSecond 1 = none ∧
  (let r := { (((s.wr Fld.LHT_PPS_OUT_CFG_MODE 1 0 1).wr Fld.LHT_RADIO_CFG_RADIO_HZ 1000).wr Fld.LHT_STATUS_RADIO_LOCKED 1) with tod := 5 * todS }; r.rd Fld.LHT_PPS_OUT_CFG_MODE 0 1 = 1 ∧
    r.radioEdge = some 5000 ∧ r.rd Fld.LHT_PPS_OUT_CFG_EN 0 1 = 1 ∧ r.timeValid = true ∧ r.timeState ≠ 0 ∧ r.lht.ppsFrom ≤ r.tod ∧ Sparse.find r.lht.ppsLast 4 ≠ some 5000 ∧
    s.radioEdge = none) ∧
  Sparse.find ({ s with lht := { s.lht with ppsHigh := [(1, 9)] } } : State).lht.ppsHigh 1 = some 9)) ∧
    ((let s := { tOn.wr Fld.LHT_TOD_CFG_TX_EN 1 with lht := { tOn.lht with todTx := some (0, 9) } }; s.lht.todTx = some (0, 9) ∧ s.on Fld.LHT_TOD_CFG_TX_EN = true)) :=
  ⟨by decide +kernel,
   by decide +kernel,
   by decide +kernel,
   by decide +kernel,
   by decide +kernel,
   by decide +kernel⟩

/-- The hypotheses of TimingServicesComplete can be met, clause by clause. -/
theorem witness_TimingServicesComplete :
    ((let p : Packet := { Packet.init with stage := .tm, port := 95, orig := List.replicate 14 0 ++ [11, 2, 0, 64, 24] ++ List.replicate 15 0 ++ [1] ++ List.replicate 32 0 ++ [1] ++ List.replicate 10 0 };
  let s := ({ tPkt tOn p with kpr := { tOn.kpr with inbox := [(5, 3, [])] } }.wr Fld.PTP_CTRL_EN 1).wr Fld.PTP_PORT_STATUS_STATE 4 0 95; let t := (s.takeInbox 5).map Prod.fst;
  (s.takeInbox 5).map Prod.snd = some p ∧ t.map (fun t => (t.ptpActive 95, t.on Fld.PTP_CTRL_EN, (t.ptpBytes p).2, t.ptpCheck 95 (t.ptpBytes p).1, (t.wr Fld.PTP_CLK_CFG_DOMAIN 25).ptpCheck 95 (t.ptpBytes p).1,
    t.ptpCheck 95 [])) = some (true, true, 0, .good, .otherDomain, .bad .version))) ∧
    ((let f : Foreign := ⟨⟨6, 32, 0, 128, 9, 0, 9⟩, 0, [0, 0]⟩; let s := (tOn.wr Fld.PTP_PORT_STATUS_STATE 9 0 95).setPtpPort 95 { PtpPort.init with foreign := [f] }; s.ptpActive 95 = true ∧ s.bestEver 95 = some f ∧
  (tOn.wr Fld.PTP_PORT_STATUS_STATE 4 0 95).ptpActive 95 = true ∧ (tOn.wr Fld.PTP_PORT_STATUS_STATE 4 0 95).bestEver 95 = none)) ∧
    ((let s := (tOn.wr Fld.PTP_CTRL_EN 1).wr Fld.PTP_PORT_STATUS_STATE 6 0 95; s.on Fld.PTP_CTRL_EN = true ∧ s.ptpActive 95 = true ∧ s.ptpState 95 = 6 ∧ s.ptp.moved = false ∧ s.ptpUnicast = false ∧
  (let g : Grant := ⟨11, 7, 3, 10, 0, 0⟩; let d : DelayDue := ⟨1, 2, 3, 4, 5⟩; let c : SigTlv := ⟨5, 7, 11, 3, 10⟩;
    let u := (s.wr Fld.PTP_CLK_CFG_PROFILE 1).setPtpPort 95 { PtpPort.init with grants := [g], respDue := [d], sigDue := [c] }; u.ptpUnicast = true ∧ (u.ptpPort 95).respDue = [d] ∧
    (u.ptpPort 95).sigDue = [c] ∧ u.ptpActive 95 = true ∧ (u.ptpPort 95).grants.find? (fun g => g.typ == 11 && ((u.ptpPort 95).owed.contains 11 || decide (g.next ≤ u.now))) = some g))) ∧
    ((let s := ({ tOn with now := 4 * msClk } : State).setPtpPort 95 { PtpPort.init with syncSent := [(9, 0, 0)], missing := 2 }; (s.ptpPort 95).syncSent = [(9, 0, 0)] ∧ 0 + 4 * msClk ≤ s.now ∧
  (s.port 95).txStamps.all (fun t => t.1 != 9) = true ∧ (tOn.wr Fld.PTP_PORT_STATUS_STATE 2 0 95).ptpState 95 = 2)) ∧
    ((let s := fun (a b : Int) => (tOn.wr Fld.PTP_PORT_STATUS_STATE 9 0 95).setPtpPort 95 { PtpPort.init with sample := some a, delay := some b }; let m : Int := (10 * 1000 * todNs : Nat);
  (s m m).ptpState 95 = 9 ∧ (m + m) / 2 ≤ (((s m m).rd Fld.PTP_CLK_CFG_PATH_MAX_US * 1000 * todNs : Nat) : Int) ∧ ((s m m).ptpPort 95).sample = some m ∧ ((s m m).ptpPort 95).delay = some m ∧
  Sparse.wf (s m m).ptp.ports = true ∧ (-1 + (-1) : Int) / 2 < 0 ∧ ((s m m).rd Fld.PTP_CLK_CFG_PATH_MAX_US * 1000 * todNs : Nat) < (m + (m + 2)) / 2)) ∧
    ((let s := (((((tOn.wr Fld.PTP_CLK_CFG_PROFILE 1).wr Fld.PTP_UMT_CFG_EN 1 0 7).wr Fld.PTP_UMT_CFG_PORT 95 0 7).wr Fld.PTP_PORT_CFG_TRANSPORT 2 0 95).wr Fld.PTP_PORT_STATUS_STATE 4 0 95);
  s.ptpUnicast = true ∧ s.umtMine 95 7 = true ∧ (∀ j, j < 7 → s.umtMine 95 j = false) ∧ s.rd Fld.PTP_PORT_CFG_TRANSPORT 0 95 = 2 ∧ (s.ptpPort 95).held = [] ∧ (s.ptpPort 95).sigDue = [] ∧
  s.ptpState 95 = 4 ∧ s.on Fld.PTP_PORT_CFG_MASTER_ONLY 0 95 = false ∧ Sparse.wf s.ptp.ports = true ∧ s.Canon)) :=
  ⟨by decide +kernel,
   by decide +kernel,
   by decide +kernel,
   by decide +kernel,
   by decide +kernel,
   by decide +kernel⟩

/-- The hypotheses of TimingServicesComplete can be met, clause by clause. -/
theorem witness_TimingServicesComplete_2 :
    ((let s := ((tOn.wr Fld.PTP_CTRL_EN 1).wr Fld.PTP_CLK_CFG_TYPE 1).wr Fld.PTP_PORT_STATUS_STATE 6 0 95; let t := { s with ptp := { s.ptp with own := s.deriveOwn, moved := true } }; t.on Fld.PTP_CTRL_EN = true ∧
  t.rd Fld.PTP_CLK_CFG_TYPE ≠ 0 ∧ t.deriveOwn = t.ptp.own ∧ t.ptp.moved = true ∧ t.ptpState 95 = 6 ∧ Sparse.wf t.ptp.ports = true)) ∧
    ((tOn.verdict .host Reg.PTP_CTRL 0 0 0 0 false = .accepted)) ∧
    ((let b := fun (q : Nat) => List.replicate 15 (0 : Byte) ++ [0x00, 0x19, 0xA7, 0, 1, 0x10, 0, 0, 0, 1, 0, 4, BitVec.ofNat 8 q] ++ List.replicate 32 0; let p : Packet := { Packet.init with stage := .tm, port := 95, orig := b 2 };
  let s := { tPkt tOn p with kpr := { tOn.kpr with inbox := [(5, 3, [])] } }.wr Fld.PTP_CTRL_ESMC_EN 1; esmcQl [] = none ∧ esmcQl (b 2) = some 4 ∧ esmcQl (b 11) = some 8 ∧ qlOrder 4 ≤ qlOrder 0 ∧ qlOrder 4 < qlOrder 8 ∧
  (s.takeInbox 5).map Prod.snd = some p ∧ (s.takeInbox 5).map (fun t => (t.1.on Fld.PTP_CTRL_ESMC_EN, (t.1.esmc 95).ql, (t.1.esmc 95).worse)) = some (true, 0, none))) ∧
    ((let s := tOn.setEsmc 95 ⟨4, some 0, some (8, 0), 0, 0⟩; (s.esmc 95).at_ = some 0 ∧ (s.esmc 95).worse = some (8, 0))) ∧
    ((let s := ((tOn.wr Fld.PTP_CTRL_ESMC_EN 1).wr Fld.PTP_PORT_CFG_SYNCE_EN 1 0 95).wrP Fld.PRT_LINK_STATUS_STATE 95 3; s.esmcOn 95 = true)) :=
  ⟨by decide +kernel,
   by decide +kernel,
   by decide +kernel,
   by decide +kernel,
   by decide +kernel⟩

/-- The hypotheses of ClockQualityFollowsTheBound can be met, clause by clause. -/
theorem witness_ClockQualityFollowsTheBound :
    ((let s := (tOn.wr Fld.PTP_CLK_CFG_TYPE 2).wr Fld.LHT_TU_TU 1100; let t := ((s.wr Fld.LHT_STATUS_TIME_STATE 2).wr Fld.LHT_STATUS_TIME_REF 1).wr Fld.PTP_CLK_CFG_PPS_PRTC 1; s.rd Fld.PTP_CLK_CFG_TYPE = 2 ∧
  s.rd Fld.LHT_TU_TU ≠ 0xFFFFFFFF ∧ s.timeState ≠ 2 ∧ s.rd Fld.LHT_TU_TU ≤ s.rd Fld.PTP_CLASS_CFG_SPEC_NS ∧ (tOn.wr Fld.PTP_CLK_CFG_TYPE 3).rd Fld.PTP_CLK_CFG_TYPE = 3 ∧
  tOn.rd Fld.LHT_TU_TU = 0xFFFFFFFF ∧ t.timeState = 2 ∧ t.rd Fld.LHT_STATUS_TIME_REF ≤ 1 ∧ t.on Fld.PTP_CLK_CFG_PPS_PRTC = true ∧ tOn.Canon)) :=
  by decide +kernel

/-- The hypotheses of ExpressPathAndPreemptionComplete can be met, clause by clause. -/
theorem witness_ExpressPathAndPreemptionComplete :
    ((let p : Packet := { Packet.init with stage := .express, dest := .port 95, ended := some false, frame := List.replicate 60 0 }; let s0 := tPkt tOn p;
  let s := (s0.wrP Fld.GTE_PORT_CFG_EXP_EN 95 1).wr Fld.QUE_PORT_STATUS_STATE 0 3 23; let q := s.setGte 95 { s.gte 95 with queue := List.replicate 15 ⟨9, 1, true, none, 0⟩ };
  Sparse.find s.pkts 5 = some p ∧ s.behindTo 5 = false ∧ s.hopBack 0 95 = false ∧ s0.onP Fld.GTE_PORT_CFG_EXP_EN 95 = false ∧ s.onP Fld.GTE_PORT_CFG_EXP_EN 95 = true ∧ s.qPortState (95 / 24) (95 % 24) = 0 ∧
  (q.gte 95).queue.length < q.rdP Fld.GTE_EXP_CFG_EXP_QLIM 95 ∧ q.rdP Fld.GTE_EXP_CFG_EXP_QLIM 95 = 16 ∧ (q.wr Fld.GTE_STATUS_BUF_CELLS 3071 3).rd Fld.GTE_STATUS_BUF_CELLS 3 + cellsOf 60 = 3072 ∧
  3072 < (q.wr Fld.GTE_STATUS_BUF_CELLS 3072 3).rd Fld.GTE_STATUS_BUF_CELLS 3 + cellsOf 60)) ∧
    ((let f : TxFrame := ⟨none, 5, 16, 3, 0, none, false, true, 1, none, 0, 0, [], none, 0, none⟩; let s0 := tPkt (tOn.wrP Fld.PRT_LINK_STATUS_STATE 95 3) Packet.init; let s := s0.setPort 95 { s0.port 95 with tx := some f };
  (s.port 95).tx = some f ∧ s.portUp 95 = true ∧ s.bundleOf 95 = none ∧ s.txWaits 95 f = false ∧ (s.pkt 5).status = none ∧ s.onP Fld.MSC_PORT_CFG_EN 95 = false ∧
  (s.wrP Fld.MSC_PORT_CFG_EN 95 1).onP Fld.MSC_PORT_CFG_EN 95 = true ∧ ((s.wrP Fld.MSC_PORT_CFG_EN 95 1).takePn 95).2 = none)) ∧
    ((let f : TxFrame := ⟨none, 5, 16, 3, 0, none, false, true, 1, none, 1, 0, [], none, 0, none⟩; let b : List Byte := List.replicate 60 0; let s0 := tPkt tOn { Packet.init with frame := b, orig := b, status := some true };
  let s := s0.setPort 95 { s0.port 95 with tx := some f }; (s.port 95).tx = some f ∧ (s.pkt 5).status = some true ∧ (s.txBytes 95 f).1 = b ∧ b.length + 4 ≤ s.cutLimit 95 b ∧ s.bundleOf 95 = none ∧ f.sa = none)) ∧
    ((let s := tMbx tOn opExpWrite 3; let e : BitVec 128 := setFields 0 [(ExpEntry.VALID, 1), (ExpEntry.PORT_ANY, 1), (ExpEntry.OUT_PORT, 95)]; s.mbxRunsAt 7 opExpWrite 3 = true ∧ e.toNat < 2 ^ 91 ∧
  ExpEntry.OUT_PORT.get e = 95 ∧ 95 < ExpEntry.OUT_PORT.get (ExpEntry.OUT_PORT.set e 96) ∧ ExpEntry.PORT_ANY.on e = true ∧ ExpEntry.SET_VID.on e = false ∧ (s.chargeWrite 7 (.expWrite 7 3 0 e) 3 actHost 1 [(7, 0)]).2 = true)) ∧
    ((let s0 := (tOn.wrP Fld.PRT_LINK_STATUS_STATE 95 3).wrP Fld.GTE_PORT_CFG_PREEMPT_EN 95 1; let s := s0.setGte 95 { s0.gte 95 with verifySent := 2 }; let t := s0.setGte 95 { s0.gte 95 with verifySent := 3 };
  s.portUp 95 = true ∧ s.mergeOn 95 = true ∧ s.preemptActive 95 = false ∧ s.onP Fld.GTE_PORT_CFG_VERIFY_DIS 95 = false ∧ (s.gte 95).verifySent < 3 ∧ (s.gte 95).verifyAt ≤ s.now ∧
  t.portUp 95 = true ∧ t.mergeOn 95 = true ∧ (t.gte 95).verifySent = 3 ∧ t.preemptActive 95 = false ∧ (t.gte 95).verifyAt ≤ t.now)) ∧
    ((let s := tOn.setGte 95 { tOn.gte 95 with drainUntil := some 0, queue := [⟨9, 1, false, none, 0⟩] }; (s.gte 95).drainUntil = some 0 ∧ (s.gte 95).queue ≠ [] ∧ ((tOn.setGte 95 { tOn.gte 95 with drainUntil := some 0 }).gte 95).queue = [])) :=
  ⟨by decide +kernel,
   by decide +kernel,
   by decide +kernel,
   by decide +kernel,
   by decide +kernel,
   by decide +kernel⟩

/-- The hypotheses of GatesAndListsComplete can be met, clause by clause. -/
theorem witness_GatesAndListsComplete :
    ((let s := ((((tOn.wr Fld.GTE_GCL_SEL_PORT 23 3).wr Fld.GTE_GCL_SEL_INDEX 127 3).wr Fld.GTE_GCL_ENTRY_LO_ENTRY (2 ^ 19 - 1) 3).wr Fld.GTE_GCL_ENTRY_HI_ENTRY 1000000000 3); let t := s.wr Fld.GTE_GCL_ENTRY_HI_ENTRY 31 3;
  s.gclPort 3 = 95 ∧ (s.gte 95).pending = none ∧ 32 ≤ s.rd Fld.GTE_GCL_ENTRY_HI_ENTRY 3 ∧ s.rd Fld.GTE_GCL_ENTRY_HI_ENTRY 3 ≤ 1000000000 ∧ s.rd Fld.GTE_GCL_ENTRY_LO_ENTRY 3 < 2 ^ 19 ∧
  s.verdict .host Reg.GTE_GCL_CMD 3 0 0 1 false = .accepted ∧ t.rd Fld.GTE_GCL_ENTRY_HI_ENTRY 3 < 32 ∧ t.verdict .host Reg.GTE_GCL_CMD 3 0 0 1 true = .rejected)) ∧
    ((let s := ((tOn.wr Fld.GTE_GCL_SEL_PORT 23 3).wr Fld.GTE_ADMIN_LEN_LEN 1 3).wr Fld.GTE_ADMIN_CYCLE_CYCLE_NS 1000 3; let t := s.wr Fld.LHT_STATUS_TIME_VALID 1; t.on Fld.LHT_STATUS_TIME_VALID = true ∧
  (t.gte 95).pending = none ∧ (t.gte 95).entries (!(t.gte 95).active) 1 = [0] ∧ GateEntry.OP.get (0 : BitVec 64) ≠ 3 ∧ t.rd Fld.GTE_ADMIN_LEN_LEN 3 = 1 ∧ t.rd Fld.GTE_ADMIN_CYCLE_CYCLE_NS 3 = 1000 ∧
  t.verdict .host Reg.GTE_GCL_CMD 3 0 0 4 false = .accepted ∧ s.on Fld.LHT_STATUS_TIME_VALID = false ∧ s.verdict .host Reg.GTE_GCL_CMD 3 0 0 4 true = .rejected)) ∧
    ((let l : GateList := ⟨0, 1000, 0, 1⟩; let s := tOn.setGte 95 { tOn.gte 95 with pending := some l, fallbackUntil := some 0 }; (s.gte 95).pending = some l ∧ l.start ≤ s.tod ∧ (s.gte 95).fallbackUntil = some 0 ∧
  (s.gte 95).redo = false ∧ ((tOn.setGte 95 { s.gte 95 with redo := true }).gte 95).redo = true)) ∧
    ((let e := fun (op ns : Nat) => setFields (0 : BitVec 64) [(GateEntry.OP, op), (GateEntry.INTERVAL_NS, ns)]; let l : GateList := ⟨0, 1000, 0, 2⟩;
  let s0 := ((tOn.wrP Fld.GTE_PORT_CFG_GATE_EN 95 1).wrP Fld.GTE_EXP_QSTAT_PREEMPT_ACTIVE 95 1); let s1 := { s0 with lht := { s0.lht with coreValid := true } };
  let s := s1.setGte 95 { s1.gte 95 with oper := some l, bank := [(0, e 2 32), (1, e 1 968)] };
  (match s.gateMode 95 s.tod with | .list p => decide ((s.gte 95).entryNo ≠ some (p.k, p.cur.idx) ∧ (s.gte 95).cycleNo ≠ some p.k ∧ gateOpenIn p.cur.entry 16 = false ∧ (s.gte 95).pending = none) &&
    (match p.segs.find? (fun x => decide (p.pos < x.lo)) with | some x => GateEntry.OP.get x.entry == 1 | none => false) | _ => false) = true ∧ s.preemptActive 95 = true)) ∧
    ((let s := (tOn.wrP Fld.GTE_PORT_CFG_EXP_EN 95 1);
  s.bundleOf 95 = none ∧ s.onP Fld.PRT_MODE_EN 95 = false ∧ s.onP Fld.GTE_PORT_CFG_GATE_EN 95 = false ∧ s.onP Fld.GTE_PORT_CFG_EXP_EN 95 = true ∧ Fld.GTE_PORT_CFG_EXP_EN.onIn 0 = false ∧
  s.verdict .host Reg.GTE_PORT_CFG 3 23 0 0 false = .accepted ∧ Fld.GTE_PORT_CFG_CM_PROFILE.of 0 = 0 ∧ Fld.GTE_PORT_CFG_PREEMPT_EN.onIn 0 = false ∧
  Fld.GTE_PORT_CFG_CM_PROFILE.of (2 * 2 ^ 5) = 2 ∧ s.verdict .host Reg.GTE_PORT_CFG 3 23 0 (2 * 2 ^ 5) true = .rejected)) :=
  ⟨by decide +kernel,
   by decide +kernel,
   by decide +kernel,
   by decide +kernel,
   by decide +kernel⟩

/-- The hypotheses of ChangeTimeIsTheFirstStartAMicrosecondAhead can be met, clause by clause. -/
theorem witness_ChangeTimeIsTheFirstStartAMicrosecondAhead :
    ((0 < 250000 * todNs)) :=
  by decide +kernel

/-- The hypotheses of HarbourInterleavesAddresses can be met, clause by clause. -/
theorem witness_HarbourInterleavesAddresses :
    ((hbAddr 63 (2 ^ 30 - 1) < 2 ^ 36 ∧ (127 : Nat) < 128 ∧ tOn.Canon ∧ tOn.on Fld.HBC_FAULT_INFO_VALID 1 = false ∧ hbPc 0xD8334980 = 7 ∧ hbOffset 0xD8334980 = 0x0360CD80)) :=
  by decide +kernel

/-- The hypotheses of HarbourRequestsAreServed can be met, clause by clause. -/
theorem witness_HarbourRequestsAreServed :
    ((let r : HbReq := ⟨1, 3, true, 0, 32, 0, false, 0⟩; let s := { tOn.wr Fld.HBC_CTRL_EN 1 1 with hbc := { tOn.hbc with wins := [(63, [r])] } }; let l := (List.range 64).zip (s.hbWin 63); s.on Fld.HBC_CTRL_EN 1 = true ∧ s.on Fld.HBC_CTRL_SR_ACTIVE 1 = false ∧
  Sparse.get s.hbc.wins 63 [] = [r] ∧ r.cls = 1 ∧ r.promoted = false ∧ r.at_ + s.rd Fld.HBC_ARB_CFG_AGE1 1 * 28 = 64 * 28 ∧
  (l.filter (fun y => !s.hbHolds 63 y.2)).find? (fun y => y.1 == 0) = some (0, r) ∧ hbFirst (l.filter (fun y => !s.hbHolds 63 y.2)) = some (0, r))) ∧
    ((let a : HbReq := ⟨0, 1, true, 0, 32, 0, false, 0⟩; let b : HbReq := ⟨2, 1, false, 256, 32, 0, false, 0⟩; let s := { tOn.wr Fld.HBC_CTRL_EN 1 1 with hbc := { tOn.hbc with wins := [(63, [a, b])] } };
  let l := (List.range 64).zip (s.hbWin 63); (l.filter (fun y => !s.hbHolds 63 y.2)).find? (fun y => y.1 == 1) = some (1, b) ∧ hbFirst (l.filter (fun y => !s.hbHolds 63 y.2)) = some (0, a) ∧ hbMayPass l (1, b) (0, a) = false ∧
  s.on Fld.HBC_CTRL_EN 1 = true ∧ ((Sparse.get s.hbc.wins 63 []).drop 1).head? = some b ∧ b.cls = 2)) ∧
    ((let r : HbReq := ⟨0, 1, true, 8, 16, 0, false, 0⟩; let s := { tOn with hbc := { tOn.hbc with busy := [(63, [r])] } }; Sparse.get s.hbc.busy 63 [] = r :: [] ∧ s.perturbAmount 0 63 = 0 ∧ r.at_ ≤ s.now ∧ r.rmw = true)) ∧
    ((let s := tOn.wr Fld.HBC_STATUS_REFRESH_RATE 2 1; tOn.on Fld.HBC_CTRL_SR_ACTIVE 1 = false ∧ Sparse.find s.hbc.tempAt 1 = none ∧ refreshRate (s.rd Fld.HBC_STATUS_REFRESH_RATE 1) 105 = 2 ∧
  refreshRate (s.rd Fld.HBC_STATUS_REFRESH_RATE 1) 106 = 2 ∧ tOn.rd Fld.HBC_STATUS_REFRESH_RATE 1 = 0 ∧ refreshRate 0 105 = 2)) ∧
    ((let s := { tOn with rst := { tOn.rst with phaseNext := 5, retained := false } }; s.Canon ∧ s.rst.phaseNext = 5 ∧ s.rst.retained = false ∧ (tOn.wr Fld.HBC_CTRL_INIT_DONE 1 1).on Fld.HBC_CTRL_INIT_DONE 1 = true)) ∧
    ((let s := { tOn with rst := { tOn.rst with blocks := [(121, 0)] } }; let t := { s with hbc := { s.hbc with entering := [(1, 0)] } }; s.srWanted 1 = true ∧ s.on Fld.HBC_CTRL_SR_ACTIVE 1 = false ∧
  Sparse.find s.hbc.entering 1 = none ∧ Sparse.find t.hbc.entering 1 = some 0 ∧ t.srWanted 1 = true ∧ t.on Fld.HBC_CTRL_SR_ACTIVE 1 = false)) :=
  ⟨by decide +kernel,
   by decide +kernel,
   by decide +kernel,
   by decide +kernel,
   by decide +kernel,
   by decide +kernel⟩

/-- The hypotheses of HarbourRequestsAreServed can be met, clause by clause. -/
theorem witness_HarbourRequestsAreServed_2 :
    ((let s := { tOn.wr Fld.HBC_CTRL_SR_ACTIVE 1 1 with rst := { tOn.rst with phaseNext := 5, retained := true } }; let t := { s with rst := { s.rst with blocks := [(121, 0)] } }; s.on Fld.HBC_CTRL_SR_ACTIVE 1 = true ∧ s.rst.phaseNext = 5 ∧ s.rst.retained = true ∧
  Sparse.find s.rst.blocks (15 * 8 + 1) = none ∧ t.on Fld.HBC_CTRL_SR_ACTIVE 1 = true ∧ (Sparse.find t.rst.blocks (15 * 8 + 1)).isSome = true)) :=
  by decide +kernel

/-- The hypotheses of HarbourMaintenanceCompletes can be met, clause by clause. -/
theorem witness_HarbourMaintenanceCompletes :
    ((let s := { tOn.wr Fld.HBC_CTRL_EN 1 1 with now := 128 * msClk }; s.mayPause 63 = true ∧ Sparse.get s.hbc.pauseAt 63 0 + s.rd Fld.HBC_RETRAIN_CFG_PERIOD_MS 1 * msClk ≤ s.now ∧
  (s.charge 0 actMaint 8000 (maintTag 0 63)).2 = true ∧ (s.charge 0 actMaint (2 ^ 60) (maintTag 0 63)).2 = false)) ∧
    ((let s := (tOn.wr Fld.HBC_CTRL_EN 1 1).wr Fld.HBC_STATUS_TEMP 5 1; s.mayPause 63 = true ∧ s.rd Fld.HBC_RETRAIN_CFG_DT 1 ≤ (s.stackTemp 63 - Sparse.get s.hbc.trainTemp 63 0).natAbs ∧
  (s.charge 0 actMaint 32000 (maintTag 1 63)).2 = true)) ∧
    ((let r : TideReq := { act := actMaint, charge := 8000, tag := maintTag 2 63, since := 0 }; let s := tOn.setGate 0 { tOn.gate 0 with waiting := [r] };
  (s.gate 0).waiting.find? (fun r => r.act == actMaint && r.tag == maintTag 2 63) = some r)) ∧
    ((tOn.pcRetired 63 = false)) ∧
    ((let s := { (tOn.wr Fld.HBC_CTRL_INIT_DONE 1 1) with now := sClk }; s.on Fld.HBC_SCRUB_CFG_EN 1 = true ∧ s.on Fld.HBC_CTRL_INIT_DONE 1 = true ∧ s.on Fld.HBC_CTRL_SR_ACTIVE 1 = false ∧
  Sparse.get s.hbc.scrubAt 1 0 + s.rd Fld.HBC_SCRUB_CFG_PERIOD_H 1 * 3600 * sClk / stackBursts ≤ s.now ∧ s.scrubSkips 1 0 = false ∧ s.pcRetired 32 = false ∧ (s.charge 0 actMaint 64 (maintTag 3 32)).2 = true)) ∧
    ((let s := ({ tOn with hbc := { tOn.hbc with asked := [(rowKey 63 9, true)] } } : State).setGate 0 { tOn.gate 0 with granted := [(actMaint, maintTag 2 63)] }; s.rowDue 63 9 = true ∧ s.pcRetired 63 = false ∧ s.pcPauses 63 = false ∧ s.pcRepairs 63 = none ∧ Sparse.get s.hbc.busy 63 [] = [] ∧ ∀ c : Nat, (s.charge 0 actMaint c (maintTag 2 63)).2 = true)) :=
  ⟨by decide +kernel,
   by decide +kernel,
   by decide +kernel,
   by decide +kernel,
   by decide +kernel,
   by
  refine ⟨by decide +kernel, by decide +kernel, by decide +kernel, by decide +kernel, by decide +kernel, fun c => ?_⟩
  unfold State.charge
  by_cases h : c = 0
  · rw [if_pos h]
  · rw [if_neg h, if_pos (by decide +kernel)]⟩

/-- The hypotheses of HarbourMaintenanceCompletes can be met, clause by clause. -/
theorem witness_HarbourMaintenanceCompletes_2 :
    ((let s := { tOn with hbc := { tOn.hbc with rows := [(rowKey 63 9, { ce := 3, ue := false })] } }; Sparse.get s.hbc.asked (rowKey 63 9) false = false ∧ s.on Fld.HBC_REPAIR_CFG_AUTO_EN 1 = true ∧
  Sparse.find s.hbc.rows (rowKey 63 9) = some { ce := 3, ue := false } ∧ (tMbx tOn opHbRepair 0).mbxRuns 7 opHbRepair = true)) :=
  by decide +kernel

/-- The hypotheses of TideGatesAdmitByShare can be met, clause by clause. -/
theorem witness_TideGatesAdmitByShare :
    (((tOn.gate 4).startAt + tidePeriod 4 ≤ ({ tOn with now := 7000 } : State).now ∧ tOn.now < (tOn.gate 4).startAt + tidePeriod 4 ∧ (tOn.gate 4).applyDue = false ∧
  ((tOn.setGate 4 { tOn.gate 4 with applyDue := true }).gate 4).applyDue = true ∧ tOn.rd Fld.TTB_HB_CARRY_BYTES = 0 ∧ tOn.Canon ∧ Sparse.get (tOn.gate 4).admitted 4 0 < 512 ∧ (tOn.gate 0).startAt + tidePeriod 0 ≤ ({ tOn with now := 7000 } : State).now ∧ Sparse.get (tOn.gate 0).admitted 6 0 < 2 ^ 24)) ∧
    ((let t := tOn.gate 1; t.share 1 0 = 32 ∧ t.test 1 0 32 = .own ∧ t.test 1 0 33 = .borrow spareCode ∧ t.test 1 0 81 = .waits ∧ t.share 1 4 < Sparse.get t.spent 4 0 + 33 ∧ t.mayBorrow 1 4 = false ∧
  Gate.test { t with spareUsed := 80 } 1 0 33 = .borrow 1)) ∧
    ((let r : TideReq := { act := 0, charge := 32, tag := 5, since := 0 }; let s := tOn.setGate 4 { tOn.gate 4 with waiting := [r] }; let q : TideReq := { r with charge := 257 };
  (s.gate 4).waiting.find? (fun x => x.act == 0) = some r ∧ (s.gate 4).test 4 0 r.charge = .own ∧ r.since + s.rd Fld.TTB_CFG_STARVE_US (gateInst 4) * usClk ≠ s.now ∧
  r.since + s.rd Fld.TTB_CFG_STARVE_US (gateInst 4) * usClk = ({ s with now := 1000 * usClk } : State).now ∧ (s.gate 4).test 4 0 q.charge = .waits)) ∧
    ((Fld.TTB_CTRL_APPLY.onIn 1 = true ∧ tOn.applyOk 0 = true ∧ tOn.verdict .host Reg.TTB_CTRL 0 0 0 1 false = .accepted)) ∧
    ((let s := tOn.wr Fld.TTB_HB_SHARE_BP 99 0 6; s.applyOk 0 = false ∧ s.verdict .host Reg.TTB_CTRL 0 0 0 1 true = .rejected)) :=
  ⟨by decide +kernel,
   by decide +kernel,
   by decide +kernel,
   by decide +kernel,
   by decide +kernel⟩

/-- The hypotheses of KeeperControlOperationsComplete can be met, clause by clause. -/
theorem witness_KeeperControlOperationsComplete :
    ((let s := (tOn.wr Fld.KPR_CTRL_EN 1).startTasks; s.mayExecute 13 12 = true ∧ Sparse.find s.dgn.planted (plantKey 7 13 0) = none ∧ s.mayExecute 0 0 = true ∧ s.mayExecute 13 0 = false ∧ (s.engine 13).hold = none ∧ s.Canon ∧ s.taskEngine 12 = 13 ∧ s.keepersRun = true ∧
  s.engineIs engRun 13 = true)) ∧
    ((let s := (tOn.wr Fld.KPR_CTRL_EN 1).startTasks; let t := s.setEngine 13 { s.engine 13 with hold := some 511, cur := some 12 }; let u := s.setEngine 13 { s.engine 13 with hold := some 512, cur := some 12 };
  t.mayExecute 13 12 = true ∧ (t.engine 13).hold = some 511 ∧ (t.engine 13).staged.length + [KChange.other].length ≤ 32 ∧ u.mayExecute 13 12 = true ∧ (u.engine 13).hold = some 512 ∧ u.engineIs engRun 13 = true)) ∧
    ((let s := (tOn.wr Fld.KPR_CTRL_EN 1).startTasks; let c : Commit := ⟨12, 0, [KChange.table 3 4], 0⟩; let t := { s with kpr := { s.kpr with commitQ := [c] } }; t.kpr.commitQ = [c] ∧ t.keepersRun = true ∧
  c.gen = t.taskGen c.task ∧ (t.chargeAll (commitCharges c.changes) c.tag).2 = true ∧ (t.chargeAll (commitCharges [KChange.table 3 257]) c.tag).2 = false ∧ ({ c with gen := 1 } : Commit).gen ≠ t.taskGen 12)) :=
  ⟨by decide +kernel,
   by decide +kernel,
   by decide +kernel⟩

/-- The hypotheses of LockupsMovesAndPatchesComplete can be met, clause by clause. -/
theorem witness_LockupsMovesAndPatchesComplete :
    ((let s := (tOn.wr Fld.KPR_CTRL_EN 1).startTasks; let t := { s with now := 175000 }; s.keepersRun = true ∧ s.on Fld.KPR_TASK_RUNNING 0 13 = true ∧ s.taskEngine 13 = 14 ∧ s.engineIs engRun 14 = true ∧ (s.engine 14).stopped = false ∧
  Sparse.get t.kpr.progress 13 0 + t.rd Fld.KPR_WDT_CFG_ENGINE_US * 1750 = t.now ∧ s.Canon)) ∧
    ((let s := tOn.lockUp 15; (s.engine 15).resetAt.isSome = true ∧ s.engState 15 = engReset)) ∧
    ((let s := ((tOn.wr Fld.KPR_CTRL_EN 1).startTasks).askMove 13 (some 7); s.kpr.moves.filter (fun m => m.1 == 13) ≠ [] ∧ s.moveTarget 13 = some 15 ∧ s.keepersRun = true ∧ Sparse.find s.kpr.movedAt 13 = none ∧
  Sparse.find (s.moveTask 13 15).kpr.movedAt 13 = some 0 ∧ (s.moveTask 13 15).now < 0 + 175000 ∧ (s.moveTask 13 15).keepersRun = true ∧ (s.moveTask 13 15).moveTarget 13 = some 7 ∧
  (s.moveTask 13 15).kpr.moves.filter (fun m => m.1 == 13) ≠ [])) ∧
    (((tMbx tOn opTaskMove 0).mbxRuns 7 opTaskMove = true ∧ (tMbx tOn opPatchLoad 0).mbxRuns 7 opPatchLoad = true ∧ tOn.kpr.patch = none)) ∧
    ((let s := tOn.wr Fld.KPR_CTRL_EN 1; let t := { s with kpr := { s.kpr with moves := [(13, 0, none)], commitQ := [⟨13, 0, [], 0⟩] } }; s.keepersRun = true ∧ s.kpr.wdtFrom = none ∧ t.kpr.commitQ = [⟨13, 0, [], 0⟩] ∧ t.keepersRun = true ∧
  s.rst.run = none ∧ s.on Fld.KPR_CTRL_EN = true)) ∧
    ((let s := { (tOn.wr Fld.KPR_CTRL_EN 1).resetCluster with now := 5 }; let t := s.wr Fld.KPR_TASK_ENGINE 3 0 1; t.kpr.moves.any (fun m => (t.moveTarget m.1).isNone) = false ∧ s.kpr.resetAt = some 0 ∧
  (let u := (tOn.wr Fld.KPR_CTRL_EN 1).askMove 1 none; let v := (List.range 16).foldl (fun (x : State) e => x.wr Fld.KPR_ENGINE_STATUS_STATE engFenced 0 e) u;
   v.keepersRun = true ∧ v.kpr.moves.any (fun m => (v.moveTarget m.1).isNone && !v.engineIs engRun (v.taskEngine m.1)) = true))) :=
  ⟨by decide +kernel,
   by decide +kernel,
   by decide +kernel,
   by decide +kernel,
   by decide +kernel,
   by decide +kernel⟩

/-- The hypotheses of LockupsMovesAndPatchesComplete can be met, clause by clause. -/
theorem witness_LockupsMovesAndPatchesComplete_2 :
    ((let s := { tOn with kpr := { tOn.kpr with locks := [5, 3], csBad := [(65535, 0)] } }; (s.kpr.locks.drop 1).head? = some 3 ∧ s.now < 3 + 10 * sClk ∧ 3 + 10 * sClk ≤ ({ s with now := 3 + 10 * sClk } : State).now ∧
  (Sparse.find s.kpr.csBad 65535).isSome = true ∧ s.now < s.kpr.csAt + 267 ∧ s.kpr.csAt + 267 ≤ ({ s with now := 267 } : State).now)) ∧
    ((let p : Patch := ⟨7, [(65535, 0)], 0, none, 0⟩; let s := { tOn with kpr := { tOn.kpr with patch := some p } }; let t := s.startTasks; s.kpr.patch = some p ∧ s.rd Fld.KPR_PATCH_CFG_QUIET_LIMIT_US = 1000 ∧
  (s.allStopped = true ∨ s.allStopped = false) ∧ t.allStopped = false ∧ t.kpr.patch = some p ∧ ((t.setEngine 15 { t.engine 15 with stopped := true }).resume.engine 15).stopped = false)) :=
  ⟨by decide +kernel,
   by decide +kernel⟩

/-- The hypotheses of MailboxCommandsComplete can be met, clause by clause. -/
theorem witness_MailboxCommandsComplete :
    ((tOn.verdict .host Reg.KPR_MBX_CMD_TAIL 0 0 0 64 false = .accepted ∧ ((64 : Word).toNat + 2 ^ 32 - tOn.rd Fld.KPR_MBX_CMD_HEAD_COUNT) % 2 ^ 32 ≤ tOn.cmdSize ∧
  tOn.cmdSize < ((65 : Word).toNat + 2 ^ 32 - tOn.rd Fld.KPR_MBX_CMD_HEAD_COUNT) % 2 ^ 32 ∧ tOn.verdict .host Reg.KPR_MBX_CMD_TAIL 0 0 0 65 true = .rejected)) ∧
    ((let s := (((((tOn.wr Fld.KPR_CTRL_EN 1).wr Fld.HST_PCIE_STATUS_LINK_UP 1).wr Fld.KPR_MBX_CTRL_EN 1).wr Fld.KPR_MBX_CMD_TAIL_COUNT 8).wr Fld.RND_RIGHTS_RIGHTS (2 ^ 14)); s.mayFetch 8 = true ∧ s.mayFetch 1 = true ∧ tOn.mayFetch 8 = false ∧
  (let h : MbxHeader := { tag := 7, opcode := opSessionCreate, irq := true, entries := 8, pipe := 3, all := false, timeoutMs := 5, resultAddr := 0, dom := 9, resv := false };
   s.cmdRefusal h = none ∧ s.cmdRefusal { h with resv := true } = some .badCmd ∧ s.cmdRefusal { h with opcode := opKeyWrite } = some .noRight))) ∧
    ((let c : MbxCmd := { tag := 8, opcode := opLrnFlush, irq := true, pipe := 3, all := false, timeoutMs := 5, resultAddr := 0, domain := 0, fetchedAt := 0, started := false, done := 0, answered := false, change := none };
  let x : MbxCmd := { c with tag := 9, timeoutMs := 0 }; let s := { tOn.wr Fld.KPR_CTRL_EN 1 with kpr := { tOn.kpr with inFlight := [c] }, now := 5 * msClk }; let t := { s with kpr := { s.kpr with inFlight := [x, c] } };
  s.mbx 8 = some c ∧ s.replied 8 = false ∧ s.now ≤ c.fetchedAt + c.timeoutMs * msClk ∧ s.keepersRun = true ∧
  (s.kpr.inFlight.takeWhile (fun x => x.tag != 8)).any (fun x => !(x.opcode == opBegin && x.answered) && x.keys.any (fun k => c.keys.contains k)) = false ∧
  t.mbx 8 = some c ∧ t.kpr.inFlight = [x, c] ∧ (6, 3) ∈ x.keys ∧ (6, 3) ∈ c.keys ∧ c.fetchedAt + c.timeoutMs * msClk < ({ s with now := 5 * msClk + 1 } : State).now ∧ c.started = false)) ∧
    ((let r : Reply := { tag := 7, opcode := 1, status := 0, done := 0, detail := 0, data := 3, irq := true, final := true }; let s := { tOn.wr Fld.HST_PCIE_STATUS_LINK_UP 1 with kpr := { tOn.kpr with replies := [r] } };
  s.kpr.replies = [r] ∧ s.on Fld.KPR_MBX_CTRL_STOPPED = false ∧ s.on Fld.HST_PCIE_STATUS_LINK_UP = true ∧ s.rplFree ≠ 0 ∧ (s.wr Fld.KPR_MBX_CTRL_EN 1).on Fld.KPR_MBX_CTRL_EN = true)) ∧
    ((tOn.verdict .host Reg.KPR_MBX_CTRL 0 0 0 1 false = .accepted ∧ Fld.KPR_MBX_CTRL_EN.onIn 1 = true)) ∧
    (((tMbx tOn opAbort 0).mbxRuns 7 opAbort = true ∧ (tMbx tOn opAbort 0).mbx 8 = none ∧ ((tMbx tOn opAbort 0).mbx 7).isSome = true ∧ (tMbx tOn opCounterRead 3).mbxRuns 7 opCounterRead = true ∧
  ((tMbx tOn opCounterRead 3).mbx 7).isSome = true ∧ Ctr.LRN_AGED.home.2 ≠ 0 ∧ tOn.replied 7 = false)) :=
  ⟨by decide +kernel,
   by decide +kernel,
   by decide +kernel,
   by decide +kernel,
   by decide +kernel,
   by decide +kernel⟩

/-- The hypotheses of MailboxCommandsComplete can be met, clause by clause. -/
theorem witness_MailboxCommandsComplete_2 :
    ((let n : Note := ⟨1, 5, false, 3⟩; let s := { tOn.wr Fld.HST_PCIE_STATUS_LINK_UP 1 with kpr := { tOn.kpr with notes := [n] } }; let t := s.wr Fld.KPR_MBX_NTF_WR_COUNT 4096; s.kpr.notes = [n] ∧ s.on Fld.HST_PCIE_STATUS_LINK_UP = true ∧
  s.ntfFull = false ∧ n.hold = false ∧ t.ntfFull = true ∧ t.kpr.notes = [n] ∧ n.kind = 1)) :=
  by decide +kernel

/-- The hypotheses of FleitBundlesComplete can be met, clause by clause. -/
theorem witness_FleitBundlesComplete :
    ((let s := ((tOn.wr Fld.FLT_BUNDLE_CFG_FIRST_LANE 88 0 3).wr Fld.FLT_BUNDLE_CFG_LANES 8 0 3).wr Fld.FLT_CTRL_EN 1; s.bundlePort 3 / 24 = 3 ∧ s.on Fld.FLT_BUNDLE_CFG_EN 0 3 = false ∧ s.on Fld.PRT_PIPE_CFG_OVERSUB 3 = false ∧
  s.rd Fld.PRT_PIPE_STATUS_RATE_SUM 3 + s.bundleUnits 3 ≤ 1400 ∧ s.verdict .host Reg.FLT_BUNDLE_CFG 0 3 0 (s.rdReg Reg.FLT_BUNDLE_CFG 0 3 0 0 ||| 1) false = .accepted ∧ s.bundleState 3 = 0 ∧
  Reg.FLT_BUNDLE_CFG.stored 0 1 = 1 ∧ (let t := s.wr Fld.PRT_PIPE_STATUS_RATE_SUM 1401 3; 1400 < t.rd Fld.PRT_PIPE_STATUS_RATE_SUM 3 + t.bundleUnits 3 ∧
  t.verdict .host Reg.FLT_BUNDLE_CFG 0 3 0 (s.rdReg Reg.FLT_BUNDLE_CFG 0 3 0 0 ||| 1) true = .rejected))) ∧
    ((let s := tOn.wr Fld.FLT_BUNDLE_STATUS_STATE 1 0 3; let t := tOn.wr Fld.FLT_BUNDLE_STATUS_STATE 2 0 3; let h : Hello := ⟨false, 0, false, false, 0, 0, 0, 0, 0⟩; s.bundleState 3 = 1 ∧ t.bundleState 3 = 2 ∧ t.peerOk h = false ∧
  (t.bundle 3).heard = false ∧ ((t.setBundle 3 { t.bundle 3 with refused := true, heard := true }).bundle 3).refused = true ∧ (t.bundle 3).enteredAt + sClk ≤ ({ t with now := sClk } : State).now)) ∧
    ((let f : BitVec 2048 := BitVec.ofNat 2048 (5 + 2 ^ 1504); let s := ({ tOn with rind := { tOn.rind with fuses := f } } : State).wr Fld.FLT_BUNDLE_STATUS_STATE 2 0 3; let h : Hello := ⟨true, 5, true, true, 0, 0, 0, 0, 0⟩;
  s.bundleState 3 = 2 ∧ s.peerOk h = true)) ∧
    ((let s := ((tOn.wr Fld.FLT_BUNDLE_CFG_EN 1 0 3).wr Fld.FLT_BUNDLE_CFG_LANES 8 0 3).wr Fld.FLT_CTRL_EN 1; s.bundleState 3 = 0 ∧ s.on Fld.FLT_BUNDLE_CFG_EN 0 3 = true ∧ s.on Fld.FLT_CTRL_EN = true ∧ s.rd Fld.FLT_BUNDLE_CFG_LANES 0 3 ≠ 0 ∧
  (s.bundle 3).enteredAt + msClk ≤ ({ s with now := msClk } : State).now ∧ s.verdict .host Reg.FLT_BUNDLE_CFG 0 3 0 (s.rdReg Reg.FLT_BUNDLE_CFG 0 3 0 0 &&& 0xFFFFFFFE) false = .accepted)) ∧
    ((let s := (tOn.wr Fld.FLT_BUNDLE_STATUS_STATE 3 0 3).setBundle 3 { Bundle.init with lastHb := some 0, closing := some 5 }; s.bundleState 3 = 3 ∧ (s.bundle 3).lastHb = some 0 ∧ (s.bundle 3).closing = some 5 ∧ s.now < 5 ∧
  (s.bundle 3).hbAt + 1750 ≤ ({ s with now := 1750 } : State).now ∧ 0 + s.rd Fld.FLT_SYS_CFG_DETECT_US * 1750 ≤ ({ s with now := 14000 } : State).now)) ∧
    ((let s := ((((tOn.wr Fld.FLT_BUNDLE_CFG_FIRST_LANE 88 0 3).wr Fld.FLT_BUNDLE_CFG_LANES 8 0 3).wr Fld.FLT_BUNDLE_STATUS_STATE 3 0 3).wr Fld.FLT_BUNDLE_STATUS_SPARE_LANE 95 0 3); (s.bundleLanes 3).contains 88 = true ∧
  (s.bundleLanes 3).contains 95 = true ∧ (s.bundleLanes 3).contains 87 = false ∧ (s.bundle 3).failedLanes = [] ∧ 88 ≠ s.rd Fld.FLT_BUNDLE_STATUS_SPARE_LANE 0 3 ∧ 95 = s.rd Fld.FLT_BUNDLE_STATUS_SPARE_LANE 0 3 ∧
  (let t := s.fleitLaneFail 3 88; (t.bundle 3).spareWait = some 88 ∧ (t.bundle 3).failedLanes ≠ [] ∧ Sparse.find (t.bundle 3).failedLanes 89 = none ∧ Sparse.find (t.bundle 3).failedLanes 88 = some 0 ∧ t.bundleState 3 = 3))) :=
  ⟨by decide +kernel,
   by decide +kernel,
   by decide +kernel,
   by decide +kernel,
   by decide +kernel,
   by decide +kernel⟩

/-- The hypotheses of FleitBundlesComplete can be met, clause by clause. -/
theorem witness_FleitBundlesComplete_2 :
    ((let s := (((((tOn.wr Fld.FLT_SYS_CFG_MODE 1).wr Fld.FLT_BUNDLE_CFG_PAIR_LINK 1 0 3).wr Fld.FLT_SYS_CFG_TIME_FROM_LINK 1).wr Fld.FLT_BUNDLE_STATUS_STATE 3 0 3).setBundle 3 { Bundle.init with sampleCount := 1024 });
  s.on Fld.FLT_SYS_CFG_TIME_FROM_LINK = true ∧ s.linkSource = some 3 ∧ 1024 ≤ (s.bundle 3).sampleCount ∧ (tOn.wr Fld.FLT_SYS_CFG_MODE 2).inStack = true)) :=
  by decide +kernel

/-- The hypotheses of FleitFramesComplete can be met, clause by clause. -/
theorem witness_FleitFramesComplete :
    ((let s := tOn.wr Fld.FLT_BUNDLE_STATUS_STATE 2 0 3; let x := Bundle.init.queueControl 0 0; let t := s.setBundle 3 x; let u := s.setBundle 3 { x with hbDue := true }; t.bundleState 3 = 2 ∧ (t.bundle 3).hbDue = false ∧ (t.bundle 3).segments ≠ [] ∧
  (u.bundle 3).hbDue = true ∧ (s.bundle 3).segments = [])) ∧
    ((let s := tOn.wr Fld.FLT_BUNDLE_STATUS_STATE 3 0 3; let x := { Bundle.init with credits := creditsAtUp }.queueControl 3 0; let t := (s.setBundle 3 x).cutPacket 3; let y := t.bundle 3; t.bundleState 3 = 3 ∧ y.hbDue = false ∧ y.ackDue = false ∧ y.nakDue = false ∧
  y.resendFrom = none ∧ y.unacked.length < 16384 ∧ (([Chan.control, .express, .mirror, .data].filterMap (fun ch => (t.waiting 3 ch).map (fun g => (ch, g)))).find? (fun e => Sparse.get y.credits e.1.code 0 != 0)).isSome = true ∧
  ((((s.setBundle 3 { x with nakDue := true }).cutPacket 3).bundle 3).nakDue = true) ∧ ((((s.setBundle 3 { x with resendFrom := some 7 }).cutPacket 3).bundle 3).resendFrom = some 7) ∧
  (let z := (s.setBundle 3 (Bundle.init.queueControl 3 0)).cutPacket 3;
   (([Chan.control, .express, .mirror, .data].filterMap (fun ch => (z.waiting 3 ch).map (fun g => (ch, g)))).find? (fun e => Sparse.get (z.bundle 3).credits e.1.code 0 != 0)).isNone = true))) ∧
    ((let s := tOn.wr Fld.FLT_BUNDLE_STATUS_STATE 3 0 3; let h : BitVec 128 := setFields 0 [(FleitHdr.TYPE, 5), (FleitHdr.FSEQ, 0)]; let g : BitVec 128 := setFields h [(FleitHdr.FSEQ, 1)]; let z : BitVec 128 := setFields h [(FleitHdr.TYPE, 7)];
  s.bundleState 3 = 3 ∧ ([] : List Byte).length = FleitHdr.LEN.get h ∧ s.frameBad 3 h [] = false ∧ s.frameBad 3 z [] = true ∧ FleitHdr.TYPE.get h = 5 ∧ FleitHdr.FSEQ.get h = (s.bundle 3).rxFseq ∧ FleitHdr.FSEQ.get g ≠ (s.bundle 3).rxFseq ∧
  s.frameBad 3 g [] = false ∧ s.staleGen (FleitHdr.PAIR_GEN.get h) = false ∧ ((s.wr Fld.FLT_SYS_CFG_MODE 1).wr Fld.FLT_PAIR_STATUS_PAIR_GEN 9).staleGen 8 = true)) ∧
    ((let k : KeptFrame := ⟨5, emptySegment, none⟩; let s := (tOn.wr Fld.FLT_BUNDLE_STATUS_STATE 3 0 3).setBundle 3 { Bundle.init with unacked := [k], waitSince := [(3, 0)], lastHb := some 1750000 }; let t := { s with now := 1750000 }; (s.bundle 3).unacked = [k] ∧
  s.bundleState 3 = 3 ∧ (s.bundle 3).resends < 3 ∧ (({ s.bundle 3 with resends := 3 } : Bundle).resends = 3) ∧ Sparse.find (t.bundle 3).waitSince Chan.control.code = some 0 ∧ t.now < 1750000 + t.rd Fld.FLT_SYS_CFG_DETECT_US * usClk ∧
  0 + msClk ≤ t.now ∧ Sparse.get (t.bundle 3).stalled Chan.control.code false = false)) :=
  ⟨by decide +kernel,
   by decide +kernel,
   by decide +kernel,
   by decide +kernel⟩

/-- The hypotheses of PairsMirrorTakeOverAndResynchronise can be met, clause by clause. -/
theorem witness_PairsMirrorTakeOverAndResynchronise :
    ((let h : Hello := ⟨true, 5, true, true, 1, 0, 0, 9, 0⟩; let s := (((tOn.wr Fld.FLT_SYS_CFG_MODE 1).wr Fld.FLT_BUNDLE_CFG_PAIR_LINK 1 0 3).wr Fld.FLT_BUNDLE_STATUS_STATE 3 0 3).setBundle 3 { Bundle.init with peer := some h };
  s.twinLink = some 3 ∧ s.rd Fld.FLT_PAIR_STATUS_STATE = 0 ∧ s.rd Fld.FLT_PAIR_STATUS_ROLE = 0 ∧ (s.bundle 3).peer = some h ∧ Heartbeat.ROLE.get (s.bundle 3).peerHb = 0 ∧ s.rd Fld.FLT_SYS_CFG_PAIR_PRIO < h.prio ∧
  h.prio < (s.wr Fld.FLT_SYS_CFG_PAIR_PRIO 10).rd Fld.FLT_SYS_CFG_PAIR_PRIO)) ∧
    ((let u : MirrorUpd := ⟨5, 0, false, 0, 9, 0, 0, 3, false⟩; let s := { (tOn.wr Fld.FLT_PAIR_STATUS_ROLE 1).wr Fld.FLT_PAIR_STATUS_STATE 2 with flt := { tOn.flt with mirrorWait := [u], mirrorQ := [u], mirrorNext := 5 } };
  s.flt.mirrorWait = [u] ∧ s.rd Fld.FLT_PAIR_STATUS_ROLE = 1 ∧ s.rd Fld.FLT_PAIR_STATUS_STATE ≠ 0 ∧ s.flt.mirrorQ.length < 4096 ∧ s.flt.mirrorQ.reverse.find? (fun w => w.kind == 0 && w.index == 9 && after32 w.mseq s.flt.mirrorNext) = some u ∧
  s.flt.mirrorQ.reverse.find? (fun w => w.kind == 0 && w.index == 8 && after32 w.mseq s.flt.mirrorNext) = none ∧ s.Canon)) ∧
    ((let u : MirrorUpd := ⟨0, 0, false, 0, 9, 0, 0, 3, false⟩; let s := { tOn.wr Fld.FLT_PAIR_STATUS_ROLE 2 with flt := { tOn.flt with rxUpdates := [(3, u)], accepted := some (2 ^ 32 - 1), applyQ := [(3, u)] } };
  s.rd Fld.FLT_PAIR_STATUS_ROLE = 2 ∧ s.flt.rxUpdates.find? (fun e => e.2.mseq == (2 ^ 32 - 1 + 1) % 2 ^ 32) = some (3, u) ∧ s.flt.rxUpdates.find? (fun e => e.2.mseq == (5 + 1) % 2 ^ 32) = none ∧ s.flt.rxUpdates.head? = some (3, u) ∧ after32 5 u.mseq = true ∧ u.kind < 3 ∧
  s.flt.applyQ = [(3, u)] ∧ (s.charge 0 (updateCharge u).1 (updateCharge u).2 (mirrorTag u.mseq)).2 = true)) ∧
    ((let s := { (((tOn.wr Fld.FLT_SYS_CFG_MODE 1).wr Fld.FLT_BUNDLE_CFG_PAIR_LINK 1 0 3).wr Fld.FLT_PAIR_STATUS_ROLE 2).wr Fld.FLT_PAIR_STATUS_STATE 2 with flt := { tOn.flt with twinLost := true, accepted := some 7, handOver := true } };
  s.inPair = true ∧ s.rd Fld.FLT_PAIR_STATUS_STATE = 2 ∧ s.twinGone = true ∧ s.rd Fld.FLT_PAIR_STATUS_ROLE = 2 ∧ s.flt.twinLost = true ∧ s.flt.yielding = false ∧ s.flt.handOver = true ∧ (s.wr Fld.FLT_PAIR_STATUS_ROLE 1).twinGone = true)) ∧
    ((let s := { (tOn.wr Fld.FLT_PAIR_STATUS_ROLE 1).wr Fld.FLT_PAIR_STATUS_STATE 1 with flt := { tOn.flt with resync := some 2097151, syncEnd := some 0 } }; let t := s.wr Fld.FLT_PAIR_STATUS_ROLE 2; s.rd Fld.FLT_PAIR_STATUS_STATE = 1 ∧ s.flt.resync = some 2097151 ∧
  (s.resyncItem 2097151).isSome = true ∧ (s.charge 0 actKeeper 0 (mirrorTag 0x100000000)).2 = true ∧ (s.resyncItem 2097152).isNone = true ∧ after32 (s.rd Fld.FLT_MSEQ_ACC_MSEQ) 0 = true ∧ t.flt.rejoinFilled = false ∧ t.rd Fld.FLT_PAIR_STATUS_ROLE = 2 ∧
  t.Canon ∧ s.flt.syncEnd = some 0)) :=
  ⟨by decide +kernel,
   by decide +kernel,
   by decide +kernel,
   by decide +kernel,
   by decide +kernel⟩

/-- The hypotheses of ImagesAndVersionsAreVerified can be met, clause by clause. -/
theorem witness_ImagesAndVersionsAreVerified :
    ((let s := { tOn with rst := { tOn.rst with phaseNext := 1, asserted := false, run := none }, rind := { tOn.rind with fuse2 := 1, blow := [2047] } }; s.rst.phaseNext = 1 ∧ s.rst.asserted = false ∧ s.rst.run = none ∧ s.rind.fuse0 = 0 ∧ s.rind.fuse1 = 0 ∧
  (∀ i, i < 2048 → (0 : BitVec 2048).getLsbD i = (decide (2 ≤ (s.rind.fuse0.getLsbD i).toNat + (s.rind.fuse1.getLsbD i).toNat + (s.rind.fuse2.getLsbD i).toNat))) ∧ s.rind.blow = [2047])) ∧
    ((let w : BitVec 2048 := BitVec.ofNat 2048 (2 ^ 1504 + 2 ^ 1508 + 2 ^ 1509); Fuse.OWNER0_SET.on w = true ∧ Fuse.DEBUG_SET.on w = true ∧ Fuse.KWK_SET.on w = true ∧ ownerUsable w 1 = false ∧ ownerHash w 1 = (0 : BitVec 384).toNat ∧ owned w = true ∧
  (slotOfKey w 0).isSome = true ∧ (slotOfKey w 5).isNone = true)) ∧
    ((let x : Section := ⟨7, 512, 64, 2, false, 0⟩; let m : Manifest := { magic := 0x544F4C4E, format := 1, reserved := 0, imageLen := 4096, svn := 0, commit := true, patch := false, ucodeVersion := 0, sections := [x], signerHash := 0, digest := 0, sigOk := true };
  let a : Attempt := ⟨1, 0, some m, 0, false, [], 0, none⟩; let s := { tOn with img := { tOn.img with attempt := some a } }; let w : BitVec 2048 := BitVec.ofNat 2048 (2 ^ 1504); let t := { s with img := { s.img with attempt := some { a with manifest := none } }, rind := { s.rind with fuses := w } };
  s.img.attempt = some a ∧ a.manifest = some m ∧ m.sections[a.sectionsPassed]? = some x ∧ a.sectionsPassed + 1 = m.sections.length ∧ m.sections.any (fun y => y.kind == 6) = false ∧ ({ x with kind := 5 } : Section).kind = 5 ∧ (s.storeCaks []).isSome = true ∧ badHeader t.stride 1 m = false ∧ t.rind.refusal m = 0 ∧
  t.rind.refusal { m with sigOk := false } ≠ 0 ∧ badHeader t.stride 1 { m with format := 2 } = true ∧ ({ a with sectionsPassed := 1 } : Attempt).sectionsPassed = m.sections.length ∧ [Provision.kwk false 0].any kwkBad = true ∧ [Provision.revoke 0].any kwkBad = false ∧
  (provisionAll m.signerHash w [Provision.revoke 0]).isNone = true ∧ provisionAll m.signerHash w [Provision.virongDebugDis] = some [1510] ∧ x.kind < 5)) ∧
    ((let s := { tOn.wr Fld.RND_SVN_LOADED_SVN 6 with rind := { tOn.rind with runSince := some 0, imageCommit := true, patchCommit := some (3, 0) }, now := 600 * sClk }; s.rind.runSince = some 0 ∧ s.rind.imageCommit = true ∧ s.rind.recheckAt = none ∧ s.rd Fld.IMG_STATUS_SLOT < 2 ∧
  s.rind.imageSvn < s.rd Fld.RND_SVN_LOADED_SVN ∧ 0 + 600 * sClk ≤ s.now ∧ s.rind.patchCommit = some (3, 0) ∧ s.rind.patchSvn < 3 ∧ ({ s with rind := { s.rind with recheckAt := some 5 } } : State).rind.recheckAt = some 5)) ∧
    ((let x : Section := ⟨7, 512, 64, 2, false, 0⟩; let m : Manifest := { magic := 0x544F4C4E, format := 1, reserved := 0, imageLen := 4096, svn := 6, commit := true, patch := false, ucodeVersion := 0, sections := [x], signerHash := 0, digest := 0, sigOk := true };
  let s := { tOn.wr Fld.RND_SVN_LOADED_SVN 6 with rind := { tOn.rind with fuses := BitVec.ofNat 2048 (2 ^ 1504) } }; s.goldenAllows m = true ∧ s.goldenAllows { m with svn := 5 } = false)) :=
  ⟨by
  refine ⟨by decide +kernel, by decide +kernel, by decide +kernel, by decide +kernel, by decide +kernel, ?_, by decide +kernel⟩
  intro i _
  show (0 : BitVec 2048).getLsbD i = decide (2 ≤ ((0 : BitVec 2048).getLsbD i).toNat + ((0 : BitVec 2048).getLsbD i).toNat + ((1 : BitVec 2048).getLsbD i).toNat)
  have h : ((1 : BitVec 2048).getLsbD i).toNat ≤ 1 := Bool.toNat_le _
  simp only [BitVec.ofNat_eq_ofNat, BitVec.getLsbD_zero, Bool.toNat_false]
  symm
  simp only [decide_eq_false_iff_not]
  simp only [BitVec.ofNat_eq_ofNat] at h
  omega,
   by decide +kernel,
   by decide +kernel,
   by decide +kernel,
   by decide +kernel⟩

/-- The hypotheses of KeysDebugAndAttestationComplete can be met, clause by clause. -/
theorem witness_KeysDebugAndAttestationComplete :
    ((let s := tOn.wr Fld.RND_CMD_BUSY 1; s.on Fld.RND_CMD_BUSY = true ∧ tOn.on Fld.RND_CMD_BUSY = false ∧ (∀ k, k < 4 → s.verdict .host Reg.RND_CMD 0 0 0 (BitVec.ofNat 32 (2 ^ k)) true = .rejected) ∧
  (∀ k, k < 4 → tOn.verdict .host Reg.RND_CMD 0 0 0 (BitVec.ofNat 32 (2 ^ k)) false = .accepted))) ∧
    ((let s := { tOn with rind := { tOn.rind with winIn := tWindow tCertNat } }; let c : BitVec 3168 := BitVec.ofNat 3168 (s.winNat 99); Cert.KIND.get c = 2 ∧ Cert.ID_PUB.get c = identityPub.toNat ∧ Cert.TRANSPORT_PUB.get c = transportPub.toNat ∧
  s.verdict .host Reg.RND_CMD 0 0 0 8 false = .accepted ∧ s.on Fld.RND_CMD_BUSY = false ∧ s.rind.ownerCert = none ∧ (slotOfKey (BitVec.ofNat 2048 (2 ^ 1504)) 0).isSome = true)) ∧
    ((let s := { tOn.wr Fld.RND_STATUS_RNG_OK 1 with rind := { tOn.rind with op := some { kind := 0, at_ := 0, report := 0 }, challenge := some { bits := 0, at_ := 0 }, fuses := BitVec.ofNat 2048 (2 ^ 1508), debugFails := 2 } }; s.rind.op = some { kind := 0, at_ := 0, report := 0 } ∧
  s.rind.challenge = some { bits := 0, at_ := 0 } ∧ s.debugKey 0 = some 1 ∧ s.rind.challenge.elim false (fun c => decide (s.now < c.at_ + 60 * sClk)) = true ∧ s.on Fld.RND_STATUS_DEBUG_LOCKED = false ∧ s.rd Fld.RND_DBG_SCOPE_SCOPE < 4 ∧
  s.on Fld.RND_STATUS_RNG_OK = true ∧ tOn.on Fld.RND_STATUS_RNG_OK = false ∧ tOn.rind.op = none ∧ s.rind.debugFails = 2 ∧ 4 ≤ (s.wr Fld.RND_DBG_SCOPE_SCOPE 4).rd Fld.RND_DBG_SCOPE_SCOPE ∧ s.Canon)) ∧
    ((let s := { (tMbx tOn opKeyWrite 0).wrP Fld.MSC_PORT_CFG_KEY_SOURCE 95 1 with rind := { tOn.rind with fuses := BitVec.ofNat 2048 (2 ^ 1509) } }; let k : WrappedCak := ⟨95, 7, 16, 9, true⟩; s.mbxRuns 7 opKeyWrite = true ∧ s.onP Fld.MSC_PORT_CFG_KEY_SOURCE 95 = true ∧
  s.onP Fld.MSC_PORT_CFG_KEY_SOURCE 94 = false ∧ (k.bytes = if s.rdP Fld.MSC_PORT_CFG_CIPHER 95 % 2 = 0 then 16 else 32) ∧ Fuse.KWK_SET.on s.rind.fuses = true ∧ (s.hostCaks 95).length < 2 ∧ s.freeCak = some 0 ∧ Sparse.wf s.rind.keys = true ∧ Sparse.wf s.rind.keyGen = true)) :=
  ⟨by decide +kernel,
   by
  have e := tWindow_vec tCertNat 99 3168 { tOn with rind := { tOn.rind with winIn := tWindow tCertNat } } rfl (by decide) (by decide)
  refine ⟨?_, ?_, ?_, by decide +kernel, by decide +kernel, by decide +kernel, by decide +kernel⟩
  · rw [e]; exact tCert_fields.1
  · rw [e]; exact tCert_fields.2.1
  · rw [e]; exact tCert_fields.2.2,
   by decide +kernel,
   by decide +kernel⟩

/-- The hypotheses of ImageAttemptsAndFlashComplete can be met, clause by clause. -/
theorem witness_ImageAttemptsAndFlashComplete :
    ((let s := { State.reset with rst := { State.reset.rst with phaseNext := 6, run := none, asserted := false } }; let t := ((s.wr Fld.IMG_ATTEMPTS_CNT_A 3).wr Fld.IMG_ATTEMPTS_CNT_B 3).wr Fld.IMG_ATTEMPTS_CNT_G 3; s.inLoadPhase = true ∧ s.img.attempt = none ∧ s.img.noImageSince = none ∧
  s.nextSlot = some 0 ∧ t.nextSlot = none ∧ t.inLoadPhase = true ∧ s.rd Fld.IMG_PREFER_SLOT = 0 ∧ s.rd (cntFld 2) < 3 ∧ s.Canon)) ∧
    ((let a : Attempt := ⟨1, 0, none, 0, false, [], 2, some 1⟩; let s := { tOn with img := { tOn.img with attempt := some a, noImageSince := some 0 }, rst := { tOn.rst with phaseNext := 6 } }; s.img.attempt = some a ∧ a.readFails < 3 ∧ ({ a with readFails := 3 } : Attempt).readFails = 3 ∧ s.rst.phaseNext < 9 ∧
  a.startedAt + 10 * sClk ≤ ({ s with now := 10 * sClk } : State).now ∧ s.img.noImageSince = some 0 ∧ 0 + 60 * sClk ≤ ({ s with now := 60 * sClk } : State).now)) ∧
    ((let s := tOn.wr Fld.IMG_FLASH_ADDR_ADDR 0x2000000; s.flashRefused 2 = false ∧ s.verdict .host Reg.IMG_FLASH_CMD 0 0 0 6 false = .accepted ∧ (s.wr Fld.IMG_FLASH_ADDR_ADDR 255).flashRefused 1 = true ∧
  (s.wr Fld.IMG_FLASH_ADDR_ADDR 255).verdict .host Reg.IMG_FLASH_CMD 0 0 0 5 true = .rejected ∧ s.rd Fld.IMG_FLASH_ADDR_ADDR % 256 = 0 ∧ 255 % 256 ≠ 0)) ∧
    ((let f : FlashOp := ⟨2, 0x2000000, 0, [5]⟩; let s := { tOn with img := { tOn.img with flashOp := some f } }; s.img.flashOp = some f ∧ f.op = 2 ∧ f.addr ≠ 0 ∧ f.addr = s.stride ∧ f.at_ + 3 * sClk ≤ ({ s with now := 3 * sClk } : State).now)) :=
  ⟨by decide +kernel,
   by decide +kernel,
   by decide +kernel,
   by decide +kernel⟩

/-- The hypotheses of HostPortsAndManagementSerialComplete can be met, clause by clause. -/
theorem witness_HostPortsAndManagementSerialComplete :
    ((let s := ((tOn.setQword 3 7 (qReset 7 + 1)).wr Fld.QUE_PORT_STATUS_STATE 0 3 0).wr Fld.QUE_CTRL_EN 1 3; let y : BitVec 256 := setFields 0 [(TxDesc.LEN, 14), (TxDesc.DIRECT, 1), (TxDesc.PORT, 72), (TxDesc.CLASS, 7)]; (s.hostDirect y (List.replicate 14 0)).2 = true)) ∧
    ((let s := { tOn with hst := { tOn.hst with inReset := false } }; s.hst.inReset = false ∧ s.Canon)) ∧
    ((let s := (((tOn.wr Fld.HST_CTRL_DMA_EN 1).wr Fld.HST_PCIE_STATUS_LINK_UP 1).wr Fld.HST_RX_CFG_EN 1 0 15).wr Fld.HST_TX_CFG_EN 1 0 15; let e : RxStaged := ⟨5, 64, 3, 7, 0, 0, 0, (0, [])⟩;
  let t := { s with hst := { s.hst with rxTail := [(15, 1)], txTail := [(15, 1)], staged := [(15, [e])], oldest := [(15, 0)], lastVec := [(15, 0)] } };
  let d : BitVec 256 := BitVec.ofNat 256 (64 + 16384 * 2 ^ 64); let x : BitVec 256 := setFields 0 [(TxDesc.LEN, 14), (TxDesc.PORT, 95)]; let y : BitVec 256 := setFields x [(TxDesc.DIRECT, 1)];
  t.ringReady false 15 = true ∧ badRxDesc d = false ∧ badRxDesc (d + 1) = true ∧ t.on Fld.HST_RX_CFG_SOURCE 0 15 = false ∧ t.staging 15 = [e] ∧ (t.wr Fld.HST_RX_CFG_SOURCE 1 0 15).on Fld.HST_RX_CFG_SOURCE 0 15 = true ∧
  t.ringReady true 15 = true ∧ badTxDesc x = false ∧ badTxDesc (setFields x [(TxDesc.LEN, 13)]) = true ∧ (List.replicate 14 (0 : Byte)).length = TxDesc.LEN.get x ∧ TxDesc.DIRECT.on x = false ∧ TxDesc.DIRECT.on y = true ∧ badTxDesc y = false ∧
  (t.hostDirect y (List.replicate 14 0)).2 = false ∧ t.on (ringEn true) 0 15 = true ∧ (64 + 2 ^ 32 - t.rd (ringHead true) 0 15) % 2 ^ 32 ≤ 2 ^ t.rd (ringSize true) 0 15 ∧
  2 ^ t.rd (ringSize true) 0 15 < (65 + 2 ^ 32 - t.rd (ringHead true) 0 15) % 2 ^ 32 ∧ (Sparse.find t.hst.oldest (ringItem false 15)).isSome = true ∧ Sparse.find t.hst.lastVec (ringItem false 15) = some 0)) ∧
    (((ringEn false).onIn 0x000000C0 = false ∧ tOn.verdict .host Reg.HST_RX_CFG 0 15 0 0x0000000C false = .accepted)) ∧
    ((let s := { tOn with rst := { tOn.rst with phaseNext := 9 } }; s.mgsAnswers = true ∧ s.mgsWord 0x010 = some 0 ∧ (tOn.mgsWord 0x011).isNone = true ∧ (tOn.mgsWord 0x13F).isSome = true ∧ (tOn.mgsWord 0x140).isNone = true)) :=
  ⟨by decide +kernel,
   by decide +kernel,
   by decide +kernel,
   by decide +kernel,
   by decide +kernel⟩

/-- The hypotheses of DeviceResetsTakeHoldAndRelease can be met, clause by clause. -/
theorem witness_DeviceResetsTakeHoldAndRelease :
    ((tOn.pins.pwrgood = true ∧ tOn.pins.resetN = true ∧ 3500 ≤ 3500 ∧ 3 ∈ [5, 3] ∧ (∀ q, q < 3 → q ∉ [5, 3]) ∧ 0 ∉ [5, 3] ∧ 1 ∉ [5, 3] ∧ 6 ∉ [5, 3] ∧ (0 ∈ [4, 0] ∧ ∀ q, q < 0 → q ∉ [4, 0]))) ∧
    ((Fld.RST_CMD_WARM.of 0x7401 = 1 ∧ Fld.RST_CMD_KEY.of 0x7401 = 0x74 ∧ tOn.verdict .host Reg.RST_CMD 0 0 0 0x7401 false = .accepted ∧ Fld.RST_CMD_WARM.of 0x7301 = 1 ∧ Fld.RST_CMD_KEY.of 0x7301 ≠ 0x74 ∧
  tOn.verdict .host Reg.RST_CMD 0 0 0 0x7301 true = .rejected)) ∧
    ((let s := { tOn.wr Fld.RND_STATUS_DEBUG_OPEN 1 with rind := { tOn.rind with gateScope := 1 } }; s.on Fld.RND_STATUS_DEBUG_OPEN = true ∧ s.rind.gateScope % 2 = 1 ∧ tOn.on Fld.RND_STATUS_DEBUG_OPEN = false)) ∧
    ((let r : ResetRun := ⟨5, 0, false, true, 0, false⟩; let s : State := { tOn with now := 3 * usClk, rst := { tOn.rst with run := some r, asserted := false } }; s.rst.run = some r ∧ r.held = false ∧ r.at_ + 3 * usClk ≤ s.now ∧
  ({ s with rst := { s.rst with run := none } } : State).rst.run = none ∧ s.rst.asserted = false)) ∧
    ((let r : ResetRun := ⟨3, 0, false, true, 0, true⟩; let s : State := { (tOn.wr Fld.HBC_CTRL_SR_ACTIVE 1 0).wr Fld.HBC_CTRL_SR_ACTIVE 1 1 with rst := { tOn.rst with run := some r } }; s.rst.run = some r ∧ r.held = true ∧ r.retain = true ∧
  s.on Fld.HBC_CTRL_SR_ACTIVE 0 = true ∧ s.on Fld.HBC_CTRL_SR_ACTIVE 1 = true ∧ tOn.on Fld.HBC_CTRL_SR_ACTIVE 1 = false)) ∧
    ((let s : State := { tOn with rst := { tOn.rst with asserted := true } }; s.rst.asserted = true ∧ s.pins.scanHold = false ∧ s.pins.resetN = true ∧ s.pins.pwrgood = true)) :=
  ⟨by decide +kernel,
   by decide +kernel,
   by decide +kernel,
   by decide +kernel,
   by decide +kernel,
   by decide +kernel⟩

/-- The hypotheses of DeviceResetsTakeHoldAndRelease can be met, clause by clause. -/
theorem witness_DeviceResetsTakeHoldAndRelease_2 :
    ((let a : Nat → State := fun k => { tOn with rst := { tOn.rst with run := none, asserted := false, phaseNext := k, trimLoaded := trimRegions.map (fun r => (r, true)) }, rind := { tOn.rind with fusesRead := true }, clk := { tOn.clk with refA := { tOn.clk.refA with present := true } } }; (a 0).rst.phaseNext = 0 ∧
  (a 1).rind.fusesRead = true ∧ trimRegions.all (a 2).trimDone = true ∧ (a 2).pins.thermTripN = true ∧ (a 3).rst.run = none ∧ (a 3).rst.asserted = false ∧ (a 3).clkUsable 0 = true)) ∧
    ((let s : State := { (tOn.wr Fld.HBC_CTRL_INIT_DONE 1 0).wr Fld.HBC_CTRL_INIT_DONE 1 1 with rst := { tOn.rst with run := none, asserted := false, phaseNext := 5 } }; s.rst.phaseNext = 5 ∧ (∀ k, k < 2 → s.on Fld.HBC_CTRL_INIT_DONE k = true ∧ s.on Fld.HBC_CTRL_SR_ACTIVE k = false))) ∧
    ((let m : Manifest := { magic := 0x544F4C4E, format := 1, reserved := 0, imageLen := 4096, svn := 0, commit := true, patch := false, ucodeVersion := 0, sections := [], signerHash := 0, digest := 0, sigOk := true }; let a : Attempt := ⟨1, 0, some m, 0, true, [], 2, none⟩; let s := { tOn with img := { tOn.img with attempt := some a }, rst := { tOn.rst with run := none, asserted := false, phaseNext := 6 } }; s.img.attempt = some a ∧ a.manifest = some m ∧
  0 = (m.sections.filter (fun x => x.kind == 3)).length ∧ s.rst.phaseNext < 10)) ∧
    ((let s : State := { tOn with rst := { tOn.rst with run := none, asserted := false, phaseNext := 2, trimFailedAt := none, trimLoaded := [], badQuads := [], trimTries := [(25, 2), (3, 2)] } }; s.trimDone 25 = false ∧ s.trimDone 3 = false ∧ Sparse.get s.rst.trimTries 25 0 = 2 ∧
  ({ s with rst := { s.rst with trimFailedAt := some 0 }, now := sClk } : State).rst.trimFailedAt = some 0 ∧ 0 + sClk ≤ sClk)) ∧
    ((let s : State := { tOn with rst := { tOn.rst with run := none, phaseNext := 8, retained := true, adopted := false, stateDigest := none } }; s.rst.phaseNext = 8 ∧ s.rst.retained = true ∧ s.rst.adopted = false ∧ s.rst.run = none ∧ s.rst.stateDigest ≠ some s.sealDigest)) ∧
    (((bitsIn 16 (0x8001 : Word).toNat = [0, 15]) ∧ tOn.on Fld.RST_BLOCK_BUSY_BUSY = false ∧ (∀ b ∈ [0, 15], tOn.domainUp (blockDomain b 1) = true) ∧ tOn.verdict .host Reg.RST_BLOCK_P 0 1 0 0x8001 false = .accepted ∧
  tOn.verdict .host Reg.RST_BLOCK_P 0 1 0 0x8001 true = .rejected ∧ tOn.domainUp 60 = true ∧ tOn.domainUp 59 = true ∧ tOn.domainUp 56 = true ∧ tOn.domainUp 54 = true ∧ tOn.verdict .host Reg.RST_BLOCK_DEV 0 0 0 0x1F false = .accepted ∧
  tOn.verdict .host Reg.RST_BLOCK_DEV 0 0 0 1 true = .rejected ∧ (tOn.wr Fld.RST_BLOCK_BUSY_BUSY 1).on Fld.RST_BLOCK_BUSY_BUSY = true ∧ Fld.RST_CMD_WARM.of 0x7400 = 0 ∧ tOn.verdict .host Reg.RST_CMD 0 0 0 0x7400 false = .accepted)) :=
  ⟨by decide +kernel,
   by decide +kernel,
   by decide +kernel,
   by decide +kernel,
   by decide +kernel,
   by decide +kernel⟩

/-- The hypotheses of DeviceResetsTakeHoldAndRelease can be met, clause by clause. -/
theorem witness_DeviceResetsTakeHoldAndRelease_3 :
    ((let s : State := { tOn with rst := { tOn.rst with blocks := [(9, 0)] } }; (Sparse.find s.rst.blocks 9).isSome = true ∧ 9 / 8 ≠ 15 ∧ 9 ≠ 128 ∧ ({ s with pins := { s.pins with pwrgood := false } } : State).pins.pwrgood = false)) :=
  by decide +kernel

/-- The hypotheses of DomainsClocksAndTemperatureComplete can be met, clause by clause. -/
theorem witness_DomainsClocksAndTemperatureComplete :
    (((1 : Nat) < 2 ∧ tOn.rd Fld.PWR_STATUS_BUSY = 0 ∧ tOn.rd Fld.PWR_TEMP_TRIPPED = 0 ∧ tOn.verdict .host Reg.PWR_REQ 0 1 0 0xFDFFFFFF false = .accepted ∧ (∀ d ∈ List.range 60, tOn.offence (tOn.asked 1 0xFDFFFFFF) d = none) ∧
  tOn.offence (tOn.asked 1 0xFFFEFFFF) 48 = some 1 ∧ (∀ e ∈ List.range 48, tOn.offence (tOn.asked 1 0xFFFEFFFF) e = none) ∧ (tOn.wr Fld.PWR_STATUS_BUSY 1).rd Fld.PWR_STATUS_BUSY = 1 ∧ tOn.verdict .host Reg.PWR_REQ 0 1 0 0 true = .rejected)) ∧
    ((let s := State.reset.wr Fld.PWR_STATE_STATE 0 0 1; let w : Nat → Bool := fun d => d == 58; w 58 = true ∧ s.domainUp 58 = false ∧ 48 ∈ requires 58 ∧ w 48 = false ∧ tOn.domainUp 48 = true ∧ (58 : Nat) < 60 ∧ w 59 = false ∧ tOn.domainUp 59 = true ∧
  (tOn.wr Fld.FLT_BUNDLE_CFG_EN 1 0 3).downForbidden 59 = true)) ∧
    ((let s : State := { tOn with pwr := { tOn.pwr with todo := [(58, false)] } }; s.pwr.todo = (58, false) :: [])) ∧
    ((let s : State := { tOn with pwr := { tOn.pwr with todo := [(0, true)], switchAt := 0 }, now := 70 * usClk, rst := { tOn.rst with trimLoaded := [(0, true)] } }; s.pwr.todo = (0, true) :: [] ∧ s.pwr.switchAt + 20 * usClk ≤ s.now ∧ s.trimDone 0 = true ∧ s.pwr.switchAt + 70 * usClk ≤ s.now ∧
  ({ s with rst := { s.rst with trimLoaded := [] } } : State).trimDone 0 = false)) ∧
    ((let s := State.reset.setClkRef 1 ⟨true, some 5⟩; (50 : Nat) ≤ 50 ∧ (200000 : Nat) < (-200001 : Int).natAbs ∧ (200000 : Int).natAbs ≤ 200000 ∧ ((State.reset.setClkRef 0 ⟨false, none⟩).clkRef false.toNat).present = false ∧ (s.clkRef true.toNat).present = true ∧ (s.clkRef true.toNat).goodSince = some 5 ∧ s.rd Fld.CLK_REF_CFG_QUAL_MS = 100 ∧ s.now < 5 + 100 * msClk ∧ 5 + 100 * msClk ≤ ({ s with now := 5 + 100 * msClk } : State).now)) ∧
    ((let s := (tOn.wr (qualFld 1) 1).setClkRef 0 ⟨false, some 0⟩; 0 = s.rd Fld.CLK_STATUS_SELECTED ∧ (0 : Nat) < 2 ∧ 3 ≤ s.rd Fld.RST_STATUS_PHASE ∧ s.rd Fld.CLK_STATUS_ONDIE = 0 ∧ s.rd (qualFld (1 - 0)) = 1 ∧ (s.clkRef 0).present = false ∧ (s.wr (qualFld 1) 0).rd (qualFld 1) = 0 ∧
  ((s.wr (qualFld 1) 0).clkRef 0).present = false ∧ (s.setClkRef 0 ⟨true, none⟩).rd Fld.CLK_CTRL_REVERTIVE = 0)) :=
  ⟨by decide +kernel,
   by decide +kernel,
   by decide +kernel,
   by decide +kernel,
   by decide +kernel,
   by decide +kernel⟩

/-- The hypotheses of DomainsClocksAndTemperatureComplete can be met, clause by clause. -/
theorem witness_DomainsClocksAndTemperatureComplete_2 :
    ((let s := tOn.wr (qualFld 0) 1; let t : State := { s with clk := { s.clk with relocks := [(2, 1)] } }; s.rd (qualFld (s.rd Fld.CLK_STATUS_SELECTED)) = 1 ∧ 0 = Sparse.get s.clk.relocks 2 0 ∧ 1 = Sparse.get t.clk.relocks 2 0 ∧ t.rd (qualFld (t.rd Fld.CLK_STATUS_SELECTED)) = 1 ∧ (s.wr (qualFld 0) 0).rd (qualFld (s.rd Fld.CLK_STATUS_SELECTED)) = 0)) ∧
    ((let l : List Int := [100]; let s := tOn; let t := l.zipIdx.foldl (fun (x : State) e => x.sampleOne e.2 e.1) { s with pwr := { s.pwr with sampledAt := some s.now } }; let u := (t.wr Fld.PWR_TEMP_TEMP ((100 : Int) % 256).toNat).wr Fld.PWR_TEMP_SENSOR 0; s.pwr.sampledAt = none ∧
  t.hottest = some (100, 0) ∧ u.threshold 100 (u.rd Fld.PWR_THERM_CFG_WARN_C) Fld.PWR_TEMP_WARN = (u.wr Fld.PWR_TEMP_WARN 1, true) ∧ (u.threshold 50 (u.rd Fld.PWR_THERM_CFG_HOT_C) Fld.PWR_TEMP_HOT).2 = false ∧ (u.threshold 120 (u.rd Fld.PWR_THERM_CFG_HOT_C) Fld.PWR_TEMP_HOT).2 = true ∧
  t.pwr.sampledAt = some 0 ∧ t.now < 0 + msClk ∧ (({ s with pwr := { s.pwr with sampledAt := some 0 } } : State).hottest = none))) ∧
    ((let s := tOn.setSensor 15 ⟨40, true, true, some 0⟩; (s.sensor 15).excluded = true ∧ (s.sensor 15).validSince = some 0 ∧ 0 + sClk ≤ ({ s with now := sClk } : State).now ∧ tOn.Canon ∧ 15 < 16 ∧ (tOn.wr Fld.PWR_TEMP_WARN 1).rd Fld.PWR_TEMP_WARN = 1 ∧ tOn.rd Fld.PWR_TEMP_WARN = 0)) ∧
    ((let s := tOn.setSensor 3 ⟨125, true, false, none⟩; s.rd Fld.PWR_TEMP_TRIPPED = 0 ∧ s.hottest = some (125, 3) ∧ (125 : Int) ≤ 125 ∧ tOn.stackTemp 0 < 115 ∧ tOn.stackTemp 32 < 115 ∧ tOn.hottest = none ∧ ((List.range 16).filter (fun i => (tOn.sensor i).excluded)).length ≤ 8)) :=
  ⟨by decide +kernel,
   by decide +kernel,
   by decide +kernel,
   by decide +kernel⟩

/-- The hypotheses of DiagnosticsComplete can be met, clause by clause. -/
theorem witness_DiagnosticsComplete :
    ((let s := tOn.wr Fld.DGN_CFG_PERMIT 15; s.onP Fld.PRT_MODE_EN 95 = false ∧ s.rdL Fld.LNE_CTRL_MODE 95 ≠ 2 ∧ (∀ l ∈ s.portLanes 95, s.rdL Fld.LNE_CTRL_MODE l ≠ 2) ∧ Fld.DGN_PORT_LOOP_MODE.of 3 ≠ 0 ∧ s.permitted 0 = true ∧ s.verdict .host Reg.DGN_PORT_LOOP 0 95 0 3 false = .accepted ∧
  s.rd Fld.DGN_PORT_LOOP_MODE 0 95 = 0 ∧ tOn.permitted 0 = false ∧ tOn.verdict .host Reg.DGN_PORT_LOOP 0 95 0 3 true = .rejected)) ∧
    ((let s := tOn.wr Fld.DGN_CFG_PERMIT 15; 40 = Fld.DGN_BIST_CTRL_DOMAIN.of 0x68 ∧ Fld.DGN_BIST_CTRL_GO.of 0x68 = 1 ∧ s.permitted 1 = true ∧ s.domainUp 40 = true ∧ s.domainEnabled 40 = false ∧ s.rd Fld.DGN_STATUS_BIST_BUSY = 0 ∧ s.verdict .host Reg.DGN_BIST_CTRL 0 0 0 0x68 false = .accepted ∧
  tOn.permitted 1 = false ∧ tOn.verdict .host Reg.DGN_BIST_CTRL 0 0 0 0x68 true = .rejected)) ∧
    ((let s : State := { tOn with dgn := { tOn.dgn with bist := some (40, 0) } }; s.dgn.bist = some (40, 0) ∧ ((48 : Nat) ≤ 40 ∨ (28 ≤ 40 ∧ 40 < 44)) ∧ s.Canon ∧ 40 < 64 ∧ (0 : Nat) < 65536)) ∧
    ((let s := tOn.wr Fld.DGN_CFG_PERMIT 15; 11 = Fld.DGN_INJ_CFG_TARGET.of 0x203B ∧ Fld.DGN_INJ_CFG_ARM.of 0x203B = 1 ∧ Fld.DGN_INJ_CFG_INSTANCE.of 0x203B < injInstances 11 ∧ s.verdict .host Reg.DGN_INJ_CFG 0 0 0 0x203B false = .accepted ∧ s.rd Fld.DGN_INJ_CFG_ARM = 0 ∧ s.permitted 2 = true ∧
  12 = Fld.DGN_INJ_CFG_TARGET.of 0x200C ∧ Fld.DGN_INJ_CFG_ARM.of 0x200C = 1 ∧ injInstances 12 ≤ Fld.DGN_INJ_CFG_INSTANCE.of 0x200C ∧ s.verdict .host Reg.DGN_INJ_CFG 0 0 0 0x200C true = .rejected ∧ (s.wr Fld.DGN_INJ_CFG_ARM 1).rd Fld.DGN_INJ_CFG_ARM = 1)) ∧
    ((let s : State := { tOn.wr Fld.DGN_INJ_CFG_ARM 1 with dgn := { tOn.dgn with armedAt := some 0, lastInject := none }, now := sClk }; s.dgn.armedAt = some 0 ∧ s.rd Fld.DGN_INJ_CFG_ARM = 1 ∧ s.dgn.lastInject = none ∧ 0 + sClk ≤ s.now)) ∧
    ((let s := (tOn.wr Fld.DGN_CFG_PERMIT 15).wr Fld.DGN_PERT_CFG_POINT 1 0 1; let t := s.wr Fld.DGN_PERT_CTRL_EN 1 0 1; (1 : Nat) < 2 ∧ Fld.DGN_PERT_CTRL_EN.of 0xC9 = 1 ∧ s.rd Fld.DGN_PERT_CTRL_EN 0 1 = 0 ∧ s.pertBad 1 = false ∧ s.verdict .host Reg.DGN_PERT_CTRL 0 1 0 0xC9 false = .accepted ∧
  tOn.pertBad 1 = true ∧ tOn.verdict .host Reg.DGN_PERT_CTRL 0 1 0 0xC9 true = .rejected ∧ Fld.DGN_PERT_CTRL_EN.of 0xC8 = 0 ∧ t.rd Fld.DGN_PERT_CTRL_EN 0 1 = 1 ∧ t.verdict .host Reg.DGN_PERT_CTRL 0 1 0 0xC8 false = .accepted ∧ pertLimits 1 = (1, none) ∧ s.permitted 3 = true ∧
  s.rd Fld.DGN_PERT_CTRL_EN 0 0 = 0 ∧ s.rd Fld.DGN_PERT_CFG_TARGET 0 1 ≤ 1 ∧ s.rd Fld.DGN_PERT_TIME_DURATION_MS 0 1 ≠ 0 ∧ s.rd Fld.DGN_PERT_CFG_POINT 0 1 = 1)) :=
  ⟨by decide +kernel,
   by decide +kernel,
   by decide +kernel,
   by decide +kernel,
   by decide +kernel,
   by decide +kernel⟩

/-- The hypotheses of DiagnosticsComplete can be met, clause by clause. -/
theorem witness_DiagnosticsComplete_2 :
    ((let s : State := { tOn.wr Fld.DGN_PERT_TIME_PERIOD_US 2 with dgn := { tOn.dgn with pertAt := [(0, 0)] }, now := 1000 * msClk }; let u : State := { (tOn.wr Fld.DGN_PERT_TIME_PERIOD_US 2).wr Fld.DGN_PERT_CTRL_DUTY_PCT 50 with dgn := { tOn.dgn with pertAt := [(0, 0)] }, now := usClk };
  Sparse.find s.dgn.pertAt 0 = some 0 ∧ s.rd Fld.DGN_PERT_TIME_DURATION_MS 0 0 = 1000 ∧ 0 + 1000 * msClk ≤ s.now ∧ 2 * usClk = u.rd Fld.DGN_PERT_TIME_PERIOD_US 0 0 * usClk ∧ 2 * usClk * u.rd Fld.DGN_PERT_CTRL_DUTY_PCT 0 0 ≤ (u.now - 0) % (2 * usClk) * 100 ∧
  (s.now - 0) % (2 * usClk) * 100 < 2 * usClk * s.rd Fld.DGN_PERT_CTRL_DUTY_PCT 0 0)) ∧
    ((let s : State := { tOn with dgn := { tOn.dgn with bist := some (27, 0) } }; s.dgn.bist = some (27, 0) ∧ (27 : Nat) < 28 ∧ (1 : Nat) ≠ 0 ∧ ({ tOn with dgn := { tOn.dgn with bist := some (47, 0) } } : State).dgn.bist = some (47, 0) ∧ 44 ≤ 47 ∧ 47 < 48)) ∧
    ((let s : State := ((tOn.wr Fld.DGN_INJ_CFG_ARM 1).wr Fld.DGN_INJ_CFG_TARGET 11).wr Fld.DGN_INJ_CFG_INSTANCE 3; s.rd Fld.DGN_INJ_CFG_ARM = 1 ∧ s.rd Fld.DGN_INJ_CFG_TARGET = 11 ∧ s.rd Fld.DGN_INJ_CFG_INSTANCE = 3 ∧ s.dgn.lastInject = none ∧ s.rd Fld.DGN_INJ_CFG_CONT = 0 ∧
  (s.wr Fld.DGN_INJ_CFG_CONT 1).rd Fld.DGN_INJ_CFG_CONT = 1 ∧ s.rd Fld.DGN_INJ_CFG_TARGET ≠ 10 ∧ Fld.DGN_INJ_CFG_ARM.of 0x3B = 0 ∧ s.verdict .host Reg.DGN_INJ_CFG 0 0 0 0x3B false = .accepted)) ∧
    ((let s := ((tOn.wr Fld.DGN_CFG_PERMIT 15).wr Fld.DGN_PERT_CFG_POINT 5 0 1).wr Fld.DGN_PERT_CFG_AMOUNT 95232 0 1; s.rd Fld.DGN_PERT_CFG_POINT 0 1 = 5 ∧ pertLimits 5 = (3, some (1, 95232)) ∧ s.permitted 3 = true ∧ s.rd Fld.DGN_PERT_CTRL_EN 0 0 = 0 ∧ s.rd Fld.DGN_PERT_CFG_TARGET 0 1 ≤ 3 ∧
  1 ≤ s.rd Fld.DGN_PERT_CFG_AMOUNT 0 1 ∧ s.rd Fld.DGN_PERT_CFG_AMOUNT 0 1 ≤ 95232 ∧ s.rd Fld.DGN_PERT_TIME_DURATION_MS 0 1 ≠ 0 ∧ 95232 < (s.wr Fld.DGN_PERT_CFG_AMOUNT 95233 0 1).rd Fld.DGN_PERT_CFG_AMOUNT 0 1)) :=
  ⟨by decide +kernel,
   by decide +kernel,
   by decide +kernel,
   by decide +kernel⟩


/-! ### Worked examples of the manual -/

/-- The warm reset of spec 25's worked example: RST_LAST 0x009F_0005, RST_COUNT 0x2A, RST_SRC_COUNT[1] 0x0007_0000 (R734). -/
def tResetExample : State :=
  ((((tOn.wr Fld.RST_COUNT_COUNT 41).wr Fld.RST_SRC_COUNT_COUNT_HI 6 0 1).wr Fld.LHT_STATUS_TIME_VALID 1).wr Fld.LHT_KEEP_EN 1).recordReset 5 0 true true
theorem test_reset_example_last : tResetExample.rdReg Reg.RST_LAST 0 0 0 = 0x009F0005 := by decide +kernel
theorem test_reset_example_counts : tResetExample.rdReg Reg.RST_COUNT 0 0 0 = 0x2A ∧ tResetExample.rdReg Reg.RST_SRC_COUNT 0 1 0 = 0x00070000 := by decide +kernel
/-- An empty queue lets one core clock pass. -/
theorem test_idle_clock : step State.reset = .next State.reset.tick ∧ State.reset.tick.now = 1 := ⟨rfl, rfl⟩

/-! ### The package and the power figures: the examples of spec 30 and 26 -/

/-- The example under R796: LN50 in band P2, LN0 in band P0. -/
theorem test_lane_balls :
    laneBall 50 true true = ⟨62, 44⟩ ∧ laneBall 50 true false = ⟨62, 43⟩ ∧ laneBall 50 false true = ⟨60, 44⟩ ∧ laneBall 50 false false = ⟨60, 43⟩ ∧
    laneBall 0 true true = ⟨2, 14⟩ ∧ laneBall 0 true false = ⟨2, 15⟩ ∧ laneBall 0 false true = ⟨4, 14⟩ ∧ laneBall 0 false false = ⟨4, 15⟩ := by decide

/-- The example under Table 26.6: a cell site without its lanes draws 90.835 W, and its lanes 5.6 W. -/
theorem test_cell_site_power :
    domainsPower (fun d => [24, 28, 32, 36, 40, 44, 45, 46, 47, 48, 49, 50, 51, 52, 53, 54, 56].contains d)
      (fun d => if d = 48 ∨ d = 49 then 25 else if d = 54 ∨ d = 56 then 200 else if (44 ≤ d ∧ d ≤ 53) ∨ d = 64 then 50 else 100) = 90835000000 ∧
    16 * laneFull 1 = 5600 := by decide

/-! ### Well-formedness: for each check, terms it refuses -/

theorem test_wellFormed_refuses_1 :
    (∀ (x0 : Agent) (x2 : Word), (Instr.registerWrite x0 268435456 x2 0).wellFormed = false) ∧
    (∀ (x0 : Agent) (x2 : Word), (Instr.registerWrite x0 3 x2 0).wellFormed = false) ∧
    (∀ (x0 : Agent) (x2 : Word), (Instr.registerWrite x0 0 x2 16).wellFormed = false) ∧
    (∀ (x2 : MgsTail), (Instr.mgsTransaction 16 0 x2).wellFormed = false) ∧
    (∀ (x2 : MgsTail), (Instr.mgsTransaction 0 4096 x2).wellFormed = false) ∧
    (∀ (x1 : StartSeq) (head : List Byte) (x3 : Option SecTag), (Instr.frameStart 96 x1 head x3).wellFormed = false) ∧
    (∀ (x1 : StartSeq) (head : List Byte) (x3 : Option SecTag), head.length = 21 → (Instr.frameStart 0 x1 head x3).wellFormed = false) ∧
    (∀ (x1 : List Byte), (Instr.arbTruncate 96 x1).wellFormed = false) ∧
    (∀ (x1 : Bool) (x2 : List Byte) (x3 : Bool) (x4 : Bool) (x5 : FrameFinds), (Instr.frameEnd 96 x1 x2 x3 x4 x5).wellFormed = false) ∧
    ((Instr.headHandoff 4).wellFormed = false) ∧
    (∀ (x0 : Nat), (Instr.curdLookup x0 3).wellFormed = false) ∧
    (∀ (x2 : Bool) (x3 : Option (BitVec 1024)), (Instr.recordFetchReturn 16 0 x2 x3).wellFormed = false) ∧
    (∀ (x2 : Bool) (x3 : Option (BitVec 1024)), (Instr.recordFetchReturn 0 (2 ^ 304) x2 x3).wellFormed = false) ∧
    (∀ (x3 : Bool), (Instr.chainRelease 4 0 0 x3).wellFormed = false) ∧
    (∀ (x3 : Bool), (Instr.chainRelease 0 16 0 x3).wellFormed = false) ∧
    (∀ (x3 : Bool), (Instr.chainRelease 0 0 (2 ^ 304) x3).wellFormed = false) ∧
    ((Instr.setStallRetry 4 0).wellFormed = false) ∧
    ((Instr.setStallRetry 0 6144).wellFormed = false) ∧
    ((Instr.flowSetup 4).wellFormed = false) ∧
    ((Instr.groupReseed 2097152).wellFormed = false) ∧
    (∀ (x1 : Bool), (Instr.wheyWriteback 4 x1).wellFormed = false) ∧
    ((Instr.wbAgeExpiry 16 0).wellFormed = false) ∧
    ((Instr.wbAgeExpiry 0 (2 ^ 304)).wellFormed = false) ∧
    (∀ (x0 : Agent) (x2 : Word), (Instr.sliceFlush x0 4 x2).wellFormed = false) ∧
    ((Instr.sliceFlushDone 4).wellFormed = false) ∧
    ((Instr.removalCommit 16 0).wellFormed = false) ∧
    ((Instr.removalCommit 0 (2 ^ 304)).wellFormed = false) ∧
    ((Instr.bindingComplete 16 0).wellFormed = false) ∧
    ((Instr.bindingComplete 0 (2 ^ 304)).wellFormed = false) ∧
    ((Instr.ipfixExportSend 4).wellFormed = false) ∧
    ((Instr.ipfixTemplateSend 4).wellFormed = false) ∧
    ((Instr.captureRecordWrite 2).wellFormed = false) ∧
    ((Instr.creditWait 4 0).wellFormed = false) ∧
    ((Instr.creditWait 0 4).wellFormed = false) ∧
    (∀ (x3 : Bool) (x4 : Bool), (Instr.cellArrive 2 0 0 x3 x4 0).wellFormed = false) ∧
    (∀ (x3 : Bool) (x4 : Bool), (Instr.cellArrive 0 4 0 x3 x4 0).wellFormed = false) ∧
    (∀ (x3 : Bool) (x4 : Bool), (Instr.cellArrive 0 0 4 x3 x4 0).wellFormed = false) ∧
    (∀ (x3 : Bool) (x4 : Bool), (Instr.cellArrive 0 0 0 x3 x4 98304).wellFormed = false) ∧
    ((Instr.tombstonePost 4 0).wellFormed = false) ∧
    ((Instr.tombstonePost 0 98304).wellFormed = false) ∧
    ((Instr.backstopExpiry 4 0 0).wellFormed = false) ∧
    ((Instr.backstopExpiry 0 1048592 0).wellFormed = false) ∧
    ((Instr.backstopExpiry 0 0 98304).wellFormed = false) ∧
    ((Instr.incompletePacketExpiry 4 0 0).wellFormed = false) ∧
    ((Instr.incompletePacketExpiry 0 1048592 0).wellFormed = false) ∧
    ((Instr.incompletePacketExpiry 0 0 65536).wellFormed = false) ∧
    ((Instr.replicate 4 0).wellFormed = false) ∧
    ((Instr.replicate 0 98304).wellFormed = false) ∧
    ((Instr.alloc 4 0 0).wellFormed = false) ∧
    ((Instr.alloc 0 8 0).wellFormed = false) ∧
    ((Instr.alloc 0 0 98304).wellFormed = false) ∧
    ((Instr.share 4 0 1 0 []).wellFormed = false) ∧
    ((Instr.share 0 8 1 0 []).wellFormed = false) ∧
    ((Instr.share 0 0 0 0 []).wellFormed = false) ∧
    ((Instr.share 0 0 4097 0 []).wellFormed = false) ∧
    ((Instr.share 0 0 1 256 []).wellFormed = false) ∧
    ((Instr.share 0 0 1 0 [95232]).wellFormed = false) ∧
    ((Instr.handoff 4 0 0 []).wellFormed = false) ∧
    ((Instr.handoff 0 8 0 []).wellFormed = false) ∧
    ((Instr.handoff 0 0 8 []).wellFormed = false) := by
  and_intros <;> intros <;> first | rfl | simp_all [Instr.wellFormed]

theorem test_wellFormed_refuses_2 :
    ((Instr.handoff 0 0 0 [95232]).wellFormed = false) ∧
    ((Instr.release 4 0 []).wellFormed = false) ∧
    ((Instr.release 0 8 []).wellFormed = false) ∧
    ((Instr.release 0 0 [95232]).wellFormed = false) ∧
    ((Instr.free 4 0 []).wellFormed = false) ∧
    ((Instr.free 0 8 []).wellFormed = false) ∧
    ((Instr.free 0 0 [95232]).wellFormed = false) ∧
    ((Instr.releaseFree 4 0 []).wellFormed = false) ∧
    ((Instr.releaseFree 0 8 []).wellFormed = false) ∧
    ((Instr.releaseFree 0 0 [95232]).wellFormed = false) ∧
    ((Instr.stageAgeExpiry 4 0 0).wellFormed = false) ∧
    ((Instr.stageAgeExpiry 0 65536 0).wellFormed = false) ∧
    ((Instr.stageAgeExpiry 0 0 2097152).wellFormed = false) ∧
    ((Instr.chunkWriteIssue 4 0 0).wellFormed = false) ∧
    ((Instr.chunkWriteIssue 0 65536 0).wellFormed = false) ∧
    ((Instr.chunkWriteIssue 0 0 2097152).wellFormed = false) ∧
    ((Instr.chunkWriteComplete 4 0).wellFormed = false) ∧
    ((Instr.chunkWriteComplete 0 65536).wellFormed = false) ∧
    ((Instr.chunkFetchIssue 4 0 0).wellFormed = false) ∧
    ((Instr.chunkFetchIssue 0 65536 0).wellFormed = false) ∧
    ((Instr.chunkFetchIssue 0 0 98304).wellFormed = false) ∧
    (∀ (x2 : Bool), (Instr.chunkFetchReturn 4 0 x2).wellFormed = false) ∧
    (∀ (x2 : Bool), (Instr.chunkFetchReturn 0 65536 x2).wellFormed = false) ∧
    ((Instr.bufferReclaimSweep 4 0).wellFormed = false) ∧
    ((Instr.bufferReclaimSweep 0 8).wellFormed = false) ∧
    ((Instr.scheduleDecision 4 0).wellFormed = false) ∧
    ((Instr.scheduleDecision 0 26).wellFormed = false) ∧
    ((Instr.shaperRefill 4).wellFormed = false) ∧
    ((Instr.starveExpiry 4 0).wellFormed = false) ∧
    ((Instr.starveExpiry 0 65536).wellFormed = false) ∧
    ((Instr.frameTransmit 96).wellFormed = false) ∧
    ((Instr.txComplete 96).wellFormed = false) ∧
    ((Instr.pauseExpiry 96).wellFormed = false) ∧
    ((Instr.pfcExpiry 96 0).wellFormed = false) ∧
    ((Instr.pfcExpiry 0 8).wellFormed = false) ∧
    ((Instr.pfcStorm 96 0).wellFormed = false) ∧
    ((Instr.pfcStorm 0 16).wellFormed = false) ∧
    ((Instr.pfcRecoverExpiry 96 0).wellFormed = false) ∧
    ((Instr.pfcRecoverExpiry 0 8).wellFormed = false) ∧
    ((Instr.xoff 96 0).wellFormed = false) ∧
    ((Instr.xoff 0 9).wellFormed = false) ∧
    ((Instr.xon 96 0).wellFormed = false) ∧
    ((Instr.xon 0 9).wellFormed = false) ∧
    ((Instr.pauseRefresh 96 0).wellFormed = false) ∧
    ((Instr.pauseRefresh 0 9).wellFormed = false) ∧
    ((Instr.pauseFrameSend 96).wellFormed = false) ∧
    (∀ (x0 : Agent), (Instr.prtModeWrite x0 96 0).wellFormed = false) ∧
    (∀ (x0 : Agent), (Instr.prtModeWrite x0 0 1024).wellFormed = false) ∧
    (∀ (x0 : Agent), (Instr.portReset x0 96 1024).wellFormed = false) ∧
    (∀ (x0 : Agent), (Instr.portReset x0 0 0).wellFormed = false) ∧
    (∀ (x0 : Agent), (Instr.laneReset x0 96 128).wellFormed = false) ∧
    (∀ (x0 : Agent), (Instr.laneReset x0 0 0).wellFormed = false) ∧
    (∀ (x0 : Agent), (Instr.octetReset x0 12 2).wellFormed = false) ∧
    (∀ (x0 : Agent), (Instr.octetReset x0 0 0).wellFormed = false) ∧
    ((Instr.octetPllRelock 12).wellFormed = false) ∧
    ((Instr.octetPllUnlock 12).wellFormed = false) ∧
    ((Instr.portDisableDrainExpiry 96).wellFormed = false) ∧
    (∀ (x1 : Bool) (x2 : AnPage), (Instr.anPageReceive 96 x1 x2).wellFormed = false) ∧
    ((Instr.anTrainingComplete 96).wellFormed = false) ∧
    ((Instr.anAttemptFail 96).wellFormed = false) := by
  and_intros <;> intros <;> first | rfl | simp_all [Instr.wellFormed]

theorem test_wellFormed_refuses_3 :
    ((Instr.ltTimeout 96).wellFormed = false) ∧
    ((Instr.pcsLinkUp 96).wellFormed = false) ∧
    ((Instr.pcsLinkLost 96).wellFormed = false) ∧
    ((Instr.upDebounceExpiry 96).wellFormed = false) ∧
    ((Instr.linkFault 96 0).wellFormed = false) ∧
    ((Instr.linkFault 0 4).wellFormed = false) ∧
    ((Instr.downDelayExpiry 96).wellFormed = false) ∧
    (∀ (x1 : Bool), (Instr.laneLos 96 x1).wellFormed = false) ∧
    ((Instr.ebbHelloTimer 96).wellFormed = false) ∧
    ((Instr.ebbFrameReceive 96).wellFormed = false) ∧
    ((Instr.ebbShed 96).wellFormed = false) ∧
    ((Instr.ebbRestoreTrigger 96).wellFormed = false) ∧
    ((Instr.ebbRequestTimeout 96).wellFormed = false) ∧
    ((Instr.ebbWakeTimeout 96).wellFormed = false) ∧
    ((Instr.ebbWidthSwitch 96).wellFormed = false) ∧
    (∀ (lpi : LpiAt), lpi.port = 96 → (Instr.lpiEntry lpi).wellFormed = false) ∧
    ((Instr.lpiExit 96).wellFormed = false) ∧
    (∀ (x0 : Agent), (Instr.prbsErrClear x0 96 64).wellFormed = false) ∧
    (∀ (x0 : Agent), (Instr.prbsErrClear x0 0 0).wellFormed = false) ∧
    (∀ (x1 : Bool) (x2 : Nat), (Instr.prbsError 96 x1 x2).wellFormed = false) ∧
    (∀ (x1 : Mkpdu), (Instr.mkpduReceive 96 x1).wellFormed = false) ∧
    ((Instr.mkaHelloSend 96).wellFormed = false) ∧
    (∀ (x1 : BitVec 64), (Instr.mkaPeerTimeout 96 x1).wellFormed = false) ∧
    ((Instr.txSaSwitch 96).wellFormed = false) ∧
    ((Instr.saLingerExpiry 96).wellFormed = false) ∧
    (∀ (x1 : Bool), (Instr.saStateEcc 96 x1 0 0).wellFormed = false) ∧
    (∀ (x1 : Bool), (Instr.saStateEcc 0 x1 8 0).wellFormed = false) ∧
    (∀ (x1 : Bool), (Instr.saStateEcc 0 x1 0 4).wellFormed = false) ∧
    (∀ (x0 : Agent), (Instr.prsDisable x0 4 0).wellFormed = false) ∧
    (∀ (x0 : Agent), (Instr.prsDisable x0 0 1).wellFormed = false) ∧
    (∀ (x1 : Option Nat), (Instr.prsParityCheck 4 x1).wellFormed = false) ∧
    ((Instr.stageQuiet 31 0).wellFormed = false) ∧
    ((Instr.stageQuiet 0 4).wellFormed = false) ∧
    ((Instr.drainLimitExpiry 31 0).wellFormed = false) ∧
    ((Instr.drainLimitExpiry 0 4).wellFormed = false) ∧
    ((Instr.beginSet 4294967297 0).wellFormed = false) ∧
    ((Instr.beginSet 0 4).wellFormed = false) ∧
    ((Instr.beginCopyDone 4).wellFormed = false) ∧
    (∀ (x3 : Nat) (x4 : BitVec 640) (x5 : BitVec 640) (x6 : BitVec 64), (Instr.ruleWrite 4294967297 0 0 x3 x4 x5 x6).wellFormed = false) ∧
    (∀ (x3 : Nat) (x4 : BitVec 640) (x5 : BitVec 640) (x6 : BitVec 64), (Instr.ruleWrite 0 4 0 x3 x4 x5 x6).wellFormed = false) ∧
    (∀ (x3 : Nat) (x4 : BitVec 640) (x5 : BitVec 640) (x6 : BitVec 64), (Instr.ruleWrite 0 0 32 x3 x4 x5 x6).wellFormed = false) ∧
    (∀ (x3 : Nat), (Instr.ruleDelete 4294967297 0 0 x3).wellFormed = false) ∧
    (∀ (x3 : Nat), (Instr.ruleDelete 0 4 0 x3).wellFormed = false) ∧
    (∀ (x3 : Nat), (Instr.ruleDelete 0 0 32 x3).wellFormed = false) ∧
    ((Instr.commit 4294967297 0).wellFormed = false) ∧
    ((Instr.commit 0 4).wellFormed = false) ∧
    ((Instr.epochFlip 4).wellFormed = false) ∧
    ((Instr.slotDrained 4).wellFormed = false) ∧
    ((Instr.epochDrainLimit 4).wellFormed = false) ∧
    (∀ (x1 : Nat), (Instr.rbkScrub 4 x1 none).wellFormed = false) ∧
    (∀ (x1 : Nat), (Instr.rbkScrub 0 x1 (some 65536)).wellFormed = false) ∧
    (∀ (x2 : Option Nat), (Instr.rbkParityCheck 4 0 x2).wellFormed = false) ∧
    (∀ (x2 : Option Nat), (Instr.rbkParityCheck 0 2 x2).wellFormed = false) ∧
    (∀ (x0 : Agent), (Instr.rbkDisable x0 4 0).wellFormed = false) ∧
    (∀ (x0 : Agent), (Instr.rbkDisable x0 0 1).wellFormed = false) ∧
    (∀ (x2 : Nat) (x4 : Bool) (x6 : BitVec 32), (Instr.emInsert 4294967297 0 x2 0 x4 0 x6 0).wellFormed = false) ∧
    (∀ (x2 : Nat) (x4 : Bool) (x6 : BitVec 32), (Instr.emInsert 0 4 x2 0 x4 0 x6 0).wellFormed = false) ∧
    (∀ (x2 : Nat) (x4 : Bool) (x6 : BitVec 32), (Instr.emInsert 0 0 x2 (2 ^ 320) x4 0 x6 0).wellFormed = false) ∧
    (∀ (x2 : Nat) (x4 : Bool) (x6 : BitVec 32), (Instr.emInsert 0 0 x2 0 x4 4 x6 0).wellFormed = false) ∧
    (∀ (x2 : Nat) (x4 : Bool) (x6 : BitVec 32), (Instr.emInsert 0 0 x2 0 x4 0 x6 (2 ^ 128)).wellFormed = false) := by
  and_intros <;> intros <;> first | rfl | simp_all [Instr.wellFormed]

theorem test_wellFormed_refuses_4 :
    (∀ (x2 : Nat), (Instr.emDelete 4294967297 0 x2 0).wellFormed = false) ∧
    (∀ (x2 : Nat), (Instr.emDelete 0 4 x2 0).wellFormed = false) ∧
    (∀ (x2 : Nat), (Instr.emDelete 0 0 x2 (2 ^ 320)).wellFormed = false) ∧
    (∀ (x2 : Nat) (x4 : Bool) (x6 : BitVec 32), (Instr.emModify 4294967297 0 x2 0 x4 0 x6 0).wellFormed = false) ∧
    (∀ (x2 : Nat) (x4 : Bool) (x6 : BitVec 32), (Instr.emModify 0 4 x2 0 x4 0 x6 0).wellFormed = false) ∧
    (∀ (x2 : Nat) (x4 : Bool) (x6 : BitVec 32), (Instr.emModify 0 0 x2 (2 ^ 320) x4 0 x6 0).wellFormed = false) ∧
    (∀ (x2 : Nat) (x4 : Bool) (x6 : BitVec 32), (Instr.emModify 0 0 x2 0 x4 4 x6 0).wellFormed = false) ∧
    (∀ (x2 : Nat) (x4 : Bool) (x6 : BitVec 32), (Instr.emModify 0 0 x2 0 x4 0 x6 (2 ^ 128)).wellFormed = false) ∧
    (∀ (x2 : Nat), (Instr.emHitRead 4294967297 0 x2 0).wellFormed = false) ∧
    (∀ (x2 : Nat), (Instr.emHitRead 0 4 x2 0).wellFormed = false) ∧
    (∀ (x2 : Nat), (Instr.emHitRead 0 0 x2 (2 ^ 320)).wellFormed = false) ∧
    (∀ (x2 : Bool) (x5 : BitVec 32), (Instr.routeAdd 4294967297 0 x2 0 0 x5).wellFormed = false) ∧
    (∀ (x2 : Bool) (x5 : BitVec 32), (Instr.routeAdd 0 256 x2 0 0 x5).wellFormed = false) ∧
    (∀ (x2 : Bool) (x5 : BitVec 32), (Instr.routeAdd 0 0 x2 256 0 x5).wellFormed = false) ∧
    (∀ (x2 : Bool) (x5 : BitVec 32), (Instr.routeAdd 0 0 x2 0 (2 ^ 128) x5).wellFormed = false) ∧
    (∀ (x2 : Bool), (Instr.routeDelete 4294967297 0 x2 0 0).wellFormed = false) ∧
    (∀ (x2 : Bool), (Instr.routeDelete 0 256 x2 0 0).wellFormed = false) ∧
    (∀ (x2 : Bool), (Instr.routeDelete 0 0 x2 256 0).wellFormed = false) ∧
    (∀ (x2 : Bool), (Instr.routeDelete 0 0 x2 0 (2 ^ 128)).wellFormed = false) ∧
    (∀ (x2 : Bool) (x5 : BitVec 32), (Instr.routeModify 4294967297 0 x2 0 0 x5).wellFormed = false) ∧
    (∀ (x2 : Bool) (x5 : BitVec 32), (Instr.routeModify 0 256 x2 0 0 x5).wellFormed = false) ∧
    (∀ (x2 : Bool) (x5 : BitVec 32), (Instr.routeModify 0 0 x2 256 0 x5).wellFormed = false) ∧
    (∀ (x2 : Bool) (x5 : BitVec 32), (Instr.routeModify 0 0 x2 0 (2 ^ 128) x5).wellFormed = false) ∧
    (∀ (x1 : Nat) (x2 : Nat) (x4 : Option Nat), (Instr.tableScrub 4 x1 x2 0 x4).wellFormed = false) ∧
    (∀ (x1 : Nat) (x2 : Nat) (x4 : Option Nat), (Instr.tableScrub 0 x1 x2 12 x4).wellFormed = false) ∧
    (∀ (x1 : Nat) (x2 : Nat) (x4 : Option Nat), (Instr.tableScrub 0 x1 x2 3 x4).wellFormed = false) ∧
    (∀ (x1 : Option Nat), (Instr.exmParityCheck 4 x1).wellFormed = false) ∧
    (∀ (x0 : Agent), (Instr.exmDisable x0 4 0).wellFormed = false) ∧
    (∀ (x0 : Agent), (Instr.exmDisable x0 0 1).wellFormed = false) ∧
    (∀ (x0 : Agent), (Instr.lpmDisable x0 4 0).wellFormed = false) ∧
    (∀ (x0 : Agent), (Instr.lpmDisable x0 0 1).wellFormed = false) ∧
    (∀ (take : LearnTake), take.pipe = 4 → (Instr.learnDecide take).wellFormed = false) ∧
    ((Instr.learnTick 4).wellFormed = false) ∧
    (∀ (x2 : Option Nat) (x3 : Option Nat) (x4 : Option Nat), (Instr.lrnFlush 4294967297 0 x2 x3 x4).wellFormed = false) ∧
    (∀ (x2 : Option Nat) (x3 : Option Nat) (x4 : Option Nat), (Instr.lrnFlush 0 4 x2 x3 x4).wellFormed = false) ∧
    ((Instr.sweepPassStart 4).wellFormed = false) ∧
    ((Instr.sweepVisit 4).wellFormed = false) ∧
    (∀ (x3 : ShadowFinding), (Instr.walkVisit 4 0 0 x3).wellFormed = false) ∧
    (∀ (x3 : ShadowFinding), (Instr.walkVisit 0 12 0 x3).wellFormed = false) ∧
    (∀ (x3 : ShadowFinding), (Instr.walkVisit 0 0 16777216 x3).wellFormed = false) ∧
    ((Instr.walkPeriodStart 4).wellFormed = false) ∧
    (∀ (x3 : ShadowFinding), (Instr.shadowRepair 4 0 0 x3).wellFormed = false) ∧
    (∀ (x3 : ShadowFinding), (Instr.shadowRepair 0 12 0 x3).wellFormed = false) ∧
    (∀ (x3 : ShadowFinding), (Instr.shadowRepair 0 0 16777216 x3).wellFormed = false) ∧
    (∀ (x0 : Agent), (Instr.lrnDisable x0 4 0).wellFormed = false) ∧
    (∀ (x0 : Agent), (Instr.lrnDisable x0 0 1).wellFormed = false) ∧
    ((Instr.flowDelete 4294967297 0 0).wellFormed = false) ∧
    ((Instr.flowDelete 0 16 0).wellFormed = false) ∧
    ((Instr.flowDelete 0 0 (2 ^ 304)).wellFormed = false) ∧
    ((Instr.flowRead 4294967297 0 0).wellFormed = false) ∧
    ((Instr.flowRead 0 16 0).wellFormed = false) ∧
    ((Instr.flowRead 0 0 (2 ^ 304)).wellFormed = false) ∧
    (∀ (x0 : Agent), (Instr.flwDisable x0 4 0).wellFormed = false) ∧
    (∀ (x0 : Agent), (Instr.flwDisable x0 0 1).wellFormed = false) ∧
    (∀ (x0 : Agent), (Instr.sliceDisable x0 4 0).wellFormed = false) ∧
    (∀ (x0 : Agent), (Instr.sliceDisable x0 0 1).wellFormed = false) ∧
    ((Instr.seedRestore 2097152 0).wellFormed = false) ∧
    ((Instr.seedRestore 0 3).wellFormed = false) ∧
    ((Instr.lbMemberSet 4294967297 0 0 0 0).wellFormed = false) ∧
    ((Instr.lbMemberSet 0 4096 0 0 0).wellFormed = false) := by
  and_intros <;> intros <;> first | rfl | simp_all [Instr.wellFormed]

theorem test_wellFormed_refuses_5 :
    ((Instr.lbMemberSet 0 0 64 0 0).wellFormed = false) ∧
    ((Instr.lbMemberSet 0 0 0 65536 0).wellFormed = false) ∧
    ((Instr.lbMemberSet 0 0 0 0 256).wellFormed = false) ∧
    ((Instr.lbMemberDrain 4294967297 0 0).wellFormed = false) ∧
    ((Instr.lbMemberDrain 0 4096 0).wellFormed = false) ∧
    ((Instr.lbMemberDrain 0 0 64).wellFormed = false) ∧
    ((Instr.lbMemberRemove 4294967297 0 0).wellFormed = false) ∧
    ((Instr.lbMemberRemove 0 4096 0).wellFormed = false) ∧
    ((Instr.lbMemberRemove 0 0 64).wellFormed = false) ∧
    ((Instr.lbGroupStatus 4294967297 0).wellFormed = false) ∧
    ((Instr.lbGroupStatus 0 4096).wellFormed = false) ∧
    (∀ (x2 : BitVec 4096), (Instr.sessionCreate 4294967297 0 x2).wellFormed = false) ∧
    (∀ (x2 : BitVec 4096), (Instr.sessionCreate 0 4194304 x2).wellFormed = false) ∧
    (∀ (x2 : BitVec 4096) (x3 : Bool), (Instr.sessionModify 4294967297 0 x2 x3 0).wellFormed = false) ∧
    (∀ (x2 : BitVec 4096) (x3 : Bool), (Instr.sessionModify 0 4194304 x2 x3 0).wellFormed = false) ∧
    (∀ (x2 : BitVec 4096) (x3 : Bool), (Instr.sessionModify 0 0 x2 x3 16).wellFormed = false) ∧
    ((Instr.sessionDelete 4294967297 0).wellFormed = false) ∧
    ((Instr.sessionDelete 0 4194304).wellFormed = false) ∧
    ((Instr.sessionRead 4294967297 0).wellFormed = false) ∧
    ((Instr.sessionRead 0 4194304).wellFormed = false) ∧
    ((Instr.urrQuery 4294967297 0 0).wellFormed = false) ∧
    ((Instr.urrQuery 0 4194304 0).wellFormed = false) ∧
    ((Instr.urrQuery 0 0 16).wellFormed = false) ∧
    ((Instr.usageSettle 4194304 0).wellFormed = false) ∧
    ((Instr.usageSettle 0 4).wellFormed = false) ∧
    ((Instr.timeThresholdExpiry 4194304 0).wellFormed = false) ∧
    ((Instr.timeThresholdExpiry 0 4).wellFormed = false) ∧
    ((Instr.bufferExpiry 4194304).wellFormed = false) ∧
    ((Instr.replaySend 4194304).wellFormed = false) ∧
    ((Instr.replayEnd 4194304).wellFormed = false) ∧
    (∀ (x0 : Agent), (Instr.upsDisable x0 4 0).wellFormed = false) ∧
    (∀ (x0 : Agent), (Instr.upsDisable x0 0 1).wellFormed = false) ∧
    (∀ (x2 : BitVec 128), (Instr.nhWrite 4294967297 0 x2).wellFormed = false) ∧
    (∀ (x2 : BitVec 128), (Instr.nhWrite 0 65536 x2).wellFormed = false) ∧
    (∀ (x2 : BitVec 1024), (Instr.tplWrite 4294967297 0 x2).wellFormed = false) ∧
    (∀ (x2 : BitVec 1024), (Instr.tplWrite 0 4096 x2).wellFormed = false) ∧
    (∀ (words : List (BitVec 32)), (Instr.editWrite 4294967297 0 words).wellFormed = false) ∧
    (∀ (words : List (BitVec 32)), (Instr.editWrite 0 256 words).wellFormed = false) ∧
    (∀ (words : List (BitVec 32)), words.length = 9 → (Instr.editWrite 0 0 words).wellFormed = false) ∧
    (∀ (x0 : Agent), (Instr.edtDisable x0 4 0).wellFormed = false) ∧
    (∀ (x0 : Agent), (Instr.edtDisable x0 0 1).wellFormed = false) ∧
    (∀ (x0 : Agent) (x2 : Word), (Instr.capRdWrite x0 16 x2).wellFormed = false) ∧
    (∀ (x0 : Agent), (Instr.capRingDisable x0 16 0).wellFormed = false) ∧
    (∀ (x0 : Agent), (Instr.capRingDisable x0 0 1).wellFormed = false) ∧
    ((Instr.edtTableRestore 4 0 0).wellFormed = false) ∧
    ((Instr.edtTableRestore 0 4 0).wellFormed = false) ∧
    ((Instr.edtTableRestore 0 0 65536).wellFormed = false) ∧
    (∀ (x0 : Agent) (x2 : Word), (Instr.queQcfgWrite x0 4 x2).wellFormed = false) ∧
    ((Instr.queueDrainExpiry 4 0).wellFormed = false) ∧
    ((Instr.queueDrainExpiry 0 65536).wellFormed = false) ∧
    (∀ (x0 : Agent), (Instr.queDisable x0 4 0).wellFormed = false) ∧
    (∀ (x0 : Agent), (Instr.queDisable x0 0 1).wellFormed = false) ∧
    ((Instr.holdDeadlineExpiry 96).wellFormed = false) ∧
    ((Instr.portFlushComplete 96).wellFormed = false) ∧
    (∀ (x2 : List (BitVec 64)) (x3 : List (BitVec 64)) (x4 : List (BitVec 64)) (x5 : List (BitVec 64)), (Instr.mcGroupWrite 4294967297 0 x2 x3 x4 x5).wellFormed = false) ∧
    (∀ (x2 : List (BitVec 64)) (x3 : List (BitVec 64)) (x4 : List (BitVec 64)) (x5 : List (BitVec 64)), (Instr.mcGroupWrite 0 65536 x2 x3 x4 x5).wellFormed = false) ∧
    ((Instr.queueMove 4294967297 0 0 0).wellFormed = false) ∧
    ((Instr.queueMove 0 4 0 0).wellFormed = false) ∧
    ((Instr.queueMove 0 0 65536 0).wellFormed = false) ∧
    ((Instr.queueMove 0 0 0 65536).wellFormed = false) := by
  and_intros <;> intros <;> first | rfl | simp_all [Instr.wellFormed]

theorem test_wellFormed_refuses_6 :
    ((Instr.queueMoveDone 4 0).wellFormed = false) ∧
    ((Instr.queueMoveDone 0 65536).wellFormed = false) ∧
    ((Instr.moveDrainExpiry 4 0).wellFormed = false) ∧
    ((Instr.moveDrainExpiry 0 65536).wellFormed = false) ∧
    (∀ (x0 : Agent), (Instr.schElementWrite x0 4 1).wellFormed = false) ∧
    (∀ (x0 : Agent), (Instr.schElementWrite x0 0 0).wellFormed = false) ∧
    (∀ (x0 : Agent), (Instr.schElementRead x0 4 2).wellFormed = false) ∧
    (∀ (x0 : Agent), (Instr.schElementRead x0 0 0).wellFormed = false) ∧
    (∀ (x0 : Agent), (Instr.policerWrite x0 4 1).wellFormed = false) ∧
    (∀ (x0 : Agent), (Instr.policerWrite x0 0 0).wellFormed = false) ∧
    (∀ (x0 : Agent), (Instr.policerRead x0 4 2).wellFormed = false) ∧
    (∀ (x0 : Agent), (Instr.policerRead x0 0 0).wellFormed = false) ∧
    (∀ (x1 : Bool) (site : EccAt), (Instr.schStateEccFix 4 x1 0 site).wellFormed = false) ∧
    (∀ (x1 : Bool) (site : EccAt), (Instr.schStateEccFix 0 x1 5 site).wellFormed = false) ∧
    (∀ (x1 : Bool) (site : EccAt), site.idx = 65536 → (Instr.schStateEccFix 0 x1 0 site).wellFormed = false) ∧
    (∀ (x0 : Agent), (Instr.todSnap x0 0).wellFormed = false) ∧
    (∀ (x0 : Agent), (Instr.todSnap x0 2).wellFormed = false) ∧
    (∀ (x0 : Agent), (Instr.todSet x0 0).wellFormed = false) ∧
    (∀ (x1 : Bool) (x2 : Nat), (Instr.ppsInEdge 2 x1 x2).wellFormed = false) ∧
    (∀ (x1 : Int), (Instr.freqGateMeasure 1 x1).wellFormed = false) ∧
    (∀ (x1 : Int), (Instr.freqGateMeasure 6 x1).wellFormed = false) ∧
    ((Instr.refQualify 7).wellFormed = false) ∧
    (∀ (x1 : Bool), (Instr.refLoss 7 x1).wellFormed = false) ∧
    (∀ (x1 : Bool), (Instr.todMessageReceive 281474976710656 x1).wellFormed = false) ∧
    ((Instr.ptpPhaseSample 96).wellFormed = false) ∧
    (∀ (x7 : Bool), (Instr.modelFit 4294967296 0 0 0 0 0 0 x7).wellFormed = false) ∧
    (∀ (x7 : Bool), (Instr.modelFit 0 4294967296 0 0 0 0 0 x7).wellFormed = false) ∧
    (∀ (x7 : Bool), (Instr.modelFit 0 0 65536 0 0 0 0 x7).wellFormed = false) ∧
    (∀ (x7 : Bool), (Instr.modelFit 0 0 0 65536 0 0 0 x7).wellFormed = false) ∧
    (∀ (x7 : Bool), (Instr.modelFit 0 0 0 0 65536 0 0 x7).wellFormed = false) ∧
    (∀ (x7 : Bool), (Instr.modelFit 0 0 0 0 0 65536 0 x7).wellFormed = false) ∧
    (∀ (x7 : Bool), (Instr.modelFit 0 0 0 0 0 0 65536 x7).wellFormed = false) ∧
    ((Instr.tempSample 1801).wellFormed = false) ∧
    ((Instr.ppsOutEdge 2).wellFormed = false) ∧
    ((Instr.ppsPulseEnd 2).wellFormed = false) ∧
    ((Instr.announceTimeout 96).wellFormed = false) ∧
    ((Instr.ptpMessageSend 96 0).wellFormed = false) ∧
    ((Instr.ptpMessageSend 0 16).wellFormed = false) ∧
    ((Instr.txTsMissing 96).wellFormed = false) ∧
    ((Instr.faultyExit 96).wellFormed = false) ∧
    ((Instr.grantRenew 96 0 0).wellFormed = false) ∧
    ((Instr.grantRenew 0 8 0).wellFormed = false) ∧
    ((Instr.grantRenew 0 0 16).wellFormed = false) ∧
    ((Instr.grantExpiry 96).wellFormed = false) ∧
    (∀ (x0 : Agent), (Instr.ptpDisable x0 1).wellFormed = false) ∧
    ((Instr.esmcTimeout 96).wellFormed = false) ∧
    ((Instr.qlHoldoffExpiry 96).wellFormed = false) ∧
    ((Instr.esmcInfoSend 96).wellFormed = false) ∧
    ((Instr.esmcEventSend 96).wellFormed = false) ∧
    ((Instr.cutThroughStart 96).wellFormed = false) ∧
    ((Instr.cutThroughCut 96).wellFormed = false) ∧
    ((Instr.preemptVerifySend 96).wellFormed = false) ∧
    ((Instr.preemptVerifyResponse 96).wellFormed = false) ∧
    ((Instr.preemptVerifyFail 96).wellFormed = false) ∧
    (∀ (x3 : BitVec 128), (Instr.expWrite 4294967297 0 0 x3).wellFormed = false) ∧
    (∀ (x3 : BitVec 128), (Instr.expWrite 0 4 0 x3).wellFormed = false) ∧
    (∀ (x3 : BitVec 128), (Instr.expWrite 0 0 1024 x3).wellFormed = false) ∧
    (∀ (x0 : Agent), (Instr.gclWrite x0 4 1).wellFormed = false) ∧
    (∀ (x0 : Agent), (Instr.gclWrite x0 0 0).wellFormed = false) ∧
    (∀ (x0 : Agent), (Instr.gclRead x0 4 2).wellFormed = false) := by
  and_intros <;> intros <;> first | rfl | simp_all [Instr.wellFormed]

theorem test_wellFormed_refuses_7 :
    (∀ (x0 : Agent), (Instr.gclRead x0 0 0).wellFormed = false) ∧
    (∀ (x0 : Agent), (Instr.gclCommit x0 4 4).wellFormed = false) ∧
    (∀ (x0 : Agent), (Instr.gclCommit x0 0 0).wellFormed = false) ∧
    (∀ (x0 : Agent), (Instr.gclCancel x0 4 8).wellFormed = false) ∧
    (∀ (x0 : Agent), (Instr.gclCancel x0 0 0).wellFormed = false) ∧
    ((Instr.listChange 96).wellFormed = false) ∧
    ((Instr.gateEntryStart 96).wellFormed = false) ∧
    ((Instr.mergeHoldAssert 96).wellFormed = false) ∧
    ((Instr.cycleStart 96).wellFormed = false) ∧
    ((Instr.stepGateFallback 96).wellFormed = false) ∧
    (∀ (x0 : Agent) (x2 : Word), (Instr.gtePortCfgWrite x0 96 x2).wellFormed = false) ∧
    ((Instr.expressDisableExpiry 96).wellFormed = false) ∧
    ((Instr.hbRequestIssue 64 0).wellFormed = false) ∧
    ((Instr.hbRequestIssue 0 64).wellFormed = false) ∧
    (∀ (x1 : HbEcc), (Instr.hbRequestComplete 64 x1).wellFormed = false) ∧
    (∀ (x1 : Nat), (Instr.hbAgePromote 64 x1).wellFormed = false) ∧
    ((Instr.bankRefresh 64 0).wellFormed = false) ∧
    ((Instr.bankRefresh 0 64).wellFormed = false) ∧
    ((Instr.stackTempRead 2 0).wellFormed = false) ∧
    ((Instr.stackTempRead 0 (-129)).wellFormed = false) ∧
    ((Instr.stackTempRead 0 128).wellFormed = false) ∧
    ((Instr.retrainPause 64).wellFormed = false) ∧
    (∀ (x1 : Bool), (Instr.fullRetrain 64 x1).wellFormed = false) ∧
    ((Instr.maintForce 3 0).wellFormed = false) ∧
    ((Instr.maintForce 0 64).wellFormed = false) ∧
    (∀ (x1 : Bool), (Instr.laneRepair 64 x1).wellFormed = false) ∧
    (∀ (x1 : HbEcc) (x2 : Bool), (Instr.scrubRead 2 x1 x2).wellFormed = false) ∧
    (∀ (x2 : Bool), (Instr.rowRepair 64 0 x2).wellFormed = false) ∧
    (∀ (x2 : Bool), (Instr.rowRepair 0 4194304 x2).wellFormed = false) ∧
    ((Instr.hbRepair 4294967297 0 0).wellFormed = false) ∧
    ((Instr.hbRepair 0 64 0).wellFormed = false) ∧
    ((Instr.hbRepair 0 0 4194304).wellFormed = false) ∧
    (∀ (x1 : Bool), (Instr.pcRetire 64 x1).wellFormed = false) ∧
    ((Instr.hbBackgroundFillDone 2).wellFormed = false) ∧
    ((Instr.selfRefreshEnter 2).wellFormed = false) ∧
    ((Instr.selfRefreshExit 2).wellFormed = false) ∧
    ((Instr.tideBoundary 5).wellFormed = false) ∧
    ((Instr.tideAdmit 5 0).wellFormed = false) ∧
    ((Instr.tideAdmit 0 7).wellFormed = false) ∧
    (∀ (x0 : Agent) (x2 : Word), (Instr.tideApply x0 4 x2).wellFormed = false) ∧
    ((Instr.tideStarve 5 0).wellFormed = false) ∧
    ((Instr.tideStarve 0 7).wellFormed = false) ∧
    (∀ (x2 : Bool) (x3 : Bool), (Instr.ttbParityCheck 5 0 x2 x3).wellFormed = false) ∧
    (∀ (x2 : Bool) (x3 : Bool), (Instr.ttbParityCheck 0 7 x2 x3).wellFormed = false) ∧
    (∀ (x2 : List KChange), (Instr.keeperNop 16 0 x2 0).wellFormed = false) ∧
    (∀ (x2 : List KChange), (Instr.keeperNop 0 14 x2 0).wellFormed = false) ∧
    (∀ (x2 : List KChange), (Instr.keeperNop 0 0 x2 3).wellFormed = false) ∧
    (∀ (x2 : List KChange), (Instr.keeperHold 16 0 x2).wellFormed = false) ∧
    (∀ (x2 : List KChange), (Instr.keeperHold 0 14 x2).wellFormed = false) ∧
    (∀ (x2 : List KChange), (Instr.keeperRelease 16 0 x2).wellFormed = false) ∧
    (∀ (x2 : List KChange), (Instr.keeperRelease 0 14 x2).wellFormed = false) ∧
    (∀ (x2 : List KChange), (Instr.keeperYield 16 0 x2).wellFormed = false) ∧
    (∀ (x2 : List KChange), (Instr.keeperYield 0 14 x2).wellFormed = false) ∧
    (∀ (x2 : List KChange), (Instr.keeperWait 16 0 x2).wellFormed = false) ∧
    (∀ (x2 : List KChange), (Instr.keeperWait 0 14 x2).wellFormed = false) ∧
    (∀ (x2 : List KChange), (Instr.keeperBeat 16 0 x2).wellFormed = false) ∧
    (∀ (x2 : List KChange), (Instr.keeperBeat 0 14 x2).wellFormed = false) ∧
    ((Instr.illegalInstruction 16 6).wellFormed = false) ∧
    ((Instr.illegalInstruction 0 5).wellFormed = false) ∧
    ((Instr.illegalInstruction 0 256).wellFormed = false) := by
  and_intros <;> intros <;> first | rfl | simp_all [Instr.wellFormed]

theorem test_wellFormed_refuses_8 :
    ((Instr.holdOverrun 16 0).wellFormed = false) ∧
    ((Instr.holdOverrun 0 3).wellFormed = false) ∧
    ((Instr.keeperResultArrive 14 0).wellFormed = false) ∧
    ((Instr.keeperResultArrive 0 256).wellFormed = false) ∧
    ((Instr.engineWatchdogExpiry 14).wellFormed = false) ∧
    ((Instr.engineResetDone 16).wellFormed = false) ∧
    ((Instr.taskMoveRun 14).wellFormed = false) ∧
    (∀ (x0 : Nat), (Instr.taskMove x0 14).wellFormed = false) ∧
    ((Instr.clusterLockup 3).wellFormed = false) ∧
    (∀ (fetched : Option (Nat × Nat)), (Instr.controlStoreWalk fetched 3).wellFormed = false) ∧
    (∀ (x1 : Bool), (Instr.controlStoreRestore 65536 x1).wellFormed = false) ∧
    (∀ (x0 : Nat) (names : List (Machine.Ctr × Nat)), names.length = 17 → (Instr.counterRead x0 names).wellFormed = false) ∧
    ((Instr.bufRead 4294967297 0 0).wellFormed = false) ∧
    ((Instr.bufRead 0 4 0).wellFormed = false) ∧
    ((Instr.bufRead 0 0 95232).wellFormed = false) ∧
    (∀ (h : MbxHeader), h.opcode = 256 → (Instr.mbxFetch h).wellFormed = false) ∧
    (∀ (h : MbxHeader), h.entries = 16 → (Instr.mbxFetch h).wellFormed = false) ∧
    (∀ (h : MbxHeader), h.pipe = 4 → (Instr.mbxFetch h).wellFormed = false) ∧
    (∀ (x0 : Agent), (Instr.mbxEnable x0 0).wellFormed = false) ∧
    (∀ (x0 : Nat) (key : WrappedCak), key.port = 96 → (Instr.keyWrite x0 key).wellFormed = false) ∧
    ((Instr.cakRetire 96).wellFormed = false) ∧
    (∀ (x0 : Agent), (Instr.bundleEnable x0 4 1).wellFormed = false) ∧
    (∀ (x0 : Agent), (Instr.bundleEnable x0 0 0).wellFormed = false) ∧
    ((Instr.bundleTrained 4).wellFormed = false) ∧
    (∀ (x1 : Hello), (Instr.helloReceive 4 x1).wellFormed = false) ∧
    ((Instr.authRetry 4).wellFormed = false) ∧
    ((Instr.authTimeout 4).wellFormed = false) ∧
    ((Instr.bundleRetrainTimer 4).wellFormed = false) ∧
    (∀ (x1 : Nat), (Instr.fleitFrameSend 4 x1).wellFormed = false) ∧
    (∀ (x1 : BitVec 128) (payload : List Byte) (x3 : Word), (Instr.fleitFrameReceive 4 x1 payload x3).wellFormed = false) ∧
    (∀ (x1 : BitVec 128) (payload : List Byte) (x3 : Word), payload.length = 512 → (Instr.fleitFrameReceive 0 x1 payload x3).wellFormed = false) ∧
    ((Instr.nakReceive 4 0).wellFormed = false) ∧
    ((Instr.nakReceive 0 16777216).wellFormed = false) ∧
    ((Instr.replayTimeout 4).wellFormed = false) ∧
    (∀ (x2 : Chan), (Instr.fleitAckReceive 4 0 x2 0).wellFormed = false) ∧
    (∀ (x2 : Chan), (Instr.fleitAckReceive 0 16777216 x2 0).wellFormed = false) ∧
    (∀ (x2 : Chan), (Instr.fleitAckReceive 0 0 x2 256).wellFormed = false) ∧
    (∀ (x1 : Chan), (Instr.creditStall 4 x1).wellFormed = false) ∧
    ((Instr.heartbeatSend 4).wellFormed = false) ∧
    ((Instr.heartbeatLoss 4).wellFormed = false) ∧
    ((Instr.fleitLaneFail 4 0).wellFormed = false) ∧
    ((Instr.fleitLaneFail 0 96).wellFormed = false) ∧
    ((Instr.spareReqReceive 4 0).wellFormed = false) ∧
    ((Instr.spareReqReceive 0 96).wellFormed = false) ∧
    ((Instr.spareAck 4).wellFormed = false) ∧
    ((Instr.spareReturn 4 0).wellFormed = false) ∧
    ((Instr.spareReturn 0 96).wellFormed = false) ∧
    ((Instr.linkTimeSample 4).wellFormed = false) ∧
    (∀ (x0 : Agent), (Instr.bundleDisable x0 4 0).wellFormed = false) ∧
    (∀ (x0 : Agent), (Instr.bundleDisable x0 0 1).wellFormed = false) ∧
    ((Instr.bundleCloseExpiry 4).wellFormed = false) ∧
    (∀ (m : Manifest), m.sections.length = 257 → (Instr.manifestVerify m).wellFormed = false) ∧
    ((Instr.glitchTrip 3).wellFormed = false) ∧
    (∀ (x1 : Bool), (Instr.flashRead 4097 x1).wellFormed = false) ∧
    ((Instr.attemptFail 0).wellFormed = false) ∧
    ((Instr.attemptFail 9).wellFormed = false) ∧
    (∀ (x1 : BitVec 256), (Instr.rxRingDeliver 16 x1).wellFormed = false) ∧
    (∀ (x1 : BitVec 256) (x2 : List Byte), (Instr.txDescriptor 16 x1 x2).wellFormed = false) ∧
    (∀ (x1 : Word), (Instr.ringTailWrite 16384 x1 0).wellFormed = false) ∧
    (∀ (x1 : Word), (Instr.ringTailWrite 3 x1 0).wellFormed = false) := by
  and_intros <;> intros <;> first | rfl | simp_all [Instr.wellFormed]

theorem test_wellFormed_refuses_9 :
    (∀ (x1 : Word), (Instr.ringTailWrite 0 x1 16).wellFormed = false) ∧
    (∀ (x0 : Agent) (x1 : Bool), (Instr.ringDisable x0 x1 16 0).wellFormed = false) ∧
    (∀ (x0 : Agent) (x1 : Bool), (Instr.ringDisable x0 x1 0 1).wellFormed = false) ∧
    (∀ (x0 : Bool), (Instr.ringVectorCoalesce x0 16).wellFormed = false) ∧
    (∀ (x0 : Bool), (Instr.dmaTimeout x0 16).wellFormed = false) ∧
    (∀ (x1 : Nat), (Instr.brownOut [7] x1).wellFormed = false) ∧
    (∀ (x1 : Bool), (Instr.trimLoad 27 x1).wellFormed = false) ∧
    (∀ (x0 : Agent) (x2 : Word), (Instr.blockResetPipeline x0 4 x2).wellFormed = false) ∧
    ((Instr.blockResetDone 136).wellFormed = false) ∧
    (∀ (x0 : Agent) (x2 : Word), (Instr.pwrReqWrite x0 2 x2).wellFormed = false) ∧
    (∀ (x1 : Bool), (Instr.pllUnlock 6 x1).wellFormed = false) ∧
    (∀ (readings : List Int), readings.length = 15 → (Instr.junctionSample readings).wellFormed = false) ∧
    ((Instr.sensorRejoin 16).wellFormed = false) ∧
    (∀ (x2 : Scope) (x4 : Nat), (Instr.eventRaise 40 0 x2 0 x4).wellFormed = false) ∧
    (∀ (x2 : Scope) (x4 : Nat), (Instr.eventRaise 0 32 x2 0 x4).wellFormed = false) ∧
    (∀ (x2 : Scope) (x4 : Nat), (Instr.eventRaise 0 0 x2 128 x4).wellFormed = false) ∧
    (∀ (x0 : Agent) (x2 : Word), (Instr.evtStatusClear x0 40 x2).wellFormed = false) ∧
    (∀ (x0 : Agent) (x1 : Route) (x3 : Word), (Instr.evtRouteWrite x0 x1 40 x3).wellFormed = false) ∧
    ((Instr.msixFoldExpiry 40).wellFormed = false) ∧
    ((Instr.logFoldExpiry 40 0).wellFormed = false) ∧
    ((Instr.logFoldExpiry 0 32).wellFormed = false) ∧
    (∀ (x0 : Agent) (x2 : Word), (Instr.loopbackSet x0 96 x2).wellFormed = false) ∧
    ((Instr.bistDone 65536).wellFormed = false) ∧
    (∀ (x0 : Agent) (x2 : Word), (Instr.perturbStart x0 2 x2).wellFormed = false) ∧
    ((Instr.perturbDutyToggle 2).wellFormed = false) ∧
    ((Instr.perturbEnd 2).wellFormed = false) ∧
    ((Instr.linkFaultClear 96 0).wellFormed = false) ∧
    ((Instr.linkFaultClear 0 4).wellFormed = false) ∧
    ((Instr.cdrLockRegained 96).wellFormed = false) ∧
    ((Instr.buildingSlotCleared 4).wellFormed = false) ∧
    (∀ (data : List Word), data.length = 63 → (Instr.flashOpDone data).wellFormed = false) ∧
    ((Instr.pcieLinkUp 0 1).wellFormed = false) ∧
    ((Instr.pcieLinkUp 6 1).wellFormed = false) ∧
    ((Instr.pcieLinkUp 1 3).wellFormed = false) := by
  and_intros <;> intros <;> first | rfl | simp_all [Instr.wellFormed]

theorem test_wellFormed_refuses_rest :
    ((Instr.rcRead .keeper 268435456).wellFormed = false) ∧ ((Instr.rcRead .host 268435456).wellFormed = false) ∧
    ((Instr.rcRead .host 137438969856).wellFormed = false) ∧ ((Instr.rcRead .keeper 68719476736).wellFormed = false) ∧
    ((Instr.controlStoreWalk (some (16, 0)) 0).wellFormed = false) ∧ ((Instr.controlStoreWalk (some (0, 65536)) 0).wellFormed = false) := by decide


end Sys2Proof.Machine
end

section
/-! PROOFS. The order of the checks on a register write (R11): what each verdict does, and that raising an event touches no
counter but those of the event block itself. -/
namespace Sys2Proof.Machine

/-! ### Counters under a raise -/

/-- Storing at one key leaves what the table lists at every other key. -/
theorem Sparse.find_put_ne {α : Type} [DecidableEq α] {m : Sparse α} {k j : Nat} (v d : α) (hne : j ≠ k) (h : Sparse.wf m = true) :
    Sparse.find (Sparse.put m k v d) j = Sparse.find m j := by
  unfold Sparse.put
  split
  · exact Sparse.find_erase_ne hne h
  · exact Sparse.find_insert_ne m v hne

/-- The counters the event block itself counts: lost log records (R768) and dropped keeper copies (R765). -/
def eventCtrs : List Nat := [Ctr.EVT_LOG_LOST.key 0, Ctr.EVT_KPR_DROP.key 0]

/-- From `s` to `t` no counter but the event block's own two has changed, and the counter table stays canonical. -/
def CountsEventsOnly (s t : State) : Prop :=
  Sparse.wf s.ctrs = true →
    Sparse.wf t.ctrs = true ∧ ∀ a, a ∉ eventCtrs → Sparse.find t.ctrs a = Sparse.find s.ctrs a

/-- What writing a record leaves, where appending it answers `t`.  The definition is unfolded as a function and applied only then:
unfolded on its operands, the kernel evaluates `State.logAppend` and its test for a full log, which subtracts from a sum with
2^32. -/
theorem State.writeRec_of_logAppend {s t : State} {k : Nat} {r : BitVec 128} {lost : Bool} (h : s.logAppend r = (t, lost)) :
    s.writeRec k r =
      ({ t with evt := { t.evt with lastRec := Sparse.insert t.evt.lastRec k t.now, folds := Sparse.erase t.evt.folds k } }, lost) := by
  generalize hF : State.writeRec = F
  delta State.writeRec at hF
  have applied := congrFun (congrFun (congrFun hF s) k) r
  rw [h] at applied
  exact applied.symm

namespace CountsEventsOnly
variable {s t u : State}

theorem of_eq (h : t.ctrs = s.ctrs) : CountsEventsOnly s t := fun hw => ⟨h ▸ hw, fun _ _ => h ▸ rfl⟩

theorem refl (s : State) : CountsEventsOnly s s := of_eq rfl

theorem trans (hst : CountsEventsOnly s t) (htu : CountsEventsOnly t u) : CountsEventsOnly s u := fun hw =>
  have ⟨ht, hfst⟩ := hst hw
  have ⟨hu, hftu⟩ := htu ht
  ⟨hu, fun a ha => (hftu a ha).trans (hfst a ha)⟩

/-- Every other counter reads as before. -/
theorem ctr_eq (h : CountsEventsOnly s t) (hc : s.Canon) {c : Ctr} {item : Nat} (hk : c.key item ∉ eventCtrs) :
    t.ctr c item = s.ctr c item := by
  unfold State.ctr Sparse.get
  rw [(h hc.2.2).2 _ hk]

theorem set_evt (s : State) (e : Evt) : CountsEventsOnly s { s with evt := e } := of_eq rfl

theorem wr (s : State) (f : Fld) (v inst i k slot : Nat) : CountsEventsOnly s (s.wr f v inst i k slot) :=
  of_eq (s.wr_ctrs f v inst i k slot)

theorem bump (s : State) (c : Ctr) (item n : Nat) (hk : c.key item ∈ eventCtrs) : CountsEventsOnly s (s.bump c item n) :=
  fun hw => ⟨Sparse.wf_put _ _ _ hw, fun _ ha => Sparse.find_put_ne _ _ (fun h => ha (h ▸ hk)) hw⟩

theorem sendVec (s : State) (v : Nat) : CountsEventsOnly s (s.sendVec v) := by
  unfold State.sendVec
  split
  · exact of_eq rfl
  · exact of_eq (s.emit_ctrs _)

theorem evtMsix (s : State) (g : Nat) : CountsEventsOnly s (s.evtMsix g) := by
  unfold State.evtMsix
  split
  · split
    · split
      · exact set_evt s _
      · exact (sendVec s _).trans (set_evt _ _)
    · exact (sendVec s _).trans (set_evt _ _)
  · exact refl s

theorem firstInMs (s : State) (key : Nat) : CountsEventsOnly s (s.firstInMs key).1 := by
  unfold State.firstInMs
  split
  · exact refl s
  · exact set_evt s _

theorem logAppend (s : State) (r : BitVec 128) : CountsEventsOnly s (s.logAppend r).1 := by
  unfold State.logAppend
  extract_lets w rd full evt s1 s2
  have written : CountsEventsOnly s s2 := (set_evt s _).trans (wr s1 _ _ _ _ _ _)
  split
  · exact (written.trans (wr s2 _ _ _ _ _ _)).trans (bump _ .EVT_LOG_LOST 0 1 (by decide))
  · exact written

theorem writeRec (s : State) (k : Nat) (r : BitVec 128) : CountsEventsOnly s (s.writeRec k r).1 := by
  have appended := logAppend s r
  cases happ : s.logAppend r with
  | mk t lost =>
    rw [happ] at appended
    rw [State.writeRec_of_logAppend happ]
    exact appended.trans (set_evt t _)

theorem writeFold (s : State) (k : Nat) : CountsEventsOnly s (s.writeFold k).1 := by
  unfold State.writeFold
  split
  · split
    · exact refl s
    · exact writeRec s k _
  · exact refl s

theorem evtLog (s : State) (e : Source) (r : BitVec 128) : CountsEventsOnly s (s.evtLog e r).1 := by
  unfold State.evtLog
  extract_lets k
  have folded := writeFold s k
  split
  next t lost heq =>
    rw [heq] at folded
    split
    · exact folded.trans (set_evt t _)
    · have written := folded.trans (writeRec t k r)
      split
      next u more hrec => rwa [hrec] at written

theorem evtKpr (s : State) (r : BitVec 128) : CountsEventsOnly s (s.evtKpr r).1 := by
  unfold State.evtKpr
  split
  · exact set_evt s _
  · exact bump s .EVT_KPR_DROP 0 1 (by decide)

theorem raiseOnce (s : State) (e : Source) (sc : Scope) (inst detail : Nat) :
    CountsEventsOnly s (s.raiseOnce e sc inst detail).1 := by
  unfold State.raiseOnce
  extract_lets was r st s1 again evt s2 s3
  have status : CountsEventsOnly s s1 := by
    unfold s1
    split
    · exact refl s
    · exact wr s _ _ _ _ _ _
  have marked : CountsEventsOnly s s2 := (status.trans (set_evt s1 _)).trans (set_evt _ _)
  have sent : CountsEventsOnly s s3 := by
    unfold s3
    split
    · exact marked.trans (evtMsix s2 _)
    · exact marked
  have copied : CountsEventsOnly s (if s3.evtRoute e .kpr then s3.evtKpr r else (s3, false)).1 := by
    split
    · exact sent.trans (evtKpr s3 r)
    · exact sent
  split
  next s4 dropped hkpr =>
    rw [hkpr] at copied
    have logged : CountsEventsOnly s (if s4.evtRoute e .log then s4.evtLog e r else (s4, false)).1 := by
      split
      · exact copied.trans (evtLog s4 e r)
      · exact copied
    split
    next s5 lost hlog => rwa [hlog] at logged

theorem raiseOwn (s : State) (e : Source) : CountsEventsOnly s (s.raiseOwn e) := by
  unfold State.raiseOwn
  have first := firstInMs s (e.key * 128)
  split
  next s1 isFirst heq =>
    rw [heq] at first
    split
    · exact first.trans (raiseOnce s1 e .device 0 0)
    · exact first

theorem raise (s : State) (e : Source) (sc : Scope) (inst detail : Nat) : CountsEventsOnly s (s.raise e sc inst detail) := by
  unfold State.raise
  have raised := raiseOnce s e sc inst detail
  split
  next s1 lost dropped heq =>
    rw [heq] at raised
    extract_lets s2
    have after : CountsEventsOnly s s2 := by
      unfold s2
      split
      · exact raised.trans (raiseOwn s1 _)
      · exact raised
    split
    · exact after.trans (raiseOwn s2 _)
    · exact after

theorem raiseMs (s : State) (e : Source) (sc : Scope) (inst detail : Nat) : CountsEventsOnly s (s.raiseMs e sc inst detail) := by
  unfold State.raiseMs
  have first := firstInMs s (e.key * 128 + inst)
  split
  next s1 isFirst heq =>
    rw [heq] at first
    split
    · exact first.trans (raise s1 e sc inst detail)
    · exact first

end CountsEventsOnly

/-! ### What a failed check counts -/

/-- A rights violation is counted, and beside that only the event block counts. -/
theorem State.violation_counts (s : State) (kind addr op : Nat) :
    CountsEventsOnly (s.bump .RND_VIOLATIONS) (s.violation kind addr op) := by
  unfold State.violation
  extract_lets s1 s2
  have held : CountsEventsOnly s1 s2 := by
    unfold s2
    split
    · exact .refl s1
    · exact (((CountsEventsOnly.wr s1 _ _ _ _ _ _).trans (.wr _ _ _ _ _ _ _)).trans (.wr _ _ _ _ _ _ _)).trans
        ((CountsEventsOnly.wr _ _ _ _ _ _ _).trans (.set_evt _ _))
  exact held.trans (.raiseMs s2 _ _ _ _)

/-- A rejected write is counted, and beside that only the event block counts. -/
theorem State.rejectWrite_counts (s : State) : CountsEventsOnly (s.bump .HST_WRITE_REJECTED) s.rejectWrite :=
  .raiseMs _ _ _ _ _

/-- Of a counter counted once on the way to `t`, and of another: what they read. -/
theorem State.ctr_of_counts {s t : State} {c d : Ctr} (hc : s.Canon) (h : CountsEventsOnly (s.bump c) t)
    (hk : c.key 0 ∉ eventCtrs) (hd : d.key 0 ∉ eventCtrs) (hne : d.key 0 ≠ c.key 0) :
    t.ctr c = s.ctr c + 1 ∧ t.ctr d = s.ctr d := by
  have hb : (s.bump c).Canon := (bump_keeps s c 0 1).2.2 hc
  exact ⟨(h.ctr_eq hb hk).trans (s.ctr_bump_self c 0 1 hc), (h.ctr_eq hb hd).trans (s.ctr_bump_ne c d 0 0 1 hc hne)⟩

/-! ### The verdict on a host write, and what each verdict does -/

section
variable {s : State} {r : Reg} {inst i k : Nat} {v : Word} {bad : Bool}

theorem State.verdict_right (hr : s.hasRight r = false) : s.verdict .host r inst i k v bad = .right := by
  simp [State.verdict, hr]

theorem State.verdict_seal (hr : s.hasRight r = true)
    (hs : r.sealDiffers (s.rdReg r inst i k (s.writeSlot r inst)) v = true) :
    s.verdict .host r inst i k v bad = .sealMismatch := by
  simp [State.verdict, hr, hs]

/-- With the right and the SEAL fields repeated, a host write is rejected just when the device takes no write there or R10 or a
rule of its register fails. -/
theorem State.verdict_passed (hr : s.hasRight r = true)
    (hs : r.sealDiffers (s.rdReg r inst i k (s.writeSlot r inst)) v = false) :
    s.verdict .host r inst i k v bad =
      if bad = true ∨ s.loading = true ∨ s.domainUp (r.domain inst i) = false ∨ s.testing (r.domain inst i) = true ∨
        (∃ d ∈ r.fields, d.writeOk v = false) then .rejected else .accepted := by
  unfold State.verdict
  rw [if_neg (by simp [hr]), if_neg (by simp [hs])]
  congr 1
  rw [or_comm (a := bad = true)]
  simp only [decide_true, Bool.true_and, Bool.or_eq_true, Bool.not_eq_true', List.all_eq_false, Bool.not_eq_true, or_assoc]

/-- A fold whose steps change nothing answers what it began with. -/
theorem foldl_eq_init_of_fixed {α β : Type} {g : α → β → α} (hg : ∀ x b, g x b = x) (l : List β) (a : α) : l.foldl g a = a := by
  induction l with
  | nil => rfl
  | cons b l ih => rw [List.foldl_cons, hg, ih]

/-- Where hardware has set no bit in this clock, an accepted write stores the word of Table 0.2 (R8). -/
theorem State.storedWord_eq_stored (slot : Nat) (hset : ∀ n, Sparse.find s.evt.setAt n ≠ some s.now) :
    s.storedWord r inst i k v slot = r.stored (s.rdReg r inst i k slot) v := by
  have notSet : ∀ n, (Sparse.find s.evt.setAt n == some s.now) = false := fun n => beq_eq_false_iff_ne.mpr (hset n)
  unfold State.storedWord
  extract_lets old w
  split
  · exact foldl_eq_init_of_fixed (fun x b => by simp only [notSet, Bool.and_false, Bool.false_eq_true, if_false]) _ _
  · rfl

variable {who : Agent} {f : State → State}

theorem State.busWrite_of_right (h : s.verdict who r inst i k v bad = .right) :
    s.busWrite who r inst i k v bad f = s.violation 0 (r.addr inst i k) 0 := by
  simp [State.busWrite, h]

theorem State.busWrite_of_seal (h : s.verdict who r inst i k v bad = .sealMismatch) :
    s.busWrite who r inst i k v bad f = s.violation 1 (r.addr inst i k) 0 := by
  simp [State.busWrite, h]

theorem State.busWrite_of_rejected (h : s.verdict who r inst i k v bad = .rejected) :
    s.busWrite who r inst i k v bad f = s.rejectWrite := by
  simp [State.busWrite, h]

theorem State.busWrite_of_accepted (h : s.verdict who r inst i k v bad = .accepted) :
    s.busWrite who r inst i k v bad f =
      f (s.wrReg r inst i k (s.storedWord r inst i k v (s.writeSlot r inst)) (s.writeSlot r inst)) := by
  simp [State.busWrite, h]

end

/-- Settles O6: the first failing check of R11 alone acts, and each outcome counts in its own counter. -/
theorem writeChecksRunInOrder : Obligations.WriteChecksRunInOrder := by
  unfold Obligations.WriteChecksRunInOrder
  refine ⟨fun r inst i k v bad f s => ⟨?right, ?sealed, ?rejected, ?accepted⟩, ?violation, ?rejection⟩
  case right => exact fun hr => State.busWrite_of_right (State.verdict_right hr)
  case sealed => exact fun hr hs => State.busWrite_of_seal (State.verdict_seal hr hs)
  case rejected =>
    intro hr hs hbad
    exact State.busWrite_of_rejected ((State.verdict_passed hr hs).trans (if_pos hbad))
  case accepted =>
    intro hr hs hbad hload hup htest hfields hset
    have passed : s.verdict .host r inst i k v bad = .accepted :=
      (State.verdict_passed hr hs).trans (if_neg (by simpa [hbad, hload, hup, htest] using hfields))
    rw [State.busWrite_of_accepted passed, State.storedWord_eq_stored _ hset]
  case violation =>
    exact fun s kind addr op hc =>
      State.ctr_of_counts hc (s.violation_counts kind addr op) (by decide) (by decide) (by decide)
  case rejection =>
    exact fun s hc => State.ctr_of_counts hc s.rejectWrite_counts (by decide) (by decide) (by decide)

end Sys2Proof.Machine
end

section
/-! PROOFS. A PFC storm at a port (R105): what raising an event leaves alone, what the end of a hold leaves alone, the storm's whole
outcome, its clause where each port is listed once, and the refutation where one is listed twice. -/
namespace Sys2Proof.Machine
open Sys2Proof.Config

/-! ### What a raise leaves alone -/

/-- A relation between states that holds over a whole raise because it holds over each primitive of the event block: a change of its
own state, a register field, a message sent or held pending, a count of its own two counters. -/
structure RaiseClosed (R : State → State → Prop) : Prop where
  refl : ∀ s, R s s
  trans : ∀ {s t u}, R s t → R t u → R s u
  set_evt : ∀ (s : State) (e : Evt), R s { s with evt := e }
  set_hst : ∀ (s : State) (x : Hst), R s { s with hst := x }
  emit : ∀ (s : State) (o : Out), R s (s.emit o)
  wr : ∀ (s : State) (f : Fld) (v inst i k slot : Nat), R s (s.wr f v inst i k slot)
  bump : ∀ (s : State) (c : Ctr), c.key 0 ∈ eventCtrs → R s (s.bump c)

namespace RaiseClosed
variable {R : State → State → Prop} (h : RaiseClosed R)
include h

theorem evtMsix (s : State) (g : Nat) : R s (s.evtMsix g) := by
  have sent : ∀ v, R s (s.sendVec v) := fun v => by
    unfold State.sendVec
    split
    · exact h.set_hst s _
    · exact h.emit s _
  unfold State.evtMsix
  split
  · split
    · split
      · exact h.set_evt s _
      · exact h.trans (sent _) (h.set_evt _ _)
    · exact h.trans (sent _) (h.set_evt _ _)
  · exact h.refl s

theorem firstInMs (s : State) (key : Nat) : R s (s.firstInMs key).1 := by
  unfold State.firstInMs
  split
  · exact h.refl s
  · exact h.set_evt s _

theorem logAppend (s : State) (r : BitVec 128) : R s (s.logAppend r).1 := by
  unfold State.logAppend
  extract_lets w rd full evt s1 s2
  have written : R s s2 := h.trans (h.set_evt s _) (h.wr s1 _ _ _ _ _ _)
  split
  · exact h.trans (h.trans written (h.wr s2 _ _ _ _ _ _)) (h.bump _ .EVT_LOG_LOST (by decide))
  · exact written

theorem writeRec (s : State) (k : Nat) (r : BitVec 128) : R s (s.writeRec k r).1 := by
  have appended := h.logAppend s r
  cases happ : s.logAppend r with
  | mk t lost =>
    rw [happ] at appended
    rw [State.writeRec_of_logAppend happ]
    exact h.trans appended (h.set_evt t _)

theorem writeFold (s : State) (k : Nat) : R s (s.writeFold k).1 := by
  unfold State.writeFold
  split
  · split
    · exact h.refl s
    · exact h.writeRec s k _
  · exact h.refl s

theorem evtLog (s : State) (e : Source) (r : BitVec 128) : R s (s.evtLog e r).1 := by
  unfold State.evtLog
  extract_lets k
  have folded := h.writeFold s k
  split
  next t lost hfold =>
    rw [hfold] at folded
    split
    · exact h.trans folded (h.set_evt t _)
    · have written := h.trans folded (h.writeRec t k r)
      split
      next u more hrec => rwa [hrec] at written

theorem evtKpr (s : State) (r : BitVec 128) : R s (s.evtKpr r).1 := by
  unfold State.evtKpr
  split
  · exact h.set_evt s _
  · exact h.bump s .EVT_KPR_DROP (by decide)

theorem raiseOnce (s : State) (e : Source) (sc : Scope) (inst detail : Nat) : R s (s.raiseOnce e sc inst detail).1 := by
  unfold State.raiseOnce
  extract_lets was r st s1 again evt s2 s3
  have status : R s s1 := by
    unfold s1
    split
    · exact h.refl s
    · exact h.wr s _ _ _ _ _ _
  have marked : R s s2 := h.trans (h.trans status (h.set_evt s1 _)) (h.set_evt _ _)
  have sent : R s s3 := by
    unfold s3
    split
    · exact h.trans marked (h.evtMsix s2 _)
    · exact marked
  have copied : R s (if s3.evtRoute e .kpr then s3.evtKpr r else (s3, false)).1 := by
    split
    · exact h.trans sent (h.evtKpr s3 r)
    · exact sent
  split
  next s4 dropped hkpr =>
    rw [hkpr] at copied
    have logged : R s (if s4.evtRoute e .log then s4.evtLog e r else (s4, false)).1 := by
      split
      · exact h.trans copied (h.evtLog s4 e r)
      · exact copied
    split
    next s5 lost hlog => rwa [hlog] at logged

theorem raiseOwn (s : State) (e : Source) : R s (s.raiseOwn e) := by
  unfold State.raiseOwn
  have first := h.firstInMs s (e.key * 128)
  split
  next s1 isFirst hfirst =>
    rw [hfirst] at first
    split
    · exact h.trans first (h.raiseOnce s1 e .device 0 0)
    · exact first

theorem raise (s : State) (e : Source) (sc : Scope) (inst detail : Nat) : R s (s.raise e sc inst detail) := by
  unfold State.raise
  have raised := h.raiseOnce s e sc inst detail
  split
  next s1 lost dropped honce =>
    rw [honce] at raised
    extract_lets s2
    have after : R s s2 := by
      unfold s2
      split
      · exact h.trans raised (h.raiseOwn s1 _)
      · exact raised
    split
    · exact h.trans after (h.raiseOwn s2 _)
    · exact after

end RaiseClosed

theorem State.raise_keeps (s : State) (e : Source) (sc : Scope) (inst detail : Nat) : Keeps s (s.raise e sc inst detail) :=
  RaiseClosed.raise (R := Keeps)
    { refl := Keeps.refl, trans := Keeps.trans, set_evt := fun _ _ => ⟨rfl, rfl, id⟩, set_hst := fun _ _ => ⟨rfl, rfl, id⟩,
      emit := emit_keeps, wr := wr_keeps, bump := fun s c _ => bump_keeps s c 0 1 } s e sc inst detail

theorem State.raise_ports (s : State) (e : Source) (sc : Scope) (inst detail : Nat) :
    (s.raise e sc inst detail).ports = s.ports :=
  RaiseClosed.raise (R := fun s t => t.ports = s.ports)
    { refl := fun _ => rfl, trans := fun hst htu => htu.trans hst, set_evt := fun _ _ => rfl, set_hst := fun _ _ => rfl,
      emit := fun _ _ => rfl, wr := fun _ _ _ _ _ _ _ => rfl, bump := fun _ _ _ => rfl } s e sc inst detail

/-! ### One port of the table -/

/-- Different counters of ports never share a key. -/
theorem Ctr.key_ne {c d : Ctr} (hne : c.ctorIdx ≠ d.ctorIdx) {i j : Nat} (hi : i < 96) (hj : j < 96) : c.key i ≠ d.key j := by
  unfold Ctr.key
  omega

section
variable {s : State} (hw : Sparse.wf s.ports = true) (port : Nat) (x : Port)
include hw

/-- Where each port is listed once, a port reads back as it was stored. -/
theorem State.port_setPort_self : (s.setPort port x).port port = x := Sparse.get_put_self port x Port.init hw

theorem State.wf_ports_setPort : Sparse.wf (s.setPort port x).ports = true := Sparse.wf_put port x Port.init hw

end

/-! ### The end of a hold -/

/-- From `s` to `t` one port differs at most in the mark up to which its held time is counted, each port is still listed once, and of
the counters at most its TX_HELD_NS differs. -/
def CountsHeld (port : Nat) (s t : State) : Prop :=
  Sparse.wf t.ports = true ∧ (∃ m, t.port port = { s.port port with heldMark := m }) ∧
  ∀ (c : Ctr) (item : Nat), c.key item ≠ Ctr.TX_HELD_NS.key port → t.ctr c item = s.ctr c item

section
variable {s : State} (hw : Sparse.wf s.ports = true) (hc : s.Canon)
include hw

theorem CountsHeld.refl (port : Nat) : CountsHeld port s s := ⟨hw, ⟨_, rfl⟩, fun _ _ _ => rfl⟩

include hc

theorem State.countHeld_countsHeld (port : Nat) (cls : Nat → Bool) (express : Bool) (at_ upto : Nat) :
    CountsHeld port s (s.countHeld port cls express at_ upto) := by
  unfold State.countHeld
  split
  · split
    · exact ⟨State.wf_ports_setPort hw port _, ⟨upto, State.port_setPort_self hw port _⟩,
        fun c item hne => State.ctr_bump_ne _ _ c _ item _ hc hne⟩
    · exact .refl hw port
  · exact .refl hw port

theorem State.countPfc_countsHeld (port prio : Nat) : CountsHeld port s (s.countPfc port prio) := by
  unfold State.countPfc
  extract_lets p
  split
  · exact State.countHeld_countsHeld hw hc port _ _ _ _
  · exact .refl hw port

/-- The end of a running PFC hold erases its timer and leaves those of the port's other priorities; of the counters at most the port's
TX_HELD_NS differs. -/
theorem State.endPfc_of_running {port prio until_ : Nat} (hrun : Sparse.find (s.port port).pfcUntil prio = some until_) :
    Sparse.wf (s.endPfc port prio).ports = true ∧
    ((s.endPfc port prio).port port).pfcUntil = Sparse.erase (s.port port).pfcUntil prio ∧
    ∀ (c : Ctr) (item : Nat), c.key item ≠ Ctr.TX_HELD_NS.key port → (s.endPfc port prio).ctr c item = s.ctr c item := by
  obtain ⟨hwf, ⟨m, hport⟩, hctr⟩ := State.countPfc_countsHeld hw hc port prio
  simp only [State.endPfc, hrun]
  refine ⟨State.wf_ports_setPort hwf port _, ?_, hctr⟩
  rw [State.port_setPort_self hwf, hport]

end

/-! ### The storm -/

/-- The hold of priority `prio` keeps a class of a port, has lasted STORM_LIMIT, and is not yet noted as a storm (R105). -/
def State.StormDue (s : State) (port cls prio : Nat) : Prop :=
  (List.range 8).find? (fun k => s.pfcMaps port k cls && (Sparse.find (s.port port).pfcUntil k).isSome) = some prio ∧
  s.rdP Fld.PRT_PFC_STORM_STORM_LIMIT port ≠ 0 ∧
  Sparse.get (s.port port).holdFrom prio s.now + s.rdP Fld.PRT_PFC_STORM_STORM_LIMIT port * msClk ≤
    min s.now (Sparse.get (s.port port).pfcUntil prio 0) ∧
  Sparse.get (s.port port).stormed cls false = false

/-- A storm of a class is counted, raised and noted. -/
def State.noteStorm (s : State) (port cls : Nat) : State :=
  ((s.bump .PFC_STORMS port).raise Ev.PFC_STORM .port port).setPort port
    { s.port port with stormed := Sparse.insert (s.port port).stormed cls true }

/-- The port acts on PFC of a priority again only from a time on. -/
def State.ignorePfc (s : State) (port prio until_ : Nat) : State :=
  s.setPort port { s.port port with recover := Sparse.insert (s.port port).recover prio until_ }

/-- The port reads back as it was stored, whatever the table: with a priority ignored it is no port after reset. -/
theorem State.port_ignorePfc (s : State) (port prio until_ : Nat) :
    (s.ignorePfc port prio until_).port port =
      { s.port port with recover := Sparse.insert (s.port port).recover prio until_ } := by
  have hne : { s.port port with recover := Sparse.insert (s.port port).recover prio until_ } ≠ Port.init := fun hinit => by
    have emptied : Sparse.insert (s.port port).recover prio until_ = [] := congrArg Port.recover hinit
    have found := Sparse.find_insert_self (s.port port).recover prio until_
    rw [emptied] at found
    cases found
  unfold State.ignorePfc State.setPort Sparse.put
  rw [if_neg hne]
  exact Sparse.get_insert_self _ _ _ _

section
variable {s : State} {port cls prio : Nat}

/-- The hold of a storm is running. -/
theorem State.StormDue.running (hdue : s.StormDue port cls prio) : ∃ until_, Sparse.find (s.port port).pfcUntil prio = some until_ := by
  have found := List.find?_some hdue.1
  rw [Bool.and_eq_true] at found
  exact Option.isSome_iff_exists.mp found.2

/-- With STORM_ACT = 1 a storm is noted, its hold ends, and the port ignores the priority for RECOVER ms. -/
theorem exec_pfcStorm_of_act (hdue : s.StormDue port cls prio) (hact : s.onP Fld.PRT_PFC_STORM_STORM_ACT port = true) :
    exec (.pfcStorm port cls) s =
      .next (((s.noteStorm port cls).endPfc port prio).ignorePfc port prio (s.now + s.rdP Fld.PRT_PFC_STORM_RECOVER port * msClk)) := by
  obtain ⟨hfind, hlim, hheld, hnew⟩ := hdue
  change execPfcStorm port cls s = _
  simp only [execPfcStorm, hfind]
  rw [if_pos (by simp [hlim, hheld, hnew]), if_pos hact]
  rfl

/-- Where each port is listed once, noting a storm counts it and leaves the port's timers. -/
theorem State.noteStorm_of_wf_ports (hw : Sparse.wf s.ports = true) (hc : s.Canon) (hport : port < 96) :
    (s.noteStorm port cls).Canon ∧ Sparse.wf (s.noteStorm port cls).ports = true ∧
    ((s.noteStorm port cls).port port).pfcUntil = (s.port port).pfcUntil ∧
    (s.noteStorm port cls).ctr .PFC_STORMS port = s.ctr .PFC_STORMS port + 1 := by
  have hcount : (s.bump .PFC_STORMS port).Canon := (bump_keeps s .PFC_STORMS port 1).2.2 hc
  have hraise : Sparse.wf ((s.bump .PFC_STORMS port).raise Ev.PFC_STORM .port port).ports = true := by
    rwa [State.raise_ports]
  have hother : Ctr.PFC_STORMS.key port ∉ eventCtrs := by
    simp [eventCtrs, Ctr.key_ne (c := .PFC_STORMS) (d := .EVT_LOG_LOST) (by decide) hport (by decide : 0 < 96),
      Ctr.key_ne (c := .PFC_STORMS) (d := .EVT_KPR_DROP) (by decide) hport (by decide : 0 < 96)]
  refine ⟨(State.raise_keeps _ _ _ _ _).2.2 hcount, State.wf_ports_setPort hraise port _, ?_, ?_⟩
  · rw [State.noteStorm, State.port_setPort_self hraise]
  · exact ((CountsEventsOnly.raise _ _ _ _ _).ctr_eq hcount hother).trans (State.ctr_bump_self s _ port 1 hc)

/-- Where each port is listed once, a storm with STORM_ACT = 1 does what R105 says: it is counted, its hold ends, and the port acts on
the priority again after RECOVER ms. -/
theorem exec_pfcStorm_of_wf_ports (hw : Sparse.wf s.ports = true) (hc : s.Canon) (hport : port < 96)
    (hdue : s.StormDue port cls prio) (hact : s.onP Fld.PRT_PFC_STORM_STORM_ACT port = true) :
    ∃ t, exec (.pfcStorm port cls) s = .next t ∧
      (t.port port).pfcUntil = Sparse.erase (s.port port).pfcUntil prio ∧ t.ctr .PFC_STORMS port = s.ctr .PFC_STORMS port + 1 ∧
      Sparse.find (t.port port).recover prio = some (s.now + s.rdP Fld.PRT_PFC_STORM_RECOVER port * msClk) := by
  obtain ⟨until_, hrun⟩ := hdue.running
  obtain ⟨hcNote, hwNote, hpfcNote, hctrNote⟩ := State.noteStorm_of_wf_ports (cls := cls) hw hc hport
  obtain ⟨hwEnd, hpfcEnd, hctrEnd⟩ := State.endPfc_of_running hwNote hcNote (hpfcNote ▸ hrun)
  refine ⟨_, exec_pfcStorm_of_act hdue hact, ?pfc, ?count, ?recover⟩
  case pfc =>
    rw [State.port_ignorePfc]
    exact hpfcEnd.trans (by rw [hpfcNote])
  case count => exact (hctrEnd .PFC_STORMS port (Ctr.key_ne (by decide) hport hport)).trans hctrNote
  case recover =>
    rw [State.port_ignorePfc]
    exact Sparse.find_insert_self _ _ _

end

/-! ### A port listed twice -/

/-- Port 0, held by PFC of priority 0 from 0 to 100 ms and otherwise as after reset. -/
def stormPort : Port := { Port.init with pfcUntil := [(0, 100 * msClk)], holdFrom := [(0, 0)] }

/-- 100 ms after reset with STORM_ACT = 1 at port 0, whose entry stands in front of a second one with a timer of priority 1. -/
def stormTwiceListed : State :=
  { State.reset.wrP Fld.PRT_PFC_STORM_STORM_ACT 0 1 with
    now := 100 * msClk
    ports := [(0, stormPort), (0, { Port.init with pfcUntil := [(1, 0)] })] }

theorem stormTwiceListed_stormDue : stormTwiceListed.StormDue 0 0 0 := by
  unfold State.StormDue
  decide +kernel

/-- The end of the hold gives the first entry the reset value, which erases it, so that the port is read from the second one. -/
theorem stormTwiceListed_uncovers : (((stormTwiceListed.noteStorm 0 0).endPfc 0 0).port 0).pfcUntil = [(1, 0)] := by
  decide +kernel

/-- Refutes O15, in its clause (3) with STORM_ACT = 1: the canonical form asks nothing of the port table.  Where a port is listed twice
the end of its hold uncovers the second entry, whose timers are not those of the held port less the ended one.
`exec_pfcStorm_of_wf_ports` is the clause where each port is listed once. -/
theorem not_pauseAndPfcComplete : ¬ Obligations.PauseAndPfcComplete := by
  unfold Obligations.PauseAndPfcComplete
  rintro ⟨-, -, storm, -⟩
  obtain ⟨hfind, hlim, hheld, hnew⟩ := stormTwiceListed_stormDue
  have hcanon : stormTwiceListed.Canon := by decide +kernel
  have hact : stormTwiceListed.onP Fld.PRT_PFC_STORM_STORM_ACT 0 = true := by decide +kernel
  obtain ⟨t, hexec, hpfc, -, -⟩ := (storm 0 0 0 stormTwiceListed hfind hlim hheld hnew hcanon (by decide)).2 hact
  rw [exec_pfcStorm_of_act stormTwiceListed_stormDue hact] at hexec
  injection hexec with ht
  rw [← ht, State.port_ignorePfc] at hpfc
  exact absurd (stormTwiceListed_uncovers.symm.trans hpfc) (by decide +kernel)

end Sys2Proof.Machine
end

section
/-! PROOFS. MKA_HELLO_SEND of a port without live peers (R132): its outcome, what an injected error leaves alone, its clause in the
canonical form, and the refutation outside of it. -/
namespace Sys2Proof.Machine
open Sys2Proof.Config

/-! ### What a write of the SecY leaves alone -/

/-- A field reads by its item's word and parity mark alone. -/
theorem State.rd_congr {s t : State} (hregs : t.regs = s.regs) (hbad : t.bad = s.bad) (f : Fld) (inst i k slot : Nat) :
    t.rd f inst i k slot = s.rd f inst i k slot := by
  unfold State.rd State.rdReg
  rw [hregs, hbad]

/-- A write of an injection target touches no port, pin or reset. -/
theorem State.injectFire_frame (s : State) (target inst word : Nat) :
    (s.injectFire target inst word).ports = s.ports ∧ (s.injectFire target inst word).pins = s.pins ∧
      (s.injectFire target inst word).rst = s.rst := by
  unfold State.injectFire
  extract_lets
  split
  · split <;> exact ⟨rfl, rfl, rfl⟩
  · exact ⟨rfl, rfl, rfl⟩

/-- In the canonical form a write of an injection target changes no register but the two that show the armed injection (R780). -/
theorem State.rd_injectFire {s : State} (hc : s.Canon) (target inst word : Nat) {f : Fld} {inst' i k slot : Nat}
    (hcfg : f.reg.key inst' i k slot ≠ Reg.DGN_INJ_CFG.key 0 0 0) (hstatus : f.reg.key inst' i k slot ≠ Reg.DGN_STATUS.key 0 0 0) :
    (s.injectFire target inst word).rd f inst' i k slot = s.rd f inst' i k slot := by
  unfold State.injectFire
  extract_lets s1 dgn waits planted dgn' t
  have counted : t.rd f inst' i k slot = s.rd f inst' i k slot := State.rd_congr rfl rfl f _ _ _ _
  have canon : t.Canon := (bump_keeps _ _ _ _).2.2 hc
  split
  · split
    · exact counted
    · rw [State.rd_wr_ne _ _ _ _ _ _ _ _ _ _ _ _ ((wr_keeps t _ _ _ _ _ _).2.2 canon) hstatus, State.rd_wr_ne _ _ _ _ _ _ _ _ _ _ _ _ canon hcfg,
        counted]
  · exact State.rd_congr rfl rfl f _ _ _ _

section
variable (s : State) (port : Nat) (y : SecY)

/-- A SecY other than that of reset reads back as it was stored, whatever the table. -/
theorem State.secy_setSecy (h : y ≠ Port.init.secy) : (s.setSecy port y).secy port = y := by
  have changed : { s.port port with secy := y } ≠ Port.init := fun hinit => h (congrArg Port.secy hinit)
  unfold State.secy State.port State.setSecy
  rw [(State.injectFire_frame _ _ _ _).1]
  simp only [State.setPort, Sparse.put, if_neg changed, Sparse.get_insert_self]

/-- In the canonical form a write of the SecY changes no register that lies above the one that arms an injection. -/
theorem State.rd_setSecy (hc : s.Canon) {f : Fld} (inst i k slot : Nat) (habove : Reg.DGN_INJ_CFG.key 0 0 0 < f.reg.base) :
    (s.setSecy port y).rd f inst i k slot = s.rd f inst i k slot := by
  have atBase : f.reg.base ≤ f.reg.key inst i k slot := by
    unfold Reg.key Reg.addr
    omega
  have order : Reg.DGN_STATUS.key 0 0 0 < Reg.DGN_INJ_CFG.key 0 0 0 := by decide
  exact (State.rd_injectFire (s := s.setPort port { s.port port with secy := y }) hc 10 port 0 (by omega) (by omega)).trans
    (State.rd_congr rfl rfl f _ _ _ _)

theorem State.portUp_setSecy (hc : s.Canon) (p : Nat) : (s.setSecy port y).portUp p = s.portUp p := by
  simp (disch := decide) only [State.portUp, State.bundleOf, State.rdP, State.on, State.rd_setSecy s port y hc]

theorem State.txDriven_setSecy (hc : s.Canon) (p : Nat) : (s.setSecy port y).txDriven p = s.txDriven p := by
  have phase : (s.setSecy port y).rd Fld.RST_STATUS_PHASE = s.rd Fld.RST_STATUS_PHASE :=
    State.rd_injectFire (s := s.setPort port { s.port port with secy := y }) hc 10 port 0 (by decide) (by decide)
  have frame := (s.setPort port { s.port port with secy := y }).injectFire_frame 10 port 0
  have pins : (s.setSecy port y).pins = s.pins := frame.2.1
  have rst : (s.setSecy port y).rst = s.rst := frame.2.2
  simp (disch := decide) only [State.txDriven, State.txOn, phase, pins, rst, State.rd_setSecy s port y hc]

end

/-! ### The hello of a port without live peers -/

/-- The hello time has come: the next hello is due a hello time later, and the member number is one up (R132). -/
def State.countHello (s : State) (port : Nat) : State :=
  s.setSecy port { s.secy port with helloAt := s.now + s.mkaHello port, member := (s.secy port).member + 1 }

/-- The count of a hello touches no peer. -/
theorem SecY.live_of_hello (y : SecY) (due number : Nat) : { y with helloAt := due, member := number }.live = y.live := rfl

theorem State.live_countHello (s : State) (port : Nat) : ((s.countHello port).secy port).live = (s.secy port).live := by
  have numbered : { s.secy port with helloAt := s.now + s.mkaHello port, member := (s.secy port).member + 1 } ≠ Port.init.secy := by
    intro hinit
    have unnumbered : Port.init.secy.member = 0 := rfl
    rw [← hinit] at unnumbered
    exact Nat.succ_ne_zero _ unnumbered
  unfold State.countHello
  rw [State.secy_setSecy s port _ numbered, SecY.live_of_hello]

section
variable {s : State} {port : Nat} {e : Nat × CakSlot} (hen : s.onP Fld.MSC_PORT_CFG_EN port = true)
  (hdue : (s.secy port).helloAt ≤ s.now) (hcak : s.caks port = [e]) (halone : (s.secy port).live = [])
include hen hdue hcak halone

/-- Without live peers a port owes no SAK: it sends its MKPDU where, after the hello has been counted, it is UP and its transmitter runs. -/
theorem exec_mkaHelloSend_of_alone :
    exec (.mkaHelloSend port) s =
      .next (if ((s.countHello port).portUp port && (s.countHello port).txDriven port) = true then
        (s.countHello port).emit (.mkpdu port ((s.countHello port).ownMkpdu port e.1 e.2)) else s.countHello port) := by
  have alone : ((s.countHello port).secy port).live = [] := (s.live_countHello port).trans halone
  have due : ¬((!s.onP Fld.MSC_PORT_CFG_EN port || decide (s.now < (s.secy port).helloAt)) = true) := by
    simp [hen, hdue]
  change execMkaHelloSend port s = _
  unfold execMkaHelloSend
  rw [if_neg due, hcak]
  unfold State.countHello at alone ⊢
  simp [alone]

/-- In the canonical form an UP port without live peers whose transmitter runs sends the MKPDU of its one association. -/
theorem exec_mkaHelloSend_of_canon (hc : s.Canon) (hup : s.portUp port = true) (htx : s.txDriven port = true) :
    exec (.mkaHelloSend port) s =
      .next ((s.countHello port).emit (.mkpdu port ((s.countHello port).ownMkpdu port e.1 e.2))) := by
  have up : (s.countHello port).portUp port = true := (s.portUp_setSecy port _ hc port).trans hup
  have tx : (s.countHello port).txDriven port = true := (s.txDriven_setSecy port _ hc port).trans htx
  rw [exec_mkaHelloSend_of_alone hen hdue hcak halone, up, tx]
  rfl

/-- A port whose transmitter no longer runs once the hello has been counted sends nothing. -/
theorem exec_mkaHelloSend_of_quiet (hquiet : (s.countHello port).txDriven port = false) :
    exec (.mkaHelloSend port) s = .next (s.countHello port) := by
  rw [exec_mkaHelloSend_of_alone hen hdue hcak halone, hquiet, Bool.and_false]
  rfl

end

/-! ### A parity mark out of order -/

/-- A usable CAK of port 88. -/
def helloCak : CakSlot := ⟨0, 0, 16, [88], false, true, false⟩

/-- Port 88 is UP with MACsec and one CAK, all phases of the release are over, and an injection is armed for the port's SA state.  Behind
the parity mark of DGN_STATUS stands one of RST_STATUS, whose key is lower, so that it is not found. -/
def helloHiddenMark : State :=
  let up := ((State.reset.wr Fld.RST_STATUS_PHASE 9).wrP Fld.MSC_PORT_CFG_EN 88 1).wrP Fld.PRT_LINK_STATUS_STATE 88 3
  let armed := ((up.wr Fld.DGN_INJ_CFG_TARGET 10).wr Fld.DGN_INJ_CFG_INSTANCE 88).wr Fld.DGN_INJ_CFG_ARM 1
  { armed with
    rind := { armed.rind with keys := [(0, helloCak)] }
    bad := [(Reg.DGN_STATUS.key 0 0 0, true), (Reg.RST_STATUS.key 0 0 0, true)] }

/-- The injection fires at the write of the SecY, which rewrites DGN_STATUS and so erases its parity mark: the one of RST_STATUS is found,
PHASE reads as after reset, and the transmitter counts as not yet on. -/
theorem helloHiddenMark_uncovers : (helloHiddenMark.countHello 88).txDriven 88 = false := by
  decide +kernel

/-- Refutes O16, in the second half of its clause (2): that half asks no canonical form.  Where the parity marks are not listed by rising
key, the count of the hello, which fires an injection, can uncover a mark of RST_STATUS, and the port sends nothing.
`exec_mkaHelloSend_of_canon` is the same half in the canonical form. -/
theorem not_macsecKeyAgreementCompletes : ¬ Obligations.MacsecKeyAgreementCompletes := by
  unfold Obligations.MacsecKeyAgreementCompletes
  rintro ⟨-, -, sends, -⟩
  have hen : helloHiddenMark.onP Fld.MSC_PORT_CFG_EN 88 = true := by decide +kernel
  have hdue : (helloHiddenMark.secy 88).helloAt ≤ helloHiddenMark.now := by decide +kernel
  have hcak : helloHiddenMark.caks 88 = [(0, helloCak)] := by decide +kernel
  have halone : (helloHiddenMark.secy 88).live = [] := by decide +kernel
  have hup : helloHiddenMark.portUp 88 = true := by decide +kernel
  have htx : helloHiddenMark.txDriven 88 = true := by decide +kernel
  have sent := sends 88 (0, helloCak) helloHiddenMark _ hen hdue hcak halone hup htx rfl
  rw [exec_mkaHelloSend_of_quiet hen hdue hcak halone helloHiddenMark_uncovers] at sent
  injection sent with same
  exact List.cons_ne_self _ _ (congrArg State.out same).symm

end Sys2Proof.Machine
end

section
/-! PROOFS. The parser and the rule stage: a packet whose window is in, the lookups with the tables off, and damaged registers and
rows. -/
namespace Sys2Proof.Machine
open Sys2Proof.Config

/-! ### The stages behind the rules, while they are off -/

section
variable (u : State) (p : Packet) (prof : Option Nat)

/-- With the route stage off no route is looked up. -/
theorem State.routeStage_of_off (h : u.on Fld.LPM_CTRL_EN p.pipe = false) : u.routeStage p prof = (u, none) := by
  cases prof with
  | none => rfl
  | some i => simp only [State.routeStage, h, Bool.not_false, Bool.true_or, if_true]

/-- With the exact-match stage off the learn probe finds nothing. -/
theorem State.probe_of_off (h : u.on Fld.EXM_CTRL_EN p.pipe = false) : u.probe p prof = (u, none) := by
  cases prof with
  | none => rfl
  | some i => simp only [State.probe, h, Bool.false_and, Bool.false_eq_true, if_false]

end

/-! ### The lookups of a packet -/

section
variable {s u : State} {n : Nat} {r : RuleEnd}

/-- A packet whose epoch is gone is discarded before any table is looked up (R183). -/
theorem State.lookup_of_straggler (hrule : s.ruleStage n = (u, r)) (h : r.straggler = true) :
    s.lookup n = (u.discard n).bump .RBK_EPOCH_STRAGGLERS (s.pkt n).pipe := by
  simp only [State.lookup, hrule, h, if_true]

/-- With the exact-match and route stages off and no trap, a packet is decided by the rules alone: a rule fault drops it, and otherwise
its verdict settles it. -/
theorem State.lookup_of_tables_off (hrule : s.ruleStage n = (u, r)) (hcur : r.straggler = false)
    (hem : u.on Fld.EXM_CTRL_EN (s.pkt n).pipe = false) (hlpm : u.on Fld.LPM_CTRL_EN (s.pkt n).pipe = false)
    (htrap : s.trapOf (s.pkt n) = .no) :
    s.lookup n =
      let v := (u.lookupDone n).attach n r .none 0
      if r.fault = true then (v.discard n).bump .RBK_FAULT_DROP (s.pkt n).pipe
      else (((v.setPkt n { v.pkt n with dest := .none }).mirrorCopy n 0 (s.pkt n).parse 0).settle n r .none).1 := by
  obtain ⟨prof, act, ruler, won, rule0, fault, straggler⟩ := r
  cases prof <;> cases fault <;>
    simp [State.lookup, hrule, hcur, hem, htrap, State.routeStage_of_off, State.probe_of_off, hlpm, State.decider, State.learnNote]

variable {w : State}

theorem State.settle_of_drop (h : ActWord.VERDICT.get r.act = 2) :
    (w.settle n r .none).1 = (w.discard n).bump .RBK_DROP (w.pkt n).port := by
  simp [State.settle, h]

theorem State.settle_of_redirect (h : ActWord.VERDICT.get r.act = 5) :
    (w.settle n r .none).1 =
      w.setPkt n { w.pkt n with dest := .port (ActWord.DEST.get r.act), tag := 0, stage := .flow } := by
  simp [State.settle, h]

/-- A packet to which neither the rules nor the tables give a destination is discarded. -/
theorem State.settle_of_no_dest (h : ActWord.VERDICT.get r.act = 0) :
    (w.settle n r .none).1 = (w.discard n).bump .EXM_NO_DEST (w.pkt n).port := by
  simp [State.settle, h]

end

/-! ### LOOKUP_MERGE and PARSE_COMPLETE -/

/-- What the default action does with a packet whose parse result has been delivered and counted (R154, R156). -/
def State.takeDefault (t : State) (n : Nat) (p : Packet) (malformed : Bool) : State :=
  let reason := if malformed then 2 else 1
  if p.defaultAct = 1 then (t.discard n).bump .PRS_ACT_DROP p.port
  else if p.defaultAct = 2 then (t.bump .PRS_ACT_HOST p.port).toHost n reason 0 .PRS_HOST_UNAVAIL
  else if p.defaultAct = 3 then (t.bump .PRS_ACT_COPY p.port).copyToHost n reason 0 .PRS_HOST_UNAVAIL
  else t

section
variable {s : State} {n : Nat} (hlisted : (Sparse.find s.pkts n).isSome = true)
  (hfirst : s.behind n = false)
include hlisted hfirst

/-- The oldest packet at the rule stage goes to the keepers from the uncontrolled port, and is looked up otherwise (R118). -/
theorem exec_lookupMerge_of_oldest (hstage : (s.pkt n).stage = .parsed) :
    exec (.lookupMerge n) s =
      .next (if (s.pkt n).uncontrolled = true then s.atPolicer n { s.pkt n with dest := .port 101 } else s.lookup n) := by
  have listed : (Sparse.find s.pkts n).isNone = false := by rw [← Option.not_isSome, hlisted, Bool.not_true]
  change execLookupMerge n s = _
  cases hun : (s.pkt n).uncontrolled <;> simp [execLookupMerge, hstage, listed, hfirst, hun]

/-- The oldest packet at the parser whose window is in, and which is no errored short packet, takes its parse result, is counted, and
meets its default action. -/
theorem exec_parseComplete_of_window {p q x w : Packet} {short final : Bool} {r : BitVec 256} {c : Nat × Nat}
    (hp : s.pkt n = p) (hstage : p.stage = .parsing) (hwindow : 256 ≤ p.frame.length ∨ p.ended.isSome = true)
    (hshort : short = (p.ended.isSome && decide (p.frame.length + 4 ≤ 256)))
    (hgood : short = false ∨ p.pass ≠ 0 ∨ p.ended ≠ some true) (hq : q = { p with orig := p.frame })
    (hr : r = parseWindow p.pcfg q.window (if short then some (p.frame.length + 4) else none) p.port p.pass)
    (hx : x = { q with parse := r, express := ParseRes.EXPRESS.on r, stage := if ParseRes.EXPRESS.on r then .express else .parsed,
                       csum := if ParseRes.EXPRESS.on r then none else p.csum })
    (hc : c = s.csumsOf x) (hfinal : final = (short || (p.pass == 1 && p.ended.isSome)))
    (hw : w = { x with parse := withCsums r (if final || c.1 == 0 then c.1 else 3) (if final || c.2 == 0 then c.2 else 3) }) :
    exec (.parseComplete n) s = .next (((s.setPkt n w).countParse w).takeDefault n w (prMalformed r)) := by
  have taken : ¬(((s.pkt n).stage != .parsing || (Sparse.find s.pkts n).isNone || s.behind n) = true) := by
    rw [hp, ← Option.not_isSome, hlisted, hfirst, hstage]
    decide
  have windowIn : ¬((decide (p.frame.length < 256) && p.ended.isNone) = true) := by
    rw [← Option.not_isSome, Bool.and_eq_true, decide_eq_true_eq, Bool.not_eq_true']
    rintro ⟨hlen, hopen⟩
    rcases hwindow with hfull | hended
    · omega
    · rw [hopen] at hended
      cases hended
  have notErrored : ¬((short && p.pass == 0 && p.ended == some true) = true) := by
    simp only [Bool.and_eq_true, beq_iff_eq]
    rintro ⟨⟨hs, h0⟩, hbad⟩
    rcases hgood with h | h | h
    · rw [h] at hs
      cases hs
    · exact h h0
    · exact h hbad
  subst hp
  change execParseComplete n s = _
  unfold execParseComplete State.takeDefault
  rw [if_neg taken, if_neg windowIn]
  simp only [apply_ite Host.Outcome.next]
  subst hw hfinal hc hx hr hq hshort
  rw [if_neg notErrored]

end

/-! ### Damaged registers and rows -/

theorem exec_prsParityCheck_of_regAt {pipe a : Nat} {x : RegItem} (s : State) (hat : regAt a = some x) (hblk : x.reg.blk = 15)
    (hinst : x.inst = pipe) :
    exec (.prsParityCheck pipe (some a)) s = .next ((s.damage a).raise Ev.PRS_CFG_PARITY .pipeline pipe a) := by
  change Host.Outcome.next (s.parityAt 15 pipe a fun _ t => (t.damage a).raise Ev.PRS_CFG_PARITY .pipeline pipe a) = _
  simp only [State.parityAt, hat, hblk, hinst, and_self, if_true]

/-- A scrub read that the tide admits reads every row; what it names is counted or marks its row. -/
theorem exec_rbkScrub_of_admitted {pipe : Nat} {s u : State} (corrected : Nat) (bad : Option Nat)
    (hcharge : s.charge (pipe + 1) actScrub 1 rowScrubTag = (u, true)) :
    exec (.rbkScrub pipe corrected bad) s =
      let z := u.readRows pipe (2 ^ 32 - 1)
      let counted := if corrected = 0 then z else z.bump .RBK_ECC_CORRECTED pipe corrected
      match bad with
      | some row => .next (counted.rowBad pipe row)
      | none => .next counted := by
  change execRbkScrub pipe corrected bad s = _
  cases bad <;> simp [execRbkScrub, hcharge]

theorem exec_rbkParityCheck_of_perSlot {pipe slot a : Nat} (s : State) (haddr : perSlotAddr pipe a = true) :
    exec (.rbkParityCheck pipe slot (some a)) s =
      .next ((s.setRbk pipe { s.rbk pipe with badCfg := Sparse.insert (s.rbk pipe).badCfg (a + slot * 0x100000000) true }).raise
        Ev.RBK_CFG_PARITY .pipeline pipe a) :=
  if_pos haddr

/-! ### The statement -/

/-- Settles O17: a packet at the parser takes its result and its default action, one at the rule stage is settled by the rules where no
table is on, and damage is noted and raised. -/
theorem parserAndLookupsComplete : Obligations.ParserAndLookupsComplete := by
  unfold Obligations.ParserAndLookupsComplete
  refine ⟨?parse, ?lookup, ?parity, ?scrub, ?perSlot⟩
  case parse =>
    intro n p q x w short final r c t s hp hlisted hstage hfirst hwindow hshort hgood hq hr hx hc hfinal hw ht
    have delivered := exec_parseComplete_of_window hlisted hfirst hp hstage hwindow hshort hgood hq hr hx hc hfinal hw
    have port : w.port = p.port := by subst hw hx hq; rfl
    rw [delivered, ← ht]
    refine ⟨?forward, ?drop, ?host, ?copy⟩ <;> intro hact <;> simp [State.takeDefault, hact, port]
  case lookup =>
    intro n p r u v w s hp hlisted hstage hfirst hu hr hv hw
    subst hp
    have hrule : s.ruleStage n = (u, r) := Prod.ext hu.symm hr.symm
    have merged := exec_lookupMerge_of_oldest hlisted hfirst hstage
    refine ⟨fun hun => merged.trans (by rw [if_pos hun]), fun hun hgone => ?straggler, fun hun hcur hem hlpm htrap => ?rules⟩
    case straggler => rw [merged, if_neg (by simp [hun]), State.lookup_of_straggler hrule hgone]
    case rules =>
      have ruled := State.lookup_of_tables_off hrule hcur hem hlpm htrap
      rw [← hv] at ruled
      simp only [← hw] at ruled
      rw [merged, if_neg (by simp [hun]), ruled]
      refine ⟨fun hfault => by rw [if_pos hfault], fun hok hdrop => ?_, fun hok hnone => ?_, fun hok hredirect => ?_⟩
      · rw [if_neg (by simp [hok]), State.settle_of_drop hdrop]
      · rw [if_neg (by simp [hok]), State.settle_of_no_dest hnone]
      · rw [if_neg (by simp [hok]), State.settle_of_redirect hredirect]
  case parity => exact fun pipe a x s hat hblk hinst => exec_prsParityCheck_of_regAt s hat hblk hinst
  case scrub =>
    intro pipe k row u s hcharge
    exact ⟨exec_rbkScrub_of_admitted (k + 1) none hcharge, _, rfl, exec_rbkScrub_of_admitted 0 (some row) hcharge⟩
  case perSlot => exact fun pipe slot a s haddr => exec_rbkParityCheck_of_perSlot s haddr

end Sys2Proof.Machine
end

section
/-! PROOFS. The drain of a disabled block (R736): what a stored word reads back, a write of a CTRL register that clears EN, and the end
of the drain. -/
namespace Sys2Proof.Machine
open Sys2Proof.Config

/-! ### What a stored word reads back -/

/-- What an accepted write does to one field of the word (Table 0.2). -/
def FieldDesc.store (old v w : Word) (f : FieldDesc) : Word :=
  match f.access with
  | .rw | .seal => setBitsOf w f.lo f.width (bitsOf v f.lo f.width)
  | .w1c => setBitsOf w f.lo f.width (Nat.land (bitsOf old f.lo f.width) (2 ^ f.width - 1 - bitsOf v f.lo f.width))
  | .w1s => setBitsOf w f.lo f.width (Nat.lor (bitsOf old f.lo f.width) (bitsOf v f.lo f.width))
  | .ro | .rc | .wo | .reserved => w

theorem Reg.stored_eq_foldl (r : Reg) (old v : Word) : r.stored old v = r.fields.foldl (FieldDesc.store old v) old := rfl

theorem FieldDesc.store_of_rw {f : FieldDesc} (old v w : Word) (h : f.access = .rw) :
    f.store old v w = setBitsOf w f.lo f.width (bitsOf v f.lo f.width) := by
  simp only [FieldDesc.store, h]

/-- Storing a field leaves the bits below it alone. -/
theorem FieldDesc.bitsOf_store_below {f : FieldDesc} {lo width : Nat} (old v w : Word) (hfit : f.lo + f.width ≤ 32)
    (hbelow : lo + width ≤ f.lo) : bitsOf (f.store old v w) lo width = bitsOf w lo width := by
  cases haccess : f.access <;> simp only [FieldDesc.store, haccess, bitsOf_setBitsOf_below _ _ _ _ _ _ hfit hbelow]

theorem FieldDesc.bitsOf_foldl_store_below {l : List FieldDesc} {lo width : Nat} (old v w : Word)
    (h : ∀ f ∈ l, f.lo + f.width ≤ 32 ∧ lo + width ≤ f.lo) :
    bitsOf (l.foldl (FieldDesc.store old v) w) lo width = bitsOf w lo width := by
  induction l generalizing w with
  | nil => rfl
  | cons f l ih =>
    obtain ⟨⟨hfit, hbelow⟩, hrest⟩ := List.forall_mem_cons.mp h
    rw [List.foldl_cons, ih _ hrest]
    exact f.bitsOf_store_below old v w hfit hbelow

/-- The fields list a RW field at these bits, and all that follow it lie above it. -/
def storesField (lo width : Nat) : List FieldDesc → Prop
  | [] => False
  | f :: l =>
    (f = ⟨lo, width, .rw, f.ranges⟩ ∧ lo + width ≤ 32 ∧ ∀ g ∈ l, g.lo + g.width ≤ 32 ∧ lo + width ≤ g.lo) ∨ storesField lo width l

theorem bitsOf_foldl_store_of_storesField {l : List FieldDesc} {lo width : Nat} (old v w : Word) (h : storesField lo width l) :
    bitsOf (l.foldl (FieldDesc.store old v) w) lo width = bitsOf v lo width := by
  induction l generalizing w with
  | nil => exact h.elim
  | cons f l ih =>
    rw [List.foldl_cons]
    rcases h with ⟨hf, hfit, habove⟩ | hlater
    · rw [FieldDesc.bitsOf_foldl_store_below old v _ habove, hf, FieldDesc.store_of_rw old v w rfl,
        bitsOf_setBitsOf_self _ _ _ _ hfit]
      exact Nat.mod_mod _ _
    · exact ih _ hlater

/-- After an accepted write a RW field reads what the write carried. -/
theorem State.rd_wrReg_stored {s : State} (hc : s.Canon) (f : Fld) (hf : storesField f.lo f.width f.reg.fields) (inst i k : Nat)
    (old v : Word) : (s.wrReg f.reg inst i k (f.reg.stored old v)).rd f inst i k = f.of v := by
  unfold State.rd
  rw [s.rdReg_wrReg_self _ _ _ _ _ _ hc, Reg.stored_eq_foldl]
  exact bitsOf_foldl_store_of_storesField old v old hf

/-! ### A write that clears EN -/

/-- A register without W1C fields takes the word of Table 0.2 whatever hardware sets in this clock. -/
theorem State.storedWord_of_no_w1c (s : State) {r : Reg} (inst i k : Nat) (v : Word) (slot : Nat)
    (h : r.fields.any (fun f => f.access == .w1c) = false) :
    s.storedWord r inst i k v slot = r.stored (s.rdReg r inst i k slot) v :=
  if_neg (ne_true_of_eq_false h)

theorem State.writeSlot_of_single (s : State) {r : Reg} (inst : Nat) (h : r.perSlot = false) : s.writeSlot r inst = 0 :=
  if_neg (ne_true_of_eq_false h)

/-- The state after a write of a CTRL register that clears EN: the word stored, the drain limit running. -/
def State.disabled (s : State) (r : Reg) (inst : Nat) (v : Word) (limit : Nat) : State :=
  (s.wrReg r inst 0 0 (r.stored (s.rdReg r inst 0 0) v)).startDrain r.blk inst limit

/-- An accepted write that clears EN of a block that was on stores its word and starts the drain (R736). -/
theorem State.ctrlWrite_of_cleared {s : State} {who : Agent} {r : Reg} {en quiet : Fld} {inst limit : Nat} {v : Word}
    {off extra : Bool} {onSet : State → State} (hsingle : r.perSlot = false)
    (hw1c : r.fields.any (fun f => f.access == .w1c) = false) (hwas : s.on en inst = true) (hclear : en.onIn v = false)
    (hextra : extra = false) (hok : s.verdict who r inst 0 0 v off = .accepted) :
    s.ctrlWrite who r en quiet inst v limit off extra onSet = s.disabled r inst v limit := by
  have accepted : s.verdict who r inst 0 0 v ((s.on en inst && !en.onIn v && off) || extra) = .accepted := by
    simpa [hwas, hclear, hextra] using hok
  unfold State.ctrlWrite
  simp only [State.busWrite_of_accepted accepted, s.writeSlot_of_single inst hsingle, s.storedWord_of_no_w1c inst 0 0 v 0 hw1c]
  simp only [hwas, hclear, Bool.false_and, Bool.not_false, Bool.and_self, Bool.false_eq_true, if_false, if_true]
  rfl

/-- A RW field of the CTRL register reads what the write carried, also while the drain runs. -/
theorem State.on_disabled {s : State} (hc : s.Canon) (f : Fld) (hf : storesField f.lo f.width f.reg.fields) (inst : Nat) (v : Word)
    (limit : Nat) : (s.disabled f.reg inst v limit).on f inst = f.onIn v :=
  congrArg (· == 1) (State.rd_wrReg_stored hc f hf inst 0 0 _ v)

section
variable {s : State} {who : Agent} {pipe : Nat} {v : Word} (hc : s.Canon)
include hc

/-- The exact-match stage that is disabled is held as having been on: changes wait (R219). -/
theorem exec_exmDisable_of_cleared (hwas : s.on Fld.EXM_CTRL_EN pipe = true) (hclear : Fld.EXM_CTRL_EN.onIn v = false)
    (hok : s.verdict who Reg.EXM_CTRL pipe 0 0 v (s.on Fld.PRS_CTRL_EN pipe) = .accepted) :
    exec (.exmDisable who pipe v) s =
      let t := s.disabled Reg.EXM_CTRL pipe v usClk
      .next (t.setExm pipe { t.exm pipe with exmHeld := true }) := by
  have off : (s.disabled Reg.EXM_CTRL pipe v usClk).on Fld.EXM_CTRL_EN pipe = false :=
    (State.on_disabled hc Fld.EXM_CTRL_EN (by simp [storesField, Fld.EXM_CTRL_EN, Reg.EXM_CTRL]) pipe v usClk).trans hclear
  change Host.Outcome.next (s.exmCtrlWrite who pipe v) = _
  unfold State.exmCtrlWrite
  rw [State.ctrlWrite_of_cleared rfl rfl hwas hclear rfl hok]
  simp only [hwas, off, reduceCtorEq, beq_iff_eq, if_false]

/-- The route stage that is disabled is held as having been on: changes wait (R219). -/
theorem exec_lpmDisable_of_cleared (hwas : s.on Fld.LPM_CTRL_EN pipe = true) (hclear : Fld.LPM_CTRL_EN.onIn v = false)
    (hok : s.verdict who Reg.LPM_CTRL pipe 0 0 v (s.on Fld.PRS_CTRL_EN pipe) = .accepted) :
    exec (.lpmDisable who pipe v) s =
      let t := s.disabled Reg.LPM_CTRL pipe v usClk
      .next (t.setExm pipe { t.exm pipe with lpmHeld := true }) := by
  have off : (s.disabled Reg.LPM_CTRL pipe v usClk).on Fld.LPM_CTRL_EN pipe = false :=
    (State.on_disabled hc Fld.LPM_CTRL_EN (by simp [storesField, Fld.LPM_CTRL_EN, Reg.LPM_CTRL]) pipe v usClk).trans hclear
  change Host.Outcome.next (s.lpmCtrlWrite who pipe v) = _
  unfold State.lpmCtrlWrite
  rw [State.ctrlWrite_of_cleared rfl rfl hwas hclear rfl hok]
  simp only [hwas, off, reduceCtorEq, beq_iff_eq, if_false]

/-- Learning that is disabled with SWEEP_EN and WALK_EN as they were keeps its pass and its walk (R250). -/
theorem exec_lrnDisable_of_cleared (hwas : s.on Fld.LRN_CTRL_EN pipe = true) (hclear : Fld.LRN_CTRL_EN.onIn v = false)
    (hsweep : Fld.LRN_CTRL_SWEEP_EN.of v = s.rd Fld.LRN_CTRL_SWEEP_EN pipe)
    (hwalk : Fld.LRN_CTRL_WALK_EN.of v = s.rd Fld.LRN_CTRL_WALK_EN pipe)
    (hok : s.verdict who Reg.LRN_CTRL pipe 0 0 v false = .accepted) :
    exec (.lrnDisable who pipe v) s =
      let t := s.disabled Reg.LRN_CTRL pipe v (100 * usClk)
      .next (t.setLrn pipe (t.lrn pipe)) := by
  have sweep : s.on Fld.LRN_CTRL_SWEEP_EN pipe = (s.disabled Reg.LRN_CTRL pipe v (100 * usClk)).on Fld.LRN_CTRL_SWEEP_EN pipe :=
    (congrArg (· == 1) hsweep.symm).trans
      (State.on_disabled hc Fld.LRN_CTRL_SWEEP_EN (by simp [storesField, Fld.LRN_CTRL_SWEEP_EN, Reg.LRN_CTRL]) pipe v _).symm
  have walk : s.on Fld.LRN_CTRL_WALK_EN pipe = (s.disabled Reg.LRN_CTRL pipe v (100 * usClk)).on Fld.LRN_CTRL_WALK_EN pipe :=
    (congrArg (· == 1) hwalk.symm).trans
      (State.on_disabled hc Fld.LRN_CTRL_WALK_EN (by simp [storesField, Fld.LRN_CTRL_WALK_EN, Reg.LRN_CTRL]) pipe v _).symm
  change Host.Outcome.next (s.lrnCtrlWrite who pipe v) = _
  unfold State.lrnCtrlWrite
  rw [State.ctrlWrite_of_cleared rfl rfl hwas hclear rfl hok]
  simp only [sweep, walk, beq_self_eq_true, if_true]

end

/-! ### The end of the drain -/

section
variable {s : State} {blk inst : Nat}

theorem State.reportQuiet_of_quietFld {f : Fld} (hf : quietFld blk = some f) :
    s.reportQuiet blk inst = (s.stopDrain blk inst).wr f 1 inst := by
  simp only [State.reportQuiet, hf]

theorem exec_stageQuiet_of_idle (hdrain : s.draining blk inst = true) (hidle : s.busyBlock blk inst = false) :
    exec (.stageQuiet blk inst) s = .next (s.reportQuiet blk inst) := by
  change execStageQuiet blk inst s = _
  simp only [execStageQuiet, hdrain, hidle, Bool.not_false, Bool.and_self, if_true]

section
variable (hover : s.drainOver blk inst = true) (hblk : blk ≠ 29)
include hover hblk

/-- At the drain limit a block that holds no work reports QUIET, and raises nothing. -/
theorem exec_drainLimitExpiry_of_idle (hidle : s.busyBlock blk inst = false) :
    exec (.drainLimitExpiry blk inst) s = .next (s.reportQuiet blk inst) := by
  change execDrainLimitExpiry blk inst s = _
  unfold execDrainLimitExpiry
  rw [if_pos (by simp [hover, hblk])]
  cases drainEvent blk <;> simp [hidle]

/-- At the drain limit the work that a block still holds is discarded, and its event raised (Table 25.7). -/
theorem exec_drainLimitExpiry_of_busy {e : Source} (hbusy : s.busyBlock blk inst = true) (he : drainEvent blk = some e) :
    exec (.drainLimitExpiry blk inst) s = .next (((s.discardRest blk inst).reportQuiet blk inst).raise e .pipeline inst) := by
  change execDrainLimitExpiry blk inst s = _
  unfold execDrainLimitExpiry
  rw [if_pos (by simp [hover, hblk])]
  simp only [hbusy, he, if_true]

end
end

/-! ### The statement -/

/-- Settles O18: an accepted write that clears EN stores its word and starts the drain, and the drain ends in QUIET or at its limit. -/
theorem pipelineBlocksDrainWhenDisabled : Obligations.PipelineBlocksDrainWhenDisabled := by
  unfold Obligations.PipelineBlocksDrainWhenDisabled
  refine ⟨?parser, ?rules, ?editor, ?exact, ?routes, ?flow, ?sessions, ?learning, ?quiet, ?idleLimit, ?busyLimit⟩
  case parser | rules | editor =>
    exact fun who pipe v s hwas hclear hok =>
      congrArg Host.Outcome.next (State.ctrlWrite_of_cleared rfl rfl hwas hclear rfl hok)
  case exact =>
    rintro who pipe v t s hc - hwas hclear hok rfl
    exact exec_exmDisable_of_cleared hc hwas hclear hok
  case routes =>
    rintro who pipe v t s hc - hwas hclear hok rfl
    exact exec_lpmDisable_of_cleared hc hwas hclear hok
  case flow | sessions =>
    exact fun who pipe v s hwas hclear hok =>
      congrArg Host.Outcome.next (State.ctrlWrite_of_cleared rfl rfl hwas hclear (by rw [hclear, Bool.false_and]) hok)
  case learning =>
    rintro who pipe v t s hc - hwas hclear hsweep hwalk hok rfl
    exact exec_lrnDisable_of_cleared hc hwas hclear hsweep hwalk hok
  case quiet =>
    intro blk inst f s hdrain hidle hf
    rw [exec_stageQuiet_of_idle hdrain hidle, State.reportQuiet_of_quietFld hf]
  case idleLimit =>
    intro blk inst f s hover hblk hidle hf
    rw [exec_drainLimitExpiry_of_idle hover hblk hidle, State.reportQuiet_of_quietFld hf]
  case busyLimit => exact fun blk inst e s hover hblk hbusy he => exec_drainLimitExpiry_of_busy hover hblk hbusy he

end Sys2Proof.Machine
end

section
/-! PROOFS. RULE_DELETE of a member row (R179, R185): the state it leaves, its clause where each pipeline's banks are listed once, and the
refutation where they are listed twice. -/
namespace Sys2Proof.Machine

/-! ### What leaves the rule banks alone -/

section
variable (s : State)

theorem State.admitLent_rbks (g act charge l : Nat) : (s.admitLent g act charge l).rbks = s.rbks := by
  unfold State.admitLent
  extract_lets
  split <;> rfl

theorem State.charge_rbks (g act charge tag : Nat) : (s.charge g act charge tag).1.rbks = s.rbks := by
  unfold State.charge
  extract_lets t
  by_cases hfree : charge = 0
  · rw [if_pos hfree]
  by_cases hgranted : t.granted.contains (act, tag) = true
  · rw [if_neg hfree, if_pos hgranted]
    rfl
  by_cases hwaits : t.waiting.any (fun r => r.act == act && r.tag == tag) = true
  · rw [if_neg hfree, if_neg hgranted, if_pos hwaits]
  by_cases hidle : t.idle act = true
  · rw [if_neg hfree, if_neg hgranted, if_neg hwaits, if_pos hidle]
    split
    · rfl
    · exact s.admitLent_rbks g act charge _
    · rfl
  · rw [if_neg hfree, if_neg hgranted, if_neg hwaits, if_neg hidle]
    rfl

/-- Putting charges to gates one after another leaves the rule banks. -/
theorem State.foldl_charge_rbks (tag : Nat) (charges : List (Nat × Nat × Nat)) :
    (charges.foldl (fun t e => (State.charge t e.1 e.2.1 e.2.2 tag).1) s).rbks = s.rbks := by
  induction charges generalizing s with
  | nil => rfl
  | cons e charges ih => exact (ih _).trans (s.charge_rbks _ _ _ _)

theorem State.chargeAll_rbks (charges : List (Nat × Nat × Nat)) (tag : Nat) : (s.chargeAll charges tag).1.rbks = s.rbks := by
  unfold State.chargeAll
  extract_lets put
  split <;> exact s.foldl_charge_rbks tag _

/-- A change of a table that is charged, or waits for its tides, has written no rule bank yet. -/
theorem State.chargeWrite_rbks (tag : Nat) (i : Instr) (p act cost : Nat) (blocks : List (Nat × Nat)) :
    (s.chargeWrite tag i p act cost blocks).1.rbks = s.rbks := by
  have charged := s.chargeAll_rbks (writeCharges blocks p act cost) tag
  unfold State.chargeWrite
  split
  next t heq => rwa [heq] at charged
  next t heq => rwa [heq] at charged

theorem State.injectFire_rbks (target inst word : Nat) : (s.injectFire target inst word).rbks = s.rbks := by
  unfold State.injectFire
  extract_lets
  split
  · split <;> rfl
  · rfl

theorem State.ruleDone_rbks (pipe : Nat) : (s.ruleDone pipe).rbks = s.rbks := by
  unfold State.ruleDone
  split <;> rfl

theorem State.reply_rbks (tag : Nat) (st : MbxStatus) (done detail data : Nat) (final : Bool) :
    (s.reply tag st done detail data final).rbks = s.rbks := by
  unfold State.reply
  split
  · split
    · rfl
    · extract_lets
      split <;> rfl
  · split <;> rfl

end

/-! ### The row of a deleted rule -/

/-- The rule banks of a pipeline with one row replaced. -/
def Rbk.putRow (x : Rbk) (idx : Nat) (r : BitVec 322) : Rbk := { x with rows := Sparse.put x.rows idx r 0 }

/-- A row of a rule loses its member bit of a slot, and the change of the rule set counts one more delete. -/
def State.dropMember (s : State) (pipe idx slot : Nat) (old : BitVec 322) : State :=
  ((s.setRbk pipe ((s.rbk pipe).putRow idx (setMember old slot false))).touch pipe shRow idx).ruleDone pipe

section
variable {s : State} (hw : Sparse.wf s.rbks = true) (pipe : Nat)
include hw

/-- Where each pipeline's banks are listed once, they read back as they were stored. -/
theorem State.rbk_setRbk_self (x : Rbk) : (s.setRbk pipe x).rbk pipe = x := Sparse.get_put_self pipe x Rbk.init hw

/-- Where each pipeline's banks are listed once, the shadow of a row takes its contents and leaves the rows: of the banks it may clear
the row's fault alone. -/
theorem State.rows_touch_row (block : Nat) : ((s.touch pipe shRow block).rbk pipe).rows = (s.rbk pipe).rows := by
  unfold State.touch
  extract_lets k d l tag t f u
  have cleared : (f.rbk pipe).rows = (s.rbk pipe).rows := by
    unfold f
    split
    · change ((t.setRbk pipe { s.rbk pipe with faulty := Sparse.put (s.rbk pipe).faulty block false false }).rbk pipe).rows = _
      rw [State.rbk_setRbk_self (s := t) hw]
    · rfl
  have fired : (u.injectFire 11 pipe k).rbks = f.rbks := (u.injectFire_rbks _ _ _).trans (f.injectFire_rbks _ _ _)
  unfold State.rbk at cleared ⊢
  rw [fired, cleared]

theorem State.rows_dropMember (idx slot : Nat) (old : BitVec 322) :
    ((s.dropMember pipe idx slot old).rbk pipe).rows = Sparse.put (s.rbk pipe).rows idx (setMember old slot false) 0 := by
  have stored : Sparse.wf (s.setRbk pipe ((s.rbk pipe).putRow idx (setMember old slot false))).rbks = true :=
    Sparse.wf_put pipe _ Rbk.init hw
  unfold State.dropMember State.rbk
  rw [State.ruleDone_rbks]
  exact (State.rows_touch_row stored pipe idx).trans (congrArg Rbk.rows (State.rbk_setRbk_self hw pipe _))

end

section
variable {s u : State} {tag pipe bank row slot idx : Nat} {old : BitVec 322} (hrun : s.mbxRunsAt tag opRuleDelete pipe = true)
  (hopen : s.openSlot pipe = some slot) (hrow : row < 2048) (hidx : idx = s.groupBank pipe bank * 2048 + row)
  (hold : old = Sparse.get (s.rbk pipe).rows idx 0) (hmember : rowMember old slot = true)
  (hcharge : s.chargeWrite tag (.ruleDelete tag pipe bank row) pipe actHost 1 [(shRow, idx)] = (u, true))
include hrun hopen hrow hidx hold hmember hcharge

/-- RULE_DELETE of a row with a member bit in the open slot, once its tides admit it. -/
theorem exec_ruleDelete_of_member :
    exec (.ruleDelete tag pipe bank row) s = .next ((u.dropMember pipe idx slot old).reply tag .ok 0 0 0 true) := by
  subst hidx hold
  change execRuleDelete tag pipe bank row s = _
  simp only [execRuleDelete, hrun, hopen, hmember, hcharge, Nat.not_le.mpr hrow, decide_false, Bool.not_true, Bool.or_false,
    Bool.false_eq_true, if_false]
  rfl

/-- Where each pipeline's banks are listed once, RULE_DELETE clears the member bit of the row, and answers OK. -/
theorem exec_ruleDelete_of_wf_rbks (hw : Sparse.wf s.rbks = true) :
    ∃ t : State, exec (.ruleDelete tag pipe bank row) s = .next (t.reply tag .ok 0 0 0 true) ∧
      (t.rbk pipe).rows = Sparse.put (u.rbk pipe).rows idx (setMember old slot false) 0 := by
  have charged : u.rbks = s.rbks := by
    have kept := s.chargeWrite_rbks tag (.ruleDelete tag pipe bank row) pipe actHost 1 [(shRow, idx)]
    rwa [hcharge] at kept
  exact ⟨_, exec_ruleDelete_of_member hrun hopen hrow hidx hold hmember hcharge,
    State.rows_dropMember (charged ▸ hw) pipe idx slot old⟩

end

/-! ### Rule banks listed twice -/

/-- A row that matches every key, with a member bit in slot 0 alone. -/
def bareRule : BitVec 322 := setMember 0 0 true

/-- While the image loads, its loader runs RULE_DELETE at pipeline 3, open for loading, whose banks hold one rule of slot 0, in row 0, and
are otherwise as after reset.  In the table a second entry stands behind them, whose rule is in row 1. -/
def rulesTwiceListed : State :=
  { State.reset.wr Fld.RST_STATUS_PHASE 6 with
    rbks := [(3, { Rbk.init with rows := [(0, bareRule)] }), (3, { Rbk.init with rows := [(1, bareRule)] })] }

/-- The same state once the delete of row 0 has been charged. -/
def rulesTwiceCharged : State := (rulesTwiceListed.chargeWrite loaderTag (.ruleDelete loaderTag 3 0 0) 3 actHost 1 [(shRow, 0)]).1

/-- The delete gives the first entry the reset value, which erases it, so that the banks are read from the second one. -/
theorem rulesTwiceListed_uncovers : ((rulesTwiceCharged.dropMember 3 0 0 bareRule).rbk 3).rows = [(1, bareRule)] := by
  decide +kernel

/-- Refutes O19, in the second half of its clause (4): that half asks nothing of the table of rule banks.  Where a pipeline's banks are
listed twice, the delete of the last rule of the first entry uncovers the second one, whose rows are not those of the first less the
deleted one.  `exec_ruleDelete_of_wf_rbks` is the same half where each pipeline's banks are listed once. -/
theorem not_ruleSetsSwapByEpoch : ¬ Obligations.RuleSetsSwapByEpoch := by
  unfold Obligations.RuleSetsSwapByEpoch
  rintro ⟨-, -, -, delete, -⟩
  have hrun : rulesTwiceListed.mbxRunsAt loaderTag opRuleDelete 3 = true := by decide +kernel
  have hopen : rulesTwiceListed.openSlot 3 = some 0 := by decide +kernel
  have hrow : 0 < 2048 := by decide
  have hidx : 0 = rulesTwiceListed.groupBank 3 0 * 2048 + 0 := by decide +kernel
  have hold : bareRule = Sparse.get (rulesTwiceListed.rbk 3).rows 0 0 := by decide +kernel
  have hmember : rowMember bareRule 0 = true := by decide +kernel
  have admitted : (rulesTwiceListed.chargeWrite loaderTag (.ruleDelete loaderTag 3 0 0) 3 actHost 1 [(shRow, 0)]).2 = true := by
    decide +kernel
  have hcharge : rulesTwiceListed.chargeWrite loaderTag (.ruleDelete loaderTag 3 0 0) 3 actHost 1 [(shRow, 0)] =
      (rulesTwiceCharged, true) :=
    Prod.ext rfl admitted
  obtain ⟨t, hexec, hrows⟩ :=
    (delete loaderTag 3 0 0 0 0 bareRule rulesTwiceCharged rulesTwiceListed hrun hopen hrow hidx hold).2 hmember hcharge
  rw [exec_ruleDelete_of_member hrun hopen hrow hidx hold hmember hcharge] at hexec
  injection hexec with same
  have banks : (rulesTwiceCharged.dropMember 3 0 0 bareRule).rbks = t.rbks := by
    have replied := congrArg State.rbks same
    rwa [State.reply_rbks, State.reply_rbks] at replied
  have uncovered := rulesTwiceListed_uncovers
  unfold State.rbk at uncovered hrows
  rw [banks, hrows] at uncovered
  exact absurd uncovered (by decide +kernel)

end Sys2Proof.Machine
end

section
/-! PROOFS. Exact-match entries and routes (R207 to R219): a change that stands at a pipeline is refused there or written there, a hit
read, a scrub read, and damaged registers. -/
namespace Sys2Proof.Machine
open Sys2Proof.Config

/-! ### A change that stands at a pipeline -/

section
variable {s u : State} {tag op act p : Nat} {i : Instr} {pipes rest : List Nat} {ok : Bool} {h : Change}
  {write : State → Nat → PipeWrite} {after : State} {cost : Nat} {old : Option (BitVec 512)} {blocks : List (Nat × Nat)}
  (hat : s.AtPipe tag op i pipes ok h p rest)
include hat

/-- A change with good operands goes on in the pipeline it stands at. -/
theorem State.replicate_of_atPipe :
    s.replicate tag op i pipes act (if ok = true then none else some .badKey) write = s.writeNext tag act h p rest write :=
  s.replicate_atPipe tag op i pipes act _ write h p rest (by cases ok <;> exact hat)

/-- A change that its pipeline refuses, with nothing to wait for, is answered so and undone (R210). -/
theorem State.replicate_of_refused {st : MbxStatus} (hwrite : write s p = ⟨after, cost, some st, old, false, blocks⟩) :
    s.replicate tag op i pipes act (if ok = true then none else some .badKey) write = after.refusedAt tag act h p st := by
  rw [State.replicate_of_atPipe hat]
  simp only [State.writeNext, hwrite, Bool.false_eq_true, if_false]

/-- A change that its pipeline takes, with nothing to wait for and the tides admitting it, is written as the table then stands. -/
theorem State.replicate_of_admitted {after' : State} {cost' : Nat} {no : Option MbxStatus} {old' : Option (BitVec 512)} {waits : Bool}
    {blocks' : List (Nat × Nat)} (hwrite : write s p = ⟨after, cost, none, old, false, blocks⟩)
    (hadmit : s.admitAt tag h p act cost blocks = (u, true)) (hthen : write u p = ⟨after', cost', no, old', waits, blocks'⟩) :
    s.replicate tag op i pipes act (if ok = true then none else some .badKey) write = after'.wroteAt tag h p rest old' := by
  rw [State.replicate_of_atPipe hat]
  simp only [State.writeNext, hwrite, hadmit, hthen, Bool.false_eq_true, if_false]

end

/-- Operands that are bad before any write are answered so. -/
theorem State.replicate_of_badKey {s : State} {tag op act : Nat} {i : Instr} {pipes : List Nat} {ok : Bool} {h : Change}
    {write : State → Nat → PipeWrite} (hrun : s.mbxRuns tag op = true) (hchange : s.changeOf tag i pipes = some h)
    (hfirst : h.undo = []) (hbad : ok = false) :
    s.replicate tag op i pipes act (if ok = true then none else some .badKey) write = s.reply tag .badKey 0 0 0 true := by
  simp [State.replicate, hrun, hchange, hfirst, hbad]

/-! ### Exact-match changes -/

section
variable {s t u : State} {tag pipe c key p : Nat} {rest : List Nat} {h : Change} (hheld : s.emHeld p = false)

section
variable {cls meta_ : Nat} {static : Bool} {word : BitVec 32} {e : BitVec 512}
  (hat : s.AtPipe tag opEmInsert (.emInsert tag pipe c key static cls word meta_) (s.emPipes pipe c)
    (s.emKeyOk pipe c key && s.resultOk word) h p rest)
  (he : e = emMake (s.sectWide p c) static false c cls key word meta_) (hblocked : s.emBlocked p e = false)
include hheld hat he hblocked

/-- An insert that R207 refuses is answered so, and undone in the earlier pipelines. -/
theorem exec_emInsert_of_refused {st : MbxStatus}
    (hend : s.emInsert p e = (t, .duplicate) ∧ st = .duplicate ∨ s.emInsert p e = (t, .full) ∧ st = .full) :
    exec (.emInsert tag pipe c key static cls word meta_) s = .next (t.refusedAt tag actLearn h p st) := by
  subst he
  refine congrArg Host.Outcome.next (State.replicate_of_refused (cost := 0) (old := none) (blocks := []) hat ?_)
  obtain ⟨hend, rfl⟩ | ⟨hend, rfl⟩ := hend <;> simp only [hend, hheld, hblocked, Bool.or_self]

/-- An insert is written where R207 puts it in the table as it stands once its charge is admitted. -/
theorem exec_emInsert_of_admitted {m n : Nat} {v : State} {d : BitVec 512} (hend : s.emInsert p e = (t, .ok m))
    (hadmit : s.admitAt tag h p actLearn (4 + 2 * m) (s.emBlocks p c (s.emPlan p e).places) = (u, true))
    (hd : d = emMake (u.sectWide p c) static false c cls key word meta_) (hwritten : u.emInsert p d = (v, .ok n)) :
    exec (.emInsert tag pipe c key static cls word meta_) s =
      .next ((v.lrnReport p c (v.entryNote p d) 0).wroteAt tag h p rest none) := by
  subst he hd
  apply congrArg Host.Outcome.next
  apply State.replicate_of_admitted hat (hadmit := hadmit)
  · simp only [hend, hheld, hblocked, Bool.or_self]
    rfl
  · simp only [hwritten]
    rfl

end

section
variable {f : Nat → State}

theorem State.emEntry_of_none (hnone : s.emHeldAt p c key = none) :
    s.emEntry p c key f = ⟨s, 0, some .notFound, none, s.emHeld p || s.emFaulty p c key, []⟩ := by
  simp only [State.emEntry, hnone]

theorem State.emEntry_of_some {k : Nat} (hsome : s.emHeldAt p c key = some k) :
    s.emEntry p c key f =
      ⟨f k, 4, none, some ((s.exm p).at k), s.emHeld p || s.emBlocked p ((s.exm p).at k), s.emBlocks p c [k]⟩ := by
  simp only [State.emEntry, hsome]

end

section
variable {op : Nat} {i : Instr} {ok : Bool} (hat : s.AtPipe tag op i (s.emPipes pipe c) (s.emKeyOk pipe c key && ok) h p rest)
  (edit : State → Nat → Nat → State)
include hheld hat

/-- A change of the entry of a key that no place holds is NOT_FOUND. -/
theorem State.emChange_of_none (hnone : s.emHeldAt p c key = none) (hsound : s.emFaulty p c key = false) :
    s.emChange tag op i pipe c key ok (fun t p => t.emEntry p c key (edit t p)) = s.refusedAt tag actLearn h p .notFound := by
  apply State.replicate_of_refused hat
  rw [State.emEntry_of_none hnone, hheld, hsound, Bool.or_self]

/-- A change of the entry that holds a key is made at the place it then has, and keeps what stood there for its undoing. -/
theorem State.emChange_of_some {k j : Nat} (hsome : s.emHeldAt p c key = some k) (hblocked : s.emBlocked p ((s.exm p).at k) = false)
    (hadmit : s.admitAt tag h p actLearn 4 (s.emBlocks p c [k]) = (u, true)) (hthen : u.emHeldAt p c key = some j) :
    s.emChange tag op i pipe c key ok (fun t p => t.emEntry p c key (edit t p)) =
      (edit u p j).wroteAt tag h p rest (some ((u.exm p).at j)) := by
  apply State.replicate_of_admitted hat (hadmit := hadmit) (hthen := State.emEntry_of_some hthen)
  rw [State.emEntry_of_some hsome, hheld, hblocked, Bool.or_self]

end

end

/-! ### Reading hit bits -/

section
variable {s u : State} {tag pipe c key : Nat} (hrun : s.mbxRuns tag opEmHitRead = true) (hkey : s.emKeyOk pipe c key = true)
  (hcharge : s.chargeAll ((s.emPipes pipe c).map (fun p => (p + 1, actHost, 1))) tag = (u, true))
include hrun hkey hcharge

theorem exec_emHitRead_of_absent (habsent : u.emPlaces pipe c key = []) :
    exec (.emHitRead tag pipe c key) s = .next (u.reply tag .notFound 0 0 0 true) := by
  change execEmHitRead tag pipe c key s = _
  simp [execEmHitRead, hrun, hkey, hcharge, habsent]

/-- A hit read answers the OR of the hit bits of the places of its key, and clears each. -/
theorem exec_emHitRead_of_places {places : List (Nat × Nat)} (hplaces : u.emPlaces pipe c key = places) (hsome : places ≠ []) :
    exec (.emHitRead tag pipe c key) s =
      .next ((places.foldl (fun t e => t.setExm e.1 { t.exm e.1 with hits := Sparse.erase (t.exm e.1).hits e.2 }) u).reply tag .ok 0 0
        (places.any (fun e => Sparse.get (u.exm e.1).hits e.2 false)).toNat true) := by
  change execEmHitRead tag pipe c key s = _
  simp [execEmHitRead, hrun, hkey, hcharge, hplaces, hsome]

end

/-! ### Routes -/

section
variable {s u : State} {tag op vrf len a p : Nat} {i : Instr} {v6 ok : Bool} {word : Option (BitVec 32)} {rest : List Nat} {h : Change}
  (hat : s.AtPipe tag op i allPipes (prefixOk v6 len a && ok) h p rest) (hwaits : s.routeWaits p (routeKey vrf v6 len a) = false)
include hat hwaits

theorem State.routeChange_add_of_present (hthere : (Sparse.find (s.exm p).routes (routeKey vrf v6 len a)).isSome = true) :
    s.routeChange tag op i vrf v6 len a ok true word = s.refusedAt tag actHost h p .duplicate := by
  refine State.replicate_of_refused (cost := 0) (old := none) (blocks := []) hat ?_
  simp only [hwaits, hthere, Bool.and_self, if_true]

theorem State.routeChange_add_of_full (hnone : Sparse.find (s.exm p).routes (routeKey vrf v6 len a) = none)
    (hfull : 524288 < s.rd Fld.LPM_STATUS_UNITS_USED p + routeUnits v6) :
    s.routeChange tag op i vrf v6 len a ok true word = (s.raise Ev.LPM_FULL .pipeline p).refusedAt tag actHost h p .full := by
  refine State.replicate_of_refused (cost := 0) (old := none) (blocks := []) hat ?_
  simp [hwaits, hnone, hfull]

theorem State.routeChange_add_of_admitted (hnone : Sparse.find (s.exm p).routes (routeKey vrf v6 len a) = none)
    (hroom : s.rd Fld.LPM_STATUS_UNITS_USED p + routeUnits v6 ≤ 524288)
    (hadmit : s.admitAt tag h p actHost 1 [(shRoute, vrf)] = (u, true))
    (hstill : Sparse.find (u.exm p).routes (routeKey vrf v6 len a) = none)
    (hleft : u.rd Fld.LPM_STATUS_UNITS_USED p + routeUnits v6 ≤ 524288) :
    s.routeChange tag op i vrf v6 len a ok true word = (u.putRoute p (routeKey vrf v6 len a) word).wroteAt tag h p rest none := by
  apply State.replicate_of_admitted hat (hadmit := hadmit)
  · simp only [hwaits, hnone, Nat.not_lt.mpr hroom, Option.isSome_none, Bool.and_false, Bool.not_true, Bool.false_and, decide_false,
      Bool.false_eq_true, if_false, Option.map_none]
    rfl
  · simp only [hstill, Nat.not_lt.mpr hleft, Option.isSome_none, Bool.and_false, Bool.not_true, Bool.false_and, decide_false,
      Bool.false_eq_true, if_false, Option.map_none]
    rfl

/-- A change of a route that is not there is NOT_FOUND. -/
theorem State.routeChange_of_missing (hnone : Sparse.find (s.exm p).routes (routeKey vrf v6 len a) = none) :
    s.routeChange tag op i vrf v6 len a ok false word = s.refusedAt tag actHost h p .notFound := by
  refine State.replicate_of_refused (cost := 0) (old := none) (blocks := []) hat ?_
  simp [hwaits, hnone]

/-- A change of a route that is there removes it or gives it its new word, and keeps the word that stood there for its undoing. -/
theorem State.routeChange_of_present {w : BitVec 32} (hthere : (Sparse.find (s.exm p).routes (routeKey vrf v6 len a)).isSome = true)
    (hadmit : s.admitAt tag h p actHost 1 [(shRoute, vrf)] = (u, true))
    (hthen : Sparse.find (u.exm p).routes (routeKey vrf v6 len a) = some w) :
    s.routeChange tag op i vrf v6 len a ok false word =
      (u.putRoute p (routeKey vrf v6 len a) word).wroteAt tag h p rest (some (w.setWidth 512)) := by
  apply State.replicate_of_admitted hat (hadmit := hadmit)
  · simp only [hwaits, Option.isNone_eq_false_iff.mpr hthere, Bool.and_false, Bool.false_and, Bool.false_eq_true, if_false]
    rfl
  · simp only [hthen, Option.isNone_some, Bool.and_false, Bool.false_and, Bool.false_eq_true, if_false, Option.map_some]
    rfl

end

/-! ### Scrub reads and damaged registers -/

/-- What an uncorrectable error that a scrub read names marks, by its kind, and the event it raises (R217, R371, R458). -/
def State.markFound (u : State) (pipe kind k : Nat) : State :=
  let x := u.exm pipe
  match kind with
  | 0 | 1 => u.emBad pipe k
  | 2 => (u.setExm pipe { x with faultyRoutes := Sparse.insert x.faultyRoutes k true }).raise Ev.LPM_ECC .pipeline pipe
  | 8 => (u.setExm pipe { x with faultyExp := Sparse.insert x.faultyExp k true }).raise Ev.GTE_TABLE_ECC .pipeline pipe k
  | 9 => (u.setGateFault (24 * pipe + k / 256 % 24) (k % 256) true).raise Ev.GTE_TABLE_ECC .pipeline pipe k
  | 10 => (u.setBlockFaulty pipe 10 k true).raise Ev.SCH_CFG_ECC .pipeline pipe k
  | 11 => (u.setBlockFaulty pipe 11 k true).raise Ev.POL_CFG_ECC .pipeline pipe k
  | resource => (u.setExm pipe { x with faultyRes := Sparse.insert x.faultyRes ((resource - 4) * 65536 + k) true }).raise Ev.EDT_TABLE_ECC
      .pipeline pipe k

section
variable {s u : State} {pipe : Nat} (hread : s.scrubRead pipe = (u, true))
include hread

/-- A scrub read that names no bad word counts what it corrected. -/
theorem exec_tableScrub_of_corrected (em lpm kind : Nat) :
    exec (.tableScrub pipe em lpm kind none) s =
      let t := if em = 0 then u else u.bump .EXM_ECC_CORRECTED pipe em
      .next (if lpm = 0 then t else t.bump .LPM_ECC_CORRECTED pipe lpm) := by
  change execTableScrub pipe em lpm kind none s = _
  simp [execTableScrub, hread]

theorem exec_tableScrub_of_bad (kind k : Nat) : exec (.tableScrub pipe 0 0 kind (some k)) s = .next (u.markFound pipe kind k) := by
  change execTableScrub pipe 0 0 kind (some k) s = _
  unfold State.markFound
  split
  case h_8 _ notBucket notSlot notRoute notExpress notGate notElement notPolicer =>
    have notEntry : ¬kind < 2 := by
      have : kind ≠ 0 := notBucket
      have : kind ≠ 1 := notSlot
      omega
    simp only [execTableScrub, hread, if_neg notEntry, if_neg notRoute, if_neg notElement, if_neg notPolicer, if_neg notExpress,
      if_neg notGate, Bool.not_true, Bool.false_eq_true, if_false, if_true]
  all_goals simp [execTableScrub, hread]

end

/-- A damaged register of the exact-match, route or edit stage acts at its reset value, and raises its stage's event. -/
theorem exec_exmParityCheck_of_regAt {pipe a : Nat} {x : RegItem} {e : Source} (s : State) (hat : regAt a = some x) (hinst : x.inst = pipe)
    (hblk : (x.reg.blk, e) ∈ [(17, Ev.EXM_CFG_PARITY), (18, Ev.LPM_CFG_PARITY), (22, Ev.EDT_CFG_PARITY)]) :
    exec (.exmParityCheck pipe (some a)) s = .next ((s.damage a).raise e .pipeline pipe a) := by
  change execExmParityCheck pipe (some a) s = _
  simp only [List.mem_cons, Prod.mk.injEq, List.not_mem_nil, or_false] at hblk
  obtain ⟨hblk, rfl⟩ | ⟨hblk, rfl⟩ | ⟨hblk, rfl⟩ := hblk <;>
    simp [execExmParityCheck, State.parityAt, hat, hblk, hinst]

/-! ### The statement -/

/-- Settles O20: a change goes on in the pipeline it stands at, which refuses it or writes it; a hit read answers and clears the hit bits;
a scrub read and a parity check mark what they find. -/
theorem tablesTakeChanges : Obligations.TablesTakeChanges := by
  unfold Obligations.TablesTakeChanges
  refine ⟨?insert, ?delete, ?modify, ?hits, ?add, ?change, ?scrub, ?parity⟩
  case insert =>
    intro tag pipe c key cls meta_ p static word rest h e s
    refine ⟨fun hrun hchange hfirst hbad => congrArg Host.Outcome.next (State.replicate_of_badKey hrun hchange hfirst hbad),
      fun hat he hheld hblocked => ⟨fun hend => ?_, fun hend => ?_, fun m n u d hend hadmit hd hwritten => ?_⟩⟩
    · exact exec_emInsert_of_refused hheld hat he hblocked (.inl ⟨Prod.ext rfl hend, rfl⟩)
    · exact exec_emInsert_of_refused hheld hat he hblocked (.inr ⟨Prod.ext rfl hend, rfl⟩)
    · exact exec_emInsert_of_admitted hheld hat he hblocked (Prod.ext rfl hend) hadmit hd (Prod.ext rfl hwritten)
  case delete =>
    intro tag pipe c key p rest h s hat hheld
    rw [← Bool.and_true (s.emKeyOk pipe c key)] at hat
    exact ⟨fun hnone hsound => congrArg Host.Outcome.next (State.emChange_of_none hheld hat _ hnone hsound),
      fun k j u hsome hblocked hadmit hthen => congrArg Host.Outcome.next
        (State.emChange_of_some hheld hat (fun t p k => (t.emRemove p k).lrnReport p c (t.entryNote p ((t.exm p).at k)) 3)
          hsome hblocked hadmit hthen)⟩
  case modify =>
    intro tag pipe c key cls meta_ p static word rest h s hat hheld
    exact ⟨fun hnone hsound => congrArg Host.Outcome.next (State.emChange_of_none hheld hat _ hnone hsound),
      fun k j u hsome hblocked hadmit hthen => congrArg Host.Outcome.next
        (State.emChange_of_some hheld hat (fun t p k => t.emRewrite p k static cls word meta_) hsome hblocked hadmit hthen)⟩
  case hits =>
    intro tag pipe c key u s hrun hkey hcharge
    refine ⟨exec_emHitRead_of_absent hrun hkey hcharge, fun p k hone => ?_,
      fun hsome => ⟨_, exec_emHitRead_of_places hrun hkey hcharge rfl hsome⟩⟩
    rw [exec_emHitRead_of_places hrun hkey hcharge hone (List.cons_ne_nil _ _)]
    simp only [List.foldl_cons, List.foldl_nil, List.any_cons, List.any_nil, Bool.or_false]
  case add =>
    rintro tag vrf len a key p v6 word rest h s rfl hat hwaits
    exact ⟨fun hthere => congrArg Host.Outcome.next (State.routeChange_add_of_present hat hwaits hthere),
      fun hnone => ⟨fun hfull => congrArg Host.Outcome.next (State.routeChange_add_of_full hat hwaits hnone hfull),
        fun hroom u hadmit hstill hleft =>
          congrArg Host.Outcome.next (State.routeChange_add_of_admitted hat hwaits hnone hroom hadmit hstill hleft)⟩⟩
  case change =>
    rintro tag vrf len a key p v6 word rest h s rfl hwaits
    refine ⟨fun hat => ?_, fun hat => ?_⟩
    · rw [← Bool.and_true (prefixOk v6 len a)] at hat
      exact ⟨fun hnone => congrArg Host.Outcome.next (State.routeChange_of_missing hat hwaits hnone),
        fun w u hthere hadmit hthen => congrArg Host.Outcome.next (State.routeChange_of_present hat hwaits hthere hadmit hthen)⟩
    · exact ⟨fun hnone => congrArg Host.Outcome.next (State.routeChange_of_missing hat hwaits hnone),
        fun w u hthere hadmit hthen => congrArg Host.Outcome.next (State.routeChange_of_present hat hwaits hthere hadmit hthen)⟩
  case scrub =>
    intro pipe n m k u s hread
    have bad := fun kind => exec_tableScrub_of_bad hread kind k
    refine ⟨exec_tableScrub_of_corrected hread (n + 1) 0 0, exec_tableScrub_of_corrected hread 0 (m + 1) 0,
      bad 0, bad 1, bad 2, fun x hx => (bad (x + 4)).trans ?_, bad 8, bad 9, bad 10, bad 11⟩
    match x, hx with
    | 0, _ | 1, _ | 2, _ | 3, _ => rfl
  case parity =>
    intro pipe a x s hat hinst
    exact ⟨fun hblk => exec_exmParityCheck_of_regAt s hat hinst (by simp [hblk]),
      fun hblk => exec_exmParityCheck_of_regAt s hat hinst (by simp [hblk]),
      fun hblk => exec_exmParityCheck_of_regAt s hat hinst (by simp [hblk])⟩

end Sys2Proof.Machine
end

section
/-! PROOFS. Learning, the ripening sweep, the compare walker and repairs (R225 to R250): the head of the learn queue, the tick, a flush, a
pass and a walk. -/
namespace Sys2Proof.Machine
open Sys2Proof.Config

/-! ### The head of the learn queue -/

section
variable {s u : State} {pipe : Nat} {w : BitVec 128} {flushed : Bool} {rest : List (BitVec 128 × Bool)}
  (hqueue : (s.lrn pipe).queue = (w, flushed) :: rest)
include hqueue

theorem exec_learnDecide_of_bad : exec (.learnDecide ⟨pipe, true⟩) s = .next ((s.setLearnQueue pipe rest).bump .LRN_ECC_DROP pipe) := by
  change execLearnDecide ⟨pipe, true⟩ s = _
  simp only [execLearnDecide, hqueue, if_true]

/-- A sound head with nothing before it, whose decision the tide admits, leaves the queue and is decided (R207, R231). -/
theorem exec_learnDecide_of_admitted (hheld : (s.exm pipe).exmHeld = false) (hblocked : s.emBlocked pipe (s.noteEntry pipe w) = false)
    (hturn : s.emPending pipe = false ∨ s.gateAsked (pipe + 1) actLearn learnTag = true)
    (hcharge : s.charge (pipe + 1) actLearn (s.decideNote pipe w flushed).2 learnTag = (u, true)) :
    exec (.learnDecide ⟨pipe, false⟩) s = .next ((u.setLearnQueue pipe rest).decideNote pipe w flushed).1 := by
  have first : (s.emPending pipe && !s.gateAsked (pipe + 1) actLearn learnTag) = false := by
    rcases hturn with hturn | hturn <;> simp [hturn]
  change execLearnDecide ⟨pipe, false⟩ s = _
  simp only [execLearnDecide, hqueue, hheld, hblocked, first, hcharge, Bool.or_self, Bool.false_eq_true, if_false, if_true]

end

section
variable {v : State} {pipe : Nat} {w : BitVec 128}

/-- A station that its section does not hold, and no limit keeps out, is inserted (row 3 of Table 8.3). -/
theorem State.decideNote_of_inserted {t : State} {m : Nat}
    (habsent : v.emHeldAt pipe (LearnNote.SECTION.get w) (LearnNote.KEY.get w) = none)
    (hroom : v.learnLimit pipe (LearnNote.SECTION.get w) (LearnNote.PORT.get w) = false)
    (hend : v.emInsert pipe (v.noteEntry pipe w) = (t, .ok m)) :
    (v.decideNote pipe w false).1 =
      (t.bump .LRN_INSERTS (pipe * 16 + LearnNote.SECTION.get w)).lrnReport pipe (LearnNote.SECTION.get w) w 0 := by
  simp only [State.decideNote, habsent, hroom, hend, Bool.false_eq_true, if_false]

/-- A station seen on the port its entry names changes nothing (row 5 of Table 8.3). -/
theorem State.decideNote_of_redundant {k : Nat} (hheld : v.emHeldAt pipe (LearnNote.SECTION.get w) (LearnNote.KEY.get w) = some k)
    (hlearned : emStatic ((v.exm pipe).at k) = false)
    (hport : ResWord.TARGET.get (emResult (v.sectWide pipe (LearnNote.SECTION.get w)) ((v.exm pipe).at k)) = LearnNote.PORT.get w) :
    (v.decideNote pipe w false).1 = v.bump .LRN_REDUNDANT (pipe * 16 + LearnNote.SECTION.get w) := by
  simp only [State.decideNote, hheld, hlearned, hport, Bool.false_eq_true, if_false, if_true]

end

/-! ### The tick and flushes -/

/-- In the canonical form a write of a field changes no item but its own. -/
theorem State.onlyRegs_wr {s : State} (hc : s.Canon) (f : Fld) (v inst i k : Nat) :
    OnlyRegs s (s.wr f v inst i k) [f.reg.key inst i k] := by
  refine ⟨rfl, fun a ha => ?_⟩
  have other : a ≠ f.reg.key inst i k := fun h => ha (h ▸ List.mem_singleton_self _)
  exact ⟨Sparse.find_put_ne _ _ other hc.1, Sparse.find_erase_ne other hc.2.1⟩

theorem exec_learnTick_of_due {s : State} {pipe : Nat} (hdue : (s.lrn pipe).tickAt + msClk ≤ s.now) :
    exec (.learnTick pipe) s =
      .next ((s.setLrn pipe { s.lrn pipe with tickAt := (s.lrn pipe).tickAt + msClk }).wr Fld.LRN_TICK_TICK
        ((s.rd Fld.LRN_TICK_TICK pipe + 1) % 65536) pipe) :=
  if_neg (Nat.not_lt.mpr hdue)

/-- A flush command that runs starts its flush or goes on with it, and is answered once the flush has nothing left. -/
theorem exec_lrnFlush_of_running {s u : State} {tag pipe : Nat} {sect port vid : Option Nat} (hrun : s.mbxRunsAt tag opLrnFlush pipe = true)
    (hstep : ((s.lrn pipe).flushes.find? (fun f => f.tag == some tag) = none ∧ u = s.startFlush pipe (some tag) sect port vid) ∨
      ∃ f, (s.lrn pipe).flushes.find? (fun f => f.tag == some tag) = some f ∧ u = s.flushNext pipe f) :
    exec (.lrnFlush tag pipe sect port vid) s =
      .next (if ((u.lrn pipe).flushes.find? (fun f => f.tag == some tag)).isNone = true then u.reply tag .completed (u.doneOf tag) 0 0 true
        else u) := by
  change execLrnFlush tag pipe sect port vid s = _
  obtain ⟨hfind, rfl⟩ | ⟨f, hfind, rfl⟩ := hstep <;>
    simp only [execLrnFlush, hrun, hfind, if_true]

/-! ### The ripening sweep -/

section
variable {s : State} {pipe : Nat}

section
variable (hon : s.on Fld.LRN_CTRL_SWEEP_EN pipe = true) (hdue : (s.lrn pipe).passAt ≤ s.now) (hfirst : (s.lrn pipe).passDue = false)
include hon hdue hfirst

theorem exec_sweepPassStart_of_idle (hidle : (s.lrn pipe).pos = none) :
    exec (.sweepPassStart pipe) s =
      .next ((s.setLrn pipe { s.lrn pipe with
          pos := some 0, passAt := (s.lrn pipe).passAt + s.rd Fld.LRN_SWEEP_CFG_BASE_MS pipe * msClk, passDue := false }).wr
        Fld.LRN_SWEEP_STATUS_PASS ((s.rd Fld.LRN_SWEEP_STATUS_PASS pipe + 1) % 2 ^ 32) pipe) := by
  change execSweepPassStart pipe s = _
  simp [execSweepPassStart, hon, Nat.not_lt.mpr hdue, hidle, hfirst]

/-- A pass that is due while another runs waits for it, and is an overrun (R243). -/
theorem exec_sweepPassStart_of_overrun (hrunning : (s.lrn pipe).pos.isSome = true) :
    exec (.sweepPassStart pipe) s =
      .next (((s.setLrn pipe { s.lrn pipe with passDue := true }).bump .LRN_SWEEP_OVERRUN pipe).raise Ev.LRN_SWEEP_OVERRUN .pipeline
        pipe) := by
  change execSweepPassStart pipe s = _
  simp [execSweepPassStart, hon, Nat.not_lt.mpr hdue, hrunning, hfirst]

end

/-- A visit whose accesses are admitted treats each learned entry it meets, and moves the pass on (R239, R240). -/
theorem exec_sweepVisit_of_admitted {i : Nat} {u : State} (hpos : (s.lrn pipe).pos = some i)
    (hcharge : s.charge (pipe + 1) actSweep
      (if (s.sweepPlaces pipe i).foldl (fun t k => t.sweepEntry pipe k) s = s then 1 else 2) sweepTag = (u, true)) :
    exec (.sweepVisit pipe) s =
      let v := (s.sweepPlaces pipe i).foldl (fun t k => t.sweepEntry pipe k) u
      .next (v.setLrn pipe { v.lrn pipe with pos := if i + 1 < sweepBlocks then some (i + 1) else none }) := by
  change execSweepVisit pipe s = _
  simp only [execSweepVisit, hpos, hcharge, if_true]

end

/-! ### The compare walker -/

section
variable {s u : State} {pipe kind block i : Nat} {f : ShadowFinding}

theorem exec_walkPeriodStart_of_idle (hon : s.on Fld.LRN_CTRL_WALK_EN pipe = true) (hdue : (s.lrn pipe).walkAt ≤ s.now)
    (hidle : (s.lrn pipe).walkPos = none) (hfirst : (s.lrn pipe).walkDue = false) :
    exec (.walkPeriodStart pipe) s =
      .next (s.setLrn pipe { s.lrn pipe with
        walkPos := some 0, walkFrom := s.now, skipped := [], suspect := none,
        walkAt := (s.lrn pipe).walkAt + s.rd Fld.LRN_WALK_CFG_PERIOD_MS pipe * msClk, walkDue := false }) := by
  change execWalkPeriodStart pipe s = _
  simp [execWalkPeriodStart, hon, Nat.not_lt.mpr hdue, hidle, hfirst]

/-- The walker, with no mismatch and no skipped block to see to, reads the block at its position when its time has come (R246). -/
theorem exec_walkVisit_of_due (hpos : (s.lrn pipe).walkPos = some i) (hsure : (s.lrn pipe).suspect = none)
    (hskipped : (s.lrn pipe).skipped = []) (hkind : kind < 5)
    (hdue : (s.lrn pipe).walkFrom * walkBlocks + i * (s.rd Fld.LRN_WALK_CFG_PERIOD_MS pipe * msClk) ≤ s.now * walkBlocks)
    (hsect : i < 79872 → (s.sectionOf pipe i).isSome = true) (hreads : s.walkReads pipe i kind block = true) :
    exec (.walkVisit pipe kind block f) s = .next (s.walkRead pipe (i + 1) kind block f []) := by
  have inSection : ¬(i < 79872 ∧ (s.sectionOf pipe i).isNone = true) := by
    rintro ⟨hi, hnone⟩
    rw [Option.isNone_iff_eq_none.mp hnone] at hsect
    cases hsect hi
  change execWalkVisit pipe kind block f s = _
  simp only [execWalkVisit, hpos, hsure, hskipped, Nat.not_le.mpr hkind, Nat.not_lt.mpr hdue, inSection, hreads, if_false, if_true]

/-- The second reading of a mismatch confirms it where its tag has not changed and is not BUSY: it waits for its repair (R247). -/
theorem exec_walkVisit_of_confirmed {seq : Nat} {g : ShadowFinding} (hpos : (s.lrn pipe).walkPos = some i)
    (hsuspect : (s.lrn pipe).suspect = some (shKey kind block, seq, g)) (hcharge : s.chargeAll [(0, actKeeper, 136)] walkTag = (u, true))
    (hseq : (u.shadowTag pipe kind block).seq = seq) (hidle : u.tagBusy pipe kind block = false) :
    exec (.walkVisit pipe kind block f) s =
      .next (u.setLrn pipe { u.lrn pipe with
        suspect := none, repairs := Sparse.insert (u.lrn pipe).repairs (shKey kind block) (u.now, g) }) := by
  change execWalkVisit pipe kind block f s = _
  simp [execWalkVisit, hpos, hsuspect, hcharge, hseq, hidle]

section
variable {skipped : List (Nat × Nat)} (hvalid : (s.shadowTag pipe kind block).valid = true)
  (hcharge : s.chargeAll [(0, actKeeper, 8), (pipe + 1, actShadow, 1)] walkTag = (u, true))
include hvalid hcharge

/-- A BUSY block is skipped, and kept for a visit after the next block. -/
theorem State.walkRead_of_busy (hbusy : u.tagBusy pipe kind block = true) :
    s.walkRead pipe i kind block f skipped =
      (u.bump .SHD_SKIPPED_BUSY pipe).walkOn pipe i (skipped ++ [(shKey kind block, min (i + 1) walkBlocks)]) := by
  simp only [State.walkRead, hvalid, hcharge, hbusy, Bool.not_true, Bool.false_eq_true, if_false, if_true]

/-- Another block is counted as compared; one that does not match is kept for a second reading. -/
theorem State.walkRead_of_idle (hidle : u.tagBusy pipe kind block = false) :
    s.walkRead pipe i kind block f skipped =
      ((u.setLrn pipe { u.lrn pipe with
          suspect := if s.walkFinds pipe kind block f = .matches then none
            else some (shKey kind block, (s.shadowTag pipe kind block).seq, s.walkFinds pipe kind block f) }).bump
        .SHD_BLOCKS_COMPARED pipe).walkOn pipe i skipped := by
  simp only [State.walkRead, hvalid, hcharge, hidle, Bool.not_true, Bool.false_eq_true, if_false]

end

/-- A confirmed mismatch of a block that is not lost, and no SEAL register, is repaired by what was found (R247). -/
theorem exec_shadowRepair_of_confirmed {at_ : Nat} (hfound : Sparse.find (s.lrn pipe).repairs (shKey kind block) = some (at_, f))
    (hkept : Sparse.get (s.lrn pipe).lost (shKey kind block) false = false) (hopen : kind ≠ shReg ∨ sealedReg block = false)
    (hcharge : s.chargeAll [(0, actKeeper, 136), (pipe + 1, actScrub, 1)] repairTag = (u, true)) :
    exec (.shadowRepair pipe kind block f) s =
      .next ((u.setLrn pipe { u.lrn pipe with repairs := Sparse.erase (u.lrn pipe).repairs (shKey kind block) }).repairBlock
        pipe kind block true f) := by
  have notSealed : (kind == shReg && sealedReg block) = false := by
    rcases hopen with hkind | hplain
    · rw [beq_false_of_ne hkind, Bool.false_and]
    · rw [hplain, Bool.and_false]
  change execShadowRepair pipe kind block f s = _
  simp [execShadowRepair, hfound, hkept, notSealed, hcharge]

end

/-! ### The statement -/

/-- Settles O21: the head of the learn queue is decided, the tick counts, a flush starts and goes on, a pass and a walk start and visit
their blocks, and a confirmed mismatch is repaired. -/
theorem learningAndIntegrityComplete : Obligations.LearningAndIntegrityComplete := by
  unfold Obligations.LearningAndIntegrityComplete
  refine ⟨?decide, ?tick, ?flush, ?pass, ?visit, ?walk, ?read, ?confirm, ?repair⟩
  case decide =>
    intro pipe w b rest u v s hqueue
    refine ⟨exec_learnDecide_of_bad hqueue, fun hheld hblocked hturn hcharge hv => ?_⟩
    have decided := exec_learnDecide_of_admitted hqueue hheld hblocked hturn hcharge
    rw [← hv] at decided
    rw [decided]
    refine ⟨rfl, ?flushed, ?inserted, ?redundant⟩
    case flushed =>
      rintro rfl
      rfl
    case inserted =>
      rintro c port t m rfl rfl rfl habsent hroom hend
      rw [State.decideNote_of_inserted habsent hroom hend]
    case redundant =>
      rintro c k rfl rfl hsome hlearned hport
      rw [State.decideNote_of_redundant hsome hlearned hport]
  case tick =>
    intro pipe s hc hdue
    refine ⟨_, exec_learnTick_of_due hdue, ?_, State.onlyRegs_wr (s := s.setLrn pipe _) hc _ _ _ _ _⟩
    exact (State.rd_wr_self _ Fld.LRN_TICK_TICK _ pipe 0 0 0 hc (by decide)).trans (Nat.mod_mod _ _)
  case flush =>
    intro tag pipe sect port vid u s hrun hstep
    rw [exec_lrnFlush_of_running hrun hstep]
    refine ⟨fun hdone => ?_, fun hleft => ?_⟩
    · rw [if_pos (Option.isNone_iff_eq_none.mpr hdone)]
    · rw [if_neg (by rw [Option.isNone_eq_false_iff.mpr hleft]; decide)]
  case pass =>
    exact fun pipe s hon hdue hfirst =>
      ⟨exec_sweepPassStart_of_idle hon hdue hfirst, exec_sweepPassStart_of_overrun hon hdue hfirst⟩
  case visit =>
    rintro pipe i n t u v s hpos rfl rfl hcharge rfl
    exact exec_sweepVisit_of_admitted hpos hcharge
  case walk => exact fun pipe s => exec_walkPeriodStart_of_idle
  case read =>
    intro pipe kind block i f u s hpos hsure hskipped hkind hdue hsect hreads hvalid hcharge
    rw [exec_walkVisit_of_due hpos hsure hskipped hkind hdue hsect hreads]
    refine ⟨fun hbusy => ?_, fun hidle hmatch => ?_, fun hidle hmismatch => ?_⟩
    · rw [State.walkRead_of_busy hvalid hcharge hbusy]
      rfl
    · rw [State.walkRead_of_idle hvalid hcharge hidle, if_pos hmatch]
    · rw [State.walkRead_of_idle hvalid hcharge hidle, if_neg hmismatch]
  case confirm => exact fun pipe kind block i seq f g u s => exec_walkVisit_of_confirmed
  case repair =>
    rintro pipe kind block at_ k f t u s rfl hfound hkept hopen hcharge rfl
    rw [exec_shadowRepair_of_confirmed hfound hkept hopen hcharge]
    refine ⟨?sram, ?shadow, ?lost⟩ <;> rintro rfl <;> rfl

end Sys2Proof.Machine
end

section
/-! PROOFS. The flow stage (R256 to R268, R290): a packet looks its record up or parks, a fetch returns, a chain's head is released or times
out, a stalled miss is retried, and a flow is set up, with a reseed of its group or without. -/
namespace Sys2Proof.Machine
open Sys2Proof.Config

/-! ### The lookup of a packet -/

section
variable {s : State} {n : Nat} (found : Nat) (hlisted : (Sparse.find s.pkts n).isSome = true) (hstage : (s.pkt n).stage = .flow)
  (hfirst : s.behind n = false)
include hlisted hstage hfirst

/-- The oldest packet of its port at the flow stage without flow service goes on to the policer. -/
theorem exec_curdLookup_of_stateless (hway : s.flowWay (s.pkt n) = .stateless) :
    exec (.curdLookup n found) s = .next (s.toPolicer n) := by
  have listed : (Sparse.find s.pkts n).isNone = false := Option.isNone_eq_false_iff.mpr hlisted
  change execCurdLookup n found s = _
  simp [execCurdLookup, listed, hstage, hfirst, hway]

/-- The oldest packet of its port at the flow stage, with a key, looks its record up once the line has been read. -/
theorem exec_curdLookup_of_record {c key : Nat} (hway : s.flowWay (s.pkt n) = .record c key) (hactive : s.standby = false) :
    exec (.curdLookup n found) s = .next ((s.readLine c key found).seek n c key .record) := by
  have listed : (Sparse.find s.pkts n).isNone = false := Option.isNone_eq_false_iff.mpr hlisted
  change execCurdLookup n found s = _
  simp [execCurdLookup, listed, hstage, hfirst, hway, hactive]

end

section
variable {u : State} {n c key : Nat} (sk : Seek)

/-- A packet that need not park counts a hit and is given its record. -/
theorem State.seek_of_hit (h : u.mustPark (u.pkt n).pipe c key = false) :
    u.seek n c key sk = (u.bump .FLW_HITS (pcItem (u.pkt n).pipe c)).deliver n c key sk := by
  simp only [State.seek, h, Bool.false_eq_true, if_false]

theorem State.seek_of_room (h : u.mustPark (u.pkt n).pipe c key = true)
    (hroom : u.rd Fld.FLW_PARK_STATUS_OCCUPANCY (u.pkt n).pipe < u.parkLimit (u.pkt n).pipe c) :
    u.seek n c key sk = u.parkIn n c key sk := by
  simp only [State.seek, h, hroom, if_true]

theorem State.seek_of_full (h : u.mustPark (u.pkt n).pipe c key = true)
    (hfull : u.parkLimit (u.pkt n).pipe c ≤ u.rd Fld.FLW_PARK_STATUS_OCCUPANCY (u.pkt n).pipe) :
    u.seek n c key sk = u.notAdmitted n c key := by
  simp only [State.seek, h, Nat.not_lt.mpr hfull, if_true, if_false]

end

/-! ### The return of a fetch -/

/-- A good fetch of a flow record makes the way CLEAN with the record of its class and key, and ABSENT with another (R263, R268). -/
theorem exec_recordFetchReturn_of_good {s : State} {c key : Nat} {w : Way} (hway : s.way c key = some w) (hstate : w.state = .pending)
    (hissued : w.waits = none) (hbank : s.harbourOk (recAddr c w.idx) = true) (hclass : c ≠ 0) :
    exec (.recordFetchReturn c key true none) s =
      .next (if recIs (s.stored c w.idx) c key = true then s.putWay { w with state := .clean, rec_ := s.stored c w.idx }
        else (s.putWay { w with state := .absent }).endAbsent c key) := by
  change execRecordFetchReturn c key true none s = _
  cases hrec : recIs (s.stored c w.idx) c key <;>
    simp [execRecordFetchReturn, hway, hstate, hissued, hbank, hclass, hrec]

/-! ### The head of a chain -/

section
variable {s : State} {pipe c key n : Nat} {rest : List Nat} {ch : Chain} {a : ParkAt} {w : Way} (hchain : s.chain pipe c key = some ch)
  (hhead : ch.pkts = n :: rest) (hpark : (s.pkt n).park = some a) (hseek : a.seek = .record) (hopen : s.isLocked c key = false)
  (hway : s.way c key = some w)
include hchain hhead hpark hseek hopen hway

/-- The head of a chain is released onto a record that is there, and that neither a service, a removal nor the twin holds (R264). -/
theorem exec_chainRelease_of_clean (hclean : w.state = .clean) (hservice : FlowRec.SVC_WAIT.on w.rec_ = false)
    (hheld : FlowRec.STATE.get w.rec_ ≠ 3) (hmirror : s.mirrorHeld w.idx = false)
    (htwin : FlowRec.MIRRORED.on w.rec_ = false ∨ s.awaitsTwin w.idx = false) :
    exec (.chainRelease pipe c key true) s = .next ((s.unpark n).deliver n c key .record) := by
  have notAwaited : ¬(FlowRec.MIRRORED.on w.rec_ = true ∧ s.awaitsTwin w.idx = true) := by
    rintro ⟨hmirrored, hawaits⟩
    rcases htwin with h | h
    · rw [h] at hmirrored
      cases hmirrored
    · rw [h] at hawaits
      cases hawaits
  change execChainRelease pipe c key true s = _
  simp [execChainRelease, hchain, hhead, hpark, hseek, hopen, hway, hclean, hservice, hheld, hmirror, notAwaited]

/-- Where the record of a chain is absent and no setup of it waits, its head asks for one (R268). -/
theorem exec_chainRelease_of_absent (habsent : w.state = .absent) (hidle : w.setup = false) :
    exec (.chainRelease pipe c key true) s = .next (s.setUp n c key) := by
  change execChainRelease pipe c key true s = _
  simp [execChainRelease, hchain, hhead, hpark, hseek, hopen, hway, habsent, hidle]

end

/-! ### Parked packets and stalled misses -/

section
variable {s : State} {n : Nat} {a : ParkAt} (hpark : (s.pkt n).park = some a)
include hpark

theorem exec_parkTimeout_of_due (hdue : a.since + s.rd Fld.FLW_PARK_TIME_PARK_TIMEOUT (s.pkt n).pipe * usClk ≤ s.now) :
    exec (.parkTimeout n) s =
      .next ((((s.unpark n).discard n).bump .FLW_PARK_TIMEOUT (pcItem (s.pkt n).pipe a.cls)).raiseMs Ev.FLW_PARK_TIMEOUT .pipeline
        (s.pkt n).pipe) := by
  change execParkTimeout n s = _
  simp only [execParkTimeout, hpark, hdue, if_true]

theorem exec_parkTimeout_of_early (hearly : s.now < a.since + s.rd Fld.FLW_PARK_TIME_PARK_TIMEOUT (s.pkt n).pipe * usClk) :
    exec (.parkTimeout n) s = .next s := by
  change execParkTimeout n s = _
  simp only [execParkTimeout, hpark, Nat.not_le.mpr hearly, if_false]

/-- The oldest miss of a set is let go where its record has a way, and otherwise retried: as a setup where a resident record has its
index, and as a miss where none has (R261, R268). -/
theorem exec_setStallRetry_of_parked {slice set : Nat} {whey : Bool} {rest : List (Nat × Bool)}
    (hstalled : Sparse.get s.flw.stalled (slice * 6144 + set) [] = (n, whey) :: rest) :
    exec (.setStallRetry slice set) s =
      .next (if (s.way a.cls a.key).isSome = true then
          { s with flw := { s.flw with stalled := Sparse.put s.flw.stalled (slice * 6144 + set) rest [] } }
        else if s.conflict a.cls a.key = true then s.setUp n a.cls a.key else s.miss n a.cls a.key) := by
  change execSetStallRetry slice set s = _
  simp only [execSetStallRetry, hstalled, hpark, apply_ite Host.Outcome.next]

end

/-! ### Setups and reseeds -/

/-- A class whose rate is not limited takes no token (R290). -/
theorem State.takeToken_of_unlimited {s : State} {c : Nat} (h : s.rd Fld.FLW_SETUP_LIMIT_RATE 0 c = 0) : s.takeToken c = (s, true) := by
  simp only [State.takeToken, h, if_true]

section
variable {s : State} {slice : Nat} {u : Setup} {rest : List Setup} (hqueue : Sparse.get s.flw.setupQ slice [] = u :: rest)
  (hplain : u.reseed = false)
include hqueue hplain

/-- A slice sets up at most one flow in 175 clocks. -/
theorem exec_flowSetup_of_early (hearly : s.now < Sparse.get s.flw.setupAt slice 0) : exec (.flowSetup slice) s = .next s := by
  change execFlowSetup slice s = _
  simp [execFlowSetup, hqueue, hplain, hearly]

/-- The oldest setup leaves its queue for 175 clocks, and its flow is set up in its empty slot. -/
theorem exec_flowSetup_of_empty (hdue : Sparse.get s.flw.setupAt slice 0 ≤ s.now) (hopen : s.isLocked u.cls u.key = false)
    (hempty : s.slotEmpty (s.recIdx u.cls u.key) = true) (hrate : s.rd Fld.FLW_SETUP_LIMIT_RATE 0 u.cls = 0) :
    exec (.flowSetup slice) s =
      .next (State.finishSetup { s with flw := { s.flw with
        setupAt := Sparse.insert s.flw.setupAt slice (s.now + 175), setupQ := Sparse.put s.flw.setupQ slice rest [] } } u) := by
  have token : State.takeToken { s with flw := { s.flw with
      setupAt := Sparse.insert s.flw.setupAt slice (s.now + 175), setupQ := Sparse.put s.flw.setupQ slice rest [] } } u.cls = (_, true) :=
    State.takeToken_of_unlimited hrate
  change execFlowSetup slice s = _
  simp [execFlowSetup, hqueue, hplain, Nat.not_lt.mpr hdue, hopen, hempty, token]

end

/-- The setup leaves the queue of its slice, and its group is unlocked: what ends a reseed, found a seed or not. -/
def State.endReseed (t : State) (g : Nat) (u : Setup) : State :=
  ({ t with flw := { t.flw with
      setupQ := Sparse.put t.flw.setupQ (groupSlice g) ((Sparse.get t.flw.setupQ (groupSlice g) []).erase u) [] } }).setLocked g none

section
variable {s t : State} {g : Nat} {u : Setup} {rest : List Setup} (hqueue : Sparse.get s.flw.setupQ (groupSlice g) [] = u :: rest)
  (hreseed : u.reseed = true) (hgroup : hashGroup (s.recHash u.cls u.key) = g)
include hqueue hreseed hgroup

theorem exec_groupReseed_of_done (hend : s.reseed g u.cls u.key = (t, .done)) :
    exec (.groupReseed g) s = .next ((t.endReseed g u).finishSetup u) := by
  change execGroupReseed g s = _
  simp [execGroupReseed, hqueue, hreseed, hgroup, hend, State.endReseed]

theorem exec_groupReseed_of_failed (hend : s.reseed g u.cls u.key = (t, .failed)) :
    exec (.groupReseed g) s = .next ((t.endReseed g u).refuseSetup u) := by
  change execGroupReseed g s = _
  simp [execGroupReseed, hqueue, hreseed, hgroup, hend, State.endReseed]

end

/-! ### The statement -/

/-- Settles O22: a packet looks its record up or parks, a fetch returns, the head of a chain is released or times out, a stalled miss is
retried, and a flow is set up or its group reseeded. -/
theorem flowLookupsAndChainsComplete : Obligations.FlowLookupsAndChainsComplete := by
  unfold Obligations.FlowLookupsAndChainsComplete
  refine ⟨?lookup, ?fetch, ?release, ?timeout, ?stall, ?setup, ?reseed⟩
  case lookup =>
    intro n found s hlisted hstage hfirst
    refine ⟨exec_curdLookup_of_stateless found hlisted hstage hfirst, ?record⟩
    rintro c key pipe u hway hactive rfl rfl
    rw [exec_curdLookup_of_record found hlisted hstage hfirst hway hactive]
    exact ⟨fun hhit => congrArg _ (State.seek_of_hit _ hhit), fun hpark hroom => congrArg _ (State.seek_of_room _ hpark hroom),
      fun hpark hfull => congrArg _ (State.seek_of_full _ hpark hfull)⟩
  case fetch =>
    intro c key w s hway hstate hissued hbank hclass
    rw [exec_recordFetchReturn_of_good hway hstate hissued hbank hclass]
    exact ⟨fun hrec => by rw [if_pos hrec], fun hother => by rw [if_neg (ne_true_of_eq_false hother)]⟩
  case release =>
    intro pipe c key n rest ch a w s hchain hhead hpark hseek hopen hway _
    exact ⟨exec_chainRelease_of_clean hchain hhead hpark hseek hopen hway,
      exec_chainRelease_of_absent hchain hhead hpark hseek hopen hway⟩
  case timeout => exact fun n a s hpark => ⟨exec_parkTimeout_of_due hpark, exec_parkTimeout_of_early hpark⟩
  case stall =>
    intro slice set n whey rest a s hstalled hpark
    rw [exec_setStallRetry_of_parked hpark hstalled]
    refine ⟨fun hway => by rw [if_pos hway], fun hnone hfree => ?miss, fun hnone hconflict => ?conflict⟩
    case miss => rw [hnone, if_neg (by decide), hfree, if_neg (by decide)]
    case conflict => rw [hnone, if_neg (by decide), if_pos hconflict]
  case setup =>
    intro slice u rest s v hqueue hplain
    refine ⟨exec_flowSetup_of_early hqueue hplain, ?_⟩
    rintro hdue hopen hempty hrate rfl
    exact exec_flowSetup_of_empty hqueue hplain hdue hopen hempty hrate
  case reseed =>
    rintro g u rest s t v hqueue hreseed hgroup rfl
    exact ⟨exec_groupReseed_of_done hqueue hreseed hgroup, exec_groupReseed_of_failed hqueue hreseed hgroup⟩

end Sys2Proof.Machine
end

section
/-! PROOFS. Write-backs, flushes and seeds (R267, R270 to R273, R280): a record leaves the whey buffer or turns CLEAN, a slice is flushed
and turned off, and the seed of a group is restored. -/
namespace Sys2Proof.Machine
open Sys2Proof.Config

/-! ### Write-backs -/

section
variable {s : State} {slice c key i : Nat} {r : BitVec 1024} {rest : List (Nat × Nat × Nat × BitVec 1024)}
  (hwhey : s.wheyOf slice = (c, key, i, r) :: rest)
include hwhey

/-- The oldest record of a whey buffer leaves it for its place once the tide admits it (R267, R270). -/
theorem exec_wheyWriteback_of_admitted {u : State} (hcharge : s.charge 0 (recAct c) 128 (wbTag c i) = (u, true)) :
    exec (.wheyWriteback slice true) s = .next ((u.setWhey slice rest).writeBack c i r) := by
  change execWheyWriteback slice true s = _
  simp [execWheyWriteback, hwhey, hcharge]

/-- A record of a whey buffer that cannot be read is lost (Table 9.4). -/
theorem exec_wheyWriteback_of_unreadable :
    exec (.wheyWriteback slice false) s = .next ((s.setWhey slice rest).raise Ev.FLW_CACHE_ECC .device slice (key % 2 ^ 32)) := by
  change execWheyWriteback slice false s = _
  simp [execWheyWriteback, hwhey]

end

/-- A DIRTY record that is old enough, or whose slice is flushed, turns CLEAN and is written back once the tide admits it (R271). -/
theorem exec_wbAgeExpiry_of_due {s u : State} {c key : Nat} {w : Way} (hway : s.way c key = some w) (hdirty : w.state = .dirty)
    (hcommitted : w.uncommitted = false)
    (hdue : w.dirtyAt + s.rd Fld.FLW_WHEY_CFG_WB_AGE_MS * msClk ≤ s.now ∨
      s.on Fld.FLW_SLICE_CTRL_FLUSH_BUSY (s.recSlice c key) = true)
    (hcharge : s.charge 0 (recAct c) 128 (wbTag c w.idx) = (u, true)) :
    exec (.wbAgeExpiry c key) s = .next ((u.putWay { w with state := .clean }).writeBack c w.idx w.rec_) := by
  change execWbAgeExpiry c key s = _
  simp [execWbAgeExpiry, hway, hdirty, hcommitted, hdue, hcharge]

/-! ### What a write of a slice's control register changes -/

section
variable {s t u : State} {keys : List Nat}

theorem OnlyRegs.trans (hst : OnlyRegs s t keys) (htu : OnlyRegs t u keys) : OnlyRegs s u keys := by
  obtain ⟨ht, hfst⟩ := hst
  obtain ⟨hu, hftu⟩ := htu
  refine ⟨?_, fun a ha => ⟨(hftu a ha).1.trans (hfst a ha).1, (hftu a ha).2.trans (hfst a ha).2⟩⟩
  rw [ht] at hu
  exact hu

/-- In the canonical form a write of an item changes no other. -/
theorem State.onlyRegs_wrReg (hc : s.Canon) (r : Reg) (inst i k : Nat) (w : Word) :
    OnlyRegs s (s.wrReg r inst i k w) [r.key inst i k] := by
  refine ⟨rfl, fun a ha => ?_⟩
  have other : a ≠ r.key inst i k := fun h => ha (h ▸ List.mem_singleton_self _)
  exact ⟨Sparse.find_put_ne _ _ other hc.1, Sparse.find_erase_ne other hc.2.1⟩

/-- A one-bit field into which 1 has been written is on. -/
theorem State.on_wr_one (hc : s.Canon) {f : Fld} (inst i k : Nat) (hwidth : f.width = 1) (hfit : f.lo + f.width ≤ 32) :
    (s.wr f 1 inst i k).on f inst i k = true := by
  unfold State.on
  rw [s.rd_wr_self f 1 inst i k 0 hc hfit, hwidth]
  rfl

/-- A write of another field of its item leaves a one-bit field as it was. -/
theorem State.on_wr_field (hc : s.Canon) (f g : Fld) (v inst i k : Nat) (hreg : g.reg = f.reg) (hfit : f.lo + f.width ≤ 32)
    (hapart : f.lo + f.width ≤ g.lo ∨ g.lo + g.width ≤ f.lo) : (s.wr f v inst i k).on g inst i k = s.on g inst i k :=
  congrArg (· == 1) (s.rd_wr_field f g v inst i k 0 hc hreg hfit hapart)

end

section
variable {s : State} {who : Agent} {slice : Nat} {v : Word}

/-- An accepted write has stored its word in the slice's control register. -/
def State.sliceStored (s : State) (slice : Nat) (v : Word) : State :=
  s.wrReg Reg.FLW_SLICE_CTRL slice 0 0 (Reg.FLW_SLICE_CTRL.stored (s.rdReg Reg.FLW_SLICE_CTRL slice 0 0) v)

/-- An accepted write stores its word; one that sets EN clears QUIET, and one that asks for a flush or clears EN starts a flush (R272). -/
theorem State.sliceCtrlWrite_of_accepted
    (hok : s.verdict who Reg.FLW_SLICE_CTRL slice 0 0 v (s.on Fld.FLW_SLICE_CTRL_EN slice && !Fld.FLW_SLICE_CTRL_EN.onIn v &&
      (List.range 4).any (fun p => s.on Fld.FLW_CTRL_EN p)) = .accepted)
    (hflush : (Fld.FLW_SLICE_CTRL_FLUSH.onIn v || (s.on Fld.FLW_SLICE_CTRL_EN slice && !Fld.FLW_SLICE_CTRL_EN.onIn v)) = true) :
    s.sliceCtrlWrite who slice v =
      (if Fld.FLW_SLICE_CTRL_EN.onIn v = true then (s.sliceStored slice v).wr Fld.FLW_SLICE_CTRL_QUIET 0 slice
        else s.sliceStored slice v).wr Fld.FLW_SLICE_CTRL_FLUSH_BUSY 1 slice := by
  unfold State.sliceCtrlWrite
  simp only [State.busWrite_of_accepted hok, s.writeSlot_of_single slice (r := Reg.FLW_SLICE_CTRL) rfl,
    s.storedWord_of_no_w1c slice 0 0 v 0 (r := Reg.FLW_SLICE_CTRL) rfl, hflush, if_true]
  rfl

section
variable (hc : s.Canon)
include hc

theorem State.canon_sliceStored (v : Word) : (s.sliceStored slice v).Canon := (wrReg_keeps s _ _ _ _ _ _).2.2 hc

/-- EN reads what the stored write carried. -/
theorem State.on_en_sliceStored : (s.sliceStored slice v).on Fld.FLW_SLICE_CTRL_EN slice = Fld.FLW_SLICE_CTRL_EN.onIn v :=
  congrArg (· == 1) (State.rd_wrReg_stored hc Fld.FLW_SLICE_CTRL_EN
    (by simp [storesField, Fld.FLW_SLICE_CTRL_EN, Reg.FLW_SLICE_CTRL]) slice 0 0 _ v)

theorem State.onlyRegs_sliceStored (v : Word) :
    OnlyRegs s (s.sliceStored slice v) [Reg.FLW_SLICE_CTRL.key slice 0 0] :=
  State.onlyRegs_wrReg hc _ _ _ _ _

/-- A write of FLUSH = 1 with EN = 1 makes FLUSH_BUSY read 1, and changes nothing but the slice's control register. -/
theorem exec_sliceFlush_of_accepted (hflush : Fld.FLW_SLICE_CTRL_FLUSH.onIn v = true) (hen : Fld.FLW_SLICE_CTRL_EN.onIn v = true)
    (hok : s.verdict who Reg.FLW_SLICE_CTRL slice 0 0 v false = .accepted) :
    ∃ t, exec (.sliceFlush who slice v) s = .next t ∧ t.on Fld.FLW_SLICE_CTRL_FLUSH_BUSY slice = true ∧
      OnlyRegs s t [Reg.FLW_SLICE_CTRL.key slice 0 0] := by
  have written := State.sliceCtrlWrite_of_accepted (s := s) (who := who) (slice := slice) (v := v)
    (by rw [hen, Bool.not_true, Bool.and_false, Bool.false_and]; exact hok) (by rw [hflush, Bool.true_or])
  rw [if_pos hen] at written
  have stored := s.canon_sliceStored (slice := slice) hc v
  have quiet : ((s.sliceStored slice v).wr Fld.FLW_SLICE_CTRL_QUIET 0 slice).Canon := (wr_keeps _ _ _ _ _ _ _).2.2 stored
  exact ⟨_, congrArg Host.Outcome.next written, State.on_wr_one quiet slice 0 0 rfl (by decide),
    ((s.onlyRegs_sliceStored hc v).trans (State.onlyRegs_wr stored _ _ _ _ _)).trans (State.onlyRegs_wr quiet _ _ _ _ _)⟩

end

section
variable (hclear : Fld.FLW_SLICE_CTRL_EN.onIn v = false) (hwas : s.on Fld.FLW_SLICE_CTRL_EN slice = true)
include hclear hwas

/-- EN of a slice is not cleared while a flow stage is on (R280). -/
theorem exec_sliceDisable_of_rejected (hreject : s.verdict who Reg.FLW_SLICE_CTRL slice 0 0 v true = .rejected)
    (hstage : ∃ p, p < 4 ∧ s.on Fld.FLW_CTRL_EN p = true) : exec (.sliceDisable who slice v) s = .next s.rejectWrite := by
  have staged : (List.range 4).any (fun p => s.on Fld.FLW_CTRL_EN p) = true := by
    obtain ⟨p, hp, hon⟩ := hstage
    exact List.any_eq_true.mpr ⟨p, List.mem_range.mpr hp, hon⟩
  have rejected : s.verdict who Reg.FLW_SLICE_CTRL slice 0 0 v (s.on Fld.FLW_SLICE_CTRL_EN slice && !Fld.FLW_SLICE_CTRL_EN.onIn v &&
      (List.range 4).any (fun p => s.on Fld.FLW_CTRL_EN p)) = .rejected := by
    rw [hwas, hclear, staged]
    exact hreject
  change Host.Outcome.next (s.sliceCtrlWrite who slice v) = _
  rw [State.sliceCtrlWrite, State.busWrite_of_rejected rejected]

/-- With all flow stages off the slice turns off and starts its flush, and nothing but its control register changes (R280). -/
theorem exec_sliceDisable_of_accepted (hc : s.Canon) (hok : s.verdict who Reg.FLW_SLICE_CTRL slice 0 0 v false = .accepted)
    (hstages : ∀ p, p < 4 → s.on Fld.FLW_CTRL_EN p = false) :
    ∃ t, exec (.sliceDisable who slice v) s = .next t ∧ t.on Fld.FLW_SLICE_CTRL_FLUSH_BUSY slice = true ∧
      t.on Fld.FLW_SLICE_CTRL_EN slice = false ∧ OnlyRegs s t [Reg.FLW_SLICE_CTRL.key slice 0 0] := by
  have unstaged : (List.range 4).any (fun p => s.on Fld.FLW_CTRL_EN p) = false :=
    List.any_eq_false.mpr fun p hp => ne_true_of_eq_false (hstages p (List.mem_range.mp hp))
  have written := State.sliceCtrlWrite_of_accepted (s := s) (who := who) (slice := slice) (v := v)
    (by rw [unstaged, Bool.and_false]; exact hok) (by rw [hwas, hclear, Bool.not_false, Bool.and_self, Bool.or_true])
  rw [if_neg (ne_true_of_eq_false hclear)] at written
  have stored := s.canon_sliceStored (slice := slice) hc v
  refine ⟨_, congrArg Host.Outcome.next written, State.on_wr_one stored slice 0 0 rfl (by decide), ?off,
    (s.onlyRegs_sliceStored hc v).trans (State.onlyRegs_wr stored _ _ _ _ _)⟩
  case off =>
    rw [State.on_wr_field stored Fld.FLW_SLICE_CTRL_FLUSH_BUSY Fld.FLW_SLICE_CTRL_EN 1 slice 0 0 rfl (by decide) (by decide),
      State.on_en_sliceStored hc, hclear]

end
end

/-! ### The end of a flush -/

/-- A flush ends when no DIRTY record and no whey entry of the slice is left; a slice that is off turns QUIET (R272, R280). -/
theorem exec_sliceFlushDone_of_clean {s : State} {slice : Nat} (hbusy : s.on Fld.FLW_SLICE_CTRL_FLUSH_BUSY slice = true)
    (hwhey : s.wheyOf slice = [])
    (hclean : s.flw.sets.all (fun e => e.1 / 6144 != slice || e.2.all (fun w => w.state != .dirty || w.uncommitted)) = true) :
    exec (.sliceFlushDone slice) s =
      let t := s.wr Fld.FLW_SLICE_CTRL_FLUSH_BUSY 0 slice
      .next (if t.on Fld.FLW_SLICE_CTRL_EN slice = true then t else t.wr Fld.FLW_SLICE_CTRL_QUIET 1 slice) := by
  have left : s.flw.sets.any (fun e => e.1 / 6144 == slice && e.2.any (fun w => w.state == .dirty && !w.uncommitted)) = false := by
    simpa [List.any_eq_not_all_not, bne] using hclean
  change execSliceFlushDone slice s = _
  simp only [execSliceFlushDone, hbusy, left, hwhey, List.isEmpty_nil, Bool.not_false, Bool.and_self, if_true]

/-! ### Seeds -/

section
variable {s : State} {g : Nat}

section
variable (hlocked : Sparse.find s.flw.locked g = some true)
include hlocked

/-- The shadow copy becomes the seed of a group locked for its seed, and unlocks it. -/
theorem exec_seedRestore_of_copy :
    exec (.seedRestore g 1) s = .next ((s.putSeed g (Sparse.get s.flw.seedCopy g 0)).setLocked g none) :=
  if_pos hlocked

/-- The search ends the lock of a group: with the seed it finds, or with the group's records cleared (R273). -/
theorem exec_seedRestore_of_search :
    exec (.seedRestore g 2) s =
      .next ((match s.searchSeed g with | some sd => s.putSeed g sd | none => s.clearGroup g).setLocked g none) := by
  change execSeedRestore g 2 s = _
  cases hseed : s.searchSeed g <;> simp only [execSeedRestore, hlocked, hseed, if_true]

end
end

/-! ### The statement -/

/-- Settles O23: records are written back from whey buffers and ways, slices are flushed and turned off, and seeds are restored. -/
theorem recordsAreWrittenBackAndFlushed : Obligations.RecordsAreWrittenBackAndFlushed := by
  unfold Obligations.RecordsAreWrittenBackAndFlushed
  refine ⟨?whey, ?age, ?flush, ?disable, ?flushed, ?seed⟩
  case whey =>
    exact fun slice c key i r rest s u hwhey => ⟨exec_wheyWriteback_of_admitted hwhey, exec_wheyWriteback_of_unreadable hwhey⟩
  case age => exact fun c key w s u => exec_wbAgeExpiry_of_due
  case flush => exact fun who slice v s => exec_sliceFlush_of_accepted
  case disable =>
    exact fun who slice v s hc hclear hwas =>
      ⟨exec_sliceDisable_of_rejected hclear hwas, exec_sliceDisable_of_accepted hclear hwas hc⟩
  case flushed =>
    rintro slice s t hbusy hwhey hclean rfl
    rw [exec_sliceFlushDone_of_clean hbusy hwhey hclean]
    exact ⟨fun hon => congrArg _ (if_pos hon), fun hoff => congrArg _ (if_neg (ne_true_of_eq_false hoff))⟩
  case seed =>
    refine fun g s => ⟨rfl, exec_seedRestore_of_copy, fun sd hlocked hfound => ?found, fun hlocked hnone => ?cleared⟩
    case found => rw [exec_seedRestore_of_search hlocked, hfound]
    case cleared => rw [exec_seedRestore_of_search hlocked, hnone]

end Sys2Proof.Machine
end

section
/-! PROOFS. The expiry walk and removals (R274 to R276, R305, R309): a visit to a group, the start of a walk, a removal that commits, and
the host's deletes and reads of records. -/
namespace Sys2Proof.Machine
open Sys2Proof.Config

/-! ### The expiry walk -/

/-- The walk moves on from a group; behind the last group it ends, or starts again where another walk is due (R274). -/
def State.expiryOn (u : State) (g : Nat) : State :=
  if g + 1 < 2097152 then { u with flw := { u.flw with walkPos := some (g + 1) } }
  else if u.flw.walkDue = true then { u with flw := { u.flw with walkPos := some 0, walkDue := false, walkFrom := u.now } }
  else { u with flw := { u.flw with walkPos := none } }

section
variable {u : State} {g : Nat}

theorem State.expiryOn_of_inner (h : g + 1 < 2097152) : u.expiryOn g = { u with flw := { u.flw with walkPos := some (g + 1) } } :=
  if_pos h

theorem State.expiryOn_of_last (h : 2097152 ≤ g + 1) (hdue : u.flw.walkDue = false) :
    u.expiryOn g = { u with flw := { u.flw with walkPos := none } } :=
  (if_neg (Nat.not_lt.mpr h)).trans (if_neg (ne_true_of_eq_false hdue))

theorem State.expiryOn_of_overrun (h : 2097152 ≤ g + 1) (hdue : u.flw.walkDue = true) :
    u.expiryOn g = { u with flw := { u.flw with walkPos := some 0, walkDue := false, walkFrom := u.now } } :=
  (if_neg (Nat.not_lt.mpr h)).trans (if_pos hdue)

/-- A visit at its time, whose reads the keeper share admits, reads the records of its group, looks at each of them and moves on. -/
theorem exec_expiryVisit_of_admitted {s t : State} (hpos : s.flw.walkPos = some g)
    (hdue : s.flw.walkFrom * 2097152 + g * (s.rd Fld.FLW_EXPIRY_CFG_PERIOD_S * sClk) ≤ s.now * 2097152)
    (hcharge : s.charge 0 actKeeper
      (128 * ((s.groupRecords g).length + ((s.groupRecords g).filter (fun e => s.readsIn e.1 e.2)).length)) (2 ^ 43 + g) = (t, true))
    (hu : u = (s.groupRecords g).foldl (fun u e => u.walkRecord (freeSlot t.fresh) e.1 e.2)
      ((s.groupRecords g).foldl (fun u e => u.hbSend .keeper 2 2 false (recAddr e.1 (s.recIdx e.1 e.2)) 128) t.draw)) :
    exec .expiryVisit s = .next (u.expiryOn g) := by
  change execExpiryVisit s = _
  subst hu
  unfold State.expiryOn
  simp only [execExpiryVisit, hpos, if_neg (Nat.not_lt.mpr hdue), hcharge, if_true, apply_ite Host.Outcome.next]

end

/-! The start of a walk changes a state that already has the time of the next walk.  The two changes are merged here for an arbitrary
time: compared at the actual one, a product with the clocks of a second, the kernel would count through that product. -/

section
variable (s : State) (next : Nat)

theorem State.set_walkAt_walkPos :
    let t := { s with flw := { s.flw with walkAt := next } }
    { t with flw := { t.flw with walkPos := some 0, walkDue := false, walkFrom := s.now } } =
      { s with flw := { s.flw with walkAt := next, walkPos := some 0, walkDue := false, walkFrom := s.now } } := rfl

theorem State.set_walkAt_walkDue :
    let t := { s with flw := { s.flw with walkAt := next } }
    { t with flw := { t.flw with walkDue := true } } = { s with flw := { s.flw with walkAt := next, walkDue := true } } := rfl

end

section
variable {s : State} (hon : s.on Fld.FLW_EXPIRY_CFG_WALK_EN = true) (hdue : s.flw.walkAt ≤ s.now)
include hon hdue

theorem exec_expiryPeriodStart_of_idle (hidle : s.flw.walkPos = none) :
    exec .expiryPeriodStart s = .next { s with flw := { s.flw with
      walkAt := s.now + s.rd Fld.FLW_EXPIRY_CFG_PERIOD_S * sClk, walkPos := some 0, walkDue := false, walkFrom := s.now } } := by
  rw [← State.set_walkAt_walkPos]
  change execExpiryPeriodStart s = _
  unfold execExpiryPeriodStart
  rw [if_pos (by simp [hon, hdue]), hidle]

/-- A walk that is due while the last one runs is an overrun, and waits for its end (R274). -/
theorem exec_expiryPeriodStart_of_running (hrunning : s.flw.walkPos.isSome = true) :
    exec .expiryPeriodStart s =
      .next (({ s with flw := { s.flw with
        walkAt := s.now + s.rd Fld.FLW_EXPIRY_CFG_PERIOD_S * sClk, walkDue := true } }).raise Ev.FLW_EXPIRY_OVERRUN) := by
  obtain ⟨g, hpos⟩ := Option.isSome_iff_exists.mp hrunning
  rw [← State.set_walkAt_walkDue]
  change execExpiryPeriodStart s = _
  unfold execExpiryPeriodStart
  rw [if_pos (by simp [hon, hdue]), hpos]

end

/-! ### Removals -/

/-- A removal that waits for nothing commits (R276). -/
theorem exec_removalCommit_of_ready {s : State} {c key : Nat} {x : Removal}
    (hlisted : s.flw.removals.find? (fun y => y.cls == c && y.key == key) = some x) (hready : s.removalReady x = true) :
    exec (.removalCommit c key) s = .next (s.commitRemoval x) := by
  change execRemovalCommit c key s = _
  simp only [execRemovalCommit, hlisted, hready, if_true]

section
variable {s : State} {tag c key : Nat} (hactive : s.standby = false)
include hactive

section
variable (hrun : s.mbxRuns tag opFlowDelete = true)
include hrun

theorem exec_flowDelete_of_absent (habsent : s.getRec c key = none) :
    exec (.flowDelete tag c key) s = .next (s.reply tag .notFound 0 0 0 true) := by
  change execFlowDelete tag c key s = _
  simp [execFlowDelete, hrun, hactive, habsent]

/-- A delete of a flow record that no removal has taken up starts its removal, which answers the command when it commits (R275, R305). -/
theorem exec_flowDelete_of_flow {r : BitVec 1024} (hsome : s.getRec c key = some r) (hclass : c ≠ 0) (hin : isIn (s.role c) = false)
    (hsub : s.role c ≠ 6) (hue : s.isUe c r = false) (hfirst : s.flw.removals.any (fun y => y.cls == c && y.key == key) = false) :
    exec (.flowDelete tag c key) s = .next (s.startRemoval c key 3 (some tag)) := by
  have deletable : ¬(c = 0 ∨ isIn (s.role c) = true ∨ s.role c = 6 ∨ s.isUe c r = true) := by
    simp only [hclass, hin, hsub, hue, Bool.false_eq_true, or_self, not_false_eq_true]
  change execFlowDelete tag c key s = _
  simp [execFlowDelete, hrun, hactive, hsome, deletable, hfirst]

end

/-- A read of a flow record answers its bits, or NOT_FOUND (R309). -/
theorem exec_flowRead_of_running (hrun : s.mbxRuns tag opFlowRead = true) (hclass : c ≠ 0) :
    exec (.flowRead tag c key) s =
      .next (match s.getRec c key with
        | some r => s.reply tag .ok 0 0 r.toNat true
        | none => s.reply tag .notFound 0 0 0 true) := by
  change execFlowRead tag c key s = _
  cases hrec : s.getRec c key <;> simp [execFlowRead, State.mbxOp, hrun, hactive, hclass, hrec]

end

/-! ### The statement -/

/-- Settles O24: a visit looks at the records of its group and moves the walk on, a walk starts or is made due, a removal commits, and the
host deletes and reads records. -/
theorem flowsExpireAndAreRemoved : Obligations.FlowsExpireAndAreRemoved := by
  unfold Obligations.FlowsExpireAndAreRemoved
  refine ⟨?visit, ?start, ?commit, ?delete, ?read⟩
  case visit =>
    intro g t u s hpos hdue hcharge hu
    rw [exec_expiryVisit_of_admitted hpos hdue hcharge hu]
    exact ⟨fun hinner => congrArg _ (State.expiryOn_of_inner hinner), fun hlast hnone => congrArg _ (State.expiryOn_of_last hlast hnone),
      fun hlast hagain => congrArg _ (State.expiryOn_of_overrun hlast hagain)⟩
  case start =>
    exact fun s hon hdue => ⟨exec_expiryPeriodStart_of_idle hon hdue, exec_expiryPeriodStart_of_running hon hdue⟩
  case commit => exact fun c key x s => exec_removalCommit_of_ready
  case delete =>
    exact fun tag c key s hrun hactive =>
      ⟨exec_flowDelete_of_absent hactive hrun, fun r => exec_flowDelete_of_flow hactive hrun⟩
  case read =>
    intro tag c key s hrun hactive hclass
    rw [exec_flowRead_of_running hactive hrun hclass]
    exact ⟨fun habsent => by rw [habsent], fun r hsome => by rw [hsome]⟩

end Sys2Proof.Machine
end

section
/-! PROOFS. The flow services (R292, R293, R298, R301 to R307, R312): a service acts on a packet, a binding completes, IPFIX messages and
templates are sent, and the members of a load-balance group change. -/
namespace Sys2Proof.Machine
open Sys2Proof.Config

/-! ### The service step -/

section
variable {s t v : State} {n : Nat} {u : FlowUse} {r : BitVec 1024}

/-- Of a TCP packet that no row of Table 10.5 takes, the filter counts the violation and discards the packet (R307). -/
theorem State.filterTcp_of_invalid (htrack : s.clsOn Fld.FLW_SVC_CFG_TCP_TRACK u.cls = true)
    (htcp : ((s.pkt n).fields (s.cls Fld.FLW_CLASS_CFG_LEVEL u.cls)).proto = 6)
    (hrow : tcpStep (FlowRec.TCP_STATE.get r) ((s.pkt n).fields (s.cls Fld.FLW_CLASS_CFG_LEVEL u.cls)).tcp
      (s.ownSide (s.pkt n) u.cls == FlowRec.INIT_SIDE.on r)
      (Sparse.find s.flw.finSide (finKey u.cls u.key) == some (!(s.ownSide (s.pkt n) u.cls == FlowRec.INIT_SIDE.on r))) = none)
    (hdiscard : s.clsOn Fld.FLW_SVC_CFG_INVALID_ACT u.cls = false) :
    s.filterTcp n u r = (((s.bump .FLT_TCP_INVALID u.cls).raiseMs Ev.FLT_TCP_INVALID .device u.cls).discard n, false) := by
  have tracked : (!s.clsOn Fld.FLW_SVC_CFG_TCP_TRACK u.cls ||
      ((s.pkt n).fields (s.cls Fld.FLW_CLASS_CFG_LEVEL u.cls)).proto != 6) = false := by
    simp [htrack, htcp]
  simp only [State.filterTcp, tracked, hrow, hdiscard, Bool.false_eq_true, if_false]

variable (hlisted : (Sparse.find s.pkts n).isSome = true) (hstage : (s.pkt n).stage = .service) (hflow : (s.pkt n).flow = some u)
  (hrec : s.getRec u.cls u.key = some r)
include hlisted hstage hflow hrec

/-- A packet that the filter and NAT pass goes to the policer. -/
theorem exec_flowServiceAct_of_passed (hfilter : s.filterTcp n u r = (t, true)) (hnat : t.natServe n u r = (v, true)) :
    exec (.flowServiceAct n) s = .next (v.toPolicer n) := by
  have listed : (Sparse.find s.pkts n).isNone = false := Option.isNone_eq_false_iff.mpr hlisted
  change execFlowServiceAct n s = _
  simp [execFlowServiceAct, listed, hstage, hflow, hrec, hfilter, hnat]

/-- A packet that the filter has discarded goes no further. -/
theorem exec_flowServiceAct_of_filtered (hfilter : s.filterTcp n u r = (t, false)) : exec (.flowServiceAct n) s = .next t := by
  have listed : (Sparse.find s.pkts n).isNone = false := Option.isNone_eq_false_iff.mpr hlisted
  change execFlowServiceAct n s = _
  simp [execFlowServiceAct, listed, hstage, hflow, hrec, hfilter]

end

/-! ### Bindings -/

section
variable {s t v : State} {c key : Nat} {r q : BitVec 1024} (hwaits : s.flw.binding.contains (c, key) = true)
  (hrec : s.getRec c key = some r) (hsub : s.getRec (s.subOf c key).1 (s.subOf c key).2 = some q)
include hwaits hrec hsub

/-- Without a port the subscriber is let go and the binding is refused (R299). -/
theorem exec_bindingComplete_of_portless
    (hport : s.takePort (s.cls Fld.FLW_SVC_CFG_POOL c) (s.subOf c key).1 (s.subOf c key).2 q = (t, none)) :
    exec (.bindingComplete c key) s = .next ((t.holdSub (s.subOf c key) false).refuseBinding c key) := by
  change execBindingComplete c key s = _
  simp [execBindingComplete, -List.contains_eq_mem, hwaits, hrec, hsub, hport]

section
variable {b off : Nat}
  (hport : s.takePort (s.cls Fld.FLW_SVC_CFG_POOL c) (s.subOf c key).1 (s.subOf c key).2 q = (t, some (b, off)))
include hport

/-- Once the IN record stands, OUT, IN and subscriber records are written together (R298 steps 4 to 6). -/
theorem exec_bindingComplete_of_done
    (hin : t.keeperSetup (t.cls Fld.FLW_SVC_CFG_LINK_CLASS c) (t.inKey c key (t.blockAt (s.cls Fld.FLW_SVC_CFG_POOL c) b).1
      ((t.blockAt (s.cls Fld.FLW_SVC_CFG_POOL c) b).2 + off)) = (v, .done)) :
    exec (.bindingComplete c key) s = .next (v.bind c key (s.cls Fld.FLW_SVC_CFG_POOL c) b off) := by
  change execBindingComplete c key s = _
  simp [execBindingComplete, -List.contains_eq_mem, hwaits, hrec, hsub, hport, hin]

/-- While the IN record's setup waits, the port is given back and the subscriber is held (R298 step 1). -/
theorem exec_bindingComplete_of_waiting
    (hin : t.keeperSetup (t.cls Fld.FLW_SVC_CFG_LINK_CLASS c) (t.inKey c key (t.blockAt (s.cls Fld.FLW_SVC_CFG_POOL c) b).1
      ((t.blockAt (s.cls Fld.FLW_SVC_CFG_POOL c) b).2 + off)) = (v, .waits)) :
    exec (.bindingComplete c key) s = .next (s.holdSub (s.subOf c key) true) := by
  change execBindingComplete c key s = _
  simp [execBindingComplete, -List.contains_eq_mem, hwaits, hrec, hsub, hport, hin]

end

end

/-! ### IPFIX messages -/

section
variable {s t : State} {coll : Nat}

theorem exec_ipfixExportSend_of_queued {r0 : IpfixRec} {mine : List IpfixRec} (hfirst : s.flw.ipfix.find? (fun r => r.coll == coll) = some r0)
    (hknown : (Sparse.find s.flw.templateAt coll).isSome = true)
    (hmine : mine = (s.flw.ipfix.filter (fun r => r.coll == coll && r.tpl == r0.tpl)).take
      ((s.rd Fld.FLW_IPFIX_CFG_MSG_LEN - 20) / max 1 r0.bytes.length))
    (hsend : t = s.ipfixSend coll r0.tpl (mine.flatMap IpfixRec.bytes)) :
    exec (.ipfixExportSend coll) s =
      .next ((({ t with flw := { t.flw with
          ipfix := mine.foldl (fun (l : List IpfixRec) r => l.erase r) s.flw.ipfix,
          ipfixSeq := (t.flw.ipfixSeq + mine.length) % 2 ^ 32 } }).bump .IPFIX_RECORDS coll mine.length).ipfixFill) := by
  have known : (Sparse.find s.flw.templateAt coll).isNone = false := Option.isNone_eq_false_iff.mpr hknown
  subst hmine hsend
  change execIpfixExportSend coll s = _
  simp only [execIpfixExportSend, hfirst, known, Bool.false_eq_true, if_false]

theorem exec_ipfixTemplateSend_of_due (hon : s.on Fld.FLW_IPFIX_CFG_EN = true) (hcoll : s.on Fld.FLW_IPFIX_COLL_EN 0 coll = true)
    (hdue : ∀ x, Sparse.find s.flw.templateAt coll = some x → x + s.rd Fld.FLW_IPFIX_CFG_TEMPLATE_S * sClk ≤ s.now)
    (hsend : t = s.ipfixSend coll 2 ipfixTemplates) :
    exec (.ipfixTemplateSend coll) s =
      .next { t with flw := { t.flw with templateAt := Sparse.insert t.flw.templateAt coll s.now } } := by
  subst hsend
  change execIpfixTemplateSend coll s = _
  cases hlast : Sparse.find s.flw.templateAt coll with
  | none => simp [execIpfixTemplateSend, hon, hcoll, hlast]
  | some x => simp [execIpfixTemplateSend, hon, hcoll, hlast, hdue x hlast]

end

/-! ### Members of a load-balance group -/

section
variable {s u : State} {tag op gi p slot : Nat} {i : Instr} {pipes rest : List Nat} {ok : Bool} {h : Change} {g g' : LbGroup}
  {f : LbGroup → Option LbGroup}

/-- A member operation that its first checks pass, or that has written a pipeline already, writes the pipeline it stands at once the tide
admits it: the group that `f` makes in P0, and P0's group as it then stands in another pipeline. -/
theorem State.lbOp_of_admitted (hat : s.AtPipe tag op i pipes ok h p rest)
    (hok : ok = true → s.standby = false ∧ gi < s.lbCap ∧ (f (s.lbGroup 0 gi)).isSome = true)
    (hadmit : s.admitAt tag h p actHost 4 [(shRes, 2 * 65536 + gi)] = (u, true)) :
    s.lbOp tag op i pipes gi f =
      (u.setLbGroup p gi (if p = 0 then (f (s.lbGroup 0 gi)).getD (u.lbGroup 0 gi) else u.lbGroup 0 gi)).wroteAt tag h p rest none := by
  obtain ⟨hrun, hchange, hleft, hpassed⟩ := hat
  unfold State.lbOp
  extract_lets new check
  have passed : check.isNone = true ∨ h.undo ≠ [] := by
    refine hpassed.imp_left fun h' => ?_
    obtain ⟨hactive, hcap, hsome⟩ := hok h'
    have made : new.isNone = false := Option.isNone_eq_false_iff.mpr hsome
    simp [check, hactive, hcap, made]
  rw [s.replicate_atPipe _ _ _ _ _ _ _ h p rest ⟨hrun, hchange, hleft, passed⟩]
  simp only [State.writeNext, hadmit, Bool.false_eq_true, if_false, new]

/-- In P0 the member operation writes the group that its change makes. -/
theorem State.lbOp_of_first (hat : s.AtPipe tag op i pipes true h 0 rest) (hactive : s.standby = false) (hcap : gi < s.lbCap)
    (hadmit : s.admitAt tag h 0 actHost 4 [(shRes, 2 * 65536 + gi)] = (u, true)) (hnew : f (s.lbGroup 0 gi) = some g) :
    s.lbOp tag op i pipes gi f = (u.setLbGroup 0 gi g).wroteAt tag h 0 rest none := by
  rw [State.lbOp_of_admitted hat (fun _ => ⟨hactive, hcap, by rw [hnew]; rfl⟩) hadmit, hnew, if_pos rfl, Option.getD_some]

/-- In another pipeline it writes what P0 holds (R38). -/
theorem State.lbOp_of_later (hat : s.AtPipe tag op i pipes false h p rest) (hp : p ≠ 0)
    (hadmit : s.admitAt tag h p actHost 4 [(shRes, 2 * 65536 + gi)] = (u, true)) :
    s.lbOp tag op i pipes gi f = (u.setLbGroup p gi (u.lbGroup 0 gi)).wroteAt tag h p rest none := by
  rw [State.lbOp_of_admitted hat (fun h' => Bool.noConfusion h') hadmit, if_neg hp]

/-- A member operation whose change the group does not take is refused before its first write. -/
theorem State.lbOp_of_refused (hrun : s.mbxRuns tag op = true) (hchange : s.changeOf tag i pipes = some h) (hundo : h.undo = [])
    (hactive : s.standby = false) (hnone : f (s.lbGroup 0 gi) = none) :
    s.lbOp tag op i pipes gi f = s.reply tag .badRule 0 0 0 true := by
  simp [State.lbOp, State.replicate, hrun, hchange, hundo, hactive, hnone]

section
variable (hgroup : g = s.lbGroup 0 gi)
include hgroup

section
variable (hactive : s.standby = false) (hcap : gi < s.lbCap)
  (hadmit : s.admitAt tag h 0 actHost 4 [(shRes, 2 * 65536 + gi)] = (u, true))
include hactive hcap hadmit

/-- In P0 an EMPTY slot becomes ACTIVE, or an ACTIVE one of the same next hop takes the weight, and the buckets are rebalanced. -/
theorem exec_lbMemberSet_of_first {nh weight : Nat}
    (hat : s.AtPipe tag opLbMemberSet (.lbMemberSet tag gi slot nh weight) allPipes true h 0 rest)
    (hweight : 1 ≤ weight ∧ weight ≤ 255 ∧ slot < 64) (hnh : nh < s.nhCap) (htype : NextHop.TYPE.get (s.nhAt 0 nh) = 1)
    (hslot : (g.at slot).state = 0 ∨ ((g.at slot).state = 1 ∧ (g.at slot).nh = nh)) :
    exec (.lbMemberSet tag gi slot nh weight) s =
      .next ((u.setLbGroup 0 gi (({ g with
        members := Sparse.insert g.members slot { g.at slot with state := 1, nh := nh, weight := weight } }).rebalance 512)).wroteAt
          tag h 0 rest none) := by
  subst hgroup
  refine congrArg Host.Outcome.next (State.lbOp_of_first hat hactive hcap hadmit ?_)
  obtain hempty | ⟨hstate, hsame⟩ := hslot
  · simp [hweight, hnh, htype, hempty]
  · simp [hweight, hnh, htype, hstate, hsame]

/-- In P0 an ACTIVE member becomes DRAINING and gives its buckets up. -/
theorem exec_lbMemberDrain_of_first (hat : s.AtPipe tag opLbMemberDrain (.lbMemberDrain tag gi slot) allPipes true h 0 rest)
    (hstate : (g.at slot).state = 1) :
    exec (.lbMemberDrain tag gi slot) s =
      .next ((u.setLbGroup 0 gi (({ g with members := Sparse.insert g.members slot { g.at slot with state := 2 } }).drainSlot slot
        256)).wroteAt tag h 0 rest none) := by
  subst hgroup
  exact congrArg Host.Outcome.next (State.lbOp_of_first hat hactive hcap hadmit (if_pos hstate))

section
variable (hat : s.AtPipe tag opLbMemberRemove (.lbMemberRemove tag gi slot) (allPipes ++ allPipes) true h 0 rest)
  (hstate : (g.at slot).state ≠ 0)
include hat hstate

/-- In P0 a member without buckets becomes EMPTY with the next generation. -/
theorem exec_lbMemberRemove_of_bare (hheld : g.held slot = []) :
    exec (.lbMemberRemove tag gi slot) s =
      .next ((u.setLbGroup 0 gi { g with
        members := Sparse.insert g.members slot ⟨0, 0, 0, ((g.at slot).gen + 1) % 256⟩ }).wroteAt tag h 0 rest none) := by
  subst hgroup
  exact congrArg Host.Outcome.next (State.lbOp_of_first hat hactive hcap hadmit (by simp [hstate, hheld]))

/-- In P0 a member with buckets gives them up first. -/
theorem exec_lbMemberRemove_of_held (hheld : g.held slot ≠ []) :
    exec (.lbMemberRemove tag gi slot) s =
      .next ((u.setLbGroup 0 gi { g with
        buckets := (({ g with
          members := Sparse.insert g.members slot ⟨0, 0, 0, ((g.at slot).gen + 1) % 256⟩ }).drainSlot slot 256).buckets }).wroteAt
            tag h 0 rest none) := by
  subst hgroup
  exact congrArg Host.Outcome.next (State.lbOp_of_first hat hactive hcap hadmit (by simp [hstate, hheld]))

end

end

/-- A member that is not ACTIVE cannot be drained. -/
theorem exec_lbMemberDrain_of_refused (hrun : s.mbxRuns tag opLbMemberDrain = true)
    (hchange : s.changeOf tag (.lbMemberDrain tag gi slot) allPipes = some h) (hundo : h.undo = []) (hactive : s.standby = false)
    (hstate : (g.at slot).state ≠ 1) :
    exec (.lbMemberDrain tag gi slot) s = .next (s.reply tag .badRule 0 0 0 true) := by
  subst hgroup
  exact congrArg Host.Outcome.next (State.lbOp_of_refused hrun hchange hundo hactive (if_neg hstate))

end

end

section
variable {s : State} {tag gi : Nat} (hrun : s.mbxRuns tag opLbGroupStatus = true) (hactive : s.standby = false)
include hrun hactive

/-- A status answers the state and the bucket count of each member slot (R291; the layout is log entry 41's choice). -/
theorem exec_lbGroupStatus_of_group (hcap : gi < s.lbCap) :
    exec (.lbGroupStatus tag gi) s =
      .next (s.reply tag .ok 0 0 ((List.range 64).foldl (fun a k =>
        a + (((s.lbGroup 0 gi).at k).state + ((s.lbGroup 0 gi).held k).length * 4) * 2 ^ (16 * k)) 0) true) := by
  change execLbGroupStatus tag gi s = _
  simp only [execLbGroupStatus, State.mbxOp, hrun, hactive, Nat.not_le.mpr hcap, Bool.false_eq_true, if_true, if_false]

theorem exec_lbGroupStatus_of_beyond (hbeyond : s.lbCap ≤ gi) :
    exec (.lbGroupStatus tag gi) s = .next (s.reply tag .badRule 0 0 0 true) := by
  change execLbGroupStatus tag gi s = _
  simp only [execLbGroupStatus, State.mbxOp, hrun, hactive, hbeyond, Bool.false_eq_true, if_true, if_false]

end

/-! ### The statement -/

/-- Settles O25: the services act on a packet, a binding completes or is refused, IPFIX messages and templates are sent, and load-balance
members are set, drained, removed and read. -/
theorem flowServicesComplete : Obligations.FlowServicesComplete := by
  unfold Obligations.FlowServicesComplete
  refine ⟨?service, ?binding, ?message, ?template, ?set, ?drain, ?remove, ?status⟩
  case service =>
    exact fun n u r s t v hlisted hstage hflow hrec =>
      ⟨exec_flowServiceAct_of_passed hlisted hstage hflow hrec, fun htrack htcp hrow hdiscard =>
        exec_flowServiceAct_of_filtered hlisted hstage hflow hrec (State.filterTcp_of_invalid htrack htcp hrow hdiscard)⟩
  case binding =>
    rintro c key k r q s t v b off hwaits hrec rfl hsub
    exact ⟨fun hport => ⟨exec_bindingComplete_of_done hwaits hrec hsub hport, exec_bindingComplete_of_waiting hwaits hrec hsub hport⟩,
      exec_bindingComplete_of_portless hwaits hrec hsub⟩
  case message => exact fun coll r0 mine s t => exec_ipfixExportSend_of_queued
  case template => exact fun coll s t => exec_ipfixTemplateSend_of_due
  case set =>
    refine fun tag gi slot nh weight p rest h g s u hgroup hadmit => ⟨?_, fun hp hat =>
      congrArg Host.Outcome.next (State.lbOp_of_later hat hp hadmit)⟩
    rintro rfl hat hactive hcap hlow hhigh hslot hnh htype hstate
    exact exec_lbMemberSet_of_first hgroup hactive hcap hadmit hat ⟨hlow, hhigh, hslot⟩ hnh htype hstate
  case drain =>
    refine fun tag gi slot p rest h g s u hgroup hadmit => ⟨?_, fun hp hat =>
      congrArg Host.Outcome.next (State.lbOp_of_later hat hp hadmit), exec_lbMemberDrain_of_refused hgroup⟩
    rintro rfl hat hactive hcap
    exact exec_lbMemberDrain_of_first hgroup hactive hcap hadmit hat
  case remove =>
    refine fun tag gi slot p rest h g s u hgroup hadmit => ⟨?_, fun hp hat =>
      congrArg Host.Outcome.next (State.lbOp_of_later hat hp hadmit)⟩
    rintro rfl hat hactive hcap hstate
    exact ⟨exec_lbMemberRemove_of_bare hgroup hactive hcap hadmit hat hstate,
      exec_lbMemberRemove_of_held hgroup hactive hcap hadmit hat hstate⟩
  case status =>
    refine fun tag gi g s hrun hactive => ⟨?_, exec_lbGroupStatus_of_beyond hrun hactive⟩
    rintro hcap rfl
    exact exec_lbGroupStatus_of_group hrun hactive hcap

end Sys2Proof.Machine
end

section
/-! PROOFS. The session stage and the session operations (R321, R322, R328 to R331, R334, R336, R339, R341 to R344): the row of Table 11.4
that takes a packet, and SESSION_CREATE, SESSION_MODIFY, SESSION_DELETE, SESSION_READ and URR_QUERY. -/
namespace Sys2Proof.Machine
open Sys2Proof.Config

/-! ### The rows of Table 11.4 -/

/-- Row 1 of Table 11.4 takes the packet: it is an uplink packet that may not use the session its TEID names. -/
def SessUse.teidFails (u : SessUse) (d : State) (p : Packet) : Bool :=
  !u.downlink && d.badTeid (d.head u.idx) (match p.gtpu with | some o => beAt p.parsed (o + 4) 4 | none => 0) ((d.n3Of p).getD 4)

section
variable {u : SessUse} {d : State} {p : Packet}

theorem SessUse.teidFails_of_downlink (hdown : u.downlink = true) : u.teidFails d p = false := by
  rw [SessUse.teidFails, hdown, Bool.not_true, Bool.false_and]

theorem SessUse.teidFails_of_uplink {o k : Nat} (hgtpu : p.gtpu = some o) (hn3 : d.n3Of p = some k) (hup : u.downlink = false) :
    u.teidFails d p = d.badTeid (d.head u.idx) (beAt p.parsed (o + 4) 4) k := by
  simp only [SessUse.teidFails, hgtpu, hn3, hup, Bool.not_false, Bool.true_and, Option.getD_some]

theorem SessUse.teidFails_of_good
    (hteid : u.downlink = true ∨
      ∃ o k, p.gtpu = some o ∧ d.n3Of p = some k ∧ d.badTeid (d.head u.idx) (beAt p.parsed (o + 4) 4) k = false) :
    u.teidFails d p = false := by
  cases hdir : u.downlink with
  | true => exact SessUse.teidFails_of_downlink hdir
  | false =>
    obtain hdown | ⟨o, k, hgtpu, hn3, hgood⟩ := hteid
    · exact absurd hdown (ne_true_of_eq_false hdir)
    · exact (SessUse.teidFails_of_uplink hgtpu hn3 hdir).trans hgood

end

section
variable {s : State} {n : Nat} {u : SessUse} (hlisted : (Sparse.find s.pkts n).isSome = true) (hstage : (s.pkt n).stage = .session)
  (hsess : (s.pkt n).sess = some u)
include hlisted hstage hsess

/-- Row 1: the packet is discarded, counted and reported, and an Error Indication is owed for it (R341). -/
theorem exec_sessionStage_of_badTeid {o : Nat} (hgtpu : (s.pkt n).gtpu = some o)
    (hfails : u.teidFails (s.decideSess u.idx) (s.pkt n) = true) :
    exec (.sessionStage n) s = .next (((((s.decideSess u.idx).discard n).bump .UPS_BAD_TEID (s.pkt n).pipe).raiseMs Ev.UPS_BAD_TEID .port
      (s.pkt n).port).oweErrInd (s.pkt n) (beAt (s.pkt n).parsed (o + 4) 4)) := by
  have listed : (Sparse.find s.pkts n).isNone = false := Option.isNone_eq_false_iff.mpr hlisted
  simp only [SessUse.teidFails, hgtpu] at hfails
  change execSessionStage n s = _
  simp only [execSessionStage, listed, hstage, hsess, hgtpu, hfails, bne_self_eq_false, Bool.or_self, Bool.false_eq_true, if_false, if_true]

section
variable (hteid : u.teidFails (s.decideSess u.idx) (s.pkt n) = false)
include hteid

/-- Row 2: no PDR matches. -/
theorem exec_sessionStage_of_noPdr
    (hnone : (List.range 4).find? (fun i => pdrMatches (pdrOf ((s.decideSess u.idx).head u.idx) i) (s.pkt n) u.downlink) = none) :
    exec (.sessionStage n) s = .next (((s.decideSess u.idx).discard n).bump .UPS_NO_PDR (s.pkt n).pipe) := by
  have listed : (Sparse.find s.pkts n).isNone = false := Option.isNone_eq_false_iff.mpr hlisted
  change execSessionStage n s = _
  simp only [execSessionStage, listed, hstage, hsess, hnone, bne_self_eq_false, Bool.or_self, Bool.false_eq_true, if_false]
  exact if_neg (ne_true_of_eq_false hteid)

/-- Rows 3 to 8: what the FAR of the first matching PDR does. -/
theorem exec_sessionStage_of_pdr {i : Nat} {far : BitVec 64}
    (hpdr : (List.range 4).find? (fun i => pdrMatches (pdrOf ((s.decideSess u.idx).head u.idx) i) (s.pkt n) u.downlink) = some i)
    (hfar : far = farOf ((s.decideSess u.idx).head u.idx) (Pdr.FAR.get (pdrOf ((s.decideSess u.idx).head u.idx) i))) :
    exec (.sessionStage n) s =
      let d := s.decideSess u.idx
      if Far.ACTION.get far = 0 then .next ((d.discard n).bump .UPS_FAR_DROP (s.pkt n).pipe)
      else if u.downlink && (s.pkt n).replay.isNone && (Sess.BUFFERING.on (d.head u.idx) || Far.ACTION.get far == 2) then
        .next (d.sessBuffer n u i far)
      else .next (d.sessForward n u (pdrOf (d.head u.idx) i) far) := by
  have listed : (Sparse.find s.pkts n).isNone = false := Option.isNone_eq_false_iff.mpr hlisted
  subst hfar
  change execSessionStage n s = _
  simp only [execSessionStage, listed, hstage, hsess, hpdr, bne_self_eq_false, Bool.or_self, Bool.false_eq_true, if_false]
  exact if_neg (ne_true_of_eq_false hteid)

end

end

/-! ### SESSION_CREATE and SESSION_MODIFY -/

section
variable {s u : State} {tag i : Nat} {body : BitVec 4096} (hactive : s.standby = false)
include hactive

section
variable (hrun : s.mbxRuns tag opSessionCreate = true) (hreplay : Sess.REPLAY.on (s.sess i) = false)
include hrun hreplay

theorem exec_sessionCreate_of_inUse (hvalid : Sess.VALID.on (s.head i) = true) :
    exec (.sessionCreate tag i body) s = .next (s.reply tag .exists_ 0 0 0 true) := by
  change execSessionCreate tag i body s = _
  unfold execSessionCreate
  rw [if_neg (by simp [hrun]), if_neg (by simp [hactive]), if_neg (by simp [hreplay]), if_pos hvalid]

/-- A free index takes the record; with the UE records set up the operation answers the local TEID (R322, R343). -/
theorem exec_sessionCreate_of_admitted {v t : State} {m : MbxStatus} (hfree : Sess.VALID.on (s.head i) = false)
    (hbody : s.sessBad body = false) (hcharge : s.charge 0 actSession 512 (sessTag i) = (u, true))
    (hput : v = ((u.hbSend .session 1 4 true (recAddr 0 i) 512).putSess i (u.freshSess i body)).countSession true)
    (hues : v.setUes i (v.ueKeys (v.sess i)) = (t, .done, m)) :
    exec (.sessionCreate tag i body) s = .next (t.sessReply i tag .ok (t.teidOf i) 0) := by
  subst hput
  change execSessionCreate tag i body s = _
  unfold execSessionCreate
  rw [if_neg (by simp [hrun]), if_neg (by simp [hactive]), if_neg (by simp [hreplay]), if_neg (by simp [hfree]),
    if_neg (by simp [hbody]), hcharge]
  simp only [Bool.not_true, Bool.false_eq_true, if_false, hues]

end

/-- The URRs whose limits change are settled around the write of the new record, the URRs that start are loaded, and what the change calls for
is started (R339, R344). -/
theorem exec_sessionModify_of_admitted {em : Nat} {clr : Bool} {changed started : List Nat} {v w x : State}
    (hrun : s.mbxRuns tag opSessionModify = true) (hvalid : Sess.VALID.on (s.sess i) = true)
    (hreplay : Sess.REPLAY.on (s.sess i) = false) (hbody : s.sessBad body = false)
    (hue : [Sess.UE_IPV4, Sess.UE_IPV6_PFX, Sess.UE_V4_VALID, Sess.UE_V6_VALID, Sess.VRF].any
      (fun f => f.get (s.sess i) != f.get body) = false)
    (hchanged : changed = (List.range 4).filter (fun k => urrChanges (s.sess i) body k && Urr.EN.on (urrOf (s.sess i) k)))
    (hcharge : s.charge 0 actSession 384 (sessTag i) = (u, true))
    (hbefore : v = changed.foldl (fun t k => t.settle1 i k) (u.hbSend .session 1 4 true (recAddr 0 i + 128) 384))
    (hafter : w = changed.foldl (fun t k =>
      if Urr.EN.on (urrOf (modified (v.sess i) body) k) then State.settled i k (t.settle2 i k) else t)
        (v.putSess i (modified (v.sess i) body)))
    (hstarted : started = (List.range 4).filter (fun k =>
      !Urr.EN.on (urrOf (s.sess i) k) && Urr.EN.on (urrOf (modified (v.sess i) body) k)))
    (hloaded : x = started.foldl (fun (t : State) k => (t.modSess i (fun r =>
      setFields r [(Sess.PERIOD_START k, t.todSec), (Sess.LOADED k, Urr.LEFT.get (urrOf r k))])).settleNow i k) w) :
    exec (.sessionModify tag i body clr em) s =
      .next ((x.afterModify i (v.sess i) (modified (v.sess i) body) clr em).sessReply i tag .ok 0 0) := by
  subst hloaded hstarted hafter hbefore hchanged
  change execSessionModify tag i body clr em s = _
  simp only [execSessionModify, hrun, hactive, hvalid, hreplay, hbody, hue, hcharge, Bool.not_true, Bool.or_self, Bool.false_eq_true,
    if_false]

end

/-! ### SESSION_DELETE -/

section
variable {s : State} {tag i : Nat} (hrun : s.mbxRuns tag opSessionDelete = true) (hactive : s.standby = false)
include hrun hactive

theorem exec_sessionDelete_of_absent (habsent : Sess.VALID.on (s.head i) = false) :
    exec (.sessionDelete tag i) s = .next (s.reply tag .notFound 0 0 0 true) := by
  change execSessionDelete tag i s = _
  simp [execSessionDelete, hrun, hactive, habsent]

/-- The session goes once its UE records are gone (R276). -/
theorem exec_sessionDelete_of_uesGone (hvalid : Sess.VALID.on (s.head i) = true) (hreplay : Sess.REPLAY.on (s.sess i) = false)
    (hgone : (s.dropUes i).uesGone i = true) :
    exec (.sessionDelete tag i) s = .next (((s.dropUes i).dropSession i).sessReply i tag .ok 0 0) := by
  change execSessionDelete tag i s = _
  simp [execSessionDelete, hrun, hactive, hvalid, hreplay, hgone]

end

/-! ### Operations on a session that exists -/

section
variable {s : State} {tag op i : Nat} (hrun : s.mbxRuns tag op = true) (hactive : s.standby = false) (f : State → State × Nat)
include hrun hactive

theorem State.sessRun_of_absent (habsent : Sess.VALID.on (s.head i) = false) :
    s.sessRun tag op i f = s.reply tag .notFound 0 0 0 true := by
  simp [State.sessRun, hrun, hactive, habsent]

theorem State.sessRun_of_valid (hvalid : Sess.VALID.on (s.head i) = true) (hreplay : Sess.REPLAY.on (s.sess i) = false) :
    s.sessRun tag op i f = (f s).1.sessReply i tag .ok 0 (f s).2 := by
  simp [State.sessRun, hrun, hactive, hvalid, hreplay]

end

/-! ### The statement -/

/-- Settles O26: a packet of a session takes the first row of Table 11.4 that applies, and the session operations of the mailbox
complete. -/
theorem sessionOutcomesAndOperations : Obligations.SessionOutcomesAndOperations := by
  unfold Obligations.SessionOutcomesAndOperations
  refine ⟨?stage, ?create, ?modify, ?delete, ?read, ?query⟩
  case stage =>
    refine fun n u s hlisted hstage hsess => ⟨?badTeid, ?others⟩
    case badTeid =>
      rintro o k teid d hgtpu rfl hn3 rfl hup hbad
      exact exec_sessionStage_of_badTeid hlisted hstage hsess hgtpu ((SessUse.teidFails_of_uplink hgtpu hn3 hup).trans hbad)
    case others =>
      rintro d rfl hteid
      have passes := SessUse.teidFails_of_good hteid
      refine ⟨exec_sessionStage_of_noPdr hlisted hstage hsess passes, fun i far hpdr hfar => ?_⟩
      have ruled := exec_sessionStage_of_pdr hlisted hstage hsess passes hpdr hfar
      refine ⟨fun hdrop => ?_, fun hkeep hdown hnew hbuffers => ?_, fun hkeep hforward => ?_⟩
      · rw [ruled, if_pos hdrop]
      · rw [ruled, if_neg hkeep, if_pos (by simpa [hdown, hnew] using hbuffers)]
      · rw [ruled, if_neg hkeep, if_neg]
        obtain hup | hreplay | ⟨hopen, haction⟩ := hforward
        · simp [hup]
        · simp [Option.isNone_eq_false_iff.mpr hreplay]
        · simp [hopen, haction]
  case create =>
    exact fun tag i body m s u v t hrun hactive hreplay =>
      ⟨exec_sessionCreate_of_inUse hactive hrun hreplay, exec_sessionCreate_of_admitted hactive hrun hreplay⟩
  case modify =>
    exact fun tag i em body clr changed started s u v w x hrun hactive => exec_sessionModify_of_admitted hactive hrun
  case delete =>
    exact fun tag i s hrun hactive => ⟨exec_sessionDelete_of_absent hrun hactive, exec_sessionDelete_of_uesGone hrun hactive⟩
  case read =>
    refine fun tag i s t hrun hactive => ⟨fun habsent => congrArg Host.Outcome.next (State.sessRun_of_absent hrun hactive _ habsent), ?_⟩
    rintro hvalid hreplay rfl
    exact congrArg Host.Outcome.next (State.sessRun_of_valid hrun hactive _ hvalid hreplay)
  case query =>
    exact fun tag i mask s hrun hactive =>
      ⟨fun habsent => congrArg Host.Outcome.next (State.sessRun_of_absent hrun hactive _ habsent),
        fun hvalid hreplay => congrArg Host.Outcome.next (State.sessRun_of_valid hrun hactive _ hvalid hreplay)⟩

end Sys2Proof.Machine
end

section
/-! PROOFS. Usage, buffering and GTP-U messages (R333, R334, R336 to R338, R340 to R342): a settle takes its next step, periods end, held
notifications are written, packets are buffered, expire and are replayed, and the keepers answer and send. -/
namespace Sys2Proof.Machine
open Sys2Proof.Config

/-! ### Usage and reports -/

/-- The keepers' usage queue is another. -/
def State.setSettles (s : State) (l : List (Nat × Nat × Bool)) : State := { s with ups := { s.ups with settles := l } }

/-- A settle that waits goes on to its other step. -/
def State.turnSettle (s : State) (i u : Nat) (second : Bool) : State :=
  s.setSettles (s.ups.settles.map (fun y => if y = (i, u, second) then (i, u, !second) else y))

theorem pair_eq_of_snd {α β : Type} {p : α × β} {b : β} (h : p.2 = b) : p = (p.1, b) := by rw [← h]

section
variable {s v : State} {i u : Nat} (hvalid : Sess.VALID.on (s.head i) = true) (hen : Urr.EN.on (urrOf (s.head i) u) = true)
  (hcharge : s.charge 0 actSession 128 (2 ^ 47 + 4 * i + u) = (v, true))
include hvalid hen hcharge

theorem exec_usageSettle_of_stepOne (hwaits : s.ups.settles.find? (fun e => e.1 == i && e.2.1 == u) = some (i, u, false)) :
    exec (.usageSettle i u) s = .next (((v.hbSend .session 1 4 true (recAddr 0 i + 384) 128).settle1 i u).turnSettle i u false) := by
  change execUsageSettle i u s = _
  unfold execUsageSettle
  rw [hwaits, hcharge]
  exact if_neg (by simp [hvalid, hen])

/-- Step 2 ends the settle, or starts it again when OVER has reached the new load. -/
theorem exec_usageSettle_of_stepTwo {x : State} {done : Bool}
    (hwaits : s.ups.settles.find? (fun e => e.1 == i && e.2.1 == u) = some (i, u, true))
    (hstep : (v.hbSend .session 1 4 true (recAddr 0 i + 384) 128).settle2 i u = (x, done)) :
    exec (.usageSettle i u) s =
      .next (if done then x.setSettles (x.ups.settles.filter (fun e => e != (i, u, true))) else x.turnSettle i u true) := by
  change execUsageSettle i u s = _
  unfold execUsageSettle
  rw [hwaits, hcharge]
  refine (if_neg (by simp [hvalid, hen])).trans <| (if_neg Bool.false_ne_true).trans <| (if_pos rfl).trans ?_
  rw [hstep]
  rfl

end

theorem exec_timeThresholdExpiry_of_due {s : State} {i u : Nat} (hvalid : Sess.VALID.on (s.sess i) = true)
    (hen : Urr.EN.on (urrOf (s.sess i) u) = true) (hthresh : (Sess.TIME_THRESH u).get (s.sess i) ≠ 0)
    (hdue : (Sess.TIME_THRESH u).get (s.sess i) ≤ (s.todSec % 2 ^ 32 + 2 ^ 32 - (Sess.PERIOD_START u).get (s.sess i)) % 2 ^ 32) :
    exec (.timeThresholdExpiry i u) s = .next ((s.settleNow i u).report i u .time) := by
  change execTimeThresholdExpiry i u s = _
  refine if_pos ?_
  rw [hvalid, hen, Bool.true_and, Bool.true_and, bne_iff_ne.mpr hthresh, Bool.true_and]
  exact decide_eq_true hdue

section
variable {s : State} {kind payload : Nat} {rest : List (Nat × Nat)} (hheld : s.ups.held = (kind, payload) :: rest)
include hheld

theorem exec_reportRingSpace_of_full (hfull : s.ntfFull = true) : exec .reportRingSpace s = .next s := by
  change execReportRingSpace s = _
  simp only [execReportRingSpace, hheld, hfull, if_true]

/-- The oldest held notification is written once the ring has space, a usage report with its volume brought up to now. -/
theorem exec_reportRingSpace_of_space (hspace : s.ntfFull = false) :
    exec .reportRingSpace s =
      let t := { s with ups := { s.ups with held := rest } }
      let x := if kind = 4 then t.freshReport payload else (t, payload)
      .next (x.1.writeNote kind x.2) := by
  change execReportRingSpace s = _
  simp only [execReportRingSpace, hheld, hspace, Bool.false_eq_true, if_false]

end

/-! ### Buffering -/

/-- The oldest packet leaves the buffer queue: BUF_TRANSIT of its session falls. -/
def State.leaveBufQ (s : State) (b : BufItem) (rest : List BufItem) : State :=
  ({ s with ups := { s.ups with bufQ := rest } }).modHead b.session (fun h => Sess.BUF_TRANSIT.set h (Sess.BUF_TRANSIT.get h - 1))

section
variable {s : State} {b : BufItem} {rest : List BufItem} (hfirst : s.ups.bufQ = b :: rest)
include hfirst

theorem exec_bufferEnqueue_of_arriving (hstatus : (s.pkt b.pkt).status = none) : exec .bufferEnqueue s = .next s := by
  change execBufferEnqueue s = _
  simp only [execBufferEnqueue, hfirst, hstatus]

theorem exec_bufferEnqueue_of_errored (hstatus : (s.pkt b.pkt).status = some true) :
    exec .bufferEnqueue s = .next ((s.leaveBufQ b rest).forget b.pkt) := by
  change execBufferEnqueue s = _
  simp only [execBufferEnqueue, hfirst, hstatus, Bool.true_or, if_true]
  rfl

section
variable (hstatus : (s.pkt b.pkt).status = some false) (hvalid : Sess.VALID.on (s.sess b.session) = true)
include hstatus hvalid

theorem exec_bufferEnqueue_of_limit (hlimit : Sess.BUF_LIMIT.get (s.sess b.session) ≤ (s.sessBuf b.session).length) :
    exec .bufferEnqueue s = .next (((s.leaveBufQ b rest).forget b.pkt).bump .UPS_BUF_DROP_LIMIT) := by
  change execBufferEnqueue s = _
  simp only [execBufferEnqueue, hfirst, hstatus, hvalid, Nat.lt_succ_of_le hlimit, Bool.not_true, Bool.or_self, Bool.false_eq_true,
    if_false, if_true]
  rfl

section
variable (hbelow : (s.sessBuf b.session).length < Sess.BUF_LIMIT.get (s.sess b.session))
include hbelow

theorem exec_bufferEnqueue_of_full
    (hfull : s.rd Fld.UPS_BUF_CFG_SIZE_MIB * 512 < s.rd Fld.UPS_BUF_STATUS_UNITS_USED + s.bufUnits b.pkt) :
    exec .bufferEnqueue s =
      .next ((((s.leaveBufQ b rest).forget b.pkt).bump .UPS_BUF_DROP_FULL).raiseMs Ev.UPS_BUF_FULL .pipeline (s.pkt b.pkt).pipe) := by
  change execBufferEnqueue s = _
  simp only [execBufferEnqueue, hfirst, hstatus, hvalid, Nat.not_lt.mpr (Nat.succ_le_of_lt hbelow), hfull, Bool.not_true, Bool.or_self,
    Bool.false_eq_true, if_false, if_true]
  rfl

/-- With room, and its write admitted, the packet is buffered; the host is notified of the first one (R337). -/
theorem exec_bufferEnqueue_of_room {u : State}
    (hroom : s.rd Fld.UPS_BUF_STATUS_UNITS_USED + s.bufUnits b.pkt ≤ s.rd Fld.UPS_BUF_CFG_SIZE_MIB * 512)
    (hcharge : s.charge 0 actSession (hbWriteCharge 0 ((s.pkt b.pkt).orig.length + 36)) (2 ^ 46 + b.pkt) = (u, true)) :
    exec .bufferEnqueue s =
      let w := (u.leaveBufQ b rest).setSessBuf b.session (u.sessBuf b.session ++ [(b.pkt, s.now)])
      if b.notify && !Sess.NOTIFIED.on (s.sess b.session) then
        .next ((w.modSess b.session (fun x => Sess.NOTIFIED.set x 1)).notify 5 (b.session + b.pdrId * 2 ^ 32 + b.qfi * 2 ^ 48) true)
      else .next w := by
  change execBufferEnqueue s = _
  simp only [execBufferEnqueue, hfirst, hstatus, hvalid, Nat.not_lt.mpr (Nat.succ_le_of_lt hbelow), Nat.not_lt.mpr hroom, hcharge,
    Bool.not_true, Bool.or_self, Bool.false_eq_true, if_false]
  rfl

end

end

end

section
variable {s : State} {i : Nat} {old keep : List (Nat × Nat)}
  (hold : old = (s.sessBuf i).filter (fun e => decide (e.2 + Sess.BUF_TIME_S.get (s.sess i) * sClk < s.now)))
  (hkeep : keep = (s.sessBuf i).filter (fun e => !decide (e.2 + Sess.BUF_TIME_S.get (s.sess i) * sClk < s.now)))
include hold hkeep

/-- The buffered packets older than BUF_TIME_S are discarded and counted together; the others stay. -/
theorem exec_bufferExpiry_eq :
    exec (.bufferExpiry i) s =
      if old.isEmpty then .next s
      else .next ((old.foldl (fun u e => u.forget e.1) (s.setSessBuf i keep)).bump .UPS_BUF_EXPIRED 0 old.length) := by
  subst hold hkeep
  change execBufferExpiry i s = _
  simp only [execBufferExpiry, List.partition_eq_filter_filter]
  rfl

end

/-! ### Replay -/

/-- A replay sends the oldest buffered packet of its session, and holds the next one back for 875 clocks (R338). -/
theorem exec_replaySend_of_admitted {s t : State} {i n at_ : Nat} {rest : List (Nat × Nat)} (hbuf : s.sessBuf i = (n, at_) :: rest)
    (hreplay : Sess.REPLAY.on (s.sess i) = true) (hdue : (Sparse.get s.ups.bufs i ⟨[], 0⟩).nextAt ≤ s.now)
    (hcharge : s.charge 0 actSession ((s.pkt n).orig.length + 36) (2 ^ 46 + n) = (t, true)) :
    exec (.replaySend i) s =
      let u := (t.setSessBuf i rest).forget n
      let v := if rest.isEmpty then u else { u with ups := { u.ups with bufs := Sparse.insert u.ups.bufs i ⟨rest, s.now + 875⟩ } }
      .next (v.keeperPacket (s.pkt n).pipe { Packet.init with frame := (s.pkt n).orig, replay := some i }) := by
  change execReplaySend i s = _
  simp only [execReplaySend, hbuf, hreplay, Nat.not_lt.mpr hdue, hcharge, Bool.not_true, decide_false, Bool.or_self, Bool.false_eq_true,
    if_false]

section
variable {s : State} {i : Nat}

theorem exec_replayEnd_of_done (hruns : Sess.REPLAY.on (s.sess i) = true ∨ Sess.BUFFERING.on (s.sess i) = true)
    (hempty : s.sessBuf i = []) (htransit : Sess.BUF_TRANSIT.get (s.sess i) = 0)
    (hquiet : s.ups.decidedAt ≠ s.now ∨ s.ups.decided.contains i = false) :
    exec (.replayEnd i) s = .next (s.modSess i (fun x => setFields x [(Sess.BUFFERING, 0), (Sess.REPLAY, 0)])) := by
  have runs : (Sess.REPLAY.on (s.sess i) || Sess.BUFFERING.on (s.sess i)) = true := Bool.or_eq_true_iff.mpr hruns
  have quiet : (s.ups.decidedAt == s.now && s.ups.decided.contains i) = false :=
    Bool.and_eq_false_iff.mpr (hquiet.imp_left beq_false_of_ne)
  change execReplayEnd i s = _
  exact if_pos (by rw [runs, quiet, hempty, htransit]; rfl)

theorem exec_replayEnd_of_transit (htransit : Sess.BUF_TRANSIT.get (s.sess i) ≠ 0) : exec (.replayEnd i) s = .next s := by
  change execReplayEnd i s = _
  exact if_neg (by rw [beq_false_of_ne htransit, Bool.and_false, Bool.false_and]; exact Bool.false_ne_true)

end

/-! ### GTP-U messages -/

section
variable {s t : State} {n o : Nat} (hlisted : (Sparse.find s.pkts n).isSome = true) (hstage : (s.pkt n).stage = .kept)
  (hstatus : (s.pkt n).status = some false) (hgtpu : (s.pkt n).gtpu = some o)
include hlisted hstage hstatus hgtpu

theorem exec_echoRequest_of_beyond (hrate : s.takeAnswer 0 (s.rd Fld.UPS_RATE_CFG_ECHO_RATE) = (t, false)) :
    exec (.echoRequest n) s = .next ((s.forget n).bump .UPS_ECHO_DROP) := by
  have listed : (Sparse.find s.pkts n).isNone = false := Option.isNone_eq_false_iff.mpr hlisted
  change execEchoRequest n s = _
  simp only [execEchoRequest, listed, hstage, hstatus, hgtpu, hrate, bne_self_eq_false, Bool.or_self, Bool.false_eq_true, if_false]

/-- An Echo Response carries the request's sequence number and a Recovery of 0 (R340). -/
theorem exec_echoRequest_of_within (hrate : s.takeAnswer 0 (s.rd Fld.UPS_RATE_CFG_ECHO_RATE) = (t, true)) :
    exec (.echoRequest n) s =
      let f := (s.pkt n).fields 0
      .next ((t.forget n).keeperUdp (f.l3 == 10) f.dip f.sip f.dst f.src (bytesBE 1 0x32 ++ bytesBE 1 2 ++ bytesBE 2 6 ++ bytesBE 4 0 ++
        bytesBE 2 (be16 (s.pkt n).parsed (o + 8)) ++ bytesBE 2 0 ++ bytesBE 1 14 ++ bytesBE 1 0)) := by
  have listed : (Sparse.find s.pkts n).isNone = false := Option.isNone_eq_false_iff.mpr hlisted
  change execEchoRequest n s = _
  simp only [execEchoRequest, listed, hstage, hstatus, hgtpu, hrate, bne_self_eq_false, Bool.or_self, Bool.false_eq_true, if_false]

end

section
variable {s t : State} {a : ErrInd} {rest : List ErrInd} (howed : s.ups.answers = a :: rest)
include howed

theorem exec_errorIndicationSend_of_beyond
    (hrate : ({ s with ups := { s.ups with answers := rest } }).takeAnswer 1 (s.rd Fld.UPS_RATE_CFG_ERRIND_RATE) = (t, false)) :
    exec .errorIndicationSend s = .next (t.bump .UPS_ERRIND_DROP) := by
  change execErrorIndicationSend s = _
  simp only [execErrorIndicationSend, howed, hrate]

/-- An Error Indication names the TEID and the N3 address of the packet it is owed for (R341). -/
theorem exec_errorIndicationSend_of_within
    (hrate : ({ s with ups := { s.ups with answers := rest } }).takeAnswer 1 (s.rd Fld.UPS_RATE_CFG_ERRIND_RATE) = (t, true)) :
    exec .errorIndicationSend s =
      let ab := if a.v6 then 16 else 4
      let port := s.rd Fld.PRS_UDP_PORTS_GTPU_PORT 0
      .next (t.keeperUdp a.v6 a.n3 a.peer port port (bytesBE 1 0x32 ++ bytesBE 1 26 ++ bytesBE 2 (12 + ab) ++ bytesBE 4 0 ++ bytesBE 4 0 ++
        bytesBE 1 16 ++ bytesBE 4 a.teid ++ bytesBE 1 133 ++ bytesBE 2 ab ++ bytesBE ab a.n3)) := by
  change execErrorIndicationSend s = _
  simp only [execErrorIndicationSend, howed, hrate]

end

/-- An End Marker is taken up: it leaves the list, and an identification of pipeline 0 is used. -/
def State.takeMarker (s : State) (m : EndMarker) : State :=
  { s with
    ups := { s.ups with markers := s.ups.markers.erase m }
    edt := { s.edt with ident := Sparse.put s.edt.ident 0 ((Sparse.get s.edt.ident 0 0 + 1) % 65536) 0 } }

theorem exec_endMarkerSend_of_none {s : State} (hnone : s.ups.markers.find? (fun m => decide (m.due ≤ s.now)) = none) :
    exec .endMarkerSend s = .next s := by
  change execEndMarkerSend s = _
  simp only [execEndMarkerSend, hnone]

section
variable {s : State} {m : EndMarker} (hdue : s.ups.markers.find? (fun m => decide (m.due ≤ s.now)) = some m)
include hdue

/-- A due End Marker whose next hop encapsulates nothing any more is dropped (R342). -/
theorem exec_endMarkerSend_of_bare
    (hbare : NextHop.TYPE.get (s.nhAt 0 m.nh) ≠ 1 ∨
      tplGtpu (Sparse.get (s.exm 0).tpls (NextHop.TEMPLATE.get (s.nhAt 0 m.nh)) 0) = false) :
    exec .endMarkerSend s = .next (s.takeMarker m) := by
  change execEndMarkerSend s = _
  simp only [execEndMarkerSend, hdue]
  exact if_neg fun ⟨htype, htpl⟩ => hbare.elim (· htype) (ne_true_of_eq_false · htpl)

/-- A due End Marker leaves as one packet of class EM_CLASS to the port of its next hop (R342). -/
theorem exec_endMarkerSend_of_encap (htype : NextHop.TYPE.get (s.nhAt 0 m.nh) = 1)
    (htpl : tplGtpu (Sparse.get (s.exm 0).tpls (NextHop.TEMPLATE.get (s.nhAt 0 m.nh)) 0) = true) :
    ∃ p : Packet, p.stage = .cells ∧ p.cls = s.rd Fld.UPS_CFG_EM_CLASS ∧ p.dest = .port (NextHop.PORT.get (s.nhAt 0 m.nh)) ∧
      exec .endMarkerSend s = .next { (s.takeMarker m).setPkt s.nextPkt p with nextPkt := s.nextPkt + 1 } := by
  change ∃ p : Packet, _ ∧ _ ∧ _ ∧ execEndMarkerSend s = _
  simp only [execEndMarkerSend, hdue]
  exact ⟨_, rfl, rfl, rfl, if_pos ⟨htype, htpl⟩⟩

end

theorem State.pkt_setPkt_self (s : State) (n : Nat) (p : Packet) : (s.setPkt n p).pkt n = p := Sparse.get_insert_self _ _ _ _

/-! ### The statement -/

/-- Settles O27: usage settles and is reported, packets are buffered, expire and are replayed, and GTP-U messages are sent or counted. -/
theorem usageAndBufferingComplete : Obligations.UsageAndBufferingComplete := by
  unfold Obligations.UsageAndBufferingComplete
  refine ⟨?settle, ?period, ?held, ?enqueue, ?expiry, ?replay, ?replayEnd, ?echo, ?errorIndication, ?noMarker, ?marker⟩
  case settle =>
    rintro i u b s v t hwaits hvalid hen hcharge rfl
    refine ⟨?_, ?_, ?_⟩
    · rintro rfl
      exact exec_usageSettle_of_stepOne hvalid hen hcharge hwaits
    all_goals
      rintro rfl hend
      exact exec_usageSettle_of_stepTwo hvalid hen hcharge hwaits (pair_eq_of_snd hend)
  case period => exact fun i u s hvalid hen hthresh hdue => exec_timeThresholdExpiry_of_due hvalid hen hthresh hdue
  case held =>
    rintro kind payload rest s t hheld rfl
    refine ⟨exec_reportRingSpace_of_full hheld, fun hspace hkind => ?_, fun hspace hkind => ?_⟩
    all_goals
      have written := exec_reportRingSpace_of_space hheld hspace
      simp only [hkind, if_true, if_false] at written
      exact written
  case enqueue =>
    rintro b rest s t u w hfirst rfl
    refine ⟨exec_bufferEnqueue_of_arriving hfirst, exec_bufferEnqueue_of_errored hfirst, fun hstatus hvalid =>
      ⟨exec_bufferEnqueue_of_limit hfirst hstatus hvalid, fun hbelow =>
        ⟨exec_bufferEnqueue_of_full hfirst hstatus hvalid hbelow, ?_⟩⟩⟩
    rintro hroom hcharge rfl
    have buffered := exec_bufferEnqueue_of_room hfirst hstatus hvalid hbelow hroom hcharge
    refine ⟨fun hquiet => buffered.trans (if_neg ?_), fun hnotify hfresh => buffered.trans (if_pos ?_)⟩
    · obtain hno | htold := hquiet
      · simp [hno]
      · simp [htold]
    · simp [hnotify, hfresh]
  case expiry =>
    rintro i limit old keep s rfl hold hkeep
    have expired := exec_bufferExpiry_eq hold hkeep
    exact ⟨fun hnone => expired.trans (if_pos (List.isEmpty_iff.mpr hnone)),
      fun hsome => expired.trans (if_neg (hsome ∘ List.isEmpty_iff.mp))⟩
  case replay =>
    rintro i n at_ rest p s t u hbuf hreplay hdue hcharge rfl rfl
    have sent := exec_replaySend_of_admitted hbuf hreplay hdue hcharge
    cases rest with
    | nil => exact ⟨fun _ => sent, fun hmore => absurd rfl hmore⟩
    | cons e more => exact ⟨fun hlast => absurd hlast (List.cons_ne_nil e more), fun _ => sent⟩
  case replayEnd =>
    exact fun i s hruns hempty => ⟨exec_replayEnd_of_done hruns hempty, exec_replayEnd_of_transit⟩
  case echo =>
    intro n o s t b hlisted hstage hstatus hgtpu hrate
    refine ⟨?_, ?_⟩ <;> rintro rfl
    · exact exec_echoRequest_of_beyond hlisted hstage hstatus hgtpu hrate
    · exact exec_echoRequest_of_within hlisted hstage hstatus hgtpu hrate
  case errorIndication =>
    intro a rest s t b howed hrate
    refine ⟨?_, ?_⟩
    · rintro rfl
      exact exec_errorIndicationSend_of_beyond howed hrate
    · rintro ab rfl rfl
      exact exec_errorIndicationSend_of_within howed hrate
  case noMarker => exact fun s => exec_endMarkerSend_of_none
  case marker =>
    refine fun m s hdue => ⟨fun hbare => ⟨_, exec_endMarkerSend_of_bare hdue hbare, rfl, rfl, rfl⟩, fun htype htpl => ?_⟩
    obtain ⟨p, hstage, hcls, hdest, hsent⟩ := exec_endMarkerSend_of_encap hdue htype htpl
    have listed : ((s.takeMarker m).setPkt s.nextPkt p).pkt s.nextPkt = p := State.pkt_setPkt_self _ _ _
    exact ⟨_, hsent, rfl, rfl, (congrArg Packet.stage listed).trans hstage, (congrArg Packet.cls listed).trans hcls,
      (congrArg Packet.dest listed).trans hdest⟩

end Sys2Proof.Machine
end

section
/-! PROOFS. CAPTURE_RECORD_WRITE of a copy that finds its ring full in STOP mode (R370): the state it leaves, its clause where each
capture port's buffer is listed once, and the refutation where one is listed twice. -/
namespace Sys2Proof.Machine

/-! ### A lost copy -/

/-- A packet that leaves the device leaves the editor's state. -/
theorem State.forget_edt (s : State) (n : Nat) : (s.forget n).edt = s.edt := by
  change (s.leaveSlot n).edt = s.edt
  unfold State.leaveSlot
  extract_lets p
  split <;> rfl

/-- The editor's state once the oldest copy in the buffer of a capture port, with `rest` behind it, is lost to a ring. -/
def Edt.loseCopy (x : Edt) (port ring : Nat) (rest : List Nat) : Edt :=
  { x with capBuf := Sparse.put x.capBuf port rest [], lost := Sparse.insert x.lost ring (min 65535 (Sparse.get x.lost ring 0 + 1)) }

section
variable {s : State} {port n : Nat} {rest : List Nat} {c : CapUse} {b : Bool} (hbuf : Sparse.get s.edt.capBuf port [] = n :: rest)
  (hcap : (s.pkt n).cap = some c) (hended : (s.pkt n).status = some b) (hfull : s.ringCap c.ring ≤ s.ringFill c.ring)
  (hstop : s.on Fld.EDT_CAP_RING_CTRL_MODE 0 c.ring = false)
include hbuf hcap hended hfull hstop

/-- In STOP mode the oldest copy of a capture port is lost to its full ring. -/
theorem exec_captureRecordWrite_of_full :
    ∃ t, exec (.captureRecordWrite port) s = .next t ∧ t.edt = s.edt.loseCopy port c.ring rest := by
  change ∃ t, execCaptureRecordWrite port s = .next t ∧ _
  simp only [execCaptureRecordWrite, hbuf, hcap, hended, hfull, hstop, and_self, if_true]
  exact ⟨_, rfl, by simp only [State.forget_edt, Edt.loseCopy]⟩

/-- Where each capture port's buffer is listed once, the copy leaves it, no record is written, and LOST of the ring goes up by one. -/
theorem exec_captureRecordWrite_of_wf_capBuf (hw : Sparse.wf s.edt.capBuf = true) :
    ∃ t, exec (.captureRecordWrite port) s = .next t ∧ Sparse.get t.edt.capBuf port [] = rest ∧ t.edt.ring = s.edt.ring ∧
      Sparse.get t.edt.lost c.ring 0 = min 65535 (Sparse.get s.edt.lost c.ring 0 + 1) := by
  obtain ⟨t, hexec, hedt⟩ := exec_captureRecordWrite_of_full hbuf hcap hended hfull hstop
  refine ⟨t, hexec, ?_⟩
  rw [hedt]
  exact ⟨Sparse.get_put_self port rest [] hw, rfl, Sparse.get_insert_self _ _ _ _⟩

end

/-! ### A buffer listed twice -/

/-- Ring 0, in STOP mode as after reset, has room for 1024 records and holds 1024 unread ones.  The buffer of the first capture port holds
one copy for it, packet 0, which has ended; in the table a second entry stands behind this buffer, with packet 1. -/
def captureTwiceListed : State :=
  let full := (State.reset.wr Fld.EDT_CAP_RING_CFG_COUNT_K 1).wr Fld.EDT_CAP_WR_WR 1024
  { full with
    pkts := [(0, { Packet.init with stage := .capture, cap := some ⟨0, 0, 0, 0⟩, status := some false })]
    edt := { full.edt with capBuf := [(0, [0]), (0, [1])] } }

/-- The loss of packet 0 empties the first entry, which erases it, so that the buffer is read from the second one. -/
theorem captureTwiceListed_uncovers : Sparse.get (captureTwiceListed.edt.loseCopy 0 0 []).capBuf 0 [] = [1] := rfl

/-- Refutes O28, in the second half of its clause (2): that half asks nothing of the table of capture buffers.  Where a capture port's
buffer is listed twice, the loss of the last copy of the first entry uncovers the second one, so that the buffer is not empty.
`exec_captureRecordWrite_of_wf_capBuf` is the same half where each buffer is listed once. -/
theorem not_editorAndCaptureComplete : ¬ Obligations.EditorAndCaptureComplete := by
  unfold Obligations.EditorAndCaptureComplete
  rintro ⟨-, captures, -⟩
  have hbuf : Sparse.get captureTwiceListed.edt.capBuf 0 [] = [0] := rfl
  have hcap : (captureTwiceListed.pkt 0).cap = some ⟨0, 0, 0, 0⟩ := rfl
  have hended : (captureTwiceListed.pkt 0).status = some false := rfl
  have hfull : captureTwiceListed.ringCap 0 ≤ captureTwiceListed.ringFill 0 := by decide +kernel
  have hstop : captureTwiceListed.on Fld.EDT_CAP_RING_CTRL_MODE 0 0 = false := by decide +kernel
  obtain ⟨t, hexec, hempty, -⟩ :=
    (captures 0 0 [] ⟨0, 0, 0, 0⟩ false captureTwiceListed captureTwiceListed hbuf hcap hended).2 hfull hstop
  obtain ⟨u, hlost, hedt⟩ := exec_captureRecordWrite_of_full hbuf hcap hended hfull hstop
  rw [hlost] at hexec
  injection hexec with same
  rw [← same, hedt, captureTwiceListed_uncovers] at hempty
  cases hempty

end Sys2Proof.Machine
end
